-- ==== Sys2Proof/Word.lean ====
section
/-! DEFINITION. The plain number and table types that every other file uses.
A register word is a bit vector; a register FIELD is the number it spells (a `Nat` kept below two to its
width); a sparse table is a list of key and value pairs with strictly rising keys. -/

namespace Sys2Proof

/-- A 32-bit register word (R511: one dword of the vendor window). -/
abbrev Word := BitVec 32

/-- One byte. -/
abbrev Byte := BitVec 8

/-- A sparse table from numbers to `α`: strictly rising keys (see `NMap.wf`). -/
abbrev NMap (α : Type) := List (Nat × α)

/-- The keys of the table rise strictly, so that a key stands at most once. -/
def NMap.sortedFrom {α : Type} : Nat → NMap α → Bool
  | _, [] => true
  | lo, (k, _) :: t => decide (lo ≤ k) && NMap.sortedFrom (k + 1) t

/-- The canonical form of a table: its keys rise strictly. -/
def NMap.wf {α : Type} (m : NMap α) : Bool := NMap.sortedFrom 0 m

end Sys2Proof
end

