-- ==== Sys2Proof/Config.lean ====
section
/-! DEFINITION. The free values: what the spec leaves open. Each is a constant without a body, so that no proof can see
which value it is; the log says which entry of notes/assumptions each belongs to. -/

namespace Sys2Proof

/-- A fresh value nothing constrains: applied to the counter `State.free`, which each use advances (random nonces and
keys of R148, R172, R296, R467, program counters of R450, undefined contents). -/
opaque Config.freeValue : Nat → Nat

/-- The square root that the estimator's firmware computes (R330, R331, R335, R384): the spec gives no number format. -/
opaque Config.sqrtQ : Rat → Rat

/-- Where the spec states no rounding of a number that a register shows: up or down (R347, R348). -/
opaque Config.roundsUp : Rat → Bool

/-- Beyond the ends of the OCV table, and of its slope at a table point, the spec states no value (R326, R330): what Lantern
takes, for the table's end value and the argument. -/
opaque Config.ocvBeyond : Rat → Rat → Rat

/-- The charger duty within the last 1 % of the target voltage, whose control gains the spec leaves open (R339): at most the
setpoint's duty. -/
opaque Config.chargeDuty : Nat → Rat → Nat

/-- The "Fused" fields of this chip (R11): the value its OTP was made with, by field key. -/
opaque Config.fused : Nat → Nat

/-- The device-unique key, 256 bits, which never leaves the die (R148). -/
opaque Config.deviceKey : Nat

end Sys2Proof
end

