-- ==== Sys2Proof/Machine/Maps.lean ====
section
/-! DEFINITION. The operations of a sparse table and of a sparse byte memory: look up, write, remove, and the
small list helpers the meanings share.  A write keeps the keys strictly rising; a byte memory lists no byte that
equals what an unlisted address reads as. -/

namespace Sys2Proof.Machine

/-- The canonical form of a sparse byte memory whose unlisted addresses read as zero: addresses rise strictly and no zero is
listed. -/
def Memory.wf (m : List Host.Cell) : Bool := NMap.wf m && m.all (fun c => c.2 != 0)

/-- The value at key `k`, if the table lists one. -/
def mget {α : Type} : NMap α → Nat → Option α
  | [], _ => none
  | (k', v) :: t, k => if k = k' then some v else mget t k

/-- The value at key `k`, or `d` where none is listed. -/
def mgetD {α : Type} (m : NMap α) (k : Nat) (d : α) : α := (mget m k).getD d

/-- List value `v` at key `k`. -/
def mset {α : Type} : NMap α → Nat → α → NMap α
  | [], k, v => [(k, v)]
  | (k', v') :: t, k, v =>
    if k < k' then (k, v) :: (k', v') :: t
    else if k = k' then (k, v) :: t
    else (k', v') :: mset t k v

/-- List nothing at key `k`. -/
def mdel {α : Type} : NMap α → Nat → NMap α
  | [], _ => []
  | (k', v') :: t, k => if k = k' then mdel t k else (k', v') :: mdel t k

/-- Write `v` at `k` in a table whose unlisted keys read as `d`: writing `d` removes the entry. -/
def mput {α : Type} [DecidableEq α] (d : α) (m : NMap α) (k : Nat) (v : α) : NMap α :=
  if v = d then mdel m k else mset m k v

/-- Keep the entries whose key and value satisfy `p`. -/
def mfilter {α : Type} (p : Nat → α → Bool) (m : NMap α) : NMap α := m.filter (fun e => p e.1 e.2)

/-- Apply `f` to every listed value. -/
def mmap {α β : Type} (f : Nat → α → β) (m : NMap α) : NMap β := m.map (fun e => (e.1, f e.1 e.2))

/-- How many entries satisfy `p`. -/
def mcount {α : Type} (p : Nat → α → Bool) (m : NMap α) : Nat := (mfilter p m).length

/-- Write the bytes `bs` at consecutive addresses from `a`. -/
def storeBytes (m : List Host.Cell) (a : Nat) : List Byte → List Host.Cell
  | [] => m
  | b :: bs => storeBytes (mput 0 m a b) (a + 1) bs

/-- The byte at address `a`; an unlisted address reads as zero. -/
def loadByte (m : List Host.Cell) (a : Nat) : Byte := mgetD m a 0

/-- The `n` bytes from address `a`. -/
def loadBytes (m : List Host.Cell) (a : Nat) : Nat → List Byte
  | 0 => []
  | n + 1 => loadByte m a :: loadBytes m (a + 1) n

/-- Write the bytes of `bs` whose enable is set, the i-th at `a + i`. -/
def storeEnabled (m : List Host.Cell) (a : Nat) : List Byte → List Bool → List Host.Cell
  | b :: bs, e :: es => storeEnabled (if e then mput 0 m a b else m) (a + 1) bs es
  | _, _ => m

/-- The listed cells of `[a, a + n)`, moved down to start at 0. -/
def sliceCells (m : List Host.Cell) (a n : Nat) : List Host.Cell :=
  (m.filter (fun c => decide (a ≤ c.1) && decide (c.1 < a + n))).map (fun c => (c.1 - a, c.2))

/-- Remove every listed cell of `[a, a + n)`. -/
def clearCells (m : List Host.Cell) (a n : Nat) : List Host.Cell :=
  m.filter (fun c => !(decide (a ≤ c.1) && decide (c.1 < a + n)))

/-- Write the cells `cs` (offsets below the range) at base `a`. -/
def pasteCells (m : List Host.Cell) (a : Nat) : List Host.Cell → List Host.Cell
  | [] => m
  | (o, b) :: cs => pasteCells (mput 0 m (a + o) b) a cs

/-- Replace `[a, a + n)` by the image `cs`. -/
def replaceCells (m : List Host.Cell) (a n : Nat) (cs : List Host.Cell) : List Host.Cell :=
  pasteCells (clearCells m a n) a (cs.filter (fun c => decide (c.1 < n)))

/-- The number that little-endian bytes spell. -/
def leNat : List Byte → Nat
  | [] => 0
  | b :: bs => b.toNat + 256 * leNat bs

/-- The `n` little-endian bytes of a number. -/
def natLe (v : Nat) : Nat → List Byte
  | 0 => []
  | n + 1 => BitVec.ofNat 8 v :: natLe (v / 256) n

/-- Bits `[lo, lo + w)` of a number. -/
def bitsOf (v lo w : Nat) : Nat := (v / 2 ^ lo) % 2 ^ w

/-- Bit `i` of a number. -/
def bitOf (v i : Nat) : Bool := (v / 2 ^ i) % 2 == 1

/-- One for true, zero for false. -/
def b2n (b : Bool) : Nat := if b then 1 else 0

/-- Add with a ceiling: a counter of a register saturates where its rule says so. -/
def satAdd (cap a b : Nat) : Nat := Nat.min cap (a + b)

/-- Replace the element at place `i` of a list. -/
def lset {α : Type} : List α → Nat → α → List α
  | [], _, _ => []
  | _ :: t, 0, v => v :: t
  | h :: t, i + 1, v => h :: lset t i v

/-- Apply `f` to the element at place `i` of a list. -/
def lupd {α : Type} : List α → Nat → (α → α) → List α
  | [], _, _ => []
  | h :: t, 0, f => f h :: t
  | h :: t, i + 1, f => h :: lupd t i f

/-- The element at place `i`, or `d`. -/
def lget {α : Type} (l : List α) (i : Nat) (d : α) : α := l.getD i d

/-- Round up to the next multiple of one: `⌈a / b⌉`. -/
def ceilDiv (a b : Nat) : Nat := if b = 0 then 0 else (a + b - 1) / b

end Sys2Proof.Machine
end

