-- ==== Sys2Proof/Machine/Fields.lean ====
section
/-! DEFINITION. What a register field is (R8–R11): its place in the vendor window, its access code and its reset
value; and the fourteen blocks of the window (R510). -/

namespace Sys2Proof.Machine

/-- The access codes of R9. -/
inductive Access where
  | ro | rw | rwl | w1c | w1s | rc | wo
deriving DecidableEq, Repr

/-- One field of one register: the BAR0 offset of the register (of its low dword), the field's highest and lowest
bit, its access code, its reset value, whether it is an "img" field (R11), and the least and greatest value a
write may give it where the register's rule says that a write outside the range is ignored. -/
structure Fld where
  off : Nat
  hi  : Nat
  lo  : Nat
  acc : Access
  rst : Nat
  img : Bool
  min : Nat
  max : Nat
deriving DecidableEq, Repr

/-- The width of a field in bits. -/
def Fld.width (f : Fld) : Nat := f.hi + 1 - f.lo

/-- The key of a field in the register file: its place and its width. -/
def Fld.key (f : Fld) : Nat := f.off * 4096 + f.lo * 64 + (f.width - 1)

/-- The BAR0 offset that a register-file key spells. -/
def keyOff (k : Nat) : Nat := k / 4096

/-- A field with a numeric reset value. -/
def fld (off hi lo : Nat) (acc : Access) (rst : Nat) : Fld :=
  ⟨off, hi, lo, acc, rst, false, 0, 2 ^ (hi + 1 - lo) - 1⟩

/-- An "img" field: 0 until the image is loaded (R11). -/
def fldI (off hi lo : Nat) (acc : Access) : Fld := ⟨off, hi, lo, acc, 0, true, 0, 2 ^ (hi + 1 - lo) - 1⟩

/-- An "img" field that does not read 0 before it is loaded (R356). -/
def fldIR (off hi lo : Nat) (acc : Access) (rst : Nat) : Fld :=
  ⟨off, hi, lo, acc, rst, true, 0, 2 ^ (hi + 1 - lo) - 1⟩

/-- An "img" RWL field whose out-of-range writes are ignored. -/
def fldR (off hi lo min max : Nat) : Fld := ⟨off, hi, lo, .rwl, 0, true, min, max⟩

/-- One register: the BAR0 offset of its (low) dword, whether it is 64 bits wide, and its fields. -/
structure RegRow where
  off  : Nat
  wide : Bool
  flds : List Fld
deriving DecidableEq, Repr

/-- The fourteen blocks of the vendor window, in the order of R510. -/
inductive Block where
  | sys | clk | pwr | sup | lan | umb | vlt | grt | flc | dmc | ech | evr | cfg | wdt
deriving DecidableEq, Repr

/-- The place of a block in the window. -/
def Block.index : Block → Nat
  | .sys => 0 | .clk => 1 | .pwr => 2 | .sup => 3 | .lan => 4 | .umb => 5 | .vlt => 6 | .grt => 7
  | .flc => 8 | .dmc => 9 | .ech => 10 | .evr => 11 | .cfg => 12 | .wdt => 13

/-- All blocks in order. -/
def Block.all : List Block :=
  [.sys, .clk, .pwr, .sup, .lan, .umb, .vlt, .grt, .flc, .dmc, .ech, .evr, .cfg, .wdt]

/-- The BAR0 base of a block (R510). -/
def Block.base (b : Block) : Nat := 0x100000 + 0x10000 * b.index

/-- The block a BAR0 offset falls in. -/
def Block.ofOff (o : Nat) : Option Block :=
  if o < 0x100000 then none else Block.all[(o - 0x100000) / 0x10000]?

end Sys2Proof.Machine
end

