-- ==== Sys2Proof/Machine/Types.lean ====
section
/-! DEFINITION. The small types that the commands and the state share: ports, requesters, power domains, leave
operations, owners. -/

namespace Sys2Proof.Machine

/-- The two host ports (R475). -/
inductive Port where
  | a | b
deriving DecidableEq, Repr

/-- Port A carries controller 0, port B controller 1 (R478). -/
def Port.idx : Port → Nat
  | .a => 0 | .b => 1

/-- The other port. -/
def Port.other : Port → Port
  | .a => .b | .b => .a

/-- The nine requesters of the vendor window (R513). -/
inductive Requester where
  | cp0 | cp1 | cp2 | cp3 | aon | portA | portB | smbus | uart
deriving DecidableEq, Repr

/-- The place of a requester in the list of R513. -/
def Requester.idx : Requester → Nat
  | .cp0 => 0 | .cp1 => 1 | .cp2 => 2 | .cp3 => 3 | .aon => 4 | .portA => 5 | .portB => 6 | .smbus => 7 | .uart => 8

/-- The requester code of PWR_OFFACC (R400) and of the access events (R451). -/
def Requester.code : Requester → Nat
  | .cp0 => 0 | .cp1 => 1 | .cp2 => 2 | .cp3 => 3 | .aon => 4 | .portA => 5 | .portB => 5 | .smbus => 6 | .uart => 7

/-- The host port a requester is. -/
def Requester.port : Requester → Option Port
  | .portA => some .a | .portB => some .b | _ => none

/-- The requester that a host port is. -/
def Port.req : Port → Requester
  | .a => .portA | .b => .portB

/-- The power domains, numbered as R397 numbers them. -/
inductive Domain where
  | aon | sup | ctrl | fab | dram | nand | host | echo
deriving DecidableEq, Repr

/-- The number of a domain (R397). -/
def Domain.idx : Domain → Nat
  | .aon => 0 | .sup => 1 | .ctrl => 2 | .fab => 3 | .dram => 4 | .nand => 5 | .host => 6 | .echo => 7

/-- All domains by number. -/
def Domain.all : List Domain := [.aon, .sup, .ctrl, .fab, .dram, .nand, .host, .echo]

/-- The domain that a block lies in (R510). -/
def Block.domain : Block → Domain
  | .sys | .clk | .pwr | .evr | .cfg | .wdt => .aon
  | .sup | .lan => .sup
  | .umb | .vlt => .fab
  | .grt => .ctrl
  | .flc => .nand
  | .dmc => .dram
  | .ech => .echo

/-- The condition of a power domain (R377, R390). -/
inductive DomSt where
  | off | on | retained | held
deriving DecidableEq, Repr

/-- The leave classes of R27, highest priority first. -/
inductive LeaveClass where
  | vault | bringUp | seep | gc | ledger | learn
deriving DecidableEq, Repr

/-- The priority of a leave class: 1 is highest (R27). -/
def LeaveClass.prio : LeaveClass → Nat
  | .vault => 1 | .bringUp => 2 | .seep => 3 | .gc => 4 | .ledger => 5 | .learn => 6

/-- The operations that must hold a grant before they start (R27). -/
inductive LeaveOp where
  | vaultProgram (lun : Nat)
  | vaultErase (lun : Nat)
  | training (ch : Nat)
  | phyHost (p : Port)
  | phyEcho
  | seepStripe
  | gcStripe
  | gcErase (lun : Nat)
  | bbPage
  | ledgerProgram (lun : Nat)
  | ledgerErase (lun : Nat)
  | learnCycle (port : Nat)
deriving DecidableEq, Repr

/-- The class of a leave operation (R27; black-box pages take GC-class leave, R458). -/
def LeaveOp.cls : LeaveOp → LeaveClass
  | .vaultProgram _ | .vaultErase _ => .vault
  | .training _ | .phyHost _ | .phyEcho => .bringUp
  | .seepStripe => .seep
  | .gcStripe | .gcErase _ | .bbPage => .gc
  | .ledgerProgram _ | .ledgerErase _ => .ledger
  | .learnCycle _ => .learn

/-- The owner of a write or of a granule: member A or member B of the pair. -/
inductive Owner where
  | a | b
deriving DecidableEq, Repr

/-- The owner's number on the link and in records: 0 for A, 1 for B. -/
def Owner.idx : Owner → Nat
  | .a => 0 | .b => 1

/-- The other owner. -/
def Owner.other : Owner → Owner
  | .a => .b | .b => .a

/-- Who sent an NVMe admin command: a host port's controller, or the NVMe-MI endpoint tunnelling to one (R506). -/
inductive AdminReq where
  | host (p : Port)
  | mi (ctrl : Port)
deriving DecidableEq, Repr

/-- The requester an admin command counts as (R487, R506). -/
def AdminReq.requester : AdminReq → Requester
  | .host p => p.req
  | .mi _ => .smbus

/-- The controller an admin command addresses. -/
def AdminReq.ctrl : AdminReq → Port
  | .host p => p
  | .mi p => p

/-- The identity of an NVMe command: its submission queue and its command identifier. -/
structure CmdId where
  sq  : Nat
  cid : Nat
deriving DecidableEq, Repr

/-- What the link layer finds of a received Echo frame (R293, R301): the LSEQ it carries, whether its tag verifies, and
whether it is malformed under R288. -/
structure Rx where
  lseq : Nat
  tagOk : Bool
  malformed : Bool
deriving DecidableEq, Repr

/-- One region block of a VINFO frame (R309). -/
structure VBlock where
  vault    : Nat
  outcome  : Nat
  manDone  : Bool
  live     : Bool
  lastSeq  : Nat
  epoch    : Nat
  poisoned : Nat
  digest   : Nat
deriving DecidableEq, Repr

/-- A block that speaks of no copy. -/
def VBlock.none : VBlock := ⟨0, 0, false, false, 0, 0, 0, 0⟩

end Sys2Proof.Machine
end

