-- ==== Sys2Proof/Machine/State/Nor.lean ====
section
/-! DEFINITION. What the SPI NOR's training and configuration areas hold of an item: two copies (R406, R408). -/

namespace Sys2Proof.Machine

/-- One copy (R408): its 64-bit sequence, whether its CRC-32C holds, the content. -/
structure NorCopy (α : Type) where
  seq   : Nat
  crcOk : Bool
  body  : α
deriving DecidableEq, Repr

/-- The two copies of an item, the lower-addressed first (R406, R408). -/
structure CopyPair (α : Type) where
  low  : Option (NorCopy α)
  high : Option (NorCopy α)
deriving DecidableEq, Repr

/-- Both places erased. -/
def CopyPair.blank (α : Type) : CopyPair α := ⟨none, none⟩

end Sys2Proof.Machine
end

