-- ==== Sys2Proof/Machine/State/Dram.lean ====
section
/-! DEFINITION. The state of the DRAM controller (R223–R283) beside its registers: the pool, the banks, the subchannels,
refresh, the symbol code's stored errors, position counters, row-hammer tables, training, freeze. -/

namespace Sys2Proof.Machine

/-- The five requester ports of the DRAM controller. -/
inductive DPort where
  | host | echo | rt | bg | cpu
deriving DecidableEq, Repr

/-- The number of a requester port in DMC_RH_LAST and DMC_FRZ_INFO. -/
def DPort.idx : DPort → Nat
  | .host => 0 | .echo => 1 | .rt => 2 | .bg => 3 | .cpu => 4

/-- All requester ports. -/
def DPort.all : List DPort := [.host, .echo, .rt, .bg, .cpu]

/-- What a burst request does (R234). A partial write is a read, a merge and a write; once its read has issued, its write
stands as `mergedWrite`. -/
inductive DKind where
  | read | write | partialWrite | mergedWrite
deriving DecidableEq, Repr

/-- The DRAM fields of a burst (R226, R227). -/
structure DAddr where
  ch  : Nat
  sc  : Nat
  rk  : Nat
  bg  : Nat
  ba  : Nat
  row : Nat
  col : Nat
deriving DecidableEq, Repr

/-- A burst request (R229): port, kind, cache address of the burst, its DRAM fields, order of entry, time of arrival. -/
structure DReq where
  port : DPort
  kind : DKind
  burst : Nat
  dst  : DAddr
  id   : Nat
  ns   : Nat
deriving DecidableEq, Repr

/-- An entry of an activate table (R262): row, count, tally of the five ports. -/
structure ActEnt where
  row   : Nat
  count : Nat
  tally : List Nat
deriving DecidableEq, Repr

/-- A bank (R230–R233, R262). -/
structure Bank where
  openRow : Option Nat
  hits    : Nat
  /-- In-order mode (R233): the requests that were waiting when it began; empty outside the mode. -/
  inOrder : List Nat
  acts    : List ActEnt
  spill   : Nat
  /-- Ports throttled on this bank until the window ends, with the time of each one's last activate (R263). -/
  throttled : List (DPort × Nat)
deriving DecidableEq, Repr

/-- A closed bank. -/
def Bank.init : Bank := ⟨none, 0, [], [], 0, []⟩

/-- A subchannel (R230, R232, R243). -/
structure SubCh where
  writeMode : Bool
  pick      : Nat
  /-- Weighted-sharing credits of the five ports (R235). -/
  credits   : List Nat
  /-- Ranks in power-down. -/
  pdown     : List Nat
  /-- Column slots since the last that a panic gave to the other ports (R238). -/
  since     : Nat
deriving DecidableEq, Repr

/-- An idle subchannel. -/
def SubCh.init : SubCh := ⟨false, 0, [0, 0, 0, 0, 0], [], 0⟩

/-- The counters of one position (R260). -/
structure Position where
  bucket   : Nat
  total    : Nat
  degraded : Bool
deriving DecidableEq, Repr

/-- A position without corrections. -/
def Position.init : Position := ⟨0, 0, false⟩

/-- A burst's stored error: for each of the 16 beats, how the stored ten symbols differ from the code word written, as a
40-bit number. -/
abbrev BurstErr := List Nat

/-- A training set (R265): its rate (R248) and geometry, and the delays, Vref and DFE taps and reference counts of every
channel, rank and device, which stand as one free value. -/
structure TrainSet where
  rate : Nat
  geom : Nat
  vals : Nat
deriving DecidableEq, Repr

/-- The DRAM controller. -/
structure Dram where
  pool     : List DReq
  nextId   : Nat
  /-- Requests waiting at their port for a pool entry (R229). -/
  waiting  : List DReq
  banks    : NMap Bank
  subs     : NMap SubCh
  /-- Panic direction (R237): 0 none, 1 dump, 2 restore; when it began. -/
  panicDir : Nat
  panicStart : Nat
  /-- MR4 readings in a row with every device at the normal rate (R240). -/
  mr4Normal : Nat
  /-- Stored errors by burst address (R255, R278). -/
  errs     : NMap BurstErr
  /-- Position counters by ((CH × 2 + SC) × 2 + RK) × 10 + POS (R260). -/
  pos      : NMap Position
  /-- The rewrite queue, at most 64 bursts (R259). -/
  rewrites : List Nat
  scrubAt  : Nat
  /-- Training sets in AON and in the NOR's training area (R265); steps of drift of the AON set from the NOR set and when the NOR
  set was last written (R267). -/
  setsAon  : List TrainSet
  trainNor : CopyPair (List TrainSet)
  drift    : Nat
  norAt    : Option Nat
  /-- A clock change waits for its deferral (R268). -/
  clockWait : Option Nat
  selfRefresh : Bool
  /-- Frozen channels that the peer's copy covers (R274). -/
  covered  : List Nat
  /-- Own granules written while covered and not stored, and those of withdrawn writes (R275). -/
  lossList : List Nat
  /-- The freeze record in AON and in the NOR's configuration area (R271, R276): the channels frozen. -/
  freezeRec : List Nat
  freezeNor : CopyPair (List Nat)
deriving DecidableEq, Repr

/-- The controller at power-on. -/
def Dram.init : Dram :=
  { pool := [], nextId := 0, waiting := [], banks := [], subs := [], panicDir := 0, panicStart := 0,
    mr4Normal := 0, errs := [], pos := [], rewrites := [], scrubAt := 0, setsAon := [], trainNor := CopyPair.blank _, drift := 0,
    norAt := none, clockWait := none, selfRefresh := false, covered := [], lossList := [], freezeRec := [],
    freezeNor := CopyPair.blank _ }

end Sys2Proof.Machine
end

