-- ==== Sys2Proof/Machine/State/Echo.lean ====
section
/-! DEFINITION. The state of the Echo port (R284–R321) beside its registers: the handshake, the link layer, the stream
this member sends as owner, the stream it stores as mirror holder, resync, forwarding and restore across the pair. -/

namespace Sys2Proof.Machine

/-- What a HELLO frame carries (R296). -/
structure Hello where
  nonce   : Nat
  proto   : Nat
  owner   : Nat
  stepping : Nat
  resume  : Bool
  cap     : Nat
  uid     : Nat
  pairId  : Nat
  session : Nat
deriving DecidableEq, Repr

/-- A frame kept for replay (R293): link sequence, type, FLAGS, ARG0, payload. -/
structure SentFrame where
  lseq    : Nat
  ty      : Nat
  flags   : Nat
  arg     : Nat
  payload : List Byte
deriving DecidableEq, Repr

/-- A forwarded read awaiting its data (R304). -/
structure Fwd where
  tag  : Nat
  port : Port
  off  : Nat
  len  : Nat
  got  : List Byte
deriving DecidableEq, Repr

/-- A forwarded read of the peer that waits for ORDER_SEQ to be stored (R304). -/
structure FwdIn where
  tag   : Nat
  off   : Nat
  len   : Nat
  order : Nat
deriving DecidableEq, Repr

/-- A granule request awaiting its parts (R312). -/
structure GReq where
  tag     : Nat
  gran    : Nat
  purpose : Nat
  parts   : NMap (List Byte)
deriving DecidableEq, Repr

/-- A mirror write received that waits for a merge-queue entry (R128): its cache granule, its offset there, data, byte enables,
its sequence and epoch, the words of its frame header, and the credit units that it still takes. -/
structure MirWrite where
  gran  : Nat
  off   : Nat
  data  : List Byte
  be    : List Bool
  seq   : Nat
  epoch : Nat
  hdr   : List Nat
  units : Nat
deriving DecidableEq, Repr

/-- A mirror write sent and not yet acknowledged (R290, R294). -/
structure SentWrite where
  seq  : Nat
  zone : Nat
deriving DecidableEq, Repr

/-- The Echo port. -/
structure Echo where
  /-- The handshake (R296): own nonce, the HELLO received, whether the peer's PROOF verified. -/
  nonce     : Nat
  hello     : Option Hello
  proofOk   : Bool
  /-- The last session number, the stored peer identity in AON and in the NOR (R297). -/
  session   : Nat
  peerId    : Option Nat
  peerNor   : CopyPair Nat
  /-- This start is warm: HELLO carries RESUME (R298); the present session resumes an earlier one. -/
  resume    : Bool
  resumed   : Bool
  /-- Training attempts failed in a row (R286); the causes of a refusal already recorded (R297). -/
  failsRow  : Nat
  refused   : List Nat
  /-- Link layer (R293, R294): next link sequence to send and to accept, control counters, replay buffer, the peer's
  freed credits, the 64-byte units sent, the units freed to the peer, failures in a row of one LSEQ, frames to acknowledge, and
whether frames are discarded until the one of the LSEQ named arrives. -/
  sendSeq   : Nat
  expSeq    : Nat
  ctlSent   : Nat
  ctlSeen   : Nat
  replay    : List SentFrame
  peerFreed : Nat
  unitsSent : Nat
  freed     : Nat
  nakRow    : Nat
  lastNak   : Nat
  ackDue    : Bool
  discarding : Bool
  /-- Owner stream sent (R289–R291, R295). -/
  unacked   : List SentWrite
  mwrSent   : Nat
  dirtied   : Nat
  epochHist : List (Nat × Nat)
  nsSeqs    : List Nat
  allowTotal : Nat
  rsSent    : Nat
  rsAcked   : Nat
  /-- The peer's stream stored (R289, R290, R301): the epoch in force; the next EPOCH frame may carry any epoch; the first
  MWR after it may carry any sequence above the last stored; the sequence expected; acknowledgements due of each kind. -/
  peerEpoch : Option Nat
  epochFree : Bool
  restart   : Bool
  expWrite  : Nat
  ownDirtied : Nat
  rsStored  : Nat
  pendAck   : Nat
  pendRs    : Nat
  mwrWait   : List MirWrite
  /-- STATE words (R292). -/
  peerState : Nat
  lastState : Nat
  goingDown : Bool
  detaching : Bool
  /-- The resync map (R305): zones marked one by one, and every zone from `allFrom` on. -/
  zones     : NMap Nat
  allFrom   : Option Nat
  /-- Resync sent (R306–R308): running, next granule to read, granules of this resync, S_END once END is sent. -/
  rsActive  : Bool
  rsNext    : Nat
  rsCount   : Nat
  rsEnd     : Option Nat
  /-- Resync received: between BEGIN and END. -/
  peerRs    : Bool
  rsParts   : NMap (NMap (List Byte))
  /-- Forwarded reads, sent and received (R304); reads that wait for a free one. -/
  fwds      : List Fwd
  fwdIn     : List FwdIn
  fwdWait   : List (Port × Nat × Nat)
  greqs     : List GReq
  greqIn    : List (Nat × Nat × Nat)
  nextTag   : Nat
  /-- Restore across the pair (R309, R310): the mirror follows the peer's stream since this member's restore, so it counts as
  LIVE; VINFO sent in this session; blocks sent and received, the version table wanted, chunks received. -/
  mirLive   : Bool
  vinfoSent : Bool
  vinfoOwn  : Option (VBlock × VBlock)
  vinfoPeer : Option (VBlock × VBlock)
  needVtab  : Bool
  vtab      : NMap Nat
  vtabNext  : Nat
  /-- Lapses within 60 s and misbehaviours within 24 h, by operating second (R300, R302). -/
  lapses    : List Nat
  misbs     : List Nat
  heldUntilRejoin : Bool
  /-- DETACHED, as PD_AON holds it until a Rejoin or a cold start (R313). -/
  detachedAon : Bool
  /-- No resync has been acknowledged since the restore, or since a new peer identity was stored (R307). -/
  needFull  : Bool
  newPeer   : Bool
deriving DecidableEq, Repr

/-- The Echo port at power-on: the first resync after a cold start covers every zone (R305). -/
def Echo.init : Echo :=
  { nonce := 0, hello := none, proofOk := false, session := 0, peerId := none, peerNor := CopyPair.blank _, resume := false,
    resumed := false, failsRow := 0, refused := [], sendSeq := 0, expSeq := 0, ctlSent := 0, ctlSeen := 0, replay := [],
    peerFreed := 0,
    unitsSent := 0, freed := 0, nakRow := 0, lastNak := 0, ackDue := false, discarding := false,
    unacked := [], mwrSent := 0, dirtied := 0, epochHist := [],
    nsSeqs := [], allowTotal := 0, rsSent := 0, rsAcked := 0, peerEpoch := none, epochFree := true, restart := true,
    expWrite := 0, ownDirtied := 0, rsStored := 0, pendAck := 0, pendRs := 0, mwrWait := [], peerState := 0, lastState := 0,
    goingDown := false, detaching := false, zones := [], allFrom := some 0, rsActive := false, rsNext := 0, rsCount := 0,
    rsEnd := none, peerRs := false, rsParts := [], fwds := [], fwdIn := [], fwdWait := [], greqs := [], greqIn := [],
    nextTag := 1,
    mirLive := false, vinfoSent := false, vinfoOwn := none, vinfoPeer := none, needVtab := false, vtab := [],
    vtabNext := 0, lapses := [], misbs := [],
    heldUntilRejoin := false, detachedAon := false, needFull := true, newPeer := false }

/-- The session counters and queues as a new session starts them (R291, R293). -/
def Echo.newSession (e : Echo) : Echo :=
  { e with sendSeq := 0, expSeq := 0, ctlSent := 0, ctlSeen := 0, replay := [], peerFreed := 0, unitsSent := 0, freed := 0,
           nakRow := 0, lastNak := 0, ackDue := false, discarding := false, unacked := [], mwrSent := 0, dirtied := 0,
           nsSeqs := [], allowTotal := 0,
           rsSent := 0, rsAcked := 0, peerEpoch := none, epochFree := true, restart := true, ownDirtied := 0, rsStored := 0,
           pendAck := 0, pendRs := 0, mwrWait := [], rsActive := false, rsEnd := none, peerRs := false, rsParts := [],
           fwdIn := [], greqs := [], greqIn := [], vinfoSent := false, vinfoPeer := none }

end Sys2Proof.Machine
end

