-- ==== Sys2Proof/Machine/State/Host.lean ====
section
/-! DEFINITION. The state of the host side (R475–R508): the two PCIe functions with their NVMe controllers and
queues, the SMBus endpoint and indirect window, the register latches of R513, and the record of what the block has
sent to the outside. -/

namespace Sys2Proof.Machine

/-- How a completion TLP ends. -/
inductive CplStatus where
  | success | unsupported | abort
deriving DecidableEq, Repr

/-- What the block sends out. The model keeps what has been sent in order, so that a statement can speak of it. -/
inductive Out where
  /-- A completion TLP on a host port, with its data and its EP bit (R53). -/
  | cpl (p : Port) (st : CplStatus) (ep : Bool) (data : List Byte)
  /-- An error reported through AER on a host port: the bit of the uncorrectable status register. -/
  | aer (p : Port) (bit : Nat)
  /-- An MSI-X message. -/
  | msix (p : Port) (vec : Nat)
  /-- An NVMe completion queue entry: controller, queue, command, status code type, status code, DW0, phase. -/
  | cqe (p : Port) (cq : Nat) (id : CmdId) (sct sc dw0 : Nat) (phase : Bool)
  /-- A tunnelled NVMe-MI response: status code type, status code, DW0. -/
  | miResp (sct sc dw0 : Nat)
  /-- Data moved to host memory or to the MI requester by a command. -/
  | data (r : Requester) (bytes : List Byte)
  /-- A read of host memory (R477). -/
  | hostRead (p : Port) (addr len : Nat)
  /-- A register read's answer, with the bus-error flag of R394. -/
  | reg (r : Requester) (val : Nat) (err : Bool)
  /-- An Echo frame: type code, header fields, payload. -/
  | frame (ty : Nat) (fields : List Nat) (payload : List Byte)
  /-- An SMBus answer. -/
  | smb (bytes : List Byte)
  /-- The SMBus address or command was not acknowledged. -/
  | smbNak
  /-- A console line: what it prints, as numbers in the order of R508. -/
  | uart (vals : List Nat)
  /-- A flash command issued on a LUN: opcode, block, page. -/
  | flash (lun op block page : Nat)
  /-- The SLC prefix command byte before a Grotto operation on a LUN (R182). -/
  | flashPrefix (lun byte : Nat)
  /-- What the flash kernel moves to a buffer at a fabric address (R196). -/
  | dma (addr : Nat) (bytes : List Byte)
  /-- A DRAM command on a subchannel: command code, rank, bank, row or column. -/
  | dram (sub cmd rank bank arg : Nat)
deriving DecidableEq, Repr

/-- An I/O or admin submission queue. -/
structure SubQ where
  base : Nat
  size : Nat
  cq   : Nat
  prio : Nat
  head : Nat
  tail : Nat
deriving DecidableEq, Repr

/-- A completion queue. -/
structure CompQ where
  base  : Nat
  size  : Nat
  vec   : Nat
  ien   : Bool
  head  : Nat
  tail  : Nat
  phase : Bool
deriving DecidableEq, Repr

/-- One entry of the Error Information log (R480). -/
structure ErrEntry where
  count : Nat
  id    : CmdId
  sct   : Nat
  sc    : Nat
deriving DecidableEq, Repr

/-- A command that has started and not completed. -/
structure Outstanding where
  id   : CmdId
  /-- The opcode, admin opcodes from 0 and I/O opcodes from 256. -/
  op   : Nat
  /-- Whether a read of host memory is open for it (R477). -/
  fetch : Bool
deriving DecidableEq, Repr

/-- An NVMe controller (R478–R487). -/
structure Nvme where
  en     : Bool
  cc     : Nat
  shn    : Nat
  rdy    : Bool
  shst   : Nat
  cfs    : Bool
  aqa    : Nat
  asq    : Nat
  acq    : Nat
  intms  : Nat
  sqs    : NMap SubQ
  cqs    : NMap CompQ
  ps     : Nat
  feats  : NMap Nat
  /-- Asynchronous Event Requests held (R503). -/
  aers   : List CmdId
  /-- Asynchronous events waiting for a request: DW0. -/
  events : List Nat
  /-- Asynchronous event log pages reported and not yet read. -/
  masked : List Nat
  errs   : List ErrEntry
  outs   : List Outstanding
  /-- Submission queue entries being fetched: queue and slot. -/
  fetches : List (Nat × Nat)
deriving DecidableEq, Repr

/-- A controller after reset. -/
def Nvme.init : Nvme :=
  { en := false, cc := 0, shn := 0, rdy := false, shst := 0, cfs := false, aqa := 0, asq := 0, acq := 0, intms := 0,
    sqs := [], cqs := [], ps := 0, feats := [], aers := [], events := [], masked := [], errs := [], outs := [],
    fetches := [] }

/-- A host port with its PCIe function (R475–R477). -/
structure HostPort where
  linkUp  : Bool
  inL1    : Bool
  l1En    : Bool
  mse     : Bool
  bme     : Bool
  msixEn  : Bool
  msixFm  : Bool
  /-- Unmasked MSI-X vectors. -/
  unmasked : List Nat
  /-- MSI-X pending bits. -/
  pba     : List Nat
  ecrcChk : Bool
  ecrcGen : Bool
  aerUnc  : Nat
  aerMask : Nat
  linkSt  : Nat
  /-- PMRCTL.EN (R58). -/
  pmrEn   : Bool
  /-- The addresses written to the six BAR dwords (R476). -/
  bars    : List Nat
  nvme    : Nvme
deriving DecidableEq, Repr

/-- A port after a Conventional Reset, its link down. -/
def HostPort.init : HostPort :=
  { linkUp := false, inL1 := false, l1En := false, mse := false, bme := false, msixEn := false, msixFm := false,
    unmasked := [], pba := [], ecrcChk := false, ecrcGen := false, aerUnc := 0, aerMask := 0, linkSt := 0, pmrEn := false,
    bars := [0, 0, 0, 0, 0, 0], nvme := Nvme.init }

/-- What R513 keeps of a requester: the low dword read last (if the previous access was one), the latch, the held
low dword of a write. -/
structure RegPort where
  lastLow : Option Nat
  latch   : Nat
  held    : Option (Nat × Nat)
deriving DecidableEq, Repr

/-- A requester that has made no access. -/
def RegPort.init : RegPort := ⟨none, 0, none⟩

/-- The SMBus side: the MCTP endpoint (R505–R507) and the indirect window (R518–R520). -/
structure Smbus where
  eid     : Nat
  freq    : Nat
  mtu     : Nat
  addr    : Nat
  autoInc : Bool
  pecReq  : Bool
  status  : Nat
  /-- Values held from the DEEP entry (R507): status flags, warnings, temperature, Percentage Used. -/
  heldHealth : List Nat
deriving DecidableEq, Repr

/-- The SMBus side when PD_SUP comes up: CTRL resets to 0x02 (R518). -/
def Smbus.init : Smbus :=
  { eid := 0, freq := 1, mtu := 64, addr := 0, autoInc := false, pecReq := true, status := 0, heldHealth := [0, 0, 0, 0] }

/-- A vendor or format command whose completion comes later (R485, R491, R492). -/
structure Waiting where
  req  : AdminReq
  id   : CmdId
  kind : Nat
deriving DecidableEq, Repr

/-- SMART counters that no register holds (R502). -/
structure Smart where
  unitsRead    : Nat
  unitsWritten : Nat
  readCmds     : Nat
  writeCmds    : Nat
  unsafeDowns  : Nat
  mediaErrs    : Nat
  errEntries   : Nat
  /-- Milliseconds above the warning and the critical composite temperature (R502). -/
  warnMs       : Nat
  critMs       : Nat
deriving DecidableEq, Repr

/-- All SMART counters zero. -/
def Smart.init : Smart := ⟨0, 0, 0, 0, 0, 0, 0, 0, 0⟩

/-- A log page snapshot (R496): its requester, page (and area, for page 0xC3), operating second and bytes. -/
structure Snap where
  req   : Requester
  page  : Nat
  time  : Nat
  bytes : List Byte
deriving DecidableEq, Repr

/-- The host side. -/
structure HostSide where
  portA   : HostPort
  portB   : HostPort
  latches : List RegPort
  smb     : Smbus
  waiting : List Waiting
  snaps   : List Snap
  smart   : Smart
  /-- The SMART critical warning bits as last reported (R503). -/
  warn    : Nat
  /-- PMR writes discarded under R34 since start (R497). -/
  discarded : Nat
deriving DecidableEq, Repr

/-- Both ports down, nothing latched. -/
def HostSide.init : HostSide :=
  { portA := HostPort.init, portB := HostPort.init,
    latches := [RegPort.init, RegPort.init, RegPort.init, RegPort.init, RegPort.init, RegPort.init, RegPort.init,
      RegPort.init, RegPort.init],
    smb := Smbus.init, waiting := [], snaps := [], smart := Smart.init, warn := 0, discarded := 0 }

end Sys2Proof.Machine
end

