-- ==== Sys2Proof/Machine/State/Lantern.lean ====
section
/-! DEFINITION. The state of Lantern (R322–R343, R555, R556) beside its registers: module profiles, the estimator of
each module, rest windows and learn cycles. -/

namespace Sys2Proof.Machine

/-- A module profile of the image (R326), in SI units; fractions for percentages. -/
structure Profile where
  idCode  : Nat
  /-- 0 EDLC, 1 LIC, 2 LFP. -/
  chem    : Nat
  cells   : Nat
  capNp   : Rat
  esrNp   : Rat
  vFloat  : Rat
  floatTc : Rat
  vMin    : Rat
  vOvp    : Rat
  kc      : Rat
  kr      : Rat
  leak    : Rat
  etaChg  : Rat
  /-- The 21 cell voltages of the OCV table (LFP). -/
  ocv     : List Rat
  ocvTc   : Rat
  iChgFs  : Rat
  iChgNorm : Rat
  iChgMax : Rat
  iTerm   : Rat
  rechargeSoc : Rat
  iMax    : Rat
  tOp     : Int × Int
  tChg    : Int × Int
  tLearn  : Int × Int
  rSh     : Rat
  rPath   : Rat
  vsRatio : Rat
  recharge : Nat
deriving DecidableEq, Repr

/-- What a port's converter delivers for one window (R323, R324): the charge in nanocoulombs, positive into the module, the
EM_VS pin in microvolts, the temperature that the thermistor gives, and the ratios of the ID and thermistor pins. -/
structure Sample where
  port : Nat
  nc   : Int
  uv   : Int
  temp : Int
  idR  : Rat
  thR  : Rat
deriving DecidableEq, Repr

/-- An entry of a port's learn history (R498): time, outcome, sigma, capacity. -/
structure LearnRec where
  time    : Nat
  outcome : Nat
  sigma   : Nat
  cap     : Nat
deriving DecidableEq, Repr

/-- An entry of a port's rest history (R498): time, leakage, minutes, flags. -/
structure RestRec where
  time  : Nat
  leak  : Nat
  mins  : Nat
  flags : Nat
deriving DecidableEq, Repr

/-- One module port (R327–R335). -/
structure Module where
  /-- The profiles that the port accepts; none: unused. -/
  accepts  : List Nat
  profile  : Option Nat
  /-- The last ID reading (none: no valid ID, or thermistor loss) and how many equal ones came in a row. -/
  idLast   : Option Nat
  idCount  : Nat
  /-- The port has not been judged since the start (R327). -/
  atStart  : Bool
  /-- A stored state that a cold start resumes: re-initialise from the first voltage (R332); ESR to be checked. -/
  reinit   : Bool
  check    : Option Rat
  /-- Estimator (R328). -/
  x        : Rat
  p        : Rat
  c        : Rat
  sc       : Rat
  leak     : Rat
  offset   : Rat
  steps    : List Rat
  stepMax  : Rat
  stepCnt  : Nat
  /-- The previous sample's current and voltage. -/
  prev     : Option (Rat × Rat)
  temp     : Int
  valid    : Bool
  learned  : Bool
  lastLearn : Option Nat
  lastRest : Nat
  /-- Milliseconds at rest, in disagreement and out of it, below 50 mA since the last low-current computation. -/
  restMs   : Nat
  disMs    : Nat
  agreeMs  : Nat
  lowMs    : Nat
  /-- The first minute of a rest window, for the converter's offset (R334): charge in nanocoulombs and samples. -/
  calQ     : Int
  calCnt   : Nat
  /-- Charge and time accumulated while CP1 was halted (R343). -/
  awayQ    : Rat
  awayMs   : Nat
  /-- The last bounds (R331): energy, charge, energy with K = 0. -/
  e        : Rat
  q        : Rat
  ePt      : Rat
  /-- Samples in a row above the overvoltage limit, readings above T_OP, discharge above I_MAX. -/
  ovCnt    : Nat
  otCnt    : Nat
  iCnt     : Nat
  /-- The second in which the cause of the fault was last seen. -/
  causeAt  : Nat
  /-- An LFP module is charging (R339); EM_CHG and EM_DIS as driven. -/
  charging : Bool
  chgOn    : Bool
  disOn    : Bool
  learns   : List LearnRec
  rests    : List RestRec
deriving DecidableEq, Repr

/-- A port with no module. -/
def Module.init : Module :=
  { accepts := [], profile := none, idLast := none, idCount := 0, atStart := false, reinit := false, check := none, x := 0,
    p := 0, c := 0, sc := 0, leak := 0, offset := 0, steps := [], stepMax := 0, stepCnt := 0, prev := none, temp := 0,
    valid := false, learned := false, lastLearn := none, lastRest := 0, restMs := 0, disMs := 0, agreeMs := 0, lowMs := 0,
    calQ := 0, calCnt := 0, awayQ := 0, awayMs := 0, e := 0, q := 0, ePt := 0, ovCnt := 0, otCnt := 0, iCnt := 0,
    causeAt := 0, charging := true,
    chgOn := false, disOn := false, learns := [], rests := [] }

/-- A learn in progress (R336): step as LAN_LEARN_STATUS shows it; the 60 s charger pause of step 2. -/
structure Learn where
  port     : Nat
  step     : Nat
  paused   : Bool
  ocvStart : Rat
  dq       : Rat
deriving DecidableEq, Repr

/-- What an integration of R342 still takes: samples to skip, samples to take, and the sum in joules. -/
structure ESum where
  skip : Nat
  left : Option Nat
  sum  : Rat
deriving DecidableEq, Repr

/-- Lantern. -/
structure Lantern where
  profiles : NMap Profile
  mods     : NMap Module
  /-- The estimator state in the NOR configuration area with the hash of its module table (R332). -/
  stateNor : CopyPair (NMap Module × Nat)
  tableHash : Nat
  /-- The port in a forced rest window (R334). -/
  rest     : Option Nat
  /-- Ports with a learn due and the second since which it is, the longest due first; ports whose learn waits for RETRY_H
  (R336). -/
  due      : List (Nat × Nat)
  retry    : List Nat
  learn    : Option Learn
  sum      : Option ESum
  /-- Milliseconds for which the conditions of R333 have held. -/
  convMs   : Nat
deriving DecidableEq, Repr

/-- Lantern before any module is known. -/
def Lantern.init : Lantern :=
  { profiles := [], mods := [], stateNor := CopyPair.blank _, tableHash := 0, rest := none, due := [], retry := [],
    learn := none, sum := none, convMs := 0 }

end Sys2Proof.Machine
end

