-- ==== Sys2Proof/Machine/State/Log.lean ====
section
/-! DEFINITION. The state of the Grotto log, the vault and restore sequences, the Ledger area and the flash kernel
(R104–R222): versions, stripes, bands, blocks, records, descriptors, LUNs, channels. -/

namespace Sys2Proof.Machine

/-- A granule version on flash (R146). -/
structure GVer where
  gran   : Nat
  owner  : Owner
  seq    : Nat
  epoch  : Nat
  poison : Bool
  mask   : Nat
  copy   : Bool
  source : Nat
  data   : List Host.Cell
deriving DecidableEq, Repr

/-- A poison range of an open record (R154). -/
structure PRange where
  start  : Nat
  count  : Nat
  owner  : Owner
  reason : Nat
  mask   : Nat
deriving DecidableEq, Repr

/-- The manifest info block (R150). -/
structure ManInfo where
  vault    : Nat
  total    : Nat
  own      : Nat
  mirror   : Nat
  stripes  : Nat
  seqA     : Nat
  seqB     : Nat
  epochA   : Nat
  epochB   : Nat
  carried  : List Nat
deriving DecidableEq, Repr

/-- What a stripe's data pages hold: granule slots (R145), manifest entries (R149), or poison ranges (R154). -/
inductive Payload where
  | data (slots : List (Option GVer))
  | manifest (info : ManInfo) (entries : List Nat)
  | poisons (ranges : List PRange)
deriving DecidableEq, Repr

/-- A stripe (R143–R147). `layout` lists the positions written, `lost` those whose page cannot be read. -/
structure Stripe where
  serial    : Nat
  band      : Nat
  page      : Nat
  session   : Nat
  vault     : Nat
  rewriteOf : Nat
  keyGen    : Nat
  layout    : List Nat
  lost      : List Nat
  payload   : Payload
deriving DecidableEq, Repr

/-- Who writes a stripe (R143). -/
inductive Writer where
  | seep | vault | gc | rehearsal
deriving DecidableEq, Repr

/-- A stripe handed to the flash kernel (R144): the positions whose program has not ended, those that programmed
and are not yet accounted for, those that failed, and the leave grant that covers it. -/
structure Flight where
  stripe  : Stripe
  writer  : Writer
  waiting : List Nat
  done    : List Nat
  failed  : List Nat
  grant   : Nat
  /-- Granted before the trip: a page completing after it counts as a page of the vault (R86). -/
  carried : Bool
deriving DecidableEq, Repr

/-- A band (R143): for each position the block it holds there, LUN and Grotto block index. -/
structure Band where
  num    : Nat
  blocks : List (Option (Nat × Nat))
  next   : Nat
  closed : Bool
  /-- The positions whose block holds a summary (R144, R156). -/
  sums   : List Nat
  /-- A vault's tail closed it (R156). -/
  tail   : Bool
deriving DecidableEq, Repr

/-- The state of a Grotto block (R161). -/
inductive BlkSt where
  | erased | inBand | record | blackBox | spare | unknown | retired
deriving DecidableEq, Repr

/-- The number that encodes a block state (R161). -/
def BlkSt.code : BlkSt → Nat
  | .erased => 0 | .inBand => 1 | .record => 2 | .blackBox => 3 | .spare => 4 | .unknown => 5 | .retired => 6

/-- An entry of the block-state table or of the Ledger block table (R161, R205). -/
structure Blk where
  st      : BlkSt
  pfail   : Nat
  ec      : Nat
  refresh : Bool
  /-- The device state of the block is neither erased nor closed: an erase or program was cut short (R164). -/
  half    : Bool
deriving DecidableEq, Repr

/-- A journal entry (R162). -/
structure JEnt where
  code  : Nat
  lun   : Nat
  info  : Nat
  block : Nat
  ec    : Nat
  secs  : Nat
deriving DecidableEq, Repr

/-- A seal record (R153). -/
structure Seal where
  recSeq   : Nat
  vault    : Nat
  session  : Nat
  flags    : Nat
  seqA     : Nat
  seqB     : Nat
  epochA   : Nat
  epochB   : Nat
  manFirst : Nat
  manLast  : Nat
  dataFirst : Nat
  dataLast : Nat
  granules : Nat
  stripes  : Nat
  degraded : Nat
  rewritten : Nat
  lunsOut  : Nat
  tClose   : Nat
  tDrain   : Nat
  tFirst   : Nat
  tSeal    : Nat
  nextSerial : Nat
  /-- Bit n: global LUN n is out of vault service. -/
  outMap   : Nat
  superseded : List Nat
deriving DecidableEq, Repr

/-- An open record (R154). -/
structure OpenRecord where
  recSeq   : Nat
  session  : Nat
  follows  : Nat
  kind     : Nat
  serialAt : Nat
  seqA     : Nat
  seqB     : Nat
  epochA   : Nat
  epochB   : Nat
  keyGen   : Nat
  /-- The poison-list stripes of the ranges beyond the first 1,000: first and last serial, 0 if none. -/
  plFirst  : Nat
  plLast   : Nat
  /-- Ranges in all. -/
  total    : Nat
  /-- The ranges inline, at most 1,000. -/
  ranges   : List PRange
  /-- The start that programmed it, counted by the model (R119 asks whether it was this start). -/
  startNo  : Nat
deriving DecidableEq, Repr

/-- What a record page holds (R152): the type of its record. The body of a seal or open record is the one of the page's REC_SEQ in
the logs of seals and open records, since copies of one record share it; a journal page holds `n` entries of the journal from
`lo` on; a snapshot page holds its part of the block-state table (R161). A page whose program failed holds nothing. -/
inductive RecBody where
  | seal | opened | journal (lo n : Nat) | snapshot (page : Nat) (tbl : NMap Blk) | head | waste
deriving DecidableEq, Repr

/-- A page of a record block (R151, R152). -/
structure RecPage where
  seq  : Nat
  copy : Nat
  body : RecBody
  /-- The page cannot be read. -/
  bad  : Bool
deriving DecidableEq, Repr

/-- A record block (R151): where it lies, its generation, its pages from page 0 on; none while it is erased. -/
structure RecBlock where
  chan  : Nat
  lun   : Nat
  block : Nat
  gen   : Nat
  pages : List RecPage
deriving DecidableEq, Repr

/-- The garbage collector at work on a victim band (R165, R166). -/
structure Gc where
  victim  : Nat
  /-- The victim's blocks, from their ERASE_START on (R166 step 4). -/
  blocks  : List (Nat × Nat)
  /-- 0 copying, 1 erase entries staged, 2 erasing. -/
  stage   : Nat
deriving DecidableEq, Repr

/-- The Ledger namespace (R173, R174, R483–R485). -/
structure Ledger where
  lbaf    : Nat
  nsze    : Nat
  ncap    : Nat
  keyGen  : Nat
  /-- The media key of the present generation, 512 bits, a free value. -/
  key     : Nat
  /-- LBAs mapped: their bytes. -/
  blocks  : NMap (List Host.Cell)
  /-- LBAs whose pages are lost. -/
  lost    : List Nat
  formatting : Bool
  tbl     : NMap Blk
  /-- Spares left on each channel, and at the last format. -/
  spares  : List Nat
  spares0 : List Nat
deriving DecidableEq, Repr

/-- The Grotto (R141–R180), beside its registers. -/
structure Grotto where
  /-- Every stripe programmed, oldest serial first. -/
  stripes  : List Stripe
  flights  : List Flight
  bands    : List Band
  nextBand : Nat
  /-- The rotation of open bands (R553). -/
  rotation : Nat
  tbl      : NMap Blk
  /-- The bodies of the seals and open records programmed, and the record blocks that hold their copies (R151, R152). -/
  seals    : List Seal
  opens    : List OpenRecord
  recs     : List RecBlock
  recSeq   : Nat
  /-- Record blocks exist (R172). -/
  formatted : Bool
  /-- Media key of the present generation, 512 bits, a free value. -/
  key      : Nat
  /-- GROTTO_BLOCKS in force since the last format that took it (R173). -/
  blocksIn : Nat
  /-- V has fallen below MIN_CACHE since the last format (R171). -/
  capRo    : Bool
  /-- The AON save area's location of the newest seal (LUN, block, page) and write pointers: block and next page by LUN (R118). -/
  aonSeal  : Option (Nat × Nat × Nat)
  aonWps   : NMap (Nat × Nat)
  /-- Journal entries staged in AON and on flash (R163). -/
  staged   : List JEnt
  journal  : List JEnt
  gc       : Option Gc
  gcCount  : Nat
  /-- Failures of the open record in this start (R104). -/
  openFails : Nat
  startNo  : Nat
  /-- Spares left on each channel (R168, R169). -/
  spares   : List Nat
  /-- Spares per channel at the format (R502). -/
  spares0  : List Nat
  ledger   : Ledger
deriving DecidableEq, Repr

/-- Sixteen zeros, one per channel. -/
def zeros16 : List Nat := [0, 0, 0, 0, 0, 0, 0, 0, 0, 0, 0, 0, 0, 0, 0, 0]

/-- A Grotto that was never formatted. -/
def Grotto.init : Grotto :=
  { stripes := [], flights := [], bands := [], nextBand := 0, rotation := 0, tbl := [], seals := [], opens := [],
    recs := [], recSeq := 0,
    formatted := false, key := 0, blocksIn := 0, capRo := false, aonSeal := none, aonWps := [], staged := [],
    journal := [], gc := none, gcCount := 0, openFails := 0, startNo := 0,
    spares := zeros16, spares0 := zeros16,
    ledger := { lbaf := 0, nsze := 0, ncap := 0, keyGen := 0, key := 0, blocks := [], lost := [], formatting := false,
                tbl := [], spares := zeros16, spares0 := zeros16 } }

/-- What started a vault (R451, R361). -/
inductive VaultCause where
  | trip | longPress | railFault | grace | thermal | commit | deepPrep | format
deriving DecidableEq, Repr

/-- The KEY of the vault start event (R451). -/
def VaultCause.key : VaultCause → Nat
  | .trip => 0 | .longPress => 1 | .railFault => 2 | .grace => 3 | .thermal => 4
  | .commit => 3 | .deepPrep => 3 | .format => 3

/-- A vault in progress or sealed and not yet released (R109). -/
structure Vault where
  cause    : VaultCause
  /-- A trip has occurred during it (R108). -/
  tripped  : Bool
  sealed   : Bool
  tailPage : Bool
  /-- The manifest: cache granules in the order of R110, and the granules of the carried Seep stripes. -/
  manifest : List Nat
  carried  : List Nat
  /-- The Seep stripes that held a leave grant at the trip: their serials (R86, R110). -/
  carriedSer : List Nat
  info     : ManInfo
  /-- Manifest entries not yet handed out in a manifest stripe; granules not yet packed. -/
  manLeft  : List Nat
  dataLeft : List Nat
  /-- Stripes lost to the dump and not yet written again: serial, whether a manifest stripe, entries. -/
  rewrites : List (Nat × Bool × List Nat)
  /-- The manifest has been taken (R110). -/
  taken    : Bool
  /-- Every open band is closed and the seal is awaited (R112). -/
  tail     : Bool
  manFirst : Nat
  manLast  : Nat
  dataFirst : Nat
  dataLast : Nat
  count    : Nat
  degraded : Nat
  superseded : List Nat
  lunsOut  : Nat
  /-- Rounds in which no seal copy programmed, and the channels tried (R112). -/
  sealFails : Nat
  sealTried : List Nat
  mrst     : Bool
  offReq   : Bool
  /-- A rehearsal was cut short by the trip (R90, R153). -/
  rehCut   : Bool
  /-- No stripe could be placed: the vault ends without a seal. -/
  failed   : Bool
deriving DecidableEq, Repr

/-- The vault and restore state beside the VLT registers. -/
structure VaultSide where
  cur      : Option Vault
  /-- The filtered VIN_SENSE output is above its threshold: the input is present. -/
  input    : Bool
  /-- The return time of R115 is running. -/
  counting : Bool
  /-- The restore basis of each region (R119): 0 none needed, 1 complete, 2 incomplete with manifest, 3 without, 6 empty. -/
  basisOwn : Nat
  basisMir : Nat
  /-- The start waits for the peer's copies (R65). -/
  waitPeer : Bool
  fixed    : Bool
  /-- The kind of the open record to be programmed (R104). -/
  openKind : Option Nat
  /-- A Grotto format with a clean vault and power-down is running (R172). -/
  formatRun : Bool
  /-- The granules that R51 poisons in the member's own copy, with the reason, while the peer's copy is used (R131). -/
  ownBad   : NMap Nat
deriving DecidableEq, Repr

/-- No vault, no input. -/
def VaultSide.init : VaultSide :=
  { cur := none, input := false, counting := false, basisOwn := 0, basisMir := 0, waitPeer := false, fixed := false,
    openKind := none, formatRun := false, ownBad := [] }

/-- An operation descriptor (R196). -/
structure Desc where
  op     : Nat
  cls    : Nat
  int    : Bool
  dep    : Bool
  slc    : Bool
  noSusp : Bool
  ring   : Nat
  seq    : Nat
  lun    : Nat
  area   : Nat
  cwMask : Nat
  planes : Nat
  block  : Nat
  page   : Nat
  grant  : Nat
  buf    : Nat
  hdrBuf : Nat
  depTag : Nat
  arg    : Nat
  rsvd   : Nat
deriving DecidableEq, Repr

/-- The tag of a descriptor (R196). -/
def Desc.tag (d : Desc) : Nat := d.ring * 2 ^ 24 + d.seq % 2 ^ 24

/-- A completion entry (R197). -/
structure FCompl where
  tag     : Nat
  status  : Nat
  level   : Nat
  maxBits : Nat
  cflags  : Nat
  cwFail  : Nat
  zeroBits : Nat
  elapsed : Nat
deriving DecidableEq, Repr

/-- An operation issued to a LUN (R199, R206). -/
structure FRun where
  desc    : Desc
  grant   : Nat
  susp    : Nat
  wasSusp : Bool
  wasReset : Bool
  retried : Bool
deriving DecidableEq, Repr

/-- The LUN states of R210. -/
inductive LunSt where
  | absent | refused | active | writeOut | dead
deriving DecidableEq, Repr

/-- The number of a LUN state (R219). -/
def LunSt.code : LunSt → Nat
  | .absent => 0 | .refused => 1 | .active => 2 | .writeOut => 3 | .dead => 4

/-- A LUN (R184, R199, R210, R219). -/
structure Lun where
  st       : LunSt
  profile  : Nat
  uid      : Nat
  /-- The first six bytes of its Read ID (R182, R187). -/
  readId   : Nat
  /-- Its good blocks (R141, R183). -/
  good     : Nat
  queue    : List Desc
  park     : List Desc
  running  : Option FRun
  suspended : Option FRun
  pfail    : Nat
  timeouts : List Nat
  lastLevel : Nat
  /-- Write pointers of the open blocks: block key (area × 65,536 + block) and next page (R201). -/
  wps      : NMap Nat
  features : NMap Nat
  /-- Timing mode, drive strength and on-die termination, set at discovery (R182, R185). -/
  timing   : Nat
  /-- The LUN left vault service in an earlier vault and awaits the test of the next start (R210). -/
  awaitTest : Bool
deriving DecidableEq, Repr

/-- An absent LUN. -/
def Lun.none : Lun :=
  { st := .absent, profile := 0, uid := 0, readId := 0, good := 0, queue := [], park := [], running := Option.none,
    suspended := Option.none, pfail := 0,
    timeouts := [], lastLevel := 0, wps := [], features := [], timing := 0, awaitTest := false }

/-- The flash kernel (R181–R222). -/
structure Flash where
  luns    : NMap Lun
  /-- Descriptors held in rings 0–31 whose next descriptor targets a full LUN, ring by ring. -/
  rings   : NMap (List Desc)
  compl   : List FCompl
  /-- Tags completed, for DEP (R201). -/
  doneTags : List Nat
  nextTag : Nat
  /-- Operating second of the last fault of each channel (R211). -/
  lastFault : List (Option Nat)
  /-- Stored LUN identities: Read ID and unique ID (R187). -/
  ids     : NMap (Nat × Nat)
  idsNor  : CopyPair (NMap (Nat × Nat))
deriving DecidableEq, Repr

/-- No device discovered. -/
def Flash.init : Flash :=
  { luns := [], rings := [], compl := [], doneTags := [], nextTag := 1,
    lastFault := [none, none, none, none, none, none, none, none, none, none, none, none, none, none, none, none],
    ids := [], idsNor := CopyPair.blank _ }

end Sys2Proof.Machine
end

