-- ==== Sys2Proof/Machine/State/Startup.lean ====
section
/-! DEFINITION. The state of start-up, the configuration image, updates, the watchdog and the NOR (R405–R443). -/

namespace Sys2Proof.Machine

/-- A flash device profile of the image (R182): times in microseconds. `idMatch` holds the six ID bytes in bits 47 to 0 and
the mask above them; `levels` is a block's pages in the native cell mode as a multiple of its SLC pages, which the
parameter page gives. -/
structure DevProfile where
  idMatch : Nat
  /-- 0: a prefix command byte before each Grotto operation; 1: Set Features once per LUN at the start. -/
  slcMethod : Nat
  slcOp   : Nat
  slcFa   : Nat
  slcFv   : Nat
  /-- Feature address of the read-threshold offset, and the offsets of the retry levels. -/
  retryFa : Nat
  retryTable : List Int
  /-- Timing mode, drive strength and on-die termination settings. -/
  timing  : Nat
  tRead   : Nat
  tProg   : Nat
  tErase  : Nat
  tProgN  : Nat
  tSusp   : Nat
  tRst    : Nat
  progInEsusp : Bool
  page    : Nat
  spare   : Nat
  planes  : Nat
  slcPages : Nat
  blocks  : Nat
  levels  : Nat
deriving DecidableEq, Repr

/-- A directory entry of an image (R410), with its CRC-32C, and whether the section agrees with it. -/
structure ImgSection where
  type    : Nat
  cls     : Nat
  version : Nat
  offset  : Nat
  length  : Nat
  crc     : Nat
  crcOk   : Bool
deriving DecidableEq, Repr

/-- A Proade image (R409, R410): its header, its directory, the values of its "img" fields by field key, and what its
sections carry beside them. -/
structure Image where
  /-- MAGIC, FORMAT and HDR_CRC are correct (R409). -/
  hdrOk    : Bool
  part     : Nat
  stepping : Nat
  orderMask : Nat
  length   : Nat
  sections : List ImgSection
  /-- The tag of the KEYS section holds under the OTP image key (R413). -/
  keysOk   : Bool
  /-- Every patch record's ROM_CRC matches this die's ROM (R431). -/
  patchRom : Bool
  seq      : Nat
  svn      : Nat
  /-- "img" field keys and values (R11). -/
  fields   : NMap Nat
  railCrc  : Bool
  lastGroup : Nat
  hostMode : Nat
  vendor   : Nat
  console  : Nat
  smbAddr  : Nat
  /-- Key slots to revoke at the confirmation (R412). -/
  revoke   : List Nat
  winAddr  : Nat
  spareThr : Nat
  /-- The model number of IDENT; empty for the default (R479). -/
  model    : List Byte
  owner    : Owner
  pairKey  : Nat
  pairId   : Nat
  holdUnlocked : Bool
  provision : Bool
  svnLock  : Bool
  firstFormat : Bool
  modules  : NMap (List Nat)
  profiles : NMap Profile
  devices  : NMap DevProfile
  ledgerOp : Nat
  patches  : Nat
  aonPatches : Nat
  /-- The hash of the module table (R332) and of the image (R409). -/
  hashModules : Nat
  hash     : Nat
  /-- SHA-384 of the signature block's KEY, and whether the signature verifies under it (R409, R411). -/
  keyHash  : Nat
  sigOk    : Bool
deriving DecidableEq, Repr

/-- A commit record whose two copies are equal (R415): kind 0 Commit, 1 Rollback, 2 Confirm, 3 Clear; `secs` and `cycles` are
its TIME. -/
structure CommitRec where
  seq    : Nat
  bank   : Nat
  kind   : Nat
  trial  : Bool
  cold   : Bool
  format : Bool
  hash   : Nat
  length : Nat
  svn    : Nat
  secs   : Nat
  cycles : Nat
deriving DecidableEq, Repr

/-- A boot log record (R422): kind 1 Attempt, 2 Success, 3 Fail, 4 Clear. -/
structure BootRec where
  seq    : Nat
  kind   : Nat
  bank   : Nat
  path   : Nat
  reason : Nat
  count  : Nat
  safe   : Bool
  trial  : Bool
  /-- The newest commit record as this record was written (R416). -/
  commit : Nat
  secs   : Nat
  cycles : Nat
deriving DecidableEq, Repr

/-- A staged update (R426, R427). -/
structure Staging where
  owner   : Option Port
  offset  : Nat
  data    : List Byte
  last    : Bool
deriving DecidableEq, Repr

/-- The start-up side. -/
structure Boot where
  /-- Banks A and B of the NOR. -/
  banks    : List (Option Image)
  /-- The counting records of the commit area's current sector pair, the newest last, and the number of that pair (R415). -/
  commits  : List CommitRec
  commitPair : Nat
  bootLog  : List BootRec
  running  : Option Image
  staging  : Option Staging
  staged   : Option Image
  trial    : Bool
  starting : Bool
  startStep : Nat
  otpSlots : List (Bool × Bool)
  /-- The key hash of each OTP slot, and the image key (R414). -/
  otpHash  : List Nat
  imgKey   : Nat
  /-- The AON start record's hash of each bank (R419, R420, R430), and the sectors that its erase intents name (R407). -/
  hashCache : List (Option Nat)
  intents  : List Nat
  prov     : List Nat
  wdtStage : Nat
  kickHalf : Bool
  wdtLatch : Bool
  /-- Copies of the operating seconds and power cycles in the configuration area (R436). -/
  timeNor  : CopyPair (Nat × Nat)
  tempHot  : Nat
  /-- A start waits for the die to cool (R550). -/
  hotWait  : Bool
  aonPatchWait : Bool
  /-- The AON content has been kept since the last start (R417). -/
  powered  : Bool
  /-- The AON start record is valid (R417). -/
  startRec : Bool
  /-- Fused values (R11, R412–R414): field keys and values. -/
  fuses    : NMap Nat
deriving DecidableEq, Repr

/-- Before power is applied: blank NOR, unburned OTP. -/
def Boot.init : Boot :=
  { banks := [none, none], commits := [], commitPair := 0, bootLog := [], running := none, staging := none,
    staged := none, trial := false,
    starting := false, startStep := 0, otpSlots := [(false, false), (false, false), (false, false), (false, false)],
    otpHash := [0, 0, 0, 0],
    imgKey := 0, hashCache := [none, none], intents := [], prov := [],
    wdtStage := 0, kickHalf := false, wdtLatch := false, timeNor := CopyPair.blank _, tempHot := 0,
    hotWait := false, aonPatchWait := false, powered := false, startRec := false, fuses := [] }

end Sys2Proof.Machine
end

