-- ==== Sys2Proof/Machine/Commands.lean ====
section
/-! DEFINITION. Operand types of the commands that are no part of the state. -/

namespace Sys2Proof.Machine

/-- What discovery reads of one LUN (R182–R187): the global LUN number, the first six bytes of its Read ID as a number,
whether a copy of its parameter page has a valid CRC, its unique ID, its good blocks, and whether it accepts a program after
skipped pages (R142). -/
structure FoundLun where
  lun     : Nat
  id      : Nat
  paramOk : Bool
  uid     : Nat
  good    : Nat
  skips   : Bool
deriving DecidableEq, Repr

/-- What a start finds at its steps (R405, R419, R420): each part is read at the step that concerns it. -/
structure StartIn where
  /-- The NOR answers; it offers SFDP, a 4 KiB erase type, a soft reset; log2 of its bytes; whether it lists 1-4-4 and 1-1-4
  reads and erase suspend (R405). -/
  norOk    : Bool
  norSfdp  : Bool
  norErase4 : Bool
  norSoft  : Bool
  norLog2  : Nat
  nor144   : Bool
  nor114   : Bool
  norEsusp : Bool
  /-- Some sampling point reads the SFDP header at 100 MHz (R543). -/
  norFast  : Bool
  /-- Copies of the training and configuration areas whose CRC-32C no longer holds: the item's place in R406, 0 or 1 (R408). -/
  badCopies : List (Nat × Nat)
  /-- The NOR test and the march test of the event area (R462) pass. -/
  norTest  : Bool
  ringTest : Bool
  /-- Every patch record applies (R421 reason 10). -/
  patchOk  : Bool
  /-- The state table as a warm start scrubs it (R418): words with an uncorrectable error, the header. -/
  badWords : List Nat
  badTable : Bool
  /-- The DRAM (R224, R265, R266, R276): the devices that mismatch, by position number (R260); the channels whose training or
  test fails twice, with the step; the least margin that each channel's quick verify finds. -/
  mismatch : List Nat
  badTrain : List (Nat × Nat)
  margins  : List (Nat × Nat)
  /-- The flash devices (R185, R187, R210): what answers, the channels out, the rate of those that fell back, the LUNs that
  pass the test of R210. -/
  luns     : List FoundLun
  chOut    : List Nat
  rates    : List (Nat × Nat)
  tested   : List Nat
  /-- The register save list's CRC holds (R393). -/
  saveOk   : Bool
  /-- Milliseconds from the trigger to the restore phase. -/
  ms       : Nat
deriving DecidableEq, Repr

/-- A read of host memory that is open (R477): of a submission queue entry, or of a command's data. -/
inductive HostFetch where
  | entry (qid slot : Nat)
  | data (id : CmdId)
deriving DecidableEq, Repr

/-- A configuration write on a host port (R475, R477, R504): what it sets. -/
inductive CfgWrite where
  /-- The command register: Memory Space Enable, Bus Master Enable. -/
  | command (mse bme : Bool)
  /-- MSI-X message control: enable, function mask. -/
  | msix (en fm : Bool)
  /-- The mask bit of an entry of the MSI-X table. -/
  | vector (v : Nat) (masked : Bool)
  /-- The AER uncorrectable status register: bits written 1 clear. -/
  | aerStatus (w : Word)
  | aerMask (w : Word)
  /-- ECRC generation and checking. -/
  | ecrc (gen chk : Bool)
  /-- The ASPM control: L1 enabled or not. -/
  | aspm (l1 : Bool)
  /-- The completion timeout control, which leaves the 50 ms of R477. -/
  | timeout
  /-- Dword `k` of the six base address dwords (R476). -/
  | bar (k : Nat) (w : Word)
deriving DecidableEq, Repr

end Sys2Proof.Machine
end

