-- ==== Sys2Proof/Syntax.lean ====
section
/-! DEFINITION. The commands: one constructor per row of the spec's table of operations and events, with the operands that
the row's rules read. An operand that is a measured quantity (a time, a converter reading, whether a device reported success)
is what the block finds when the event occurs. The rows with operands come first, then those without, each in the table's
order. -/

namespace Sys2Proof

open Sys2Proof.Machine

/-- A command or event of the block. -/
inductive Instr where
  /-- PMR_WRITE_TLP (R34). -/
  | pmrWriteTlp (p : Port) (addr : Nat) (data : List Byte) (be : List Bool) (ep : Bool) (ecrcErr : Bool)
  /-- PMR_WRITE_SEQUENCE (R38). -/
  | pmrWriteSequence (ready : Option Port) (ns : Nat)
  /-- PMR_READ (R37). -/
  | pmrRead (p : Port) (addr : Nat) (len : Nat)
  /-- BARRIER_READ (R43). -/
  | barrierRead (p : Port) (ns : Nat)
  /-- BARRIER_COMPLETE (R43). -/
  | barrierComplete (ns : Nat)
  /-- PMRCTL_WRITE (R58). -/
  | pmrctlWrite (p : Port) (w : Word)
  /-- PORT_RESET (R66). -/
  | portReset (p : Port) (flr : Bool)
  /-- PORT_LINK_DOWN (R66). -/
  | portLinkDown (p : Port)
  /-- CONTROLLER_DISABLE (R66). -/
  | controllerDisable (p : Port)
  /-- CONTROLLER_ENABLE (R478). -/
  | controllerEnable (p : Port) (cc : Word)
  /-- SHUTDOWN_NOTIFICATION (R478). -/
  | shutdownNotification (p : Port) (shn : Nat)
  /-- UMBRA_UPDATE (R69). -/
  | umbraUpdate (ageMs : Nat) (late : Bool)
  /-- SEEP_STRIPE_PROGRAMMED (R18). -/
  | seepStripeProgrammed (serial pos : Nat)
  /-- REHEARSAL_REQUEST (R88). -/
  | rehearsalRequest (r : Requester) (w : Word)
  /-- REHEARSAL_WINDOW_END (R89). -/
  | rehearsalWindowEnd (complete : Bool)
  /-- VAULT_DRAIN_COMPLETE (R110). -/
  | vaultDrainComplete (closeNs drainNs firstNs : Nat)
  /-- SEAL_PROGRAMMED (R112). -/
  | sealProgrammed (fails : List Nat) (us : Nat)
  /-- OPEN_RECORD_PROGRAMMED (R104). -/
  | openRecordProgrammed (fails worn : List Nat) (ms : Nat)
  /-- SEAL_SEARCH_COMPLETE (R119). -/
  | sealSearchComplete (bad : List (Nat × Nat × Nat)) (differ : Bool)
  /-- MAP_BUILD_COMPLETE (R120). -/
  | mapBuildComplete (ms : Nat) (lost : List (Nat × Nat)) (badSums far : Nat)
      (clash : List Nat) (differ : List JEnt) (failed : List Nat) (openMs : Nat)
  /-- GRANULE_FETCH_COMPLETE (R125). -/
  | granuleFetchComplete (g : Nat) (ok : Bool) (us : Nat)
  /-- VLT_STAT_CLR (R133). -/
  | vltStatClr (r : Requester) (w : Word)
  /-- GRT_FORMAT_WRITE (R172). -/
  | grtFormatWrite (r : Requester) (w : Word)
  /-- JRNL_FLUSH (R176). -/
  | jrnlFlush (r : Requester) (w : Word)
  /-- GC_NOW (R176). -/
  | gcNow (r : Requester) (w : Word)
  /-- GC_STRIPE_PROGRAMMED (R166). -/
  | gcStripeProgrammed (serial : Nat)
  /-- READ (R191). -/
  | read (d : Desc)
  /-- READ_HEADER (R196). -/
  | readHeader (d : Desc)
  /-- PROGRAM (R203). -/
  | program (d : Desc)
  /-- ERASE (R201). -/
  | erase (d : Desc)
  /-- ERASED_CHECK (R194). -/
  | erasedCheck (d : Desc)
  /-- RESET_LUN (R196). -/
  | resetLun (d : Desc)
  /-- GET_FEATURE (R196). -/
  | getFeature (d : Desc)
  /-- SET_FEATURE (R196). -/
  | setFeature (d : Desc)
  /-- READ_RAW (R196). -/
  | readRaw (d : Desc)
  /-- FLASH_DESCRIPTOR_ISSUE (R200). -/
  | flashDescriptorIssue (lun : Nat) (aged : List Nat)
  /-- FLASH_SUSPEND (R206). -/
  | flashSuspend (lun : Nat)
  /-- FLASH_OP_COMPLETE (R197). -/
  | flashOpComplete (lun : Nat) (fail : Bool) (level best bits retried cwFail zeros us : Nat)
  /-- FLASH_OP_TIMEOUT (R208). -/
  | flashOpTimeout (lun : Nat) (resetOk : Bool)
  /-- FOREIGN_QUEUE_WRITE (R14). -/
  | foreignQueueWrite (r : Requester) (ch : Nat)
  /-- CHANNEL_FAULT (R211). -/
  | channelFault (ch : Nat) (ok : Bool)
  /-- RETRAIN_GO (R216). -/
  | retrainGo (r : Requester) (w : Word) (ok : Bool)
  /-- FLC_CNT_CLR (R216). -/
  | flcCntClr (r : Requester) (w : Word)
  /-- FLC_EC_SEL_WRITE (R220). -/
  | flcEcSelWrite (r : Requester) (w : Word)
  /-- DRAM_REQUEST (R229). -/
  | dramRequest (port : DPort) (write : Bool) (addr : Nat) (len : Nat) (ns : Nat)
  /-- DRAM_COMMAND_SLOT (R230). -/
  | dramCommandSlot (sub : Nat) (ns : Nat) (dump : Nat) (rest : Nat) (forbid : List Nat) (dev : List Nat)
  /-- ROW_IDLE_CLOSE (R231). -/
  | rowIdleClose (bank : Nat)
  /-- MR4_POLL (R240). -/
  | mr4Poll (hot : Bool) (above : Bool)
  /-- RANK_POWER_DOWN (R243). -/
  | rankPowerDown (sub : Nat) (rank : Nat)
  /-- DMC_STAT_CLR (R247). -/
  | dmcStatClr (r : Requester) (w : Word)
  /-- DMC_XLATE (R253). -/
  | dmcXlate (r : Requester) (w : Word)
  /-- DMC_ECC_CNT_CLR (R278). -/
  | dmcEccCntClr (r : Requester) (w : Word)
  /-- DMC_POS_SEL_WRITE (R279). -/
  | dmcPosSelWrite (r : Requester) (w : Word)
  /-- DMC_DIAG_READ (R283). -/
  | dmcDiagRead (r : Requester) (w : Word)
  /-- POSITION_LEAK (R260). -/
  | positionLeak (pos : Nat)
  /-- SCRUB_STEP (R261). -/
  | scrubStep (ns : Nat)
  /-- TRAINING_TRACK (R267). -/
  | trainingTrack (sub : Nat) (drift : Nat)
  /-- DRAM_CLOCK_CHANGE (R268). -/
  | dramClockChange (rate : Nat)
  /-- ECHO_LINK_UP (R299). -/
  | echoLinkUp (rate : Nat) (width : Nat)
  /-- HELLO (R296). -/
  | hello (malformed : Bool) (nonce : Nat) (proto : Nat) (owner : Nat) (stepping : Nat)
      (resume : Bool) (cap : Nat) (uid : Nat) (pairId : Nat) (session : Nat)
  /-- PROOF (R296). -/
  | proof (malformed : Bool) (ok : Bool)
  /-- MWR (R290). -/
  | mwr (rx : Rx) (off : Nat) (low : Nat) (data : List Byte) (be : List Bool)
  /-- EPOCH (R289). -/
  | epoch (rx : Rx) (epoch : Nat)
  /-- MACK (R290). -/
  | mack (rx : Rx) (kind : Bool) (ns : Bool) (arg : Nat) (epoch : Nat) (dirtied : Nat) (rtt : Nat)
  /-- ALLOW (R291). -/
  | allow (rx : Rx) (total : Nat)
  /-- STATE (R292). -/
  | state (rx : Rx) (word : Nat)
  /-- FRD (R304). -/
  | frd (rx : Rx) (off : Nat) (tag : Nat) (len : Nat) (order : Nat)
  /-- FDATA (R304). -/
  | fdata (rx : Rx) (off : Nat) (tag : Nat) (last : Bool) (poison : Bool) (notAvail : Bool) (data : List Byte)
  /-- GREQ (R312). -/
  | greq (rx : Rx) (gran : Nat) (tag : Nat) (purpose : Nat)
  /-- GDATA (R312). -/
  | gdata (rx : Rx) (gran : Nat) (tag : Nat) (purpose : Nat) (part : Nat) (data : List Byte)
  /-- GVER (R312). -/
  | gver (rx : Rx) (gran : Nat) (tag : Nat) (purpose : Nat) (seq : Nat) (epoch : Nat)
      (gflags : Nat) (sectors : Nat) (status : Nat) (us : Nat)
  /-- RSYNC (R308). -/
  | rsync (rx : Rx) (kind : Nat) (sEnd : Nat) (count : Nat)
  /-- VINFO (R309). -/
  | vinfo (rx : Rx) (need : Bool) (own mirror : VBlock)
  /-- VTAB (R310). -/
  | vtab (rx : Rx) (start : Nat) (entries : List (Nat × Bool))
  /-- LCTL (R293). -/
  | lctl (ctl : Nat) (tagOk : Bool) (nak : Bool) (lseq : Nat) (freed : Nat)
  /-- ECHO_REPLAY_TIMEOUT (R293). -/
  | echoReplayTimeout (ok : Bool)
  /-- MIRROR_VIEW_READ (R303). -/
  | mirrorViewRead (p : Port) (addr len : Nat)
  /-- PAIR_STATUS (R494). -/
  | pairStatus (req : AdminReq) (id : CmdId)
  /-- PAIR_DETACH (R313). -/
  | pairDetach (req : AdminReq) (id : CmdId)
  /-- PAIR_REJOIN (R313). -/
  | pairRejoin (req : AdminReq) (id : CmdId)
  /-- PAIR_REPLACE (R313). -/
  | pairReplace (req : AdminReq) (id : CmdId)
  /-- MIRROR_VIEW_ON (R313). -/
  | mirrorViewOn (req : AdminReq) (id : CmdId)
  /-- MIRROR_VIEW_OFF (R313). -/
  | mirrorViewOff (req : AdminReq) (id : CmdId)
  /-- ECH_CNT_CLR (R317). -/
  | echCntClr (r : Requester) (w : Word)
  /-- LANTERN_SAMPLE (R330). -/
  | lanternSample (l : List Sample)
  /-- LOWCUR_ENTRY (R325). -/
  | lowcurEntry (port : Nat)
  /-- LOWCUR_UPDATE (R325). -/
  | lowcurUpdate (port : Nat) (ua uv temp : Int)
  /-- LOWCUR_EXIT (R325). -/
  | lowcurExit (port : Nat)
  /-- CONVERTER_SILENT (R341). -/
  | converterSilent (port : Nat)
  /-- REST_WINDOW_START (R334). -/
  | restWindowStart (port : Nat)
  /-- REST_WINDOW_END (R334). -/
  | restWindowEnd (uvPerS uv : Int)
  /-- LEARN_REQ (R336). -/
  | learnReq (r : Requester) (w : Word)
  /-- LEARN_CANCEL (R338). -/
  | learnCancel (r : Requester) (w : Word)
  /-- LAN_FAULT_CLR (R345). -/
  | lanFaultClr (r : Requester) (w : Word)
  /-- LEARN_START (R336). -/
  | learnStart (port : Nat)
  /-- LEARN_DISCHARGE_END (R336). -/
  | learnDischargeEnd (ua uv : Int)
  /-- LEARN_RELAX_END (R337). -/
  | learnRelaxEnd (uvPerS uv : Int)
  /-- LEARN_GUARD (R336). -/
  | learnGuard (uv : Option Int)
  /-- RAIL_SCAN_SAMPLE (R351). -/
  | railScanSample (n code : Nat)
  /-- OFF_REQ (R372). -/
  | offReq (r : Requester) (w : Word)
  /-- SUP_FAULT_CLR (R355). -/
  | supFaultClr (r : Requester) (w : Word)
  /-- FF_ACK (R372). -/
  | ffAck (r : Requester) (w : Word)
  /-- CLOCK_MONITOR_WINDOW (R25). -/
  | clockMonitorWindow (count : Nat)
  /-- CLOCK_RELOCK_RESULT (R25). -/
  | clockRelockResult (ok : Bool) (margins : List (Nat × Nat))
  /-- CLK_MON_CLR (R404). -/
  | clkMonClr (r : Requester) (w : Word)
  /-- LEAVE_REQUEST (R28). -/
  | leaveRequest (op : LeaveOp)
  /-- LEAVE_RETURN (R28). -/
  | leaveReturn (id : Nat)
  /-- LEAVE_AGE_EXPIRY (R28). -/
  | leaveAgeExpiry (id : Nat)
  /-- SLEEP_REQ (R380). -/
  | sleepReq (r : Requester) (w : Word)
  /-- DEEP_REQ (R386). -/
  | deepReq (r : Requester) (w : Word)
  /-- PWR_CANCEL (R397). -/
  | pwrCancel (r : Requester) (w : Word)
  /-- DOMAIN_VOTE (R381). -/
  | domainVote (busy : Bool)
  /-- WAKE_REQ (R387). -/
  | wakeReq (r : Requester) (w : Word)
  /-- DOMAIN_BOUND_MISSED (R390). -/
  | domainBoundMissed (d : Domain)
  /-- PWR_CNT_CLR (R397). -/
  | pwrCntClr (r : Requester) (w : Word)
  /-- POWER_ON_RESET (R534). -/
  | powerOnReset (testMode : Bool)
  /-- COLD_START (R419). -/
  | coldStart (i : StartIn)
  /-- WARM_START (R420). -/
  | warmStart (i : StartIn)
  /-- SAFE_CLR (R424). -/
  | safeClr (r : Requester) (w : Word)
  /-- PROV_DATA_WRITE (R439). -/
  | provDataWrite (r : Requester) (w : Word)
  /-- PROV_BURN (R414). -/
  | provBurn (r : Requester) (w : Word)
  /-- CFG_LOCK (R435). -/
  | cfgLock (r : Requester) (w : Word)
  /-- WDT_HEARTBEAT (R434). -/
  | wdtHeartbeat (cp : Fin 4)
  /-- WDT_KICK (R434). -/
  | wdtKick (r : Requester) (key : Byte)
  /-- UPDATE_STAGE (R426). -/
  | updateStage (req : AdminReq) (id : CmdId) (ofst : Nat) (data : List Byte) (last : Bool)
  /-- UPDATE_VERIFY_DONE (R427). -/
  | updateVerifyDone (result : Nat) (img : Image)
  /-- UPDATE_COMMIT_WARM (R428). -/
  | updateCommitWarm (req : AdminReq) (id : CmdId)
  /-- UPDATE_COMMIT_COLD (R429). -/
  | updateCommitCold (req : AdminReq) (id : CmdId)
  /-- UPDATE_COMMIT_FORMAT (R429). -/
  | updateCommitFormat (req : AdminReq) (id : CmdId)
  /-- UPDATE_ABORT (R428). -/
  | updateAbort (req : AdminReq) (id : CmdId)
  /-- UPDATE_COMMIT_OTHER (R428). -/
  | updateCommitOther (req : AdminReq) (id : CmdId)
  /-- NOR_OP_COMPLETE (R407). -/
  | norOpComplete (erase : Bool) (fails : Nat) (journal : Bool)
  /-- EVENT_SUBMIT (R444). -/
  | eventSubmit (src code sev key : Nat) (own : List Nat) (queued : Nat)
  /-- RECORD_WINDOW_CLOSE (R452). -/
  | recordWindowClose (seq : Nat)
  /-- NOR_JOURNAL_FLUSH (R455). -/
  | norJournalFlush (failed : Bool)
  /-- EVR_FLUSH (R471). -/
  | evrFlush (r : Requester) (w : Word)
  /-- BLACK_BOX_FLUSH (R458). -/
  | blackBoxFlush (ok : Bool)
  /-- RING_ECC_ERROR (R462). -/
  | ringEccError (lost : List Nat)
  /-- EVR_RD_GO (R466). -/
  | evrRdGo (r : Requester) (w : Word)
  /-- EVR_CNT_CLR (R471). -/
  | evrCntClr (r : Requester) (w : Word)
  /-- VIEW_EXPIRY (R464). -/
  | viewExpiry (r : Requester)
  /-- GET_CHALLENGE (R490). -/
  | getChallenge (req : AdminReq) (id : CmdId)
  /-- CLEAR (R468). -/
  | clear (req : AdminReq) (id : CmdId) (clearTo maxSev scope slot : Nat) (keyOk sigOk : Bool) (sigHash : List Nat)
  /-- CREATE_IO_QUEUE (R480). -/
  | createIoQueue (p : Port) (id : CmdId) (cq : Bool) (qid qsize base arg : Nat) (pc ien : Bool)
  /-- DELETE_IO_QUEUE (R480). -/
  | deleteIoQueue (p : Port) (id : CmdId) (cq : Bool) (qid : Nat)
  /-- GET_LOG_PAGE (R496). -/
  | getLogPage (req : AdminReq) (id : CmdId) (lid lsp off len : Nat) (rae : Bool)
  /-- IDENTIFY (R479). -/
  | identify (req : AdminReq) (id : CmdId) (cns nsid : Nat)
  /-- ABORT (R487). -/
  | abort (p : Port) (id : CmdId) (target : CmdId)
  /-- ASYNCHRONOUS_EVENT_REQUEST (R503). -/
  | asynchronousEventRequest (p : Port) (id : CmdId)
  /-- KEEP_ALIVE (R480). -/
  | keepAlive (p : Port) (id : CmdId)
  /-- GET_FEATURES (R480). -/
  | getFeatures (req : AdminReq) (id : CmdId) (fid arg : Nat)
  /-- SET_FEATURES (R481). -/
  | setFeatures (p : Port) (id : CmdId) (fid arg : Nat) (save : Bool)
  /-- FORMAT_NVM (R485). -/
  | formatNvm (p : Port) (id : CmdId) (nsid lbaf ses : Nat)
  /-- INVALID_OPCODE (R480). -/
  | invalidOpcode (req : AdminReq) (id : CmdId)
  /-- FLUSH (R484). -/
  | flush (p : Port) (id : CmdId) (nsid : Nat)
  /-- WRITE (R484). -/
  | write (p : Port) (id : CmdId) (nsid slba : Nat) (data : List Byte)
  /-- READ_LBA (R484). -/
  | readLba (p : Port) (id : CmdId) (nsid slba nlb : Nat) (bad : Bool)
  /-- WRITE_ZEROES (R484). -/
  | writeZeroes (p : Port) (id : CmdId) (nsid slba nlb : Nat)
  /-- DATASET_MANAGEMENT (R484). -/
  | datasetManagement (p : Port) (id : CmdId) (nsid : Nat) (dealloc : Bool) (ranges : List (Nat × Nat))
  /-- SQ_DOORBELL (R509). -/
  | sqDoorbell (p : Port) (qid tail : Nat)
  /-- CQ_DOORBELL (R509). -/
  | cqDoorbell (p : Port) (qid head : Nat)
  /-- HOST_READ_TIMEOUT (R477). -/
  | hostReadTimeout (p : Port) (f : HostFetch)
  /-- BARRIER_QUERY (R488). -/
  | barrierQuery (req : AdminReq) (id : CmdId)
  /-- LEARN_CYCLE_REQUEST (R489). -/
  | learnCycleRequest (req : AdminReq) (id : CmdId) (port : Fin 8) (cancel : Bool)
  /-- REHEARSAL_VAULT (R491). -/
  | rehearsalVault (req : AdminReq) (id : CmdId)
  /-- REGISTER_ACCESS_READ (R495). -/
  | registerAccessRead (req : AdminReq) (id : CmdId) (off : Nat)
  /-- REGISTER_ACCESS_WRITE (R495). -/
  | registerAccessWrite (req : AdminReq) (id : CmdId) (off : Nat) (w : Word)
  /-- REGISTER_WRITE (R514). -/
  | registerWrite (r : Requester) (off : Nat) (data : List Byte) (be : List Bool)
  /-- MCTP_CONTROL (R505). -/
  | mctpControl (eid : Nat)
  /-- READ_NVME_MI_DATA_STRUCTURE (R506). -/
  | readNvmeMiDataStructure (dtyp ctrl : Nat)
  /-- SUBSYSTEM_HEALTH_STATUS_POLL (R506). -/
  | subsystemHealthStatusPoll (clear : Bool)
  /-- CONTROLLER_HEALTH_STATUS_POLL (R506). -/
  | controllerHealthStatusPoll (p : Port)
  /-- CONFIGURATION_GET (R506). -/
  | configurationGet (cid : Nat)
  /-- CONFIGURATION_SET (R506). -/
  | configurationSet (cid val : Nat)
  /-- SMBUS_ADDR_WRITE (R518). -/
  | smbusAddrWrite (addr : Word) (pec : Bool)
  /-- SMBUS_WRITE (R518). -/
  | smbusWrite (w : Word) (pec : Bool)
  /-- SMBUS_CTRL_WRITE (R518). -/
  | smbusCtrlWrite (b : Byte) (pec : Bool)
  /-- UART_EVENTS (R508). -/
  | uartEvents (n : Nat)
  /-- UART_REG_READ (R508). -/
  | uartRegRead (off : Nat)
  /-- UART_REG_WRITE (R508). -/
  | uartRegWrite (off : Nat) (w : Word)
  /-- HOST_LINK_UP (R66). -/
  | hostLinkUp (p : Port) (status : Nat)
  /-- LEARN_DISCHARGE_START (R336). -/
  | learnDischargeStart (uv : Int)
  /-- JUNCTION_TEMP_SAMPLE (R550). -/
  | junctionTempSample (t : Int)
  /-- KEEP_ALIVE_TIMEOUT (R480). -/
  | keepAliveTimeout (p : Port)
  /-- REGISTER_READ (R513). -/
  | registerRead (r : Requester) (off : Nat) (len : Nat)
  /-- MIRROR_VIEW_WRITE (R303). -/
  | mirrorViewWrite (p : Port)
  /-- NVME_REGISTER_WRITE (R478). -/
  | nvmeRegisterWrite (p : Port) (off : Nat) (w : Word)
  /-- PCIE_CONFIG_WRITE (R475). -/
  | pcieConfigWrite (p : Port) (w : CfgWrite)
  /-- HOST_MEMORY_READ_COMPLETION (R477). -/
  | hostMemoryReadCompletion (p : Port) (f : HostFetch) (id : CmdId) (op prp len : Nat)
  /-- BARRIER_ACK_TIMEOUT (R45). -/
  | barrierAckTimeout
  /-- ENERGY_INSUFFICIENT_ENTRY (R62). -/
  | energyInsufficientEntry
  /-- ENERGY_INSUFFICIENT_EXIT (R62). -/
  | energyInsufficientExit
  /-- DEFICIT_EXIT (R78). -/
  | deficitExit
  /-- ENDURANCE_FILL_COMPUTE (R84). -/
  | enduranceFillCompute
  /-- ZONE_AGE_SWEEP (R81). -/
  | zoneAgeSweep
  /-- SEEP_STRIPE_ISSUE (R82). -/
  | seepStripeIssue
  /-- REHEARSAL_AUTO_TRIGGER (R88). -/
  | rehearsalAutoTrigger
  /-- POWER_FAIL_TRIP (R109). -/
  | powerFailTrip
  /-- VIN_SENSE_RISE (R115). -/
  | vinSenseRise
  /-- INPUT_RETURNED (R116). -/
  | inputReturned
  /-- VAULT_RELEASE (R109). -/
  | vaultRelease
  /-- POST_VAULT_DOMAIN_UP (R116). -/
  | postVaultDomainUp
  /-- PEER_WAIT_EXPIRY (R65). -/
  | peerWaitExpiry
  /-- COPY_PAUSE_EXPIRY (R126). -/
  | copyPauseExpiry
  /-- FORMAT_ARMED_EXPIRY (R176). -/
  | formatArmedExpiry
  /-- JOURNAL_FLUSH_TIMER (R163). -/
  | journalFlushTimer
  /-- GC_ERASE_DONE (R166). -/
  | gcEraseDone
  /-- REFRESH_DUE (R242). -/
  | refreshDue
  /-- REFRESH_CATCHUP (R242). -/
  | refreshCatchup
  /-- RH_WINDOW_END (R262). -/
  | rhWindowEnd
  /-- ECHO_TRAIN_RETRY (R286). -/
  | echoTrainRetry
  /-- ECHO_LINK_LOSS (R293). -/
  | echoLinkLoss
  /-- MACK_COALESCE_TIMER (R290). -/
  | mackCoalesceTimer
  /-- STATE_SEND_TIMER (R292). -/
  | stateSendTimer
  /-- LCTL_ACK_TIMER (R293). -/
  | lctlAckTimer
  /-- ECHO_SILENCE (R300). -/
  | echoSilence
  /-- LAPSED_REJOIN (R299). -/
  | lapsedRejoin
  /-- HELD_PENALTY_END (R302). -/
  | heldPenaltyEnd
  /-- REFUSED_RETRY (R299). -/
  | refusedRetry
  /-- RESYNC_GRANULE_READ (R306). -/
  | resyncGranuleRead
  /-- REPLACE_EXPIRY (R313). -/
  | replaceExpiry
  /-- LANTERN_NOR_COPY (R332). -/
  | lanternNorCopy
  /-- SIGMA_AGING (R337). -/
  | sigmaAging
  /-- LEARN_CHARGED (R555). -/
  | learnCharged
  /-- LEARN_CHARGE_TIMEOUT (R556). -/
  | learnChargeTimeout
  /-- LEARN_RECHARGE_DONE (R336). -/
  | learnRechargeDone
  /-- GROUP_READY_TIMEOUT (R358). -/
  | groupReadyTimeout
  /-- DELAY_UP_EXPIRY (R358). -/
  | delayUpExpiry
  /-- OFF_TIMEOUT (R359). -/
  | offTimeout
  /-- DELAY_DOWN_EXPIRY (R359). -/
  | delayDownExpiry
  /-- RETRY_DELAY_EXPIRY (R360). -/
  | retryDelayExpiry
  /-- SHORT_PRESS (R362). -/
  | shortPress
  /-- LONG_PRESS (R108). -/
  | longPress
  /-- CUT_PRESS (R364). -/
  | cutPress
  /-- GRACE_TIMEOUT (R361). -/
  | graceTimeout
  /-- FF_NOR_WRITE (R369). -/
  | ffNorWrite
  /-- MRST_N (R365). -/
  | mrstN
  /-- WAKE_N (R366). -/
  | wakeN
  /-- PLL_LOSS_OF_LOCK (R25). -/
  | pllLossOfLock
  /-- IDLE_TIMEOUT (R379). -/
  | idleTimeout
  /-- AUTO_SLEEP_TIMER (R380). -/
  | autoSleepTimer
  /-- DOMAIN_VOTE_TIMEOUT (R381). -/
  | domainVoteTimeout
  /-- SLEEP_RETRY_BACKOFF (R382). -/
  | sleepRetryBackoff
  /-- DEEP_PREP_DRAINED (R386). -/
  | deepPrepDrained
  /-- DEEP_PREP_TIMEOUT (R386). -/
  | deepPrepTimeout
  /-- DEEP_WAKE_TIMER (R387). -/
  | deepWakeTimer
  /-- SLEEP_GUARD_TRIP (R384). -/
  | sleepGuardTrip
  /-- SLEEP_CHECK (R384). -/
  | sleepCheck
  /-- SLEEP_EXIT (R385). -/
  | sleepExit
  /-- DOMAIN_READY (R390). -/
  | domainReady
  /-- AON_BOR_WARNING (R389). -/
  | aonBorWarning
  /-- AON_BOR_RESET (R389). -/
  | aonBorReset
  /-- SAFE_ARMED_EXPIRY (R438). -/
  | safeArmedExpiry
  /-- WDT_STAGE1_EXPIRY (R433). -/
  | wdtStage1Expiry
  /-- WDT_STAGE2_EXPIRY (R433). -/
  | wdtStage2Expiry
  /-- AON_CORE_TIMER (R434). -/
  | aonCoreTimer
  /-- TRIAL_WINDOW_END (R430). -/
  | trialWindowEnd
  /-- OPSEC_COPY (R436). -/
  | opsecCopy
  /-- AON_PATCH_SWAP (R431). -/
  | aonPatchSwap
  /-- THERMAL_SHUTDOWN (R550). -/
  | thermalShutdown
  /-- NOR_UNRESPONSIVE (R462). -/
  | norUnresponsive
  /-- CHALLENGE_EXPIRY (R467). -/
  | challengeExpiry
  /-- BASIC_MANAGEMENT_COMMAND (R505). -/
  | basicManagementCommand
  /-- SMBUS_ADDR_READ (R518). -/
  | smbusAddrRead
  /-- SMBUS_READ (R518). -/
  | smbusRead
  /-- SMBUS_STATUS (R519). -/
  | smbusStatus
  /-- SMBUS_CTRL_READ (R518). -/
  | smbusCtrlRead
  /-- SMBUS_STUCK_TIMEOUT (R544). -/
  | smbusStuckTimeout
  /-- UART_STATUS (R508). -/
  | uartStatus
  /-- UART_FF (R508). -/
  | uartFf
  /-- UART_HELP (R508). -/
  | uartHelp
  /-- UART_UNKNOWN (R508). -/
  | uartUnknown
  /-- ECHO_TRAINING_ATTEMPT_FAILED (R286). -/
  | echoTrainingAttemptFailed
  /-- NOR_SUPPLY_HOLD_EXPIRY (R369). -/
  | norSupplyHoldExpiry
  /-- JOURNAL_SEVERITY_SCAN_DONE (R456). -/
  | journalSeverityScanDone
deriving DecidableEq, Repr

end Sys2Proof
end

