-- ==== Sys2Proof/Machine/RegTable.lean ====
section
/-! DEFINITION. The register fields of the vendor window (R521), one definition per field, transcribed from the
field tables of the chapters: BAR0 offset, highest and lowest bit, access code (R9), reset value (R10, R517).
`img` marks a field that reads 0 until it is loaded from the configuration image (R11). Reserved bits have no definition: they read as zero. -/

namespace Sys2Proof.Machine.Reg

/-! SYS_ID (R438). -/
def SYS_ID_PART : Fld := fld 0x100000 31 16 .ro 38464
def SYS_ID_STEPPING : Fld := fld 0x100000 15 8 .ro 176
def SYS_ID_ORDER : Fld := fld 0x100000 3 0 .ro 0
/-! SYS_CTRL (R438). -/
def SYS_CTRL_SAFE_CLR : Fld := fld 0x100004 2 2 .wo 0
def SYS_CTRL_WARM_RST : Fld := fld 0x100004 1 1 .wo 0
def SYS_CTRL_INT_EN : Fld := fld 0x100004 0 0 .rw 0
/-! SYS_STATUS (R438). -/
def SYS_STATUS_FAILED_STARTS : Fld := fld 0x100008 31 28 .ro 0
def SYS_STATUS_LAST_FAIL : Fld := fld 0x100008 27 24 .ro 0
def SYS_STATUS_SR_VALID : Fld := fld 0x100008 8 8 .ro 0
def SYS_STATUS_SAFE_ARMED : Fld := fld 0x100008 7 7 .ro 0
def SYS_STATUS_NO_IMAGE : Fld := fld 0x100008 6 6 .ro 0
def SYS_STATUS_SAFE : Fld := fld 0x100008 5 5 .ro 0
def SYS_STATUS_PATH : Fld := fld 0x100008 2 0 .ro 0
/-! SYS_START_MS (R438). -/
def SYS_START_MS_MS : Fld := fld 0x10000C 15 0 .ro 0
/-! SYS_OPSEC (R438). -/
def SYS_OPSEC_PWR_CYCLES : Fld := fld 0x100010 63 40 .ro 0
def SYS_OPSEC_SECONDS : Fld := fld 0x100010 39 0 .ro 0
/-! SYS_UID (R438). -/
def SYS_UID_UID_HASH : Fld := fld 0x100018 63 0 .ro 0
/-! SYS_TEMP (R438). -/
def SYS_TEMP_TJ : Fld := fld 0x100020 7 0 .ro 0
/-! SYS_OTP (R438). -/
def SYS_OTP_SVN_MIN : Fld := fld 0x100024 23 16 .ro 0
def SYS_OTP_IMG_KEY : Fld := fld 0x100024 12 12 .ro 0
def SYS_OTP_REVOKED : Fld := fld 0x100024 11 8 .ro 0
def SYS_OTP_USED : Fld := fld 0x100024 3 0 .ro 0
/-! SYS_PROV_CTRL (R439). -/
def SYS_PROV_CTRL_SLOT : Fld := fld 0x100028 5 4 .rw 0
def SYS_PROV_CTRL_ERR : Fld := fld 0x100028 2 2 .ro 0
def SYS_PROV_CTRL_DONE : Fld := fld 0x100028 1 1 .ro 0
def SYS_PROV_CTRL_BURN : Fld := fld 0x100028 0 0 .wo 0
/-! SYS_PROV_DATA (R439). -/
def SYS_PROV_DATA_WORD : Fld := fld 0x10002C 31 0 .wo 0
/-! CLK_CTRL (R404). -/
def CLK_CTRL_MON_CLR : Fld := fld 0x110000 1 1 .wo 0
def CLK_CTRL_INT_EN : Fld := fld 0x110000 0 0 .rw 0
/-! CLK_STATUS (R404). -/
def CLK_STATUS_GATED : Fld := fld 0x110004 13 8 .ro 0
def CLK_STATUS_SUP_BACKUP : Fld := fld 0x110004 5 5 .ro 0
def CLK_STATUS_FAULT_EV : Fld := fld 0x110004 4 4 .w1c 0
def CLK_STATUS_HOLD : Fld := fld 0x110004 3 3 .ro 0
def CLK_STATUS_FAULT : Fld := fld 0x110004 2 2 .ro 0
def CLK_STATUS_LOCK : Fld := fld 0x110004 1 1 .ro 0
def CLK_STATUS_XTAL_OK : Fld := fld 0x110004 0 0 .ro 0
/-! CLK_MON (R404). -/
def CLK_MON_COUNT : Fld := fld 0x110008 15 0 .ro 0
/-! CLK_MON_RANGE (R404). -/
def CLK_MON_RANGE_MAX : Fld := fld 0x11000C 31 16 .ro 0
def CLK_MON_RANGE_MIN : Fld := fld 0x11000C 15 0 .ro 65535
/-! CLK_BRANCH (R404). -/
def CLK_BRANCH_NAND_DIV : Fld := fldI 0x110010 3 2 .ro
def CLK_BRANCH_DRAM_DIV : Fld := fldI 0x110010 1 0 .ro
/-! CLK_FAULT_CNT (R404). -/
def CLK_FAULT_CNT_RELOCKS : Fld := fld 0x110014 31 16 .ro 0
def CLK_FAULT_CNT_FAULTS : Fld := fld 0x110014 15 0 .ro 0
/-! PWR_CTRL (R397). -/
def PWR_CTRL_CNT_CLR : Fld := fld 0x120000 5 5 .wo 0
def PWR_CTRL_INT_EN : Fld := fld 0x120000 4 4 .rw 0
def PWR_CTRL_WAKE_REQ : Fld := fld 0x120000 3 3 .wo 0
def PWR_CTRL_DEEP_REQ : Fld := fld 0x120000 2 2 .wo 0
def PWR_CTRL_SLEEP_REQ : Fld := fld 0x120000 1 1 .wo 0
def PWR_CTRL_CANCEL : Fld := fld 0x120000 0 0 .wo 0
/-! PWR_STATUS (R397). -/
def PWR_STATUS_DOM_FAIL : Fld := fld 0x120004 31 24 .ro 0
def PWR_STATUS_GUARD : Fld := fld 0x120004 11 11 .ro 0
def PWR_STATUS_RETRY : Fld := fld 0x120004 10 10 .ro 0
def PWR_STATUS_WAKE_EV : Fld := fld 0x120004 9 9 .w1c 0
def PWR_STATUS_REFUSE_EV : Fld := fld 0x120004 8 8 .w1c 0
def PWR_STATUS_TARGET : Fld := fld 0x120004 6 4 .ro 0
def PWR_STATUS_STATE : Fld := fld 0x120004 3 0 .ro 0
/-! PWR_CFG (R398). -/
def PWR_CFG_SLEEP_CHECK_MIN : Fld := fldR 0x120008 31 24 1 255
def PWR_CFG_AUTO_SLEEP_S : Fld := fldR 0x120008 23 16 0 255
def PWR_CFG_IDLE_MS : Fld := fldR 0x120008 15 8 1 255
def PWR_CFG_DEEP_EN : Fld := fldI 0x120008 0 0 .rwl
/-! PWR_CFG2 (R398). -/
def PWR_CFG2_WAKE_TIMER_MIN : Fld := fldI 0x12000C 31 16 .rwl
def PWR_CFG2_BACKOFF_MAX : Fld := fldR 0x12000C 11 8 0 10
def PWR_CFG2_VOTE_MS : Fld := fldR 0x12000C 7 0 1 100
/-! PWR_DOMAIN (R399). -/
def PWR_DOMAIN_LOGIC_OK7 : Fld := fld 0x120010 31 31 .ro 0
def PWR_DOMAIN_MEM_OK7 : Fld := fld 0x120010 30 30 .ro 0
def PWR_DOMAIN_CLK_OK7 : Fld := fld 0x120010 29 29 .ro 0
def PWR_DOMAIN_PG7 : Fld := fld 0x120010 28 28 .ro 0
def PWR_DOMAIN_LOGIC_OK6 : Fld := fld 0x120010 27 27 .ro 0
def PWR_DOMAIN_MEM_OK6 : Fld := fld 0x120010 26 26 .ro 0
def PWR_DOMAIN_CLK_OK6 : Fld := fld 0x120010 25 25 .ro 0
def PWR_DOMAIN_PG6 : Fld := fld 0x120010 24 24 .ro 0
def PWR_DOMAIN_LOGIC_OK5 : Fld := fld 0x120010 23 23 .ro 0
def PWR_DOMAIN_MEM_OK5 : Fld := fld 0x120010 22 22 .ro 0
def PWR_DOMAIN_CLK_OK5 : Fld := fld 0x120010 21 21 .ro 0
def PWR_DOMAIN_PG5 : Fld := fld 0x120010 20 20 .ro 0
def PWR_DOMAIN_LOGIC_OK4 : Fld := fld 0x120010 19 19 .ro 0
def PWR_DOMAIN_MEM_OK4 : Fld := fld 0x120010 18 18 .ro 0
def PWR_DOMAIN_CLK_OK4 : Fld := fld 0x120010 17 17 .ro 0
def PWR_DOMAIN_PG4 : Fld := fld 0x120010 16 16 .ro 0
def PWR_DOMAIN_LOGIC_OK3 : Fld := fld 0x120010 15 15 .ro 0
def PWR_DOMAIN_MEM_OK3 : Fld := fld 0x120010 14 14 .ro 0
def PWR_DOMAIN_CLK_OK3 : Fld := fld 0x120010 13 13 .ro 0
def PWR_DOMAIN_PG3 : Fld := fld 0x120010 12 12 .ro 0
def PWR_DOMAIN_LOGIC_OK2 : Fld := fld 0x120010 11 11 .ro 0
def PWR_DOMAIN_MEM_OK2 : Fld := fld 0x120010 10 10 .ro 0
def PWR_DOMAIN_CLK_OK2 : Fld := fld 0x120010 9 9 .ro 0
def PWR_DOMAIN_PG2 : Fld := fld 0x120010 8 8 .ro 0
def PWR_DOMAIN_LOGIC_OK1 : Fld := fld 0x120010 7 7 .ro 0
def PWR_DOMAIN_MEM_OK1 : Fld := fld 0x120010 6 6 .ro 0
def PWR_DOMAIN_CLK_OK1 : Fld := fld 0x120010 5 5 .ro 0
def PWR_DOMAIN_PG1 : Fld := fld 0x120010 4 4 .ro 0
def PWR_DOMAIN_LOGIC_OK0 : Fld := fld 0x120010 3 3 .ro 0
def PWR_DOMAIN_MEM_OK0 : Fld := fld 0x120010 2 2 .ro 0
def PWR_DOMAIN_CLK_OK0 : Fld := fld 0x120010 1 1 .ro 0
def PWR_DOMAIN_PG0 : Fld := fld 0x120010 0 0 .ro 0
/-! PWR_WAKE (R399). -/
def PWR_WAKE_COUNT : Fld := fld 0x120014 31 16 .ro 0
def PWR_WAKE_FROM : Fld := fld 0x120014 10 8 .ro 0
def PWR_WAKE_SOURCE : Fld := fld 0x120014 4 0 .ro 0
/-! PWR_REFUSE_LAST (R400). -/
def PWR_REFUSE_LAST_TARGET : Fld := fld 0x120018 13 12 .ro 0
def PWR_REFUSE_LAST_K : Fld := fld 0x120018 11 8 .ro 0
def PWR_REFUSE_LAST_REASON : Fld := fld 0x120018 7 3 .ro 0
def PWR_REFUSE_LAST_DOMAIN : Fld := fld 0x120018 2 0 .ro 0
/-! PWR_REFUSE_CNT0 (R400). -/
def PWR_REFUSE_CNT0_DRAM : Fld := fld 0x12001C 31 24 .ro 0
def PWR_REFUSE_CNT0_FAB : Fld := fld 0x12001C 23 16 .ro 0
def PWR_REFUSE_CNT0_CTRL : Fld := fld 0x12001C 15 8 .ro 0
def PWR_REFUSE_CNT0_SUP : Fld := fld 0x12001C 7 0 .ro 0
/-! PWR_REFUSE_CNT1 (R400). -/
def PWR_REFUSE_CNT1_ECHO : Fld := fld 0x120020 23 16 .ro 0
def PWR_REFUSE_CNT1_HOST : Fld := fld 0x120020 15 8 .ro 0
def PWR_REFUSE_CNT1_NAND : Fld := fld 0x120020 7 0 .ro 0
/-! PWR_OFFACC (R400). -/
def PWR_OFFACC_COUNT : Fld := fld 0x120024 31 16 .ro 0
def PWR_OFFACC_DOMAIN : Fld := fld 0x120024 10 8 .ro 0
def PWR_OFFACC_REQUESTER : Fld := fld 0x120024 2 0 .ro 0
/-! PWR_OFFACC_ADDR (R400). -/
def PWR_OFFACC_ADDR_ADDR : Fld := fld 0x120028 31 0 .ro 0
/-! PWR_AON (R401). -/
def PWR_AON_BOR_WARN : Fld := fld 0x12002C 2 2 .w1c 0
def PWR_AON_LP_MODE : Fld := fld 0x12002C 1 1 .ro 0
def PWR_AON_AON_LOST : Fld := fld 0x12002C 0 0 .ro 0
/-! PWR_SAVE (R401). -/
def PWR_SAVE_VALID : Fld := fld 0x120030 31 31 .ro 0
def PWR_SAVE_CRC_ERR : Fld := fld 0x120030 30 30 .w1c 0
def PWR_SAVE_WORDS : Fld := fld 0x120030 27 16 .ro 0
def PWR_SAVE_LIST_VER : Fld := fld 0x120030 7 0 .ro 0
/-! PWR_LEAVE_BUDGET (R402). -/
def PWR_LEAVE_BUDGET_RUN_MW : Fld := fldI 0x120034 31 16 .rwl
def PWR_LEAVE_BUDGET_BASE_MW : Fld := fldI 0x120034 15 0 .rwl
/-! PWR_LEAVE_COST0 (R402). -/
def PWR_LEAVE_COST0_TRAIN_MW : Fld := fldI 0x120038 31 16 .rwl
def PWR_LEAVE_COST0_PHY_MW : Fld := fldI 0x120038 15 0 .rwl
/-! PWR_LEAVE_COST1 (R402). -/
def PWR_LEAVE_COST1_PROG_MW : Fld := fldI 0x12003C 31 24 .rwl
def PWR_LEAVE_COST1_ERASE_MW : Fld := fldI 0x12003C 23 16 .rwl
def PWR_LEAVE_COST1_STRIPE_MW : Fld := fldI 0x12003C 15 0 .rwl
/-! PWR_LEAVE_STATUS (R402). -/
def PWR_LEAVE_STATUS_BUDGET_MW : Fld := fld 0x120040 31 16 .ro 0
def PWR_LEAVE_STATUS_HELD_MW : Fld := fld 0x120040 15 0 .ro 0
/-! PWR_LEAVE_QUEUE (R402). -/
def PWR_LEAVE_QUEUE_REJECTS : Fld := fld 0x120044 31 16 .rc 0
def PWR_LEAVE_QUEUE_QUEUED : Fld := fld 0x120044 15 8 .ro 0
def PWR_LEAVE_QUEUE_VAULT : Fld := fld 0x120044 2 0 .ro 0
/-! SUP_CTRL (R372). -/
def SUP_CTRL_FF_ACK : Fld := fld 0x130000 3 3 .wo 0
def SUP_CTRL_OFF_REQ : Fld := fld 0x130000 2 2 .wo 0
def SUP_CTRL_FAULT_CLR : Fld := fld 0x130000 1 1 .wo 0
def SUP_CTRL_INT_EN : Fld := fld 0x130000 0 0 .rw 0
/-! SUP_STATUS (R372). -/
def SUP_STATUS_BTN_EV : Fld := fld 0x130004 18 18 .w1c 0
def SUP_STATUS_SEQ_EV : Fld := fld 0x130004 17 17 .w1c 0
def SUP_STATUS_FAULT_EV : Fld := fld 0x130004 16 16 .w1c 0
def SUP_STATUS_TABLE_ROM : Fld := fld 0x130004 8 8 .ro 0
def SUP_STATUS_FF_NOR_PENDING : Fld := fld 0x130004 7 7 .ro 0
def SUP_STATUS_ON_PENDING : Fld := fld 0x130004 6 6 .ro 0
def SUP_STATUS_OFF_PENDING : Fld := fld 0x130004 5 5 .ro 0
def SUP_STATUS_VAULT_SUPPRESS : Fld := fld 0x130004 4 4 .ro 0
def SUP_STATUS_FAULT_N : Fld := fld 0x130004 3 3 .ro 0
def SUP_STATUS_ALERT : Fld := fld 0x130004 2 2 .ro 0
def SUP_STATUS_LOCKOUT : Fld := fld 0x130004 1 1 .ro 0
def SUP_STATUS_SEQ_DONE : Fld := fld 0x130004 0 0 .ro 0
/-! SUP_SCAN_CFG (R373). -/
def SUP_SCAN_CFG_HYST : Fld := fldR 0x130008 15 8 0 255
def SUP_SCAN_CFG_PG_SCANS : Fld := fldR 0x130008 6 4 1 7
def SUP_SCAN_CFG_FILT : Fld := fldR 0x130008 2 0 1 4
/-! SUP_SEQ_CFG (R373). -/
def SUP_SEQ_CFG_RUN_LIMIT : Fld := fldR 0x13000C 23 20 1 15
def SUP_SEQ_CFG_WAKE_ON_OFF : Fld := fldI 0x13000C 17 17 .rwl
def SUP_SEQ_CFG_AUTO_ON : Fld := fldI 0x13000C 16 16 .rwl
def SUP_SEQ_CFG_RETRY_DELAY : Fld := fldR 0x13000C 15 8 1 255
def SUP_SEQ_CFG_RETRIES : Fld := fldR 0x13000C 6 4 0 7
def SUP_SEQ_CFG_BOOT_GROUP : Fld := fldI 0x13000C 2 0 .rwl
/-! SUP_BTN_CFG (R373). -/
def SUP_BTN_CFG_ORDERLY_S : Fld := fldR 0x130010 23 16 0 255
def SUP_BTN_CFG_SHORT_MIN : Fld := fldR 0x130010 15 8 2 20
def SUP_BTN_CFG_LONG_S : Fld := fldR 0x130010 3 0 4 15
/-! SUP_SEQ_STATUS (R374). -/
def SUP_SEQ_STATUS_RUN_FAULTS : Fld := fld 0x130014 23 16 .ro 0
def SUP_SEQ_STATUS_ATTEMPT : Fld := fld 0x130014 10 8 .ro 0
def SUP_SEQ_STATUS_GROUP : Fld := fld 0x130014 6 4 .ro 0
def SUP_SEQ_STATUS_STATE : Fld := fld 0x130014 2 0 .ro 0
/-! SUP_FAULT (R374). -/
def SUP_FAULT_LATCHED : Fld := fld 0x130018 63 0 .ro 0
/-! SUP_FF_INFO (R374). -/
def SUP_FF_INFO_CODE : Fld := fld 0x130020 31 20 .ro 0
def SUP_FF_INFO_CHANNEL : Fld := fld 0x130020 19 14 .ro 0
def SUP_FF_INFO_KIND : Fld := fld 0x130020 13 11 .ro 0
def SUP_FF_INFO_PHASE : Fld := fld 0x130020 10 8 .ro 0
def SUP_FF_INFO_GROUP : Fld := fld 0x130020 7 4 .ro 0
def SUP_FF_INFO_ATTEMPT : Fld := fld 0x130020 3 1 .ro 0
def SUP_FF_INFO_VALID : Fld := fld 0x130020 0 0 .ro 0
/-! SUP_FF_STAT (R374). -/
def SUP_FF_STAT_DROPPED : Fld := fld 0x130024 31 16 .ro 0
def SUP_FF_STAT_QUEUED : Fld := fld 0x130024 3 0 .ro 0
/-! SUP_FF_TIME (R374). -/
def SUP_FF_TIME_TIME : Fld := fld 0x130028 63 0 .ro 0
/-! SUP_FF_MASK (R374). -/
def SUP_FF_MASK_OUT_MASK : Fld := fld 0x130030 63 0 .ro 0
/-! SUP_GRPg_CFG (R375). -/
def SUP_GRPg_CFG_STAGGER (n : Nat) : Fld := fldI (0x130040 + 8 * n) 23 16 .rwl
def SUP_GRPg_CFG_DELAY_UP (n : Nat) : Fld := fldI (0x130040 + 8 * n) 15 8 .rwl
def SUP_GRPg_CFG_T_READY (n : Nat) : Fld := fldR (0x130040 + 8 * n) 7 0 1 255
/-! SUP_GRPg_CFG2 (R375). -/
def SUP_GRPg_CFG2_DELAY_DOWN (n : Nat) : Fld := fldI (0x130044 + 8 * n) 15 8 .rwl
def SUP_GRPg_CFG2_T_OFF (n : Nat) : Fld := fldR (0x130044 + 8 * n) 7 0 1 255
/-! SUP_CHn_CFG (R376). -/
def SUP_CHn_CFG_DRAM_SR (n : Nat) : Fld := fldI (0x130100 + 16 * n) 13 13 .rwl
def SUP_CHn_CFG_EN_POL (n : Nat) : Fld := fldI (0x130100 + 16 * n) 12 12 .rwl
def SUP_CHn_CFG_KEEP_DEEP (n : Nat) : Fld := fldI (0x130100 + 16 * n) 11 11 .rwl
def SUP_CHn_CFG_KEEP_SLEEP (n : Nat) : Fld := fldI (0x130100 + 16 * n) 10 10 .rwl
def SUP_CHn_CFG_NOR_SUPPLY (n : Nat) : Fld := fldI (0x130100 + 16 * n) 9 9 .rwl
def SUP_CHn_CFG_VAULT_USE (n : Nat) : Fld := fldI (0x130100 + 16 * n) 8 8 .rwl
def SUP_CHn_CFG_OV_ACT (n : Nat) : Fld := fldI (0x130100 + 16 * n) 7 6 .rwl
def SUP_CHn_CFG_UV_ACT (n : Nat) : Fld := fldI (0x130100 + 16 * n) 5 4 .rwl
def SUP_CHn_CFG_GROUP (n : Nat) : Fld := fldIR (0x130100 + 16 * n) 3 0 .rwl 0xE
/-! SUP_CHn_THR (R376). -/
def SUP_CHn_THR_OV (n : Nat) : Fld := fldI (0x130104 + 16 * n) 27 16 .rwl
def SUP_CHn_THR_UV (n : Nat) : Fld := fldI (0x130104 + 16 * n) 11 0 .rwl
/-! SUP_CHn_LVL (R376). -/
def SUP_CHn_LVL_OFF (n : Nat) : Fld := fldI (0x130108 + 16 * n) 27 16 .rwl
def SUP_CHn_LVL_PG (n : Nat) : Fld := fldI (0x130108 + 16 * n) 11 0 .rwl
/-! SUP_CHn_VAL (R376). -/
def SUP_CHn_VAL_EN (n : Nat) : Fld := fld (0x13010C + 16 * n) 31 31 .ro 0
def SUP_CHn_VAL_READY (n : Nat) : Fld := fld (0x13010C + 16 * n) 30 30 .ro 0
def SUP_CHn_VAL_UV_LATCH (n : Nat) : Fld := fld (0x13010C + 16 * n) 29 29 .w1c 0
def SUP_CHn_VAL_OV_LATCH (n : Nat) : Fld := fld (0x13010C + 16 * n) 28 28 .w1c 0
def SUP_CHn_VAL_CODE (n : Nat) : Fld := fld (0x13010C + 16 * n) 11 0 .ro 0
/-! LAN_CTRL (R345). -/
def LAN_CTRL_FAULT_CLR : Fld := fld 0x140000 8 8 .wo 0
def LAN_CTRL_INT_EN : Fld := fld 0x140000 7 7 .rw 0
def LAN_CTRL_LEARN_CANCEL : Fld := fld 0x140000 6 6 .wo 0
def LAN_CTRL_LEARN_REQ : Fld := fld 0x140000 5 5 .wo 0
def LAN_CTRL_LEARN_PORT : Fld := fld 0x140000 2 0 .rw 0
/-! LAN_STATUS (R345). -/
def LAN_STATUS_LEARN_DONE : Fld := fld 0x140004 19 19 .w1c 0
def LAN_STATUS_FAULT_EV : Fld := fld 0x140004 18 18 .w1c 0
def LAN_STATUS_DISAGREE_EV : Fld := fld 0x140004 17 17 .w1c 0
def LAN_STATUS_SWAP_EV : Fld := fld 0x140004 16 16 .w1c 0
def LAN_STATUS_OUT_VALID : Fld := fld 0x140004 11 11 .ro 0
def LAN_STATUS_OUT_PORT : Fld := fld 0x140004 10 8 .ro 0
def LAN_STATUS_GUARD : Fld := fld 0x140004 6 6 .ro 0
def LAN_STATUS_LOST : Fld := fld 0x140004 5 5 .ro 0
def LAN_STATUS_DISAGREE : Fld := fld 0x140004 4 4 .ro 0
def LAN_STATUS_REST_ACTIVE : Fld := fld 0x140004 3 3 .ro 0
def LAN_STATUS_LEARN_ACTIVE : Fld := fld 0x140004 2 2 .ro 0
def LAN_STATUS_ALL_LEARNED : Fld := fld 0x140004 1 1 .ro 0
def LAN_STATUS_CONVERGED : Fld := fld 0x140004 0 0 .ro 0
/-! LAN_BUS_CFG (R346). -/
def LAN_BUS_CFG_LEARN_MARGIN : Fld := fldR 0x140008 31 16 100 5000
def LAN_BUS_CFG_V_FLOOR : Fld := fldR 0x140008 15 0 1 65535
/-! LAN_FILT_CFG (R346). -/
def LAN_FILT_CFG_CONV_SOC : Fld := fldR 0x14000C 31 24 5 100
def LAN_FILT_CFG_CONV_V : Fld := fldR 0x14000C 23 16 5 255
def LAN_FILT_CFG_DISAGREE_S : Fld := fldR 0x14000C 15 8 10 255
def LAN_FILT_CFG_GATE : Fld := fldR 0x14000C 7 4 3 8
def LAN_FILT_CFG_K : Fld := fldR 0x14000C 3 0 2 6
/-! LAN_LEARN_CFG (R346). -/
def LAN_LEARN_CFG_RETRY_H : Fld := fldR 0x140010 31 24 1 168
def LAN_LEARN_CFG_LEARN_SIGMA : Fld := fldR 0x140010 23 16 5 50
def LAN_LEARN_CFG_AGE_PCT : Fld := fldR 0x140010 15 8 10 200
def LAN_LEARN_CFG_INTERVAL_D : Fld := fldR 0x140010 7 0 7 255
/-! LAN_REST_CFG (R346). -/
def LAN_REST_CFG_PERIOD_H : Fld := fldR 0x140014 23 16 6 72
def LAN_REST_CFG_NATURAL_MIN : Fld := fldR 0x140014 15 8 10 120
def LAN_REST_CFG_REST_MIN : Fld := fldR 0x140014 7 0 5 60
/-! LAN_ENERGY (R347). -/
def LAN_ENERGY_E_MJ : Fld := fld 0x140018 31 0 .ro 0
/-! LAN_ENERGY_PT (R347). -/
def LAN_ENERGY_PT_E_MJ : Fld := fld 0x14001C 31 0 .ro 0
/-! LAN_GEN (R347). -/
def LAN_GEN_GEN : Fld := fld 0x140020 31 0 .ro 0
/-! LAN_LEARN_STATUS (R347). -/
def LAN_LEARN_STATUS_DUE : Fld := fld 0x140024 23 16 .ro 0
def LAN_LEARN_STATUS_LAST_OUTCOME : Fld := fld 0x140024 10 8 .ro 0
def LAN_LEARN_STATUS_STEP : Fld := fld 0x140024 6 4 .ro 0
def LAN_LEARN_STATUS_PORT : Fld := fld 0x140024 2 0 .ro 0
/-! LAN_VAULT_GUAR (R347). -/
def LAN_VAULT_GUAR_E_MJ : Fld := fld 0x140028 31 0 .ro 0
/-! LAN_VAULT_DELIV (R347). -/
def LAN_VAULT_DELIV_E_MJ : Fld := fld 0x14002C 31 0 .ro 0
/-! LAN_REH_ENERGY (R347). -/
def LAN_REH_ENERGY_E_MJ : Fld := fld 0x140030 31 0 .ro 0
/-! LAN_Mn_STATUS (R348). -/
def LAN_Mn_STATUS_PROFILE (n : Nat) : Fld := fld (0x140100 + 64 * n) 18 16 .ro 0
def LAN_Mn_STATUS_FAULT (n : Nat) : Fld := fld (0x140100 + 64 * n) 15 13 .ro 0
def LAN_Mn_STATUS_REST_OVERDUE (n : Nat) : Fld := fld (0x140100 + 64 * n) 12 12 .ro 0
def LAN_Mn_STATUS_DISAGREE (n : Nat) : Fld := fld (0x140100 + 64 * n) 11 11 .ro 0
def LAN_Mn_STATUS_CHG_INHIBIT (n : Nat) : Fld := fld (0x140100 + 64 * n) 10 10 .ro 0
def LAN_Mn_STATUS_LOWCUR (n : Nat) : Fld := fld (0x140100 + 64 * n) 9 9 .ro 0
def LAN_Mn_STATUS_LEARNED (n : Nat) : Fld := fld (0x140100 + 64 * n) 8 8 .ro 0
def LAN_Mn_STATUS_ID_CODE (n : Nat) : Fld := fld (0x140100 + 64 * n) 7 4 .ro 0
def LAN_Mn_STATUS_STATE (n : Nat) : Fld := fldI (0x140100 + 64 * n) 3 0 .ro
/-! LAN_Mn_CURRENT (R348). -/
def LAN_Mn_CURRENT_MA (n : Nat) : Fld := fld (0x140104 + 64 * n) 31 0 .ro 0
/-! LAN_Mn_VT (R348). -/
def LAN_Mn_VT_TEMP (n : Nat) : Fld := fld (0x140108 + 64 * n) 23 16 .ro 0
def LAN_Mn_VT_MV (n : Nat) : Fld := fld (0x140108 + 64 * n) 15 0 .ro 0
/-! LAN_Mn_CHARGE (R348). -/
def LAN_Mn_CHARGE_MC (n : Nat) : Fld := fld (0x14010C + 64 * n) 31 0 .ro 0
/-! LAN_Mn_ENERGY (R348). -/
def LAN_Mn_ENERGY_MJ (n : Nat) : Fld := fld (0x140110 + 64 * n) 31 0 .ro 0
/-! LAN_Mn_CAP (R348). -/
def LAN_Mn_CAP_SIGMA (n : Nat) : Fld := fld (0x140114 + 64 * n) 31 24 .ro 0
def LAN_Mn_CAP_CAP (n : Nat) : Fld := fld (0x140114 + 64 * n) 23 0 .ro 0
/-! LAN_Mn_ESR (R348). -/
def LAN_Mn_ESR_STEPS (n : Nat) : Fld := fld (0x140118 + 64 * n) 31 24 .ro 0
def LAN_Mn_ESR_UOHM (n : Nat) : Fld := fld (0x140118 + 64 * n) 23 0 .ro 0
/-! LAN_Mn_STATE (R348). -/
def LAN_Mn_STATE_SQRT_P (n : Nat) : Fld := fld (0x14011C + 64 * n) 31 16 .ro 0
def LAN_Mn_STATE_X (n : Nat) : Fld := fld (0x14011C + 64 * n) 15 0 .ro 0
/-! LAN_Mn_ACCUM (R348). -/
def LAN_Mn_ACCUM_NC (n : Nat) : Fld := fld (0x140120 + 64 * n) 63 0 .ro 0
/-! LAN_Mn_REST (R348). -/
def LAN_Mn_REST_LEAK_UA (n : Nat) : Fld := fld (0x140128 + 64 * n) 31 16 .ro 0
def LAN_Mn_REST_SINCE_MIN (n : Nat) : Fld := fld (0x140128 + 64 * n) 15 0 .ro 0
/-! LAN_Mn_CHG (R348). -/
def LAN_Mn_CHG_TARGET_MV (n : Nat) : Fld := fld (0x14012C + 64 * n) 23 8 .ro 0
def LAN_Mn_CHG_DUTY (n : Nat) : Fld := fld (0x14012C + 64 * n) 7 0 .ro 0
/-! LAN_Mn_LEARN (R348). -/
def LAN_Mn_LEARN_SWAPS (n : Nat) : Fld := fld (0x140130 + 64 * n) 31 16 .ro 0
def LAN_Mn_LEARN_AGE_D (n : Nat) : Fld := fld (0x140130 + 64 * n) 15 0 .ro 65535
/-! UMB_CTRL (R93). -/
def UMB_CTRL_INT_EN : Fld := fld 0x150000 2 2 .rw 0
def UMB_CTRL_SEEP_HOLD : Fld := fld 0x150000 1 1 .rw 0
def UMB_CTRL_REH_START : Fld := fld 0x150000 0 0 .wo 0
/-! UMB_STATUS (R94). -/
def UMB_STATUS_REH_DONE : Fld := fld 0x150004 18 18 .w1c 0
def UMB_STATUS_DEFICIT_EV : Fld := fld 0x150004 17 17 .w1c 0
def UMB_STATUS_THR_EV : Fld := fld 0x150004 16 16 .w1c 0
def UMB_STATUS_CLAMP_RESERVE : Fld := fld 0x150004 10 10 .ro 0
def UMB_STATUS_CLAMP_CACHE : Fld := fld 0x150004 9 9 .ro 0
def UMB_STATUS_SEEP_BORROW : Fld := fld 0x150004 8 8 .ro 0
def UMB_STATUS_INSUFF : Fld := fld 0x150004 7 7 .ro 0
def UMB_STATUS_REH_ACTIVE : Fld := fld 0x150004 6 6 .ro 0
def UMB_STATUS_DEFAULTS : Fld := fld 0x150004 5 5 .ro 1
def UMB_STATUS_STALE : Fld := fld 0x150004 4 4 .ro 0
def UMB_STATUS_THR_B : Fld := fld 0x150004 3 3 .ro 0
def UMB_STATUS_THR_A : Fld := fld 0x150004 2 2 .ro 0
def UMB_STATUS_DEFICIT : Fld := fld 0x150004 1 1 .ro 0
def UMB_STATUS_COLD_CAP : Fld := fld 0x150004 0 0 .ro 1
/-! UMB_HORIZON (R95). -/
def UMB_HORIZON_BYTES : Fld := fld 0x150008 63 0 .ro 0
/-! UMB_DIRTY_OWN (R95). -/
def UMB_DIRTY_OWN_BYTES : Fld := fld 0x150010 63 0 .ro 0
/-! UMB_DIRTY_MIRROR (R95). -/
def UMB_DIRTY_MIRROR_BYTES : Fld := fld 0x150018 63 0 .ro 0
/-! UMB_DEFICIT (R95). -/
def UMB_DEFICIT_BYTES : Fld := fld 0x150020 63 0 .ro 0
/-! UMB_ENERGY (R96). -/
def UMB_ENERGY_E_MJ : Fld := fld 0x150028 31 0 .ro 0
/-! UMB_VPOWER (R96). -/
def UMB_VPOWER_P_MW : Fld := fldI 0x15002C 23 0 .ro
/-! UMB_VRATE (R96). -/
def UMB_VRATE_B_MBS : Fld := fldI 0x150030 23 0 .ro
/-! UMB_MODEL_CFG (R97). -/
def UMB_MODEL_CFG_BETA : Fld := fldI 0x150034 23 16 .rwl
def UMB_MODEL_CFG_ALPHA : Fld := fldI 0x150034 15 8 .rwl
def UMB_MODEL_CFG_MARGIN : Fld := fldR 0x150034 7 0 10 60
/-! UMB_FIXED_CFG (R97). -/
def UMB_FIXED_CFG_T_TAIL : Fld := fldI 0x150038 31 16 .rwl
def UMB_FIXED_CFG_T_CARRY : Fld := fldI 0x150038 15 0 .rwl
/-! UMB_CAP_CFG (R98). -/
def UMB_CAP_CFG_FLOOR : Fld := fldR 0x15003C 31 16 64 8192
def UMB_CAP_CFG_COLD_CAP : Fld := fldR 0x15003C 15 0 16 1024
/-! UMB_SEEP_CFG (R98). -/
def UMB_SEEP_CFG_MIRROR_SHARE : Fld := fldI 0x150040 27 24 .rwl
def UMB_SEEP_CFG_AGE_PERIOD : Fld := fldR 0x150040 23 16 1 255
def UMB_SEEP_CFG_TAU : Fld := fldR 0x150040 15 8 1 255
def UMB_SEEP_CFG_TARGET : Fld := fldR 0x150040 6 0 10 90
/-! UMB_SEEP_RATE (R99). -/
def UMB_SEEP_RATE_MODE : Fld := fld 0x150044 26 24 .ro 0
def UMB_SEEP_RATE_RATE : Fld := fld 0x150044 23 0 .ro 0
/-! UMB_ENDUR_LEVEL (R100). -/
def UMB_ENDUR_LEVEL_LEVEL : Fld := fld 0x150048 63 0 .ro 0
/-! UMB_ENDUR_FILL (R100). -/
def UMB_ENDUR_FILL_FILL : Fld := fld 0x150050 31 0 .ro 0
/-! UMB_ENDUR_CFG (R100). -/
def UMB_ENDUR_CFG_LIFE : Fld := fldI 0x150054 31 24 .rwl
def UMB_ENDUR_CFG_RESERVE : Fld := fldR 0x150054 23 16 5 50
def UMB_ENDUR_CFG_PE_LIMIT : Fld := fldI 0x150054 15 0 .rwl
/-! UMB_PEER_OUT (R101). -/
def UMB_PEER_OUT_GRANULES : Fld := fld 0x150058 31 0 .ro 0
/-! UMB_PEER_IN (R101). -/
def UMB_PEER_IN_GRANULES : Fld := fld 0x15005C 31 0 .ro 0
/-! UMB_REH_CFG (R102). -/
def UMB_REH_CFG_TEMP_TRIG : Fld := fldI 0x150060 23 18 .rwl
def UMB_REH_CFG_WINDOW_MS : Fld := fldR 0x150060 17 8 50 500
def UMB_REH_CFG_INTERVAL : Fld := fldR 0x150060 7 0 1 168
/-! UMB_REH_RESULT (R102). -/
def UMB_REH_RESULT_RATE : Fld := fld 0x150064 31 16 .ro 0
def UMB_REH_RESULT_POWER : Fld := fld 0x150064 15 0 .ro 0
/-! UMB_REH_INFO (R102). -/
def UMB_REH_INFO_AGE_H : Fld := fld 0x150068 31 16 .ro 65535
def UMB_REH_INFO_OUTCOME : Fld := fld 0x150068 10 8 .ro 0
def UMB_REH_INFO_TEMP : Fld := fld 0x150068 7 0 .ro 0
/-! UMB_THROTTLE_MS (R103). -/
def UMB_THROTTLE_MS_COUNT : Fld := fld 0x15006C 31 0 .rc 0
/-! UMB_GEN (R103). -/
def UMB_GEN_GEN : Fld := fld 0x150070 31 0 .ro 0
/-! VLT_CTRL (R133). -/
def VLT_CTRL_INT_EN : Fld := fld 0x160000 2 2 .rw 0
def VLT_CTRL_COPY_PAUSE : Fld := fld 0x160000 1 1 .rw 0
def VLT_CTRL_STAT_CLR : Fld := fld 0x160000 0 0 .wo 0
/-! VLT_STATUS (R134). -/
def VLT_STATUS_RESTORE_DONE : Fld := fld 0x160004 17 17 .w1c 0
def VLT_STATUS_VAULT_DONE : Fld := fld 0x160004 16 16 .w1c 0
def VLT_STATUS_FROM_PEER : Fld := fld 0x160004 11 11 .ro 0
def VLT_STATUS_FULL_SCAN : Fld := fld 0x160004 10 10 .ro 0
def VLT_STATUS_BLOCK_FALLBACK : Fld := fld 0x160004 9 9 .ro 0
def VLT_STATUS_DEGRADED : Fld := fld 0x160004 8 8 .ro 0
def VLT_STATUS_INPUT_RET : Fld := fld 0x160004 7 7 .ro 0
def VLT_STATUS_HOLD : Fld := fld 0x160004 6 6 .ro 0
def VLT_STATUS_ARMED : Fld := fld 0x160004 5 5 .ro 0
def VLT_STATUS_PHASE : Fld := fld 0x160004 2 0 .ro 0
/-! VLT_TRIP_CFG (R135). -/
def VLT_TRIP_CFG_RETURN_MS : Fld := fldR 0x160008 15 8 1 255
def VLT_TRIP_CFG_FILTER : Fld := fldI 0x160008 1 0 .rwl
/-! VLT_CFG (R135). -/
def VLT_CFG_FULL_SCAN_NEXT : Fld := fld 0x16000C 0 0 .rw 0
/-! VLT_VAULT_NUM (R136). -/
def VLT_VAULT_NUM_NUM : Fld := fld 0x160010 31 0 .ro 0
/-! VLT_OUTCOME (R136). -/
def VLT_OUTCOME_KIND : Fld := fld 0x160014 15 12 .ro 0
def VLT_OUTCOME_OWN : Fld := fld 0x160014 11 8 .ro 0
def VLT_OUTCOME_MIRROR : Fld := fld 0x160014 7 4 .ro 0
def VLT_OUTCOME_PATH : Fld := fld 0x160014 3 0 .ro 0
/-! VLT_T_EARLY (R137). -/
def VLT_T_EARLY_DRAIN_NS : Fld := fld 0x160018 31 16 .ro 0
def VLT_T_EARLY_CLOSE_NS : Fld := fld 0x160018 15 0 .ro 0
/-! VLT_T_FIRST (R137). -/
def VLT_T_FIRST_FIRST_NS : Fld := fld 0x16001C 15 0 .ro 0
/-! VLT_T_SEAL (R137). -/
def VLT_T_SEAL_SEAL_US : Fld := fld 0x160020 31 0 .ro 0
/-! VLT_GRANULES (R138). -/
def VLT_GRANULES_COUNT : Fld := fld 0x160024 31 0 .ro 0
/-! VLT_STRIPES (R138). -/
def VLT_STRIPES_COUNT : Fld := fld 0x160028 31 0 .ro 0
/-! VLT_FAULTS (R138). -/
def VLT_FAULTS_DEGRADED : Fld := fld 0x16002C 31 16 .ro 0
def VLT_FAULTS_REWRITTEN : Fld := fld 0x16002C 15 8 .ro 0
def VLT_FAULTS_LUNS_OUT : Fld := fld 0x16002C 7 0 .ro 0
/-! VLT_RST_REMAIN (R139). -/
def VLT_RST_REMAIN_GRANULES : Fld := fld 0x160030 31 0 .ro 0
/-! VLT_RST_TIME (R139). -/
def VLT_RST_TIME_OPEN_MS : Fld := fld 0x160034 31 16 .ro 0
def VLT_RST_TIME_SCAN_MS : Fld := fld 0x160034 15 0 .ro 0
/-! VLT_DEMAND_CNT (R140). -/
def VLT_DEMAND_CNT_COUNT : Fld := fld 0x160038 31 0 .ro 0
/-! VLT_DEMAND_MAX (R140). -/
def VLT_DEMAND_MAX_MAX_US : Fld := fld 0x16003C 15 0 .ro 0
/-! VLT_MERGE (R140). -/
def VLT_MERGE_FULL_CNT : Fld := fld 0x160040 31 16 .ro 0
def VLT_MERGE_NOW : Fld := fld 0x160040 8 0 .ro 0
/-! GRT_CTRL (R176). -/
def GRT_CTRL_FORMAT : Fld := fld 0x170000 3 3 .wo 0
def GRT_CTRL_JRNL_FLUSH : Fld := fld 0x170000 2 2 .wo 0
def GRT_CTRL_GC_NOW : Fld := fld 0x170000 1 1 .wo 0
def GRT_CTRL_GC_HOLD : Fld := fld 0x170000 0 0 .rw 0
/-! GRT_STATUS (R176). -/
def GRT_STATUS_FORMAT_ARMED : Fld := fld 0x170004 7 7 .ro 0
def GRT_STATUS_LEDGER_WP : Fld := fld 0x170004 6 6 .ro 0
def GRT_STATUS_BB_ACTIVE : Fld := fld 0x170004 5 5 .ro 0
def GRT_STATUS_RECORD_MOVED : Fld := fld 0x170004 4 4 .ro 0
def GRT_STATUS_CAP_RO : Fld := fld 0x170004 3 3 .ro 0
def GRT_STATUS_SPARES_LOW : Fld := fld 0x170004 2 2 .ro 0
def GRT_STATUS_GC_HELD : Fld := fld 0x170004 1 1 .ro 0
def GRT_STATUS_GC_ACTIVE : Fld := fld 0x170004 0 0 .ro 0
/-! GRT_GEOM (R177). -/
def GRT_GEOM_BLOCKS : Fld := fldI 0x170008 31 16 .ro
def GRT_GEOM_SUM_PAGES : Fld := fld 0x170008 15 14 .ro 0
def GRT_GEOM_PAGES : Fld := fld 0x170008 9 0 .ro 0
/-! GRT_SERVICE (R177). -/
def GRT_SERVICE_LUNS_VAULT : Fld := fld 0x17000C 24 16 .ro 0
def GRT_SERVICE_LUNS_GROTTO : Fld := fld 0x17000C 15 7 .ro 0
def GRT_SERVICE_CHANNELS : Fld := fld 0x17000C 4 0 .ro 0
/-! GRT_CAP_CFG (R178). -/
def GRT_CAP_CFG_MIN_CACHE : Fld := fldR 0x170010 31 16 4 512
def GRT_CAP_CFG_SPARE_PCT : Fld := fldR 0x170010 7 0 5 100
/-! GRT_RESV_CFG (R178). -/
def GRT_RESV_CFG_TARGET : Fld := fldI 0x170014 15 0 .rwl
/-! GRT_GC_CFG (R178). -/
def GRT_GC_CFG_WEAR_EVERY : Fld := fldR 0x170018 23 16 2 255
def GRT_GC_CFG_STOP : Fld := fldI 0x170018 15 8 .rwl
def GRT_GC_CFG_START : Fld := fldR 0x170018 7 0 1 254
/-! GRT_KEY (R179). -/
def GRT_KEY_VALID : Fld := fld 0x17001C 16 16 .ro 0
def GRT_KEY_KEY_GEN : Fld := fld 0x17001C 15 0 .ro 0
/-! GRT_VCAP (R179). -/
def GRT_VCAP_BYTES : Fld := fld 0x170020 63 0 .ro 0
/-! GRT_ERASED (R179). -/
def GRT_ERASED_BYTES : Fld := fld 0x170028 63 0 .ro 0
/-! GRT_SERIAL (R179). -/
def GRT_SERIAL_NEXT : Fld := fld 0x170030 63 0 .ro 0
/-! GRT_SESSION (R179). -/
def GRT_SESSION_SESSION : Fld := fld 0x170038 31 0 .ro 0
/-! GRT_BANDS (R180). -/
def GRT_BANDS_ERASED : Fld := fld 0x17003C 31 16 .ro 0
def GRT_BANDS_TOTAL : Fld := fld 0x17003C 15 0 .ro 0
/-! GRT_RETIRE (R180). -/
def GRT_RETIRE_RETIRED : Fld := fld 0x170040 31 16 .ro 0
def GRT_RETIRE_SPARES_MIN : Fld := fld 0x170040 15 0 .ro 0
/-! GRT_SCAN (R180). -/
def GRT_SCAN_HALF_ERASED : Fld := fld 0x170044 31 16 .ro 0
def GRT_SCAN_FAR_READS : Fld := fld 0x170044 15 0 .ro 0
/-! GRT_GC_STAT (R180). -/
def GRT_GC_STAT_BANDS : Fld := fld 0x170048 31 0 .rc 0
/-! GRT_LEDGER (R180). -/
def GRT_LEDGER_SPARES : Fld := fld 0x17004C 31 16 .ro 0
def GRT_LEDGER_WP : Fld := fld 0x17004C 1 1 .ro 0
def GRT_LEDGER_MODE : Fld := fldI 0x17004C 0 0 .ro
/-! FLC_CTRL (R216). -/
def FLC_CTRL_RETRAIN_GO : Fld := fld 0x180000 12 12 .wo 0
def FLC_CTRL_RETRAIN_CH : Fld := fld 0x180000 11 8 .rw 0
def FLC_CTRL_INT_EN : Fld := fld 0x180000 1 1 .rw 0
def FLC_CTRL_CNT_CLR : Fld := fld 0x180000 0 0 .wo 0
/-! FLC_STATUS (R216). -/
def FLC_STATUS_LUNS_ACTIVE : Fld := fld 0x180004 24 16 .ro 0
def FLC_STATUS_CHANNELS_UP : Fld := fld 0x180004 12 8 .ro 0
def FLC_STATUS_FOREIGN_EV : Fld := fld 0x180004 5 5 .w1c 0
def FLC_STATUS_CH_EV : Fld := fld 0x180004 4 4 .w1c 0
def FLC_STATUS_LUN_EV : Fld := fld 0x180004 3 3 .w1c 0
def FLC_STATUS_TRIP : Fld := fld 0x180004 1 1 .ro 0
def FLC_STATUS_READY : Fld := fld 0x180004 0 0 .ro 0
/-! FLC_IF_CFG (R217). -/
def FLC_IF_CFG_IFACE : Fld := fldI 0x180008 4 4 .ro
def FLC_IF_CFG_RATE : Fld := fldI 0x180008 1 0 .ro
/-! FLC_LDPC_CFG (R217). -/
def FLC_LDPC_CFG_REFRESH_LEVEL : Fld := fldR 0x18000C 19 16 1 13
def FLC_LDPC_CFG_REFRESH_BITS : Fld := fldI 0x18000C 15 8 .rwl
def FLC_LDPC_CFG_PARITY : Fld := fld 0x18000C 1 0 .ro 0
/-! FLC_RETRY_CFG (R217). -/
def FLC_RETRY_CFG_SOFT_STEP : Fld := fldI 0x180010 15 8 .rwl
def FLC_RETRY_CFG_SOFT_EN : Fld := fldI 0x180010 4 4 .rwl
def FLC_RETRY_CFG_LEVELS : Fld := fldI 0x180010 3 0 .ro
/-! FLC_SUSP_CFG (R218). -/
def FLC_SUSP_CFG_ERASE_MAX_SUSP : Fld := fldR 0x180014 25 20 1 63
def FLC_SUSP_CFG_PROG_MAX_SUSP : Fld := fldR 0x180014 19 16 1 15
def FLC_SUSP_CFG_ERASE_MIN : Fld := fldR 0x180014 15 8 25 250
def FLC_SUSP_CFG_PROG_MIN : Fld := fldR 0x180014 7 0 5 100
/-! FLC_TIMEOUT_CFG (R218). -/
def FLC_TIMEOUT_CFG_LIMIT : Fld := fldR 0x180018 23 20 1 15
def FLC_TIMEOUT_CFG_WINDOW : Fld := fldR 0x180018 19 12 1 255
def FLC_TIMEOUT_CFG_ERASE_X : Fld := fldR 0x180018 11 8 2 15
def FLC_TIMEOUT_CFG_PROG_X : Fld := fldR 0x180018 7 4 2 15
def FLC_TIMEOUT_CFG_READ_X : Fld := fldR 0x180018 3 0 2 15
/-! FLC_INFLIGHT (R219). -/
def FLC_INFLIGHT_PEAK : Fld := fld 0x18001C 28 16 .rc 0
def FLC_INFLIGHT_NOW : Fld := fld 0x18001C 12 0 .ro 0
/-! FLC_FOREIGN (R219). -/
def FLC_FOREIGN_COUNT : Fld := fld 0x180020 31 0 .rc 0
/-! FLC_LUN_SEL (R219). -/
def FLC_LUN_SEL_LUN : Fld := fld 0x180024 7 0 .rw 0
/-! FLC_LUN_INFO (R219). -/
def FLC_LUN_INFO_PFAIL : Fld := fld 0x180028 31 24 .ro 0
def FLC_LUN_INFO_TIMEOUTS : Fld := fld 0x180028 23 16 .ro 0
def FLC_LUN_INFO_LAST_LEVEL : Fld := fld 0x180028 15 12 .ro 0
def FLC_LUN_INFO_PROFILE : Fld := fld 0x180028 11 8 .ro 0
def FLC_LUN_INFO_SLOTS : Fld := fld 0x180028 7 3 .ro 0
def FLC_LUN_INFO_STATE : Fld := fld 0x180028 2 0 .ro 0
/-! FLC_EC_SEL (R220). -/
def FLC_EC_SEL_BLOCK : Fld := fld 0x18002C 31 16 .rw 0
def FLC_EC_SEL_LUN : Fld := fld 0x18002C 15 8 .rw 0
def FLC_EC_SEL_AREA : Fld := fld 0x18002C 0 0 .rw 0
/-! FLC_EC_DATA (R220). -/
def FLC_EC_DATA_STATE : Fld := fld 0x180030 31 28 .ro 0
def FLC_EC_DATA_PFAIL : Fld := fld 0x180030 27 24 .ro 0
def FLC_EC_DATA_COUNT : Fld := fld 0x180030 23 0 .ro 0
/-! FLC_CNT_RETRY (R221). -/
def FLC_CNT_RETRY_COUNT : Fld := fld 0x180040 31 0 .ro 0
/-! FLC_CNT_SOFT (R221). -/
def FLC_CNT_SOFT_COUNT : Fld := fld 0x180044 31 0 .ro 0
/-! FLC_CNT_UNCORR (R221). -/
def FLC_CNT_UNCORR_COUNT : Fld := fld 0x180048 31 0 .ro 0
/-! FLC_CNT_PFAIL (R221). -/
def FLC_CNT_PFAIL_COUNT : Fld := fld 0x18004C 31 0 .ro 0
/-! FLC_CNT_EFAIL (R221). -/
def FLC_CNT_EFAIL_COUNT : Fld := fld 0x180050 31 0 .ro 0
/-! FLC_CNT_TIMEOUT (R221). -/
def FLC_CNT_TIMEOUT_COUNT : Fld := fld 0x180054 31 0 .ro 0
/-! FLC_CNT_REFRESH (R221). -/
def FLC_CNT_REFRESH_COUNT : Fld := fld 0x180058 31 0 .ro 0
/-! FLC_CHn_STATUS (R222). -/
def FLC_CHn_STATUS_RETRAINS (n : Nat) : Fld := fld (0x180060 + 4 * n) 23 16 .ro 0
def FLC_CHn_STATUS_LUNS_ACTIVE (n : Nat) : Fld := fld (0x180060 + 4 * n) 13 9 .ro 0
def FLC_CHn_STATUS_LUNS_PRESENT (n : Nat) : Fld := fld (0x180060 + 4 * n) 8 4 .ro 0
def FLC_CHn_STATUS_RATE (n : Nat) : Fld := fld (0x180060 + 4 * n) 3 2 .ro 0
def FLC_CHn_STATUS_STATE (n : Nat) : Fld := fld (0x180060 + 4 * n) 1 0 .ro 0
/-! DMC_CTRL (R247). -/
def DMC_CTRL_INT_EN : Fld := fld 0x190000 1 1 .rw 0
def DMC_CTRL_STAT_CLR : Fld := fld 0x190000 0 0 .wo 0
/-! DMC_STATUS (R247). -/
def DMC_STATUS_FORCED_EV : Fld := fld 0x190004 8 8 .w1c 0
def DMC_STATUS_CH_POP : Fld := fldI 0x190004 7 4 .ro
def DMC_STATUS_VAULT_MODE : Fld := fld 0x190004 3 3 .ro 0
def DMC_STATUS_REF_2X : Fld := fld 0x190004 2 2 .ro 0
def DMC_STATUS_PANIC : Fld := fld 0x190004 1 1 .ro 0
def DMC_STATUS_READY : Fld := fld 0x190004 0 0 .ro 0
/-! DMC_GEOM (R248). -/
def DMC_GEOM_CAP_GIB : Fld := fldI 0x190008 31 16 .ro
def DMC_GEOM_CHANNELS : Fld := fldI 0x190008 7 6 .ro
def DMC_GEOM_RDIMM : Fld := fldI 0x190008 5 5 .ro
def DMC_GEOM_RANKS : Fld := fldI 0x190008 4 4 .ro
def DMC_GEOM_DENSITY : Fld := fldI 0x190008 3 2 .ro
def DMC_GEOM_RATE : Fld := fldI 0x190008 1 0 .ro
/-! DMC_SCHED_CFG (R249). -/
def DMC_SCHED_CFG_AGE_LIMIT : Fld := fldR 0x19000C 31 24 10 255
def DMC_SCHED_CFG_HIT_CAP : Fld := fldR 0x19000C 23 16 1 64
def DMC_SCHED_CFG_WR_HI : Fld := fldR 0x19000C 15 8 8 96
def DMC_SCHED_CFG_WR_LO : Fld := fldI 0x19000C 7 0 .rwl
/-! DMC_HASH_BG0 (R249). -/
def DMC_HASH_BG0_MASK : Fld := fldI 0x190010 16 0 .rwl
/-! DMC_HASH_BG1 (R249). -/
def DMC_HASH_BG1_MASK : Fld := fldI 0x190014 16 0 .rwl
/-! DMC_HASH_BG2 (R249). -/
def DMC_HASH_BG2_MASK : Fld := fldI 0x190018 16 0 .rwl
/-! DMC_HASH_BA0 (R249). -/
def DMC_HASH_BA0_MASK : Fld := fldI 0x19001C 16 0 .rwl
/-! DMC_HASH_BA1 (R249). -/
def DMC_HASH_BA1_MASK : Fld := fldI 0x190020 16 0 .rwl
/-! DMC_HASH_RK (R249). -/
def DMC_HASH_RK_MASK : Fld := fldI 0x190024 16 0 .rwl
/-! DMC_HASH_CH0 (R249). -/
def DMC_HASH_CH0_MASK : Fld := fldI 0x190028 16 0 .rwl
/-! DMC_HASH_CH1 (R249). -/
def DMC_HASH_CH1_MASK : Fld := fldI 0x19002C 16 0 .rwl
/-! DMC_PORT_WEIGHT (R250). -/
def DMC_PORT_WEIGHT_CPU : Fld := fldR 0x190030 19 16 1 15
def DMC_PORT_WEIGHT_BG : Fld := fldR 0x190030 15 12 1 15
def DMC_PORT_WEIGHT_RT : Fld := fldR 0x190030 11 8 1 15
def DMC_PORT_WEIGHT_ECHO : Fld := fldR 0x190030 7 4 1 15
def DMC_PORT_WEIGHT_HOST : Fld := fldR 0x190030 3 0 1 15
/-! DMC_PORT_RESV (R250). -/
def DMC_PORT_RESV_BG : Fld := fldI 0x190034 31 28 .rwl
def DMC_PORT_RESV_CPU : Fld := fldI 0x190034 27 24 .rwl
def DMC_PORT_RESV_ECHO : Fld := fldI 0x190034 23 16 .rwl
def DMC_PORT_RESV_HOST : Fld := fldI 0x190034 15 8 .rwl
def DMC_PORT_RESV_RT : Fld := fldI 0x190034 7 0 .rwl
/-! DMC_RT_CFG (R251). -/
def DMC_RT_CFG_RST_OFF : Fld := fldR 0x190038 31 24 1 128
def DMC_RT_CFG_RST_ON : Fld := fldR 0x190038 23 16 1 128
def DMC_RT_CFG_DUMP_OFF : Fld := fldR 0x190038 15 8 1 128
def DMC_RT_CFG_DUMP_ON : Fld := fldR 0x190038 7 0 28 127
/-! DMC_REF_CFG (R251). -/
def DMC_REF_CFG_TREFI_NS : Fld := fldR 0x19003C 31 16 1000 3900
def DMC_REF_CFG_TRFC_NS : Fld := fldI 0x19003C 15 0 .rwl
/-! DMC_REF_STATUS (R251). -/
def DMC_REF_STATUS_FORCED : Fld := fld 0x190040 31 16 .rc 0
def DMC_REF_STATUS_POSTPONED_MAX : Fld := fld 0x190040 10 8 .rc 0
def DMC_REF_STATUS_OWED : Fld := fld 0x190040 2 0 .ro 0
/-! DMC_PWR_CFG (R252). -/
def DMC_PWR_CFG_PD_IDLE : Fld := fldI 0x190044 15 0 .rwl
/-! DMC_INORDER_CNT (R252). -/
def DMC_INORDER_CNT_COUNT : Fld := fld 0x190048 31 0 .rc 0
/-! DMC_PANIC_CNT (R252). -/
def DMC_PANIC_CNT_MAX_US : Fld := fld 0x19004C 31 16 .rc 0
def DMC_PANIC_CNT_COUNT : Fld := fld 0x19004C 15 0 .rc 0
/-! DMC_XLATE_ADDR (R253). -/
def DMC_XLATE_ADDR_ADDR : Fld := fld 0x190050 38 0 .rw 0
/-! DMC_XLATE_RESULT0 (R253). -/
def DMC_XLATE_RESULT0_VALID : Fld := fld 0x190058 31 31 .ro 0
def DMC_XLATE_RESULT0_RANGE_ERR : Fld := fld 0x190058 30 30 .ro 0
def DMC_XLATE_RESULT0_COL : Fld := fld 0x190058 23 17 .ro 0
def DMC_XLATE_RESULT0_ROW : Fld := fld 0x190058 16 0 .ro 0
/-! DMC_XLATE_RESULT1 (R253). -/
def DMC_XLATE_RESULT1_CH : Fld := fld 0x19005C 8 7 .ro 0
def DMC_XLATE_RESULT1_SC : Fld := fld 0x19005C 6 6 .ro 0
def DMC_XLATE_RESULT1_RK : Fld := fld 0x19005C 5 5 .ro 0
def DMC_XLATE_RESULT1_BG : Fld := fld 0x19005C 4 2 .ro 0
def DMC_XLATE_RESULT1_BA : Fld := fld 0x19005C 1 0 .ro 0
/-! DMC_ECC_CTRL (R278). -/
def DMC_ECC_CTRL_INJ_POS : Fld := { fld 0x190100 7 4 .rwl 0 with max := 9 }
def DMC_ECC_CTRL_INJ_MODE : Fld := fld 0x190100 3 2 .rwl 0
def DMC_ECC_CTRL_INT_EN : Fld := fld 0x190100 1 1 .rw 0
def DMC_ECC_CTRL_CNT_CLR : Fld := fld 0x190100 0 0 .wo 0
/-! DMC_ECC_STATUS (R278). -/
def DMC_ECC_STATUS_REWRITE_DROP : Fld := fld 0x190104 3 3 .w1c 0
def DMC_ECC_STATUS_UE_EV : Fld := fld 0x190104 2 2 .w1c 0
def DMC_ECC_STATUS_RH_EV : Fld := fld 0x190104 1 1 .w1c 0
def DMC_ECC_STATUS_POS_EV : Fld := fld 0x190104 0 0 .w1c 0
/-! DMC_CE_CNT (R279). -/
def DMC_CE_CNT_COUNT : Fld := fld 0x190108 31 0 .ro 0
/-! DMC_UE_CNT (R279). -/
def DMC_UE_CNT_VAULT : Fld := fld 0x19010C 31 16 .ro 0
def DMC_UE_CNT_TOTAL : Fld := fld 0x19010C 15 0 .ro 0
/-! DMC_POS_CFG (R279). -/
def DMC_POS_CFG_LEAK_S : Fld := fldR 0x190110 31 16 1 65535
def DMC_POS_CFG_LIMIT : Fld := fldR 0x190110 7 0 1 255
/-! DMC_POS_SEL (R279). -/
def DMC_POS_SEL_CH : Fld := fld 0x190114 7 6 .rw 0
def DMC_POS_SEL_SC : Fld := fld 0x190114 5 5 .rw 0
def DMC_POS_SEL_RK : Fld := fld 0x190114 4 4 .rw 0
def DMC_POS_SEL_POS : Fld := fld 0x190114 3 0 .rw 0
/-! DMC_POS_DATA (R279). -/
def DMC_POS_DATA_DEGRADED : Fld := fld 0x190118 31 31 .ro 0
def DMC_POS_DATA_TOTAL : Fld := fld 0x190118 23 8 .ro 0
def DMC_POS_DATA_BUCKET : Fld := fld 0x190118 7 0 .ro 0
/-! DMC_SCRUB_CFG (R280). -/
def DMC_SCRUB_CFG_HOURS : Fld := fldR 0x19011C 15 8 1 168
def DMC_SCRUB_CFG_EN : Fld := fldI 0x19011C 0 0 .rwl
/-! DMC_SCRUB_STATUS (R280). -/
def DMC_SCRUB_STATUS_PASSES : Fld := fld 0x190120 31 16 .ro 0
def DMC_SCRUB_STATUS_PCT : Fld := fld 0x190120 6 0 .ro 0
/-! DMC_RH_CFG (R280). -/
def DMC_RH_CFG_THRESH : Fld := fldR 0x190124 15 0 3599 65535
/-! DMC_RH_STATUS (R280). -/
def DMC_RH_STATUS_THROTTLES : Fld := fld 0x190128 31 16 .rc 0
def DMC_RH_STATUS_ACTIVE : Fld := fld 0x190128 3 0 .ro 0
/-! DMC_RH_LAST (R280). -/
def DMC_RH_LAST_PORT : Fld := fld 0x19012C 31 29 .ro 0
def DMC_RH_LAST_CH : Fld := fld 0x19012C 28 27 .ro 0
def DMC_RH_LAST_SC : Fld := fld 0x19012C 26 26 .ro 0
def DMC_RH_LAST_RK : Fld := fld 0x19012C 25 25 .ro 0
def DMC_RH_LAST_BG : Fld := fld 0x19012C 24 22 .ro 0
def DMC_RH_LAST_BA : Fld := fld 0x19012C 21 20 .ro 0
def DMC_RH_LAST_ROW : Fld := fld 0x19012C 16 0 .ro 0
/-! DMC_TRN_CFG (R281). -/
def DMC_TRN_CFG_TRACK_MS : Fld := fldR 0x190130 31 24 16 255
def DMC_TRN_CFG_VERIFY_MARGIN : Fld := fldR 0x190130 15 8 2 32
def DMC_TRN_CFG_FORCE_FULL : Fld := fld 0x190130 0 0 .rw 0
/-! DMC_TRN_STATUS (R281). -/
def DMC_TRN_STATUS_FAILED : Fld := fld 0x190134 31 28 .ro 0
def DMC_TRN_STATUS_FULL : Fld := fld 0x190134 27 24 .ro 0
def DMC_TRN_STATUS_WINDOW : Fld := fld 0x190134 23 20 .ro 0
def DMC_TRN_STATUS_STORED : Fld := fld 0x190134 18 16 .ro 0
def DMC_TRN_STATUS_ABORTS : Fld := fld 0x190134 15 8 .rc 0
def DMC_TRN_STATUS_DEFERS : Fld := fld 0x190134 7 0 .rc 0
/-! DMC_FRZ_STATUS (R282). -/
def DMC_FRZ_STATUS_FROZEN : Fld := fld 0x190138 7 4 .ro 0
def DMC_FRZ_STATUS_COVERED : Fld := fld 0x190138 3 3 .ro 0
def DMC_FRZ_STATUS_SALVAGE : Fld := fld 0x190138 2 2 .ro 0
def DMC_FRZ_STATUS_FREEZE_EV : Fld := fld 0x190138 1 1 .w1c 0
def DMC_FRZ_STATUS_CAPTURED : Fld := fld 0x190138 0 0 .w1c 0
/-! DMC_FRZ_INFO (R282). -/
def DMC_FRZ_INFO_BEATS : Fld := fld 0x19013C 31 16 .ro 0
def DMC_FRZ_INFO_MULTI_POS : Fld := fld 0x19013C 11 11 .ro 0
def DMC_FRZ_INFO_BEAT_UE : Fld := fld 0x19013C 10 10 .ro 0
def DMC_FRZ_INFO_MERGE : Fld := fld 0x19013C 9 9 .ro 0
def DMC_FRZ_INFO_PORT : Fld := fld 0x19013C 8 6 .ro 0
/-! DMC_FRZ_ADDR (R282). -/
def DMC_FRZ_ADDR_ADDR : Fld := fld 0x190140 38 0 .ro 0
/-! DMC_FRZ_SYNn (R282). -/
def DMC_FRZ_SYNn_SYN (n : Nat) : Fld := fld (0x190148 + 4 * n) 31 0 .ro 0
/-! DMC_FRZ_LOSS (R282). -/
def DMC_FRZ_LOSS_GRANULES : Fld := fld 0x190158 31 0 .ro 0
/-! DMC_DIAG_ADDR (R283). -/
def DMC_DIAG_ADDR_ADDR : Fld := fld 0x190160 38 0 .rw 0
/-! DMC_DIAG_RESULT (R283). -/
def DMC_DIAG_RESULT_VALID : Fld := fld 0x190168 31 31 .ro 0
def DMC_DIAG_RESULT_REFUSED : Fld := fld 0x190168 30 30 .ro 0
def DMC_DIAG_RESULT_OUTCOME : Fld := fld 0x190168 29 28 .ro 0
def DMC_DIAG_RESULT_POSITIONS : Fld := fld 0x190168 25 16 .ro 0
def DMC_DIAG_RESULT_BEATS : Fld := fld 0x190168 15 0 .ro 0
/-! ECH_CTRL (R317). -/
def ECH_CTRL_INT_EN : Fld := fld 0x1A0000 4 4 .rw 0
def ECH_CTRL_MVIEW_EN : Fld := fld 0x1A0000 3 3 .rw 0
def ECH_CTRL_REJOIN : Fld := fld 0x1A0000 2 2 .wo 0
def ECH_CTRL_DETACH : Fld := fld 0x1A0000 1 1 .wo 0
def ECH_CTRL_CNT_CLR : Fld := fld 0x1A0000 0 0 .wo 0
/-! ECH_STATUS (R317). -/
def ECH_STATUS_RESYNC_DONE : Fld := fld 0x1A0004 18 18 .w1c 0
def ECH_STATUS_MISB_EV : Fld := fld 0x1A0004 17 17 .w1c 0
def ECH_STATUS_STATE_EV : Fld := fld 0x1A0004 16 16 .w1c 0
def ECH_STATUS_PEER_FROZEN : Fld := fld 0x1A0004 15 12 .ro 0
def ECH_STATUS_REPLACE_ARMED : Fld := fld 0x1A0004 11 11 .ro 0
def ECH_STATUS_PEER_TRIP : Fld := fld 0x1A0004 10 10 .ro 0
def ECH_STATUS_FWD_ACTIVE : Fld := fld 0x1A0004 9 9 .ro 0
def ECH_STATUS_PAIR_MODE : Fld := fldI 0x1A0004 8 8 .ro
def ECH_STATUS_STATE : Fld := fld 0x1A0004 2 0 .ro 0
/-! ECH_CFG (R318). -/
def ECH_CFG_POLICY : Fld := fldI 0x1A0008 31 31 .rwl
def ECH_CFG_PENALTY_S : Fld := fldR 0x1A0008 23 16 1 255
def ECH_CFG_SILENCE : Fld := fldR 0x1A0008 15 8 10 250
def ECH_CFG_ACK_TO : Fld := fldR 0x1A0008 7 0 25 250
/-! ECH_CFG2 (R318). -/
def ECH_CFG2_REJOIN_MS : Fld := fldR 0x1A000C 31 24 1 255
def ECH_CFG2_RESYNC_RATE : Fld := fldR 0x1A000C 23 16 1 248
def ECH_CFG2_LAPSE_LIMIT : Fld := fldR 0x1A000C 15 12 1 15
def ECH_CFG2_FALLBACK : Fld := fldI 0x1A000C 0 0 .rwl
/-! ECH_LINK (R319). -/
def ECH_LINK_RETRAINS : Fld := fld 0x1A0010 31 16 .ro 0
def ECH_LINK_WIDTH : Fld := fld 0x1A0010 5 4 .ro 0
def ECH_LINK_RATE : Fld := fld 0x1A0010 3 2 .ro 0
def ECH_LINK_UP : Fld := fld 0x1A0010 0 0 .ro 0
/-! ECH_PEER (R319). -/
def ECH_PEER_STEPPING : Fld := fld 0x1A0014 31 24 .ro 0
def ECH_PEER_OWNER : Fld := fld 0x1A0014 16 16 .ro 0
def ECH_PEER_CAP_GIB : Fld := fld 0x1A0014 15 0 .ro 0
/-! ECH_PEER_UID (R319). -/
def ECH_PEER_UID_UID_HASH : Fld := fld 0x1A0018 63 0 .ro 0
/-! ECH_SEQ_SENT (R320). -/
def ECH_SEQ_SENT_SEQ : Fld := fld 0x1A0020 63 0 .ro 0
/-! ECH_SEQ_ACKED (R320). -/
def ECH_SEQ_ACKED_SEQ : Fld := fld 0x1A0028 63 0 .ro 0
/-! ECH_SEQ_STORED (R320). -/
def ECH_SEQ_STORED_SEQ : Fld := fld 0x1A0030 63 0 .ro 0
/-! ECH_RESYNC (R320). -/
def ECH_RESYNC_MODE : Fld := fld 0x1A0038 31 30 .ro 0
def ECH_RESYNC_ZONES : Fld := fld 0x1A0038 17 0 .ro 0
/-! ECH_MISB (R321). -/
def ECH_MISB_COUNT_24H : Fld := fld 0x1A003C 31 24 .ro 0
def ECH_MISB_LAST_CODE : Fld := fld 0x1A003C 7 0 .ro 0
/-! ECH_LAT (R321). -/
def ECH_LAT_MAX_NS : Fld := fld 0x1A0040 31 16 .rc 0
def ECH_LAT_LAST_NS : Fld := fld 0x1A0040 15 0 .ro 0
/-! ECH_CNT_NAK (R321). -/
def ECH_CNT_NAK_COUNT : Fld := fld 0x1A0044 31 0 .ro 0
/-! ECH_CNT_LAPSE (R321). -/
def ECH_CNT_LAPSE_COUNT : Fld := fld 0x1A0048 31 0 .ro 0
/-! ECH_CNT_FWD (R321). -/
def ECH_CNT_FWD_COUNT : Fld := fld 0x1A004C 31 0 .ro 0
/-! EVR_CTRL (R471). -/
def EVR_CTRL_RD_GO : Fld := fld 0x1B0000 3 3 .wo 0
def EVR_CTRL_FLUSH : Fld := fld 0x1B0000 2 2 .wo 0
def EVR_CTRL_INT_EN : Fld := fld 0x1B0000 1 1 .rw 0
def EVR_CTRL_CNT_CLR : Fld := fld 0x1B0000 0 0 .wo 0
/-! EVR_STATUS (R471). -/
def EVR_STATUS_CLEAR_EV : Fld := fld 0x1B0004 19 19 .w1c 0
def EVR_STATUS_MEM_EV : Fld := fld 0x1B0004 18 18 .w1c 0
def EVR_STATUS_SEV_EV : Fld := fld 0x1B0004 17 17 .w1c 0
def EVR_STATUS_LOST_EV : Fld := fld 0x1B0004 16 16 .w1c 0
def EVR_STATUS_CLEAR_LOCK : Fld := fld 0x1B0004 4 4 .ro 0
def EVR_STATUS_VIEW_OPEN : Fld := fld 0x1B0004 3 3 .ro 0
def EVR_STATUS_SCAN_DONE : Fld := fld 0x1B0004 2 2 .ro 0
def EVR_STATUS_RING_FULL : Fld := fld 0x1B0004 1 1 .ro 0
def EVR_STATUS_PENDING : Fld := fld 0x1B0004 0 0 .ro 0
/-! EVR_CFG (R471). -/
def EVR_CFG_REPEAT_S : Fld := fldR 0x1B0008 31 24 1 255
def EVR_CFG_ALERT_SEV : Fld := fldR 0x1B0008 18 16 4 7
def EVR_CFG_MIN_NOR_SEV : Fld := fldR 0x1B0008 14 12 0 4
def EVR_CFG_BB_FLUSH_S : Fld := fldR 0x1B0008 7 0 1 255
/-! EVR_MEM (R472). -/
def EVR_MEM_BB_FAIL : Fld := fld 0x1B000C 7 7 .ro 0
def EVR_MEM_CRIT : Fld := fld 0x1B000C 6 6 .ro 0
def EVR_MEM_MODE : Fld := fld 0x1B000C 1 0 .ro 0
/-! EVR_SEQ (R472). -/
def EVR_SEQ_NEXT : Fld := fld 0x1B0010 63 0 .ro 0
/-! EVR_RING (R472). -/
def EVR_RING_HELD : Fld := fld 0x1B0018 27 16 .ro 0
def EVR_RING_PENDING : Fld := fld 0x1B0018 11 0 .ro 0
/-! EVR_NOR (R472). -/
def EVR_NOR_USABLE : Fld := fld 0x1B001C 31 16 .ro 0
def EVR_NOR_PROTECTED : Fld := fld 0x1B001C 15 0 .ro 0
/-! EVR_BB (R472). -/
def EVR_BB_PAGES : Fld := fld 0x1B0020 31 16 .ro 0
def EVR_BB_CURRENT : Fld := fld 0x1B0020 7 4 .ro 0
def EVR_BB_USABLE : Fld := fld 0x1B0020 3 0 .ro 0
/-! EVR_LOST (R473). -/
def EVR_LOST_OVERWRITTEN : Fld := fld 0x1B0024 31 16 .ro 0
def EVR_LOST_DROPPED : Fld := fld 0x1B0024 15 0 .ro 0
/-! EVR_LAST (R473). -/
def EVR_LAST_SOURCE : Fld := fld 0x1B0028 31 24 .ro 0
def EVR_LAST_SEVERITY : Fld := fld 0x1B0028 23 21 .ro 0
def EVR_LAST_CODE : Fld := fld 0x1B0028 15 0 .ro 0
/-! EVR_CLEAR (R473). -/
def EVR_CLEAR_COUNT : Fld := fld 0x1B002C 31 16 .ro 0
def EVR_CLEAR_REFUSED : Fld := fld 0x1B002C 7 0 .ro 0
/-! EVR_CLEAR_SEQ (R473). -/
def EVR_CLEAR_SEQ_SEQ : Fld := fld 0x1B0030 63 0 .ro 0
/-! EVR_VIEW (R473). -/
def EVR_VIEW_END_SEQ : Fld := fld 0x1B0038 63 0 .ro 0
/-! EVR_RD_SEQ (R474). -/
def EVR_RD_SEQ_SEQ : Fld := fld 0x1B0040 63 0 .rw 0
/-! EVR_RD_STATUS (R474). -/
def EVR_RD_STATUS_VALID : Fld := fld 0x1B0048 31 31 .ro 0
def EVR_RD_STATUS_NOT_HELD : Fld := fld 0x1B0048 30 30 .ro 0
def EVR_RD_STATUS_FROM : Fld := fld 0x1B0048 29 28 .ro 0
/-! EVR_RD_DATAw (R474). -/
def EVR_RD_DATAw_WORD (n : Nat) : Fld := fld (0x1B0100 + 4 * n) 31 0 .ro 0
/-! CFG_CTRL (R441). -/
def CFG_CTRL_LOCK : Fld := fld 0x1C0000 0 0 .w1s 0
/-! CFG_STATUS (R441). -/
def CFG_STATUS_ROLLED_BACK : Fld := fld 0x1C0004 5 5 .ro 0
def CFG_STATUS_TRIAL : Fld := fld 0x1C0004 4 4 .ro 0
def CFG_STATUS_OTHER_VALID : Fld := fld 0x1C0004 3 3 .ro 0
def CFG_STATUS_RUN_VALID : Fld := fld 0x1C0004 2 2 .ro 0
def CFG_STATUS_BANK : Fld := fld 0x1C0004 0 0 .ro 0
/-! CFG_IMG_SEQ (R441). -/
def CFG_IMG_SEQ_SEQ : Fld := fld 0x1C0008 31 0 .ro 0
/-! CFG_SVN (R441). -/
def CFG_SVN_STAGED : Fld := fld 0x1C000C 15 8 .ro 0
def CFG_SVN_RUNNING : Fld := fld 0x1C000C 7 0 .ro 0
/-! CFG_UPD_STATUS (R441). -/
def CFG_UPD_STATUS_KIB : Fld := fld 0x1C0010 27 8 .ro 0
def CFG_UPD_STATUS_RESULT : Fld := fld 0x1C0010 7 4 .ro 0
def CFG_UPD_STATUS_BUSY : Fld := fld 0x1C0010 0 0 .ro 0
/-! CFG_COMMIT_SEQ (R441). -/
def CFG_COMMIT_SEQ_SEQ : Fld := fld 0x1C0014 31 0 .ro 0
/-! CFG_PATCH (R441). -/
def CFG_PATCH_SKIPPED : Fld := fld 0x1C0018 16 16 .ro 0
def CFG_PATCH_AON : Fld := fld 0x1C0018 15 8 .ro 0
def CFG_PATCH_CP : Fld := fld 0x1C0018 7 0 .ro 0
/-! CFG_NOR_INFO (R441). -/
def CFG_NOR_INFO_SIZE_LOG2 : Fld := fld 0x1C001C 31 24 .ro 0
def CFG_NOR_INFO_ESUSP : Fld := fld 0x1C001C 3 3 .ro 0
def CFG_NOR_INFO_ADDR4 : Fld := fld 0x1C001C 2 2 .ro 0
def CFG_NOR_INFO_READ : Fld := fld 0x1C001C 1 0 .ro 0
/-! CFG_HASH_SEL (R441). -/
def CFG_HASH_SEL_STAGED : Fld := fld 0x1C0020 4 4 .rw 0
def CFG_HASH_SEL_WORD : Fld := fld 0x1C0020 3 0 .rw 0
/-! CFG_HASH_DATA (R441). -/
def CFG_HASH_DATA_WORD : Fld := fld 0x1C0024 31 0 .ro 0
/-! CFG_NOR_ERR (R441). -/
def CFG_NOR_ERR_ERASE_RETRY : Fld := fld 0x1C0028 31 16 .ro 0
def CFG_NOR_ERR_PROG_RETRY : Fld := fld 0x1C0028 15 0 .ro 0
/-! CFG_TRIAL (R441). -/
def CFG_TRIAL_MINUTES : Fld := fldR 0x1C002C 7 0 1 255
/-! WDT_CTRL (R443). -/
def WDT_CTRL_EN : Fld := fldI 0x1D0000 0 0 .rwl
/-! WDT_CFG (R443). -/
def WDT_CFG_STAGE2 : Fld := fldR 0x1D0004 31 16 1 6000
def WDT_CFG_STAGE1 : Fld := fldR 0x1D0004 15 0 1 6000
/-! WDT_KICK (R443). -/
def WDT_KICK_KEY : Fld := fld 0x1D0008 7 0 .wo 0
/-! WDT_HB (R443). -/
def WDT_HB_CP : Fld := fld 0x1D000C 3 0 .w1s 0
/-! WDT_STATUS (R443). -/
def WDT_STATUS_REMAIN_MS : Fld := fld 0x1D0010 31 16 .ro 0
def WDT_STATUS_STAGE : Fld := fld 0x1D0010 3 3 .ro 0
def WDT_STATUS_MASKED : Fld := fld 0x1D0010 2 2 .ro 0
def WDT_STATUS_STAGE1_EV : Fld := fld 0x1D0010 1 1 .w1c 0
def WDT_STATUS_PAUSED : Fld := fld 0x1D0010 0 0 .ro 0
/-! WDT_COUNT (R443). -/
def WDT_COUNT_RESETS : Fld := fld 0x1D0014 31 16 .ro 0
def WDT_COUNT_STAGE1 : Fld := fld 0x1D0014 15 0 .ro 0

/-- The registers of block SYS (R521). -/
def rowsSys : List RegRow :=
  [⟨0x100000, false, [SYS_ID_PART, SYS_ID_STEPPING, SYS_ID_ORDER]⟩,
    ⟨0x100004, false, [SYS_CTRL_SAFE_CLR, SYS_CTRL_WARM_RST, SYS_CTRL_INT_EN]⟩,
    ⟨0x100008, false, [SYS_STATUS_FAILED_STARTS, SYS_STATUS_LAST_FAIL, SYS_STATUS_SR_VALID, SYS_STATUS_SAFE_ARMED, SYS_STATUS_NO_IMAGE, SYS_STATUS_SAFE, SYS_STATUS_PATH]⟩,
    ⟨0x10000C, false, [SYS_START_MS_MS]⟩,
    ⟨0x100010, true, [SYS_OPSEC_PWR_CYCLES, SYS_OPSEC_SECONDS]⟩,
    ⟨0x100018, true, [SYS_UID_UID_HASH]⟩,
    ⟨0x100020, false, [SYS_TEMP_TJ]⟩,
    ⟨0x100024, false, [SYS_OTP_SVN_MIN, SYS_OTP_IMG_KEY, SYS_OTP_REVOKED, SYS_OTP_USED]⟩,
    ⟨0x100028, false, [SYS_PROV_CTRL_SLOT, SYS_PROV_CTRL_ERR, SYS_PROV_CTRL_DONE, SYS_PROV_CTRL_BURN]⟩,
    ⟨0x10002C, false, [SYS_PROV_DATA_WORD]⟩]

/-- The registers of block CLK (R521). -/
def rowsClk : List RegRow :=
  [⟨0x110000, false, [CLK_CTRL_MON_CLR, CLK_CTRL_INT_EN]⟩,
    ⟨0x110004, false, [CLK_STATUS_GATED, CLK_STATUS_SUP_BACKUP, CLK_STATUS_FAULT_EV, CLK_STATUS_HOLD, CLK_STATUS_FAULT, CLK_STATUS_LOCK, CLK_STATUS_XTAL_OK]⟩,
    ⟨0x110008, false, [CLK_MON_COUNT]⟩,
    ⟨0x11000C, false, [CLK_MON_RANGE_MAX, CLK_MON_RANGE_MIN]⟩,
    ⟨0x110010, false, [CLK_BRANCH_NAND_DIV, CLK_BRANCH_DRAM_DIV]⟩,
    ⟨0x110014, false, [CLK_FAULT_CNT_RELOCKS, CLK_FAULT_CNT_FAULTS]⟩]

/-- The registers of block PWR (R521). -/
def rowsPwr : List RegRow :=
  [⟨0x120000, false, [PWR_CTRL_CNT_CLR, PWR_CTRL_INT_EN, PWR_CTRL_WAKE_REQ, PWR_CTRL_DEEP_REQ, PWR_CTRL_SLEEP_REQ, PWR_CTRL_CANCEL]⟩,
    ⟨0x120004, false, [PWR_STATUS_DOM_FAIL, PWR_STATUS_GUARD, PWR_STATUS_RETRY, PWR_STATUS_WAKE_EV, PWR_STATUS_REFUSE_EV, PWR_STATUS_TARGET, PWR_STATUS_STATE]⟩,
    ⟨0x120008, false, [PWR_CFG_SLEEP_CHECK_MIN, PWR_CFG_AUTO_SLEEP_S, PWR_CFG_IDLE_MS, PWR_CFG_DEEP_EN]⟩,
    ⟨0x12000C, false, [PWR_CFG2_WAKE_TIMER_MIN, PWR_CFG2_BACKOFF_MAX, PWR_CFG2_VOTE_MS]⟩,
    ⟨0x120010, false, [PWR_DOMAIN_LOGIC_OK7, PWR_DOMAIN_MEM_OK7, PWR_DOMAIN_CLK_OK7, PWR_DOMAIN_PG7, PWR_DOMAIN_LOGIC_OK6, PWR_DOMAIN_MEM_OK6, PWR_DOMAIN_CLK_OK6, PWR_DOMAIN_PG6, PWR_DOMAIN_LOGIC_OK5, PWR_DOMAIN_MEM_OK5, PWR_DOMAIN_CLK_OK5, PWR_DOMAIN_PG5, PWR_DOMAIN_LOGIC_OK4, PWR_DOMAIN_MEM_OK4, PWR_DOMAIN_CLK_OK4, PWR_DOMAIN_PG4, PWR_DOMAIN_LOGIC_OK3, PWR_DOMAIN_MEM_OK3, PWR_DOMAIN_CLK_OK3, PWR_DOMAIN_PG3, PWR_DOMAIN_LOGIC_OK2, PWR_DOMAIN_MEM_OK2, PWR_DOMAIN_CLK_OK2, PWR_DOMAIN_PG2, PWR_DOMAIN_LOGIC_OK1, PWR_DOMAIN_MEM_OK1, PWR_DOMAIN_CLK_OK1, PWR_DOMAIN_PG1, PWR_DOMAIN_LOGIC_OK0, PWR_DOMAIN_MEM_OK0, PWR_DOMAIN_CLK_OK0, PWR_DOMAIN_PG0]⟩,
    ⟨0x120014, false, [PWR_WAKE_COUNT, PWR_WAKE_FROM, PWR_WAKE_SOURCE]⟩,
    ⟨0x120018, false, [PWR_REFUSE_LAST_TARGET, PWR_REFUSE_LAST_K, PWR_REFUSE_LAST_REASON, PWR_REFUSE_LAST_DOMAIN]⟩,
    ⟨0x12001C, false, [PWR_REFUSE_CNT0_DRAM, PWR_REFUSE_CNT0_FAB, PWR_REFUSE_CNT0_CTRL, PWR_REFUSE_CNT0_SUP]⟩,
    ⟨0x120020, false, [PWR_REFUSE_CNT1_ECHO, PWR_REFUSE_CNT1_HOST, PWR_REFUSE_CNT1_NAND]⟩,
    ⟨0x120024, false, [PWR_OFFACC_COUNT, PWR_OFFACC_DOMAIN, PWR_OFFACC_REQUESTER]⟩,
    ⟨0x120028, false, [PWR_OFFACC_ADDR_ADDR]⟩,
    ⟨0x12002C, false, [PWR_AON_BOR_WARN, PWR_AON_LP_MODE, PWR_AON_AON_LOST]⟩] ++
  [⟨0x120030, false, [PWR_SAVE_VALID, PWR_SAVE_CRC_ERR, PWR_SAVE_WORDS, PWR_SAVE_LIST_VER]⟩,
    ⟨0x120034, false, [PWR_LEAVE_BUDGET_RUN_MW, PWR_LEAVE_BUDGET_BASE_MW]⟩,
    ⟨0x120038, false, [PWR_LEAVE_COST0_TRAIN_MW, PWR_LEAVE_COST0_PHY_MW]⟩,
    ⟨0x12003C, false, [PWR_LEAVE_COST1_PROG_MW, PWR_LEAVE_COST1_ERASE_MW, PWR_LEAVE_COST1_STRIPE_MW]⟩,
    ⟨0x120040, false, [PWR_LEAVE_STATUS_BUDGET_MW, PWR_LEAVE_STATUS_HELD_MW]⟩,
    ⟨0x120044, false, [PWR_LEAVE_QUEUE_REJECTS, PWR_LEAVE_QUEUE_QUEUED, PWR_LEAVE_QUEUE_VAULT]⟩]

/-- The registers of block SUP (R521). -/
def rowsSup : List RegRow :=
  [⟨0x130000, false, [SUP_CTRL_FF_ACK, SUP_CTRL_OFF_REQ, SUP_CTRL_FAULT_CLR, SUP_CTRL_INT_EN]⟩,
    ⟨0x130004, false, [SUP_STATUS_BTN_EV, SUP_STATUS_SEQ_EV, SUP_STATUS_FAULT_EV, SUP_STATUS_TABLE_ROM, SUP_STATUS_FF_NOR_PENDING, SUP_STATUS_ON_PENDING, SUP_STATUS_OFF_PENDING, SUP_STATUS_VAULT_SUPPRESS, SUP_STATUS_FAULT_N, SUP_STATUS_ALERT, SUP_STATUS_LOCKOUT, SUP_STATUS_SEQ_DONE]⟩,
    ⟨0x130008, false, [SUP_SCAN_CFG_HYST, SUP_SCAN_CFG_PG_SCANS, SUP_SCAN_CFG_FILT]⟩,
    ⟨0x13000C, false, [SUP_SEQ_CFG_RUN_LIMIT, SUP_SEQ_CFG_WAKE_ON_OFF, SUP_SEQ_CFG_AUTO_ON, SUP_SEQ_CFG_RETRY_DELAY, SUP_SEQ_CFG_RETRIES, SUP_SEQ_CFG_BOOT_GROUP]⟩,
    ⟨0x130010, false, [SUP_BTN_CFG_ORDERLY_S, SUP_BTN_CFG_SHORT_MIN, SUP_BTN_CFG_LONG_S]⟩,
    ⟨0x130014, false, [SUP_SEQ_STATUS_RUN_FAULTS, SUP_SEQ_STATUS_ATTEMPT, SUP_SEQ_STATUS_GROUP, SUP_SEQ_STATUS_STATE]⟩,
    ⟨0x130018, true, [SUP_FAULT_LATCHED]⟩,
    ⟨0x130020, false, [SUP_FF_INFO_CODE, SUP_FF_INFO_CHANNEL, SUP_FF_INFO_KIND, SUP_FF_INFO_PHASE, SUP_FF_INFO_GROUP, SUP_FF_INFO_ATTEMPT, SUP_FF_INFO_VALID]⟩,
    ⟨0x130024, false, [SUP_FF_STAT_DROPPED, SUP_FF_STAT_QUEUED]⟩,
    ⟨0x130028, true, [SUP_FF_TIME_TIME]⟩,
    ⟨0x130030, true, [SUP_FF_MASK_OUT_MASK]⟩] ++
  (List.range 8).map (fun n => ⟨0x130040 + 8 * n, false, [SUP_GRPg_CFG_STAGGER n, SUP_GRPg_CFG_DELAY_UP n, SUP_GRPg_CFG_T_READY n]⟩) ++
  (List.range 8).map (fun n => ⟨0x130044 + 8 * n, false, [SUP_GRPg_CFG2_DELAY_DOWN n, SUP_GRPg_CFG2_T_OFF n]⟩) ++
  (List.range 64).map (fun n => ⟨0x130100 + 16 * n, false, [SUP_CHn_CFG_DRAM_SR n, SUP_CHn_CFG_EN_POL n, SUP_CHn_CFG_KEEP_DEEP n, SUP_CHn_CFG_KEEP_SLEEP n, SUP_CHn_CFG_NOR_SUPPLY n, SUP_CHn_CFG_VAULT_USE n, SUP_CHn_CFG_OV_ACT n, SUP_CHn_CFG_UV_ACT n, SUP_CHn_CFG_GROUP n]⟩) ++
  (List.range 64).map (fun n => ⟨0x130104 + 16 * n, false, [SUP_CHn_THR_OV n, SUP_CHn_THR_UV n]⟩) ++
  (List.range 64).map (fun n => ⟨0x130108 + 16 * n, false, [SUP_CHn_LVL_OFF n, SUP_CHn_LVL_PG n]⟩) ++
  (List.range 64).map (fun n => ⟨0x13010C + 16 * n, false, [SUP_CHn_VAL_EN n, SUP_CHn_VAL_READY n, SUP_CHn_VAL_UV_LATCH n, SUP_CHn_VAL_OV_LATCH n, SUP_CHn_VAL_CODE n]⟩)

/-- The registers of block LAN (R521). -/
def rowsLan : List RegRow :=
  [⟨0x140000, false, [LAN_CTRL_FAULT_CLR, LAN_CTRL_INT_EN, LAN_CTRL_LEARN_CANCEL, LAN_CTRL_LEARN_REQ, LAN_CTRL_LEARN_PORT]⟩,
    ⟨0x140004, false, [LAN_STATUS_LEARN_DONE, LAN_STATUS_FAULT_EV, LAN_STATUS_DISAGREE_EV, LAN_STATUS_SWAP_EV, LAN_STATUS_OUT_VALID, LAN_STATUS_OUT_PORT, LAN_STATUS_GUARD, LAN_STATUS_LOST, LAN_STATUS_DISAGREE, LAN_STATUS_REST_ACTIVE, LAN_STATUS_LEARN_ACTIVE, LAN_STATUS_ALL_LEARNED, LAN_STATUS_CONVERGED]⟩,
    ⟨0x140008, false, [LAN_BUS_CFG_LEARN_MARGIN, LAN_BUS_CFG_V_FLOOR]⟩,
    ⟨0x14000C, false, [LAN_FILT_CFG_CONV_SOC, LAN_FILT_CFG_CONV_V, LAN_FILT_CFG_DISAGREE_S, LAN_FILT_CFG_GATE, LAN_FILT_CFG_K]⟩,
    ⟨0x140010, false, [LAN_LEARN_CFG_RETRY_H, LAN_LEARN_CFG_LEARN_SIGMA, LAN_LEARN_CFG_AGE_PCT, LAN_LEARN_CFG_INTERVAL_D]⟩,
    ⟨0x140014, false, [LAN_REST_CFG_PERIOD_H, LAN_REST_CFG_NATURAL_MIN, LAN_REST_CFG_REST_MIN]⟩,
    ⟨0x140018, false, [LAN_ENERGY_E_MJ]⟩,
    ⟨0x14001C, false, [LAN_ENERGY_PT_E_MJ]⟩,
    ⟨0x140020, false, [LAN_GEN_GEN]⟩,
    ⟨0x140024, false, [LAN_LEARN_STATUS_DUE, LAN_LEARN_STATUS_LAST_OUTCOME, LAN_LEARN_STATUS_STEP, LAN_LEARN_STATUS_PORT]⟩,
    ⟨0x140028, false, [LAN_VAULT_GUAR_E_MJ]⟩,
    ⟨0x14002C, false, [LAN_VAULT_DELIV_E_MJ]⟩] ++
  [⟨0x140030, false, [LAN_REH_ENERGY_E_MJ]⟩] ++
  (List.range 8).map (fun n => ⟨0x140100 + 64 * n, false, [LAN_Mn_STATUS_PROFILE n, LAN_Mn_STATUS_FAULT n, LAN_Mn_STATUS_REST_OVERDUE n, LAN_Mn_STATUS_DISAGREE n, LAN_Mn_STATUS_CHG_INHIBIT n, LAN_Mn_STATUS_LOWCUR n, LAN_Mn_STATUS_LEARNED n, LAN_Mn_STATUS_ID_CODE n, LAN_Mn_STATUS_STATE n]⟩) ++
  (List.range 8).map (fun n => ⟨0x140104 + 64 * n, false, [LAN_Mn_CURRENT_MA n]⟩) ++
  (List.range 8).map (fun n => ⟨0x140108 + 64 * n, false, [LAN_Mn_VT_TEMP n, LAN_Mn_VT_MV n]⟩) ++
  (List.range 8).map (fun n => ⟨0x14010C + 64 * n, false, [LAN_Mn_CHARGE_MC n]⟩) ++
  (List.range 8).map (fun n => ⟨0x140110 + 64 * n, false, [LAN_Mn_ENERGY_MJ n]⟩) ++
  (List.range 8).map (fun n => ⟨0x140114 + 64 * n, false, [LAN_Mn_CAP_SIGMA n, LAN_Mn_CAP_CAP n]⟩) ++
  (List.range 8).map (fun n => ⟨0x140118 + 64 * n, false, [LAN_Mn_ESR_STEPS n, LAN_Mn_ESR_UOHM n]⟩) ++
  (List.range 8).map (fun n => ⟨0x14011C + 64 * n, false, [LAN_Mn_STATE_SQRT_P n, LAN_Mn_STATE_X n]⟩) ++
  (List.range 8).map (fun n => ⟨0x140120 + 64 * n, true, [LAN_Mn_ACCUM_NC n]⟩) ++
  (List.range 8).map (fun n => ⟨0x140128 + 64 * n, false, [LAN_Mn_REST_LEAK_UA n, LAN_Mn_REST_SINCE_MIN n]⟩) ++
  (List.range 8).map (fun n => ⟨0x14012C + 64 * n, false, [LAN_Mn_CHG_TARGET_MV n, LAN_Mn_CHG_DUTY n]⟩) ++
  (List.range 8).map (fun n => ⟨0x140130 + 64 * n, false, [LAN_Mn_LEARN_SWAPS n, LAN_Mn_LEARN_AGE_D n]⟩)

/-- The registers of block UMB (R521). -/
def rowsUmb : List RegRow :=
  [⟨0x150000, false, [UMB_CTRL_INT_EN, UMB_CTRL_SEEP_HOLD, UMB_CTRL_REH_START]⟩,
    ⟨0x150004, false, [UMB_STATUS_REH_DONE, UMB_STATUS_DEFICIT_EV, UMB_STATUS_THR_EV, UMB_STATUS_CLAMP_RESERVE, UMB_STATUS_CLAMP_CACHE, UMB_STATUS_SEEP_BORROW, UMB_STATUS_INSUFF, UMB_STATUS_REH_ACTIVE, UMB_STATUS_DEFAULTS, UMB_STATUS_STALE, UMB_STATUS_THR_B, UMB_STATUS_THR_A, UMB_STATUS_DEFICIT, UMB_STATUS_COLD_CAP]⟩,
    ⟨0x150008, true, [UMB_HORIZON_BYTES]⟩,
    ⟨0x150010, true, [UMB_DIRTY_OWN_BYTES]⟩,
    ⟨0x150018, true, [UMB_DIRTY_MIRROR_BYTES]⟩,
    ⟨0x150020, true, [UMB_DEFICIT_BYTES]⟩,
    ⟨0x150028, false, [UMB_ENERGY_E_MJ]⟩,
    ⟨0x15002C, false, [UMB_VPOWER_P_MW]⟩,
    ⟨0x150030, false, [UMB_VRATE_B_MBS]⟩,
    ⟨0x150034, false, [UMB_MODEL_CFG_BETA, UMB_MODEL_CFG_ALPHA, UMB_MODEL_CFG_MARGIN]⟩,
    ⟨0x150038, false, [UMB_FIXED_CFG_T_TAIL, UMB_FIXED_CFG_T_CARRY]⟩,
    ⟨0x15003C, false, [UMB_CAP_CFG_FLOOR, UMB_CAP_CFG_COLD_CAP]⟩] ++
  [⟨0x150040, false, [UMB_SEEP_CFG_MIRROR_SHARE, UMB_SEEP_CFG_AGE_PERIOD, UMB_SEEP_CFG_TAU, UMB_SEEP_CFG_TARGET]⟩,
    ⟨0x150044, false, [UMB_SEEP_RATE_MODE, UMB_SEEP_RATE_RATE]⟩,
    ⟨0x150048, true, [UMB_ENDUR_LEVEL_LEVEL]⟩,
    ⟨0x150050, false, [UMB_ENDUR_FILL_FILL]⟩,
    ⟨0x150054, false, [UMB_ENDUR_CFG_LIFE, UMB_ENDUR_CFG_RESERVE, UMB_ENDUR_CFG_PE_LIMIT]⟩,
    ⟨0x150058, false, [UMB_PEER_OUT_GRANULES]⟩,
    ⟨0x15005C, false, [UMB_PEER_IN_GRANULES]⟩,
    ⟨0x150060, false, [UMB_REH_CFG_TEMP_TRIG, UMB_REH_CFG_WINDOW_MS, UMB_REH_CFG_INTERVAL]⟩,
    ⟨0x150064, false, [UMB_REH_RESULT_RATE, UMB_REH_RESULT_POWER]⟩,
    ⟨0x150068, false, [UMB_REH_INFO_AGE_H, UMB_REH_INFO_OUTCOME, UMB_REH_INFO_TEMP]⟩,
    ⟨0x15006C, false, [UMB_THROTTLE_MS_COUNT]⟩,
    ⟨0x150070, false, [UMB_GEN_GEN]⟩]

/-- The registers of block VLT (R521). -/
def rowsVlt : List RegRow :=
  [⟨0x160000, false, [VLT_CTRL_INT_EN, VLT_CTRL_COPY_PAUSE, VLT_CTRL_STAT_CLR]⟩,
    ⟨0x160004, false, [VLT_STATUS_RESTORE_DONE, VLT_STATUS_VAULT_DONE, VLT_STATUS_FROM_PEER, VLT_STATUS_FULL_SCAN, VLT_STATUS_BLOCK_FALLBACK, VLT_STATUS_DEGRADED, VLT_STATUS_INPUT_RET, VLT_STATUS_HOLD, VLT_STATUS_ARMED, VLT_STATUS_PHASE]⟩,
    ⟨0x160008, false, [VLT_TRIP_CFG_RETURN_MS, VLT_TRIP_CFG_FILTER]⟩,
    ⟨0x16000C, false, [VLT_CFG_FULL_SCAN_NEXT]⟩,
    ⟨0x160010, false, [VLT_VAULT_NUM_NUM]⟩,
    ⟨0x160014, false, [VLT_OUTCOME_KIND, VLT_OUTCOME_OWN, VLT_OUTCOME_MIRROR, VLT_OUTCOME_PATH]⟩,
    ⟨0x160018, false, [VLT_T_EARLY_DRAIN_NS, VLT_T_EARLY_CLOSE_NS]⟩,
    ⟨0x16001C, false, [VLT_T_FIRST_FIRST_NS]⟩,
    ⟨0x160020, false, [VLT_T_SEAL_SEAL_US]⟩,
    ⟨0x160024, false, [VLT_GRANULES_COUNT]⟩,
    ⟨0x160028, false, [VLT_STRIPES_COUNT]⟩,
    ⟨0x16002C, false, [VLT_FAULTS_DEGRADED, VLT_FAULTS_REWRITTEN, VLT_FAULTS_LUNS_OUT]⟩] ++
  [⟨0x160030, false, [VLT_RST_REMAIN_GRANULES]⟩,
    ⟨0x160034, false, [VLT_RST_TIME_OPEN_MS, VLT_RST_TIME_SCAN_MS]⟩,
    ⟨0x160038, false, [VLT_DEMAND_CNT_COUNT]⟩,
    ⟨0x16003C, false, [VLT_DEMAND_MAX_MAX_US]⟩,
    ⟨0x160040, false, [VLT_MERGE_FULL_CNT, VLT_MERGE_NOW]⟩]

/-- The registers of block GRT (R521). -/
def rowsGrt : List RegRow :=
  [⟨0x170000, false, [GRT_CTRL_FORMAT, GRT_CTRL_JRNL_FLUSH, GRT_CTRL_GC_NOW, GRT_CTRL_GC_HOLD]⟩,
    ⟨0x170004, false, [GRT_STATUS_FORMAT_ARMED, GRT_STATUS_LEDGER_WP, GRT_STATUS_BB_ACTIVE, GRT_STATUS_RECORD_MOVED, GRT_STATUS_CAP_RO, GRT_STATUS_SPARES_LOW, GRT_STATUS_GC_HELD, GRT_STATUS_GC_ACTIVE]⟩,
    ⟨0x170008, false, [GRT_GEOM_BLOCKS, GRT_GEOM_SUM_PAGES, GRT_GEOM_PAGES]⟩,
    ⟨0x17000C, false, [GRT_SERVICE_LUNS_VAULT, GRT_SERVICE_LUNS_GROTTO, GRT_SERVICE_CHANNELS]⟩,
    ⟨0x170010, false, [GRT_CAP_CFG_MIN_CACHE, GRT_CAP_CFG_SPARE_PCT]⟩,
    ⟨0x170014, false, [GRT_RESV_CFG_TARGET]⟩,
    ⟨0x170018, false, [GRT_GC_CFG_WEAR_EVERY, GRT_GC_CFG_STOP, GRT_GC_CFG_START]⟩,
    ⟨0x17001C, false, [GRT_KEY_VALID, GRT_KEY_KEY_GEN]⟩,
    ⟨0x170020, true, [GRT_VCAP_BYTES]⟩,
    ⟨0x170028, true, [GRT_ERASED_BYTES]⟩,
    ⟨0x170030, true, [GRT_SERIAL_NEXT]⟩,
    ⟨0x170038, false, [GRT_SESSION_SESSION]⟩] ++
  [⟨0x17003C, false, [GRT_BANDS_ERASED, GRT_BANDS_TOTAL]⟩,
    ⟨0x170040, false, [GRT_RETIRE_RETIRED, GRT_RETIRE_SPARES_MIN]⟩,
    ⟨0x170044, false, [GRT_SCAN_HALF_ERASED, GRT_SCAN_FAR_READS]⟩,
    ⟨0x170048, false, [GRT_GC_STAT_BANDS]⟩,
    ⟨0x17004C, false, [GRT_LEDGER_SPARES, GRT_LEDGER_WP, GRT_LEDGER_MODE]⟩]

/-- The registers of block FLC (R521). -/
def rowsFlc : List RegRow :=
  [⟨0x180000, false, [FLC_CTRL_RETRAIN_GO, FLC_CTRL_RETRAIN_CH, FLC_CTRL_INT_EN, FLC_CTRL_CNT_CLR]⟩,
    ⟨0x180004, false, [FLC_STATUS_LUNS_ACTIVE, FLC_STATUS_CHANNELS_UP, FLC_STATUS_FOREIGN_EV, FLC_STATUS_CH_EV, FLC_STATUS_LUN_EV, FLC_STATUS_TRIP, FLC_STATUS_READY]⟩,
    ⟨0x180008, false, [FLC_IF_CFG_IFACE, FLC_IF_CFG_RATE]⟩,
    ⟨0x18000C, false, [FLC_LDPC_CFG_REFRESH_LEVEL, FLC_LDPC_CFG_REFRESH_BITS, FLC_LDPC_CFG_PARITY]⟩,
    ⟨0x180010, false, [FLC_RETRY_CFG_SOFT_STEP, FLC_RETRY_CFG_SOFT_EN, FLC_RETRY_CFG_LEVELS]⟩,
    ⟨0x180014, false, [FLC_SUSP_CFG_ERASE_MAX_SUSP, FLC_SUSP_CFG_PROG_MAX_SUSP, FLC_SUSP_CFG_ERASE_MIN, FLC_SUSP_CFG_PROG_MIN]⟩,
    ⟨0x180018, false, [FLC_TIMEOUT_CFG_LIMIT, FLC_TIMEOUT_CFG_WINDOW, FLC_TIMEOUT_CFG_ERASE_X, FLC_TIMEOUT_CFG_PROG_X, FLC_TIMEOUT_CFG_READ_X]⟩,
    ⟨0x18001C, false, [FLC_INFLIGHT_PEAK, FLC_INFLIGHT_NOW]⟩,
    ⟨0x180020, false, [FLC_FOREIGN_COUNT]⟩,
    ⟨0x180024, false, [FLC_LUN_SEL_LUN]⟩,
    ⟨0x180028, false, [FLC_LUN_INFO_PFAIL, FLC_LUN_INFO_TIMEOUTS, FLC_LUN_INFO_LAST_LEVEL, FLC_LUN_INFO_PROFILE, FLC_LUN_INFO_SLOTS, FLC_LUN_INFO_STATE]⟩,
    ⟨0x18002C, false, [FLC_EC_SEL_BLOCK, FLC_EC_SEL_LUN, FLC_EC_SEL_AREA]⟩] ++
  [⟨0x180030, false, [FLC_EC_DATA_STATE, FLC_EC_DATA_PFAIL, FLC_EC_DATA_COUNT]⟩,
    ⟨0x180040, false, [FLC_CNT_RETRY_COUNT]⟩,
    ⟨0x180044, false, [FLC_CNT_SOFT_COUNT]⟩,
    ⟨0x180048, false, [FLC_CNT_UNCORR_COUNT]⟩,
    ⟨0x18004C, false, [FLC_CNT_PFAIL_COUNT]⟩,
    ⟨0x180050, false, [FLC_CNT_EFAIL_COUNT]⟩,
    ⟨0x180054, false, [FLC_CNT_TIMEOUT_COUNT]⟩,
    ⟨0x180058, false, [FLC_CNT_REFRESH_COUNT]⟩] ++
  (List.range 16).map (fun n => ⟨0x180060 + 4 * n, false, [FLC_CHn_STATUS_RETRAINS n, FLC_CHn_STATUS_LUNS_ACTIVE n, FLC_CHn_STATUS_LUNS_PRESENT n, FLC_CHn_STATUS_RATE n, FLC_CHn_STATUS_STATE n]⟩)

/-- The registers of block DMC (R521). -/
def rowsDmc : List RegRow :=
  [⟨0x190000, false, [DMC_CTRL_INT_EN, DMC_CTRL_STAT_CLR]⟩,
    ⟨0x190004, false, [DMC_STATUS_FORCED_EV, DMC_STATUS_CH_POP, DMC_STATUS_VAULT_MODE, DMC_STATUS_REF_2X, DMC_STATUS_PANIC, DMC_STATUS_READY]⟩,
    ⟨0x190008, false, [DMC_GEOM_CAP_GIB, DMC_GEOM_CHANNELS, DMC_GEOM_RDIMM, DMC_GEOM_RANKS, DMC_GEOM_DENSITY, DMC_GEOM_RATE]⟩,
    ⟨0x19000C, false, [DMC_SCHED_CFG_AGE_LIMIT, DMC_SCHED_CFG_HIT_CAP, DMC_SCHED_CFG_WR_HI, DMC_SCHED_CFG_WR_LO]⟩,
    ⟨0x190010, false, [DMC_HASH_BG0_MASK]⟩,
    ⟨0x190014, false, [DMC_HASH_BG1_MASK]⟩,
    ⟨0x190018, false, [DMC_HASH_BG2_MASK]⟩,
    ⟨0x19001C, false, [DMC_HASH_BA0_MASK]⟩,
    ⟨0x190020, false, [DMC_HASH_BA1_MASK]⟩,
    ⟨0x190024, false, [DMC_HASH_RK_MASK]⟩,
    ⟨0x190028, false, [DMC_HASH_CH0_MASK]⟩,
    ⟨0x19002C, false, [DMC_HASH_CH1_MASK]⟩] ++
  [⟨0x190030, false, [DMC_PORT_WEIGHT_CPU, DMC_PORT_WEIGHT_BG, DMC_PORT_WEIGHT_RT, DMC_PORT_WEIGHT_ECHO, DMC_PORT_WEIGHT_HOST]⟩,
    ⟨0x190034, false, [DMC_PORT_RESV_BG, DMC_PORT_RESV_CPU, DMC_PORT_RESV_ECHO, DMC_PORT_RESV_HOST, DMC_PORT_RESV_RT]⟩,
    ⟨0x190038, false, [DMC_RT_CFG_RST_OFF, DMC_RT_CFG_RST_ON, DMC_RT_CFG_DUMP_OFF, DMC_RT_CFG_DUMP_ON]⟩,
    ⟨0x19003C, false, [DMC_REF_CFG_TREFI_NS, DMC_REF_CFG_TRFC_NS]⟩,
    ⟨0x190040, false, [DMC_REF_STATUS_FORCED, DMC_REF_STATUS_POSTPONED_MAX, DMC_REF_STATUS_OWED]⟩,
    ⟨0x190044, false, [DMC_PWR_CFG_PD_IDLE]⟩,
    ⟨0x190048, false, [DMC_INORDER_CNT_COUNT]⟩,
    ⟨0x19004C, false, [DMC_PANIC_CNT_MAX_US, DMC_PANIC_CNT_COUNT]⟩,
    ⟨0x190050, true, [DMC_XLATE_ADDR_ADDR]⟩,
    ⟨0x190058, false, [DMC_XLATE_RESULT0_VALID, DMC_XLATE_RESULT0_RANGE_ERR, DMC_XLATE_RESULT0_COL, DMC_XLATE_RESULT0_ROW]⟩,
    ⟨0x19005C, false, [DMC_XLATE_RESULT1_CH, DMC_XLATE_RESULT1_SC, DMC_XLATE_RESULT1_RK, DMC_XLATE_RESULT1_BG, DMC_XLATE_RESULT1_BA]⟩,
    ⟨0x190100, false, [DMC_ECC_CTRL_INJ_POS, DMC_ECC_CTRL_INJ_MODE, DMC_ECC_CTRL_INT_EN, DMC_ECC_CTRL_CNT_CLR]⟩] ++
  [⟨0x190104, false, [DMC_ECC_STATUS_REWRITE_DROP, DMC_ECC_STATUS_UE_EV, DMC_ECC_STATUS_RH_EV, DMC_ECC_STATUS_POS_EV]⟩,
    ⟨0x190108, false, [DMC_CE_CNT_COUNT]⟩,
    ⟨0x19010C, false, [DMC_UE_CNT_VAULT, DMC_UE_CNT_TOTAL]⟩,
    ⟨0x190110, false, [DMC_POS_CFG_LEAK_S, DMC_POS_CFG_LIMIT]⟩,
    ⟨0x190114, false, [DMC_POS_SEL_CH, DMC_POS_SEL_SC, DMC_POS_SEL_RK, DMC_POS_SEL_POS]⟩,
    ⟨0x190118, false, [DMC_POS_DATA_DEGRADED, DMC_POS_DATA_TOTAL, DMC_POS_DATA_BUCKET]⟩,
    ⟨0x19011C, false, [DMC_SCRUB_CFG_HOURS, DMC_SCRUB_CFG_EN]⟩,
    ⟨0x190120, false, [DMC_SCRUB_STATUS_PASSES, DMC_SCRUB_STATUS_PCT]⟩,
    ⟨0x190124, false, [DMC_RH_CFG_THRESH]⟩,
    ⟨0x190128, false, [DMC_RH_STATUS_THROTTLES, DMC_RH_STATUS_ACTIVE]⟩,
    ⟨0x19012C, false, [DMC_RH_LAST_PORT, DMC_RH_LAST_CH, DMC_RH_LAST_SC, DMC_RH_LAST_RK, DMC_RH_LAST_BG, DMC_RH_LAST_BA, DMC_RH_LAST_ROW]⟩,
    ⟨0x190130, false, [DMC_TRN_CFG_TRACK_MS, DMC_TRN_CFG_VERIFY_MARGIN, DMC_TRN_CFG_FORCE_FULL]⟩] ++
  [⟨0x190134, false, [DMC_TRN_STATUS_FAILED, DMC_TRN_STATUS_FULL, DMC_TRN_STATUS_WINDOW, DMC_TRN_STATUS_STORED, DMC_TRN_STATUS_ABORTS, DMC_TRN_STATUS_DEFERS]⟩,
    ⟨0x190138, false, [DMC_FRZ_STATUS_FROZEN, DMC_FRZ_STATUS_COVERED, DMC_FRZ_STATUS_SALVAGE, DMC_FRZ_STATUS_FREEZE_EV, DMC_FRZ_STATUS_CAPTURED]⟩,
    ⟨0x19013C, false, [DMC_FRZ_INFO_BEATS, DMC_FRZ_INFO_MULTI_POS, DMC_FRZ_INFO_BEAT_UE, DMC_FRZ_INFO_MERGE, DMC_FRZ_INFO_PORT]⟩,
    ⟨0x190140, true, [DMC_FRZ_ADDR_ADDR]⟩] ++
  (List.range 4).map (fun n => ⟨0x190148 + 4 * n, false, [DMC_FRZ_SYNn_SYN n]⟩) ++
  [⟨0x190158, false, [DMC_FRZ_LOSS_GRANULES]⟩,
    ⟨0x190160, true, [DMC_DIAG_ADDR_ADDR]⟩,
    ⟨0x190168, false, [DMC_DIAG_RESULT_VALID, DMC_DIAG_RESULT_REFUSED, DMC_DIAG_RESULT_OUTCOME, DMC_DIAG_RESULT_POSITIONS, DMC_DIAG_RESULT_BEATS]⟩]

/-- The registers of block ECH (R521). -/
def rowsEch : List RegRow :=
  [⟨0x1A0000, false, [ECH_CTRL_INT_EN, ECH_CTRL_MVIEW_EN, ECH_CTRL_REJOIN, ECH_CTRL_DETACH, ECH_CTRL_CNT_CLR]⟩,
    ⟨0x1A0004, false, [ECH_STATUS_RESYNC_DONE, ECH_STATUS_MISB_EV, ECH_STATUS_STATE_EV, ECH_STATUS_PEER_FROZEN, ECH_STATUS_REPLACE_ARMED, ECH_STATUS_PEER_TRIP, ECH_STATUS_FWD_ACTIVE, ECH_STATUS_PAIR_MODE, ECH_STATUS_STATE]⟩,
    ⟨0x1A0008, false, [ECH_CFG_POLICY, ECH_CFG_PENALTY_S, ECH_CFG_SILENCE, ECH_CFG_ACK_TO]⟩,
    ⟨0x1A000C, false, [ECH_CFG2_REJOIN_MS, ECH_CFG2_RESYNC_RATE, ECH_CFG2_LAPSE_LIMIT, ECH_CFG2_FALLBACK]⟩,
    ⟨0x1A0010, false, [ECH_LINK_RETRAINS, ECH_LINK_WIDTH, ECH_LINK_RATE, ECH_LINK_UP]⟩,
    ⟨0x1A0014, false, [ECH_PEER_STEPPING, ECH_PEER_OWNER, ECH_PEER_CAP_GIB]⟩,
    ⟨0x1A0018, true, [ECH_PEER_UID_UID_HASH]⟩,
    ⟨0x1A0020, true, [ECH_SEQ_SENT_SEQ]⟩,
    ⟨0x1A0028, true, [ECH_SEQ_ACKED_SEQ]⟩,
    ⟨0x1A0030, true, [ECH_SEQ_STORED_SEQ]⟩,
    ⟨0x1A0038, false, [ECH_RESYNC_MODE, ECH_RESYNC_ZONES]⟩,
    ⟨0x1A003C, false, [ECH_MISB_COUNT_24H, ECH_MISB_LAST_CODE]⟩] ++
  [⟨0x1A0040, false, [ECH_LAT_MAX_NS, ECH_LAT_LAST_NS]⟩,
    ⟨0x1A0044, false, [ECH_CNT_NAK_COUNT]⟩,
    ⟨0x1A0048, false, [ECH_CNT_LAPSE_COUNT]⟩,
    ⟨0x1A004C, false, [ECH_CNT_FWD_COUNT]⟩]

/-- The registers of block EVR (R521). -/
def rowsEvr : List RegRow :=
  [⟨0x1B0000, false, [EVR_CTRL_RD_GO, EVR_CTRL_FLUSH, EVR_CTRL_INT_EN, EVR_CTRL_CNT_CLR]⟩,
    ⟨0x1B0004, false, [EVR_STATUS_CLEAR_EV, EVR_STATUS_MEM_EV, EVR_STATUS_SEV_EV, EVR_STATUS_LOST_EV, EVR_STATUS_CLEAR_LOCK, EVR_STATUS_VIEW_OPEN, EVR_STATUS_SCAN_DONE, EVR_STATUS_RING_FULL, EVR_STATUS_PENDING]⟩,
    ⟨0x1B0008, false, [EVR_CFG_REPEAT_S, EVR_CFG_ALERT_SEV, EVR_CFG_MIN_NOR_SEV, EVR_CFG_BB_FLUSH_S]⟩,
    ⟨0x1B000C, false, [EVR_MEM_BB_FAIL, EVR_MEM_CRIT, EVR_MEM_MODE]⟩,
    ⟨0x1B0010, true, [EVR_SEQ_NEXT]⟩,
    ⟨0x1B0018, false, [EVR_RING_HELD, EVR_RING_PENDING]⟩,
    ⟨0x1B001C, false, [EVR_NOR_USABLE, EVR_NOR_PROTECTED]⟩,
    ⟨0x1B0020, false, [EVR_BB_PAGES, EVR_BB_CURRENT, EVR_BB_USABLE]⟩,
    ⟨0x1B0024, false, [EVR_LOST_OVERWRITTEN, EVR_LOST_DROPPED]⟩,
    ⟨0x1B0028, false, [EVR_LAST_SOURCE, EVR_LAST_SEVERITY, EVR_LAST_CODE]⟩,
    ⟨0x1B002C, false, [EVR_CLEAR_COUNT, EVR_CLEAR_REFUSED]⟩,
    ⟨0x1B0030, true, [EVR_CLEAR_SEQ_SEQ]⟩] ++
  [⟨0x1B0038, true, [EVR_VIEW_END_SEQ]⟩,
    ⟨0x1B0040, true, [EVR_RD_SEQ_SEQ]⟩,
    ⟨0x1B0048, false, [EVR_RD_STATUS_VALID, EVR_RD_STATUS_NOT_HELD, EVR_RD_STATUS_FROM]⟩] ++
  (List.range 16).map (fun n => ⟨0x1B0100 + 4 * n, false, [EVR_RD_DATAw_WORD n]⟩)

/-- The registers of block CFG (R521). -/
def rowsCfg : List RegRow :=
  [⟨0x1C0000, false, [CFG_CTRL_LOCK]⟩,
    ⟨0x1C0004, false, [CFG_STATUS_ROLLED_BACK, CFG_STATUS_TRIAL, CFG_STATUS_OTHER_VALID, CFG_STATUS_RUN_VALID, CFG_STATUS_BANK]⟩,
    ⟨0x1C0008, false, [CFG_IMG_SEQ_SEQ]⟩,
    ⟨0x1C000C, false, [CFG_SVN_STAGED, CFG_SVN_RUNNING]⟩,
    ⟨0x1C0010, false, [CFG_UPD_STATUS_KIB, CFG_UPD_STATUS_RESULT, CFG_UPD_STATUS_BUSY]⟩,
    ⟨0x1C0014, false, [CFG_COMMIT_SEQ_SEQ]⟩,
    ⟨0x1C0018, false, [CFG_PATCH_SKIPPED, CFG_PATCH_AON, CFG_PATCH_CP]⟩,
    ⟨0x1C001C, false, [CFG_NOR_INFO_SIZE_LOG2, CFG_NOR_INFO_ESUSP, CFG_NOR_INFO_ADDR4, CFG_NOR_INFO_READ]⟩,
    ⟨0x1C0020, false, [CFG_HASH_SEL_STAGED, CFG_HASH_SEL_WORD]⟩,
    ⟨0x1C0024, false, [CFG_HASH_DATA_WORD]⟩,
    ⟨0x1C0028, false, [CFG_NOR_ERR_ERASE_RETRY, CFG_NOR_ERR_PROG_RETRY]⟩,
    ⟨0x1C002C, false, [CFG_TRIAL_MINUTES]⟩]

/-- The registers of block WDT (R521). -/
def rowsWdt : List RegRow :=
  [⟨0x1D0000, false, [WDT_CTRL_EN]⟩,
    ⟨0x1D0004, false, [WDT_CFG_STAGE2, WDT_CFG_STAGE1]⟩,
    ⟨0x1D0008, false, [WDT_KICK_KEY]⟩,
    ⟨0x1D000C, false, [WDT_HB_CP]⟩,
    ⟨0x1D0010, false, [WDT_STATUS_REMAIN_MS, WDT_STATUS_STAGE, WDT_STATUS_MASKED, WDT_STATUS_STAGE1_EV, WDT_STATUS_PAUSED]⟩,
    ⟨0x1D0014, false, [WDT_COUNT_RESETS, WDT_COUNT_STAGE1]⟩]

end Sys2Proof.Machine.Reg
end

