-- ==== Sys2Proof/Machine/State/Cache.lean ====
section
/-! DEFINITION. The state of the persistence contract, the cache and Umbra (R14–R103): the PMR and its ports' shares of
the ingest buffer, barriers, the granule state table and map, zone ages, the Seep in-flight table, rehearsals. -/

namespace Sys2Proof.Machine

/-- The four PMR states (R65). -/
inductive PmrState where
  | closed | restoring | opened | readOnly
deriving DecidableEq, Repr

/-- What waits in a port's share of the ingest buffer, in arrival order (R20, R37, R46, R74). -/
inductive PortItem where
  /-- A received write: PMR offset, data, byte enables. -/
  | write (addr : Nat) (data : List Byte) (be : List Bool)
  /-- A PMR read behind such a write: PMR offset, length. -/
  | read (addr len : Nat)
  /-- A barrier read behind such a write, with the time it arrived in nanoseconds. -/
  | barrier (ns : Nat)
deriving DecidableEq, Repr

/-- A barrier read ordered and not completed (R43). -/
structure Barrier where
  port  : Port
  point : Nat
  group : Nat
deriving DecidableEq, Repr

/-- A PMR read waiting for a granule fetch (R125). -/
structure WaitRead where
  port : Port
  addr : Nat
  len  : Nat
deriving DecidableEq, Repr

/-- A write held in the merge queue (R128). -/
structure HeldWrite where
  seq   : Nat
  epoch : Nat
  off   : Nat
  data  : List Byte
  be    : List Bool
deriving DecidableEq, Repr

/-- A poisoned granule: its sector mask and the reason it was poisoned for (R53, R154). -/
structure Poison where
  mask   : Nat
  reason : Nat
deriving DecidableEq, Repr

/-- The PMR (R33–R67). -/
structure Pmr where
  st        : PmrState
  /-- The state left at the trip (R56). -/
  leftAt    : PmrState
  /-- The background copy has finished (R65). -/
  copyDone  : Bool
  nextSeq   : Nat
  epoch     : Nat
  /-- The peer's epoch at the highest stored mirror sequence (R488). -/
  peerEpoch : Nat
  lastCovered : Nat
  /-- The conditions of R60 that are present, by code. -/
  conds     : List Nat
  /-- HSTS as last reported (R61). -/
  hsts      : Nat
  queueA    : List PortItem
  queueB    : List PortItem
  /-- The port that won the last tie (R38). -/
  lastTie   : Option Port
  ingestOpen : Bool
  barriers  : List Barrier
  /-- The open barrier group: its number and the time its first read was ordered (R41). -/
  group     : Option (Nat × Nat)
  nextGroup : Nat
  /-- The latest fabric time that a command has brought, in nanoseconds: the time at which what is ordered now is ordered
  (R41). -/
  now       : Nat
  waitReads : List WaitRead
  /-- Held writes by cache granule (R128). -/
  merge     : NMap (List HeldWrite)
  /-- Poisoned granules by cache granule (R53). -/
  poison    : NMap Poison
  /-- Umbra has published a horizon since the start (R20). -/
  firstHorizon : Bool
  /-- Restored last sequence and epoch of the own and the mirror region (R497). -/
  restOwnSeq    : Nat
  restOwnEpoch  : Nat
  restMirSeq    : Nat
  restMirEpoch  : Nat
  /-- Deficit energy flag of the conditions of R62: horizon below the floor for 1 s. -/
  insuff    : Bool
deriving DecidableEq, Repr

/-- The PMR before a start: CLOSED, nothing sequenced. -/
def Pmr.init : Pmr :=
  { st := .closed, leftAt := .closed, copyDone := false, nextSeq := 1, epoch := 0, peerEpoch := 0, lastCovered := 0,
    conds := [], hsts := 0, queueA := [], queueB := [], lastTie := none, ingestOpen := false, barriers := [], group := none,
    nextGroup := 0, now := 0, waitReads := [], merge := [], poison := [], firstHorizon := false, restOwnSeq := 0,
    restOwnEpoch := 0,
    restMirSeq := 0, restMirEpoch := 0, insuff := false }

/-- The two state bits of a granule (R17) and the version it carries (R82). -/
structure GState where
  dirty  : Bool
  seeped : Bool
  seq    : Nat
  epoch  : Nat
deriving DecidableEq, Repr

/-- A granule never written. -/
def GState.none : GState := ⟨false, false, 0, 0⟩

/-- The restore state of a granule in its map entry (R158). -/
inductive MapSt where
  | noVersion | copied | notCopied | fetching | remote | poisoned
deriving DecidableEq, Repr

/-- A granule map entry (R158): state and location. The location is none where the granule has no version on flash. -/
structure MapEnt where
  st     : MapSt
  loc    : Option (Nat × Nat × Nat)
  /-- While FETCHING: the fetch is from the peer (R125). -/
  fromPeer : Bool
  /-- While FETCHING: a host access or the peer's demand asked for it, not a background copy (R126, R140). -/
  demand : Bool
deriving DecidableEq, Repr

/-- The entry of a granule with no version. -/
def MapEnt.none : MapEnt := ⟨.noVersion, Option.none, false, false⟩

/-- An entry of the Seep in-flight table (R18): granule, stale bit, the stripe it was read for. -/
structure InFlight where
  gran   : Nat
  stale  : Bool
  serial : Nat
deriving DecidableEq, Repr

/-- The cache (R15–R18, R81, R158). -/
structure Cache where
  /-- The bytes of the cache proper; an unlisted byte is zero. -/
  cells    : List Host.Cell
  grans    : NMap GState
  map      : NMap MapEnt
  ages     : NMap Nat
  seepPtr  : Nat
  inflight : List InFlight
deriving DecidableEq, Repr

/-- An empty cache. -/
def Cache.init : Cache := ⟨[], [], [], [], 0, []⟩

/-- An accepted rehearsal result (R70): power in mW, rate in bytes per second, temperature, LUN count, operating second. -/
structure RehResult where
  power : Nat
  rate  : Nat
  temp  : Int
  luns  : Nat
  time  : Nat
deriving DecidableEq, Repr

/-- A rehearsal in progress (R89). -/
structure Rehearsal where
  software : Bool
  /-- Stripes programmed in the window. -/
  stripes  : Nat
  failed   : Bool
  /-- The window is over, complete or not; the stripes in flight are still to end (R89 step 4). -/
  ending   : Option Bool
deriving DecidableEq, Repr

/-- Umbra (R68–R103), beside its registers. -/
structure Umbra where
  results   : List RehResult
  lastRej   : Option RehResult
  rehearsal : Option Rehearsal
  /-- An automatic rehearsal is wanted and waits for its preconditions (R88). -/
  wanted    : Bool
  lastSw    : Option Nat
  overruns  : Nat
  published : Bool
  /-- The clamps bound at the last update, for the event on each change (R71). -/
  clamps    : List Bool
  borrowing : Bool
  /-- Seep overdraws the bucket in deficit (R85). -/
  overdraw  : Bool
  /-- A PMR write has waited on the horizon since the last update (R76). -/
  waited    : Bool
  /-- The fallbacks of R31 in force, for the events on entry and exit (R32): the cold-start cap, image defaults, ingest without a
  horizon, Seep stopped for want of leave or of flash. -/
  falls     : List Bool
  /-- The rate r that Seep runs at, in bytes per second (R83). -/
  seepR     : Rat
  /-- Operating second of the last fill of the bucket (R84). -/
  fillSec   : Option Nat
  /-- Operating second of the last hourly endurance computation. -/
  fillAt    : Option Nat
  /-- Fill rate in bytes per second; thousandths of a byte not yet filled. -/
  fill      : Nat
  fillRem   : Nat
  /-- Allowance issued to the peer in this session, in granules (R291). -/
  issued    : Nat
deriving DecidableEq, Repr

/-- Umbra before its first update. -/
def Umbra.init : Umbra :=
  { results := [], lastRej := none, rehearsal := none, wanted := false, lastSw := none, overruns := 0, published := false,
    clamps := [false, false, false, false], borrowing := false, overdraw := false, waited := false,
    falls := [false, false, false, false], seepR := 0, fillSec := none, fillAt := none, fill := 0, fillRem := 0, issued := 0 }

end Sys2Proof.Machine
end

