-- ==== Sys2Proof/Machine/State/Recorder.lean ====
section
/-! DEFINITION. The state of the event recorder (R444–R474): the record, the AON ring, the open-record table, the
NOR journal, the black-box blocks, the views and the clears. -/

namespace Sys2Proof.Machine

/-- A 64-byte event record (R448). -/
structure EvRecord where
  seq     : Nat
  sev     : Nat
  update  : Bool
  late    : Bool
  direct  : Bool
  part    : Bool
  src     : Nat
  code    : Nat
  key     : Nat
  rep     : Nat
  time    : Nat
  ticks   : Nat
  nsnap   : Nat
  lastDt  : Nat
  snap    : List Nat
deriving DecidableEq, Repr

/-- A slot of the AON ring (R454): the record, whether it is flushed, whether a clear covers it (R468). -/
structure RingSlot where
  evt     : EvRecord
  flushed : Bool
  cleared : Bool
deriving DecidableEq, Repr

/-- An entry of the 64-entry open-record table (R452): the record as it stands, and the REPEAT last written to
durable memory (R453). -/
structure OpenRec where
  evt     : EvRecord
  written : Option Nat
deriving DecidableEq, Repr

/-- A sector of the NOR journal (R455): its header and up to 63 records. -/
structure JSector where
  sseq    : Nat
  nextSeq : Nat
  recs    : List EvRecord
deriving DecidableEq, Repr

/-- A black-box page (R458). -/
structure BBPage where
  tail    : Bool
  buffer  : Bool
  pseq    : Nat
  session : Nat
  recs    : List EvRecord
deriving DecidableEq, Repr

/-- A black-box block in use (R458): its pages, oldest first, and the Grotto block it is (see `blkKey`). -/
structure BBBlock where
  pages : List BBPage
  home  : Nat
deriving DecidableEq, Repr

/-- A clear in force (R468). -/
structure ClearRec where
  seq     : Nat
  clearTo : Nat
  maxSev  : Nat
  scope   : Nat
deriving DecidableEq, Repr

/-- The challenge of R467: the nonce and the END_SEQ returned with it. -/
structure Challenge where
  nonce  : Nat
  endSeq : Nat
deriving DecidableEq, Repr

/-- The event recorder. -/
structure Recorder where
  /-- Held records, oldest first, at most 2,048 (R454). -/
  ring      : List RingSlot
  /-- Open records, oldest first, at most 64 (R452). -/
  opens     : List OpenRec
  /-- Journal sectors in use, oldest first; the last is the current one (R455). -/
  sectors   : List JSector
  /-- Erased usable sectors. -/
  freeSect  : Nat
  /-- Next SECTOR_SEQ. -/
  sectorSeq : Nat
  /-- The usable black-box blocks, at most eight (R458). -/
  bb        : List BBBlock
  /-- Next PAGE_SEQ. -/
  pageSeq   : Nat
  /-- The CP0 buffer of BUFFER mode (R462). -/
  buffer    : List EvRecord
  /-- Records lost since the last 0x6006, by severity, and the SEQ span they covered (R454). -/
  lostBySev : List Nat
  lostLo    : Nat
  lostHi    : Nat
  /-- END_SEQ of the open view of port A, port B and SMBus (R464). -/
  views     : List (Option Nat)
  /-- SEQ values overwritten while a view was open, returned as placeholders (R465). -/
  holes     : List Nat
  challenge : Option Challenge
  clears    : List ClearRec
  /-- Operating seconds at which a CLEAR was refused (R469). -/
  refusals  : List Nat
  /-- True from a cold start until the operating-seconds copy has been read (R446). -/
  provisional : Bool
  /-- SEQ of the first record accepted since the last trip (R460), if a vault is in progress. -/
  tripSeq   : Option Nat
  /-- log2 of the bytes of the NOR whose journal sectors are counted (R406). -/
  norLog2   : Nat
deriving DecidableEq, Repr

/-- The recorder before power-on: every memory blank; a NOR of 16 MiB has 926 journal sectors (R406). -/
def Recorder.init : Recorder :=
  { ring := [], opens := [], sectors := [], freeSect := 926, sectorSeq := 0,
    bb := [],
    pageSeq := 0, buffer := [], lostBySev := [0, 0, 0, 0, 0, 0, 0, 0], lostLo := 0, lostHi := 0,
    views := [none, none, none], holes := [], challenge := none, clears := [], refusals := [], provisional := true,
    tripSeq := none,
    norLog2 := 24 }

end Sys2Proof.Machine
end

