-- ==== Sys2Proof/Machine/State/Supply.lean ====
section
/-! DEFINITION. The state of rail supervision and the sequencer (R349–R376), of the device power states and domains
(R377–R402), of the leave broker (R27–R30) and of the root clock (R25). -/

namespace Sys2Proof.Machine

/-- What the scanner keeps of one channel beside its registers (R351, R358, R359). -/
structure Chan where
  uvCnt  : Nat
  ovCnt  : Nat
  pgCnt  : Nat
  uvConf : Bool
  ovConf : Bool
  offOk  : Bool
  /-- The highest action latched and not cleared: 0 none (R355). -/
  lat    : Nat
deriving DecidableEq, Repr

/-- A channel that has not been sampled. -/
def Chan.init : Chan := ⟨0, 0, 0, false, false, false, 0⟩

/-- A first-fail record (R368). -/
structure FFRecord where
  recNo   : Nat
  time    : Nat
  chan    : Nat
  kind    : Nat
  phase   : Nat
  group   : Nat
  attempt : Nat
  late    : Bool
  rom     : Bool
  code    : Nat
  outMask : Nat
  snap    : List (Nat × Nat)
deriving DecidableEq, Repr

/-- What the sequencer waits for (R358, R359); `norHold`: every group is off but for the NOR_SUPPLY rail (R369). -/
inductive SeqWait where
  | none | ready | delayUp | off | delayDown | retryDelay | boot | norHold
deriving DecidableEq, Repr

/-- Why a power-down runs, which decides what follows it (R360, R361, R366). -/
inductive DownWhy where
  | offReq | longPress | cutPress | attemptFail | runFault | inputLoss | vaultOff | thermal | commit | startFail
deriving DecidableEq, Repr

/-- Rail supervision and the sequencer. -/
structure Rails where
  chans    : NMap Chan
  wait     : SeqWait
  downWhy  : DownWhy
  /-- The off request or long press latched in UP (R361). -/
  upLatched : Bool
  /-- True when the OFF reached lets the input's return power the device on (R366). -/
  autoOn   : Bool
  /-- A power-state transition re-enables or disables rails (R359). -/
  inTransition : Bool
  /-- First-fail: a record has been taken since the last power-on request (R367). -/
  ffTaken  : Bool
  ffQueue  : List FFRecord
  ffNor    : List (List FFRecord)
  ffCur    : Nat
  ffNext   : Nat
  /-- The NOR_SUPPLY rail is held enabled for the first-fail queue (R369). -/
  norHold  : Bool
  /-- Operating seconds of the run-time fault power-downs counted by R360. -/
  faultTimes : List Nat
  /-- Faults confirmed in the present scan (R367). -/
  scanMask : Nat
  /-- The group being enabled or disabled is done: highest group reached in this sequence. -/
  reached  : Nat
  /-- A fast power-down is in progress (R359). -/
  fast     : Bool
  /-- An open record has been programmed in this start (R361, R104). -/
  openedThisStart : Bool
  /-- The first-fail record was taken in the present scan (R367). -/
  ffInScan : Bool
  /-- The power-state transition concerns DEEP, not SLEEP (R359). -/
  transDeep : Bool
  /-- MRST_N was asserted during a power-up or a power-down: a warm start follows when the sequencer reaches ON (R365). -/
  mrstWait : Bool
  /-- A trip has come since the last power-on request: from then on only a cut press takes a first-fail record (R367). -/
  ffBarred : Bool
deriving DecidableEq, Repr

/-- The sequencer in OFF. -/
def Rails.init : Rails :=
  { chans := [], wait := .none, downWhy := .offReq, upLatched := false, autoOn := false, inTransition := false,
    ffTaken := false, ffQueue := [], ffNor := [[], []], ffCur := 0, ffNext := 0, norHold := false, faultTimes := [],
    scanMask := 0, reached := 0, fast := false, openedThisStart := false, ffInScan := false,
    transDeep := false, mrstWait := false, ffBarred := false }

/-- A grant held or a request waiting at the leave broker (R28). -/
structure Leave where
  id   : Nat
  op   : LeaveOp
  cost : Nat
  aged : Bool
deriving DecidableEq, Repr

/-- The leave broker (R27–R30): held grants, waiting requests in order of arrival. -/
structure Broker where
  held   : List Leave
  queue  : List Leave
  nextId : Nat
  /-- The requests that the last trip answered with a cancelled status (R29). -/
  cancelled : List Leave
deriving DecidableEq, Repr

/-- A broker with nothing held. -/
def Broker.init : Broker := ⟨[], [], 0, []⟩

/-- The sleep guard of one module (R384). -/
structure Guard where
  port    : Nat
  vGuard  : Nat
  limit   : Nat
  tempIn  : Int
  lowCnt  : Nat
deriving DecidableEq, Repr

/-- The power-state controller (R377–R402). -/
structure Power where
  dom      : List DomSt
  /-- The pending sleep (2) or deep (3) request, 0 for none (R380, R386). -/
  request  : Nat
  /-- The domains that have agreed, in order (R381). -/
  agreed   : List Domain
  /-- The domain being asked (R381). -/
  asking   : Option Domain
  /-- DEEP preparation: 0 not running, 2 draining, 3 clean vault, 4 handshake (R386). -/
  prep     : Nat
  /-- Refusals in a row (R382). -/
  k        : Nat
  guard    : List Guard
  /-- The register save list of R393: field keys and values. -/
  saved    : NMap Nat
  /-- Whether the saved list's CRC holds. -/
  savedOk  : Bool
  /-- The next domain to come up from off, the step it waits for (0 PG, 1 CLK_OK, 2 MEM_OK, 3 LOGIC_OK) and
  whether its bound has been missed once (R390). -/
  upDom    : Option Domain
  upStep   : Nat
  upRetry  : Bool
  /-- Clock relock: a relock attempt is running (R25). -/
  relocking : Bool
  /-- Consecutive bad clock-monitor windows (R25). -/
  badWindows : Nat
  /-- The 32.768 kHz cycles elapsed within the current second (R446). -/
  ticks    : Nat
deriving DecidableEq, Repr

/-- The power-on reset has been released: PD_AON runs, every other domain is off. -/
def Power.init : Power :=
  { dom := [.on, .off, .off, .off, .off, .off, .off, .off], request := 0, agreed := [], asking := none, prep := 0, k := 0,
    guard := [], saved := [], savedOk := true, upDom := none, upStep := 0, upRetry := false,
    relocking := false, badWindows := 0, ticks := 0 }

end Sys2Proof.Machine
end

