-- ==== Sys2Proof/Machine/State.lean ====
section
/-! DEFINITION. The state of the block as plain data, the reasons a step can stop, and the state before power-on. -/

namespace Sys2Proof.Machine

/-- A management command that CP0 has accepted and not yet started: a vendor command behind another one (R487), or a request
that came over SMBus in DEEP (R507). -/
structure Deferred where
  req : AdminReq
  id  : CmdId
  cmd : Instr
deriving DecidableEq, Repr

/-- The power-control pins that the block drives (R537): HOLD_EN high, ALERT_N and FAULT_N asserted (pulled low). -/
structure Pins where
  hold  : Bool
  alert : Bool
  fault : Bool
deriving DecidableEq, Repr

/-- The instructions of the JTAG port's test access port (R546). -/
inductive JtagIr where
  | bypass | idcode | samplePreload | extest
deriving DecidableEq, Repr

/-- The test side (R522, R546): the level of TEST_MODE, which the board ties to VSS in service, and the JTAG instruction
register. -/
structure TestPort where
  mode : Bool
  ir   : JtagIr
deriving DecidableEq, Repr

/-- The whole state: the queue of waiting commands, the register fields that differ from their reset values (by field key),
what the chapters give the block beside its registers, what it has sent out, the pins it drives, and the counter of the free
values (the model's own field; see notes/assumptions). -/
structure State where
  pending : List Instr
  regs    : NMap Nat
  evr     : Recorder
  rails   : Rails
  broker  : Broker
  pwr     : Power
  host    : HostSide
  pmr     : Pmr
  cache   : Cache
  umb     : Umbra
  vlt     : VaultSide
  grt     : Grotto
  flc     : Flash
  dmc     : Dram
  ech     : Echo
  lan     : Lantern
  boot    : Boot
  out     : List Out
  deferred : List Deferred
  /-- Posted writes that flow control holds back at a port whose share of the ingest buffer is full, and the PMR reads behind
  them, in order of arrival (R20, R74). -/
  flow    : List (Port × Instr)
  pins    : Pins
  test    : TestPort
  free    : Nat
deriving DecidableEq, Repr

/-- No command of this block stops in a fault: a block has no fault of its own beyond the effects its rules give. The
one constructor is raised by nothing. -/
inductive Fault where
  /-- Raised by no command (safe). -/
  | none
deriving DecidableEq, Repr

/-- Why a command is refused. -/
inductive Refusal where
  /-- Raised by `exec` for a command whose meaning is not written (safe: nothing is claimed of it). -/
  | notModelled (mnemonic : String)
deriving DecidableEq, Repr

/-- The block as the power-on reset leaves it: PD_AON runs, every register is at its reset value, every memory is blank, and
the sequencer is in OFF. -/
def State.reset : State :=
  { pending := [], regs := [], evr := Recorder.init, rails := Rails.init, broker := Broker.init, pwr := Power.init,
    host := HostSide.init, pmr := Pmr.init, cache := Cache.init, umb := Umbra.init, vlt := VaultSide.init,
    grt := Grotto.init, flc := Flash.init, dmc := Dram.init, ech := Echo.init, lan := Lantern.init, boot := Boot.init,
    out := [], deferred := [], flow := [], pins := ⟨false, false, false⟩,
    test := ⟨false, .idcode⟩, free := 0 }

end Sys2Proof.Machine
end

