-- ==== Sys2Proof/Machine/Ops.lean ====
section
/-! DEFINITION. The named operations on the state: register fields, free values, time, domains, ports, interrupts, and
what is sent out. -/

namespace Sys2Proof.Machine

/-- The value of a register field: what was stored last, else its reset value (R10, R11). -/
def State.get (s : State) (f : Fld) : Nat := mgetD s.regs f.key f.rst

/-- Store a field, kept to the field's width. A value equal to the reset value is not listed. -/
def State.put (s : State) (f : Fld) (v : Nat) : State :=
  { s with regs := mput f.rst s.regs f.key (v % 2 ^ f.width) }

/-- Is a one-bit field 1? -/
def State.flag (s : State) (f : Fld) : Bool := s.get f == 1

/-- Store a Boolean in a one-bit field. -/
def State.putB (s : State) (f : Fld) (b : Bool) : State := s.put f (b2n b)

/-- Add to a counter that saturates at its width. -/
def State.incSat (s : State) (f : Fld) (n : Nat) : State := s.put f (satAdd (2 ^ f.width - 1) (s.get f) n)

/-- Add to a counter that wraps. -/
def State.incWrap (s : State) (f : Fld) (n : Nat) : State := s.put f (s.get f + n)

/-- A field read as two's complement. -/
def State.getI (s : State) (f : Fld) : Int :=
  let v := s.get f
  if v < 2 ^ (f.width - 1) then (v : Int) else (v : Int) - (2 ^ f.width : Nat)

/-- Store a signed number in two's complement. -/
def State.putI (s : State) (f : Fld) (v : Int) : State := s.put f (v % (2 ^ f.width : Nat)).toNat

/-- The value a reset gives the field back (R517). -/
def State.clr (s : State) (f : Fld) : State := s.put f f.rst

/-- Send something out. -/
def State.send (s : State) (o : Out) : State := { s with out := s.out ++ [o] }

/-- A free value (see Config) below `2 ^ w`, and the state with the counter advanced. -/
def State.fresh (s : State) (w : Nat) : Nat × State :=
  (Config.freeValue s.free % 2 ^ w, { s with free := s.free + 1 })

/-- Print a console line (R508): CP0 drives the UART, which is silent from a trip to the seal. -/
def State.console (s : State) (vals : List Nat) : State :=
  let vaulting : Bool := match s.vlt.cur with
    | some v => !v.sealed
    | none => false
  if s.pwr.dom.getD Domain.ctrl.idx .off == .on && !vaulting then s.send (.uart vals) else s

/-- Operating seconds (R436). -/
def State.secs (s : State) : Nat := s.get Reg.SYS_OPSEC_SECONDS

/-- A time stamp in the format of SYS_OPSEC (R446). -/
def State.timeWord (s : State) : Nat := s.secs + s.get Reg.SYS_OPSEC_PWR_CYCLES * 2 ^ 40

/-- The condition of a power domain. -/
def State.domSt (s : State) (d : Domain) : DomSt := s.pwr.dom.getD d.idx .off

/-- A domain runs. -/
def State.domOn (s : State) (d : Domain) : Bool := s.domSt d == .on

/-- A register access to the domain is answered: it runs, is gated, or is retained (R394). -/
def State.domAnswers (s : State) (d : Domain) : Bool := s.domSt d == .on || s.domSt d == .retained

/-- Set the condition of a domain. -/
def State.setDom (s : State) (d : Domain) (v : DomSt) : State :=
  { s with pwr := { s.pwr with dom := lset s.pwr.dom d.idx v } }

/-- A host port. -/
def State.port (s : State) : Port → HostPort
  | .a => s.host.portA | .b => s.host.portB

/-- Replace a host port. -/
def State.setPort (s : State) (p : Port) (h : HostPort) : State :=
  match p with
  | .a => { s with host := { s.host with portA := h } }
  | .b => { s with host := { s.host with portB := h } }

/-- A port's NVMe controller. -/
def State.nvme (s : State) (p : Port) : Nvme := (s.port p).nvme

/-- Replace a port's NVMe controller. -/
def State.setNvme (s : State) (p : Port) (n : Nvme) : State := s.setPort p { s.port p with nvme := n }

/-- The running image's host mode: true in x8 mode (R475). -/
def State.x8 (s : State) : Bool :=
  match s.boot.running with
  | some i => i.hostMode == 1
  | none => false

/-- A port exists: port B is absent in x8 mode (R475). -/
def State.portExists (s : State) (p : Port) : Bool := !(s.x8 && p == .b)

/-- Signal an MSI-X vector on one port: sent when enabled and unmasked, else left pending (R504). -/
def State.msixOn (s : State) (p : Port) (vec : Nat) : State :=
  let h := s.port p
  if s.domOn .host && h.linkUp && h.msixEn then
    if !h.msixFm && h.unmasked.contains vec then s.send (.msix p vec)
    else s.setPort p { h with pba := if h.pba.contains vec then h.pba else h.pba ++ [vec] }
  else s

/-- Signal a vendor vector on both ports (R504). -/
def State.msix (s : State) (vec : Nat) : State := (s.msixOn .a vec).msixOn .b vec

/-- Set an event bit; when it changes from 0 to 1 and the block's INT_EN is set, signal its vector (R504). -/
def State.raise (s : State) (ev inten : Fld) (vec : Nat) : State :=
  if s.flag ev then s
  else
    let s1 := s.put ev 1
    if s1.flag inten then s1.msix vec else s1

/-- The AER uncorrectable status bits the rules use (PCIe: Poisoned TLP 12, ECRC Error 19, Unsupported Request 20). -/
def aerPoisoned : Nat := 12
def aerEcrc : Nat := 19
def aerUnsupported : Nat := 20

/-- Report an error through AER on a port: set the status bit and, unless the bit is masked, send the message. -/
def State.aer (s : State) (p : Port) (bit : Nat) : State :=
  let h := s.port p
  let s1 := s.setPort p { h with aerUnc := if bitOf h.aerUnc bit then h.aerUnc else h.aerUnc + 2 ^ bit }
  if bitOf h.aerMask bit then s1 else s1.send (.aer p bit)

/-- Installed data capacity C in GiB (R15, R248). -/
def State.capGiB (s : State) : Nat := s.get Reg.DMC_GEOM_CAP_GIB

/-- Granules of the cache proper: C less C/1024, in 4 KiB units (R15). -/
def State.cacheGrans (s : State) : Nat := s.capGiB * (2 ^ 18 - 2 ^ 8)

/-- Pair mode, from the image (R16). -/
def State.pair (s : State) : Bool := s.flag Reg.ECH_STATUS_PAIR_MODE

/-- Granules of the own region: half the cache proper in pair mode (R15). -/
def State.ownGrans (s : State) : Nat := if s.pair then s.cacheGrans / 2 else s.cacheGrans

/-- Bytes of the PMR. -/
def State.pmrBytes (s : State) : Nat := s.ownGrans * 4096

/-- The member's owner ID (R40). -/
def State.owner (s : State) : Owner :=
  match s.boot.running with
  | some i => i.owner
  | none => .a

/-- The owner of a cache granule: the own region comes first (R15). -/
def State.granOwner (s : State) (g : Nat) : Owner := if g < s.ownGrans then s.owner else s.owner.other

/-- A cache granule's index within its owner's region (R146). -/
def State.granIndex (s : State) (g : Nat) : Nat := if g < s.ownGrans then g else g - s.ownGrans

/-- The cache granule of an owner's granule index. -/
def State.granOf (s : State) (o : Owner) (i : Nat) : Nat := if o = s.owner then i else i + s.ownGrans

/-- A granule's state bits and version. -/
def State.gran (s : State) (g : Nat) : GState := mgetD s.cache.grans g GState.none

/-- Replace a granule's state. -/
def State.setGran (s : State) (g : Nat) (v : GState) : State :=
  { s with cache := { s.cache with grans := mput GState.none s.cache.grans g v } }

/-- A granule's map entry. -/
def State.ent (s : State) (g : Nat) : MapEnt := mgetD s.cache.map g MapEnt.none

/-- Replace a granule's map entry. -/
def State.setEnt (s : State) (g : Nat) (e : MapEnt) : State :=
  { s with cache := { s.cache with map := mput MapEnt.none s.cache.map g e } }

/-- Dirty granules of the own region. -/
def State.dirtyOwn (s : State) : Nat := mcount (fun g v => decide (g < s.ownGrans) && v.dirty) s.cache.grans

/-- Dirty granules of the mirror region. -/
def State.dirtyMirror (s : State) : Nat := mcount (fun g v => !decide (g < s.ownGrans) && v.dirty) s.cache.grans

/-- The dirty bytes Umbra governs (R17). -/
def State.dirtyBytes (s : State) : Nat := (s.dirtyOwn + s.dirtyMirror) * 4096

/-- The granules with Dirty = 1, ascending. -/
def State.dirtyList (s : State) : List Nat := (mfilter (fun _ v => v.dirty) s.cache.grans).map (fun e => e.1)

/-- A granule's 4,096 bytes as an image. -/
def State.granImage (s : State) (g : Nat) : List Host.Cell := sliceCells s.cache.cells (g * 4096) 4096

/-- Replace a granule's bytes. -/
def State.setGranImage (s : State) (g : Nat) (img : List Host.Cell) : State :=
  { s with cache := { s.cache with cells := replaceCells s.cache.cells (g * 4096) 4096 img } }

/-- A LUN. -/
def State.lun (s : State) (n : Nat) : Lun := mgetD s.flc.luns n Lun.none

/-- Replace a LUN. -/
def State.setLun (s : State) (n : Nat) (l : Lun) : State :=
  { s with flc := { s.flc with luns := mput Lun.none s.flc.luns n l } }

/-- The channel of a global LUN (R142). -/
def lunChannel (n : Nat) : Nat := n % 16

/-- The device profile of a LUN (R182). -/
def State.devProfile (s : State) (n : Nat) : Option DevProfile :=
  match s.boot.running with
  | some i => mget i.devices (s.lun n).profile
  | none => none

/-- The LUNs in ACTIVE state on a channel. -/
def State.activeLuns (s : State) (ch : Nat) : List Nat :=
  (mfilter (fun n l => n % 16 == ch && l.st == .active) s.flc.luns).map (fun e => e.1)

/-- The number of ACTIVE LUNs (R216). -/
def State.lunsActive (s : State) : Nat := mcount (fun _ l => l.st == .active) s.flc.luns

/-- The rail channels a rail table or the ROM table uses: GROUP below 8 (R376). -/
def State.railGroup (s : State) (n : Nat) : Nat := s.get (Reg.SUP_CHn_CFG_GROUP n)

/-- The sequencer's state (R374). -/
def State.seqState (s : State) : Nat := s.get Reg.SUP_SEQ_STATUS_STATE

/-- The sequencer states of R374. -/
def seqOff : Nat := 0
def seqUp : Nat := 1
def seqOn : Nat := 2
def seqGrace : Nat := 3
def seqVault : Nat := 4
def seqDown : Nat := 5
def seqRetryWait : Nat := 6
def seqLockout : Nat := 7

/-- The device power states of PWR_STATUS.STATE (R397). -/
def pwrRun : Nat := 0
def pwrIdle : Nat := 1
def pwrSleep : Nat := 2
def pwrDeep : Nat := 3
def pwrEntering : Nat := 5
def pwrExiting : Nat := 6

/-- A vault is in progress: from the trip or vault start to the seal. -/
def State.vaulting (s : State) : Bool :=
  match s.vlt.cur with
  | some v => !v.sealed
  | none => false

/-- Umbra is in deficit (R78). -/
def State.deficit (s : State) : Bool := s.flag Reg.UMB_STATUS_DEFICIT

/-- A rehearsal is running (R89). -/
def State.rehearsing (s : State) : Bool := s.umb.rehearsal.isSome

/-- HOLD_EN is asserted (R106). -/
def State.holdEn (s : State) : Bool := s.flag Reg.VLT_STATUS_HOLD

/-- Flow control holds the posted writes of a port back (R74). -/
def State.holdsPosted (s : State) (p : Port) : Bool := s.flow.any (fun x => x.1 == p)

/-- A posted write of a port, or a PMR read behind one, is handled unless flow control holds it back (R74). -/
def State.orHold (s : State) (p : Port) (c : Instr) (k : State → State) : State :=
  if s.holdsPosted p then { s with flow := s.flow ++ [(p, c)] } else k s

/-- The Echo peer states of ECH_STATUS.STATE (R317). -/
def State.echoState (s : State) : Nat := s.get Reg.ECH_STATUS_STATE

end Sys2Proof.Machine
end

