-- ==== Sys2Proof/Machine/Views.lean ====
section
/-! DEFINITION. What a register field reads as: the fields that show what other state holds are computed here, every
other field reads as it was stored last. -/

namespace Sys2Proof.Machine

/-- Records of the ring not yet on durable memory (R454). -/
def Recorder.unflushed (r : Recorder) : Nat := (r.ring.filter (fun x => !x.flushed)).length

/-- The run budget or the vault budget of the broker (R402: the vault budget is UMB_VPOWER.P_MW). -/
def State.leaveBudget (s : State) : Nat :=
  if s.get Reg.PWR_LEAVE_QUEUE_VAULT == 1 then s.get Reg.UMB_VPOWER_P_MW else s.get Reg.PWR_LEAVE_BUDGET_RUN_MW

/-- Tokens held by grants (R28). -/
def Broker.heldMw (b : Broker) : Nat := (b.held.map (fun l => l.cost)).foldl (· + ·) 0

/-- The slots a LUN's operations hold: one each from submission to completion (R199). -/
def Lun.slots (l : Lun) : Nat := l.queue.length + b2n l.running.isSome + b2n l.suspended.isSome

/-- All slots held (R219). -/
def State.slotsHeld (s : State) : Nat := (s.flc.luns.map (fun e => e.2.slots)).foldl (· + ·) 0

/-- Granules still to restore (R139): mapped and neither copied nor poisoned. -/
def State.restRemain (s : State) : Nat :=
  mcount (fun _ e => e.st == .notCopied || e.st == .fetching || e.st == .remote) s.cache.map

/-- Granules in the merge queue (R128, R140). -/
def State.mergeNow (s : State) : Nat := s.pmr.merge.length

/-- A channel holds a latched fault of at least this action, which asserts a pin: 1 ALERT, 2 VAULT_OFF, 3 CUT (R352,
R355). -/
def State.latchedAct (s : State) (atLeast : Nat) : Bool := s.rails.chans.any (fun e => decide (atLeast ≤ e.2.lat))

/-- ALERT_N is asserted (R61, R302, R352, R360, R462, R471, R25). -/
def State.alertPin (s : State) : Bool :=
  s.latchedAct 1 || s.flag Reg.SUP_STATUS_LOCKOUT || s.flag Reg.CLK_STATUS_FAULT || s.flag Reg.CLK_STATUS_HOLD ||
    s.flag Reg.EVR_STATUS_SEV_EV || s.flag Reg.EVR_MEM_CRIT || s.pmr.hsts == 3 || s.ech.heldUntilRejoin

/-- FAULT_N is asserted (R352, R360, R25). -/
def State.faultPin (s : State) : Bool :=
  s.latchedAct 2 || s.flag Reg.SUP_STATUS_LOCKOUT || s.flag Reg.CLK_STATUS_FAULT || s.flag Reg.CLK_STATUS_HOLD

/-- Which OTP key slots are used (bit 0 of the pair) or revoked (R412, R414). -/
def slotMask (l : List (Bool × Bool)) (f : Bool × Bool → Bool) : Nat :=
  (l.zipIdx.map (fun e => b2n (f e.1) * 2 ^ e.2)).foldl (· + ·) 0

/-- A LUN is present on the channel: it was discovered (R222). -/
def State.lunsPresent (s : State) (ch : Nat) : Nat := mcount (fun n l => n % 16 == ch && l.st != .absent) s.flc.luns

/-- Timeouts of a LUN within the current window (R208, R219). -/
def State.lunTimeouts (s : State) (l : Lun) : Nat :=
  (l.timeouts.filter (fun t => decide (s.secs < t + s.get Reg.FLC_TIMEOUT_CFG_WINDOW))).length

/-- Allowance from the peer not yet spent, net of unacknowledged mirror writes and resync granules (R291). -/
def State.peerIn (s : State) : Nat :=
  s.ech.allowTotal - (s.ech.dirtied + s.ech.unacked.length + (s.ech.rsSent - s.ech.rsAcked))

/-- The zones of the own region: 256 granules each (R81, R305). -/
def State.ownZones (s : State) : Nat := ceilDiv s.ownGrans 256

/-- A zone is marked in the resync map (R305). -/
def Echo.marked (e : Echo) (z : Nat) : Bool :=
  (match e.allFrom with
   | some n => decide (n ≤ z)
   | none => false) || (mget e.zones z).isSome

/-- Zones still marked (R320). -/
def State.zonesLeft (s : State) : Nat :=
  match s.ech.allFrom with
  | some n => (s.ownZones - n) + mcount (fun z _ => decide (z < n)) s.ech.zones
  | none => s.ech.zones.length

/-- A register of a port without a module, but STATUS (R348): it reads 0. -/
def State.portBlank (s : State) (f : Fld) : Bool :=
  decide (0x140100 ≤ f.off) && decide (f.off < 0x140300) && f.off % 64 != 0 &&
    decide (s.get (Reg.LAN_Mn_STATUS_STATE ((f.off - 0x140100) / 64)) ≤ 1)

/-- A field whose value other state gives; none where the field reads as stored. -/
def State.computed (s : State) (f : Fld) : Option Nat :=
  if s.portBlank f then some 0
  else if f = Reg.EVR_STATUS_VIEW_OPEN then some (b2n (s.evr.views.any (fun v => v.isSome)))
  else if f = Reg.EVR_STATUS_RING_FULL then some (b2n (s.evr.ring.length == 2048 && s.evr.unflushed == 2048))
  else if f = Reg.EVR_STATUS_PENDING then some (b2n (s.evr.unflushed != 0 || !s.evr.buffer.isEmpty))
  else if f = Reg.EVR_RING_HELD then some s.evr.ring.length
  else if f = Reg.EVR_RING_PENDING then some s.evr.unflushed
  else if f = Reg.EVR_NOR_USABLE then some (s.evr.sectors.length + s.evr.freeSect)
  else if f = Reg.EVR_NOR_PROTECTED then
    some (s.evr.sectors.filter (fun x => x.recs.any (fun e => decide (6 ≤ e.sev)))).length
  else if f = Reg.EVR_BB_USABLE then some s.evr.bb.length
  else if f = Reg.EVR_CLEAR_REFUSED then
    some (Nat.min 255 (s.evr.refusals.filter (fun t => decide (s.secs < t + 3600))).length)
  else if f = Reg.UMB_DIRTY_OWN_BYTES then some (s.dirtyOwn * 4096)
  else if f = Reg.UMB_DIRTY_MIRROR_BYTES then some (s.dirtyMirror * 4096)
  else if f = Reg.UMB_DEFICIT_BYTES then some (if s.deficit then s.dirtyBytes - s.get Reg.UMB_HORIZON_BYTES else 0)
  else if f = Reg.UMB_STATUS_REH_ACTIVE then some (b2n s.rehearsing)
  else if f = Reg.UMB_PEER_IN_GRANULES then some s.peerIn
  else if f = Reg.ECH_RESYNC_ZONES then some s.zonesLeft
  else if f = Reg.ECH_MISB_COUNT_24H then
    some (Nat.min 255 (s.ech.misbs.filter (fun t => decide (s.secs < t + 86400))).length)
  else if f = Reg.ECH_STATUS_FWD_ACTIVE then some (b2n (s.ech.fwds.length != 0))
  else if f = Reg.VLT_STATUS_FROM_PEER then
    some (b2n (s.cache.map.any (fun e => e.2.st == .remote || (e.2.st == .fetching && e.2.fromPeer))))
  else if f = Reg.VLT_RST_REMAIN_GRANULES then some s.restRemain
  else if f = Reg.VLT_MERGE_NOW then some s.mergeNow
  else if f = Reg.PWR_LEAVE_STATUS_BUDGET_MW then some s.leaveBudget
  else if f = Reg.PWR_LEAVE_STATUS_HELD_MW then some s.broker.heldMw
  else if f = Reg.PWR_LEAVE_QUEUE_QUEUED then some s.broker.queue.length
  else if f = Reg.DMC_STATUS_VAULT_MODE then some (b2n s.vaulting)
  else if f = Reg.FLC_STATUS_LUNS_ACTIVE then some s.lunsActive
  else if f = Reg.FLC_INFLIGHT_NOW then some s.slotsHeld
  else if f = Reg.FLC_LUN_INFO_PFAIL then some (Nat.min 255 (s.lun (s.get Reg.FLC_LUN_SEL_LUN)).pfail)
  else if f = Reg.FLC_LUN_INFO_TIMEOUTS then some (s.lunTimeouts (s.lun (s.get Reg.FLC_LUN_SEL_LUN)))
  else if f = Reg.FLC_LUN_INFO_LAST_LEVEL then some (s.lun (s.get Reg.FLC_LUN_SEL_LUN)).lastLevel
  else if f = Reg.FLC_LUN_INFO_PROFILE then some (s.lun (s.get Reg.FLC_LUN_SEL_LUN)).profile
  else if f = Reg.FLC_LUN_INFO_SLOTS then some (s.lun (s.get Reg.FLC_LUN_SEL_LUN)).slots
  else if f = Reg.FLC_LUN_INFO_STATE then some (s.lun (s.get Reg.FLC_LUN_SEL_LUN)).st.code
  else if f = Reg.SUP_SEQ_STATUS_RUN_FAULTS then
    some (s.rails.faultTimes.filter (fun t => decide (s.secs < t + 3600))).length
  else if f = Reg.SUP_FF_STAT_QUEUED then some s.rails.ffQueue.length
  else if f = Reg.SUP_STATUS_FF_NOR_PENDING then some (b2n (s.rails.ffQueue.length != 0))
  else if f = Reg.SUP_STATUS_ALERT then some (b2n (s.latchedAct 1))
  else if f = Reg.SUP_STATUS_FAULT_N then some (b2n s.faultPin)
  else if f = Reg.SYS_OTP_USED then some (slotMask s.boot.otpSlots (fun e => e.1))
  else if f = Reg.SYS_OTP_REVOKED then some (slotMask s.boot.otpSlots (fun e => e.2))
  else if f = Reg.WDT_STATUS_REMAIN_MS then
    some (if s.boot.wdtStage = 0 then 0 else Config.freeValue s.free % 65536)
  else if f = Reg.CLK_STATUS_GATED then
    some (if s.get Reg.PWR_STATUS_STATE = pwrDeep then 0x1F
      else if s.get Reg.PWR_STATUS_STATE = pwrSleep then (if s.domOn .echo then 0x0F else 0x1F)
      else if s.get Reg.PWR_STATUS_STATE = pwrIdle then Config.freeValue s.free else 0)
  else if f = Reg.CFG_HASH_DATA_WORD then
    some (match (if s.flag Reg.CFG_HASH_SEL_STAGED then s.boot.staged else s.boot.running) with
      | some i => if s.get Reg.CFG_HASH_SEL_WORD < 12 then i.hash / 2 ^ (32 * s.get Reg.CFG_HASH_SEL_WORD) else 0
      | none => 0)
  else if f = Reg.SYS_UID_UID_HASH || f = Reg.SYS_OTP_SVN_MIN || f = Reg.SYS_OTP_IMG_KEY || f = Reg.SYS_ID_ORDER then
    some (mgetD s.boot.fuses f.key (Config.fused f.key))
  else none

/-- The fields of the sixteen channel status registers that count LUNs (R222). -/
def State.chanView (s : State) (f : Fld) : Option Nat :=
  if 0x180060 ≤ f.off ∧ f.off < 0x1800A0 then
    let ch := (f.off - 0x180060) / 4
    if f.lo = 9 then some (s.activeLuns ch).length else if f.lo = 4 then some (s.lunsPresent ch) else none
  else none

/-- A ready bit of PWR_DOMAIN (R399): bit 4d + k of domain `d`, in the order PG, CLK_OK, MEM_OK, LOGIC_OK of R390. A
retained domain has its regulator on and its clock stopped. -/
def State.domBit (s : State) (d k : Nat) : Bool :=
  let st := s.pwr.dom.getD d .off
  let rising := s.pwr.upDom.any (fun u => u.idx == d) && decide (k < s.pwr.upStep)
  st == .on || (st == .retained && k == 0) || (st == .held && decide (k < 3)) || rising

/-- The fields of PWR_DOMAIN. -/
def State.domView (s : State) (f : Fld) : Option Nat :=
  if f.off = 0x120010 then some (b2n (s.domBit (f.lo / 4) (f.lo % 4))) else none

/-- What a field reads as, kept to its width. -/
def State.view (s : State) (f : Fld) : Nat :=
  match s.computed f with
  | some v => v % 2 ^ f.width
  | none =>
    match s.chanView f with
    | some v => v % 2 ^ f.width
    | none =>
      match s.domView f with
      | some v => v
      | none => if f.acc = .wo then 0 else s.get f

/-- The rows of a block's register table (R521). -/
def Block.rows : Block → List RegRow
  | .sys => Reg.rowsSys | .clk => Reg.rowsClk | .pwr => Reg.rowsPwr | .sup => Reg.rowsSup | .lan => Reg.rowsLan
  | .umb => Reg.rowsUmb | .vlt => Reg.rowsVlt | .grt => Reg.rowsGrt | .flc => Reg.rowsFlc | .dmc => Reg.rowsDmc
  | .ech => Reg.rowsEch | .evr => Reg.rowsEvr | .cfg => Reg.rowsCfg | .wdt => Reg.rowsWdt

/-- The register that a dword offset falls in, and whether it is its high dword (R513). -/
def regAt (o : Nat) : Option (RegRow × Bool) :=
  match Block.ofOff o with
  | none => none
  | some b =>
    match b.rows.find? (fun r => r.off == o || (r.wide && r.off + 4 == o)) with
    | some r => some (r, r.off != o)
    | none => none

/-- The word (32 or 64 bits) that a register reads as: reserved bits read 0 (R10). -/
def State.wordOf (s : State) (r : RegRow) : Nat :=
  (r.flds.map (fun f => s.view f * 2 ^ f.lo)).foldl (· + ·) 0

/-- The dword at an offset as a snapshot reads it: without side effect (R447). -/
def State.peek (s : State) (o : Nat) : Nat :=
  match regAt o with
  | none => 0
  | some (r, hi) => if hi then s.wordOf r / 2 ^ 32 else s.wordOf r % 2 ^ 32

/-- PMRSTS of a port outside a barrier completion (R59, R60): the condition of lowest rank. -/
def condRank : List (Nat × Nat) :=
  [(0x20, 3), (0x11, 2), (0x10, 2), (0x12, 2), (0x03, 1), (0x02, 1), (0x04, 0), (0x01, 0), (0x21, 0)]

/-- The displayed condition code: the present one of lowest rank, 0 if none (R60). -/
def errCode (conds : List Nat) : Nat := ((condRank.find? (fun e => conds.contains e.1)).map (fun e => e.1)).getD 0

/-- The highest HSTS among the conditions present (R61). -/
def hstsOf (conds : List Nat) : Nat :=
  (condRank.map (fun e => if conds.contains e.1 then e.2 else 0)).foldl Nat.max 0

/-- PMRSTS as a word (R59), with ERR.ND as given. -/
def State.pmrsts (s : State) (p : Port) (nd : Bool) : Nat :=
  hstsOf s.pmr.conds * 2 ^ 9 + b2n (s.pmr.st == .closed || !(s.port p).pmrEn) * 2 ^ 8 + b2n nd * 2 ^ 7 + errCode s.pmr.conds

/-- CSTS as a word: RDY, CFS, SHST (R478). -/
def State.csts (s : State) (p : Port) : Nat :=
  b2n (s.nvme p).rdy + b2n (s.nvme p).cfs * 2 + (s.nvme p).shst * 4

end Sys2Proof.Machine
end

