-- ==== Sys2Proof/Machine/Clock.lean ====
section
/-! DEFINITION. The AON clock: what one period of 32.768 kHz does, and the form in which a meaning answers. -/

namespace Sys2Proof.Machine

/-- One period of the 32.768 kHz clock: 32,768 of them make an operating second (R446). Operating seconds count whenever
PD_SUP is on (R436). -/
def State.tick (s : State) : State :=
  if s.domOn .sup then
    if s.pwr.ticks + 1 < 32768 then { s with pwr := { s.pwr with ticks := s.pwr.ticks + 1 } }
    else { s with pwr := { s.pwr with ticks := 0 } }.incWrap Reg.SYS_OPSEC_SECONDS 1
  else s

/-- The levels of the power-control pins (R61, R106, R352, R360, R471). -/
def State.levels (s : State) : Pins := ⟨s.holdEn, s.alertPin, s.faultPin⟩

/-- Drive the pins. -/
def State.drive (s : State) : State := { s with pins := s.levels }

/-- How a meaning answers: the next state is `t` with its pins driven; the queue of waiting commands is left as it was in `s`. -/
def done (s t : State) : Host.Outcome State Fault Refusal := .next ({ t with pending := s.pending } : State).drive

end Sys2Proof.Machine
end

