-- ==== Sys2Proof/Machine/Aes.lean ====
section
/-! DEFINITION. The ciphers that R148 and R173 name: AES with a 256-bit key, XTS-AES-256 with a 4 KiB data unit (IEEE 1619),
AES key wrap (RFC 3394). PRESUMED: written from those standards, which the spec names and does not repeat; the first 256 bits
of a media key are XTS's data key. Bytes are numbers below 256. -/

namespace Sys2Proof.Machine

/-- Double in GF(2⁸). -/
def aesDouble (a : Nat) : Nat := if a < 128 then 2 * a else (2 * a) ^^^ 0x11B

/-- Multiply in GF(2⁸), over `n` bits of the second factor. -/
def aesMul : Nat → Nat → Nat → Nat
  | 0, _, _ => 0
  | n + 1, a, b => (if b % 2 = 1 then a else 0) ^^^ aesMul n (aesDouble a) (b / 2)

/-- The 254th power: the inverse, and 0 of 0. -/
def aesInv (a : Nat) : Nat :=
  let m (x y : Nat) : Nat := aesMul 8 x y
  let a2 := m a a
  let a3 := m a2 a
  let a6 := m a3 a3
  let a12 := m a6 a6
  let a15 := m a12 a3
  let a30 := m a15 a15
  let a60 := m a30 a30
  let a120 := m a60 a60
  let a126 := m a120 a6
  let a127 := m a126 a
  m a127 a127

/-- Rotate a byte to the left. -/
def rotByte (a n : Nat) : Nat := (a * 2 ^ n) % 256 + a / 2 ^ (8 - n)

/-- SubBytes of one byte. -/
def aesSub (a : Nat) : Nat :=
  let x := aesInv a
  x ^^^ rotByte x 1 ^^^ rotByte x 2 ^^^ rotByte x 3 ^^^ rotByte x 4 ^^^ 0x63

/-- Exclusive or of two byte strings. -/
def xorBytes (a b : List Nat) : List Nat := a.zipWith (fun x y => x ^^^ y) b

/-- Extend the key schedule by one word of four bytes; the schedule is kept newest word first. -/
def aesWord (ws : List (List Nat)) : List (List Nat) :=
  let i := ws.length
  let prev := ws.headD []
  let t :=
    if i % 8 = 0 then
      match prev.map aesSub with
      | [a, b, c, d] => [b ^^^ (2 ^ (i / 8 - 1)), c, d, a]
      | l => l
    else if i % 8 = 4 then prev.map aesSub
    else prev
  xorBytes (ws.getD 7 []) t :: ws

/-- Apply `f` `n` times. -/
def timesDo {α : Type} (f : α → α) : Nat → α → α
  | 0, x => x
  | n + 1, x => timesDo f n (f x)

/-- The 15 round keys of a 32-byte key. -/
def aesKeys (key : List Nat) : List (List Nat) :=
  let first := ((List.range 8).map (fun i => (key.drop (4 * i)).take 4)).reverse
  let ws := (timesDo aesWord 52 first).reverse
  (List.range 15).map (fun r => ((ws.drop (4 * r)).take 4).flatten)

/-- ShiftRows of a 16-byte state, column by column. -/
def aesShift (s : List Nat) : List Nat := (List.range 16).map (fun i => s.getD ((i + 4 * (i % 4)) % 16) 0)

/-- MixColumns of one column. -/
def aesMixCol (c : List Nat) : List Nat :=
  let a (i : Nat) : Nat := c.getD (i % 4) 0
  (List.range 4).map (fun i => aesDouble (a i) ^^^ (aesDouble (a (i + 1)) ^^^ a (i + 1)) ^^^ a (i + 2) ^^^ a (i + 3))

/-- MixColumns. -/
def aesMix (s : List Nat) : List Nat := ((List.range 4).map (fun j => aesMixCol ((s.drop (4 * j)).take 4))).flatten

/-- Encrypt one block of 16 bytes under a key schedule. -/
def aesBlock (keys : List (List Nat)) (b : List Nat) : List Nat :=
  let s0 := xorBytes b (keys.getD 0 [])
  let mid := ((keys.drop 1).take 13).foldl (fun s k => xorBytes (aesMix (aesShift (s.map aesSub))) k) s0
  xorBytes (aesShift (mid.map aesSub)) (keys.getD 14 [])

/-- The little-endian bytes of a number, as numbers. -/
def leBytes (v n : Nat) : List Nat := (natLe v n).map (fun b => b.toNat)

/-- The next block's tweak of XTS: times alpha in GF(2¹²⁸), little-endian. -/
def xtsNext (t : List Nat) : List Nat :=
  let v := leNat (t.map (fun x => BitVec.ofNat 8 x))
  leBytes (if v < 2 ^ 127 then 2 * v else (2 * v - 2 ^ 128) ^^^ 0x87) 16

/-- Encrypt the blocks of a data unit, each under its tweak. -/
def xtsBlocks (keys : List (List Nat)) : List (List Nat) → List Nat → List Nat
  | [], _ => []
  | b :: bs, t => xorBytes (aesBlock keys (xorBytes b t)) t ++ xtsBlocks keys bs (xtsNext t)

/-- XTS-AES-256 of a 4,096-byte data unit under a 512-bit key and a 128-bit tweak (R148). -/
def xtsUnit (key tweak : Nat) (data : List Byte) : List Byte :=
  let k := leBytes key 64
  let d := data.map (fun b => b.toNat)
  let t := aesBlock (aesKeys (k.drop 32)) (leBytes tweak 16)
  (xtsBlocks (aesKeys (k.take 32)) ((List.range 256).map (fun i => (d.drop (16 * i)).take 16)) t).map (fun x => BitVec.ofNat 8 x)

/-- One step of the key wrap: the register A and the blocks R, the first of which is next. -/
def wrapStep (keys : List (List Nat)) (x : Nat × List Nat × List (List Nat)) : Nat × List Nat × List (List Nat) :=
  match x.2.2 with
  | r :: rest =>
    let b := aesBlock keys (x.2.1 ++ r)
    (x.1 + 1, xorBytes (b.take 8) (leBytes x.1 8).reverse, rest ++ [b.drop 8])
  | [] => x

/-- AES key wrap of a 64-byte key under a 32-byte one: 72 bytes (R148, RFC 3394). -/
def aesWrap (kek plain : List Nat) : List Nat :=
  let rs := (List.range 8).map (fun i => (plain.drop (8 * i)).take 8)
  let w := timesDo (wrapStep (aesKeys kek)) 48 (1, List.replicate 8 0xA6, rs)
  w.2.1 ++ w.2.2.flatten

end Sys2Proof.Machine
end

