-- ==== Sys2Proof/Machine/NorCopies.lean ====
section
/-! DEFINITION. The copy pairs of the NOR's training and configuration areas (R406, R408): which copy wins, and where the
next one is written. DESIGN CHOICE: each item of R406 has a pair of its own; the spec lists the items of an area and gives no
layout. -/

namespace Sys2Proof.Machine

/-- A copy whose CRC-32C holds. -/
def NorCopy.good {α : Type} (c : Option (NorCopy α)) : Option (NorCopy α) := c.filter (fun x => x.crcOk)

/-- The lower-addressed copy wins (R408): it is the only valid one, or no valid one has a higher sequence. -/
def CopyPair.lowWins {α : Type} (p : CopyPair α) : Bool :=
  match NorCopy.good p.low, NorCopy.good p.high with
  | some a, some b => decide (b.seq ≤ a.seq)
  | some _, none => true
  | none, _ => false

/-- The copy that wins (R408). -/
def CopyPair.winner {α : Type} (p : CopyPair α) : Option (NorCopy α) :=
  if p.lowWins then NorCopy.good p.low else NorCopy.good p.high

/-- The content that the area gives. -/
def CopyPair.pick {α : Type} (p : CopyPair α) : Option α := p.winner.map (fun c => c.body)

/-- Two valid copies have equal sequences and different contents (R408). -/
def CopyPair.clash {α : Type} [DecidableEq α] (p : CopyPair α) : Bool :=
  match NorCopy.good p.low, NorCopy.good p.high with
  | some a, some b => a.seq == b.seq && decide (a.body ≠ b.body)
  | _, _ => false

/-- Write new content (R408): the other copy than the winner, with the next sequence. -/
def CopyPair.write {α : Type} (p : CopyPair α) (v : α) : CopyPair α :=
  let n : NorCopy α := ⟨((p.winner.map (fun c => c.seq)).getD 0 + 1) % 2 ^ 64, true, v⟩
  if p.lowWins then { p with high := some n } else { p with low := some n }

/-- A copy whose CRC-32C no longer holds: 0 the lower-addressed one, 1 the other. -/
def CopyPair.spoil {α : Type} (p : CopyPair α) (k : Nat) : CopyPair α :=
  let bad (c : NorCopy α) : NorCopy α := { c with crcOk := false }
  if k = 0 then { p with low := p.low.map bad } else { p with high := p.high.map bad }

/-- Operating seconds of the configuration area (R436). -/
def Boot.opsecNor (b : Boot) : Nat := (b.timeNor.pick.map (fun x => x.1)).getD 0

/-- Power cycles of the configuration area (R436). -/
def Boot.cyclesNor (b : Boot) : Nat := (b.timeNor.pick.map (fun x => x.2)).getD 0

/-- Operating seconds and power cycles go to the configuration area (R436). -/
def State.timeCopy (s : State) : State :=
  { s with boot := { s.boot with timeNor := s.boot.timeNor.write (s.secs, s.get Reg.SYS_OPSEC_PWR_CYCLES) } }

/-- Lantern's estimator state in the configuration area, if it belongs to a module table (R332). -/
def Lantern.kept (l : Lantern) (hash : Nat) : Option (NMap Module) :=
  (l.stateNor.pick.filter (fun x => x.2 == hash)).map (fun x => x.1)

/-- The freeze record that a start finds, in AON or in the NOR (R276): the channels. -/
def Dram.freezeFound (d : Dram) : List Nat :=
  let nor := (d.freezeNor.pick).getD []
  d.freezeRec ++ nor.filter (fun c => !d.freezeRec.contains c)

/-- Write both copies of the freeze record (R271, R276). -/
def Dram.freezeNote (d : Dram) (l : List Nat) : Dram := { d with freezeRec := l, freezeNor := d.freezeNor.write l }

/-- The training sets in the NOR (R265). -/
def Dram.setsNor (d : Dram) : List TrainSet := (d.trainNor.pick).getD []

/-- The image geometry that a training set carries (R265). -/
def State.dramGeom (s : State) : Nat :=
  s.get Reg.DMC_GEOM_CAP_GIB * 2 ^ 16 + s.get Reg.DMC_GEOM_CHANNELS * 64 + s.get Reg.DMC_GEOM_RDIMM * 32 +
    s.get Reg.DMC_GEOM_RANKS * 16 + s.get Reg.DMC_GEOM_DENSITY * 4

/-- The valid set for a rate, which carries the geometry of the image (R265). -/
def State.setFor (s : State) (l : List TrainSet) (rate : Nat) : Option TrainSet :=
  l.find? (fun t => t.rate == rate && t.geom == s.dramGeom)

/-- A list of sets with one more, in place of the one of its rate. -/
def addSet (l : List TrainSet) (t : TrainSet) : List TrainSet := l.filter (fun x => x.rate != t.rate) ++ [t]

/-- The six items of the training and configuration areas (R406): training sets, Lantern state, operating time, peer identity, LUN
identities, freeze record. A copy of one is spoiled. -/
def State.spoilCopy (s : State) (item k : Nat) : State :=
  match item with
  | 0 => { s with dmc := { s.dmc with trainNor := s.dmc.trainNor.spoil k } }
  | 1 => { s with lan := { s.lan with stateNor := s.lan.stateNor.spoil k } }
  | 2 => { s with boot := { s.boot with timeNor := s.boot.timeNor.spoil k } }
  | 3 => { s with ech := { s.ech with peerNor := s.ech.peerNor.spoil k } }
  | 4 => { s with flc := { s.flc with idsNor := s.flc.idsNor.spoil k } }
  | 5 => { s with dmc := { s.dmc with freezeNor := s.dmc.freezeNor.spoil k } }
  | _ => s

/-- The items whose two valid copies clash (R408). -/
def State.norClashes (s : State) : List Nat :=
  ([s.dmc.trainNor.clash, s.lan.stateNor.clash, s.boot.timeNor.clash, s.ech.peerNor.clash, s.flc.idsNor.clash,
    s.dmc.freezeNor.clash].zipIdx.filter (fun x => x.1)).map (fun x => x.2)

end Sys2Proof.Machine
end

