-- ==== Sys2Proof/Machine/NvmeBase.lean ====
section
/-! DEFINITION. What every NVMe and management command shares: completion queue entries, tunnelled answers, asynchronous
events and the SMART critical warning (R478–R487, R502–R504). Status codes are those of NVMe 2.0. -/

namespace Sys2Proof.Machine

/-- Generic and command-specific status: status code type and status code. -/
structure NStat where
  sct : Nat
  sc  : Nat
deriving DecidableEq, Repr

def stOk : NStat := ⟨0, 0x00⟩
def stInvalidOpcode : NStat := ⟨0, 0x01⟩
def stInvalidField : NStat := ⟨0, 0x02⟩
def stTransferError : NStat := ⟨0, 0x04⟩
def stInternal : NStat := ⟨0, 0x06⟩
def stAborted : NStat := ⟨0, 0x07⟩
def stInvalidNs : NStat := ⟨0, 0x0B⟩
def stWriteProtected : NStat := ⟨0, 0x20⟩
def stLbaRange : NStat := ⟨0, 0x80⟩
def stCapExceeded : NStat := ⟨0, 0x81⟩
def stNotReady : NStat := ⟨0, 0x82⟩
def stCqInvalid : NStat := ⟨1, 0x00⟩
def stInvalidQid : NStat := ⟨1, 0x01⟩
def stInvalidQsize : NStat := ⟨1, 0x02⟩
def stAerLimit : NStat := ⟨1, 0x05⟩
def stInvalidVector : NStat := ⟨1, 0x08⟩
def stInvalidLogPage : NStat := ⟨1, 0x09⟩
def stInvalidFormat : NStat := ⟨1, 0x0A⟩
def stInvalidQDelete : NStat := ⟨1, 0x0C⟩
def stNotSaveable : NStat := ⟨1, 0x0D⟩
def stUnrecovered : NStat := ⟨2, 0x81⟩
/-- A vendor status of R486. -/
def stVendor (v : Nat) : NStat := ⟨1, v⟩

/-- Post a completion queue entry on a controller (R478, R504): the queue's tail and phase advance, its vector is
signalled; an error adds an Error Information entry (R480). -/
def State.cqePost (s : State) (p : Port) (id : CmdId) (st : NStat) (dw0 : Nat) : State :=
  let n := s.nvme p
  let qid := ((mget n.sqs id.sq).map (fun q => q.cq)).getD 0
  let outs := n.outs.filter (fun o => o.id != id)
  match mget n.cqs qid with
  | none => s.setNvme p { n with outs := outs }
  | some c =>
    let last := decide (c.tail + 1 < c.size)
    let c' := { c with tail := if last then c.tail + 1 else 0, phase := if last then c.phase else !c.phase }
    let errs := if st = stOk then n.errs
      else (⟨s.host.smart.errEntries + 1, id, st.sct, st.sc⟩ :: n.errs).take 64
    let s1 := s.setNvme p { n with outs := outs, cqs := mset n.cqs qid c', errs := errs }
    let s2 := if st = stOk then s1
      else { s1 with host := { s1.host with smart := { s1.host.smart with errEntries := s1.host.smart.errEntries + 1 } } }
    let s3 := s2.send (.cqe p qid id st.sct st.sc dw0 c.phase)
    if c.ien && !(bitOf n.intms c.vec) then s3.msixOn p c.vec else s3

/-- Answer an admin command: a completion on the admin queue, or a tunnelled response over SMBus (R506). -/
def State.adminDone (s : State) (req : AdminReq) (id : CmdId) (st : NStat) (dw0 : Nat) : State :=
  match req with
  | .host p => s.cqePost p { id with sq := 0 } st dw0
  | .mi _ => s.send (.miResp st.sct st.sc dw0)

/-- Move data to the sender of an admin command. -/
def State.adminData (s : State) (req : AdminReq) (bytes : List Byte) : State := s.send (.data req.requester bytes)

/-- DW0 of an asynchronous event: type, information, log page. -/
def aerDw0 (ty info page : Nat) : Nat := ty + info * 256 + page * 65536

/-- Report an asynchronous event on a controller: complete a held request, or keep the event until one comes; an event
whose page has been reported and not read stays masked (R503). -/
def State.asyncOn (s : State) (p : Port) (ty info page : Nat) : State :=
  let n := s.nvme p
  if !n.en || n.masked.contains page then s
  else
    match n.aers with
    | id :: rest =>
      (s.setNvme p { n with aers := rest, masked := n.masked ++ [page] }).cqePost p id stOk (aerDw0 ty info page)
    | [] =>
      let d := aerDw0 ty info page
      s.setNvme p { n with events := if n.events.contains d then n.events else n.events ++ [d] }

/-- Report an asynchronous event on both controllers. -/
def State.async (s : State) (ty info page : Nat) : State := (s.asyncOn .a ty info page).asyncOn .b ty info page

/-- The vendor asynchronous event with a log page (R503). -/
def State.asyncVendor (s : State) (page : Nat) : State := s.async 7 0 page

/-- Percent of spares left, the lower of Grotto and Ledger on the worst channel (R502); 100 before a format. -/
def State.sparePct (s : State) : Nat :=
  let part (now atFormat : List Nat) : List Nat := (now.zip atFormat).map (fun e => if e.2 = 0 then 100 else e.1 * 100 / e.2)
  (part s.grt.spares s.grt.spares0 ++ part s.grt.ledger.spares s.grt.ledger.spares0).foldl Nat.min 100

/-- The Available Spare Threshold: IDENT value, default 10 % (R502). -/
def State.spareThr (s : State) : Nat :=
  match s.boot.running with
  | some i => i.spareThr
  | none => 10

/-- The junction temperature in °C, two's complement in SYS_TEMP (R438). -/
def State.tj (s : State) : Int := s.getI Reg.SYS_TEMP_TJ

/-- Composite temperature in kelvin (R502). -/
def State.kelvin (s : State) : Int := s.tj + 273

/-- The over- and under-temperature thresholds of a controller (feature 0x04): defaults WCTEMP and 0 K. -/
def Nvme.overTemp (n : Nvme) : Nat := mgetD n.feats 0x0400 378
def Nvme.underTemp (n : Nvme) : Nat := mgetD n.feats 0x0401 0

/-- A subchannel rank has two degraded positions (R260, R503). -/
def State.twoDegraded (s : State) : Bool :=
  let d := (mfilter (fun _ p => p.degraded) s.dmc.pos).map (fun e => e.1 / 10)
  d.any (fun r => decide (2 ≤ (d.filter (fun x => x == r)).length))

/-- The SMART critical warning (R503). -/
def State.warnBits (s : State) : Nat :=
  let hot (p : Port) := decide (((s.nvme p).overTemp : Int) < s.kelvin) || decide (s.kelvin < ((s.nvme p).underTemp : Int))
  b2n (decide (s.sparePct < s.spareThr)) + b2n (hot .a || hot .b) * 2 +
    b2n (s.flag Reg.EVR_MEM_CRIT || s.twoDegraded) * 4 + b2n (s.flag Reg.GRT_LEDGER_WP) * 8 +
    b2n (s.pmr.conds.contains 0x12) * 16 + b2n (decide (2 ≤ hstsOf s.pmr.conds)) * 32

/-- The information field of a SMART event by warning bit (NVMe 2.0): reliability 0, temperature 1, spare 2. -/
def warnInfo (bit : Nat) : Nat := if bit = 0 then 2 else if bit = 1 then 1 else 0

/-- Raise the SMART event of one warning bit on a controller, if its configuration enables the bit (R503). -/
def State.warnEvent (s : State) (p : Port) (bit : Nat) : State :=
  if bitOf (mgetD (s.nvme p).feats 0x0B 0) bit then s.asyncOn p 1 (warnInfo bit) 0x02 else s

/-- Bring the SMART critical warning up to date; each bit that sets raises its event (R503). -/
def State.syncWarn (s : State) : State :=
  let w := s.warnBits
  let s1 := (List.range 6).foldl (fun t i =>
    if bitOf w i && !bitOf s.host.warn i then (t.warnEvent .a i).warnEvent .b i else t) s
  { s1 with host := { s1.host with warn := w } }

end Sys2Proof.Machine
end

