-- ==== Sys2Proof/Machine/Events.lean ====
section
/-! DEFINITION. Taking in events (R444–R454): coalescing, numbering, snapshots and the AON ring. -/

namespace Sys2Proof.Machine

/-- SOURCE of a block's events: 0x01–0x0E in the order of R450. -/
def Block.source (b : Block) : Nat := b.index + 1

/-- SOURCE of the PCIe ports and NVMe (R450). -/
def srcHost : Nat := 15

/-- The dword offsets of a source's default snapshot (R450); `key` picks the channel, port or LUN. -/
def snapOffsets (src key : Nat) : List Nat :=
  match src with
  | 1 => [0x100008, 0x10000C, 0x100020, 0x1C0004, 0x1C0010, 0x1D0010, 0x120004, 0x130014]
  | 2 => [0x110004, 0x110008, 0x11000C, 0x110014, 0x120004, 0x120010, 0x100020, 0x160004]
  | 3 => [0x120004, 0x120010, 0x120014, 0x120018, 0x120024, 0x120028, 0x12002C, 0x120040]
  | 4 => [0x130004, 0x130014, 0x130020, 0x130018, 0x13001C, 0x130100 + 16 * (key % 64), 0x13010C + 16 * (key % 64), 0x120004]
  | 5 =>
    let m := 0x140100 + 64 * (key % 8)
    [0x140004, 0x140018, 0x140024, m, m + 8, m + 4, m + 0x14, m + 0x1C]
  | 6 => [0x150004, 0x150008, 0x15000C, 0x150010, 0x150014, 0x150018, 0x15001C, 0x150028]
  | 7 => [0x160004, 0x160014, 0x160010, 0x160018, 0x16001C, 0x160020, 0x160028, 0x16002C]
  | 8 => [0x170004, 0x17000C, 0x17003C, 0x170040, 0x170044, 0x170038, 0x170020, 0x170024]
  | 9 => [0x180004, 0x180028, 0x180060 + 4 * (key % 16), 0x18001C, 0x180054, 0x180048, 0x18004C, 0x180050]
  | 10 => [0x190004, 0x190104, 0x190138, 0x19013C, 0x19012C, 0x190134, 0x190040, 0x19004C]
  | 11 => [0x1A0004, 0x1A0010, 0x1A003C, 0x1A0020, 0x1A0028, 0x1A0030, 0x1A0038, 0x1A0040]
  | 12 => [0x1B0004, 0x1B000C, 0x1B0018, 0x1B001C, 0x1B0020, 0x1B0024, 0x1B0010, 0x1B0014]
  | 13 => [0x1C0004, 0x1C0010, 0x1C0014, 0x1C0008, 0x1C000C, 0x1C0018, 0x1C0028, 0x100008]
  | 14 => [0x1D0010, 0x1D0014, 0x1D000C, 0x100008]
  | _ => []

/-- The FLC_LUN_INFO word of one LUN, whatever FLC_LUN_SEL selects (R219, R450). -/
def State.lunInfo (s : State) (n : Nat) : Nat :=
  let l := s.lun n
  Nat.min 255 l.pfail * 2 ^ 24 + (s.lunTimeouts l % 256) * 2 ^ 16 + (l.lastLevel % 16) * 2 ^ 12 + (l.profile % 16) * 2 ^ 8 +
    (l.slots % 32) * 2 ^ 3 + l.st.code

/-- One snapshot word: the dword, or 0xDEAD_0FFD where its domain is off, with the PARTIAL mark (R447). -/
def State.snapWord (s : State) (src key o : Nat) : Nat × Bool :=
  match Block.ofOff o with
  | none => (0, false)
  | some b =>
    if s.domAnswers b.domain then (if src = 9 ∧ o = 0x180028 then s.lunInfo key else s.peek o, false)
    else (0xDEAD0FFD, true)

/-- The default snapshot of a source (R450). The program counters of the control processors are free values. -/
def State.defaultSnap (s : State) (src key : Nat) : List Nat × Bool :=
  if src = srcHost then
    if s.domAnswers .host then
      ([s.pmrsts .a false, s.csts .a, (s.port .a).aerUnc, (s.port .a).linkSt,
        s.pmrsts .b false, s.csts .b, (s.port .b).aerUnc, (s.port .b).linkSt], false)
    else (List.replicate 8 0xDEAD0FFD, true)
  else
    let ws := (snapOffsets src key).map (s.snapWord src key)
    let pcs := if src = 14 then (List.range 4).map (fun i => Config.freeValue (s.free + i) % 2 ^ 32) else []
    (ws.map (fun w => w.1) ++ pcs, ws.any (fun w => w.2))

/-- The words of a snapshot an event names itself (R451): dword offsets read like a default snapshot. -/
def State.snapOf (s : State) (offs : List Nat) : List Nat × Bool :=
  let ws := offs.map (s.snapWord 0 0)
  (ws.map (fun w => w.1), ws.any (fun w => w.2))

/-- The repeat window in seconds; 1 until the image gives one (R452). -/
def State.repeatWindow (s : State) : Nat := Nat.max 1 (s.get Reg.EVR_CFG_REPEAT_S)

/-- The severity that sets SEV_EV; 7 until the image gives one (R471). -/
def State.alertSev (s : State) : Nat := if s.get Reg.EVR_CFG_ALERT_SEV < 4 then 7 else s.get Reg.EVR_CFG_ALERT_SEV

/-- Set LOST_EV, MEM_EV, CLEAR_EV or SEV_EV and signal vector 62 (R471, R504); SEV_EV also raises the vendor asynchronous event
(R503). -/
def State.raiseEvr (s : State) (f : Fld) : State :=
  let s1 := s.raise f Reg.EVR_CTRL_INT_EN 62
  if f = Reg.EVR_STATUS_SEV_EV ∧ !s.flag f then s1.asyncVendor 0xC2 else s1

/-- Replace the recorder. -/
def State.setEvr (s : State) (r : Recorder) : State := { s with evr := r }

/-- Count a dropped submission or record (R444, R454). -/
def State.dropRec (s : State) : State := (s.incSat Reg.EVR_LOST_DROPPED 1).raiseEvr Reg.EVR_STATUS_LOST_EV

/-- Note a lost record for the next 0x6006 (R454). -/
def Recorder.noteLost (r : Recorder) (sev seq : Nat) : Recorder :=
  { r with lostBySev := lupd r.lostBySev sev (fun n => Nat.min 255 (n + 1)),
           lostLo := if r.lostBySev.all (fun n => n == 0) then seq else Nat.min r.lostLo seq,
           lostHi := Nat.max r.lostHi seq,
           holes := if r.views.any (fun v => v.isSome) then r.holes ++ [seq] else r.holes }

/-- The place in a list of the first element of which `p` holds. -/
def findPlace {α : Type} (p : α → Bool) : List α → Option Nat
  | [] => none
  | h :: t => if p h then some 0 else (findPlace p t).map (· + 1)

/-- The lowest severity held in the ring. -/
def Recorder.lowestSev (r : Recorder) : Nat := (r.ring.map (fun x => x.evt.sev)).foldl Nat.min 7

/-- Remove the element at a place. -/
def eraseAt {α : Type} : List α → Nat → List α
  | [], _ => []
  | _ :: t, 0 => t
  | h :: t, i + 1 => h :: eraseAt t i

/-- Does the ring have room for a record of severity `sev`, and which slot gives way (R454)? `none`: dropped. -/
def Recorder.victim (r : Recorder) (sev : Nat) : Option (Option Nat) :=
  if r.ring.length < 2048 then some none
  else
    match findPlace (fun x => x.flushed) r.ring with
    | some i => some (some i)
    | none =>
      if r.lowestSev ≤ sev then some (findPlace (fun x => x.evt.sev == r.lowestSev) r.ring) else none

/-- Put a record in the ring, taking the slot that `victim` names (R454). -/
def State.ringPut (s : State) (e : EvRecord) (flushed : Bool) : State :=
  match s.evr.victim e.sev with
  | none => ({ s with evr := s.evr.noteLost e.sev e.seq } : State).dropRec
  | some none => { s with evr := { s.evr with ring := s.evr.ring ++ [⟨e, flushed, false⟩] } }
  | some (some i) =>
    match s.evr.ring[i]? with
    | none => s
    | some old =>
      let r1 := { s.evr with ring := eraseAt s.evr.ring i ++ [⟨e, flushed, false⟩] }
      if old.flushed then s.setEvr r1
      else
        ((s.setEvr (r1.noteLost old.evt.sev old.evt.seq)).incSat Reg.EVR_LOST_OVERWRITTEN 1).raiseEvr
          Reg.EVR_STATUS_LOST_EV

/-- A record is a clear record (R467). -/
def EvRecord.isClear (e : EvRecord) : Bool := e.src == 12 && e.code == 0x6004

/-- A clear covers a record (R468). -/
def ClearRec.covers (c : ClearRec) (e : EvRecord) : Bool :=
  decide (e.seq ≤ c.clearTo) && decide (e.sev ≤ c.maxSev) && !e.isClear

/-- A clear in force hides a record (R468). -/
def Recorder.hidden (r : Recorder) (e : EvRecord) : Bool := r.clears.any (fun c => c.covers e)

/-- The highest severity a journal sector or a black-box block holds (R456). -/
def topSev (es : List EvRecord) : Nat := (es.map (fun e => e.sev)).foldl Nat.max 0

/-- The victim among `tops`, the highest severities of the candidates, oldest first: `prot` protected ones of `usable`
are more than the quarter that is kept (R456, R458). -/
def sevVictim (tops : List Nat) (many : Bool) : Option Nat :=
  if tops = [] then none
  else if tops.all (fun t => decide (6 ≤ t)) then some 0
  else if many then
    match findPlace (fun t => t == 6) tops with
    | some i => some i
    | none =>
      match findPlace (fun t => t == 7) tops with
      | some i => some i
      | none => some 0
  else findPlace (fun t => decide (t < 6)) tops

/-- Protected journal sectors (R456). -/
def Recorder.protected (r : Recorder) : Nat := (r.sectors.filter (fun x => decide (6 ≤ topSev x.recs))).length

/-- Usable journal sectors (R472). -/
def Recorder.usableSect (r : Recorder) : Nat := r.sectors.length + r.freeSect

/-- The journal can take a record without an erase (R455). -/
def Recorder.norRoom (r : Recorder) : Bool :=
  (match r.sectors.getLast? with
   | some x => decide (x.recs.length < 63)
   | none => false) || r.freeSect != 0

/-- Append to the journal: to the last sector, or to an erased one when that holds 63 records (R455). -/
def Recorder.norAppend (r : Recorder) (e : EvRecord) (nextSeq : Nat) : Recorder :=
  let fresh (r : Recorder) : Recorder :=
    if r.freeSect = 0 then r
    else { r with sectors := r.sectors ++ [⟨r.sectorSeq, nextSeq, [e]⟩], sectorSeq := r.sectorSeq + 1, freeSect := r.freeSect - 1 }
  match r.sectors.getLast? with
  | some sec =>
    if sec.recs.length < 63 then
      { r with sectors := r.sectors.dropLast ++ [{ sec with recs := sec.recs ++ [e] }] }
    else fresh r
  | none => fresh r

/-- Every record held anywhere, ring slots that a clear covers left out. -/
def Recorder.heldRecs (r : Recorder) : List EvRecord :=
  (r.ring.filter (fun x => !x.cleared)).map (fun x => x.evt) ++ (r.sectors.map (fun x => x.recs)).flatten ++
    ((r.bb.map (fun b => (b.pages.map (fun p => p.recs)).flatten)).flatten) ++ r.buffer

/-- A clear record still hides records that are held (R457). -/
def Recorder.stillHides (r : Recorder) (e : EvRecord) : Bool :=
  e.isClear && r.clears.any (fun c => c.seq == e.seq && r.heldRecs.any (fun x => c.covers x))

/-- Erase the victim sector of a full journal; clear records that still hide records move to the sector that follows
(R456, R457). -/
def Recorder.norMakeRoom (r : Recorder) (nextSeq : Nat) : Recorder :=
  match sevVictim (r.sectors.dropLast.map (fun x => topSev x.recs)) (decide (r.usableSect / 4 < r.protected)) with
  | none => r
  | some i =>
    match r.sectors[i]? with
    | none => r
    | some v =>
      let r1 := { r with sectors := eraseAt r.sectors i, freeSect := r.freeSect + 1 }
      (v.recs.filter (fun e => r.stillHides e)).foldl (fun t e => t.norAppend e nextSeq) r1

/-- A journal sector may be erased: the severity table is complete, no view is open, and no vault runs (R456, R460,
R465). -/
def State.norMayErase (s : State) : Bool :=
  s.flag Reg.EVR_STATUS_SCAN_DONE && s.evr.views.all (fun v => v.isNone) && !s.vaulting

/-- The recorder with room in its journal, where it can be made. -/
def State.norReady (s : State) : Recorder :=
  if s.evr.norRoom || !s.norMayErase then s.evr else s.evr.norMakeRoom (s.get Reg.EVR_SEQ_NEXT)

/-- The recorder's mode (R462): 0 NORMAL, 1 NOR_FAILED, 2 DIRECT, 3 BUFFER. -/
def State.evrMode (s : State) : Nat := s.get Reg.EVR_MEM_MODE

/-- A new record of severity `sev` finds room where the mode puts it (R454, R462). -/
def State.storeRoom (s : State) (sev : Nat) : Bool :=
  if s.evrMode = 2 then s.norReady.norRoom
  else if s.evrMode = 3 then decide (s.evr.buffer.length < 256)
  else s.evr.victim sev != none

/-- Store a new record where the mode puts it (R462): the ring, the journal at once, or the buffer of CP0. -/
def State.storeRec (s : State) (e : EvRecord) : State :=
  if s.evrMode = 2 then
    if s.norReady.norRoom then
      { s with evr := s.norReady.norAppend { e with direct := true } (s.get Reg.EVR_SEQ_NEXT) }
    else s.dropRec
  else if s.evrMode = 3 then
    if s.evr.buffer.length < 256 then { s with evr := { s.evr with buffer := s.evr.buffer ++ [e] } } else s.dropRec
  else s.ringPut e (decide (e.sev < s.get Reg.EVR_CFG_MIN_NOR_SEV))

/-- Close an open record (R452): a REPEAT above the value written places an UPDATE copy in the ring (R453). -/
def State.closeOpen (s : State) (seq : Nat) : State :=
  match s.evr.opens.find? (fun o => o.evt.seq == seq) with
  | none => s
  | some o =>
    let s1 := { s with evr := { s.evr with opens := s.evr.opens.filter (fun x => x.evt.seq != seq) } }
    match o.written with
    | some w => if w < o.evt.rep then s1.storeRec { o.evt with update := true } else s1
    | none => s1

/-- The open record that an occurrence coalesces into (R452). -/
def State.openMatch (s : State) (src code key : Nat) : Option OpenRec :=
  s.evr.opens.find? (fun o => o.evt.src == src && o.evt.code == code && o.evt.key == key &&
    (o.evt.time % 2 ^ 40) / s.repeatWindow == s.secs / s.repeatWindow && decide (o.evt.rep < 65535))

/-- Add one occurrence to an open record, and to its copy in the ring, or in the buffer that stands for the ring, while that
is not on durable memory (R452, R453, R462). -/
def State.coalesce (s : State) (o : OpenRec) : State :=
  let e := { o.evt with rep := o.evt.rep + 1, lastDt := Nat.min 255 (s.secs - o.evt.time % 2 ^ 40) }
  { s with evr := { s.evr with
      opens := s.evr.opens.map (fun x => if x.evt.seq == e.seq then { x with evt := e } else x),
      ring := s.evr.ring.map (fun x =>
        if x.evt.seq == e.seq && !x.evt.update && o.written.isNone then { x with evt := e } else x),
      buffer := s.evr.buffer.map (fun x => if x.seq == e.seq && !x.update && o.written.isNone then e else x) } }

/-- The TIME stamp of a record (R446): provisional until the operating-seconds copy has been read. -/
def State.stamp (s : State) : Nat :=
  if s.evr.provisional then s.secs % 2 ^ 40 + 0xFFFFFF * 2 ^ 40 else s.timeWord

/-- The severity from which events are printed (R508). -/
def State.consoleSev (s : State) : Nat := (s.boot.running.map (fun i => i.console)).getD 5

/-- Open a new record (R445, R447, R448): it takes the next SEQ unless it is dropped (R454, R462). -/
def State.openRec (s : State) (src code sev key : Nat) (snap : List Nat × Bool) : State :=
  if !s.storeRoom sev then
    ({ s with evr := s.evr.noteLost sev (s.get Reg.EVR_SEQ_NEXT) } : State).dropRec
  else
    let s0 := if s.evr.opens.length < 64 then s
      else match s.evr.opens with
        | o :: _ => s.closeOpen o.evt.seq
        | [] => s
    let e : EvRecord :=
      { seq := s0.get Reg.EVR_SEQ_NEXT, sev := sev, update := false, late := false, direct := false, part := snap.2,
        src := src, code := code, key := key % 65536, rep := 0, time := s0.stamp, ticks := s0.pwr.ticks,
        nsnap := snap.1.length, lastDt := 0, snap := snap.1 }
    let s1 := (s0.put Reg.EVR_SEQ_NEXT (e.seq + 1)).storeRec e
    let s2 := { s1 with evr := { s1.evr with
      opens := s1.evr.opens ++ [OpenRec.mk e (if s1.evrMode = 2 then some 0 else none)] } }
    let s3 := ((s2.put Reg.EVR_LAST_SOURCE src).put Reg.EVR_LAST_SEVERITY sev).put Reg.EVR_LAST_CODE code
    let s4 := if s3.consoleSev ≤ sev then s3.console [e.seq, sev, src, code, e.key] else s3
    if s4.alertSev ≤ sev then s4.raiseEvr Reg.EVR_STATUS_SEV_EV else s4

/-- Accept one submission at the event port (R444, R452). -/
def State.submit (s : State) (src code sev key : Nat) (snap : List Nat × Bool) : State :=
  if s.domOn .aon then
    match s.openMatch src code (key % 65536) with
    | some o => (s.coalesce o)
    | none => s.openRec src code sev key snap
  else s

/-- Records lost wait for the event 0x6006, and a slot is flushed again (R454). -/
def State.lostReport (s : State) : State :=
  if !(s.evr.lostBySev.all (fun n => n == 0)) && s.evr.ring.any (fun x => x.flushed) then
    let b := s.evr.lostBySev
    let words := [leNat ((b.take 4).map (BitVec.ofNat 8)), leNat ((b.drop 4).map (BitVec.ofNat 8)),
      s.evr.lostLo % 2 ^ 32, s.evr.lostLo / 2 ^ 32, s.evr.lostHi % 2 ^ 32, s.evr.lostHi / 2 ^ 32]
    let s1 := { s with evr := { s.evr with lostBySev := [0, 0, 0, 0, 0, 0, 0, 0], lostLo := 0, lostHi := 0 } }
    s1.submit 12 0x6006 4 0 (words, false)
  else s

/-- An event with a snapshot of its own. -/
def State.eventWith (s : State) (src code sev key : Nat) (snap : List Nat × Bool) : State :=
  (s.submit src code sev key snap).lostReport

/-- An event with its source's default snapshot. -/
def State.event (s : State) (src code sev key : Nat) : State :=
  s.eventWith src code sev key (s.defaultSnap src key)

/-- An event of a block with its default snapshot. -/
def State.ev (s : State) (b : Block) (code sev key : Nat) : State := s.event b.source code sev key

/-- An event of the host ports or NVMe. -/
def State.evHost (s : State) (code sev key : Nat) : State := s.event srcHost code sev key

/-- A fallback of R31 begins or ends (R32, R554): 0 the cold-start cap, 1 image defaults, 2 ingest without a horizon, 3 Seep
stopped. -/
def State.fallback (s : State) (i : Nat) (on : Bool) : State :=
  if lget s.umb.falls i false = on then s
  else
    let s1 := { s with umb := { s.umb with falls := lset s.umb.falls i on } }
    if on then s1.ev .umb (0x1010 + i) 4 0 else s1.ev .umb (0x0010 + i) 2 0

end Sys2Proof.Machine
end

