-- ==== Sys2Proof/Machine/LeaveOps.lean ====
section
/-! DEFINITION. The leave broker (R27–R30): asking for leave, granting in order, returning tokens, the trip. -/

namespace Sys2Proof.Machine

/-- The cost of an operation in milliwatts (R27, R402). A learn costs the module's recharge power. -/
def State.leaveCost (s : State) : LeaveOp → Nat
  | .vaultProgram _ | .ledgerProgram _ | .bbPage => s.get Reg.PWR_LEAVE_COST1_PROG_MW
  | .vaultErase _ | .gcErase _ | .ledgerErase _ => s.get Reg.PWR_LEAVE_COST1_ERASE_MW
  | .training _ => s.get Reg.PWR_LEAVE_COST0_TRAIN_MW
  | .phyHost _ | .phyEcho => s.get Reg.PWR_LEAVE_COST0_PHY_MW
  | .seepStripe | .gcStripe => 16 * s.get Reg.PWR_LEAVE_COST1_PROG_MW + s.get Reg.PWR_LEAVE_COST1_STRIPE_MW
  | .learnCycle port =>
    match mget s.lan.mods port with
    | some m =>
      match m.profile with
      | some i => ((mget s.lan.profiles i).map (fun p => p.recharge)).getD 5000
      | none => 5000
    | none => 5000

/-- The requests in the order in which they are examined: those aged first unless a vault is in progress, then by class
and arrival (R28). -/
def Broker.order (b : Broker) (vault : Bool) : List Leave :=
  let aged := if vault then [] else b.queue.filter (fun l => l.aged)
  let rest := if vault then b.queue else b.queue.filter (fun l => !l.aged)
  aged ++ ([1, 2, 3, 4, 5, 6].map (fun p => rest.filter (fun l => l.op.cls.prio == p))).flatten

/-- Grant from the front of the order while the tokens last (R28). -/
def grantLoop (room : Nat) (held : Nat) : List Leave → List Leave
  | [] => []
  | l :: t => if held + l.cost ≤ room then l :: grantLoop room (held + l.cost) t else []

/-- Grant what the budget allows (R28). During a rehearsal the requests of other classes than Vault wait (R87). -/
def State.leaveGrant (s : State) : State :=
  let room := s.leaveBudget - s.get Reg.PWR_LEAVE_BUDGET_BASE_MW
  let g := grantLoop room s.broker.heldMw
    ((s.broker.order s.vaulting).filter (fun l => !s.rehearsing || l.op.cls == .vault))
  { s with broker := { s.broker with
      held := s.broker.held ++ g,
      queue := s.broker.queue.filter (fun l => !(g.any (fun x => x.id == l.id))) } }

/-- Ask for leave: rejected when too large, else queued and granted when its turn comes (R28). The answer is the
request's number, none when rejected. -/
def State.leaveRequest (s : State) (op : LeaveOp) : State × Option Nat :=
  let cost := s.leaveCost op
  if s.leaveBudget - s.get Reg.PWR_LEAVE_BUDGET_BASE_MW < cost then
    ((s.incSat Reg.PWR_LEAVE_QUEUE_REJECTS 1).ev .pwr 0x1001 4 op.cls.prio, none)
  else
    let id := s.broker.nextId
    (({ s with broker := { s.broker with queue := s.broker.queue ++ [⟨id, op, cost, false⟩], nextId := id + 1 } } :
        State).leaveGrant, some id)

/-- Is the request granted? -/
def State.leaveHeld (s : State) (id : Nat) : Bool := s.broker.held.any (fun l => l.id == id)

/-- Is there a grant for this operation? -/
def State.holdsOp (s : State) (op : LeaveOp) : Bool := s.broker.held.any (fun l => l.op == op)

/-- Is a request of this operation granted or waiting? -/
def State.askedOp (s : State) (op : LeaveOp) : Bool := s.holdsOp op || s.broker.queue.any (fun l => l.op == op)

/-- Give a grant's tokens back, or withdraw a waiting request, and grant what now fits (R28). -/
def State.leaveReturn (s : State) (id : Nat) : State :=
  ({ s with broker := { s.broker with held := s.broker.held.filter (fun l => l.id != id),
                                       queue := s.broker.queue.filter (fun l => l.id != id) } } : State).leaveGrant

/-- Withdraw every request and grant of an operation. -/
def State.leaveDropOp (s : State) (op : LeaveOp) : State :=
  ({ s with broker := { s.broker with held := s.broker.held.filter (fun l => l.op != op),
                                       queue := s.broker.queue.filter (fun l => l.op != op) } } : State).leaveGrant

/-- Run an operation that begins and ends within one command under its leave (R27, R28): one too large for the budget is rejected
and does not run; the wait for the grant and the time of the operation lie within the command. The answer is whether it ran. -/
def State.underLeave (s : State) (op : LeaveOp) (k : State → State) : State × Bool :=
  let r := s.leaveRequest op
  match r.2 with
  | none => (r.1, false)
  | some i => ((k r.1).leaveReturn i, true)

/-- A host port's PHY bring-up asks for leave (R27), unless it has asked. -/
def State.phyRequest (s : State) (p : Port) : State :=
  if s.portExists p && !s.askedOp (.phyHost p) then (s.leaveRequest (.phyHost p)).1 else s

/-- Switch to the vault budget: queued requests outside the Vault class are answered cancelled and the learn grant is
revoked (R29). -/
def State.leaveTrip (s : State) : State :=
  let s1 := s.put Reg.PWR_LEAVE_QUEUE_VAULT 1
  ({ s1 with broker := { s1.broker with
      queue := s1.broker.queue.filter (fun l => l.op.cls == .vault),
      cancelled := s1.broker.queue.filter (fun l => l.op.cls != .vault),
      held := s1.broker.held.filter (fun l => l.op.cls != .learn) } } : State).leaveGrant

/-- The learn-cycle grant is revoked, and a request for one withdrawn, whether or not its learn has begun (R78). -/
def State.learnRevoke (s : State) : State :=
  ({ s with broker := { s.broker with held := s.broker.held.filter (fun l => l.op.cls != .learn),
                                       queue := s.broker.queue.filter (fun l => l.op.cls != .learn) } } : State).leaveGrant

/-- Return to the run budget (R29, R89). -/
def State.leaveRun (s : State) : State := (s.put Reg.PWR_LEAVE_QUEUE_VAULT 0).leaveGrant

end Sys2Proof.Machine
end

