-- ==== Sys2Proof/Machine/PowerBase.lean ====
section
/-! DEFINITION. What every traffic does to the device power state (R378, R379, R383): activity, wake sources, and the
rollback of an entry. -/

namespace Sys2Proof.Machine

/-- Give up an entry in progress (R382, R383): the domains that agreed resume, the device is in RUN. After step 3 of the
DEEP preparation the return programs an open record of kind Superseded (R386). -/
def State.rollback (s : State) : State :=
  if s.get Reg.PWR_STATUS_STATE = pwrEntering then
    let s1 := { s with
      pwr := { s.pwr with agreed := [], asking := none, prep := 0 },
      vlt := { s.vlt with openKind := if s.pwr.prep = 4 then some 2 else s.vlt.openKind },
      ech := { s.ech with goingDown := false } }
    (s1.put Reg.PWR_STATUS_STATE pwrRun).put Reg.PWR_STATUS_TARGET 0
  else s

/-- Drop a pending sleep or deep request and its retry (R380, R397). -/
def State.dropRequest (s : State) : State :=
  ({ s with pwr := { s.pwr with request := 0, k := 0 } } : State).put Reg.PWR_STATUS_RETRY 0

/-- A wake source (R378, R383, R399): SLEEP and DEEP are left through EXITING, an entry in progress is rolled back, and a
pending request is dropped (R380), one that waits for its back-off among them. From DEEP a warm start begins, whose rails
come back first (R359, R387). -/
def State.wake (s : State) (src : Nat) : State :=
  let st := s.get Reg.PWR_STATUS_STATE
  if st = pwrSleep ∨ st = pwrDeep then
    let s1 := (s.put Reg.PWR_STATUS_STATE pwrExiting).incSat Reg.PWR_WAKE_COUNT 1
    let s2 := ((s1.put Reg.PWR_WAKE_FROM st).put Reg.PWR_WAKE_SOURCE src).dropRequest
    let s3 : State := if st = pwrDeep then
        ({ s2 with
          boot := { s2.boot with starting := true, startStep := 4 },
          rails := { s2.rails with inTransition := true, transDeep := true, wait := SeqWait.boot } } : State).put
          Reg.SYS_STATUS_PATH 3
      else s2
    s3.raise Reg.PWR_STATUS_WAKE_EV Reg.PWR_CTRL_INT_EN 61
  else if st = pwrEntering then s.rollback.dropRequest
  else if src ≠ 0 then s.dropRequest
  else s

/-- An activity of R379 with its wake source (0: none, the block's own work): IDLE becomes RUN, an entry is rolled back,
SLEEP is left. The Seep and the clean vault of the DEEP preparation are part of the entry (R386). -/
def State.touch (s : State) (src : Nat) : State :=
  if s.get Reg.PWR_STATUS_STATE = pwrIdle then s.put Reg.PWR_STATUS_STATE pwrRun
  else if src = 0 ∧ (s.pwr.prep = 2 ∨ s.pwr.prep = 3) then s
  else s.wake src

/-- The data path does not run: SLEEP, DEEP, or the exit from them. A host TLP then waits in its port's receive queue
(R385). -/
def State.asleep (s : State) : Bool :=
  let st := s.get Reg.PWR_STATUS_STATE
  st == pwrSleep || st == pwrDeep || st == pwrExiting

/-- A TLP reaches a function of this port: the port exists, its domain runs and its link is up. From the trip on no host
access is answered any more (R109 step 3). -/
def State.portLive (s : State) (p : Port) : Bool := s.portExists p && s.domOn .host && (s.port p).linkUp && !s.vaulting

/-- A memory TLP is claimed by the function: Memory Space Enable is set. -/
def State.portMem (s : State) (p : Port) : Bool := s.portLive p && (s.port p).mse

/-- CFG_UPD_STATUS.RESULT takes a value; a change of it signals vector 63 (R441, R504). -/
def State.updResult (s : State) (v : Nat) : State :=
  let s1 := s.put Reg.CFG_UPD_STATUS_RESULT v
  if s.get Reg.CFG_UPD_STATUS_RESULT ≠ v ∧ s.flag Reg.SYS_CTRL_INT_EN then s1.msix 63 else s1

/-- A staging ends without an image (R428, R432): RESULT 10. The bank's header is erased, so it holds no valid image. -/
def State.stagingLost (s : State) : State :=
  if s.boot.staging.isSome then
    (({ s with boot := { s.boot with staging := none } } : State).updResult 10).put Reg.CFG_UPD_STATUS_BUSY 0
  else s

end Sys2Proof.Machine
end

