-- ==== Sys2Proof/Machine/DramMap.lean ====
section
/-! DEFINITION. The mapping of cache addresses to the DRAM (R225–R228), and which granules a frozen channel takes
(R226, R273–R275). -/

namespace Sys2Proof.Machine

/-- Channels populated (R248): 1, 2 or 4. -/
def State.channels (s : State) : Nat := 2 ^ (s.get Reg.DMC_GEOM_CHANNELS % 4)

/-- Width of the CH field (R226). -/
def State.chWidth (s : State) : Nat := Nat.min 2 (s.get Reg.DMC_GEOM_CHANNELS)

/-- Ranks per subchannel. -/
def State.ranks (s : State) : Nat := if s.get Reg.DMC_GEOM_RANKS = 1 then 2 else 1

/-- Width of the RK field. -/
def State.rkWidth (s : State) : Nat := if s.get Reg.DMC_GEOM_RANKS = 1 then 1 else 0

/-- Width of the ROW field: 16 for 16 Gb, 17 for 24 and 32 Gb. -/
def State.rowWidth (s : State) : Nat := if s.get Reg.DMC_GEOM_DENSITY = 0 then 16 else 17

/-- Installed data capacity in bytes. -/
def State.capBytes (s : State) : Nat := s.capGiB * 2 ^ 30

/-- The parity of the row bits that a mask selects (R227). -/
def parity : Nat → Nat → Nat
  | 0, _ => 0
  | n + 1, v => (v % 2 + parity n (v / 2)) % 2

/-- The parity of `row` under `mask`. -/
def rowParity (row mask : Nat) : Nat := parity 17 (Nat.land row mask)

/-- One bit XOR another. -/
def xbit (a b : Nat) : Nat := (a + b) % 2

/-- The DRAM fields of a cache address (R226, R227). -/
def State.dramAddr (s : State) (a : Nat) : DAddr :=
  let chw := s.chWidth
  let rkw := s.rkWidth
  let row := bitsOf a (19 + chw + rkw) s.rowWidth
  let at_ (lo : Nat) := bitsOf a lo 1
  let bg := 14 + chw
  let ba := bg + 3
  let rk := ba + 2
  let p (f : Fld) := rowParity row (s.get f)
  { ch := (if 0 < chw then xbit (at_ 12) (p Reg.DMC_HASH_CH0_MASK) else 0) +
          (if 1 < chw then 2 * xbit (at_ 13) (p Reg.DMC_HASH_CH1_MASK) else 0),
    sc := at_ 8,
    rk := if 0 < rkw then xbit (at_ rk) (p Reg.DMC_HASH_RK_MASK) else 0,
    bg := xbit (at_ bg) (p Reg.DMC_HASH_BG0_MASK) + 2 * xbit (at_ (bg + 1)) (p Reg.DMC_HASH_BG1_MASK) +
          4 * xbit (at_ (bg + 2)) (p Reg.DMC_HASH_BG2_MASK),
    ba := xbit (at_ ba) (p Reg.DMC_HASH_BA0_MASK) + 2 * xbit (at_ (ba + 1)) (p Reg.DMC_HASH_BA1_MASK),
    row := row,
    col := bitsOf a 6 2 + 4 * bitsOf a 9 3 + 32 * bitsOf a (12 + chw) 2 }

/-- The channel that a granule lies in: the first 12 address bits lie below the channel field (R226). -/
def State.granChannel (s : State) (g : Nat) : Nat := (s.dramAddr (g * 4096)).ch

/-- A channel is frozen (R271). -/
def State.chFrozen (s : State) (ch : Nat) : Bool := bitOf (s.get Reg.DMC_FRZ_STATUS_FROZEN) ch

/-- A granule lies in a frozen channel. -/
def State.granFrozen (s : State) (g : Nat) : Bool := s.chFrozen (s.granChannel g)

/-- A granule lies in a frozen channel that the peer's copy covers (R274). -/
def State.granCovered (s : State) (g : Nat) : Bool := s.granFrozen g && s.dmc.covered.contains (s.granChannel g)

/-- A granule lies in a frozen channel that nothing covers (R275). -/
def State.granUncovered (s : State) (g : Nat) : Bool := s.granFrozen g && !s.dmc.covered.contains (s.granChannel g)

/-- The number of a bank: channel, subchannel, rank, group, bank. -/
def DAddr.bankKey (d : DAddr) : Nat := (((d.ch * 2 + d.sc) * 2 + d.rk) * 8 + d.bg) * 4 + d.ba

/-- The number of a subchannel. -/
def DAddr.subKey (d : DAddr) : Nat := d.ch * 2 + d.sc

end Sys2Proof.Machine
end

