-- ==== Sys2Proof/Machine/EchoBase.lean ====
section
/-! DEFINITION. Sending on the Echo link and the owner's bookkeeping (R287–R295, R305): frames, the stream of mirror
writes, the resync map. -/

namespace Sys2Proof.Machine

/-- Frame type codes of R288. -/
def fMwr : Nat := 0x01
def fEpoch : Nat := 0x02
def fMack : Nat := 0x03
def fAllow : Nat := 0x04
def fState : Nat := 0x05
def fFrd : Nat := 0x06
def fFdata : Nat := 0x07
def fGreq : Nat := 0x08
def fGdata : Nat := 0x09
def fGver : Nat := 0x0A
def fRsync : Nat := 0x0B
def fVinfo : Nat := 0x0C
def fVtab : Nat := 0x0D
def fLctl : Nat := 0x0E
def fHello : Nat := 0x10
def fProof : Nat := 0x11

/-- Echo states of R317. -/
def eDown : Nat := 0
def ePairing : Nat := 1
def eSync : Nat := 2
def eInService : Nat := 3
def eLapsed : Nat := 4
def eHeld : Nat := 5
def eRefused : Nat := 6
def eDetached : Nat := 7

/-- The peer is in service (R299). -/
def State.peerInService (s : State) : Bool := s.pair && s.echoState == eInService

/-- Mirror writes are streamed: SYNC or IN_SERVICE (R299, R306). -/
def State.streaming (s : State) : Bool := s.pair && (s.echoState == eSync || s.echoState == eInService)

/-- A session carries frames: pairing is complete (R299). -/
def State.sessionUp (s : State) : Bool :=
  s.domOn .echo && (s.echoState == eSync || s.echoState == eInService || s.echoState == eLapsed)

/-- The length of a frame in bytes (R287). -/
def frameLen (payload : List Byte) : Nat := 16 + payload.length + 8

/-- The 64-byte credit units of a frame (R294). -/
def frameUnits (payload : List Byte) : Nat := ceilDiv (frameLen payload) 64

/-- Bytes held in the replay buffer (R294). -/
def Echo.replayBytes (e : Echo) : Nat := (e.replay.map (fun f => frameLen f.payload)).foldl (· + ·) 0

/-- Place a frame in the transmit stream: it takes the next link sequence and stays in the replay buffer until an ACK
covers it (R293). -/
def State.frame (s : State) (ty flags arg : Nat) (payload : List Byte) : State :=
  if s.domOn .echo then
    let e := s.ech
    let f : SentFrame := ⟨e.sendSeq, ty, flags, arg, payload⟩
    let s1 := { s with ech := { e with sendSeq := e.sendSeq + 1, unitsSent := e.unitsSent + frameUnits payload,
                                        replay := e.replay ++ [f] } }
    s1.send (.frame ty [flags, e.sendSeq % 2 ^ 32, arg] payload)
  else s

/-- Send an LCTL frame: it carries its own control counter (R293). -/
def State.lctl (s : State) (nak : Bool) : State :=
  let e := s.ech
  let arg := (if nak then e.expSeq else e.expSeq - 1) % 2 ^ 32 + (e.freed % 2 ^ 32) * 2 ^ 32
  let s1 := { s with ech := { e with ctlSent := e.ctlSent + 1, ackDue := false } }
  let s2 := s1.send (.frame fLctl [b2n nak, (e.ctlSent + 1) % 2 ^ 32, arg] [])
  if nak then s2.incSat Reg.ECH_CNT_NAK_COUNT 1 else s2

/-- Mark a zone for resync (R305). -/
def State.markZone (s : State) (z : Nat) : State :=
  { s with ech := { s.ech with zones := mset s.ech.zones z 1 } }

/-- Mark every zone (R305, R307). -/
def State.markAllZones (s : State) : State := { s with ech := { s.ech with zones := [], allFrom := some 0 } }

/-- Clear a zone's mark (R306 step 2). -/
def State.unmarkZone (s : State) (z : Nat) : State :=
  let e := s.ech
  { s with ech := { e with
      zones := mdel e.zones z,
      allFrom := match e.allFrom with
        | some n => if n ≤ z then (if z + 1 < s.ownZones then some (z + 1) else none) else some n
        | none => none } }

/-- No replay space for some frames, or no send credit (R294). -/
def Echo.noRoom (e : Echo) (bytes units : Nat) : Bool :=
  decide (512 * 1024 < e.replayBytes + bytes) || decide (16384 + e.peerFreed < e.unitsSent + units)

/-- Why a write must wait for Echo (R79, R295): no allowance, no replay space, no send credit, its in-flight ring entry
occupied. -/
def State.echoWaits (s : State) (len : Nat) : Bool :=
  s.streaming && (decide (s.peerIn = 0) || s.ech.noRoom (16 + len + 8) (ceilDiv (16 + len + 8) 64) ||
    s.ech.unacked.any (fun w => w.seq % 65536 == s.pmr.nextSeq % 65536))

/-- First- and last-word byte enables of a write (R288): the last word's are 0 in a write of one word. -/
def beFlags (be : List Bool) : Nat :=
  let first := (be.take 4).zipIdx.foldl (fun n e => n + b2n e.1 * 2 ^ e.2) 0
  let last := if be.length ≤ 4 then 0 else (be.drop (be.length - 4)).zipIdx.foldl (fun n e => n + b2n e.1 * 2 ^ e.2) 0
  first + last * 16

/-- Hand an accepted write to the Echo path (R289): an MWR while the peer is in SYNC or IN_SERVICE, else the zone is
marked (R305). -/
def State.echoWrite (s : State) (addr : Nat) (data : List Byte) (be : List Bool) (seq : Nat) : State :=
  if !s.pair then s
  else if s.streaming then
    let s1 := { s with ech := { s.ech with mwrSent := s.ech.mwrSent + 1,
                                            unacked := s.ech.unacked ++ [SentWrite.mk seq (addr / 2 ^ 20)] } }
    (s1.frame fMwr (beFlags be) (addr + (seq % 2 ^ 24) * 2 ^ 40) data).put Reg.ECH_SEQ_SENT_SEQ seq
  else s.markZone (addr / 2 ^ 20)

/-- Place an EPOCH frame at the instant the epoch increments (R289). -/
def State.echoEpoch (s : State) (seq epoch : Nat) : State :=
  if s.streaming then
    let h := (s.ech.epochHist ++ [(seq, epoch)])
    ({ s with ech := { s.ech with epochHist := h.drop (h.length - 64) } } : State).frame fEpoch 0 epoch []
  else s

/-- The state word of R292. -/
def State.echoStateWord (s : State) : Nat :=
  let st := s.get Reg.PWR_STATUS_STATE
  let target := s.get Reg.PWR_STATUS_TARGET
  let power := if st = pwrEntering then (if target = pwrDeep then 3 else 2)
    else if s.seqState = seqDown ∨ s.seqState = seqVault then 4 else Nat.min st 2
  let pm := match s.pmr.st with
    | .closed => 0 | .restoring => 1 | .opened => 2 | .readOnly => 3
  let trip := match s.vlt.cur with
    | some v => v.tripped
    | none => false
  power + pm * 2 ^ 3 + b2n trip * 2 ^ 5 + b2n s.deficit * 2 ^ 6 + b2n s.ech.detaching * 2 ^ 7 +
    s.get Reg.DMC_FRZ_STATUS_FROZEN * 2 ^ 8 + b2n (s.flag Reg.SYS_STATUS_SAFE) * 2 ^ 12 + b2n s.ech.goingDown * 2 ^ 13

/-- Send a STATE frame (R292). -/
def State.echoStateSend (s : State) : State :=
  if s.sessionUp then
    let w := s.echoStateWord
    ({ s with ech := { s.ech with lastState := w } } : State).frame fState 0 w []
  else s

/-- Send a STATE frame when its content changed (R292). -/
def State.echoStateSync (s : State) : State :=
  if s.sessionUp && s.echoStateWord != s.ech.lastState then s.echoStateSend else s

/-- Announce GOING_DOWN before an orderly off, a reset that this member starts, or a watchdog reset (R292). -/
def State.announceDown (s : State) : State :=
  let s1 := ({ s with ech := { s.ech with goingDown := true } } : State).echoStateSync
  { s1 with ech := { s1.ech with goingDown := false } }

end Sys2Proof.Machine
end

