-- ==== Sys2Proof/Machine/PmrBase.lean ====
section
/-! DEFINITION. The conditions and the states of the PMR (R60–R65). -/

namespace Sys2Proof.Machine

/-- Conditions that make the PMR not writable (R60). -/
def blockingConds : List Nat := [0x20, 0x11, 0x10, 0x12]

/-- A condition that makes the PMR not writable is present. -/
def State.blocked (s : State) : Bool := blockingConds.any (fun c => s.pmr.conds.contains c)

/-- Bring HSTS up to date: its change raises the events of R61. -/
def State.syncHsts (s : State) : State :=
  let h := hstsOf s.pmr.conds
  if h = s.pmr.hsts then s
  else
    let s1 := { s with pmr := { s.pmr with hsts := h } }
    let note (t : State) (p : Port) : State :=
      if (t.port p).pmrEn && bitOf (mgetD (t.nvme p).feats 0x0B 0) 5 then t.asyncOn p 1 0 0x02 else t
    ((note (note s1 .a) .b).evHost 0x1001 (if h = 3 then 6 else 5) h).syncWarn

/-- Change the PMR's state; each change is recorded (R65). -/
def State.setPmr (s : State) (st : PmrState) : State :=
  if s.pmr.st = st then s
  else
    let n := match st with
      | .closed => 0 | .restoring => 1 | .opened => 2 | .readOnly => 3
    (({ s with pmr := { s.pmr with st := st } } : State).evHost 0x0001 2 n).echoStateSync

/-- Add a condition of R60: entry makes the PMR read-only where its row says so, and waiting writes then fail R34. -/
def State.setCond (s : State) (c : Nat) : State :=
  if s.pmr.conds.contains c then s
  else
    let s1 := (({ s with pmr := { s.pmr with conds := s.pmr.conds ++ [c] } } : State).syncHsts).asyncVendor 0xC0
    if blockingConds.contains c && (s1.pmr.st == .opened || s1.pmr.st == .restoring) then s1.setPmr .readOnly else s1

/-- READ_ONLY ends (R65): ingest is open, against the next horizon where it was not (R34, R116). -/
def State.leaveReadOnly (s : State) : State :=
  ({ s with pmr := { s.pmr with ingestOpen := true } } : State).setPmr (if s.pmr.copyDone then .opened else .restoring)

/-- Remove a condition of R60: READ_ONLY ends with the last one that blocks writes (R65). -/
def State.clearCond (s : State) (c : Nat) : State :=
  if s.pmr.conds.contains c then
    let s1 := (({ s with pmr := { s.pmr with conds := s.pmr.conds.filter (fun x => x != c) } } : State).syncHsts
      ).asyncVendor 0xC0
    if s1.pmr.st = .readOnly ∧ !s1.blocked then s1.leaveReadOnly else s1
  else s

end Sys2Proof.Machine
end

