-- ==== Sys2Proof/Machine/SymbolCode.lean ====
section
/-! DEFINITION. The symbol code of the DRAM (R254–R257): GF(16), a beat's encoding and decoding, the outcome of a burst. -/

namespace Sys2Proof.Machine

/-! The symbol code (R254–R257). -/

/-- Multiply by α in GF(16) generated by x⁴ + x + 1 (R254). -/
def gfDouble (a : Nat) : Nat := if 8 ≤ a then Nat.xor (a * 2 % 16) 3 else a * 2

/-- α to the power `n` (R254). -/
def gfExp : Nat → Nat
  | 0 => 1
  | n + 1 => gfDouble (gfExp n)

/-- The power of α that a non-zero symbol is: the first `i` below 15 with αⁱ = a (R254). -/
def gfLog (a : Nat) : Nat := ((List.range 15).find? (fun i => gfExp i == a)).getD 0

/-- The product in GF(16). -/
def gfMul (a b : Nat) : Nat := if a = 0 ∨ b = 0 then 0 else gfExp ((gfLog a + gfLog b) % 15)

/-- Symbol `i` of a 40-bit beat (R254). -/
def symbolAt (beat i : Nat) : Nat := bitsOf beat (4 * i) 4

/-- S0 and S1 of a beat (R255). -/
def syndromes (beat : Nat) : Nat × Nat :=
  (List.range 10).foldl (fun s i => (Nat.xor s.1 (symbolAt beat i), Nat.xor s.2 (gfMul (symbolAt beat i) (gfExp i)))) (0, 0)

/-- The check symbols of eight data symbols, as the 40-bit beat (R255). -/
def encodeBeat (d : Nat) : Nat :=
  let data := d % 2 ^ 32
  let s := (List.range 8).foldl (fun s i => (Nat.xor s.1 (symbolAt data i), Nat.xor s.2 (gfMul (symbolAt data i) (gfExp i)))) (0, 0)
  let c8 := gfMul (Nat.xor s.2 (gfMul (gfExp 9) s.1)) (gfExp 3)
  data + c8 * 2 ^ 32 + Nat.xor s.1 c8 * 2 ^ 36

/-- What decoding a beat finds (R255). -/
inductive BeatOut where
  | clean | corrected (p : Nat) (e : Nat) | uncorrectable
deriving DecidableEq, Repr

/-- Decode a beat (R255). -/
def decodeBeat (beat : Nat) : BeatOut :=
  let s := syndromes beat
  if s.1 = 0 ∧ s.2 = 0 then .clean
  else if s.1 ≠ 0 ∧ s.2 ≠ 0 ∧ (gfLog s.2 + 15 - gfLog s.1) % 15 ≤ 9 then
    .corrected ((gfLog s.2 + 15 - gfLog s.1) % 15) s.1
  else .uncorrectable

/-- What decoding a burst finds (R256). -/
inductive BurstOut where
  | clean | corrected (p : Nat) | uncorrectable (multi : Bool)
deriving DecidableEq, Repr

/-- The positions that beats decoded to. -/
def beatPositions (l : List BeatOut) : List Nat :=
  l.foldl (fun ps b => match b with
    | .corrected p _ => if ps.contains p then ps else ps ++ [p]
    | _ => ps) []

/-- Decode a burst from its 16 beats (R256). The code is linear, so the error pattern decodes as the beats do. -/
def decodeBurst (e : BurstErr) : BurstOut :=
  let outs := e.map decodeBeat
  if outs.any (fun b => b == .uncorrectable) then .uncorrectable false
  else
    match beatPositions outs with
    | [] => .clean
    | [p] => .corrected p
    | _ => .uncorrectable true

/-- What remains of an error pattern after its correction: not all zero where the position was wrong (R257). -/
def residue (e : BurstErr) : Bool :=
  e.any (fun b => match decodeBeat b with
    | .corrected p s => Nat.xor b (s * 2 ^ (4 * p)) != 0
    | .clean => b != 0
    | .uncorrectable => false)

/-- Beat-wise difference of two patterns of 16 beats. -/
def xorBurst (a b : BurstErr) : BurstErr := (List.range 16).map (fun i => Nat.xor (a.getD i 0) (b.getD i 0))

/-- No beat differs. -/
def burstZero (e : BurstErr) : Bool := e.all (fun b => b == 0)

/-- Mask of the beats whose syndrome is not zero (R272). -/
def beatMask (e : BurstErr) : Nat :=
  ((e.map syndromes).zipIdx.map (fun x => b2n (x.1 != (0, 0)) * 2 ^ x.2)).foldl (· + ·) 0

/-- The syndrome byte of a beat: S1 in [7:4], S0 in [3:0] (R282). -/
def synByte (beat : Nat) : Nat := (syndromes beat).2 * 16 + (syndromes beat).1

end Sys2Proof.Machine
end

