-- ==== Sys2Proof/Machine/DramData.lean ====
section
/-! DEFINITION. The DRAM's data path (R233, R234, R254–R260, R270–R276): what a read finds through the symbol code, what a write
leaves, corrections and device health, the freeze of a channel. -/

namespace Sys2Proof.Machine

/-- Store an error pattern for a burst; a zero pattern is not listed. -/
def State.setErr (s : State) (burst : Nat) (e : BurstErr) : State :=
  { s with dmc := { s.dmc with errs := if burstZero e then mdel s.dmc.errs burst else mset s.dmc.errs burst e } }

/-- A granule has a burst whose stored error is uncorrectable (R270). -/
def State.granBad (s : State) (g : Nat) : Bool :=
  s.dmc.errs.any (fun e => e.1 / 64 == g && (match decodeBurst e.2 with
    | .uncorrectable _ => true
    | _ => false))

/-! Corrections and device health (R259, R260). -/

/-- The number of a position (R501). -/
def DAddr.posKey (d : DAddr) (p : Nat) : Nat := ((d.ch * 2 + d.sc) * 2 + d.rk) * 10 + p

/-- One correction at a position (R260): at the limit the position becomes degraded. -/
def State.countPosition (s : State) (key : Nat) : State :=
  let p := mgetD s.dmc.pos key Position.init
  let b := Nat.min 255 (p.bucket + 1)
  let lim := s.get Reg.DMC_POS_CFG_LIMIT
  let hit := !p.degraded && decide (lim ≤ b) && lim != 0
  let p' : Position := { bucket := b, total := satAdd 65535 p.total 1, degraded := p.degraded || hit }
  let s1 := { s with dmc := { s.dmc with pos := mset s.dmc.pos key p' } }
  if hit then
    let other := s1.dmc.pos.any (fun e => e.1 != key && e.1 / 10 == key / 10 && e.2.degraded)
    (((s1.ev .dmc 0x1001 (if other then 6 else 5) key).raise Reg.DMC_ECC_STATUS_POS_EV Reg.DMC_ECC_CTRL_INT_EN 56
      ).syncWarn).asyncVendor 0xC4
  else s1

/-- Queue a burst for rewriting (R259). -/
def State.queueRewrite (s : State) (burst : Nat) : State :=
  if s.dmc.rewrites.contains burst then s
  else if s.dmc.rewrites.length < 64 then { s with dmc := { s.dmc with rewrites := s.dmc.rewrites ++ [burst] } }
  else s.put Reg.DMC_ECC_STATUS_REWRITE_DROP 1

/-! The freeze (R271–R275). -/

/-- Latch the capture registers (R272, R282). -/
def State.capture (s : State) (port : DPort) (burst : Nat) (merge multi : Bool) (e : BurstErr) : State :=
  let s1 := (s.put Reg.DMC_FRZ_INFO_BEATS (beatMask e)).putB Reg.DMC_FRZ_INFO_MULTI_POS multi
  let s2 := (s1.putB Reg.DMC_FRZ_INFO_BEAT_UE (!multi)).putB Reg.DMC_FRZ_INFO_MERGE merge
  let s3 := (s2.put Reg.DMC_FRZ_INFO_PORT port.idx).put Reg.DMC_FRZ_ADDR_ADDR (burst * 64)
  let syn (t : State) (n : Nat) : State := t.put (Reg.DMC_FRZ_SYNn_SYN n)
    (leNat ((List.range 4).map (fun i => BitVec.ofNat 8 (synByte (e.getD (4 * n + i) 0)))))
  ((List.range 4).foldl syn s3).put Reg.DMC_FRZ_STATUS_CAPTURED 1

/-- The bursts of a granule's address. -/
def burstGran (burst : Nat) : Nat := burst / 64

/-- Salvage begins on the channels that are frozen and not covered (R275): condition 0x20, the loss count, SALVAGE. -/
def State.uncovered (s : State) : State :=
  if s.get Reg.DMC_FRZ_STATUS_FROZEN = 0 then s
  else
    let s1 := { s with dmc := { s.dmc with covered := [] } }
    let s2 := (s1.put Reg.DMC_FRZ_STATUS_COVERED 0).put Reg.DMC_FRZ_LOSS_GRANULES s1.dmc.lossList.length
    let todo := (mfilter (fun g v => v.dirty && s2.granFrozen g) s2.cache.grans).length
    (s2.putB Reg.DMC_FRZ_STATUS_SALVAGE (todo != 0)).setCond 0x20

/-- The registers of a capture (R272, R282), which the event of a freeze carries. -/
def captureOffs : List Nat := [0x190138, 0x19013C, 0x190140, 0x190144, 0x190148, 0x19014C, 0x190150, 0x190154]

/-- A channel freezes (R269, R271–R275): withdrawal of its requests, covered or uncovered service. `snap` is the event's
snapshot. A write that waits for its sequence is discarded at its turn where the PMR is no longer writable (R34, R63). -/
def State.freezeChan (s : State) (ch : Nat) (snap : List Nat × Bool) : State :=
  if s.chFrozen ch then s
  else
    let s2 := s.put Reg.DMC_FRZ_STATUS_FROZEN (s.get Reg.DMC_FRZ_STATUS_FROZEN + 2 ^ ch)
    let gone := (s2.dmc.pool ++ s2.dmc.waiting).filter (fun r => r.dst.ch == ch)
    let lost := (gone.filter (fun r => r.port == .host && r.kind != .read && decide (burstGran r.burst < s2.ownGrans))).map
      (fun r => burstGran r.burst)
    let s3 : State := { s2 with dmc := Dram.freezeNote { s2.dmc with
      pool := s2.dmc.pool.filter (fun r => r.dst.ch != ch), waiting := s2.dmc.waiting.filter (fun r => r.dst.ch != ch),
      rewrites := s2.dmc.rewrites.filter (fun b => (s2.dramAddr (b * 64)).ch != ch),
      lossList := s2.dmc.lossList ++ lost.filter (fun g => !s2.dmc.lossList.contains g) } (s2.dmc.freezeFound ++ [ch]) }
    let s4 := s3.raise Reg.DMC_FRZ_STATUS_FREEZE_EV Reg.DMC_ECC_CTRL_INT_EN 56
    let s5 := s4.eventWith Block.dmc.source 0x2001 6 ch snap
    if s5.peerInService then
      ({ s5 with dmc := { s5.dmc with covered := s5.dmc.covered ++ [ch] } } : State).put Reg.DMC_FRZ_STATUS_COVERED 1
    else s5.uncovered

/-- An uncorrectable burst freezes its channel (R271, R272): the capture is latched unless an earlier one stands; the event
carries this burst's own. -/
def State.freeze (s : State) (port : DPort) (burst : Nat) (merge multi : Bool) (e : BurstErr) : State :=
  let ch := (s.dramAddr (burst * 64)).ch
  if s.chFrozen ch then s
  else
    let own := s.capture port burst merge multi e
    (if s.flag Reg.DMC_FRZ_STATUS_CAPTURED then s else own).freezeChan ch
      ((own.put Reg.DMC_FRZ_STATUS_FROZEN (s.get Reg.DMC_FRZ_STATUS_FROZEN + 2 ^ ch)).snapOf captureOffs)

/-- An uncorrectable burst (R270, R271): counted; outside a vault it freezes its channel. -/
def State.uncorrectable (s : State) (port : DPort) (burst : Nat) (merge multi : Bool) (e : BurstErr) : State :=
  let s1 := (s.incSat Reg.DMC_UE_CNT_TOTAL 1).raise Reg.DMC_ECC_STATUS_UE_EV Reg.DMC_ECC_CTRL_INT_EN 56
  if s1.vaulting && port == .rt then s1 else s1.freeze port burst merge multi e

/-- Data that a wrong correction leaves is undefined (R257): the burst's 64 bytes take free values. -/
def State.scramble (s : State) (burst : Nat) : State :=
  let f := s.fresh 512
  { f.2 with cache := { f.2.cache with cells := storeBytes f.2.cache.cells (burst * 64) (natLe f.1 64) } }

/-- A read burst decoded through the symbol code (R255–R259). The answer is whether its data may be used; what a wrong correction
delivers is undefined (R257). -/
def State.decodeRead (s : State) (port : DPort) (burst : Nat) (e : BurstErr) (merge : Bool) : State × Bool :=
  match decodeBurst e with
  | .clean => (if residue e then s.scramble burst else s, true)
  | .corrected p =>
    let s1 := (s.incSat Reg.DMC_CE_CNT_COUNT 1).countPosition ((s.dramAddr (burst * 64)).posKey p)
    let s2 := if residue e then s1.scramble burst else s1
    (if merge then s2 else s2.queueRewrite burst, true)
  | .uncorrectable multi => (s.uncorrectable port burst merge multi e, false)

/-- A burst written to the devices (R258, R278): whole code words, with the injected error if one is armed. -/
def State.writeBurst (s : State) (burst : Nat) : State :=
  let m := s.get Reg.DMC_ECC_CTRL_INJ_MODE
  if m = 1 ∨ m = 2 then
    let p := s.get Reg.DMC_ECC_CTRL_INJ_POS
    let e := (List.range 16).map (fun i =>
      if i = 0 then 2 ^ (4 * p) else if i = 1 ∧ m = 2 then 2 ^ (4 * ((p + 1) % 10)) else 0)
    (s.setErr burst e).put Reg.DMC_ECC_CTRL_INJ_MODE 0
  else s.setErr burst (List.replicate 16 0)

/-! Accesses of the block's own agents. Their bursts pass the symbol code within the command that makes the access; the
requests that DRAM_REQUEST submits pass it in their command slots. -/

/-- The stored errors of the bursts in a byte range. -/
def State.errsIn (s : State) (addr len : Nat) : NMap BurstErr :=
  mfilter (fun b _ => decide (addr / 64 ≤ b) && decide (b * 64 < addr + len)) s.dmc.errs

/-- A port reads a byte range (R255–R259, R271). The answer is whether the data may be used. -/
def State.readData (s : State) (port : DPort) (addr len : Nat) : State × Bool :=
  (s.errsIn addr len).foldl (fun a e => if a.2 then a.1.decodeRead port e.1 e.2 false else a) (s, true)

/-- A port reads a granule. -/
def State.readGranule (s : State) (port : DPort) (g : Nat) : State × Bool := s.readData port (g * 4096) 4096

/-- One burst is written (R234, R258): whole, or as a read, a merge and a write. The answer is whether it was written. -/
def State.storeBurst (s : State) (port : DPort) (burst : Nat) (full : Bool) : State × Bool :=
  if full then (s.writeBurst burst, true)
  else
    let d := s.decodeRead port burst (mgetD s.dmc.errs burst (List.replicate 16 0)) true
    (if d.2 then d.1.writeBurst burst else d.1, d.2)

/-- The bursts that a write under byte enables touches, with whether it covers the burst whole (R234). -/
def enabledBursts (addr : Nat) (be : List Bool) : List (Nat × Bool) :=
  let on (b : Nat) : List Bool := (be.drop (b * 64 - addr)).take (Nat.min 64 (b * 64 + 64 - addr))
  ((List.range ((addr + be.length + 63) / 64 - addr / 64)).map (fun i => addr / 64 + i)).filterMap (fun b =>
    if (on b).any id then some (b, decide (addr ≤ b * 64) && (on b).length == 64 && (on b).all id) else none)

/-- No burst of the DRAM holds an error and none is armed: every access finds clean code words. -/
def State.dramClean (s : State) : Bool := s.dmc.errs.isEmpty && s.get Reg.DMC_ECC_CTRL_INJ_MODE == 0

/-- A port writes bytes under byte enables within a granule (R234, R258, R271). Where a burst cannot be merged, the channel
is frozen and nothing of the write is stored. The answer is whether it was stored. -/
def State.storeData (s : State) (port : DPort) (addr : Nat) (data : List Byte) (be : List Bool) : State × Bool :=
  let r := if s.dramClean then (s, true)
    else (enabledBursts addr be).foldl (fun a b => if a.2 then a.1.storeBurst port b.1 b.2 else a) (s, true)
  if r.2 then ({ r.1 with cache := { r.1.cache with cells := storeEnabled r.1.cache.cells addr data be } }, true) else r

/-- A whole granule is written to the devices (R258): every burst is a full code word. -/
def State.writeGranule (s : State) (g : Nat) : State :=
  if s.dramClean then s else ((List.range 64).map (fun i => g * 64 + i)).foldl State.writeBurst s

/-- A granule's own newest content is lost with its channel (R275): it enters the loss list. -/
def State.loseGran (s : State) (g : Nat) : State :=
  if s.dmc.lossList.contains g || !decide (g < s.ownGrans) then s
  else
    let s1 := { s with dmc := { s.dmc with lossList := s.dmc.lossList ++ [g] } }
    if s1.granCovered g then s1 else s1.put Reg.DMC_FRZ_LOSS_GRANULES s1.dmc.lossList.length

/-! The map reserve (R225, R271). -/

/-- The cache address of a granule's map entry (R225). -/
def State.mapAddr (s : State) (g : Nat) : Nat := s.capBytes - s.capBytes / 1024 + 4 * g

/-- A granule's map entry can be read and written: it does not lie in a frozen channel (R271). -/
def State.mapKnown (s : State) (g : Nat) : Bool :=
  s.get Reg.DMC_FRZ_STATUS_FROZEN == 0 || !s.chFrozen (s.dramAddr (s.mapAddr g)).ch

end Sys2Proof.Machine
end

