-- ==== Sys2Proof/Machine/PmrOps.lean ====
section
/-! DEFINITION. The persistence contract (R33–R67, R73–R75, R128): sequencing and committing writes, reads, barriers, held
writes, poison. -/

namespace Sys2Proof.Machine

/-- Count and report a discarded PMR write (R34). -/
def State.discardWrite (s : State) (p : Port) : State :=
  ({ s with host := { s.host with discarded := s.host.discarded + 1 } } : State).aer p aerUnsupported

/-- A port's waiting items. -/
def State.portQueue (s : State) : Port → List PortItem
  | .a => s.pmr.queueA | .b => s.pmr.queueB

/-- Replace a port's waiting items. -/
def State.setPortQueue (s : State) (p : Port) (q : List PortItem) : State :=
  match p with
  | .a => { s with pmr := { s.pmr with queueA := q } }
  | .b => { s with pmr := { s.pmr with queueB := q } }

/-- Bytes of writes that wait in a queue (R74). -/
def queueBytes (q : List PortItem) : Nat :=
  (q.map (fun i => match i with
    | .write _ data _ => data.length
    | _ => 0)).foldl (· + ·) 0

/-- A port's share of the ingest buffer (R74): 1 MiB per port in dual-port mode, 2 MiB to port A in x8 mode. -/
def State.portShare (s : State) : Nat := if s.x8 then 2 * 2 ^ 20 else 2 ^ 20

/-- THR_A or THR_B (R75). -/
def Port.thr : Port → Fld
  | .a => Reg.UMB_STATUS_THR_A | .b => Reg.UMB_STATUS_THR_B

/-- Bring a port's throttle bit up to date (R75). -/
def State.syncThr (s : State) (p : Port) : State :=
  let n := queueBytes (s.portQueue p)
  if s.flag p.thr then
    if 4 * n < s.portShare then s.put p.thr 0 else s
  else if 3 * s.portShare ≤ 4 * n then
    (s.put p.thr 1).raise Reg.UMB_STATUS_THR_EV Reg.UMB_CTRL_INT_EN 54
  else s

/-- The stripe with a serial. -/
def State.stripeOf (s : State) (serial : Nat) : Option Stripe := s.grt.stripes.find? (fun x => x.serial == serial)

/-- The granule version that a slot of a stripe holds (R145): four slots to a data page. -/
def Stripe.slot (x : Stripe) (pos slot : Nat) : Option GVer :=
  match x.payload with
  | .data slots => (slots.getD (pos * 4 + slot) none)
  | _ => none

/-- The version at a map location: serial, data page, slot (R158). -/
def State.verAt (s : State) (loc : Nat × Nat × Nat) : Option GVer :=
  match s.stripeOf loc.1 with
  | some x => x.slot loc.2.1 loc.2.2
  | none => none

/-- A granule's newest own flash version (R158). -/
def State.verOf (s : State) (g : Nat) : Option GVer :=
  match (s.ent g).loc with
  | some l => s.verAt l
  | none => none

/-- The granule is not in DRAM yet (R125). -/
def MapSt.absent : MapSt → Bool
  | .notCopied | .remote | .fetching => true
  | _ => false

/-- A granule's zone of the cache (R81). -/
def zoneOf (g : Nat) : Nat := g / 256

/-- Set Dirty with the version an accepted write gives (R18, R41), the zone's age (R81) and the stale bit of an in-flight
entry (R18). -/
def State.markDirty (s : State) (g seq epoch : Nat) : State :=
  let c := s.cache
  { s with cache := { c with
      grans := mset c.grans g { (mgetD c.grans g GState.none) with dirty := true, seq := seq, epoch := epoch },
      ages := mset c.ages (zoneOf g) 3,
      inflight := c.inflight.map (fun e => if e.gran = g then { e with stale := true } else e) } }

/-- The sectors of a granule that a write covers in full (R53). -/
def fullSectors (off : Nat) (be : List Bool) : Nat :=
  (List.range 8).foldl (fun m i =>
    if decide (off ≤ i * 512) && decide (i * 512 + 512 ≤ off + be.length) &&
       ((be.drop (i * 512 - off)).take 512).all (fun b => b)
    then m + 2 ^ i else m) 0

/-- The union of two masks of `n` bits. -/
def maskOr : Nat → Nat → Nat → Nat
  | 0, _, _ => 0
  | n + 1, a, b => maskOr n a b + (if bitOf a n || bitOf b n then 2 ^ n else 0)

/-- Poison a granule (R51, R123, R270). -/
def State.poison (s : State) (g mask reason : Nat) : State :=
  let s1 := { s with pmr := { s.pmr with poison := mset s.pmr.poison g ⟨mask, reason⟩ } }
  let s2 := s1.setEnt g { s1.ent g with st := .poisoned }
  if reason = 3 then
    { s2 with host := { s2.host with smart := { s2.host.smart with mediaErrs := s2.host.smart.mediaErrs + 1 } } }
  else s2

/-- The poison of a granule ends when all eight sectors are written (R53); the last one ends 0x02 and 0x03 (R60). -/
def State.unpoison (s : State) (g : Nat) : State :=
  let s1 := { s with pmr := { s.pmr with poison := mdel s.pmr.poison g } }
  let s2 := (s1.setEnt g { s1.ent g with st := .copied }).asyncVendor 0xC0
  if s2.pmr.poison.any (fun e => decide (e.1 < s2.ownGrans)) then s2 else (s2.clearCond 0x02).clearCond 0x03

/-- Apply a write's bytes to a granule's DRAM content (R234): a poisoned granule notes the sectors written in full (R53). A
write that cannot be merged is lost with the channel that it froze (R258, R275). -/
def State.applyWrite (s : State) (g off : Nat) (data : List Byte) (be : List Bool) : State :=
  let r := s.storeData (if g < s.ownGrans then .host else .echo) (g * 4096 + off) data be
  if !r.2 then r.1.loseGran g
  else
    match mget r.1.pmr.poison g with
    | some p =>
      let m := maskOr 8 p.mask (fullSectors off be)
      if m = 255 then r.1.unpoison g
      else { r.1 with pmr := { r.1.pmr with poison := mset r.1.pmr.poison g { p with mask := m } } }
    | none => if (r.1.ent g).st = .noVersion then r.1.setEnt g { r.1.ent g with st := .copied } else r.1

/-- Start a fetch (R125, R127): from the peer for a REMOTE granule, with a GREQ of purpose 1 on demand and 0 for the
background copy (R312). -/
def State.startFetch (s : State) (g : Nat) (demand : Bool) : State :=
  let e := s.ent g
  if e.st = .notCopied then
    let s1 := s.setEnt g { e with st := .fetching, fromPeer := false, demand := demand }
    if demand then s1.incSat Reg.VLT_DEMAND_CNT_COUNT 1 else s1
  else if e.st = .remote ∧ s.sessionUp ∧ s.ech.greqs.length < 256 then
    let s1 := s.setEnt g { e with st := .fetching, fromPeer := true, demand := demand }
    let tag := s1.ech.nextTag
    let s2 := { s1 with ech := { s1.ech with nextTag := (tag + 1) % 2 ^ 32,
                                              greqs := s1.ech.greqs ++ [GReq.mk tag g (b2n demand) []] } }
    let s3 := s2.frame fGreq (b2n demand) (s.granIndex g + tag * 2 ^ 32) []
    if demand then s3.incSat Reg.VLT_DEMAND_CNT_COUNT 1 else s3
  else s

/-- R73: the new dirty bytes of a write. -/
def State.newDirty (s : State) (g : Nat) : Nat := if (s.gran g).dirty then 0 else 4096

/-- R79: the headroom reserved for the allowance held out to the peer. -/
def State.grantReserved (s : State) : Nat := s.get Reg.UMB_PEER_OUT_GRANULES * 4096

/-- R73: the horizon admits the write. Before the first publication nothing is admitted (R20). -/
def State.admits (s : State) (g : Nat) : Bool :=
  s.pmr.firstHorizon &&
    decide (s.dirtyBytes + s.newDirty g + s.grantReserved ≤ s.get Reg.UMB_HORIZON_BYTES)

/-- The head write of a port waits on the horizon, or for the allowance that counts as such a wait (R73, R79). -/
def State.portThrottled (s : State) (p : Port) : Bool :=
  match s.portQueue p with
  | .write addr _ _ :: _ => !s.admits (addr / 4096) || (s.streaming && decide (s.peerIn = 0))
  | _ => false

/-- Note that a write waits on the horizon in this millisecond (R76). -/
def State.noteWait (s : State) : State :=
  if s.portThrottled .a || s.portThrottled .b then { s with umb := { s.umb with waited := true } } else s

/-- R34 without the horizon: why a received write is discarded at sequencing. -/
def State.writable (s : State) (p : Port) (addr len : Nat) : Bool :=
  decide (addr + len ≤ s.pmrBytes) && (s.port p).pmrEn && (s.pmr.st == .opened || s.pmr.st == .restoring) &&
    s.pmr.ingestOpen

/-- A write to this granule needs a merge-queue entry that is not there (R128). -/
def State.mergeFull (s : State) (g : Nat) : Bool :=
  (s.ent g).st.absent && (mget s.pmr.merge g).isNone && decide (256 ≤ s.pmr.merge.length)

/-- A resync read of the granule is outstanding, so no write to it is sequenced (R306 step 3). The model's resync reads
end in the same command, so none is outstanding between commands. -/
def State.sequencable (s : State) (addr len : Nat) : Bool :=
  s.admits (addr / 4096) && !s.echoWaits len && !s.mergeFull (addr / 4096)

/-- Commit a sequenced or mirrored write (R18, R128, R274): held while its granule is not in DRAM, else applied; Dirty is
set in either case. -/
def State.commitWrite (s : State) (g off : Nat) (data : List Byte) (be : List Bool) (seq epoch : Nat) : State :=
  let s2 :=
    if (s.ent g).st.absent then
      let h : HeldWrite := ⟨seq, epoch, off, data, be⟩
      let m := mset s.pmr.merge g (mgetD s.pmr.merge g [] ++ [h])
      let t := { s with pmr := { s.pmr with merge := m } }
      let t1 := if m.length = 256 ∧ s.pmr.merge.length = 255 then t.incSat Reg.VLT_MERGE_FULL_CNT 1 else t
      t1.startFetch g true
    else s.applyWrite g off data be
  s2.markDirty g seq epoch

/-- Accept a write (R38, R40, R274): it takes the next sequence, is committed and handed to the Echo path. A write to a
covered frozen granule is mirrored and not stored; its Dirty bit is set. -/
def State.acceptWrite (s : State) (addr : Nat) (data : List Byte) (be : List Bool) : State :=
  let g := addr / 4096
  let seq := s.pmr.nextSeq
  let epoch := s.pmr.epoch
  let s1 := { s with pmr := { s.pmr with nextSeq := seq + 1 } }
  let s2 :=
    if s1.granFrozen g then (s1.loseGran g).markDirty g seq epoch
    else s1.commitWrite g (addr % 4096) data be seq epoch
  s2.echoWrite addr data be seq

/-- Complete a read as a read of a poisoned granule: EP set, reported (R53, R64). -/
def State.answerPoison (s : State) (p : Port) (len : Nat) : State :=
  (s.send (.cpl p .success true (List.replicate len 0xFF))).aer p aerPoisoned

/-- Refuse a read: Unsupported Request, reported through AER (R34). -/
def State.refuseRead (s : State) (p : Port) : State := (s.send (.cpl p .unsupported false [])).aer p aerUnsupported

/-- Forward a read of a covered frozen granule to the peer (R304); it waits when 256 are outstanding. -/
def State.forwardRead (s : State) (p : Port) (addr len : Nat) : State :=
  if s.ech.fwds.length < 256 then
    let tag := s.ech.nextTag % 256
    let s1 := { s with ech := { s.ech with nextTag := (s.ech.nextTag + 1) % 2 ^ 32,
                                            fwds := s.ech.fwds ++ [Fwd.mk tag p addr len []] } }
    (s1.frame fFrd 0 (addr + tag * 2 ^ 40 + len * 2 ^ 48) (natLe (s.pmr.nextSeq - 1) 8)).incSat Reg.ECH_CNT_FWD_COUNT 1
  else { s with ech := { s.ech with fwdWait := s.ech.fwdWait ++ [(p, addr, len)] } }

/-- A read of a granule in a frozen channel (R64, R274, R304): forwarded for an own granule that the peer covers, else answered as
poisoned. -/
def State.answerFrozen (s : State) (p : Port) (addr len : Nat) : State :=
  if decide (addr / 4096 < s.ownGrans) && s.granCovered (addr / 4096) then s.forwardRead p addr len else s.answerPoison p len

/-- Complete a read of a granule that stands in DRAM (R36, R53): its content through the symbol code (R256), or poison; an
uncorrectable burst freezes the channel, and the read is handled as the frozen channel's reads are (R271). -/
def State.answerRead (s : State) (p : Port) (addr len : Nat) : State :=
  if (s.ent (addr / 4096)).st = .poisoned then s.answerPoison p len
  else
    let d := s.readData .host addr len
    if d.2 then d.1.send (.cpl p .success false (loadBytes d.1.cache.cells addr len)) else d.1.answerFrozen p addr len

/-- A read of a cache address that its port may make (R55, R64, R125, R274): answered, or kept until its granule is fetched. -/
def State.serveRead (s : State) (p : Port) (addr len : Nat) : State :=
  let g := addr / 4096
  if s.granFrozen g then s.answerFrozen p addr len
  else if (s.ent g).st.absent then
    let s1 := s.startFetch g true
    { s1 with pmr := { s1.pmr with waitReads := s1.pmr.waitReads ++ [WaitRead.mk p addr len] } }
  else if (s.ent g).st = .noVersion then (s.setEnt g { s.ent g with st := .copied }).answerRead p addr len
  else s.answerRead p addr len

/-- A PMR read at its ordering point (R34, R37). -/
def State.orderRead (s : State) (p : Port) (addr len : Nat) : State :=
  if !(s.port p).pmrEn || s.pmr.st == .closed || decide (s.pmrBytes < addr + len) then s.refuseRead p else s.serveRead p addr len

/-- Note the fabric time that a command brings: it never runs back. -/
def State.atTime (s : State) (ns : Nat) : State := { s with pmr := { s.pmr with now := Nat.max s.pmr.now ns } }

/-- The group that a barrier ordered at `ns` joins: the open one while less than 1 µs has passed since its first (R41). -/
def Pmr.barrierGroup (m : Pmr) (ns : Nat) : Nat × Option (Nat × Nat) × Nat :=
  match m.group with
  | some (g, t0) => if ns - t0 < 1000 ∧ t0 ≤ ns then (g, some (g, t0), m.nextGroup)
                    else (m.nextGroup, some (m.nextGroup, ns), m.nextGroup + 1)
  | none => (m.nextGroup, some (m.nextGroup, ns), m.nextGroup + 1)

/-- A read of PMRSTS at its ordering point (R43): a barrier while EN is 1, a plain register read otherwise. The 1 µs window of
R41 is measured between ordering points: a barrier that waited behind writes is ordered at the time of the command that lets
it go. -/
def State.orderBarrier (s : State) (p : Port) (ns : Nat) : State :=
  if (s.port p).pmrEn then
    let g := s.pmr.barrierGroup (Nat.max s.pmr.now ns)
    let b : Barrier := ⟨p, s.pmr.nextSeq - 1, g.1⟩
    { s with pmr := { s.pmr with barriers := s.pmr.barriers ++ [b], group := g.2.1, nextGroup := g.2.2 } }
  else s.send (.cpl p .success false (natLe (s.pmrsts p false) 4))

/-- Order what stands at the head of a port's queue up to its first write (R20, R37, R46). -/
def State.drainReads (s : State) (p : Port) : List PortItem → State
  | .read addr len :: rest => (s.orderRead p addr len).drainReads p rest
  | .barrier ns :: rest => (s.orderBarrier p ns).drainReads p rest
  | q => s.setPortQueue p q

/-- Discard every waiting write that fails R34 for another reason than the horizon, from the head on, and order the
reads behind it. -/
def State.discardHeads (s : State) (p : Port) : List PortItem → State
  | .read addr len :: rest => (s.orderRead p addr len).discardHeads p rest
  | .barrier ns :: rest => (s.orderBarrier p ns).discardHeads p rest
  | .write addr data be :: rest =>
    if s.writable p addr data.length then s.setPortQueue p (.write addr data be :: rest)
    else (s.discardWrite p).discardHeads p rest
  | [] => s.setPortQueue p []

/-- Settle both ports after a change of R34's conditions (R63): later received writes are discarded. -/
def State.settlePorts (s : State) : State :=
  let s1 := s.discardHeads .a (s.portQueue .a)
  let s2 := s1.discardHeads .b (s1.portQueue .b)
  (s2.syncThr .a).syncThr .b

/-- The commands of a controller that have not completed are gone when it resets (R66). -/
def State.dropCmds (s : State) (p : Port) : State :=
  { s with deferred := s.deferred.filter (fun d => d.req != .host p),
           host := { s.host with waiting := s.host.waiting.filter (fun w => w.req != .host p) } }

/-- Drop a port's received writes and pending reads and barriers without a report, and its commands (R48, R66). -/
def State.dropPort (s : State) (p : Port) : State :=
  let s0 := (s.dropCmds p).setPortQueue p []
  let s1 := { s0 with flow := s0.flow.filter (fun x => x.1 != p) }
  (({ s1 with pmr := { s1.pmr with barriers := s1.pmr.barriers.filter (fun b => b.port != p),
                                    waitReads := s1.pmr.waitReads.filter (fun r => r.port != p) },
               ech := { s1.ech with fwds := s1.ech.fwds.filter (fun f => f.port != p),
                                     fwdWait := s1.ech.fwdWait.filter (fun f => f.1 != p) } } : State).syncThr p)

/-- An item of a port's share is a barrier read. -/
def PortItem.isBarrier : PortItem → Bool
  | .barrier _ => true
  | _ => false

/-- Discard a port's pending barrier reads (R48): those ordered, and those that wait behind writes. -/
def State.dropBarriers (s : State) (p : Port) : State :=
  ({ s with pmr := { s.pmr with barriers := s.pmr.barriers.filter (fun b => b.port != p) } } : State).setPortQueue p
    ((s.portQueue p).filter (fun i => !i.isBarrier))

/-- The pair-loss policy is Hold (R318). -/
def State.policyHold (s : State) : Bool := s.flag Reg.ECH_CFG_POLICY

/-- How the completion rule of R43 stands for a barrier point. -/
inductive BarRule where
  | notMet | durable | notDurable
deriving DecidableEq, Repr

/-- The completion rule of R43, with the not-stored marks of R290 judged under the pair-loss policy. -/
def State.barrierRule (s : State) (point : Nat) : BarRule :=
  if !s.pair then .durable
  else if s.peerInService then
    if s.ech.nsSeqs.any (fun n => decide (s.pmr.lastCovered < n) && decide (n ≤ point)) && s.policyHold then .notDurable
    else if s.get Reg.ECH_SEQ_ACKED_SEQ < point then .notMet
    else .durable
  else if s.policyHold then .notDurable else .durable

/-- The greatest barrier point of a group (R41, R43). -/
def Pmr.groupPoint (m : Pmr) (group : Nat) : Nat :=
  ((m.barriers.filter (fun b => b.group == group)).map (fun b => b.point)).foldl Nat.max 0

/-- The 1 µs window of a group is over (R41). -/
def Pmr.windowOver (m : Pmr) (group : Nat) : Bool :=
  match m.group with
  | some g => g.1 != group || decide (g.2 + 1000 ≤ m.now)
  | none => true

/-- Complete the barrier reads of the oldest group, if its completion rule is met (R41, R43, R45). -/
def State.completeBarriers (s : State) : State :=
  match s.pmr.barriers with
  | [] => s
  | b0 :: _ =>
    let grp := s.pmr.barriers.filter (fun b => b.group == b0.group)
    let point := s.pmr.groupPoint b0.group
    let rule := s.barrierRule point
    if rule = .notMet then s
    else
      let nd := rule == .notDurable
      let closed := match s.pmr.group with
        | some g => if g.1 = b0.group then none else some g
        | none => none
      let s1 := { s with pmr := { s.pmr with barriers := s.pmr.barriers.filter (fun b => b.group != b0.group),
                                              group := closed } }
      let s2 := if nd then s1
        else
          let e := (s1.pmr.epoch + 1) % 2 ^ 32
          ({ s1 with pmr := { s1.pmr with epoch := e, lastCovered := Nat.max s1.pmr.lastCovered point },
                     ech := { s1.ech with nsSeqs := s1.ech.nsSeqs.filter (fun n => decide (point < n)) } } : State).echoEpoch
            (s1.pmr.nextSeq) e
      grp.foldl (fun t b => t.send (.cpl b.port .success false (natLe (t.pmrsts b.port nd) 4))) s2

/-- Complete every group whose rule is met, oldest first; at most `n` groups. -/
def State.completeAll : Nat → State → State
  | 0, s => s
  | n + 1, s => State.completeAll n s.completeBarriers

/-- Apply a granule's held writes in ascending sequence (R128). -/
def State.applyHeld (s : State) (g : Nat) : State :=
  let hs := mgetD s.pmr.merge g []
  let s1 := { s with pmr := { s.pmr with merge := mdel s.pmr.merge g } }
  hs.foldl (fun t h => t.applyWrite g h.off h.data h.be) s1

/-- Complete a read that waited for its granule: by its channel when that has frozen meanwhile (R64, R274, R304). -/
def State.answerFetched (s : State) (r : WaitRead) : State :=
  if s.granFrozen (r.addr / 4096) then s.answerFrozen r.port r.addr r.len else s.answerRead r.port r.addr r.len

/-- Complete the reads that waited for a granule (R55, R64). -/
def State.answerWaiting (s : State) (g : Nat) : State :=
  let ws := s.pmr.waitReads.filter (fun r => r.addr / 4096 == g)
  let s1 := { s with pmr := { s.pmr with waitReads := s.pmr.waitReads.filter (fun r => r.addr / 4096 != g) } }
  ws.foldl State.answerFetched s1

/-- The background copy is finished (R65): nothing is left to restore. -/
def State.copyFinished (s : State) : State :=
  if s.pmr.copyDone || s.restRemain != 0 || s.pmr.st == .closed then s
  else
    let s1 := ((({ s with pmr := { s.pmr with copyDone := true } } : State).ev .vlt 0x0003 2 0).raise
      Reg.VLT_STATUS_RESTORE_DONE Reg.VLT_CTRL_INT_EN 55).put Reg.VLT_STATUS_PHASE 0
    if s1.pmr.st = .restoring then s1.setPmr .opened else s1

end Sys2Proof.Machine
end

