-- ==== Sys2Proof/Machine/EchoOps.lean ====
section
/-! DEFINITION. The Echo protocol (R284–R315): peer states, lapses, misbehaviour, the link layer, both streams, resync,
forwarded reads and granule transfers. -/

namespace Sys2Proof.Machine

/-- Enter an Echo state: STATE_EV is set, the change recorded, condition 0x21 follows (R60, R299). -/
def State.setEcho (s : State) (st sev : Nat) : State :=
  if s.echoState = st then s
  else
    let s1 := ((s.put Reg.ECH_STATUS_STATE st).ev .ech 0x0001 sev st).raise Reg.ECH_STATUS_STATE_EV Reg.ECH_CTRL_INT_EN 57
    if !s1.pair then s1 else if st = eInService then s1.clearCond 0x21 else s1.setCond 0x21

/-- The channels that are frozen lose the peer's cover (R275): waiting writes are discarded. -/
def State.uncover (s : State) : State :=
  if s.get Reg.DMC_FRZ_STATUS_FROZEN = 0 then s else s.uncovered.settlePorts

/-- Reads forwarded to a peer that leaves service complete as poisoned (R304). -/
def State.failForwards (s : State) : State :=
  let all := s.ech.fwds.map (fun f => (f.port, f.len)) ++ s.ech.fwdWait.map (fun f => (f.1, f.2.2))
  let s1 := { s with ech := { s.ech with fwds := [], fwdWait := [] } }
  all.foldl (fun t f => t.answerPoison f.1 f.2) s1

/-- The content of a granule is settled: its held writes are applied, and the reads that waited for it complete (R55, R128). -/
def State.settleGran (s : State) (g : Nat) : State := (s.applyHeld g).answerWaiting g

/-- A REMOTE granule whose peer copy is gone is taken as R52 gives it without that copy (R131): poisoned where R51 poisons the
own copy, else from the own flash; a granule without a version there holds zeros. -/
def State.loseRemote (s : State) (g : Nat) : State :=
  match mget s.vlt.ownBad g with
  | some _ => ((s.poison g 0 4).setCond 0x02).settleGran g
  | none =>
    let e := s.ent g
    if e.loc.isSome then
      let s1 := s.setEnt g { e with st := .notCopied, fromPeer := false }
      if (mget s1.pmr.merge g).isSome || s1.pmr.waitReads.any (fun r => r.addr / 4096 == g) then s1.startFetch g true else s1
    else (s.setEnt g { e with st := .copied, fromPeer := false }).settleGran g

/-- The peer leaves with REMOTE granules outstanding (R131). In a vault the map stands as it is (R116, R125). -/
def State.dropRemote (s : State) : State :=
  let gs := (mfilter (fun _ e => e.st == .remote || (e.st == .fetching && e.fromPeer)) s.cache.map).map (fun e => e.1)
  if gs = [] ∨ s.vlt.cur.isSome then s
  else
    let s1 := (gs.foldl (fun t g => t.loseRemote g) s).ev .vlt 0x1002 5 (gs.length % 65536)
    (s1.asyncVendor 0xC0).copyFinished

/-- The member stops treating the peer as in service (R45, R275, R299, R304, R305): in-flight zones are marked, covered
channels become uncovered, forwarded reads end. -/
def State.peerLeaves (s : State) : State :=
  if s.streaming then
    let s1 := s.ech.unacked.foldl (fun t w => t.markZone w.zone) s
    let s2 := ({ s1 with ech := { s1.ech with rsActive := false, rsEnd := none } } : State).put Reg.ECH_RESYNC_MODE 0
    let s3 := s2.failForwards
    (if s3.dmc.covered = [] then s3 else s3.uncover)
  else s

/-- After the peer has left service, pending barriers complete at once under the pair-loss policy (R45, R300). -/
def State.judgeBarriers (s : State) : State := State.completeAll s.pmr.barriers.length s

/-- A session ends (R293): the link drops and the port enters `next`. -/
def State.endSession (s : State) (next sev : Nat) : State :=
  let s1 := s.peerLeaves
  let s2 := { s1 with ech := { s1.ech.newSession with hello := none, proofOk := false, nonce := 0 } }
  let s3 := ((s2.put Reg.ECH_LINK_UP 0).put Reg.ECH_LINK_RATE 0).put Reg.ECH_LINK_WIDTH 0
  let s4 := (s3.put Reg.UMB_PEER_OUT_GRANULES 0).put Reg.ECH_STATUS_PEER_TRIP 0
  let s5 := { s4 with umb := { s4.umb with issued := 0 } }
  ((s5.setEcho next sev).dropRemote).judgeBarriers

/-- Lapses within the last 60 s, the present one included (R300). -/
def State.lapseCount (s : State) : Nat := (s.ech.lapses.filter (fun t => decide (s.secs < t + 60))).length

/-- A lapse (R300): LAPSED, or HELD at the limit; pending barriers complete at once. -/
def State.lapse (s : State) (cause : Nat) : State :=
  if s.streaming then
    let s1 := { s with ech := { s.ech with lapses := s.ech.lapses.filter (fun t => decide (s.secs < t + 60)) ++ [s.secs] } }
    let s2 := (s1.incSat Reg.ECH_CNT_LAPSE_COUNT 1).ev .ech 0x1001 4 cause
    if Nat.max 1 (s2.get Reg.ECH_CFG2_LAPSE_LIMIT) ≤ s2.lapseCount then s2.endSession eHeld 4
    else ((s2.peerLeaves).setEcho eLapsed 4).judgeBarriers
  else s

/-- Misbehaviour (R301, R302): HELD, the session ends, severity 6 with the offending header. The third within 24 h holds
the link until Rejoin. -/
def State.misbehave (s : State) (code : Nat) (header : List Nat) : State :=
  let recent := s.ech.misbs.filter (fun t => decide (s.secs < t + 86400)) ++ [s.secs]
  let snap := header ++ [s.peek 0x1A0004, s.peek 0x1A0030, s.peek 0x1A0034, s.peek 0x1A003C]
  let s1 := s.eventWith Block.ech.source 0x5001 6 code (snap, false)
  let s2 := { s1 with ech := { s1.ech with misbs := recent, heldUntilRejoin := decide (3 ≤ recent.length) } }
  let s3 := s2.put Reg.ECH_MISB_LAST_CODE code
  (s3.raise Reg.ECH_STATUS_MISB_EV Reg.ECH_CTRL_INT_EN 57).endSession eHeld 4

/-- The four words of a frame header (R287). -/
def headerWords (ty flags len lseq arg : Nat) : List Nat :=
  [ty + flags * 2 ^ 8 + len * 2 ^ 16, lseq, arg % 2 ^ 32, arg / 2 ^ 32]

/-- The link layer's verdict on a received frame (R293, R301): rejected with a NAK that names the LSEQ expected, discarded
while that frame has not come again, malformed, or accepted. -/
def State.rxFrame (s : State) (rx : Rx) (ty flags arg len : Nat) (act : State → State) : State :=
  if !s.sessionUp then s
  else if rx.lseq != s.ech.expSeq % 2 ^ 32 || !rx.tagOk then
    let n := if s.ech.lastNak = s.ech.expSeq then s.ech.nakRow + 1 else 1
    if s.ech.discarding && rx.lseq != s.ech.expSeq % 2 ^ 32 then s
    else ({ s with ech := { s.ech with nakRow := n, lastNak := s.ech.expSeq, discarding := true } } : State).lctl true
  else
    let s1 := { s with ech := { s.ech with expSeq := s.ech.expSeq + 1, nakRow := 0, ackDue := true, discarding := false,
                                            freed := s.ech.freed + ceilDiv (16 + 4 * len + 8) 64 } }
    if rx.malformed then s1.misbehave 9 (headerWords ty flags len rx.lseq arg) else act s1

/-- A MACK frame (R288, R290): its FLAGS, what it acknowledges, and the epoch in force there. -/
def State.mack (s : State) (flags arg epoch : Nat) : State :=
  s.frame fMack flags arg (natLe epoch 4 ++ natLe 0 4 ++ natLe s.ech.ownDirtied 8)

/-- Send the MACK frames that are due (R290). -/
def State.sendMack (s : State) : State :=
  let s0 := { s with ech := { s.ech with pendAck := 0, pendRs := 0 } }
  let s1 := if s.ech.pendAck = 0 then s0 else s0.mack 0 (s.get Reg.ECH_SEQ_STORED_SEQ) s.pmr.peerEpoch
  if s.ech.pendRs = 0 then s1 else s1.mack 2 s.ech.rsStored s.pmr.peerEpoch

/-- The peer's newly dirtied granule spends its allowance (R79, R291). -/
def State.spendPeer (s : State) : State :=
  let s1 := { s with ech := { s.ech with ownDirtied := s.ech.ownDirtied + 1 } }
  s1.put Reg.UMB_PEER_OUT_GRANULES (s.umb.issued - (s.ech.ownDirtied + 1))

/-- The full write sequence that 24 bits stand for: the next above `last` (R289). -/
def inferSeq (last low : Nat) : Nat :=
  let c := last / 2 ^ 24 * 2 ^ 24 + low
  if last < c then c else c + 2 ^ 24

/-- The 8 GDATA parts and the GVER of a cache granule (R288, R306, R312). -/
def State.sendGranule (s : State) (g idx tag purpose : Nat) : State :=
  let v := s.gran g
  let bytes := loadBytes s.cache.cells (g * 4096) 4096
  let poisoned := (s.ent g).st == .poisoned
  let mask := ((mget s.pmr.poison g).map (fun p => p.mask)).getD 0
  let arg := idx + tag * 2 ^ 32
  let s1 := (List.range 8).foldl (fun t i => t.frame fGdata (purpose + i * 4) arg ((bytes.drop (i * 512)).take 512)) s
  let gflags := 1 + (s.granOwner g).idx * 2 + b2n poisoned * 4
  s1.frame fGver purpose arg (natLe v.seq 8 ++ natLe v.epoch 4 ++ natLe gflags 1 ++ natLe mask 1 ++ natLe 0 2)

/-- A GVER that carries no granule: STATUS 1 not available, 2 no version (R288). -/
def State.sendNoGranule (s : State) (idx tag purpose status : Nat) : State :=
  s.frame fGver purpose (idx + tag * 2 ^ 32) (natLe 0 14 ++ natLe status 1 ++ natLe 0 1)

/-- Answer the granule requests that can be answered (R273, R312); the others wait for their fetch. -/
def State.pumpGreqs (s : State) : State :=
  s.ech.greqIn.foldl (fun t q =>
    let g := t.granOf t.owner.other q.2.1
    let drop (u : State) : State := { u with ech := { u.ech with greqIn := u.ech.greqIn.filter (fun x => x != q) } }
    if t.granFrozen g then drop (t.sendNoGranule q.2.1 q.1 q.2.2 1)
    else if (t.ent g).st.absent then t.startFetch g (q.2.2 == 1)
    else if (t.ent g).st = .noVersion ∧ !(t.gran g).dirty then drop (t.sendNoGranule q.2.1 q.1 q.2.2 2)
    else
      let d := t.readGranule .echo g
      drop (if d.2 then d.1.sendGranule g q.2.1 q.1 q.2.2 else d.1.sendNoGranule q.2.1 q.1 q.2.2 1)) s

/-- Split bytes into parts of at most 512. -/
def parts512 : Nat → List Byte → List (List Byte)
  | 0, _ => []
  | n + 1, bs => if bs.length ≤ 512 then [bs] else bs.take 512 :: parts512 n (bs.drop 512)

/-- Answer the forwarded reads whose ORDER_SEQ is stored and whose granule is present (R304). -/
def State.pumpForwards (s : State) : State :=
  s.ech.fwdIn.foldl (fun t q =>
    let g := t.granOf t.owner.other (q.off / 4096)
    let drop (u : State) : State := { u with ech := { u.ech with fwdIn := u.ech.fwdIn.filter (fun x => x != q) } }
    let arg (i : Nat) := q.off + i * 512 + q.tag * 2 ^ 40
    if t.get Reg.ECH_SEQ_STORED_SEQ < q.order then t
    else if t.granFrozen g then drop (t.frame fFdata 5 (arg 0) (natLe 0 4))
    else if (t.ent g).st.absent then t.startFetch g true
    else if (t.ent g).st = .poisoned then drop (t.frame fFdata 3 (arg 0) (natLe 0 4))
    else
      let d := t.readData .echo (g * 4096 + q.off % 4096) q.len
      if d.2 then
        let ps := parts512 8 (loadBytes d.1.cache.cells (g * 4096 + q.off % 4096) q.len)
        drop (ps.zipIdx.foldl (fun u e => u.frame fFdata (b2n (e.2 + 1 == ps.length)) (arg e.2) e.1) d.1)
      else drop (d.1.frame fFdata 5 (arg 0) (natLe 0 4))) s

/-- Store a mirror write in its turn (R80, R289, R290): not stored where its channel is frozen, a misbehaviour where it dirties
a granule beyond the allowance. -/
def State.storeMwr (s : State) (w : MirWrite) : State :=
  let notStored (t : State) : State := ({ t with ech := { t.ech with pendAck := 0 } } : State).mack 1 w.seq w.epoch
  if s.granFrozen w.gran then notStored s
  else if !(s.gran w.gran).dirty && decide (s.umb.issued ≤ s.ech.ownDirtied) then s.misbehave 3 w.hdr
  else
    let s1 := if (s.gran w.gran).dirty then s else s.spendPeer
    let s0 := s1.commitWrite w.gran w.off w.data w.be w.seq w.epoch
    if s0.granFrozen w.gran then notStored s0
    else
    let s2 := s0.put Reg.ECH_SEQ_STORED_SEQ w.seq
    let s3 := { s2 with ech := { s2.ech with pendAck := s2.ech.pendAck + 1 },
                        pmr := { s2.pmr with peerEpoch := w.epoch } }
    (if 64 ≤ s3.ech.pendAck then s3.sendMack else s3).pumpForwards

/-- A mirror write must wait for a merge-queue entry (R128). -/
def State.mwrHeld (s : State) (w : MirWrite) : Bool := s.mergeFull w.gran && !s.granFrozen w.gran

/-- Store the waiting mirror writes in order, as far as the merge queue has room; each gives back its credit units. -/
def State.storeWaiting (s : State) : List MirWrite → State
  | [] => { s with ech := { s.ech with mwrWait := [] } }
  | w :: rest =>
    if !s.streaming then { s with ech := { s.ech with mwrWait := [] } }
    else if s.mwrHeld w then { s with ech := { s.ech with mwrWait := w :: rest } }
    else (({ s with ech := { s.ech with freed := s.ech.freed + w.units } } : State).storeMwr w).storeWaiting rest

/-- The merge queue may have room again: the waiting mirror writes go on. -/
def State.pumpMirror (s : State) : State := s.storeWaiting s.ech.mwrWait

/-- A mirror write received (R80, R128, R289, R290, R301): stored, or held in the receive buffer, whose credits stay taken, while
the merge queue is full. -/
def State.rxMwr (s : State) (off low : Nat) (data : List Byte) (be : List Bool) (hdr : List Nat) : State :=
  if !s.streaming || s.vaulting then s
  else
    let last := if s.ech.restart then s.get Reg.ECH_SEQ_STORED_SEQ else s.ech.expWrite - 1
    let seq := inferSeq last low
    let g := s.granOf s.owner.other (off / 4096)
    match s.ech.peerEpoch with
    | none => s.misbehave 8 hdr
    | some epoch =>
      if !s.ech.restart && seq != s.ech.expWrite then s.misbehave 1 hdr
      else if s.ownGrans * 4096 < off + data.length || 4096 < off % 4096 + data.length then s.misbehave 2 hdr
      else
        let s0 := { s with ech := { s.ech with restart := false, expWrite := seq + 1, mirLive := true } }
        let w : MirWrite := ⟨g, off % 4096, data, be, seq, epoch, hdr, frameUnits data⟩
        if s0.ech.mwrWait ≠ [] ∨ s0.mwrHeld w then
          { s0 with ech := { s0.ech with mwrWait := s0.ech.mwrWait ++ [w], freed := s0.ech.freed - w.units } }
        else s0.storeMwr w

/-- An EPOCH frame received (R289, R301 code 8): any epoch at a session's start and after RSYNC BEGIN, else the next one. -/
def State.rxEpoch (s : State) (epoch : Nat) (hdr : List Nat) : State :=
  let fits : Bool := s.ech.peerEpoch.all (fun e => epoch == (e + 1) % 2 ^ 32)
  if s.ech.epochFree then
    { s with ech := { s.ech with peerEpoch := some (epoch % 2 ^ 32), epochFree := false, restart := true } }
  else if fits then { s with ech := { s.ech with peerEpoch := some (epoch % 2 ^ 32) } }
  else s.misbehave 8 hdr

/-- The owner's epoch at a sequence, as far as it is kept (R301 code 5). -/
def Echo.epochAt (e : Echo) (seq : Nat) : Option Nat :=
  ((e.epochHist.filter (fun h => decide (h.1 ≤ seq))).getLast?).map (fun h => h.2)

/-- The own resync is acknowledged (R308): the peer is in service. -/
def State.resyncCheck (s : State) : State :=
  match s.ech.rsEnd with
  | some e =>
    if s.echoState = eSync ∧ e ≤ s.get Reg.ECH_SEQ_ACKED_SEQ ∧ s.ech.rsSent ≤ s.ech.rsAcked then
      let s1 := { s with ech := { s.ech with rsEnd := none, needFull := false, newPeer := false } }
      ((s1.setEcho eInService 2).put Reg.ECH_RESYNC_MODE 0).raise Reg.ECH_STATUS_RESYNC_DONE Reg.ECH_CTRL_INT_EN 57
    else s
  | none => s

/-- A mirror acknowledgement received (R290, R291, R301). `rtt` is the round trip of the mirror writes that it covers (R285). -/
def State.rxMack (s : State) (kind ns : Bool) (arg epoch dirtied rtt : Nat) (hdr : List Nat) : State :=
  let e := s.ech
  let bad4 := if kind then decide (e.rsSent < arg) || decide (arg < e.rsAcked)
    else decide (s.get Reg.ECH_SEQ_SENT_SEQ < arg) || decide (arg < s.get Reg.ECH_SEQ_ACKED_SEQ)
  let left := if kind then e.unacked else e.unacked.filter (fun w => decide (arg < w.seq))
  let bad5 := !kind && (match e.epochAt arg with
    | some x => x != epoch
    | none => false)
  let covered := (e.mwrSent - (if kind then 0 else left.length)) + (if kind then arg else e.rsSent)
  if bad4 then s.misbehave 4 hdr
  else if bad5 then s.misbehave 5 hdr
  else if dirtied < e.dirtied || covered < dirtied then s.misbehave 6 hdr
  else
    let s1 := { s with ech := { e with unacked := left, dirtied := dirtied, rsAcked := if kind then arg else e.rsAcked,
                                        nsSeqs := if ns && !kind then e.nsSeqs ++ [arg] else e.nsSeqs } }
    let s2 := if kind then s1 else s1.put Reg.ECH_SEQ_ACKED_SEQ arg
    let s3 := if left.length = e.unacked.length then s2
      else (s2.put Reg.ECH_LAT_LAST_NS (Nat.min 65535 rtt)).put Reg.ECH_LAT_MAX_NS
        (Nat.min 65535 (Nat.max rtt (s2.get Reg.ECH_LAT_MAX_NS)))
    s3.resyncCheck

/-- Place the start of an owner's stream (R289): one EPOCH frame with the epoch in force. -/
def State.openStream (s : State) : State :=
  let s1 := { s with ech := { s.ech with epochHist := [(s.pmr.nextSeq, s.pmr.epoch)] } }
  s1.frame fEpoch 0 s.pmr.epoch []

/-- The lowest marked zone (R306). -/
def State.lowestZone (s : State) : Option Nat :=
  match s.ech.zones, s.ech.allFrom with
  | (z, _) :: _, some n => some (Nat.min z n)
  | (z, _) :: _, none => some z
  | [], some n => if n < s.ownZones then some n else none
  | [], none => none

/-- End the resync when no zone is marked (R308): RSYNC END with S_END and the granules sent. -/
def State.resyncEnd (s : State) : State :=
  match s.lowestZone with
  | some _ => s
  | none =>
    let sEnd := s.get Reg.ECH_SEQ_SENT_SEQ
    let s1 := { s with ech := { s.ech with rsActive := false, rsEnd := some sEnd, allFrom := none } }
    (s1.frame fRsync 1 sEnd (natLe s.ech.rsCount 8)).resyncCheck

/-- Begin a resync and enter SYNC (R299, R306, R307). -/
def State.beginResync (s : State) (full : Bool) : State :=
  let s0 := if full then s.markAllZones else s
  let s1 := (s0.setEcho eSync 2).put Reg.ECH_RESYNC_MODE (if full then 2 else 1)
  let s2 := { s1 with ech := { s1.ech with rsActive := true, rsNext := 0, rsCount := 0, rsEnd := none } }
  (((s2.frame fRsync 0 0 []).openStream).put Reg.ECH_SEQ_SENT_SEQ (s2.pmr.nextSeq - 1)).resyncEnd

/-- One granule of the resync (R306): the lowest granule not yet sent of the lowest marked zone. -/
def State.resyncStep (s : State) : State :=
  match s.lowestZone with
  | none => s
  | some z =>
    let g := if z * 256 ≤ s.ech.rsNext ∧ s.ech.rsNext < z * 256 + 256 then s.ech.rsNext else z * 256
    let next (t : State) (sent : Nat) : State :=
      let t1 := { t with ech := { t.ech with rsNext := g + 1, rsCount := t.ech.rsCount + sent, rsSent := t.ech.rsSent + sent } }
      if z * 256 + 255 ≤ g ∨ t.ownGrans ≤ g + 1 then (t1.unmarkZone z).resyncEnd else t1
    let st := (s.ent g).st
    if s.granFrozen g then next (s.sendNoGranule g 0 2 1) 1
    else if st = .remote ∨ (st = .fetching ∧ (s.ent g).fromPeer) then next s 0
    else if st.absent then s.startFetch g true
    else if st = .noVersion ∧ !(s.gran g).dirty then next (s.sendNoGranule g 0 2 2) 1
    else if s.peerIn = 0 || s.ech.noRoom (8 * 536 + 40) (8 * 9 + 1) then s
    else
      let d := s.readGranule .echo g
      next (if d.2 then d.1.sendGranule g g 0 2 else d.1.sendNoGranule g 0 2 1) 1

/-- A resync granule is stored (R290, R306): it is acknowledged on the rule of mirror writes, and what waited for the granule
goes on. -/
def State.resyncGot (s : State) (g idx : Nat) : State :=
  let s1 : State := { s with ech := { s.ech with
    rsStored := s.ech.rsStored + 1, pendRs := s.ech.pendRs + 1, rsParts := mdel s.ech.rsParts idx } }
  ((if 64 ≤ s1.ech.pendRs then s1.sendMack else s1).answerWaiting g).pumpForwards

/-- A granule without a version (R306): zeros, NO_VERSION, neither Dirty nor Seeped. -/
def State.emptyGranule (s : State) (g : Nat) : State :=
  let s1 : State := { s with
    cache := { s.cache with cells := clearCells s.cache.cells (g * 4096) 4096 }
    pmr := { s.pmr with merge := mdel s.pmr.merge g, poison := mdel s.pmr.poison g } }
  ((s1.writeGranule g).setEnt g MapEnt.none).setGran g GState.none

/-- Store a resync granule (R299, R306): it overwrites the mirror granule and spends allowance as a mirror write does. -/
def State.storeResync (s : State) (idx seq epoch gflags mask status : Nat) (hdr : List Nat) : State :=
  let g := s.granOf s.owner.other idx
  if !s.streaming then s
  else if status = 1 || s.granFrozen g then s.resyncGot g idx
  else if status = 2 then (s.emptyGranule g).resyncGot g idx
  else if !(s.gran g).dirty && decide (s.umb.issued ≤ s.ech.ownDirtied) then s.misbehave 3 hdr
  else
    let parts := mgetD s.ech.rsParts idx []
    let bytes := (List.range 8).map (fun i => mgetD parts i [])
    let s1 := if (s.gran g).dirty then s else s.spendPeer
    let s0 := s1.writeGranule g
    let s2 := { s0 with cache := { s0.cache with
      cells := storeBytes (clearCells s0.cache.cells (g * 4096) 4096) (g * 4096) bytes.flatten } }
    let s3 := ({ s2 with pmr := { s2.pmr with merge := mdel s2.pmr.merge g, poison := mdel s2.pmr.poison g } } : State)
    let s4 := (s3.setEnt g { s3.ent g with st := .copied, fromPeer := false }).markDirty g seq epoch
    (if bitOf gflags 2 then s4.poison g mask 3 else s4).resyncGot g idx

/-- A fetch whose channel has frozen meanwhile (R273, R275): nothing is stored, the held writes are lost with the channel, and the
reads that waited are handled as the frozen channel's reads are. -/
def State.fetchFrozen (s : State) (g : Nat) : State :=
  let s1 : State := { s with pmr := { s.pmr with merge := mdel s.pmr.merge g } }
  (if (mget s.pmr.merge g).isSome then s1.loseGran g else s1).answerWaiting g

/-- A granule that the peer sent for a request (R312): written to DRAM, dirty, with the version the GVER carries. -/
def State.storeRemote (s : State) (q : GReq) (g seq epoch gflags mask : Nat) : State :=
  let bytes := ((List.range 8).map (fun i => mgetD q.parts i [])).flatten
  let held := (mget s.pmr.merge g).isSome
  if s.granFrozen g then (s.setEnt g { s.ent g with st := .remote, fromPeer := false }).fetchFrozen g
  else if !held && !s.admits g then
    let ws := s.pmr.waitReads.filter (fun r => r.addr / 4096 == g)
    let s1 := { s with pmr := { s.pmr with waitReads := s.pmr.waitReads.filter (fun r => r.addr / 4096 != g) } }
    let s2 := s1.setEnt g { s1.ent g with st := .remote, fromPeer := false }
    ws.foldl (fun t r => t.send (.cpl r.port .success false ((bytes.drop (r.addr % 4096)).take r.len))) s2
  else
    let s0 := s.writeGranule g
    let s1 := { s0 with cache := { s0.cache with
      cells := storeBytes (clearCells s0.cache.cells (g * 4096) 4096) (g * 4096) bytes } }
    let s2 := s1.setEnt g { s1.ent g with st := .copied, fromPeer := false }
    let v := s2.gran g
    let s3 := s2.setGran g { v with dirty := true, seq := Nat.max seq v.seq, epoch := if v.seq < seq then epoch else v.epoch }
    let s4 := if bitOf gflags 2 then s3.poison g mask 3 else s3
    (((s4.applyHeld g).answerWaiting g).copyFinished)

/-- A demand fetch has taken `us` microseconds (R140). -/
def State.noteDemand (s : State) (us : Nat) : State :=
  s.put Reg.VLT_DEMAND_MAX_MAX_US (Nat.max (s.get Reg.VLT_DEMAND_MAX_MAX_US) (Nat.min 65535 us))

/-- A GVER for a request (R301 code 12, R312, R131); `us` is the time since the request. -/
def State.rxRequested (s : State) (q : GReq) (seq epoch gflags mask status us : Nat) (hdr : List Nat) : State :=
  let g := q.gran
  let s0 : State := { s with ech := { s.ech with greqs := s.ech.greqs.filter (fun x => x.tag != q.tag) } }
  let s1 := if q.purpose = 1 then s0.noteDemand us else s0
  let mismatch := match mget s.ech.vtab (s.granIndex g) with
    | some x => status == 0 && x % 2 ^ 63 != seq && !(s.gran g).dirty
    | none => false
  if mismatch then s.misbehave 12 hdr
  else if status = 1 then ((s1.loseRemote g).ev .vlt 0x1002 5 1).copyFinished
  else if status = 2 then
    (((s1.setEnt g { s1.ent g with st := .copied, fromPeer := false }).applyHeld g).answerWaiting g).copyFinished
  else s1.storeRemote q g seq epoch gflags mask

/-- A state word received (R292, R300, R313). -/
def State.rxState (s : State) (w : Nat) : State :=
  let s1 := { s with ech := { s.ech with peerState := w } }
  let s2 := (s1.putB Reg.ECH_STATUS_PEER_TRIP (bitOf w 5)).put Reg.ECH_STATUS_PEER_FROZEN (bitsOf w 8 4)
  if bitOf w 7 then
    let s3 := s2.endSession eDetached 2
    { s3 with ech := { s3.ech with detachedAon := true } }
  else if bitOf w 5 then s2.lapse 2
  else if bitOf w 13 || bitsOf w 0 3 == 3 || bitsOf w 0 3 == 4 then s2.lapse 3
  else if bitOf w 12 then s2.lapse 4
  else s2

/-- The peer's STATE allows a rejoin (R299): RUN with no TRIP, DETACH, GOING_DOWN or safe mode. -/
def Echo.peerSteady (e : Echo) : Bool :=
  bitsOf e.peerState 0 3 == 0 && !bitOf e.peerState 5 && !bitOf e.peerState 7 && !bitOf e.peerState 13 && !bitOf e.peerState 12

/-- Begin the handshake (R296): a HELLO with a fresh nonce, then the PROOF once the peer's HELLO is known. -/
def State.sendHello (s : State) : State :=
  let f := s.fresh 256
  let s1 := { f.2 with ech := { f.2.ech.newSession with nonce := f.1, hello := none, proofOk := false } }
  let im := s1.boot.running
  let pairId := (im.map (fun i => i.pairId)).getD 0
  s1.send (.frame fHello [0, 0, 0] (natLe f.1 32 ++ natLe 1 1 ++ natLe s1.owner.idx 1 ++ natLe 0xB0 1 ++
    natLe (b2n s1.ech.resume) 1 ++ natLe s1.capGiB 2 ++ natLe 0 2 ++ natLe (s1.view Reg.SYS_UID_UID_HASH) 8 ++
    natLe pairId 8 ++ natLe s1.ech.session 4 ++ natLe 0 4))

/-- A VINFO frame from the restore choice of this member (R309). -/
def vblockBytes (b : VBlock) : List Byte :=
  natLe b.vault 4 ++ natLe b.outcome 1 ++ natLe (b2n b.manDone + b2n b.live * 2) 1 ++ natLe 0 2 ++ natLe b.lastSeq 8 ++
    natLe b.epoch 4 ++ natLe b.poisoned 4 ++ natLe b.digest 8

/-- The version digest of R309 over one owner's region. -/
def digestTerm (g s : Nat) : Nat :=
  (Nat.xor (g * 0x9E3779B97F4A7C15 % 2 ^ 64) s * 0xBF58476D1CE4E5B9) % 2 ^ 64

/-- The digest of a region as DRAM and the map hold it. -/
def State.digest (s : State) (o : Owner) : Nat :=
  (s.cache.grans.foldl (fun n e => if s.granOwner e.1 = o ∧ e.2.seq ≠ 0 then n + digestTerm (s.granIndex e.1) e.2.seq else n)
    0) % 2 ^ 64

/-- The VINFO block of a LIVE mirror copy (R309): what this member holds of the peer's region. -/
def State.liveMirror (s : State) : VBlock :=
  { vault := 0, outcome := 1, manDone := true, live := true, lastSeq := s.get Reg.ECH_SEQ_STORED_SEQ,
    epoch := s.pmr.peerEpoch, poisoned := mcount (fun g _ => decide (s.ownGrans ≤ g)) s.pmr.poison,
    digest := s.digest s.owner.other }

/-- The VINFO block of a member's own region that is in service. -/
def State.liveOwn (s : State) : VBlock :=
  { vault := 0, outcome := 1, manDone := true, live := true, lastSeq := s.pmr.nextSeq - 1, epoch := s.pmr.epoch,
    poisoned := mcount (fun g _ => decide (g < s.ownGrans)) s.pmr.poison, digest := s.digest s.owner }

/-- Send VINFO (R309): the blocks that the map build left, live copies where the PMR was never lost, and a live mirror once
it follows the peer's stream. -/
def State.sendVinfo (s : State) (need : Bool) : State :=
  let b := (s.ech.vinfoOwn).getD (s.liveOwn, s.liveMirror)
  let s1 : State := { s with ech := { s.ech with vinfoSent := true } }
  s1.frame fVinfo 0 (b2n need) (vblockBytes b.1 ++ vblockBytes (if s.ech.mirLive then s.liveMirror else b.2))

/-- VINFO goes out once in a session that does not resume, as soon as this member's map is built (R298, R309). -/
def State.vinfoTurn (s : State) : State :=
  if s.echoState == eSync && !s.ech.resumed && !s.ech.vinfoSent && (s.ech.vinfoOwn.isSome || s.pmr.st != .closed) then
    s.sendVinfo false
  else s

/-- The own region's result of the restore stands (R52, R65). -/
def State.ownSettled (s : State) : Bool :=
  s.pmr.st != .closed || (s.ech.vinfoOwn.isSome && !s.vlt.waitPeer && !s.ech.needVtab)

/-- After a restore the peer's copy is what this member has chosen, or has the same content (R307). -/
def State.sameAsPeer (s : State) (peer : VBlock) : Bool :=
  s.get Reg.VLT_OUTCOME_OWN == 4 ||
    (match s.ech.vinfoOwn with
     | some o => o.1.lastSeq == peer.lastSeq && o.1.digest == peer.digest
     | none => false)

/-- The resync begins full (R307), with the peer's block of its mirror copy. -/
def State.resyncFull (s : State) (peer : VBlock) : Bool :=
  s.ech.newPeer || decide (peer.lastSeq < s.get Reg.ECH_SEQ_ACKED_SEQ) || decide (0 < peer.poisoned) ||
    (s.ech.needFull && !s.sameAsPeer peer)

/-- Step 5 of the bring-up (R286, R307): once VINFO is exchanged and the restore choice is settled, the own resync begins. After a
restore a delta covers the zones written since. -/
def State.resyncTurn (s : State) : State :=
  match s.ech.vinfoPeer with
  | none => s
  | some b =>
    if s.echoState == eSync && s.ech.vinfoSent && s.ownSettled && !s.ech.rsActive && s.ech.rsEnd.isNone then
      let full := s.resyncFull b.2
      let s1 : State := if s.ech.needFull && !full then { s with ech := { s.ech with allFrom := none } } else s
      s1.beginResync full
    else s

/-- What a session that exchanges VINFO can do next (R286 steps 4 and 5). -/
def State.syncTurn (s : State) : State := s.vinfoTurn.resyncTurn

/-- Refuse the peer (R297): each cause is recorded once, until a peer has been accepted. -/
def State.refusePeer (s : State) (sev cause : Nat) : State :=
  let s1 := s.endSession eRefused 2
  if s.ech.refused.contains cause then s1
  else ({ s1 with ech := { s1.ech with refused := s1.ech.refused ++ [cause] } } : State).ev .ech 0x5002 sev cause

/-- The checks of R297 once HELLO and PROOF are both there; on success the session starts (R296, R298). -/
def State.pairCheck (s : State) : State :=
  match s.ech.hello with
  | none => s
  | some h =>
    if !s.ech.proofOk then s
    else
      let pairId := (s.boot.running.map (fun i => i.pairId)).getD 0
      let known := match s.ech.peerId with
        | some u => u == h.uid
        | none => true
      let replace := s.flag Reg.ECH_STATUS_REPLACE_ARMED
      if h.pairId != pairId then s.refusePeer 5 0
      else if h.proto != 1 || h.owner == s.owner.idx then s.refusePeer 5 1
      else if h.cap != s.capGiB then s.refusePeer 5 2
      else if !known && !replace then s.refusePeer 6 3
      else
        let s1 := if h.stepping = 0xB0 then s else s.ev .ech 0x1003 4 h.stepping
        let fresh := s1.ech.peerId.isNone || !known
        let res := (s1.ech.resume || h.resume) && h.session == s1.ech.session && known && s1.ech.peerId.isSome
        let s2 := { s1 with ech := { s1.ech with
          peerId := some h.uid, peerNor := if fresh then s.ech.peerNor.write h.uid else s.ech.peerNor, resumed := res, refused := [],
          session := Nat.max s1.ech.session h.session + 1, newPeer := s1.ech.newPeer || fresh } }
        let s3 := s2.put Reg.ECH_PEER_UID_UID_HASH h.uid
        let s4 := if known then s3 else s3.put Reg.ECH_STATUS_REPLACE_ARMED 0
        if res then s4.beginResync (s4.ech.needFull || s4.ech.newPeer) else ((s4.setEcho eSync 2).openStream).syncTurn

/-- A rate and a width that the link may run at (R284): 16 GT/s and x4 only with FALLBACK. -/
def State.echoRate (s : State) (rate width : Nat) : Bool :=
  (rate == 2 && width == 2) ||
    (s.flag Reg.ECH_CFG2_FALLBACK && (rate == 1 || rate == 2) && (width == 1 || width == 2))

/-- The link reaches L0 (R286, R299). -/
def State.echoUp (s : State) (rate width : Nat) : State :=
  let s1 := ((s.put Reg.ECH_LINK_UP 1).put Reg.ECH_LINK_RATE rate).put Reg.ECH_LINK_WIDTH width
  let s2 := if rate = 2 then s1 else s1.ev .ech 0x1002 4 rate
  let s3 := if width = 2 then s2 else s2.ev .ech 0x1004 4 width
  let s3 := { s3 with ech := { s3.ech with failsRow := 0 } }
  ((s3.leaveDropOp .phyEcho).setEcho ePairing 2).sendHello

/-- Start a training attempt: it counts in RETRAINS and asks for Bring-up leave (R27, R286). -/
def State.echoTrain (s : State) : State :=
  if s.domOn .echo && s.pair && s.echoState == eDown && !s.askedOp .phyEcho then
    ((s.incSat Reg.ECH_LINK_RETRAINS 1).leaveRequest .phyEcho).1
  else s

/-- Detach (R313): a STATE frame with DETACH, then both members hold the link down. -/
def State.detach (s : State) : State :=
  let s1 := { s with ech := { s.ech with detaching := true } }
  let s2 := s1.echoStateSend.endSession eDetached 2
  { s2 with ech := { s2.ech with detaching := false, detachedAon := true } }

/-- Rejoin (R313): DETACHED, HELD or REFUSED is left for DOWN, and training starts. -/
def State.rejoin (s : State) : State :=
  let s1 := { s with ech := { s.ech with heldUntilRejoin := false, detachedAon := false, failsRow := 0 } }
  (s1.setEcho eDown 2).echoTrain

/-- The states that Rejoin leaves (R313). -/
def State.canRejoin (s : State) : Bool :=
  s.echoState == eDetached || s.echoState == eHeld || s.echoState == eRefused

end Sys2Proof.Machine
end

