-- ==== Sys2Proof/Machine/GrottoBase.lean ====
section
/-! DEFINITION. The Grotto's geometry, block table, bands and stripes (R141–R147, R161–R171, R553): service counts,
capacity, opening and closing bands, laying out and handing over stripes, journal entries, retirement. -/

namespace Sys2Proof.Machine

/-- The key of a block: area (0 Grotto, 1 Ledger), LUN and index. -/
def blkKey (lun b : Nat) : Nat := lun * 65536 + b

/-- An erased band block that was never erased since the format. -/
def Blk.fresh : Blk := ⟨.erased, 0, 0, false, false⟩

/-- A Grotto block. -/
def State.blk (s : State) (lun b : Nat) : Blk := mgetD s.grt.tbl (blkKey lun b) Blk.fresh

/-- Replace a Grotto block's entry. -/
def State.setBlk (s : State) (lun b : Nat) (v : Blk) : State :=
  { s with grt := { s.grt with tbl := mput Blk.fresh s.grt.tbl (blkKey lun b) v } }

/-- Vault pages of a block that carry stripes (R143). -/
def State.bandPages (s : State) : Nat := s.get Reg.GRT_GEOM_PAGES - s.get Reg.GRT_GEOM_SUM_PAGES

/-- Data bytes of a band (R170). -/
def State.bandData (s : State) : Nat := 15 * s.bandPages * 16384

/-- The data bytes of one stripe. -/
def stripeBytes : Nat := 245760

/-- The channels by number. -/
def channels16 : List Nat := List.range 16

/-- The LUNs in Grotto service on a channel: ACTIVE or WRITE_OUT (R210). -/
def State.grottoLuns (s : State) (ch : Nat) : List Nat :=
  (mfilter (fun n l => n % 16 == ch && (l.st == .active || l.st == .writeOut)) s.flc.luns).map (fun e => e.1)

/-- The channels in vault service: those with an ACTIVE LUN. -/
def State.vaultChannels (s : State) : List Nat := channels16.filter (fun c => !(s.activeLuns c).isEmpty)

/-- Grotto blocks of a LUN listed with a property. -/
def State.blkCount (s : State) (lun : Nat) (p : Blk → Bool) : Nat :=
  mcount (fun k b => k / 65536 == lun && p b) s.grt.tbl

/-- Erased band blocks of a LUN. -/
def State.erasedOn (s : State) (lun : Nat) : Nat :=
  s.get Reg.GRT_GEOM_BLOCKS - s.blkCount lun (fun b => b.st != .erased || b.half)

/-- The sum of a list. -/
def sumNat (l : List Nat) : Nat := l.foldl (· + ·) 0

/-- The least of a list, 0 when it is empty. -/
def minNat : List Nat → Nat
  | [] => 0
  | h :: t => t.foldl Nat.min h

/-- The erased bands: those that the erased band blocks of every channel can form (R553). -/
def State.erasedBands (s : State) : Nat :=
  minNat (s.vaultChannels.map (fun c => sumNat ((s.activeLuns c).map s.erasedOn)))

/-- A block that a channel cannot offer to a band (R169). -/
def Blk.notOffered (b : Blk) : Bool := b.st == .spare || b.st == .retired || b.st == .record || b.st == .blackBox

/-- The band blocks that a channel offers (R169). -/
def State.offered (s : State) (ch : Nat) : Nat :=
  sumNat ((s.grottoLuns ch).map (fun l => s.get Reg.GRT_GEOM_BLOCKS - s.blkCount l Blk.notOffered))

/-- The number of bands in service (R169). -/
def State.bandsTotal (s : State) : Nat := minNat (s.vaultChannels.map s.offered)

/-- The spares left on a channel, the surplus of R169 included. -/
def State.channelSpares (s : State) (ch : Nat) : Nat :=
  sumNat ((s.grottoLuns ch).map (fun l => s.blkCount l (fun b => b.st == .spare))) + (s.offered ch - s.bandsTotal)

/-- The vault capacity V in bytes (R170). DESIGN CHOICE: where U is below c and two bands V is 0; the spec gives no V there. -/
def State.vcap (s : State) : Nat := s.bandsTotal * s.bandData - s.cacheGrans * 4096 - 2 * s.bandData

/-- Bring the Grotto's service, band and capacity registers up to date (R169–R171, R177, R179, R180): below MIN_CACHE
condition 0x10 is entered, and stays until a format ends it (R171). DESIGN CHOICE: SPARES_MIN is the fewest over the channels
in vault service; R180 does not say whether a channel without a LUN counts. -/
def State.grtSync (s : State) : State :=
  if s.get Reg.GRT_GEOM_PAGES = 0 then s
  else
    let sp := channels16.map s.channelSpares
    let s1 := { s with grt := { s.grt with spares := sp } }
    let s2 := (s1.put Reg.GRT_SERVICE_LUNS_VAULT s1.lunsActive).put Reg.GRT_SERVICE_LUNS_GROTTO
      (sumNat (channels16.map (fun c => (s1.grottoLuns c).length)))
    let s3 := (s2.put Reg.GRT_SERVICE_CHANNELS s2.vaultChannels.length).put Reg.GRT_VCAP_BYTES s2.vcap
    let s4 := (s3.put Reg.GRT_ERASED_BYTES (s3.erasedBands * s3.bandData)).put Reg.GRT_BANDS_ERASED s3.erasedBands
    let s5 := (s4.put Reg.GRT_BANDS_TOTAL s4.bandsTotal).put Reg.GRT_RETIRE_SPARES_MIN
      (minNat (s4.vaultChannels.map (fun c => lget sp c 0)))
    let low := s5.vaultChannels.any (fun c => decide (4 * lget sp c 0 < lget s5.grt.spares0 c 0))
    let s6 := (s5.putB Reg.GRT_STATUS_SPARES_LOW low).put Reg.FLC_STATUS_LUNS_ACTIVE s5.lunsActive
    let s7 := if s6.grt.formatted ∧ s6.vcap < s6.get Reg.GRT_CAP_CFG_MIN_CACHE * 2 ^ 30 then
        (({ s6 with grt := { s6.grt with capRo := true } } : State).put Reg.GRT_STATUS_CAP_RO 1).setCond 0x10
      else s6
    s7.syncWarn

/-- The open bands in rotation order. -/
def State.openBands (s : State) : List Band := s.grt.bands.filter (fun b => !b.closed)

/-- The number of open bands that R553 calls for. -/
def State.targetOpen (s : State) : Nat :=
  Nat.min 16 (minNat (s.vaultChannels.map (fun c => (s.activeLuns c).length)))

/-- A LUN holds an open Grotto block. -/
def State.lunOpen (s : State) (lun : Nat) : Bool :=
  s.openBands.any (fun b => b.blocks.any (fun x => match x with
    | some y => y.1 == lun
    | none => false))

/-- The first number from `n` on that an ascending list does not hold. -/
def firstGap : Nat → List Nat → Nat
  | n, [] => n
  | n, k :: t => if k = n then firstGap (n + 1) t else n

/-- The erased band block of a LUN with the lowest erase count (R553); of equals the lowest index (DESIGN CHOICE: the spec
names none). -/
def State.pickBlock (s : State) (lun : Nat) : Option Nat :=
  let listed := mfilter (fun k _ => k / 65536 == lun) s.grt.tbl
  let gap := firstGap 0 (listed.map (fun e => e.1 % 65536))
  if gap < s.get Reg.GRT_GEOM_BLOCKS then some gap
  else
    let free := listed.filter (fun e => e.2.st == .erased && !e.2.half)
    match free with
    | [] => none
    | h :: t => some ((t.foldl (fun b e => if e.2.ec < b.2.ec then e else b) h).1 % 65536)

/-- The block a new band takes on a channel (R553): on the LUN that the closed band released, else on another ACTIVE LUN
that holds no open block and has an erased one: the lowest numbered (DESIGN CHOICE: the spec names none). -/
def State.bandBlock (s : State) (ch : Nat) (prefer : Option Nat) : Option (Nat × Nat) :=
  let ls := (s.activeLuns ch).filter (fun l => !s.lunOpen l && decide (0 < s.erasedOn l))
  let lun := match prefer with
    | some p => if ls.contains p then some p else ls.head?
    | none => ls.head?
  match lun with
  | some l => (s.pickBlock l).map (fun b => (l, b))
  | none => none

/-- Open a band in the place of rotation `place` (R143, R553); nothing where a channel in vault service has no block for
it. -/
def State.openBand (s : State) (place : Nat) (prefer : List (Option Nat)) : State :=
  let blocks := channels16.map (fun c => s.bandBlock c (lget prefer c none))
  if s.vaultChannels.isEmpty || s.vaultChannels.any (fun c => (lget blocks c none).isNone) then s
  else
    let b : Band := ⟨s.grt.nextBand, blocks, 0, false, [], false⟩
    let s1 := { s with grt := { s.grt with
      bands := s.grt.bands.take place ++ [b] ++ s.grt.bands.drop place, nextBand := s.grt.nextBand + 1 } }
    (blocks.foldl (fun t x => match x with
      | some y => t.setBlk y.1 y.2 { t.blk y.1 y.2 with st := .inBand }
      | none => t) s1).grtSync

/-- Open bands until R553's number is reached or no block is left; at most `n` of them. -/
def State.openBandsN : Nat → State → State
  | 0, s => s
  | n + 1, s =>
    if s.openBands.length < s.targetOpen then
      State.openBandsN n (s.openBand s.openBands.length [])
    else s

/-- The positions of a band whose block takes a summary: on a LUN that takes programs, and not retired (R144, R168). -/
def State.sumsOf (s : State) (b : Band) : List Nat :=
  channels16.filter (fun p => match lget b.blocks p none with
    | some y => (s.lun y.1).st == .active && (s.blk y.1 y.2).st == .inBand
    | none => false)

/-- Close a band and open its successor in its place (R144, R553): summaries are written into its blocks. -/
def State.closeBand (s : State) (num : Nat) (reopen : Bool) : State :=
  match findPlace (fun b => b.num == num && !b.closed) s.grt.bands with
  | none => s
  | some i =>
    match s.grt.bands[i]? with
    | none => s
    | some b =>
      let c : Band := { b with closed := true, sums := s.sumsOf b, tail := !reopen }
      let s1 := { s with grt := { s.grt with bands := eraseAt s.grt.bands i ++ [c] } }
      if reopen then s1.openBand i (b.blocks.map (fun x => x.map (fun y => y.1))) else s1

/-- A LUN leaves vault service (R144): each open band with a block on it is closed at its current stripe. -/
def State.closeBandsOn (s : State) (lun : Nat) : State :=
  (s.openBands.filter (fun b => b.blocks.any (fun x => match x with
    | some y => y.1 == lun
    | none => false))).foldl (fun t b => t.closeBand b.num true) s

/-- The band that the next stripe goes to (R143, R553). -/
def State.nextBandFor (s : State) : Option Band :=
  match s.openBands with
  | [] => none
  | bs => bs[s.grt.rotation % bs.length]?

/-- The positions of a band that a stripe programs: a block on an ACTIVE LUN. -/
def State.bandLayout (s : State) (b : Band) : List Nat :=
  channels16.filter (fun p => match lget b.blocks p none with
    | some y => (s.lun y.1).st == .active
    | none => false)

/-- The position of data page `d` in a stripe of serial `n` (R145). -/
def pagePos (n d : Nat) : Nat := if d < n % 16 then d else d + 1

/-- The data page at position `p` of a stripe of serial `n`; none at the XOR position. -/
def posPage (n p : Nat) : Option Nat :=
  if p = n % 16 then none else some (if p < n % 16 then p else p - 1)

/-- The data pages that stay empty (R113): where two or more positions are unwritten, each data page at an unwritten
position but the lowest; each of them where the XOR page is unwritten too. -/
def emptiedPages (n : Nat) (layout : List Nat) : List Nat :=
  let un := (List.range 15).filter (fun d => !layout.contains (pagePos n d))
  if layout.contains (n % 16) then un.drop 1 else un

/-- The data pages that carry content. -/
def usablePages (n : Nat) (layout : List Nat) : List Nat :=
  (List.range 15).filter (fun d => !(emptiedPages n layout).contains d)

/-- Lay versions out in the 60 slots of a stripe: four to each usable page, in order (R145). -/
def fillPages (usable : List Nat) : List Nat → List GVer → List (Option GVer)
  | [], _ => []
  | d :: ds, vs =>
    if usable.contains d then
      let four := vs.take 4
      four.map some ++ List.replicate (4 - four.length) none ++ fillPages usable ds (vs.drop 4)
    else List.replicate 4 none ++ fillPages usable ds vs

/-- The versions that a payload carries. -/
def Payload.vers : Payload → List GVer
  | .data slots => slots.filterMap id
  | .manifest _ _ | .poisons _ => []

/-- The versions of one data page. -/
def Stripe.pageVers (x : Stripe) (d : Nat) : List (Nat × GVer) :=
  match x.payload with
  | .data slots => ((slots.drop (4 * d)).take 4).zipIdx.filterMap (fun e => e.1.map (fun v => (e.2, v)))
  | .manifest _ _ | .poisons _ => []

/-- A data page carries content. -/
def Stripe.pageUsed (x : Stripe) (d : Nat) : Bool :=
  match x.payload with
  | .data _ => !(x.pageVers d).isEmpty
  | .manifest _ _ | .poisons _ => (usablePages x.serial x.layout).contains d

/-- The positions of a stripe whose content cannot be read: lost pages, an unwritten XOR page, unwritten data pages that
are not empty (R113, R145). -/
def Stripe.missing (x : Stripe) : List Nat :=
  channels16.filter (fun p =>
    if x.layout.contains p then x.lost.contains p
    else match posPage x.serial p with
      | none => true
      | some d => !(emptiedPages x.serial x.layout).contains d)

/-- A stripe as the devices hold it now (R210): the pages on a LUN that is in no Grotto service cannot be read. -/
def State.deviceView (s : State) (x : Stripe) : Stripe :=
  match s.grt.bands.find? (fun b => b.num == x.band) with
  | none => x
  | some b =>
    let out (p : Nat) : Bool := match lget b.blocks p none with
      | some y => (s.lun y.1).st != .active && (s.lun y.1).st != .writeOut
      | none => false
    { x with lost := x.lost ++ x.layout.filter (fun p => out p && !x.lost.contains p) }

/-- The content of data page `d` can be read, directly or through parity (R123, R145). -/
def Stripe.readable (x : Stripe) (d : Nat) : Bool :=
  !x.missing.contains (pagePos x.serial d) || decide (x.missing.length ≤ 1)

/-- A stripe is lost to the dump (R113): two positions missing, an unwritten one counting where it holds a data page with
content. -/
def Stripe.lostToDump (x : Stripe) : Bool :=
  let un := (List.range 15).filter (fun d => !x.layout.contains (pagePos x.serial d) && x.pageUsed d)
  decide (2 ≤ x.lost.length + un.length)

/-- Stage a journal entry in the AON save area (R162, R163). -/
def Grotto.stage (g : Grotto) (secs code lun info b ec : Nat) : Grotto :=
  { g with staged := g.staged ++ [⟨code, lun, info, b, ec, secs % 2 ^ 32⟩] }

/-- Stage a journal entry (R162, R163). -/
def State.journalEntry (s : State) (code lun info b ec : Nat) : State :=
  { s with grt := s.grt.stage s.secs code lun info b ec }

/-- An erase's ERASE_START entry is staged and not yet on flash (R163). -/
def Grotto.startStaged (g : Grotto) (lun b : Nat) : Bool :=
  g.staged.any (fun e => e.code == 1 && e.lun == lun && e.block == b)

/-- Whether the next descriptor of a ring can move on (R199): to a slot of its LUN (`some true`), from rings 32 and 33 to the
LUN's park list (`some false`), or not yet. -/
def State.ringMoves (s : State) (d : Desc) : Option Bool :=
  let l := s.lun d.lun
  if decide (l.slots < 16) && l.park.isEmpty then some true
  else if decide (32 ≤ d.ring) && decide (l.park.length < 8) then some false
  else none

/-- Put a descriptor into a slot of its LUN, or on its park list (R199, R219). -/
def State.placeDesc (s : State) (d : Desc) (slot : Bool) : State :=
  let l := s.lun d.lun
  if slot then
    let s1 := s.setLun d.lun { l with queue := l.queue ++ [d] }
    s1.put Reg.FLC_INFLIGHT_PEAK (Nat.max (s1.get Reg.FLC_INFLIGHT_PEAK) s1.slotsHeld)
  else s.setLun d.lun { l with park := l.park ++ [d] }

/-- What waits in a ring. -/
def State.ringHeld (s : State) (k : Nat) : List Desc := mgetD s.flc.rings k []

/-- Put a descriptor into its ring (R199): it moves on at once unless the ring waits. -/
def State.queueDesc (s : State) (d : Desc) : State :=
  match (if s.ringHeld d.ring = [] then s.ringMoves d else none) with
  | some slot => s.placeDesc d slot
  | none => { s with flc := { s.flc with rings := mset s.flc.rings d.ring (s.ringHeld d.ring ++ [d]) } }

/-- Keep at most three of the Ledger pointers beside a new one (R201). -/
def keepLedger (m : NMap Nat) (key : Nat) : NMap Nat :=
  let others := mfilter (fun k _ => k / 65536 == 1 && k != key) m
  match others with
  | x :: _ => if 4 ≤ others.length then mdel m x.1 else m
  | [] => m

/-- The write pointer of a block after its program of `page` is submitted: a LUN holds one Grotto pointer and four Ledger
pointers (R201). DESIGN CHOICE: the pointer kept names the page after the last one submitted; a program below it is out of
order, and a read at or above it finds an erased page. With the last page itself as the pointer, R201's 'at or above' would
make that page unreadable. A fifth Ledger pointer displaces the lowest-numbered one. -/
def Lun.wrote (l : Lun) (area b page : Nat) : Lun :=
  let keep := if area = 0 then mfilter (fun k _ => k / 65536 != 0 || k == b) l.wps else keepLedger l.wps (area * 65536 + b)
  { l with wps := mset keep (area * 65536 + b) (page + 1) }

/-- A descriptor of the stripe engine or of GC: PROGRAM or ERASE of a Grotto block. -/
def grottoDesc (op cls ring seq lun b page grant : Nat) : Desc :=
  { op := op, cls := cls, int := false, dep := false, slc := true, noSusp := false, ring := ring, seq := seq, lun := lun,
    area := 0, cwMask := 0, planes := 0, block := b, page := page, grant := grant, buf := 0, hdrBuf := 0, depTag := 0,
    arg := 0, rsvd := 0 }

/-- Spend endurance tokens for `n` stripes (R84). -/
def State.spendTokens (s : State) (n : Nat) : State :=
  s.putI Reg.UMB_ENDUR_LEVEL_LEVEL (s.getI Reg.UMB_ENDUR_LEVEL_LEVEL - (n * 262144 : Nat))

/-- The issue class and ring of a writer's programs (R195, R200): the dump engine's own ring of the channel, else CP2's. -/
def Writer.classRing (w : Writer) (p : Nat) : Nat × Nat :=
  match w with
  | .vault | .rehearsal => (1, p)
  | .seep | .gc => (6, 32)

/-- The stripe that band `b` takes next (R143–R147): the next serial, the band's next page. `mk` gives the payload for the
serial and the layout. -/
def State.newStripe (s : State) (b : Band) (rewriteOf vault : Nat) (mk : Nat → List Nat → Payload) : Stripe :=
  let n := s.get Reg.GRT_SERIAL_NEXT
  let layout := s.bandLayout b
  { serial := n, band := b.num, page := b.next, session := s.get Reg.GRT_SESSION_SESSION, vault := vault,
    rewriteOf := rewriteOf, keyGen := s.get Reg.GRT_KEY_KEY_GEN, layout := layout, lost := [], payload := mk n layout }

/-- A stripe enters the log (R144): the serial, the band's page, the rotation and the endurance bucket (R84) move on. -/
def State.logStripe (s : State) (b : Band) (x : Stripe) : State :=
  let s1 := { s with grt := { s.grt with
    stripes := s.grt.stripes ++ [x], rotation := s.grt.rotation + 1,
    bands := s.grt.bands.map (fun (c : Band) => if c.num = b.num then { c with next := c.next + 1 } else c) } }
  (s1.put Reg.GRT_SERIAL_NEXT (x.serial + 1)).spendTokens 1

/-- A band whose last stripe page is taken closes (R143, R144). -/
def State.closeFull (s : State) (b : Band) : State := if s.bandPages ≤ b.next + 1 then s.closeBand b.num true else s

/-- Hand a stripe to the flash kernel (R144): it takes the next serial and the next page of band `b`, and a program is
submitted for each position of its layout. -/
def State.handStripe (s : State) (b : Band) (w : Writer) (grant rewriteOf vault : Nat) (mk : Nat → List Nat → Payload) :
    State :=
  let x := s.newStripe b rewriteOf vault mk
  let f : Flight := ⟨x, w, x.layout, [], [], grant, false⟩
  let s1 := s.logStripe b x
  let s2 := { s1 with grt := { s1.grt with flights := s1.grt.flights ++ [f] } }
  let s3 := x.layout.foldl (fun t p => match lget b.blocks p none with
    | some y =>
      let cr := w.classRing p
      let t1 := { t with flc := { t.flc with nextTag := t.flc.nextTag + 1 } }
      let t2 := t1.setLun y.1 ((t1.lun y.1).wrote 0 y.2 b.next)
      t2.queueDesc (grottoDesc 3 cr.1 cr.2 t.flc.nextTag y.1 y.2 b.next grant)
    | none => t) s2
  s3.closeFull b

/-- The granules a stripe in the next open band can carry. -/
def State.stripeRoom (s : State) (b : Band) : Nat :=
  4 * (usablePages (s.get Reg.GRT_SERIAL_NEXT) (s.bandLayout b)).length

/-- Make a data payload of versions. -/
def dataPayload (vs : List GVer) (n : Nat) (layout : List Nat) : Payload :=
  .data (fillPages (usablePages n layout) (List.range 15) vs)

/-- The version of a granule that a stripe stores (R146): what DRAM holds, with its poison mark and sector mask (R53); a
granule with an uncorrectable burst is marked with mask 0 (R270). -/
def State.gver (s : State) (g source : Nat) (copy bad : Bool) : GVer :=
  let v := s.gran g
  let p := mget s.pmr.poison g
  { gran := s.granIndex g, owner := s.granOwner g, seq := v.seq, epoch := v.epoch, poison := bad || p.isSome,
    mask := if bad then 0 else (p.map (fun q => q.mask)).getD 0, copy := copy, source := source, data := s.granImage g }

/-- The cache granule a version is of. -/
def State.verGran (s : State) (v : GVer) : Nat := s.granOf v.owner v.gran

/-- Point a granule's map entry at its newest version on flash (R158); an entry in a frozen channel takes no update (R271). -/
def State.mapTo (s : State) (g serial d slot : Nat) : State :=
  let e := s.ent g
  if !s.mapKnown g then s
  else s.setEnt g { e with loc := some (serial, d, slot), st := if e.st = .noVersion then .copied else e.st }

/-- Clear Dirty and set Seeped of a granule (R18). -/
def State.clean (s : State) (g : Nat) : State :=
  s.setGran g { s.gran g with dirty := false, seeped := true }

/-- Replace a retired block by a spare of its channel on any ACTIVE LUN (R168). DESIGN CHOICE: which spare the spec leaves
open; a band block takes the last in LUN and block order, a record or black-box block the first, so that a record block's
replacement lies among the blocks that the seal search reads (R151) while there is one. -/
def State.useSpare (s : State) (ch : Nat) (role : BlkSt) : State :=
  let cand := mfilter (fun k b => k / 65536 % 16 == ch && b.st == .spare && (s.lun (k / 65536)).st == .active) s.grt.tbl
  match (if role = .erased then cand.getLast? else cand.head?) with
  | none => s
  | some (k, b) =>
    let s1 := (s.setBlk (k / 65536) (k % 65536) { b with st := role }).journalEntry 4 (k / 65536) 0 (k % 65536) b.ec
    let s2 := if role = .record then
        { s1 with grt := { s1.grt with recs := s1.grt.recs ++ [⟨ch, k / 65536, k % 65536, 0, []⟩] } } else s1
    if role = .erased then s2 else s2.journalEntry 5 (k / 65536) role.code (k % 65536) b.ec

/-- Retire a Grotto block (R162, R168): journalled with its reason, replaced by a spare. -/
def State.retireBlk (s : State) (lun b reason : Nat) : State :=
  let v := s.blk lun b
  if v.st = .retired then s
  else
    let role := if v.st = .record ∨ v.st = .blackBox then v.st else .erased
    let s1 := (s.setBlk lun b { v with st := .retired, half := false }).journalEntry 3 lun reason b v.ec
    let s2 := s1.incSat Reg.GRT_RETIRE_RETIRED 1
    (if v.st = .spare then s2 else s2.useSpare (lun % 16) role).grtSync

/-- The erase limit of a block (R168): 1.5 × PE_LIMIT, in units of ten cycles. -/
def State.wearLimit (s : State) : Nat := 15 * s.get Reg.UMB_ENDUR_CFG_PE_LIMIT

/-- A count has reached the erase limit. -/
def State.wornOut (s : State) (ec : Nat) : Bool := decide (0 < s.wearLimit) && decide (s.wearLimit ≤ ec)

/-- A LUN changes state (R210): LUN_EV, an event of the given severity, the service counts. One that leaves vault service has a
rehearsal wanted (R88). -/
def State.lunState (s : State) (lun : Nat) (st : LunSt) (sev : Nat) : State :=
  let l := s.lun lun
  if l.st = st then s
  else
    let s0 := s.setLun lun { l with st := st }
    let s1 := if l.st = .active then { s0 with umb := { s0.umb with wanted := true } } else s0
    let s2 := ((s1.closeBandsOn lun).ev .flc 0x0001 sev lun).raise Reg.FLC_STATUS_LUN_EV Reg.FLC_CTRL_INT_EN 59
    s2.grtSync

/-- Retire every block of a LUN that leaves service for good (R168): reason 4. -/
def State.retireLun (s : State) (lun : Nat) : State :=
  (List.range (s.get Reg.GRT_GEOM_BLOCKS)).foldl (fun t b => t.retireBlk lun b 4) s

end Sys2Proof.Machine
end

