-- ==== Sys2Proof/Machine/RecordOps.lean ====
section
/-! DEFINITION. The record blocks (R151, R152, R155, R161–R163): where the copies of a record go, taking the other block when the
current one is full, snapshots, journal pages, erases under the journal's rule, the seal search. What they do concerns the Grotto
alone. -/

namespace Sys2Proof.Machine

/-- What the record operations read of the device: pages of a block, Grotto blocks of a LUN, the operating second, the LUNs
in Grotto service in ascending order, and those among them that take programs. -/
structure RecEnv where
  pages  : Nat
  blocks : Nat
  secs   : Nat
  luns   : List Nat
  active : List Nat
deriving DecidableEq, Repr

/-- The device as it is now. -/
def State.recEnv (s : State) : RecEnv :=
  { pages := s.get Reg.GRT_GEOM_PAGES, blocks := s.get Reg.GRT_GEOM_BLOCKS, secs := s.secs,
    luns := (mfilter (fun _ (l : Lun) => l.st == .active || l.st == .writeOut) s.flc.luns).map (fun e => e.1),
    active := (mfilter (fun _ (l : Lun) => l.st == .active) s.flc.luns).map (fun e => e.1) }

/-- The LUNs of a list on a channel. -/
def onChan (l : List Nat) (ch : Nat) : List Nat := l.filter (fun n => n % 16 == ch)

/-- The channels of each group of four on which a record can be programmed, in order (R112, R155). -/
def RecEnv.groups (e : RecEnv) : List (List Nat) :=
  [0, 4, 8, 12].map (fun c => [c, c + 1, c + 2, c + 3].filter (fun k => !(onChan e.active k).isEmpty))

/-- An entry of the block-state table. -/
def Grotto.blkAt (g : Grotto) (lun b : Nat) : Blk := mgetD g.tbl (blkKey lun b) Blk.fresh

/-- A record block takes pages: its role stands and its LUN takes programs. -/
def Grotto.recUsable (g : Grotto) (e : RecEnv) (b : RecBlock) : Bool :=
  e.active.contains b.lun && (g.blkAt b.lun b.block).st == .record

/-- The last record of a block. -/
def RecBlock.last (b : RecBlock) : Nat := (((b.pages.filter (fun p => !p.bad)).getLast?).map (fun p => p.seq)).getD 0

/-- Block `b` is the newer of two record blocks (R160): higher GEN, then the higher REC_SEQ in its last record. -/
def RecBlock.newer (a b : RecBlock) : Bool :=
  decide (a.gen < b.gen) || (a.gen == b.gen && decide (a.last < b.last))

/-- The current record block of a channel. -/
def Grotto.recCur (g : Grotto) (e : RecEnv) (ch : Nat) : Option RecBlock :=
  match g.recs.filter (fun b => b.chan == ch && g.recUsable e b && !b.pages.isEmpty) with
  | [] => none
  | h :: t => some (t.foldl (fun a b => if a.newer b then b else a) h)

/-- The record block of a channel that is kept erased (R151). -/
def Grotto.recBlank (g : Grotto) (e : RecEnv) (ch : Nat) : Option RecBlock :=
  g.recs.find? (fun b => b.chan == ch && g.recUsable e b && b.pages.isEmpty)

/-- The highest generation on a channel. -/
def Grotto.recGen (g : Grotto) (ch : Nat) : Nat :=
  ((g.recs.filter (fun b => b.chan == ch)).map (fun b => b.gen)).foldl Nat.max 0

/-- Append a page to a record block. -/
def Grotto.recPut (g : Grotto) (lun b : Nat) (p : RecPage) : Grotto :=
  { g with recs := g.recs.map (fun (r : RecBlock) =>
      if r.lun = lun ∧ r.block = b then { r with pages := r.pages ++ [p] } else r) }

/-- The snapshot pages of the block-state table (R161): 4,088 entries each, LUN by LUN, then in block order. -/
def Grotto.snapshots (g : Grotto) (e : RecEnv) : List RecBody :=
  let pageOf (k : Nat) : Nat := (((findPlace (fun n => n == k / 65536) e.luns).getD 0) * e.blocks + k % 65536) / 4088
  (List.range (Nat.max 1 (ceilDiv (e.luns.length * e.blocks) 4088))).map (fun i =>
    .snapshot i (mfilter (fun k _ => e.luns.contains (k / 65536) && pageOf k == i) g.tbl))

/-- An erased record block becomes current (R151): a head record of generation `gen`, then a snapshot. DESIGN CHOICE: the
newest open record is copied after it, so that the old block may be erased. -/
def Grotto.recTurn (g : Grotto) (e : RecEnv) (b : RecBlock) (copy gen : Nat) : Grotto :=
  let g1 := { g with recs := g.recs.map (fun (r : RecBlock) =>
    if r.lun = b.lun ∧ r.block = b.block then { r with gen := gen } else r) }
  let g2 := (RecBody.head :: g1.snapshots e).foldl (fun h x =>
    { h.recPut b.lun b.block ⟨h.recSeq + 1, copy, x, false⟩ with recSeq := h.recSeq + 1 }) g1
  match g2.opens.getLast? with
  | some o => g2.recPut b.lun b.block ⟨o.recSeq, copy, .opened, false⟩
  | none => g2

/-- Two record blocks for a channel that has none: of the first 32 Grotto blocks of its lowest LUN that takes programs (R151), the
first that no band holds. -/
def Grotto.recNew (g : Grotto) (e : RecEnv) (ch copy : Nat) : Grotto :=
  match (onChan e.active ch).head? with
  | none => g
  | some l =>
    let free := ((List.range 32).filter (fun b => decide (b < e.blocks) && !(g.blkAt l b).half &&
      ((g.blkAt l b).st == .erased || (g.blkAt l b).st == .spare))).take 2
    let g1 := free.foldl (fun h b =>
      let v := h.blkAt l b
      ({ h with tbl := mput Blk.fresh h.tbl (blkKey l b) { v with st := .record },
                recs := h.recs ++ [⟨ch, l, b, 0, []⟩] } : Grotto).stage e.secs 5 l BlkSt.record.code b v.ec) g
    match free with
    | b :: _ => g1.recTurn e ⟨ch, l, b, 0, []⟩ copy (g.recGen ch + 1)
    | [] => g1

/-- Make room for a record on a channel, with `margin` pages left free behind it (R151). -/
def Grotto.recReady (g : Grotto) (e : RecEnv) (ch copy margin : Nat) : Grotto :=
  match g.recCur e ch with
  | some b =>
    if b.pages.length + 1 + margin ≤ e.pages then g
    else
      match g.recBlank e ch with
      | some n => g.recTurn e n copy (g.recGen ch + 1)
      | none => g
  | none =>
    match g.recBlank e ch with
    | some n => g.recTurn e n copy (g.recGen ch + 1)
    | none => g.recNew e ch copy

/-- Where the next record of a channel goes: LUN, block and page. -/
def Grotto.recPlace (g : Grotto) (e : RecEnv) (ch : Nat) : Option (Nat × Nat × Nat) :=
  match g.recCur e ch with
  | some b => if b.pages.length < e.pages then some (b.lun, b.block, b.pages.length) else none
  | none => none

/-- A round of copies of one record: the Grotto after it, the places that took a copy, the blocks whose program failed. -/
structure RecRound where
  grt  : Grotto
  good : List (Nat × Nat × Nat)
  bad  : List (Nat × Nat)
deriving DecidableEq, Repr

/-- One copy of a record (R112, R155): the channels in order until one takes it; on a channel of `fails` the program fails and the
page is spent. -/
def RecRound.copy (e : RecEnv) (copy margin : Nat) (fails : List Nat) (seq : Nat) (body : RecBody) :
    List Nat → RecRound → RecRound
  | [], r => r
  | ch :: t, r =>
    let g := r.grt.recReady e ch copy margin
    match g.recPlace e ch with
    | none => RecRound.copy e copy margin fails seq body t { r with grt := g }
    | some (l, b, p) =>
      if fails.contains ch then
        RecRound.copy e copy margin fails seq body t
          { r with grt := g.recPut l b ⟨seq, copy, .waste, false⟩, bad := r.bad ++ [(l, b)] }
      else { r with grt := g.recPut l b ⟨seq, copy, body, false⟩, good := r.good ++ [(l, b, p)] }

/-- A round of copies, one for each list of channels (R112, R155): they share the next REC_SEQ (R152). -/
def Grotto.recRound (g : Grotto) (e : RecEnv) (margin : Nat) (lists : List (List Nat)) (fails : List Nat) (body : RecBody) :
    RecRound :=
  lists.zipIdx.foldl (fun r x => RecRound.copy e x.2 margin fails (g.recSeq + 1) body x.1 r)
    ⟨{ g with recSeq := g.recSeq + 1 }, [], []⟩

/-- Flush up to 1,021 staged entries as one page, in two copies on two record channels (R163): the first two groups that have
one. -/
def Grotto.journalPage (g : Grotto) (e : RecEnv) : Grotto :=
  let n := Nat.min 1021 g.staged.length
  let r := g.recRound e 4 ((e.groups.filter (fun l => !l.isEmpty)).take 2) [] (.journal g.journal.length n)
  if n = 0 ∨ r.good = [] then g
  else { r.grt with staged := r.grt.staged.drop n, journal := r.grt.journal ++ g.staged.take n }

/-- Flush page after page, at most `n`. -/
def Grotto.journalPages (e : RecEnv) : Nat → Grotto → Grotto
  | 0, g => g
  | n + 1, g => Grotto.journalPages e n (g.journalPage e)

/-- Flush all that is staged. -/
def Grotto.journalAll (g : Grotto) (e : RecEnv) : Grotto := Grotto.journalPages e (ceilDiv g.staged.length 1021) g

/-- The count of a block after one more erase (R161, R205). -/
def Blk.worn (v : Blk) : Nat := Nat.min (2 ^ 24 - 1) (v.ec + 1)

/-- Erase a Grotto block (R163): ERASE_START is on flash first; the erase leaves state `st` and the next count. -/
def Grotto.eraseAs (g : Grotto) (e : RecEnv) (lun b : Nat) (st : BlkSt) : Grotto :=
  let v := g.blkAt lun b
  let g1 := (g.stage e.secs 1 lun 0 b v.worn).journalAll e
  { g1 with
    tbl := mput Blk.fresh g1.tbl (blkKey lun b) { v with st := st, ec := v.worn, half := false },
    recs := g1.recs.map (fun (r : RecBlock) => if r.lun = lun ∧ r.block = b then { r with gen := 0, pages := [] } else r) }

/-- An erase that ended well: ERASE_DONE is staged (R162). -/
def Grotto.eraseDone (g : Grotto) (e : RecEnv) (lun b : Nat) (st : BlkSt) : Grotto :=
  (g.eraseAs e lun b st).stage e.secs 2 lun 0 b (g.blkAt lun b).worn

/-- A block holds a seal or an open record. -/
def RecBlock.anchored (b : RecBlock) : Bool := b.pages.any (fun p => p.body == .seal || p.body == .opened)

/-- Erase the old record blocks whose successors hold a seal or an open record (R151). -/
def Grotto.recClean (g : Grotto) (e : RecEnv) : Grotto :=
  channels16.foldl (fun h ch => match h.recCur e ch with
    | some cur =>
      if cur.anchored then
        (h.recs.filter (fun b => b.chan == ch && h.recUsable e b && !b.pages.isEmpty && b != cur)).foldl
          (fun k b => k.eraseDone e b.lun b.block .record) h
      else h
    | none => h) g

/-! The seal search (R119, R151). -/

/-- The record blocks found on a channel: those among the first 32 Grotto blocks of its lowest LUN in Grotto service whose page 0
reads as a head record. -/
def Grotto.foundOn (g : Grotto) (e : RecEnv) (ch : Nat) : List RecBlock :=
  match (onChan e.luns ch).head? with
  | none => []
  | some l => g.recs.filter (fun b => b.lun == l && decide (b.block < 32) &&
      (match b.pages with
       | p :: _ => !p.bad && p.body == .head
       | [] => false))

/-- The record blocks that the search finds: in each group those of the first channel that holds one. -/
def Grotto.found (g : Grotto) (e : RecEnv) : List RecBlock :=
  ([0, 4, 8, 12].map (fun c =>
    (([c, c + 1, c + 2, c + 3].map (g.foundOn e)).find? (fun l => !l.isEmpty)).getD [])).flatten

/-- The pages of the found blocks that can be read. -/
def Grotto.foundPages (g : Grotto) (e : RecEnv) : List RecPage :=
  ((g.found e).map (fun b => b.pages.filter (fun p => !p.bad))).flatten

/-- A readable copy of a record is found. -/
def Grotto.readable (g : Grotto) (e : RecEnv) (body : RecBody) (seq : Nat) : Bool :=
  (g.foundPages e).any (fun p => p.body == body && p.seq == seq)

/-- The record page at a place: LUN, block and page. -/
def Grotto.recAt (g : Grotto) (y : Nat × Nat × Nat) : Option RecPage :=
  match g.recs.find? (fun b => b.lun == y.1 && b.block == y.2.1) with
  | some b => b.pages[y.2.2]?
  | none => none

/-! The block-state table from the journal (R160, R161, R164). -/

/-- How much less usable an entry leaves its block (R160): retired, then ERASE_START, then a role, then a spare put to use. -/
def JEnt.weight (e : JEnt) : Nat :=
  if e.code = 3 then 4 else if e.code = 1 then 3 else if e.code = 5 then 2 else if e.code = 4 then 1 else 0

/-- The state that a number names (R161). -/
def BlkSt.ofCode (n : Nat) : BlkSt :=
  if n = 0 then .erased else if n = 1 then .inBand else if n = 2 then .record else if n = 3 then .blackBox
  else if n = 4 then .spare else if n = 6 then .retired else .unknown

/-- What an entry makes of its block (R162). -/
def JEnt.apply (e : JEnt) (v : Blk) : Blk :=
  if e.code = 1 then { v with ec := e.ec, st := if v.st = .inBand ∨ v.st = .erased then .unknown else v.st }
  else if e.code = 2 then { v with ec := e.ec, st := if v.st = .inBand ∨ v.st = .unknown then .erased else v.st }
  else if e.code = 3 then { v with st := .retired }
  else if e.code = 4 then { v with st := .erased }
  else if e.code = 5 then { v with st := BlkSt.ofCode e.info }
  else v

/-- The block-state table replayed, and the newest entry of each block that the journal names. -/
structure Replay where
  tbl  : NMap Blk
  last : NMap Nat
deriving DecidableEq, Repr

/-- Replay one entry. -/
def Replay.add (r : Replay) (e : JEnt) : Replay :=
  let k := blkKey e.lun e.block
  ⟨mset r.tbl k (e.apply (mgetD r.tbl k ⟨.unknown, 0, 0, false, false⟩)), mset r.last k e.code⟩

/-- The newest snapshot found (R164): the record block whose head has the highest REC_SEQ among those with a readable snapshot. -/
def Grotto.snapBlock (g : Grotto) (e : RecEnv) : Option RecBlock :=
  let has (b : RecBlock) : Bool := b.pages.any (fun p => !p.bad && (match p.body with
    | .snapshot _ _ => true
    | _ => false))
  let first (b : RecBlock) : Nat := ((b.pages.head?).map (fun p => p.seq)).getD 0
  match (g.found e).filter has with
  | [] => none
  | h :: t => some (t.foldl (fun a b => if first a < first b then b else a) h)

/-- The journal entries on flash after a record sequence, each page once, in order (R160, R163). -/
def Grotto.journalSince (g : Grotto) (e : RecEnv) (seq : Nat) : List JEnt :=
  let pages := (g.foundPages e).foldl (fun (m : NMap (Nat × Nat)) p => match p.body with
    | .journal lo n => if seq < p.seq then mset m p.seq (lo, n) else m
    | _ => m) []
  (pages.map (fun x => (g.journal.drop x.2.1).take x.2.2)).flatten

/-- An entry that only one of two differing journal copies holds: the one that marks the block less usable counts (R160). -/
def Replay.worse (r : Replay) (e : JEnt) : Replay :=
  let now := JEnt.weight { e with code := mgetD r.last (blkKey e.lun e.block) 2 }
  if now < e.weight then r.add e else r

/-- Replay the journal, and what AON still stages, over the newest snapshot (R164). `differ` lists the entries that only one
copy of a journal page holds. -/
def Grotto.replay (g : Grotto) (e : RecEnv) (staged differ : List JEnt) : Replay :=
  let base : NMap Blk × Nat := match g.snapBlock e with
    | some b =>
      ((b.pages.filter (fun p => !p.bad)).foldl (fun (m : NMap Blk) p => match p.body with
        | .snapshot _ t => t.foldl (fun n x => mset n x.1 x.2) m
        | _ => m) [], ((b.pages.head?).map (fun p => p.seq)).getD 0)
    | none => ([], 0)
  differ.foldl Replay.worse ((g.journalSince e base.2 ++ staged).foldl Replay.add ⟨base.1, []⟩)

end Sys2Proof.Machine
end

