-- ==== Sys2Proof/Machine/GrottoOps.lean ====
section
/-! DEFINITION. The Grotto at work (R163–R168): journal flushes, garbage collection, the ends of stripes, rewriting a
stripe whose page failed, and what a loss of power leaves of the stripes in flight. -/

namespace Sys2Proof.Machine

/-- Change a stripe of the log. -/
def State.updStripe (s : State) (serial : Nat) (f : Stripe → Stripe) : State :=
  { s with grt := { s.grt with stripes := s.grt.stripes.map (fun (x : Stripe) => if x.serial = serial then f x else x) } }

/-- Change a stripe in flight. -/
def State.updFlight (s : State) (serial : Nat) (f : Flight → Flight) : State :=
  { s with grt := { s.grt with flights := s.grt.flights.map (fun (x : Flight) => if x.stripe.serial = serial then f x else x) } }

/-- A stripe in flight. -/
def State.flightOf (s : State) (serial : Nat) : Option Flight := s.grt.flights.find? (fun f => f.stripe.serial == serial)

/-- Forget a stripe in flight. -/
def State.endFlight (s : State) (serial : Nat) : State :=
  { s with grt := { s.grt with flights := s.grt.flights.filter (fun f => f.stripe.serial != serial) } }

/-- The reserve target in bytes (R165). -/
def State.gcTarget (s : State) : Nat :=
  let t := s.get Reg.GRT_RESV_CFG_TARGET
  Nat.min s.vcap (if t = 0 then s.cacheGrans * 4096 else t * 2 ^ 30)

/-- Data bytes of the erased bands (R170). -/
def State.erasedBytes (s : State) : Nat := s.erasedBands * s.bandData

/-- The blocks of a band with a property. -/
def State.bandHas (s : State) (b : Band) (p : Nat → Blk → Bool) : Bool :=
  b.blocks.any (fun x => match x with
    | some y => p y.1 (s.blk y.1 y.2)
    | none => false)

/-- A LUN being evacuated: WRITE_OUT after its test failed (R210). -/
def State.evacuating (s : State) (lun : Nat) : Bool := (s.lun lun).st == .writeOut && !(s.lun lun).awaitTest

/-- The closed bands that GC takes ahead of the others: on a LUN being evacuated, then with a REFRESH flag (R193, R210). -/
def State.urgentBands (s : State) : List Band :=
  let cl := s.grt.bands.filter (fun b => b.closed)
  cl.filter (fun b => s.bandHas b (fun n _ => s.evacuating n)) ++ cl.filter (fun b => s.bandHas b (fun _ k => k.refresh))

/-- GC is wanted (R165, R193, R210). -/
def State.gcWanted (s : State) : Bool :=
  !s.urgentBands.isEmpty ||
    decide (s.erasedBytes < s.gcTarget + s.get Reg.GRT_GC_CFG_START * s.bandData)

/-- The poison-list stripes that the newest open record names (R154). -/
def OpenRecord.lists (o : OpenRecord) (x : Stripe) : Bool :=
  decide (o.plFirst ≠ 0) && decide (o.plFirst ≤ x.serial) && decide (x.serial ≤ o.plLast) && (match x.payload with
    | .poisons _ => true
    | _ => false)

/-- A band that GC leaves alone (R166): it holds a poison-list stripe that the newest open record names by its serial, or a
manifest that no open record follows yet. -/
def State.pinned (s : State) (b : Band) : Bool :=
  let o := s.grt.opens.getLast?
  s.grt.stripes.any (fun x => x.band == b.num && (match x.payload with
    | .data _ => false
    | .poisons _ => o.any (fun r => r.lists x)
    | .manifest _ _ => !(o.any (fun r => decide (x.vault ≤ r.follows)))))

/-- GC may run (R165): never while RESTORING, in deficit, in the DEEP preparation
(R386) or held, unless the reserve is below one stripe. -/
def State.gcAllowed (s : State) : Bool :=
  !(s.pmr.st == .restoring || s.deficit || s.pwr.prep == 2 || s.flag Reg.GRT_CTRL_GC_HOLD) || decide (s.erasedBytes < stripeBytes)

/-- A later stripe outside a band holds the same version too. -/
def State.copiedOut (s : State) (num serial : Nat) (v : GVer) : Bool :=
  s.grt.stripes.any (fun y => y.band != num && decide (serial < y.serial) && (List.range 15).any (fun d =>
    (y.pageVers d).any (fun e => e.2.gran == v.gran && e.2.owner == v.owner && e.2.seq == v.seq)))

/-- A version of a band is live (R166): its granule's map entry names its place, or is unknown (R271) and GC has not copied
it yet. -/
def State.isLive (s : State) (num serial d slot : Nat) (v : GVer) : Bool :=
  let g := s.verGran v
  if s.mapKnown g then (s.ent g).loc == some (serial, d, slot) else !s.copiedOut num serial v

/-- The live versions of a band with their places (R166): those on pages that can be read. -/
def State.liveOf (s : State) (num : Nat) : List (Nat × Nat × Nat × GVer) :=
  (((s.grt.stripes.filter (fun x => x.band == num)).map s.deviceView).map (fun x =>
    ((List.range 15).map (fun d => if x.readable d then
      ((x.pageVers d).filter (fun v => s.isLive num x.serial d v.1 v.2)).map
        (fun v => (x.serial, d, v.1, v.2)) else [])).flatten)).flatten

/-- The lowest stripe serial of a band. -/
def State.baseSerial (s : State) (num : Nat) : Nat :=
  minNat ((s.grt.stripes.filter (fun x => x.band == num)).map (fun x => x.serial))

/-- The blocks of a band. -/
def Band.members (b : Band) : List (Nat × Nat) := b.blocks.filterMap id

/-- The mean erase count of a band's blocks (R165), exact in units of 1 / 720,720, which every number up to 16 divides. -/
def State.meanWear (s : State) (b : Band) : Nat :=
  sumNat (b.members.map (fun y => (s.blk y.1 y.2).ec)) * 720720 / Nat.max 1 b.members.length

/-- The least of a list under a key pair. -/
def leastBy {α : Type} (k : α → Nat × Nat) : List α → Option α
  | [] => none
  | h :: t => some (t.foldl (fun b x => if (k x).1 < (k b).1 ∨ ((k x).1 = (k b).1 ∧ (k x).2 < (k b).2) then x else b) h)

/-- The next victim (R165, R193): an urgent band, each WEAR_EVERY-th the least worn, else the fewest live granules. DESIGN
CHOICE: the lowest BASE_SERIAL decides between equally worn bands too; the spec gives that rule for the fewest live granules.
-/
def State.gcVictim (s : State) : Option Band :=
  match s.urgentBands.filter (fun b => !s.pinned b) with
  | b :: _ => some b
  | [] =>
    let cl := s.grt.bands.filter (fun b => b.closed && !(s.grt.flights.any (fun f => f.stripe.band == b.num)) && !s.pinned b)
    let every := s.get Reg.GRT_GC_CFG_WEAR_EVERY
    if every ≠ 0 ∧ (s.grt.gcCount + 1) % every = 0 then
      leastBy (fun b => (s.meanWear b, s.baseSerial b.num)) cl
    else leastBy (fun b => ((s.liveOf b.num).length, s.baseSerial b.num)) cl

/-- The erased bands have not reached the stop level (R165). -/
def State.gcMore (s : State) : Bool :=
  decide (s.erasedBytes < s.gcTarget + s.get Reg.GRT_GC_CFG_STOP * s.bandData)

/-- Choose a victim and begin, if GC is wanted, or ordered (`now`) below the stop level, and may run; GC_HELD shows a stop,
of a GC under way too (R165, R176). -/
def State.gcCheck (s : State) (now : Bool) : State :=
  if !s.grt.formatted || s.get Reg.GRT_GEOM_PAGES == 0 || s.vaulting || s.flag Reg.SYS_STATUS_SAFE then s
  else if s.grt.gc.isSome then (s.putB Reg.GRT_STATUS_GC_HELD (!s.gcAllowed)).putB Reg.GRT_STATUS_GC_ACTIVE s.gcAllowed
  else if !(s.gcWanted || (now && s.gcMore)) then s.put Reg.GRT_STATUS_GC_HELD 0
  else if !s.gcAllowed then s.put Reg.GRT_STATUS_GC_HELD 1
  else
    match s.gcVictim with
    | none => s.put Reg.GRT_STATUS_GC_HELD 0
    | some b => (({ s with grt := { s.grt with gc := some ⟨b.num, [], 0⟩ } } : State).put Reg.GRT_STATUS_GC_ACTIVE 1).put
        Reg.GRT_STATUS_GC_HELD 0

/-- A GC copy of a live version (R146, R166): a POISONED granule's copy carries the mark and its present mask. -/
def State.gcCopy (s : State) (v : GVer) : GVer :=
  let g := s.verGran v
  if (s.ent g).st = .poisoned then
    { v with copy := true, source := 2, poison := true,
             mask := ((mget s.pmr.poison g).map (fun p => p.mask)).getD v.mask }
  else { v with copy := true, source := 2 }

/-- Is there a granted stripe of an operation that no stripe in flight uses? -/
def State.freeGrant (s : State) (op : LeaveOp) : Option Nat :=
  ((s.broker.held.filter (fun l => l.op == op && !(s.grt.flights.any (fun f => f.grant == l.id + 1)))).map
    (fun l => l.id)).head?

/-- Hold a grant for one more stripe: a free one, else ask the broker unless a request waits. A grant's identifier in a
descriptor is its number plus one, since 0 asks the kernel for leave (R196). -/
def State.stripeGrant (s : State) (op : LeaveOp) : State × Option Nat :=
  match s.freeGrant op with
  | some i => (s, some (i + 1))
  | none =>
    if s.broker.queue.any (fun l => l.op == op) then (s, none)
    else
      let r := s.leaveRequest op
      match r.2 with
      | some i => if r.1.leaveHeld i then (r.1, some (i + 1)) else (r.1, none)
      | none => (r.1, none)

/-- Flash staging has room for one more stripe of Seep or GC (R19): 3.5 MiB, of which each stripe in flight holds the 256 KiB
of its 16 pages. The Ledger's pages pass through it within their command. -/
def State.stagingRoom (s : State) : Bool :=
  decide (((s.grt.flights.filter (fun f => f.writer == .seep || f.writer == .gc)).length + 1) * 262144 ≤ 3670016)

/-- The erases of the victim (R163, R165, R166): once their ERASE_START entries are on flash, and while GC may run. -/
def State.gcErase (s : State) : State :=
  match s.grt.gc with
  | none => s
  | some g =>
    if g.stage ≠ 1 ∨ !s.gcAllowed ∨ s.vaulting ∨ g.blocks.any (fun y => s.grt.startStaged y.1 y.2) then s
    else
      let s1 := { s with grt := { s.grt with gc := some { g with stage := 2 } } }
      g.blocks.foldl (fun t y =>
        if (t.lun y.1).st = .active ∧ (t.blk y.1 y.2).st = .inBand then
          ({ t with flc := { t.flc with nextTag := t.flc.nextTag + 1 } } : State).queueDesc
            (grottoDesc 4 8 32 t.flc.nextTag y.1 y.2 0 0)
        else t) s1

/-- GC takes its next step that needs no flash operation to end (R166): it hands over a copy stripe, or journals
ERASE_START for the victim's blocks. -/
def State.gcPump (s : State) : State :=
  match s.grt.gc with
  | none => s
  | some g =>
    if g.stage = 1 then s.gcErase
    else if g.stage ≠ 0 ∨ !s.gcAllowed ∨ s.vaulting ∨ !s.stagingRoom ∨ s.grt.flights.any (fun f => f.writer == .gc) then s
    else
      match s.liveOf g.victim with
      | [] =>
        let bs := ((s.grt.bands.find? (fun b => b.num == g.victim)).map Band.members).getD []
        let s1 := bs.foldl (fun t y => t.journalEntry 1 y.1 0 y.2 (t.blk y.1 y.2).worn) s
        { s1 with grt := { s1.grt with gc := some { g with blocks := bs, stage := 1 } } }
      | live =>
        let s0 := State.openBandsN 16 s
        match s0.nextBandFor with
        | none => s0
        | some b =>
          let r := s0.stripeGrant .gcStripe
          match r.2 with
          | none => r.1
          | some i =>
            let vs := (live.take (r.1.stripeRoom b)).map (fun e => r.1.gcCopy e.2.2.2)
            r.1.handStripe b .gc i 0 0 (dataPayload vs)

/-- Flush one page of the staged journal entries (R163); what waits for them goes on. -/
def State.journalFlush (s : State) : State :=
  if s.grt.staged = [] ∨ s.flag Reg.SYS_STATUS_SAFE then s
  else ({ s with grt := s.grt.journalPage s.recEnv } : State).gcErase

/-- Flush every staged entry (R163). -/
def State.journalFlushAll (s : State) : State :=
  if s.grt.staged = [] ∨ s.flag Reg.SYS_STATUS_SAFE then s
  else ({ s with grt := s.grt.journalAll s.recEnv } : State).gcErase

/-- Erase a Grotto block whose erase no ring carries (R163, R164, R168, R458): journalled; a failed erase retires it for
`reason`, one that reaches the wear limit for reason 3. -/
def State.eraseNow (s : State) (lun b : Nat) (st : BlkSt) (ok : Bool) (reason : Nat) : State :=
  let v := s.blk lun b
  if ok then
    let s1 := { s with grt := s.grt.eraseDone s.recEnv lun b st }
    if s.wornOut v.worn then s1.retireBlk lun b 3 else s1
  else ({ s with grt := s.grt.eraseAs s.recEnv lun b st } : State).retireBlk lun b reason

/-- Erase the old record blocks that may go (R151), outside a vault. -/
def State.recordClean (s : State) : State := { s with grt := s.grt.recClean s.recEnv }

/-- A LUN whose evacuation is complete goes DEAD and its blocks retire (R210). -/
def State.finishEvacuation (s : State) : State :=
  (mfilter (fun n _ => s.evacuating n) s.flc.luns).foldl (fun t e =>
    if t.grt.bands.any (fun b => b.members.any (fun y => y.1 == e.1)) then t
    else (t.lunState e.1 .dead 6).retireLun e.1) s

/-- The victim's erases have ended (R166 step 5): ERASE_DONE with the new counts; the band leaves the log. -/
def State.gcDone (s : State) (g : Gc) : State :=
  let s1 := g.blocks.foldl (fun t y =>
    let v := t.blk y.1 y.2
    if v.st = .erased then t.journalEntry 2 y.1 0 y.2 v.ec
    else if v.st = .inBand then t.setBlk y.1 y.2 { v with st := .unknown, half := true } else t) s
  let s2 := { s1 with grt := { s1.grt with
    bands := s1.grt.bands.filter (fun b => b.num != g.victim),
    stripes := s1.grt.stripes.filter (fun x => x.band != g.victim),
    gc := none, gcCount := s1.grt.gcCount + 1 } }
  let s3 := ((s2.incSat Reg.GRT_GC_STAT_BANDS 1).put Reg.GRT_STATUS_GC_ACTIVE 0).grtSync.finishEvacuation
  (s3.gcCheck true).gcPump

/-- The pages of a block are gone (R166, R167): an erase of it has begun. Its band loses its position; a stripe with no page
left leaves the log. -/
def State.dropPages (s : State) (lun b : Nat) : State :=
  let p := lun % 16
  match s.grt.bands.find? (fun c => lget c.blocks p none == some (lun, b)) with
  | none => s
  | some c =>
    { s with grt := { s.grt with
      bands := s.grt.bands.map (fun (d : Band) =>
        if d.num = c.num then { d with blocks := lset d.blocks p none, sums := d.sums.filter (fun q => q != p) } else d),
      stripes := (s.grt.stripes.map (fun (x : Stripe) =>
        if x.band = c.num then { x with layout := x.layout.filter (fun q => q != p) } else x)).filter (fun x => x.layout != []) } }

/-- A stripe in flight is over: its grant, if it still has one, is returned (R27). -/
def State.dropFlight (s : State) (f : Flight) : State :=
  let s1 := s.endFlight f.stripe.serial
  if f.grant = 0 then s1 else s1.leaveReturn (f.grant - 1)

/-- A GC stripe's copies are on flash (R166 step 3): each map entry that still names the old slot names the new one. -/
def State.gcRemap (s : State) (f : Flight) : State :=
  let x := f.stripe
  let victim := (s.grt.gc.map (fun g => g.victim)).getD 0
  (List.range 15).foldl (fun t d =>
    (x.pageVers d).foldl (fun u e =>
      let g := u.verGran e.2
      match (u.ent g).loc with
      | some l =>
        match u.stripeOf l.1, u.verAt l with
        | some old, some v => if old.band = victim ∧ v.seq = e.2.seq then u.mapTo g x.serial d e.1 else u
        | _, _ => u
      | none => u) t) s

/-- The last program of a GC stripe has ended (R166 step 3). A stripe with a failed page names nothing: its copies are written
again (R168), or, after a trip, still live in the victim. -/
def State.gcAccount (s : State) (f : Flight) : State :=
  ((if f.failed.isEmpty then s.gcRemap f else s).dropFlight f).gcPump

/-- Write a stripe again in the next stripe of the rotation (R168): the versions keep their in-flight entries. -/
def State.rewriteStripe (s : State) (f : Flight) : State :=
  let s0 := State.openBandsN 16 s
  match s0.nextBandFor with
  | none => s0
  | some b =>
    let vs := f.stripe.payload.vers.take (s0.stripeRoom b)
    let n := s0.get Reg.GRT_SERIAL_NEXT
    let s1 := { s0 with cache := { s0.cache with inflight := s0.cache.inflight.map (fun (e : InFlight) =>
      if e.serial = f.stripe.serial then { e with serial := n } else e) } }
    s1.handStripe b f.writer f.grant f.stripe.serial 0 (dataPayload vs)

/-- A page of a Seep or rehearsal stripe has programmed (R18): Dirty is cleared and Seeped set for each entry that is not
stale, the entries are released, and the map names the new version. -/
def State.seepPage (s : State) (x : Stripe) (d : Nat) : State :=
  (x.pageVers d).foldl (fun t e =>
    let g := t.verGran e.2
    match t.cache.inflight.find? (fun i => i.gran == g && i.serial == x.serial) with
    | none => t
    | some i =>
      let t1 := { t with cache := { t.cache with inflight := t.cache.inflight.filter (fun j => j != i) } }
      let t2 := t1.mapTo g x.serial d e.1
      if i.stale then t2 else t2.clean g) s

/-- Salvage ends when no dirty granule is left in a frozen channel (R275). -/
def State.salvageCheck (s : State) : State :=
  if s.flag Reg.DMC_FRZ_STATUS_SALVAGE && !(s.cache.grans.any (fun e => e.2.dirty && s.granFrozen e.1)) then
    s.put Reg.DMC_FRZ_STATUS_SALVAGE 0
  else s

/-- The window of a rehearsal runs (R89 step 3): from 1 ms after the trigger, and while Lantern integrates. -/
def State.inRehWindow (s : State) : Bool :=
  (match s.umb.rehearsal with
   | some r => r.ending.isNone
   | none => false) &&
  (match s.lan.sum with
   | some x => x.skip == 0 && x.left != some 0
   | none => false)

/-- The last page of a Seep or rehearsal stripe is accounted for (R27): pages held by parity alone count too, the grant
is returned, and a rehearsal counts a stripe that ends within its window (R87). -/
def State.seepEnd (s : State) (f : Flight) : State :=
  let un := (List.range 15).filter (fun d => !f.stripe.layout.contains (pagePos f.stripe.serial d))
  let s1 := if f.failed.isEmpty then un.foldl (fun t d => t.seepPage f.stripe d) s else s
  let s3 := s1.dropFlight f
  let s4 := { s3 with umb := { s3.umb with rehearsal := s3.umb.rehearsal.map (fun (r : Rehearsal) =>
    if f.writer = Writer.rehearsal ∧ s.inRehWindow then { r with stripes := r.stripes + 1 } else r) } }
  s4.salvageCheck

/-- SEEP_STRIPE_PROGRAMMED's effect: the page at `pos` of the stripe is accounted for. -/
def State.seepAccount (s : State) (f : Flight) (pos : Nat) : State :=
  let s1 := match posPage f.stripe.serial pos with
    | some d => s.seepPage f.stripe d
    | none => s
  let f1 := { f with done := f.done.filter (fun p => p != pos) }
  let s2 := s1.updFlight f.stripe.serial (fun _ => f1)
  if f1.waiting.isEmpty && f1.done.isEmpty then s2.seepEnd f1 else s2

/-! Endurance (R84). -/

/-- The LUNs in Grotto service. -/
def State.serviceLuns (s : State) : List Nat := (channels16.map s.grottoLuns).flatten

/-- Erase cycles left over all Grotto blocks; a block worn past the limit counts negative. -/
def State.cyclesLeft (s : State) : Int :=
  let lim : Int := (10 * s.get Reg.UMB_ENDUR_CFG_PE_LIMIT : Nat)
  (s.serviceLuns.map (fun l =>
    let listed := mfilter (fun k _ => k / 65536 == l) s.grt.tbl
    ((s.get Reg.GRT_GEOM_BLOCKS - listed.length : Nat) : Int) * lim +
      (listed.map (fun e => lim - (e.2.ec : Int))).foldl (· + ·) 0)).foldl (· + ·) 0

/-- The fill rate of R84 in bytes per second. DESIGN CHOICE: it is rounded down to whole bytes per second, and retired blocks
count among the Grotto blocks; the spec says neither. -/
def State.fillRate (s : State) : Nat :=
  let writable : Int := s.cyclesLeft * (s.get Reg.GRT_GEOM_PAGES * 16384 : Nat) * (100 - s.get Reg.UMB_ENDUR_CFG_RESERVE : Nat) / 100
  let year := 31536000
  writable.toNat / Nat.max (s.get Reg.UMB_ENDUR_CFG_LIFE * year - s.secs) year

/-- What a loss of power leaves (R144, R147, R164, R167): stripes in flight keep the pages that had programmed, an erase
cut short leaves its block half-erased, and the queues are gone. -/
def State.grottoPowerLoss (s : State) : State :=
  let s1 := s.grt.flights.foldl (fun t f =>
    if f.waiting.isEmpty then t
    else if f.waiting.length = f.stripe.layout.length then
      { t with grt := { t.grt with stripes := t.grt.stripes.filter (fun x => x.serial != f.stripe.serial) } }
    else t.updStripe f.stripe.serial (fun x => { x with layout := x.layout.filter (fun p => !f.waiting.contains p) })) s
  { s1 with
    grt := { s1.grt with flights := [], gc := none, stripes := s1.grt.stripes.filter (fun x => x.layout != []) },
    flc := { s1.flc with
      rings := [], compl := [], doneTags := [],
      luns := mmap (fun _ (l : Lun) => { l with queue := [], park := [], running := none, suspended := none }) s1.flc.luns },
    cache := { s1.cache with inflight := [] } }

end Sys2Proof.Machine
end

