-- ==== Sys2Proof/Machine/FlashBase.lean ====
section
/-! DEFINITION. The flash kernel's bookkeeping (R195–R203, R212): completion entries, the rings behind full LUNs, and what
the trip does to the queues. -/

namespace Sys2Proof.Machine

/-- Status codes of R198. -/
def fsSuccess : Nat := 0x00
def fsErased : Nat := 0x02
def fsUncorr : Nat := 0x10
def fsProgFail : Nat := 0x20
def fsEraseFail : Nat := 0x21
def fsTimeout : Nat := 0x30
def fsLunOut : Nat := 0x31
def fsCancelled : Nat := 0x32
def fsLeave : Nat := 0x33
def fsBadDesc : Nat := 0x40
def fsArea : Nat := 0x41
def fsOrder : Nat := 0x42

/-- Opcodes of R196. -/
def opRead : Nat := 1
def opReadHeader : Nat := 2
def opProgram : Nat := 3
def opErase : Nat := 4
def opErasedCheck : Nat := 5
def opResetLun : Nat := 6
def opGetFeature : Nat := 7
def opSetFeature : Nat := 8
def opReadRaw : Nat := 9

/-- The descriptor programs or erases. -/
def Desc.writes (d : Desc) : Bool := d.op == opProgram || d.op == opErase

/-- Write a completion entry and note its tag for DEP (R197, R201). -/
def State.complete (s : State) (c : FCompl) : State :=
  { s with flc := { s.flc with compl := s.flc.compl ++ [c], doneTags := s.flc.doneTags ++ [c.tag] } }

/-- A completion without a result. -/
def plainCompl (d : Desc) (status : Nat) : FCompl := ⟨d.tag, status, 0, 0, 0, 0, 0, 0⟩

/-- Complete a descriptor without running it. -/
def State.completePlain (s : State) (d : Desc) (status : Nat) : State := s.complete (plainCompl d status)

/-- Fill free slots of a LUN from its park list (R199), at most `n`. -/
def State.fillPark (s : State) (lun : Nat) : Nat → State
  | 0 => s
  | n + 1 =>
    let l := s.lun lun
    if 16 ≤ l.slots then s
    else
      match l.park with
      | d :: rest => (s.setLun lun { l with park := rest, queue := l.queue ++ [d] }).fillPark lun n
      | [] => s

/-- Every ring whose next descriptor can move on moves it, ring by ring (R199), at most `n` times. -/
def State.drainRings : Nat → State → State
  | 0, s => s
  | n + 1, s =>
    match s.flc.rings.find? (fun e => match e.2 with
      | d :: _ => (s.ringMoves d).isSome
      | [] => false) with
    | some (k, d :: rest) =>
      let s1 := { s with flc := { s.flc with rings := if rest = [] then mdel s.flc.rings k else mset s.flc.rings k rest } }
      State.drainRings n (s1.placeDesc d ((s.ringMoves d).getD true))
    | _ => s

/-- A LUN has free slots again: its park list, then the rings move on (R199). -/
def State.fillSlots (s : State) (lun n : Nat) : State :=
  State.drainRings (sumNat (s.flc.rings.map (fun e => e.2.length))) (s.fillPark lun n)

/-- The stripe in flight that a program of a Grotto page belongs to. -/
def State.flightPage (s : State) (d : Desc) : Option Flight :=
  let p := d.lun % 16
  s.grt.flights.find? (fun f => f.waiting.contains p && f.stripe.page == d.page &&
    s.grt.bands.any (fun b => b.num == f.stripe.band && lget b.blocks p none == some (d.lun, d.block)))

/-- A program of a Seep stripe that holds its grant: the stripe completes (R86). -/
def State.carriedDesc (s : State) (d : Desc) : Bool :=
  d.op == opProgram && d.grant != 0 && s.grt.flights.any (fun f => f.writer == .seep && f.grant == d.grant)

/-- A page of a stripe in flight whose program the trip has cancelled is lost to that stripe. -/
def State.cutPage (s : State) (d : Desc) : State :=
  match (if d.op = opProgram ∧ d.area = 0 then s.flightPage d else none) with
  | some f =>
    let p := d.lun % 16
    (s.updFlight f.stripe.serial (fun g => { g with waiting := g.waiting.filter (fun q => q != p), failed := g.failed ++ [p] })
      ).updStripe f.stripe.serial (fun x => { x with lost := x.lost ++ [p] })
  | none => s

/-- A GC stripe of which the trip has cancelled pages is over when its last program in progress ends (R29). -/
def State.gcCut (s : State) (f : Flight) : State :=
  if f.writer = .gc ∧ f.waiting = [] ∧ f.failed ≠ [] then s.dropFlight f else s

/-- What the trip leaves of GC: its cut stripes are over, and erases that were queued are to be given again (R212). -/
def State.gcTrip (s : State) : State :=
  let s1 := s.grt.flights.foldl State.gcCut s
  { s1 with grt := { s1.grt with gc := s1.grt.gc.map (fun (g : Gc) => if g.stage = 2 then { g with stage := 1 } else g) } }

/-- Cancel the descriptors of class 2–8 that were not issued; erases of class 7–8 in progress are suspended (R212). Where R212
cancels every such descriptor and R86 lets a Seep stripe already granted complete, the programs of granted Seep stripes stay (R86
names them; DESIGN CHOICE). -/
def State.flashTrip (s : State) : State :=
  let s1 := s.put Reg.FLC_STATUS_TRIP 1
  let keep (d : Desc) : Bool := d.cls == 1 || s.carriedDesc d
  let drop (d : Desc) : Bool := !keep d
  let gone := (s1.flc.luns.map (fun e => (e.2.queue ++ e.2.park).filter drop)).flatten ++
    (s1.flc.rings.map (fun e => e.2.filter drop)).flatten
  let s2 := { s1 with flc := { s1.flc with
    luns := mmap (fun _ (l : Lun) =>
      let stop : Bool := match l.running with
        | some r => r.desc.op == opErase && decide (7 ≤ r.desc.cls)
        | none => false
      { l with queue := l.queue.filter keep, park := l.park.filter keep,
               suspended := if stop then l.running else l.suspended,
               running := if stop then none else l.running }) s1.flc.luns,
    rings := mfilter (fun _ v => v != []) (mmap (fun _ (v : List Desc) => v.filter keep) s1.flc.rings) } }
  (gone.foldl (fun t d => (t.completePlain d fsCancelled).cutPage d) s2).gcTrip

end Sys2Proof.Machine
end

