-- ==== Sys2Proof/Machine/Rats.lean ====
section
/-! DEFINITION. Exact numbers: the estimator and the governor compute with rationals, since the spec gives no number format
for them; a register takes the rounded value. -/

namespace Sys2Proof.Machine

/-- The greater of two. -/
def rmax (a b : Rat) : Rat := if a ≤ b then b else a

/-- The lesser of two. -/
def rmin (a b : Rat) : Rat := if a ≤ b then a else b

/-- The magnitude. -/
def rabs (a : Rat) : Rat := if a < 0 then -a else a

/-- The sum of a list. -/
def rsum (l : List Rat) : Rat := l.foldl (· + ·) 0

/-- The greatest of a list, at least zero. -/
def rtop (l : List Rat) : Rat := l.foldl rmax 0

/-- The whole part of a number that is not negative. -/
def rfloor (a : Rat) : Nat := a.floor.toNat

/-- A number as a register shows it: the spec states no rounding. -/
def rnat (a : Rat) : Nat := if Config.roundsUp a ∧ (rfloor a : Rat) < a then rfloor a + 1 else rfloor a

/-- A signed number as a register shows it. -/
def rint (a : Rat) : Int := if a < 0 then -(rnat (-a) : Int) else (rnat a : Int)

/-- Store a number, held at the field's greatest value. -/
def State.putR (s : State) (f : Fld) (a : Rat) : State := s.put f (Nat.min (2 ^ f.width - 1) (rnat a))

end Sys2Proof.Machine
end

