-- ==== Sys2Proof/Machine/UmbraBase.lean ====
section
/-! DEFINITION. Umbra's model (R68–R71): power and rate in use, the horizon that an energy gives. -/

namespace Sys2Proof.Machine

/-- The value that the running image gives a field, or the default that the field's table names (R11). -/
def State.imgOr (s : State) (f : Fld) (d : Nat) : Nat :=
  match s.boot.running with
  | some i => mgetD i.fields f.key d
  | none => d

/-- Results in use (R70): the accepted results of the last four rehearsals no older than 30 days. -/
def State.resultsInUse (s : State) : List RehResult :=
  (s.umb.results.reverse.take 4).filter (fun r => decide (s.secs ≤ r.time + 30 * 86400))

/-- The first result of the greatest power. -/
def topPower : List RehResult → Option RehResult
  | [] => none
  | h :: t => some (t.foldl (fun b r => if b.power < r.power then r else b) h)

/-- The first result of the least rate. -/
def lowRate : List RehResult → Option RehResult
  | [] => none
  | h :: t => some (t.foldl (fun b r => if r.rate < b.rate then r else b) h)

/-- The vault rate of the ordering code in bytes per second (R4, R5). -/
def State.codeRate (s : State) : Rat := if s.view Reg.SYS_ID_ORDER = 1 then 24000000000 else 28000000000

/-- The vault power p in watts (R70). -/
def State.vaultPower (s : State) : Rat :=
  match topPower s.resultsInUse with
  | none => (s.imgOr Reg.UMB_VPOWER_P_MW 60000 : Rat) / 1000
  | some r =>
    let p : Rat := (r.power : Rat) / 1000
    let d := s.tj - r.temp
    if 0 < d then p * (1 + (s.get Reg.UMB_MODEL_CFG_ALPHA : Rat) / 10000 * (d : Rat)) else p

/-- The vault rate b in bytes per second (R70). -/
def State.vaultRate (s : State) : Rat :=
  match lowRate s.resultsInUse with
  | none => rmin ((s.imgOr Reg.UMB_VRATE_B_MBS 20000 : Rat) * 1000000) s.codeRate
  | some r =>
    let b : Rat := r.rate
    let d := r.temp - s.tj
    let b1 := if 0 < d then b * (1 - (s.get Reg.UMB_MODEL_CFG_BETA : Rat) / 10000 * (d : Rat)) else b
    rmin (rmin b1 (b * (s.lunsActive : Rat) / (Nat.max 1 r.luns : Nat))) s.codeRate

/-- The carried-over brokered load in joules (R68). -/
def State.eCarry (s : State) : Rat :=
  ((s.get Reg.PWR_LEAVE_BUDGET_RUN_MW : Rat) - (s.get Reg.PWR_LEAVE_BUDGET_BASE_MW : Rat)) / 1000 *
    ((s.get Reg.UMB_FIXED_CFG_T_CARRY : Rat) / 1000000)

/-- The unclamped horizon of R69 for an energy in joules. -/
def State.horizonOf (s : State) (e : Rat) : Nat :=
  let p := s.vaultPower
  let m : Rat := (s.get Reg.UMB_MODEL_CFG_MARGIN : Rat) / 200
  let avail := e * (1 - m) - s.eCarry - p * ((50 : Rat) / 1000000 + (s.get Reg.UMB_FIXED_CFG_T_TAIL : Rat) / 1000000)
  if avail ≤ 0 then 0 else rfloor (avail / p * s.vaultRate * 4096 / 4100) / 4096 * 4096

/-- The cap of R77 in bytes. -/
def State.coldCap (s : State) : Nat := s.get Reg.UMB_CAP_CFG_COLD_CAP * 2 ^ 26

/-- The vault-reserve clamp of R71: the erased capacity less one stripe. -/
def State.reserveClamp (s : State) : Nat := s.erasedBytes - stripeBytes

/-- The horizon after the first three clamps of R71. -/
def State.clampHorizon (s : State) (h : Nat) : Nat :=
  let h2 := Nat.min (Nat.min h s.reserveClamp) (s.cacheGrans * 4096)
  if s.flag Reg.UMB_STATUS_COLD_CAP then Nat.min h2 s.coldCap else h2

/-- The admission floor of R62 in bytes. -/
def State.umbFloor (s : State) : Nat := s.get Reg.UMB_CAP_CFG_FLOOR * 2 ^ 20

/-- The horizon with a smaller energy still stands at the dirty bytes and the admission floor (R334, R336). -/
def State.horizonSpares (s : State) (less : Rat) : Bool :=
  decide (s.dirtyBytes + s.umbFloor ≤ s.clampHorizon (s.horizonOf ((s.get Reg.LAN_ENERGY_E_MJ : Rat) / 1000 - less)))

end Sys2Proof.Machine
end

