-- ==== Sys2Proof/Machine/LanternBase.lean ====
section
/-! DEFINITION. Lantern's ports and what the other blocks ask of it (R327, R336, R338, R342): port states, ending a learn or
a rest window before its time, the trip. -/

namespace Sys2Proof.Machine

/-- The states of LAN_Mn_STATUS.STATE (R348). -/
def mUnused : Nat := 0
def mAbsent : Nat := 1
def mRefused : Nat := 2
def mService : Nat := 3
def mStandby : Nat := 4
def mResting : Nat := 5
def mLearning : Nat := 6
def mFault : Nat := 7

/-- The eight ports. -/
def ports8 : List Nat := List.range 8

/-- A port's bookkeeping. -/
def State.mod (s : State) (n : Nat) : Module := mgetD s.lan.mods n Module.init

/-- Steps 3 to 5 of R336: the discharge and the relaxation, steps 2 and 3 of LAN_LEARN_STATUS. -/
def Learn.discharging (l : Learn) : Bool := l.step == 2 || l.step == 3

/-- Replace it. -/
def State.setMod (s : State) (n : Nat) (m : Module) : State :=
  { s with lan := { s.lan with mods := mput Module.init s.lan.mods n m } }

/-- A port's state. -/
def State.modSt (s : State) (n : Nat) : Nat := s.get (Reg.LAN_Mn_STATUS_STATE n)

/-- The profile that a port's module matched. -/
def State.profOf (s : State) (n : Nat) : Option Profile :=
  match (s.mod n).profile with
  | some i => mget s.lan.profiles i
  | none => none

/-- Raise one of Lantern's event bits (R504). -/
def State.lanRaise (s : State) (f : Fld) : State := s.raise f Reg.LAN_CTRL_INT_EN 58

/-- Show which module is out and what runs (R345, R347). -/
def State.lanShow (s : State) : State :=
  let out := ports8.find? (fun n => s.modSt n == mResting || s.modSt n == mLearning)
  let serv := ports8.filter (fun n => s.modSt n == mService)
  let s1 := (s.putB Reg.LAN_STATUS_OUT_VALID out.isSome).put Reg.LAN_STATUS_OUT_PORT (out.getD 0)
  let s2 := (s1.putB Reg.LAN_STATUS_REST_ACTIVE s1.lan.rest.isSome).putB Reg.LAN_STATUS_LEARN_ACTIVE s1.lan.learn.isSome
  let s3 := s2.putB Reg.LAN_STATUS_ALL_LEARNED (!serv.isEmpty && serv.all (fun n => (s2.mod n).learned))
  let s4 := s3.putB Reg.LAN_STATUS_DISAGREE (ports8.any (fun n => s3.flag (Reg.LAN_Mn_STATUS_DISAGREE n)))
  let s5 := s4.put Reg.LAN_LEARN_STATUS_DUE ((s4.lan.due.map (fun d => 2 ^ d.1)).foldl (· + ·) 0)
  (s5.put Reg.LAN_LEARN_STATUS_STEP ((s5.lan.learn.map (fun l => l.step)).getD 0)).put Reg.LAN_LEARN_STATUS_PORT
    ((s5.lan.learn.map (fun l => l.port)).getD (s5.get Reg.LAN_LEARN_STATUS_PORT))

/-- Put a port in a state, with its bus switch and charger. -/
def State.setModSt (s : State) (n st : Nat) (dis chg : Bool) : State :=
  (s.put (Reg.LAN_Mn_STATUS_STATE n) st).setMod n { s.mod n with disOn := dis, chgOn := chg }

/-- The ports that a learn or a rest took out return to the bus (R336, R338). -/
def State.modsBack (s : State) : State :=
  ports8.foldl (fun t n =>
    if t.modSt n = mStandby ∨ t.modSt n = mResting ∨ t.modSt n = mLearning then t.setModSt n mService true true else t) s

/-- HOLD_EN falls at the end of a discharge, unless a trip or a rehearsal holds it (R336, R338). -/
def State.learnHoldOff (s : State) : State :=
  if s.vlt.cur.any (fun v => v.tripped) || s.rehearsing then s else s.put Reg.VLT_STATUS_HOLD 0

/-- The result of a learn is recorded for its port (R336–R338, R498). -/
def State.learnNote (s : State) (port outcome sigma cap : Nat) : State :=
  let m := s.mod port
  let s1 := s.setMod port { m with learns := ((⟨s.timeWord, outcome, sigma, cap⟩ : LearnRec) :: m.learns).take 2 }
  (s1.put Reg.LAN_LEARN_STATUS_LAST_OUTCOME outcome).lanRaise Reg.LAN_STATUS_LEARN_DONE

/-- Copy the estimator state to the NOR configuration area (R332), but not during a vault. -/
def State.lanCopy (s : State) : State :=
  if s.vaulting then s else { s with lan := { s.lan with stateNor := s.lan.stateNor.write (s.lan.mods, s.lan.tableHash) } }

/-- The learn is over (R332, R336 step 7): the estimator state is copied, the leave is returned. -/
def State.learnOver (s : State) (port : Nat) : State :=
  (({ s with lan := { s.lan with learn := none } } : State).lanCopy).leaveDropOp (.learnCycle port)

/-- A learn ends with an outcome before its recharge. -/
def State.learnEnd (s : State) (l : Learn) (outcome sigma cap : Nat) : State :=
  (s.learnOver l.port).learnNote l.port outcome sigma cap

/-- A learn that did not succeed waits for RETRY_H (R336, R337). -/
def State.learnRetry (s : State) (port : Nat) : State :=
  { s with lan := { s.lan with
      due := s.lan.due.filter (fun d => d.1 != port),
      retry := if s.lan.retry.contains port then s.lan.retry else s.lan.retry ++ [port] } }

/-- Abort the learn in progress (R338). In the recharge the learn is over, and only its rate ends. -/
def State.learnAbort (s : State) (outcome : Nat) : State :=
  match s.lan.learn with
  | none => s
  | some l =>
    if l.step = 4 then
      (s.learnOver l.port).lanShow
    else
      let s1 := if l.step = 2 then s.learnHoldOff else s
      (((s1.modsBack).learnEnd l outcome 0 0).learnRetry l.port).lanShow

/-- End the forced rest in progress before its time (R334, R338): of its fit only the offset calibration stands, if its
minute is over. -/
def State.restCut (s : State) : State :=
  match s.lan.rest with
  | none => s
  | some n =>
    let m := s.mod n
    let r : RestRec := ⟨s.timeWord, rnat (m.leak * 1000000) % 65536, 0, 3⟩
    let t := s.setMod n { m with rests := (r :: m.rests).take 2 }
    let s1 := { t with lan := { t.lan with rest := none } }
    ((if s1.modSt n = mResting then s1.setModSt n mService true true else s1).lanCopy).lanShow

/-- End the learn or the forced rest in progress with an outcome: the modules return to the hold-up bus (R29, R338). -/
def State.lanAbort (s : State) (outcome : Nat) : State := (s.learnAbort outcome).restCut

/-- The trip, or the start of a vault (R338, R340, R342): the guaranteed energy is latched, every module is on the bus, the
chargers are off, and the energy delivered is summed. -/
def State.lanTrip (s : State) : State :=
  let s1 := (s.put Reg.LAN_VAULT_GUAR_E_MJ (s.get Reg.LAN_ENERGY_E_MJ)).lanAbort 3
  let s2 := ports8.foldl (fun t n => t.setMod n { t.mod n with chgOn := false }) s1
  { s2 with lan := { s2.lan with sum := some ⟨0, none, 0⟩ } }

end Sys2Proof.Machine
end

