-- ==== Sys2Proof/Machine/RecorderOps.lean ====
section
/-! DEFINITION. The event recorder at work (R448, R452–R471): record bytes, the journal and black-box flushes, the modes,
views, single reads, clears, and what a start does. -/

namespace Sys2Proof.Machine

/-! Bytes of a record (R448). -/

/-- One bit step of CRC-32C (reflected). -/
def crcBit (c : Nat) : Nat := if c % 2 = 1 then (c / 2) ^^^ 0x82F63B78 else c / 2

/-- One byte of CRC-32C. -/
def crcByte (c : Nat) (b : Byte) : Nat :=
  crcBit (crcBit (crcBit (crcBit (crcBit (crcBit (crcBit (crcBit (c ^^^ b.toNat))))))))

/-- CRC-32C (Castagnoli), as used throughout the manual. -/
def crc32c (bs : List Byte) : Nat := (bs.foldl crcByte 0xFFFFFFFF) ^^^ 0xFFFFFFFF

/-- The 64 bytes of a record (R448). -/
def EvRecord.bytes (e : EvRecord) : List Byte :=
  let sev := e.sev % 8 + 8 * b2n e.update + 16 * b2n e.late + 32 * b2n e.direct + 64 * b2n e.part
  let body := natLe e.seq 8 ++ natLe sev 1 ++ natLe e.src 1 ++ natLe e.code 2 ++ natLe e.key 2 ++ natLe e.rep 2 ++
    natLe e.time 8 ++ natLe e.ticks 2 ++ natLe e.nsnap 1 ++ natLe e.lastDt 1 ++
    ((List.range 8).map (fun i => natLe (lget e.snap i 0) 4)).flatten
  body ++ natLe (crc32c body) 4

/-- A placeholder (R465). -/
def EvRecord.placeholder (seq : Nat) : EvRecord :=
  { seq := seq, sev := 0, update := false, late := false, direct := false, part := false, src := 255, code := 0, key := 0,
    rep := 0, time := 0, ticks := 0, nsnap := 0, lastDt := 0, snap := [] }

/-! Flushing (R454, R455, R458). -/

/-- A record has reached durable memory: its ring slot is flushed, its open record knows the REPEAT written. -/
def Recorder.markFlushed (r : Recorder) (place : Nat) (e : EvRecord) : Recorder :=
  { r with ring := lupd r.ring place (fun x => { x with flushed := true }),
           opens := r.opens.map (fun o => if o.evt.seq == e.seq then { o with written := some e.rep } else o) }

/-- Records written to durable memory from elsewhere than the ring: their open records know the REPEAT written (R453). -/
def Recorder.markWritten (r : Recorder) (es : List EvRecord) : Recorder :=
  { r with opens := r.opens.map (fun o => if es.any (fun e => e.seq == o.evt.seq) then { o with written := some o.evt.rep } else o) }

/-- Append the oldest waiting record to the journal, if there is room (R455). -/
def State.norFlushOne (s : State) (late : Bool) : State :=
  match findPlace (fun x => !x.flushed) s.evr.ring with
  | none => s
  | some i =>
    match s.evr.ring[i]? with
    | none => s
    | some x =>
      let r := s.norReady
      if r.norRoom then
        { s with evr := (r.norAppend { x.evt with late := x.evt.late || late } (s.get Reg.EVR_SEQ_NEXT)).markFlushed i x.evt }
      else s.setEvr r

/-- Append up to `n` waiting records. -/
def State.norFlush (late : Bool) : Nat → State → State
  | 0, s => s
  | n + 1, s => State.norFlush late n (s.norFlushOne late)

/-- The records of a black-box block. -/
def BBBlock.recs (b : BBBlock) : List EvRecord := (b.pages.map (fun p => p.recs)).flatten

/-- The oldest page sequence of a block. -/
def BBBlock.oldest (b : BBBlock) : Nat := ((b.pages.head?).map (fun p => p.pseq)).getD 0

/-- Insert by a key. -/
def insertBy {α : Type} (k : α → Nat) (x : α) : List α → List α
  | [] => [x]
  | h :: t => if k x ≤ k h then x :: h :: t else h :: insertBy k x t

/-- Sort by a key, keeping the order of equals. -/
def sortBy {α : Type} (k : α → Nat) (l : List α) : List α := l.foldr (insertBy k) []

/-- The block that the next page goes to and whether it is erased first: the current one while it has room, else an empty
one, else the victim of R456 among the others (R458). -/
def State.bbTarget (s : State) : Option (Nat × Bool) :=
  let cur := s.get Reg.EVR_BB_CURRENT
  let room (b : BBBlock) : Bool := decide (b.pages.length < s.get Reg.GRT_GEOM_PAGES)
  match s.evr.bb[cur]? with
  | some b =>
    if room b then some (cur, false)
    else
      match findPlace (fun x => x.pages.isEmpty) s.evr.bb with
      | some i => some (i, false)
      | none =>
        let others := sortBy (fun (e : BBBlock × Nat) => e.1.oldest) (s.evr.bb.zipIdx.filter (fun e => e.2 != cur))
        let many := decide (2 < (s.evr.bb.filter (fun x => decide (6 ≤ topSev x.recs))).length)
        if s.evr.views.any (fun v => v.isSome) then none
        else
          match sevVictim (others.map (fun e => topSev e.1.recs)) many with
          | some i => (others[i]?).map (fun e => (e.2, true))
          | none => none
  | none => if s.evr.bb.isEmpty then none else some (0, s.evr.bb.head?.any (fun b => !b.pages.isEmpty))

/-- A black-box block is erased under R163: its entries stand in the Grotto journal, its count rises. -/
def State.bbErase (s : State) (home : Nat) : State := s.eraseNow (home / 65536) (home % 65536) .blackBox true 1

/-- Program one page of records into the black box (R458, R460). False where no block can take it. -/
def State.bbPage (s : State) (tail buffer : Bool) (es : List EvRecord) : State × Bool :=
  match s.bbTarget with
  | none => (s, false)
  | some (i, erase) =>
    match s.evr.bb[i]? with
    | none => (s, false)
    | some b =>
      let s1 := if erase then s.bbErase b.home else s
      let old := if erase then [] else b.pages
      let page : BBPage := ⟨tail, buffer, s1.evr.pageSeq, s1.get Reg.GRT_SESSION_SESSION, es⟩
      let s2 := { s1 with evr := { s1.evr with bb := lset s1.evr.bb i { b with pages := old ++ [page] },
                                               pageSeq := s1.evr.pageSeq + 1 } }
      ((s2.put Reg.EVR_BB_CURRENT i).incSat Reg.EVR_BB_PAGES 1, true)

/-- Write the waiting records to the black box, 256 a page: from the ring, or in BUFFER mode from CP0's buffer (R458, R462).
-/
def State.bbFlush (s : State) (late : Bool) : State :=
  if s.evrMode = 3 then
    let es := s.evr.buffer.take 256
    if es.isEmpty then s
    else
      let r := s.bbPage false true (es.map (fun e => { e with late := e.late || late }))
      if r.2 then { r.1 with evr := { r.1.evr.markWritten es with buffer := r.1.evr.buffer.drop 256 } } else r.1
  else
    let xs := (s.evr.ring.zipIdx.filter (fun x => !x.1.flushed)).take 256
    if xs.isEmpty then s
    else
      let r := s.bbPage false false (xs.map (fun x => { x.1.evt with late := x.1.evt.late || late }))
      if r.2 then xs.foldl (fun t x => { t with evr := t.evr.markFlushed x.2 x.1.evt }) r.1 else r.1

/-- Write every waiting record where the mode sends it (R455, R458, R471 FLUSH). -/
def State.flushAll (s : State) (late : Bool) : State :=
  if s.evr.provisional then s
  else if s.evrMode = 0 then State.norFlush late s.evr.ring.length s
  else if s.evrMode = 2 then s
  else (List.range (ceilDiv (s.evr.ring.length + s.evr.buffer.length) 256)).foldl (fun t _ => t.bbFlush late) s

/-! The modes (R462). -/

/-- Enter a mode of R462 with its event. -/
def State.enterMode (s : State) (mode code : Nat) : State :=
  let s1 := ((s.put Reg.EVR_MEM_MODE mode).putB Reg.EVR_MEM_CRIT (mode == 3)).putB Reg.GRT_STATUS_BB_ACTIVE
    (mode == 1 || mode == 3)
  (((s1.raiseEvr Reg.EVR_STATUS_MEM_EV).ev .evr code 7 0)).syncWarn

/-- The NOR journal has failed (R462). -/
def State.norFailed (s : State) : State :=
  if s.evrMode = 0 then s.enterMode 1 0x6001
  else if s.evrMode = 2 then s.enterMode 3 0x6003
  else s

/-- The ring has failed; `lost` names the slots that cannot be read (R462). Readable records are flushed first, the rest
count as dropped. -/
def State.ringFailed (s : State) (lost : List Nat) : State :=
  if s.evrMode = 0 ∨ s.evrMode = 1 then
    let kept := (s.evr.ring.zipIdx.filter (fun x => !lost.contains x.2)).map (fun x => x.1)
    let s1 := { s with evr := { s.evr with ring := kept } }
    let gone := ((s.evr.ring.zipIdx.filter (fun x => lost.contains x.2 && !x.1.flushed))).length
    let s2 := if s.evrMode = 0 then s1.flushAll false
      else
        let xs := (kept.filter (fun x => !x.flushed)).map (fun x => x.evt)
        { s1 with evr := { s1.evr with
            buffer := xs.take 256,
            ring := s1.evr.ring.map (fun (x : RingSlot) =>
              if (xs.take 256).any (fun e => e == x.evt) then { x with flushed := true } else x) } }
    let left := s2.evr.unflushed
    let s3 := { s2 with evr := { s2.evr with ring := [] } }
    let s4 := if gone + left = 0 then s3
      else (s3.incSat Reg.EVR_LOST_DROPPED (gone + left)).raiseEvr Reg.EVR_STATUS_LOST_EV
    if s.evrMode = 0 then s4.enterMode 2 0x6002 else s4.enterMode 3 0x6003
  else s

/-- The black-box blocks as the block-state table has them (R141, R168): a retired one gives way to its replacement. -/
def State.bbSync (s : State) : State :=
  let homes := (mfilter (fun _ b => b.st == .blackBox) s.grt.tbl).map (fun e => e.1)
  let kept := s.evr.bb.filter (fun b => homes.contains b.home)
  let fresh := (homes.filter (fun h => !(kept.any (fun b => b.home == h)))).map (fun h => BBBlock.mk [] h)
  let s1 := { s with evr := { s.evr with bb := (kept ++ fresh).take 8 } }
  if s1.evr.bb.isEmpty then
    if s.flag Reg.EVR_MEM_BB_FAIL then s1 else (s1.put Reg.EVR_MEM_BB_FAIL 1).ev .evr 0x6007 6 0
  else s1.put Reg.EVR_MEM_BB_FAIL 0

/-- A program of the black box failed: the block retires (R168, R458). -/
def State.bbFailed (s : State) : State :=
  match s.bbTarget with
  | none => s.bbSync
  | some (i, _) =>
    match s.evr.bb[i]? with
    | none => s.bbSync
    | some b => (s.retireBlk (b.home / 65536) (b.home % 65536) 2).bbSync

/-- The black-box tail page of a vault: the records accepted since the trip, the seal record last, at most 256 (R460). -/
def State.bbTail (s : State) : State :=
  match s.evr.tripSeq with
  | none => s
  | some lo =>
    let since := sortBy (fun (e : EvRecord) => e.seq) ((s.evr.ring.map (fun x => x.evt)).filter (fun e =>
      decide (lo ≤ e.seq) && !e.update))
    let direct := ((s.evr.sectors.map (fun x => x.recs)).flatten ++ s.evr.buffer).filter (fun e =>
      decide (lo ≤ e.seq) && !(since.any (fun x => x.seq == e.seq)))
    let all := sortBy (fun (e : EvRecord) => e.seq) (direct ++ since)
    let r := s.bbPage true false (all.drop (all.length - 256))
    { r.1 with evr := { r.1.evr with tripSeq := none } }

/-! Reading (R463–R466). -/

/-- The copy of a record that stands (R448), and where it is: 0 ring, 1 NOR journal, 2 black box, 3 CP0 buffer. -/
def Recorder.standing (r : Recorder) (seq : Nat) : Option (EvRecord × Nat) :=
  let all := ((r.ring.filter (fun x => !x.cleared)).map (fun x => (x.evt, 0))) ++
    ((r.sectors.map (fun x => x.recs)).flatten.map (fun e => (e, 1))) ++
    ((r.bb.map BBBlock.recs).flatten.map (fun e => (e, 2))) ++ (r.buffer.map (fun e => (e, 3)))
  match all.filter (fun e => e.1.seq == seq && !r.hidden e.1) with
  | [] => none
  | h :: t => some (t.foldl (fun b x => if b.1.rep < x.1.rep then x else b) h)

/-- RD_GO (R466, R474). -/
def State.readRecord (s : State) : State :=
  match s.evr.standing (s.get Reg.EVR_RD_SEQ_SEQ) with
  | none => ((s.put Reg.EVR_RD_STATUS_VALID 1).put Reg.EVR_RD_STATUS_NOT_HELD 1).put Reg.EVR_RD_STATUS_FROM 0
  | some (e, src) =>
    let s1 := ((s.put Reg.EVR_RD_STATUS_VALID 1).put Reg.EVR_RD_STATUS_NOT_HELD 0).put Reg.EVR_RD_STATUS_FROM src
    (List.range 16).foldl (fun t w => t.put (Reg.EVR_RD_DATAw_WORD w) (leNat ((e.bytes.drop (4 * w)).take 4))) s1

/-- The view of a requester: port A, port B, SMBus (R464). -/
def viewOf : Requester → Option Nat
  | .portA => some 0 | .portB => some 1 | .smbus => some 2 | _ => none

/-- The highest SEQ accepted so far (R464). -/
def State.endSeq (s : State) : Nat := s.get Reg.EVR_SEQ_NEXT - 1

/-- Open a view (R464). -/
def State.openView (s : State) (v : Nat) : State :=
  ({ s with evr := { s.evr with views := lset s.evr.views v (some s.endSeq) } } : State).put Reg.EVR_VIEW_END_SEQ s.endSeq

/-- Close one view; with the last one the placeholders go and erases may resume. -/
def State.closeView (s : State) (v : Nat) : State :=
  let vs := lset s.evr.views v none
  { s with evr := { s.evr with views := vs, holes := if vs.all (fun x => x.isNone) then [] else s.evr.holes } }

/-- Close every view. -/
def State.closeViews (s : State) : State :=
  { s with evr := { s.evr with views := [none, none, none], holes := [] } }

/-- The records of a view: the standing copy of each held SEQ up to END_SEQ, placeholders for the overwritten ones (R464,
R465); REPEAT and LAST_DT are those of the moment. -/
def Recorder.viewRecs (r : Recorder) (endSeq : Nat) : List EvRecord :=
  let seqs : NMap Unit := (r.heldRecs.filter (fun e => decide (e.seq ≤ endSeq))).foldl (fun m e => mset m e.seq ()) []
  let all : NMap Unit := (r.holes.filter (fun n => decide (n ≤ endSeq))).foldl (fun m n => mset m n ()) seqs
  all.filterMap (fun k =>
    match r.standing k.1 with
    | some (e, _) =>
      match r.opens.find? (fun o => o.evt.seq == k.1) with
      | some o => some (if e.rep < o.evt.rep then { e with rep := o.evt.rep, lastDt := o.evt.lastDt } else e)
      | none => some e
    | none => if r.holes.contains k.1 then some (.placeholder k.1) else none)

/-- The 64-byte header of an event view (R464). -/
def State.viewHeader (s : State) (endSeq : Nat) (es : List EvRecord) (closed : Bool) : List Byte :=
  let first := (es.head?.map (fun e => e.seq)).getD 0
  let gaps := if es.isEmpty then 0 else endSeq + 1 - first - es.length
  let body := natLe endSeq 8 ++ natLe first 8 ++ natLe es.length 4 ++ natLe gaps 4 ++ natLe s.evrMode 1 ++
    natLe (b2n closed) 1 ++ natLe 0 2 ++ natLe (s.get Reg.EVR_LOST_OVERWRITTEN) 4 ++ natLe (s.get Reg.EVR_LOST_DROPPED) 4 ++
    natLe (s.get Reg.EVR_CLEAR_COUNT) 4 ++ natLe (s.get Reg.EVR_CLEAR_SEQ_SEQ) 8 ++ natLe 0 12
  body ++ natLe (crc32c body) 4

/-- The bytes of the event view of a requester (R464): the header, then the records; without an open view the header alone,
marked closed. -/
def State.viewBytes (s : State) (v : Nat) : List Byte :=
  match lget s.evr.views v none with
  | some e =>
    let es := s.evr.viewRecs e
    s.viewHeader e es false ++ (es.map EvRecord.bytes).flatten
  | none => s.viewHeader (s.get Reg.EVR_VIEW_END_SEQ) [] true

/-! Clearing (R467–R469). -/

/-- GET_CHALLENGE: a fresh 32-byte nonce and the present END_SEQ (R467, R490). -/
def State.getChallenge (s : State) : State × List Byte :=
  let n := s.fresh 256
  ({ n.2 with evr := { n.2.evr with challenge := some ⟨n.1, s.endSeq⟩ } },
    natLe n.1 32 ++ natLe s.endSeq 8 ++ List.replicate 24 0)

/-- The sectors and blocks whose held records the clears in force all cover are erased (R468 step 5), where the journal may
be erased (R456). -/
def State.clearErase (s : State) : State :=
  let gone (es : List EvRecord) : Bool := !es.isEmpty && es.all (fun e => s.evr.hidden e)
  let left := s.evr.sectors.filter (fun x => !gone x.recs)
  let s1 := if s.norMayErase then
      { s with evr := { s.evr with sectors := left, freeSect := s.evr.freeSect + (s.evr.sectors.length - left.length) } }
    else s
  (s1.evr.bb.zipIdx.filter (fun b => gone b.1.recs)).foldl (fun t b =>
    let t1 := t.bbErase b.1.home
    { t1 with evr := { t1.evr with bb := lset t1.evr.bb b.2 { b.1 with pages := [] } } }) s1

/-- Write the newest record to durable memory at once (R468 step 2). -/
def State.flushNow (s : State) : State := s.flushAll false

/-- An accepted clear (R468). `sigHash` holds the first 16 bytes of the SHA-384 of the signature. -/
def State.clearAccepted (s : State) (r : Requester) (clearTo maxSev scope slot : Nat) (sigHash : List Nat) : State :=
  let seq := s.get Reg.EVR_SEQ_NEXT
  let words := [clearTo % 2 ^ 32, clearTo / 2 ^ 32, maxSev % 8 + (scope % 256) * 2 ^ 8 + (slot % 16) * 2 ^ 16, r.code] ++
    (List.range 4).map (fun i => lget sigHash i 0 % 2 ^ 32)
  let s1 := (s.eventWith 12 0x6004 6 0 (words, false)).flushNow.closeViews
  let c : ClearRec := ⟨seq, clearTo, maxSev, scope⟩
  let s2 := { s1 with evr := { s1.evr with
    clears := s1.evr.clears ++ [c],
    ring := s1.evr.ring.map (fun (x : RingSlot) => if c.covers x.evt then { x with cleared := true, flushed := true } else x) } }
  let s3 := if bitOf scope 0 then { s2 with rails := { s2.rails with ffNor := [[], []] } } else s2
  ((s3.clearErase.incSat Reg.EVR_CLEAR_COUNT 1).put Reg.EVR_CLEAR_SEQ_SEQ clearTo).raiseEvr Reg.EVR_STATUS_CLEAR_EV

/-- A refused clear (R469): event 0x6005; three within an hour of operating time lock clears until the next start. -/
def State.clearRefused (s : State) (r : Requester) : State :=
  let recent := s.evr.refusals.filter (fun t => decide (s.secs < t + 3600)) ++ [s.secs]
  let s1 := { s with evr := { s.evr with refusals := recent } }
  let s2 := if 3 ≤ recent.length then s1.put Reg.EVR_STATUS_CLEAR_LOCK 1 else s1
  (s2.ev .evr 0x6005 5 r.code).raiseEvr Reg.EVR_STATUS_CLEAR_EV

/-- CLEAR (R467–R469, R490): the status it ends with. `keyOk`: the SHA-384 of the key equals the slot's; `sigOk`: the
signature verifies over the nonce. -/
def State.logClear (s : State) (r : Requester) (clearTo maxSev scope slot : Nat) (keyOk sigOk : Bool) (sigHash : List Nat) :
    State × NStat :=
  let s0 := { s with evr := { s.evr with challenge := none } }
  let slotOk : Bool := (s.boot.otpSlots.getD slot (false, false)) == (true, false)
  let refuse (st : NStat) : State × NStat := (s0.clearRefused r, st)
  if s.flag Reg.EVR_STATUS_CLEAR_LOCK then refuse (stVendor 0xC4)
  else if s.vaulting || s.rehearsing || s.boot.staging.isSome then refuse (stVendor 0xC0)
  else if s.seqState ≠ seqOn then refuse (stVendor 0xC1)
  else
    match s.evr.challenge with
    | none => refuse (stVendor 0xC5)
    | some c =>
      if !(keyOk && slotOk && sigOk) then refuse (stVendor 0xC3)
      else if c.endSeq < clearTo then refuse stInvalidField
      else (s0.clearAccepted r clearTo maxSev scope slot sigHash, stOk)

/-! Starts (R445, R452, R461, R462, R464). -/

/-- The highest SEQ that durable memory shows, in its records and in the NEXT_SEQ of its sector headers (R445, R455). -/
def Recorder.highestSeq (r : Recorder) : Nat :=
  let es : List EvRecord := (r.sectors.map (fun (x : JSector) => x.recs)).flatten ++ (r.bb.map BBBlock.recs).flatten
  (es.map (fun (e : EvRecord) => e.seq) ++ r.sectors.map (fun (x : JSector) => x.nextSeq - 1)).foldl Nat.max 0

/-- The NOR's size is known (R406): the space above 16 MiB belongs to the journal. -/
def Recorder.norSize (r : Recorder) (log2 : Nat) : Recorder :=
  { r with freeSect := r.freeSect + (2 ^ (log2 - 12) - 2 ^ (r.norLog2 - 12)), norLog2 := Nat.max log2 r.norLog2 }

/-- Records of VAULT_TAIL pages above the journal's highest SEQ are copied to the journal with LATE (R461 step 2). -/
def State.copyTails (s : State) : State :=
  let top := (((s.evr.sectors.map (fun x => x.recs)).flatten).map (fun e => e.seq)).foldl Nat.max 0
  let es := ((s.evr.bb.map (fun b => (b.pages.filter (fun p => p.tail)).map (fun p => p.recs))).flatten).flatten
  (es.filter (fun e => decide (top < e.seq))).foldl (fun t e =>
    let r := t.norReady
    if r.norRoom then t.setEvr (r.norAppend { e with late := true } (t.get Reg.EVR_SEQ_NEXT)) else t) s

/-- What every start does to the recorder before the NOR is read (R452, R462, R464, R467, R469, R471): open records close,
views and the challenge end, the refusal lock ends, the severity table is to be rebuilt. `norOk` and `ringOk` are the
results of the NOR test and of the march test of the event area. -/
def State.evrStart (s : State) (norOk : Bool) : State :=
  let s1 := (s.evr.opens.map (fun o => o.evt.seq)).foldl (fun (t : State) n => t.closeOpen n) s
  let s2 : State := { s1.closeViews with evr := { s1.closeViews.evr with challenge := none, tripSeq := none } }
  let s3 := (s2.put Reg.EVR_STATUS_CLEAR_LOCK 0).put Reg.EVR_STATUS_SCAN_DONE 0
  let mode : Nat := if norOk then (if s3.evrMode = 1 then 0 else if s3.evrMode = 3 then 2 else s3.evrMode) else s3.evrMode
  let s4 := ((s3.put Reg.EVR_MEM_MODE mode).putB Reg.EVR_MEM_CRIT (mode == 3)).putB Reg.GRT_STATUS_BB_ACTIVE
    (mode == 1 || mode == 3)
  let s5 := if mode = s.evrMode then s4 else s4.raiseEvr Reg.EVR_STATUS_MEM_EV
  if norOk then s5 else s5.norFailed

/-- A cold start resumes SEQ above everything found; no SEQ that AON still knows to be used comes again (R445). -/
def State.evrResume (s : State) : State := s.put Reg.EVR_SEQ_NEXT (Nat.max (s.get Reg.EVR_SEQ_NEXT) (s.evr.highestSeq + 2 ^ 16))

/-- The operating-seconds copy has been read: provisional records take the resumed base (R446). -/
def State.evrRebase (s : State) (baseSecs baseCycles : Nat) : State :=
  if s.evr.provisional then
    let fix (e : EvRecord) : EvRecord :=
      if e.time / 2 ^ 40 = 0xFFFFFF then { e with time := (e.time % 2 ^ 40 + baseSecs) % 2 ^ 40 + baseCycles * 2 ^ 40 } else e
    { s with evr := { s.evr with
        provisional := false,
        ring := s.evr.ring.map (fun x => { x with evt := fix x.evt }),
        opens := s.evr.opens.map (fun o => { o with evt := fix o.evt }) } }
  else s

/-- What BUFFER mode left in CP0's buffer goes to the journal with LATE once that mode has ended (R461, R462). -/
def State.bufferLate (s : State) : State :=
  if s.evrMode = 3 then s
  else
    let s1 := s.evr.buffer.foldl (fun (t : State) e =>
      let r := t.norReady
      if r.norRoom then t.setEvr (r.norAppend { e with late := true } (t.get Reg.EVR_SEQ_NEXT)) else t.dropRec) s
    { s1 with evr := { s1.evr.markWritten s.evr.buffer with buffer := [] } }

/-- The unflushed ring goes to durable memory with LATE, then the tail pages (R461). -/
def State.evrLate (s : State) : State :=
  let s1 := (s.flushAll true).bufferLate
  (if s1.evrMode = 0 ∨ s1.evrMode = 2 then s1.copyTails else s1).lostReport

/-- The rail that supplies the NOR is in regulation; a NOR on the standby supply always is (R350, R460). -/
def State.norSupplied (s : State) : Bool :=
  (List.range 64).all (fun n => !s.flag (Reg.SUP_CHn_CFG_NOR_SUPPLY n) ||
    (s.flag (Reg.SUP_CHn_VAL_EN n) && decide (s.get (Reg.SUP_CHn_THR_UV n) ≤ s.get (Reg.SUP_CHn_VAL_CODE n)) &&
      decide (s.get (Reg.SUP_CHn_VAL_CODE n) ≤ s.get (Reg.SUP_CHn_THR_OV n))))

/-- The journal takes waiting records: its severity table is complete (R456), and from a trip to the seal its supply is in
regulation (R460). -/
def State.norFlushes (s : State) : Bool := s.flag Reg.EVR_STATUS_SCAN_DONE && (!s.vaulting || s.norSupplied)

/-- The severity table is complete (R456): erases may resume, clears in force are finished (R468). -/
def State.scanDone (s : State) : State := (s.put Reg.EVR_STATUS_SCAN_DONE 1).clearErase

end Sys2Proof.Machine
end

