-- ==== Sys2Proof/Machine/SeqBase.lean ====
section
/-! DEFINITION. The sequencer's operations (R356–R361, R366): rails and groups, power-down, what an OFF device has lost,
first-fail records. -/

namespace Sys2Proof.Machine

/-- The rails of a group in ascending channel order. -/
def State.railsOf (s : State) (g : Nat) : List Nat := (List.range 64).filter (fun n => s.railGroup n == g)

/-- The highest group used. -/
def State.lastGroup (s : State) : Nat :=
  ((List.range 64).map (fun n => if s.railGroup n < 8 then s.railGroup n else 0)).foldl Nat.max 0

/-- What the scanner keeps of a channel. -/
def State.chan (s : State) (n : Nat) : Chan := mgetD s.rails.chans n Chan.init

/-- Replace it. -/
def State.setChan (s : State) (n : Nat) (c : Chan) : State :=
  { s with rails := { s.rails with chans := mput Chan.init s.rails.chans n c } }

/-- Retained domains run again (R385, R390). -/
def State.resumeRetained (s : State) : State :=
  { s with pwr := { s.pwr with dom := s.pwr.dom.map (fun d => if d = DomSt.retained then DomSt.on else d) } }

/-- Leave SLEEP at once: the retained domains run, the DRAM leaves self-refresh, the guard is disarmed (R383, R385). -/
def State.sleepExitNow (s : State) : State :=
  let st := s.get Reg.PWR_STATUS_STATE
  if st = pwrSleep ∨ (st = pwrExiting ∧ s.get Reg.PWR_WAKE_FROM = pwrSleep) then
    let s1 := s.resumeRetained
    let s2 := { s1 with dmc := { s1.dmc with selfRefresh := false }, pwr := { s1.pwr with guard := [] } }
    ((s2.put Reg.PWR_STATUS_STATE pwrRun).put Reg.PWR_STATUS_GUARD 0).put Reg.WDT_STATUS_PAUSED 0
  else s

/-- The device power state is RUN, as the sequencer leaves ON (R378): an entry is rolled back, SLEEP and DEEP are left at
once. -/
def State.leaveOn (s : State) (src : Nat) : State :=
  let st := s.get Reg.PWR_STATUS_STATE
  if st = pwrIdle then s.put Reg.PWR_STATUS_STATE pwrRun
  else
    let s1 := (s.wake src).sleepExitNow
    if s1.get Reg.PWR_STATUS_STATE = pwrExiting then
      ({ s1 with boot := { s1.boot with starting := false, startStep := 0 } } : State).put Reg.PWR_STATUS_STATE pwrRun
    else s1

/-- The sectors of the supervision log (R369): in ON, and in no other state, the other sector is erased as soon as the current one
is full. -/
def State.ffErase (s : State) : State :=
  if s.seqState = seqOn ∧ 64 ≤ (lget s.rails.ffNor s.rails.ffCur []).length then
    { s with rails := { s.rails with ffNor := lset s.rails.ffNor (1 - s.rails.ffCur) [] } }
  else s

/-- The sequencer changes state (R361): SEQ_EV, an event of severity 2; leaving ON takes the device to RUN and ends a rail
transition. -/
def State.setSeq (s : State) (st : Nat) : State :=
  if s.seqState = st then s
  else
    let s1 := if s.seqState = seqOn ∧ st ≠ seqGrace then s.leaveOn 10 else if s.seqState = seqOn then s.leaveOn 4 else s
    let s0 : State := if s.seqState = seqOn ∨ s.seqState = seqGrace then
        { s1 with rails := { s1.rails with wait := .none, inTransition := false, reached := s.lastGroup } } else s1
    (((s0.put Reg.SUP_SEQ_STATUS_STATE st).raise Reg.SUP_STATUS_SEQ_EV Reg.SUP_CTRL_INT_EN 60).ev .sup 0x0001 2 st).ffErase

/-- The rails of a group that a sequence moves: all of them, or in a power-state transition those whose KEEP bit is 0 (R359).
-/
def State.walkRails (s : State) (g : Nat) : List Nat :=
  if s.rails.inTransition then
    (s.railsOf g).filter (fun n =>
      !s.flag (if s.rails.transDeep then Reg.SUP_CHn_CFG_KEEP_DEEP n else Reg.SUP_CHn_CFG_KEEP_SLEEP n))
  else s.railsOf g

/-- Enable the rails of a group (R358): each counts power-good samples anew. -/
def State.enableGroup (s : State) (g : Nat) : State :=
  let s1 := (s.walkRails g).foldl (fun t n =>
    (t.put (Reg.SUP_CHn_VAL_EN n) 1).setChan n { t.chan n with pgCnt := 0, uvCnt := 0, uvConf := false, offOk := false }) s
  let s2 := s1.put Reg.SUP_SEQ_STATUS_GROUP g
  { s2 with rails := { s2.rails with wait := .ready, reached := g } }

/-- Reset every field of a block but those listed (R517). -/
def State.resetBlock (s : State) (b : Block) (keep : List Fld) : State :=
  { s with regs := s.regs.filter (fun e => Block.ofOff (keyOff e.1) != some b || keep.any (fun f => f.key == e.1)) }

/-- The field that a register-file key spells. -/
def fldOfKey (k : Nat) : Option Fld :=
  match regAt (keyOff k) with
  | some (r, _) => r.flds.find? (fun f => f.key == k)
  | none => none

/-- Reset the fields of a block that a write or a read can change; read-only fields show state that the start sets anew
(R517). -/
def State.resetRw (s : State) (b : Block) : State :=
  { s with regs := s.regs.filter (fun e => Block.ofOff (keyOff e.1) != some b ||
      (match fldOfKey e.1 with
       | some f => f.acc == .ro
       | none => false)) }

/-- What SUP keeps through OFF: the first-fail registers, which show the AON save area (R367). -/
def supKept : List Fld :=
  [Reg.SUP_FF_INFO_CODE, Reg.SUP_FF_INFO_CHANNEL, Reg.SUP_FF_INFO_KIND, Reg.SUP_FF_INFO_PHASE, Reg.SUP_FF_INFO_GROUP,
   Reg.SUP_FF_INFO_ATTEMPT, Reg.SUP_FF_INFO_VALID, Reg.SUP_FF_STAT_DROPPED, Reg.SUP_FF_TIME_TIME, Reg.SUP_FF_MASK_OUT_MASK,
   Reg.SUP_SEQ_STATUS_STATE]

/-- Begin a power-up (R358): it waits for the start to read the rail table. -/
def State.upBegin (s : State) (attempt : Nat) : State :=
  let s1 := (s.setSeq seqUp).put Reg.SUP_SEQ_STATUS_ATTEMPT (Nat.min 7 attempt)
  { s1 with rails := { s1.rails with
      chans := [], wait := .boot, upLatched := false, ffTaken := false, ffInScan := false, reached := 0, fast := false,
      autoOn := false, inTransition := false, ffBarred := false } }

/-- The junction temperature (R438). -/
def State.tjunction (s : State) : Int := s.getI Reg.SYS_TEMP_TJ

/-- Power-on (R361, R388, R419 step 1, R436, R517, R550): the regulator goes to full mode, PD_SUP begins to come up (R390)
with its fields reset, the power-cycle count rises, a start is under way; above 115 °C it waits for the die to cool. -/
def State.powerOn (s : State) (attempt : Nat) : State :=
  let s0 := (s.resetBlock .sup supKept).resetRw .lan
  let s1 := (s0.put Reg.PWR_AON_LP_MODE 0).incWrap Reg.SYS_OPSEC_PWR_CYCLES 1
  let s2 := { s1 with
    pwr := { s1.pwr with upDom := some Domain.sup, upStep := 0, upRetry := false }
    boot := { s1.boot with starting := true, startStep := 1, hotWait := decide (115 < s1.tjunction) } }
  s2.upBegin attempt

/-- A power-on request that finds the device off (R388, R399): its source is a wake from OFF. -/
def State.wakeOff (s : State) (src : Nat) : State :=
  let s1 := ((s.incSat Reg.PWR_WAKE_COUNT 1).put Reg.PWR_WAKE_FROM 4).put Reg.PWR_WAKE_SOURCE src
  (s1.raise Reg.PWR_STATUS_WAKE_EV Reg.PWR_CTRL_INT_EN 61).powerOn 0

/-- The device is off (R377, R388): every rail and every domain but PD_AON is off, DRAM has lost its content, the queues
are gone, and the AON regulator is in low-power mode. What is on flash and in AON stands. -/
def State.allOff (s : State) : State :=
  let s1 := (List.range 64).foldl (fun t n => t.put (Reg.SUP_CHn_VAL_EN n) 0) s.grottoPowerLoss.stagingLost
  let s2 := Domain.all.foldl (fun t d => if d = .aon then t else t.setDom d .off) s1
  let keep := s2.pmr
  let s3 := { s2 with
    pmr := { Pmr.init with nextSeq := keep.nextSeq, epoch := keep.epoch, peerEpoch := keep.peerEpoch },
    cache := Cache.init,
    umb := { s2.umb with rehearsal := none, published := false, issued := 0 },
    broker := { s2.broker with held := [], queue := [] },
    vlt := { s2.vlt with cur := none, waitPeer := false, openKind := none, fixed := false, ownBad := [] },
    host := { s2.host with portA := HostPort.init, portB := HostPort.init, waiting := [],
                            latches := HostSide.init.latches, snaps := [], smb := Smbus.init },
    deferred := [], flow := [],
    dmc := { Dram.init with pos := s2.dmc.pos, setsAon := s2.dmc.setsAon, trainNor := s2.dmc.trainNor, drift := s2.dmc.drift,
                             norAt := s2.dmc.norAt, freezeRec := s2.dmc.freezeRec,
                             freezeNor := s2.dmc.freezeNor },
    ech := { Echo.init with session := s2.ech.session, peerId := s2.ech.peerId, peerNor := s2.ech.peerNor,
                             zones := s2.ech.zones, allFrom := s2.ech.allFrom,
                             detachedAon := s2.ech.detachedAon },
    pwr := { s2.pwr with request := 0, agreed := [], asking := none, prep := 0, guard := [], upDom := none, upStep := 0 },
    boot := { s2.boot with starting := false, startStep := 0, hotWait := false },
    rails := { s2.rails with wait := .none, openedThisStart := false, fast := false, inTransition := false, norHold := false },
    evr := { s2.evr with buffer := [], views := [none, none, none], challenge := none } }
  let s4 := (((s3.put Reg.PWR_AON_LP_MODE 1).put Reg.SYS_STATUS_SR_VALID 0).put Reg.VLT_STATUS_HOLD 0).put Reg.VLT_STATUS_PHASE 0
  let s5 := ((s4.put Reg.PWR_STATUS_STATE pwrRun).put Reg.PWR_STATUS_TARGET 0).put Reg.PWR_STATUS_RETRY 0
  let s6 := ((s5.put Reg.PWR_LEAVE_QUEUE_VAULT 0).put Reg.SUP_STATUS_VAULT_SUPPRESS 0).put Reg.SUP_STATUS_SEQ_DONE 0
  let s7 := ((s6.put Reg.WDT_STATUS_MASKED 0).put Reg.SUP_STATUS_OFF_PENDING 0).put Reg.WDT_STATUS_PAUSED 0
  let s8 := ((s7.put Reg.CLK_STATUS_LOCK 0).put Reg.CLK_STATUS_XTAL_OK 0).put Reg.CLK_STATUS_HOLD 0
  (s8.put Reg.CLK_STATUS_FAULT 0).put Reg.CLK_STATUS_SUP_BACKUP 0

/-- Enter OFF (R361). `auto` lets the input's return power the device on (R366). -/
def State.enterOff (s : State) (auto : Bool) : State :=
  let s1 := s.setSeq seqOff
  let onPend := s1.flag Reg.SUP_STATUS_ON_PENDING
  let s2 := s1.allOff
  let s3 := { s2 with rails := { s2.rails with autoOn := auto, mrstWait := s2.rails.mrstWait && onPend } }
  if onPend then (s3.put Reg.SUP_STATUS_ON_PENDING 0).powerOn 0 else s3

/-- Run-time fault power-downs within the last hour (R360). -/
def State.runFaults (s : State) : Nat := (s.rails.faultTimes.filter (fun t => decide (s.secs < t + 3600))).length

/-- COUNT of the newest boot record (R422). -/
def Boot.count (b : Boot) : Nat := (b.bootLog.getLast?.map (fun r => r.count)).getD 0

/-- SEQ of the newest counting commit record (R415); 0 if none. -/
def Boot.commitSeq (b : Boot) : Nat := (b.commits.getLast?.map (fun r => r.seq)).getD 0

/-- The boot log's area (R406, R422): 16 sectors of 128 records in turn; a record that finds them full is preceded by the
erase of the oldest sector. -/
def logRoom (l : List BootRec) : List BootRec := if 2048 ≤ l.length then l.drop 128 else l

/-- Program a boot log record (R422): COUNT rises with the Attempt of a cold start, and ends with Success and Clear. -/
def State.bootNote (s : State) (kind reason : Nat) (cold : Bool) : State :=
  let b := s.boot
  let count := if kind = 1 then (if cold then b.count + 1 else b.count) else if kind = 3 then b.count else 0
  let r : BootRec :=
    { seq := (b.bootLog.getLast?.map (fun r => r.seq)).getD 0 + 1, kind := kind,
      bank := s.get Reg.CFG_STATUS_BANK, path := s.get Reg.SYS_STATUS_PATH,
      reason := reason, count := count, safe := s.flag Reg.SYS_STATUS_SAFE, trial := s.flag Reg.CFG_STATUS_TRIAL,
      commit := b.commitSeq, secs := s.secs, cycles := s.get Reg.SYS_OPSEC_PWR_CYCLES }
  ({ s with boot := { b with bootLog := logRoom b.bootLog ++ [r] } } : State).put Reg.SYS_STATUS_FAILED_STARTS (Nat.min 15 count)

/-- The start succeeds (R421, R422, R430, R431, R435): Success is programmed, CP0 sets the CFG lock unless the image holds it
unlocked, a trial window begins, and the AON patches wait for their table swap. -/
def State.startSuccess (s : State) : State :=
  if s.boot.starting then
    let s1 := s.bootNote 2 0 false
    let s2 := if (s.boot.running.map (fun i => i.holdUnlocked)).getD false then s1.ev .cfg 0x1002 5 0
      else s1.put Reg.CFG_CTRL_LOCK 1
    { s2 with boot := { s2.boot with
        starting := false, startStep := 0, trial := s2.flag Reg.CFG_STATUS_TRIAL,
        aonPatchWait := decide (0 < (s.boot.running.map (fun i => i.aonPatches)).getD 0) && !s.flag Reg.SYS_STATUS_SAFE } }
  else s

/-- Record one failed start (R421, R422). -/
def State.noteFail (s : State) (reason : Nat) : State :=
  let s1 := ((s.put Reg.SYS_STATUS_LAST_FAIL reason).ev .sys 0x1001 6 reason).bootNote 3 reason false
  { s1 with boot := { s1.boot with starting := false, startStep := 0, startRec := false } }

/-- Enter RETRY_WAIT (R360, R361): an on request latched in DOWN is met by the power-up that follows. -/
def State.enterRetry (s : State) : State :=
  let s1 := ((s.setSeq seqRetryWait).allOff).put Reg.SUP_STATUS_ON_PENDING 0
  { s1 with rails := { s1.rails with wait := .retryDelay } }

/-- Enter LOCKOUT (R360): an event of severity 6; an exhausted power-up attempt counts as one failed start. -/
def State.enterLockout (s : State) (attempt : Bool) : State :=
  let s1 := ((s.setSeq seqLockout).put Reg.SUP_STATUS_LOCKOUT 1).ev .sup 0x1002 6 0
  ((if attempt then s1.noteFail 2 else s1).allOff).put Reg.SUP_STATUS_ON_PENDING 0

/-- The last group is off: OFF, RETRY_WAIT, LOCKOUT or UP (R360, R361, R366). -/
def State.downFinish (s : State) : State :=
  if s.rails.downWhy = .attemptFail then
    if s.rails.upLatched then s.enterOff false
    else if s.get Reg.SUP_SEQ_CFG_RETRIES ≤ s.get Reg.SUP_SEQ_STATUS_ATTEMPT then s.enterLockout true
    else s.enterRetry
  else if s.rails.downWhy = .runFault then
    if s.get Reg.SUP_SEQ_CFG_RUN_LIMIT ≤ s.runFaults then s.enterLockout false
    else if s.vlt.input && s.flag Reg.SUP_SEQ_CFG_AUTO_ON then s.enterRetry
    else s.enterOff true
  else if s.rails.downWhy = .commit then s.enterRetry
  else if s.rails.downWhy = .startFail then
    if s.flag Reg.SYS_STATUS_SAFE then s.enterOff false else s.enterRetry
  else s.enterOff (s.rails.downWhy == .inputLoss)

/-- The rail that stays enabled for the first-fail queue (R369): NOR_SUPPLY, unless it is itself cut or the power-down is
fast. -/
def State.norHeld (s : State) (n : Nat) : Bool :=
  s.flag (Reg.SUP_CHn_CFG_NOR_SUPPLY n) && !s.rails.fast && !s.rails.ffQueue.isEmpty && s.rails.ffTaken &&
    decide ((s.chan n).lat < 3)

/-- Disable the rails of a group (R359, R369). -/
def State.disableGroup (s : State) (g : Nat) : State :=
  let s1 := (s.walkRails g).foldl (fun t n =>
    if t.norHeld n then { t with rails := { t.rails with norHold := true } }
    else (t.put (Reg.SUP_CHn_VAL_EN n) 0).setChan n { t.chan n with offOk := false, pgCnt := 0 }) s
  let s2 := s1.put Reg.SUP_SEQ_STATUS_GROUP g
  { s2 with rails := { s2.rails with wait := .off, reached := g } }

/-! Transitions to and from SLEEP and DEEP (R359). -/

/-- The next group of a transition upward has rails to enable; without one the transition is over. -/
def State.transUp (s : State) (from_ : Nat) : State :=
  match (List.range 8).find? (fun g => decide (from_ ≤ g) && !(s.walkRails g).isEmpty) with
  | some g => s.enableGroup g
  | none => { s with rails := { s.rails with wait := .none, inTransition := false, reached := s.lastGroup } }

/-- The next group of a transition downward. -/
def State.transDown (s : State) (below : Nat) : State :=
  match ((List.range 8).reverse).find? (fun g => decide (g < below) && !(s.walkRails g).isEmpty) with
  | some g => s.disableGroup g
  | none => { s with rails := { s.rails with wait := .none, inTransition := false, reached := s.lastGroup } }

/-- Begin a transition (R359). -/
def State.beginTrans (s : State) (deep up : Bool) : State :=
  let s1 : State := { s with rails := { s.rails with inTransition := true, transDeep := deep } }
  if up then s1.transUp 0 else s1.transDown 8

/-- Begin a power-down (R359): the vault-arm flag is cleared (R106); a fast one drops every group at once. -/
def State.downBegin (s : State) (why : DownWhy) (fast : Bool) : State :=
  let s0 := if why = .runFault then s.leaveOn 11 else s
  let s1 := ((s0.put Reg.VLT_STATUS_ARMED 0).put Reg.SUP_STATUS_SEQ_DONE 0).setSeq seqDown
  let times := if why = .runFault then s1.rails.faultTimes.filter (fun t => decide (s1.secs < t + 3600)) ++ [s1.secs]
    else s1.rails.faultTimes
  let s2 := ({ s1 with
    rails := { s1.rails with downWhy := why, fast := fast, faultTimes := times, inTransition := false },
    boot := { s1.boot with starting := false } } : State)
  if fast then s2.downFinish else s2.disableGroup s2.rails.reached

/-- A start fails (R421, R422): Fail is programmed, the sequencer powers down, and a cold start follows. -/
def State.startFails (s : State) (reason : Nat) : State := (s.noteFail reason).downBegin .startFail false

/-- A fast power-down straight to OFF (R361). -/
def State.fastOff (s : State) (why : DownWhy) : State :=
  let s1 := (s.put Reg.VLT_STATUS_ARMED 0).put Reg.SUP_STATUS_SEQ_DONE 0
  ({ s1 with rails := { s1.rails with downWhy := why, fast := true } } : State).enterOff
    (why == DownWhy.inputLoss || why == DownWhy.runFault)

/-- The seven snapshot entries of a first-fail record (R368). -/
def State.ffSnap (s : State) (ch : Nat) : List (Nat × Nat) :=
  let g := s.railGroup ch
  (((List.range 63).map (fun i => (ch + 1 + i) % 64)).filter (fun n => s.railGroup n == g)).take 7 |>.map
    (fun n => (n, s.get (Reg.SUP_CHn_VAL_CODE n)))

/-- The PHASE of a record (R368). -/
def State.ffPhase (s : State) : Nat :=
  if s.seqState = seqUp then 1 else if s.seqState = seqDown then 2 else if s.rails.inTransition then 3
  else if s.seqState = seqVault then 4 else 0

/-- A first-fail record as its first 32 bytes in eight words (R451, R368). -/
def FFRecord.words (r : FFRecord) : List Nat :=
  [0x52464653, r.recNo, r.time % 2 ^ 32, r.time / 2 ^ 32,
   r.chan + r.kind * 2 ^ 8 + r.phase * 2 ^ 16 + r.group * 2 ^ 24,
   r.attempt + (b2n r.late + 2 * b2n r.rom) * 2 ^ 8 + r.code * 2 ^ 16, r.outMask % 2 ^ 32, r.outMask / 2 ^ 32]

/-- Queue a record for the NOR (R369): the oldest gives way when eight wait. -/
def State.ffQueueAdd (s : State) (r : FFRecord) : State :=
  let full := 8 ≤ s.rails.ffQueue.length
  let q := if full then s.rails.ffQueue.drop 1 else s.rails.ffQueue
  let s1 := { s with rails := { s.rails with ffQueue := q ++ [r], ffNext := r.recNo + 1 } }
  if full then s1.incSat Reg.SUP_FF_STAT_DROPPED 1 else s1

/-- Take a first-fail record (R367, R368): shown in SUP_FF_INFO, queued for the NOR, and recorded. -/
def State.takeFF (s : State) (ch kind code : Nat) : State :=
  let snap := if kind = 5 then [] else s.ffSnap ch
  let r : FFRecord :=
    { recNo := s.rails.ffNext, time := s.timeWord, chan := ch, kind := kind, phase := s.ffPhase,
      group := s.railGroup ch % 16, attempt := s.get Reg.SUP_SEQ_STATUS_ATTEMPT, late := false,
      rom := s.flag Reg.SUP_STATUS_TABLE_ROM, code := code, outMask := s.rails.scanMask, snap := snap }
  let s1 := { s with rails := { s.rails with ffTaken := true } }
  let s2 := (((s1.put Reg.SUP_FF_INFO_CODE code).put Reg.SUP_FF_INFO_CHANNEL ch).put Reg.SUP_FF_INFO_KIND kind).put
    Reg.SUP_FF_INFO_PHASE r.phase
  let s3 := ((s2.put Reg.SUP_FF_INFO_GROUP r.group).put Reg.SUP_FF_INFO_ATTEMPT r.attempt).put Reg.SUP_FF_INFO_VALID 1
  let s4 := ((s3.put Reg.SUP_FF_TIME_TIME r.time).put Reg.SUP_FF_MASK_OUT_MASK r.outMask).ffQueueAdd r
  s4.eventWith 4 0x7001 6 ch (r.words, false)

end Sys2Proof.Machine
end

