-- ==== Sys2Proof/Machine/MediaBytes.lean ====
section
/-! DEFINITION. The Grotto's structures to the byte (R145–R158, R161, R162): what the devices hold at a page - 16 KiB of data
and the 256-byte header - and the granule map's word. -/

namespace Sys2Proof.Machine

/-- A byte string cut or filled with zeros to `n` bytes. -/
def padTo (n : Nat) (l : List Byte) : List Byte := l.take n ++ List.replicate (n - l.length) 0

/-- A byte string cut or filled with ones to `n` bytes. -/
def padOnes (n : Nat) (l : List Byte) : List Byte := l.take n ++ List.replicate (n - l.length) 0xFF

/-- Exclusive or of two pages. -/
def xorPage (a b : List Byte) : List Byte := a.zipWith (fun x y => x ^^^ y) b

/-! Granules (R146, R148). -/

/-- The plaintext of a version: 4,096 bytes. -/
def GVer.plain (v : GVer) : List Byte := loadBytes v.data 0 4096

/-- The 128-bit tweak (R148): SEQ, GRANULE, OWNER. -/
def GVer.tweak (v : GVer) : Nat := v.seq % 2 ^ 64 + v.gran % 2 ^ 32 * 2 ^ 64 + v.owner.idx * 2 ^ 96

/-- A granule as it is stored under a media key (R148). -/
def GVer.cipher (v : GVer) (key : Nat) : List Byte := xtsUnit key v.tweak v.plain

/-- A granule descriptor (R146): 48 bytes; that of an empty slot is all zero. -/
def granDesc : Option GVer → List Byte
  | none => List.replicate 48 0
  | some v =>
    let flags := 1 + 2 * v.owner.idx + 4 * b2n v.poison + 8 * b2n v.copy + 16 * v.source
    natLe (v.gran % 2 ^ 28) 4 ++ natLe flags 1 ++ natLe (if v.poison then v.mask else 0) 1 ++ natLe 0 2 ++ natLe v.seq 8 ++
      natLe v.epoch 4 ++ natLe (crc32c v.plain) 4 ++ List.replicate 24 0

/-! Manifests and poison lists (R149, R150, R154). -/

/-- The manifest info block of the page of index `page` (R150): 192 bytes. -/
def ManInfo.bytes (i : ManInfo) (page : Nat) : List Byte :=
  let body := natLe i.vault 4 ++ natLe page 4 ++ natLe i.total 4 ++ natLe i.own 4 ++ natLe i.mirror 4 ++ natLe i.stripes 4 ++
    natLe i.seqA 8 ++ natLe i.seqB 8 ++ natLe i.epochA 4 ++ natLe i.epochB 4 ++ natLe (Nat.min 8 i.carried.length) 1 ++ natLe 0 7 ++
    padTo 64 ((i.carried.map (fun n => natLe n 8)).flatten) ++ List.replicate 68 0
  body ++ natLe (crc32c body) 4

/-- A poison range (R154): 16 bytes. -/
def PRange.bytes (r : PRange) : List Byte :=
  natLe r.start 4 ++ natLe r.count 4 ++ natLe r.owner.idx 1 ++ natLe r.reason 1 ++ natLe r.mask 1 ++ natLe 0 5

/-! Stripe pages (R145, R147). -/

/-- The place of data page `d` among those that carry content. -/
def Stripe.place (x : Stripe) (d : Nat) : Nat := ((usablePages x.serial x.layout).filter (fun k => decide (k < d))).length

/-- A data page carries content at all. -/
def Stripe.usable (x : Stripe) (d : Nat) : Bool := (usablePages x.serial x.layout).contains d

/-- The four slots of a data page. -/
def Stripe.slots (x : Stripe) (d : Nat) : List (Option GVer) := (List.range 4).map (fun k => x.slot d k)

/-- Data page `d` as stored, 16 KiB (R145, R148, R149, R154). -/
def Stripe.dataPage (x : Stripe) (key d : Nat) : List Byte :=
  match x.payload with
  | .data _ => ((x.slots d).map (fun v => match v with
    | some g => g.cipher key
    | none => List.replicate 4096 0)).flatten
  | .manifest _ es =>
    if x.usable d then padOnes 16384 ((((es.drop (4096 * x.place d)).take 4096).map (fun e => natLe e 4)).flatten)
    else List.replicate 16384 0
  | .poisons rs =>
    if x.usable d then padTo 16384 ((((rs.drop (1024 * x.place d)).take 1024).map PRange.bytes).flatten)
    else List.replicate 16384 0

/-- The descriptor area of data page `d`: 192 bytes. `first` is the manifest page index of the stripe's first page. -/
def Stripe.descArea (x : Stripe) (first d : Nat) : List Byte :=
  match x.payload with
  | .data _ => ((x.slots d).map granDesc).flatten
  | .manifest i _ => if x.usable d then i.bytes (first + x.place d) else List.replicate 192 0
  | .poisons _ => List.replicate 192 0

/-- The XOR of a function of the fifteen data pages (R145). -/
def xorPages (n : Nat) (f : Nat → List Byte) : List Byte :=
  (List.range 15).foldl (fun acc d => xorPage acc (f d)) (List.replicate n 0)

/-- PTYPE of a position (R147). -/
def Stripe.ptype (x : Stripe) (p : Nat) : Nat :=
  if p = x.serial % 16 then 2
  else match x.payload with
    | .data _ => 1
    | .manifest _ _ => 3
    | .poisons _ => 4

/-- The header of a vault page (R146, R147): the descriptor area, the page descriptor, and its CRC over bytes 0x00–0xFB. -/
def vaultHeader (area : List Byte) (ptype pos pflags serial band page layout session vault rewriteOf keyGen : Nat) : List Byte :=
  let body := area ++ natLe 0x47545047 4 ++ natLe 1 1 ++ natLe ptype 1 ++ natLe pos 1 ++ natLe pflags 1 ++ natLe serial 8 ++
    natLe band 4 ++ natLe page 2 ++ natLe layout 2 ++ natLe session 4 ++ natLe vault 4 ++ natLe rewriteOf 8 ++ natLe keyGen 2 ++
    List.replicate 18 0
  body ++ natLe (crc32c body) 4

/-- The page at a position of a stripe: data as stored, and header (R145–R147). -/
def Stripe.pageAt (x : Stripe) (key first p : Nat) : List Byte × List Byte :=
  let body := match posPage x.serial p with
    | some d => (x.dataPage key d, x.descArea first d)
    | none => (xorPages 16384 (x.dataPage key), xorPages 192 (x.descArea first))
  (body.1, vaultHeader body.2 (x.ptype p) p (b2n (x.rewriteOf != 0)) x.serial x.band x.page
    ((x.layout.map (fun q => 2 ^ q)).foldl (· + ·) 0) x.session x.vault x.rewriteOf x.keyGen)

/-- The manifest page index of a manifest stripe's first page (R150): the pages of the vault's manifest before it. -/
def State.manFirstPage (s : State) (x : Stripe) : Nat :=
  let orig (y : Stripe) : Nat := if y.rewriteOf = 0 then y.serial else y.rewriteOf
  sumNat ((s.grt.stripes.filter (fun y => y.vault == x.vault && y.rewriteOf == 0 && decide (y.serial < orig x))).map (fun y =>
    match y.payload with
    | .manifest _ es => ceilDiv es.length 4096
    | _ => 0))

/-! Record pages (R152–R154, R161, R162). -/

/-- The body of a seal record (R153), from offset 0x20 on. -/
def Seal.bytes (r : Seal) : List Byte :=
  natLe r.vault 4 ++ natLe r.session 4 ++ natLe r.flags 4 ++ natLe 0 4 ++ natLe r.seqA 8 ++ natLe r.seqB 8 ++ natLe r.epochA 4 ++
    natLe r.epochB 4 ++ natLe r.manFirst 8 ++ natLe r.manLast 8 ++ natLe r.dataFirst 8 ++ natLe r.dataLast 8 ++
    natLe r.granules 4 ++ natLe r.stripes 4 ++ natLe r.degraded 2 ++ natLe r.rewritten 2 ++ natLe r.lunsOut 2 ++
    natLe r.superseded.length 2 ++ natLe r.tClose 2 ++ natLe r.tDrain 2 ++ natLe r.tFirst 2 ++ natLe 0 2 ++ natLe r.tSeal 4 ++
    natLe 0 4 ++ natLe r.nextSerial 8 ++ natLe r.outMap 32 ++ (r.superseded.map (fun n => natLe n 8)).flatten

/-- The media key wrapped under the device-unique key (R148): 72 bytes. -/
def wrappedKey (key : Nat) : List Byte :=
  (aesWrap (leBytes Config.deviceKey 32) (leBytes key 64)).map (fun x => BitVec.ofNat 8 x)

/-- The body of an open record (R154), from offset 0x20 on. -/
def OpenRecord.bytes (o : OpenRecord) (key : Nat) : List Byte :=
  natLe o.session 4 ++ natLe o.follows 4 ++ natLe o.kind 1 ++ natLe 0 3 ++ natLe o.ranges.length 2 ++ natLe 0 2 ++
    natLe o.serialAt 8 ++ natLe o.seqA 8 ++ natLe o.seqB 8 ++ natLe o.epochA 4 ++ natLe o.epochB 4 ++ natLe o.plFirst 8 ++
    natLe o.plLast 8 ++ natLe o.total 4 ++ natLe o.keyGen 2 ++ natLe 0 2 ++ wrappedKey key ++
    (o.ranges.map PRange.bytes).flatten

/-- A block-state entry (R161). -/
def Blk.stateWord (b : Blk) : Nat := b.st.code * 2 ^ 28 + b.pfail % 16 * 2 ^ 24 + b.ec % 2 ^ 24

/-- A journal entry (R162): 16 bytes. -/
def JEnt.bytes (e : JEnt) : List Byte :=
  natLe e.code 1 ++ natLe e.lun 1 ++ natLe e.info 2 ++ natLe e.block 4 ++ natLe e.ec 4 ++ natLe e.secs 4

/-- RTYPE of a record page (R152). -/
def RecBody.rtype : RecBody → Nat
  | .seal => 0x10 | .opened => 0x11 | .journal _ _ => 0x12 | .snapshot _ _ => 0x13 | .head => 0x14 | .waste => 0

/-- The body of a record page (R152). -/
def State.recBytes (s : State) (p : RecPage) : List Byte :=
  match p.body with
  | .seal => ((s.grt.seals.find? (fun r => r.recSeq == p.seq)).map Seal.bytes).getD []
  | .opened => ((s.grt.opens.find? (fun o => o.recSeq == p.seq)).map (fun o => o.bytes s.grt.key)).getD []
  | .journal lo n =>
    let es := (s.grt.journal.drop lo).take n
    natLe es.length 4 ++ natLe 0 12 ++ (es.map JEnt.bytes).flatten
  | .snapshot i t =>
    let e := s.recEnv
    let all := (e.luns.map (fun l => (List.range e.blocks).map (fun b => blkKey l b))).flatten
    (((all.drop (4088 * i)).take 4088).map (fun k => natLe (mgetD t k Blk.fresh).stateWord 4)).flatten
  | .head | .waste => []

/-- A record page: data and header (R147, R152). -/
def State.recPage (s : State) (b : RecBlock) (p : RecPage) : List Byte × List Byte :=
  let body := s.recBytes p
  let head := natLe 0x47545243 4 ++ natLe p.body.rtype 1 ++ natLe 1 1 ++ natLe p.copy 1 ++ natLe b.chan 1 ++ natLe p.seq 8 ++
    natLe body.length 4 ++ natLe (crc32c body) 4 ++ natLe (if p.body = .head then b.gen else 0) 4
  (padTo 16384 (head ++ natLe (crc32c head) 4 ++ body),
   vaultHeader (List.replicate 192 0) 5 0 0 0 0 0 0 (s.get Reg.GRT_SESSION_SESSION) 0 0 (s.get Reg.GRT_KEY_KEY_GEN))

/-! Block summaries (R156). -/

/-- The stripe that page `j` of a band belongs to, if position `p` of it is written. -/
def State.bandStripe (s : State) (num p j : Nat) : Option Stripe :=
  s.grt.stripes.find? (fun x => x.band == num && x.page == j && x.layout.contains p)

/-- The least of some numbers of an owner, 0 without any. -/
def leastOf (l : List (Owner × Nat)) (o : Owner) : Nat := minNat ((l.filter (fun e => e.1 == o)).map (fun e => e.2))

/-- The granule versions of a block with their slots, page by page. -/
def State.blockVers (s : State) (b : Band) (p : Nat) : List (Nat × GVer) :=
  ((List.range s.bandPages).map (fun j => match s.bandStripe b.num p j with
    | some x => (match posPage x.serial p with
      | some d => x.pageVers d
      | none => [])
    | none => [])).flatten

/-- The offset of a version's SEQ in its block, all ones where it does not fit: a far entry (R156). -/
def farOff (seq base : Nat) : Nat := Nat.min (2 ^ 40 - 1) (seq - base)

/-- A granule entry of a summary (R156): nine bytes. -/
def sumEntry (base : Owner → Nat) : Option GVer → List Byte
  | none => List.replicate 9 0
  | some v => natLe (v.gran % 2 ^ 28 + v.owner.idx * 2 ^ 28 + 2 ^ 29 + b2n v.poison * 2 ^ 30 + b2n v.copy * 2 ^ 31) 4 ++
      natLe (farOff v.seq (base v.owner)) 5

/-- The summary of the block at position `p` of a band (R156). -/
def State.summary (s : State) (b : Band) (p : Nat) : List Byte :=
  let vs := (s.blockVers b p).map (fun e => e.2)
  let base (o : Owner) : Nat := leastOf (vs.map (fun v => (v.owner, v.seq))) o
  let serials := ((List.range s.bandPages).filterMap (fun j => (s.bandStripe b.num p j).map (fun x => x.serial)))
  let low := minNat serials
  let far := (vs.filter (fun v => v.poison || farOff v.seq (base v.owner) == 2 ^ 40 - 1)).length
  let top (o : Owner) : Nat := ((vs.filter (fun v => v.owner == o)).map (fun v => v.epoch)).foldl Nat.max 0
  let member (q : Nat) : List Byte := match lget b.blocks q none with
    | some y => natLe y.1 1 ++ natLe 0 1 ++ natLe y.2 2
    | none => natLe 0xFFFFFFFF 4
  let pageEntry (j : Nat) : List Byte := match s.bandStripe b.num p j with
    | none => List.replicate 42 0
    | some x =>
      let fl := 1 + 2 * b2n (x.lost.contains p) + 4 * b2n (x.lost != [])
      natLe (x.serial - low) 4 ++ natLe (x.ptype p) 1 ++ natLe fl 1 ++
        (match posPage x.serial p with
         | some d => ((x.slots d).map (sumEntry base)).flatten
         | none => List.replicate 36 0)
  let head := natLe 0x47545342 4 ++ natLe 1 1 ++ natLe p 1 ++ natLe s.bandPages 2 ++ natLe b.num 4 ++
    natLe (b2n b.tail + 2 * b2n (decide (0 < far))) 4 ++ natLe low 8 ++ natLe (base .a) 8 ++ natLe (base .b) 8 ++ natLe (top .a) 4 ++
    natLe (top .b) 4 ++ (channels16.map member).flatten ++ natLe far 2 ++ List.replicate 10 0
  let pages := ((List.range s.bandPages).map pageEntry).flatten
  head ++ natLe (crc32c (head ++ natLe 0 4 ++ pages)) 4 ++ pages

/-! The devices (R143, R151). -/

/-- What the devices hold at a vault page of the Grotto: the data area and the header; none where nothing valid is programmed. -/
def State.mediaPage (s : State) (lun block page : Nat) : Option (List Byte × List Byte) :=
  match s.grt.recs.find? (fun r => r.lun == lun && r.block == block) with
  | some r => (match r.pages[page]? with
    | some p => if p.bad then none else some (s.recPage r p)
    | none => none)
  | none =>
    let p := lun % 16
    match s.grt.bands.find? (fun b => lget b.blocks p none == some (lun, block)) with
    | none => none
    | some b =>
      if page < s.bandPages then
        match s.bandStripe b.num p page with
        | some x => if x.lost.contains p then none else some (x.pageAt s.grt.key (s.manFirstPage x) p)
        | none => none
      else if b.sums.contains p then
        some (padTo 16384 ((s.summary b p).drop (16384 * (page - s.bandPages))),
          vaultHeader (List.replicate 192 0) 6 p 0 0 b.num page 0 (s.get Reg.GRT_SESSION_SESSION) 0 0 (s.get Reg.GRT_KEY_KEY_GEN))
      else none

/-! The granule map (R15, R158). -/

/-- The number of a granule state (R158). -/
def MapSt.code : MapSt → Nat
  | .noVersion => 0 | .copied => 1 | .notCopied => 2 | .fetching => 3 | .remote => 4 | .poisoned => 5

/-- A map word of its parts (R158): state, global LUN, vault page within the LUN's Grotto, slot. -/
def mapWordOf (st lun page slot : Nat) : Nat := st * 2 ^ 29 + lun * 2 ^ 21 + page * 4 + slot

/-- The four bytes of a granule's map entry (R158): the location of its newest version, zero in NO_VERSION, all ones where a
REMOTE or POISONED granule has none. -/
def State.mapWord (s : State) (g : Nat) : Nat :=
  let e := s.ent g
  if e.st = .noVersion then 0
  else
    match e.loc.bind (fun l => (s.stripeOf l.1).bind (fun x => (s.grt.bands.find? (fun b => b.num == x.band)).bind (fun b =>
      (lget b.blocks (pagePos x.serial l.2.1) none).map (fun y =>
        mapWordOf e.st.code y.1 (y.2 * s.get Reg.GRT_GEOM_PAGES + x.page) l.2.2)))) with
    | some w => w
    | none => e.st.code * 2 ^ 29 + 0x1FFFFFFF

end Sys2Proof.Machine
end

