-- ==== Sys2Proof/Machine/DramOps.lean ====
section
/-! DEFINITION. The DRAM controller (R223–R283): the pool and bank queues, the command slot, refresh, row hammer, training, its
registers. -/

namespace Sys2Proof.Machine

/-! The pool and the bank queues (R229–R234). -/

/-- A port's reservation in entries (R229, R250). -/
def State.resv (s : State) : DPort → Nat
  | .host => 8 * s.get Reg.DMC_PORT_RESV_HOST | .echo => 8 * s.get Reg.DMC_PORT_RESV_ECHO
  | .rt => 8 * s.get Reg.DMC_PORT_RESV_RT | .bg => 8 * s.get Reg.DMC_PORT_RESV_BG
  | .cpu => 8 * s.get Reg.DMC_PORT_RESV_CPU

/-- A port's weight (R235). -/
def State.weight (s : State) : DPort → Nat
  | .host => s.get Reg.DMC_PORT_WEIGHT_HOST | .echo => s.get Reg.DMC_PORT_WEIGHT_ECHO
  | .rt => s.get Reg.DMC_PORT_WEIGHT_RT | .bg => s.get Reg.DMC_PORT_WEIGHT_BG | .cpu => s.get Reg.DMC_PORT_WEIGHT_CPU

/-- A port's requests in the pool. -/
def Dram.held (d : Dram) (p : DPort) : Nat := (d.pool.filter (fun r => r.port == p)).length

/-- May a port take one more pool entry (R229)? Its reservation first, then what is shared. -/
def State.poolRoom (s : State) (p : DPort) : Bool :=
  let excess := (DPort.all.map (fun q => s.dmc.held q - s.resv q)).foldl (· + ·) 0
  let resvAll := (DPort.all.map s.resv).foldl (· + ·) 0
  decide (s.dmc.held p < s.resv p) || decide (excess < 1024 - resvAll)

/-- A bank. -/
def State.bank (s : State) (k : Nat) : Bank := mgetD s.dmc.banks k Bank.init

/-- Replace a bank. -/
def State.setBank (s : State) (k : Nat) (b : Bank) : State := { s with dmc := { s.dmc with banks := mset s.dmc.banks k b } }

/-- A subchannel. -/
def State.sub (s : State) (k : Nat) : SubCh := mgetD s.dmc.subs k SubCh.init

/-- Replace a subchannel. -/
def State.setSub (s : State) (k : Nat) (c : SubCh) : State := { s with dmc := { s.dmc with subs := mset s.dmc.subs k c } }

/-- The requests of a bank, oldest first. -/
def Dram.bankReqs (d : Dram) (k : Nat) : List DReq := d.pool.filter (fun r => r.dst.bankKey == k)

/-- Enter a request in the pool and its bank queue (R229, R233, R243): a hazard puts the bank in in-order mode. -/
def State.enterPool (s : State) (r : DReq) : State :=
  let k := r.dst.bankKey
  let old := s.dmc.bankReqs k
  let hazard := old.any (fun x => x.burst == r.burst && (x.kind != .read || r.kind != .read))
  let s1 := { s with dmc := { s.dmc with pool := s.dmc.pool ++ [r] } }
  let c := s1.sub r.dst.subKey
  let s2 := if c.pdown.contains r.dst.rk then
    s1.setSub r.dst.subKey { c with pdown := c.pdown.filter (fun x => x != r.dst.rk) } else s1
  if hazard then
    let b := s2.bank k
    let s3 := s2.setBank k { b with inOrder := (old ++ [r]).map (fun x => x.id) }
    if b.inOrder = [] then s3.incSat Reg.DMC_INORDER_CNT_COUNT 1 else s3
  else s2

/-- Submit one burst: it enters the pool, or waits at its port; requests of a port keep their order (R229). -/
def State.submitBurst (s : State) (port : DPort) (kind : DKind) (burst ns : Nat) : State :=
  let d := s.dramAddr (burst * 64)
  if s.chFrozen d.ch || !s.domOn .dram then s
  else
    let r : DReq := ⟨port, kind, burst, d, s.dmc.nextId, ns⟩
    let s1 := { s with dmc := { s.dmc with nextId := s.dmc.nextId + 1 } }
    if !(s1.dmc.waiting.any (fun w => w.port == port)) && s1.poolRoom port then s1.enterPool r
    else { s1 with dmc := { s1.dmc with waiting := s1.dmc.waiting ++ [r] } }

/-- A port may submit (R26, R244): HOST and ECHO only while their domain is up and no vault runs. -/
def State.submits (s : State) : DPort → Bool
  | .host => s.domOn .host && !s.vaulting
  | .echo => s.domOn .echo && !s.vaulting
  | .rt | .bg | .cpu => true

/-- Let waiting requests take the entries that have become free (R229). -/
def State.refillPool (s : State) : State :=
  s.dmc.waiting.foldl (fun t r =>
    if (t.dmc.waiting.find? (fun w => w.port == r.port)) = some r && t.poolRoom r.port then
      ({ t with dmc := { t.dmc with waiting := t.dmc.waiting.filter (fun w => w.id != r.id) } } : State).enterPool r
    else t) s

/-- The bursts of a byte range, with whether a write covers the burst whole (R229, R234). -/
def burstsOf (addr len : Nat) : List (Nat × Bool) :=
  let first := addr / 64
  let last := (addr + len - 1) / 64
  (List.range (last + 1 - first)).map (fun i =>
    (first + i, decide (addr ≤ (first + i) * 64) && decide ((first + i) * 64 + 64 ≤ addr + len)))

/-! The command slot (R230–R239). -/

/-- Older than AGE_LIMIT (R230, R249: 100 ns units). -/
def State.isAged (s : State) (ns : Nat) (r : DReq) : Bool := decide (r.ns + 100 * s.get Reg.DMC_SCHED_CFG_AGE_LIMIT < ns)

/-- May the bank's discipline let this request issue now (R233)? In in-order mode only its oldest request may. -/
def State.inTurn (s : State) (r : DReq) : Bool :=
  let b := s.bank r.dst.bankKey
  if b.inOrder = [] then true
  else
    match s.dmc.bankReqs r.dst.bankKey with
    | o :: _ => o.id == r.id
    | [] => false

/-- A throttled port's activate must wait until window / RH_THRESH has passed since its last (R263); the window is 8,192
intervals in force (R240, R262). -/
def State.throttleHolds (s : State) (k ns : Nat) (r : DReq) : Bool :=
  let t := s.get Reg.DMC_REF_CFG_TREFI_NS / (if s.flag Reg.DMC_STATUS_REF_2X then 2 else 1)
  r.port != .rt && (s.bank k).throttled.any (fun x => x.1 == r.port &&
    decide (ns < x.2 + 8192 * t / Nat.max 1 (s.get Reg.DMC_RH_CFG_THRESH)))

/-- The request whose row a bank should open: the oldest in turn for a row that is not open and whose port's activates no throttle
holds (R230, R263). -/
def State.missOf (s : State) (k ns : Nat) : Option DReq :=
  (s.dmc.bankReqs k).find? (fun r => s.inTurn r && (s.bank k).openRow != some r.dst.row && !s.throttleHolds k ns r)

/-- A bank's open row has taken HIT_CAP column commands while another row is waited for (R231). -/
def State.rowCapped (s : State) (k ns : Nat) : Bool :=
  decide (s.get Reg.DMC_SCHED_CFG_HIT_CAP ≤ (s.bank k).hits) && (s.missOf k ns).isSome

/-- A column command of the request could issue: its row is open and stays so, and it is in turn. -/
def State.columnReady (s : State) (ns : Nat) (r : DReq) : Bool :=
  (s.bank r.dst.bankKey).openRow == some r.dst.row && s.inTurn r && !s.rowCapped r.dst.bankKey ns

/-- The RT requests of the panic direction (R237). -/
def Dram.panicReq (d : Dram) (r : DReq) : Bool :=
  r.port == .rt && ((d.panicDir == 1 && r.kind == .read) || (d.panicDir == 2 && r.kind != .read))

/-- Read or write mode of a subchannel after R232. -/
def State.nextMode (s : State) (sub ns : Nat) : Bool :=
  let w := s.dmc.pool.filter (fun r => r.dst.subKey == sub && r.kind != .read)
  if (s.sub sub).writeMode then decide (s.get Reg.DMC_SCHED_CFG_WR_LO < w.length)
  else decide (s.get Reg.DMC_SCHED_CFG_WR_HI ≤ w.length) || w.any (s.isAged ns)

/-- Deficit round robin (R235): the first port with credit; when none has any, a new round gives every port its weight, and
what an idle port has not used is gone. -/
def pickPort (ports : List DPort) (credits weights : List Nat) : Option (DPort × List Nat) :=
  match ports.find? (fun p => credits.getD p.idx 0 != 0) with
  | some p => some (p, lupd credits p.idx (fun c => c - 1))
  | none =>
    match ports with
    | [] => none
    | p :: _ => some (p, lupd weights p.idx (fun c => c - 1))

/-- The oldest request of a port; among restore writes of the RT port those of demand fetches go first (R237). -/
def State.firstOf (s : State) (port : DPort) (l : List DReq) : Option DReq :=
  let mine := l.filter (fun r => r.port == port)
  if port = .rt then
    match mine.find? (fun r => r.kind != .read && (s.ent (r.burst / 64)).st == .fetching && (s.ent (r.burst / 64)).demand) with
    | some r => some r
    | none => mine.head?
  else mine.head?

/-- The column command that rules 2 to 4 of R230 take, with the subchannel's credits after it. -/
def State.columnPick (s : State) (sub ns : Nat) : Option (DReq × List Nat) :=
  let ready := s.dmc.pool.filter (fun r => r.dst.subKey == sub && s.columnReady ns r)
  let others := ready.filter (fun r => !s.dmc.panicReq r)
  let c := s.sub sub
  let given : Bool := s.dmc.panicDir != 0 && decide (7 ≤ c.since)
  let rule2 := if s.dmc.panicDir = 0 ∨ (given = true ∧ others ≠ []) then none
    else s.firstOf .rt (ready.filter s.dmc.panicReq)
  let pool := if given then others else ready
  match rule2 with
  | some r => some (r, c.credits)
  | none =>
    match pool.find? (s.isAged ns) with
    | some r => some (r, c.credits)
    | none =>
      let inMode := pool.filter (fun r => (r.kind != .read) == s.nextMode sub ns)
      let ports := DPort.all.filter (fun p => inMode.any (fun r => r.port == p))
      match pickPort ports c.credits (DPort.all.map s.weight) with
      | some (p, cr) => (s.firstOf p inMode).map (fun r => (r, cr))
      | none => none

/-- The bank visited at place `i` of the order of R230: bank group 0 to 7 within bank 0, …, rank 0 before rank 1. -/
def bankAt (sub i : Nat) : Nat := (sub * 2 + i / 32) * 32 + (i % 8) * 4 + (i / 8) % 4

/-- May a bank's open row be closed for another (R231)? No request for it waits, or its hits have reached the cap. -/
def State.mayClose (s : State) (k : Nat) : Bool :=
  let b := s.bank k
  match b.openRow with
  | none => true
  | some row => !((s.dmc.bankReqs k).any (fun r => r.dst.row == row && s.inTurn r)) ||
      decide (s.get Reg.DMC_SCHED_CFG_HIT_CAP ≤ b.hits)

/-- The place of the first bank, counting from the pick pointer, that rule 5 of R230 takes. `forbid` lists the banks whose
activate timing forbids it. -/
def State.activatePick (s : State) (sub ns : Nat) (forbid : List Nat) : Option Nat :=
  let n := 32 * s.ranks
  ((List.range n).map (fun i => ((s.sub sub).pick + i) % n)).find? (fun i =>
    let k := bankAt sub i
    !forbid.contains k && s.mayClose k && (s.missOf k ns).isSome)

/-- Count an activate in the bank's table (R262): the entry and the table after it. -/
def tableActivate (b : Bank) (row : Nat) (port : DPort) : Bank × Option ActEnt :=
  let bump (e : ActEnt) : ActEnt := { e with tally := lupd e.tally port.idx (· + 1) }
  match b.acts.find? (fun e => e.row == row) with
  | some e =>
    let e' := bump { e with count := e.count + 1 }
    ({ b with acts := b.acts.map (fun x => if x.row = row then e' else x) }, some e')
  | none =>
    let new := bump ⟨row, b.spill + 1, [0, 0, 0, 0, 0]⟩
    if b.acts.length < 192 then ({ b with acts := b.acts ++ [new] }, some new)
    else
      match findPlace (fun e => e.count == b.spill) b.acts with
      | some i => ({ b with acts := lset b.acts i new }, some new)
      | none => ({ b with spill := b.spill + 1 }, none)

/-- The ports that a row at the threshold throttles (R263): the non-RT port with the highest tally, and every other
non-RT port whose tally is at least a quarter of the count. -/
def throttlePorts (e : ActEnt) : List DPort :=
  let non := DPort.all.filter (fun p => p != .rt && e.tally.getD p.idx 0 != 0)
  let top := (non.map (fun p => e.tally.getD p.idx 0)).foldl Nat.max 0
  match non.find? (fun p => e.tally.getD p.idx 0 == top) with
  | none => []
  | some p0 => p0 :: non.filter (fun p => p != p0 && decide (e.count ≤ 4 * e.tally.getD p.idx 0))

/-- The bit of a port in DMC_RH_STATUS.ACTIVE (R280). -/
def rhBit : DPort → Nat
  | .host => 1 | .echo => 2 | .bg => 4 | .cpu => 8 | .rt => 0

/-- The ports throttled on any bank, as DMC_RH_STATUS.ACTIVE shows them. -/
def State.rhActive (s : State) : Nat :=
  (DPort.all.map (fun p => if s.dmc.banks.any (fun b => b.2.throttled.any (fun x => x.1 == p)) then rhBit p else 0)).foldl (· + ·) 0

/-- A row has reached RH_THRESH (R263). -/
def State.rowHammer (s : State) (d : DAddr) (e : ActEnt) (ns : Nat) : State :=
  let ps := throttlePorts e
  let k := d.bankKey
  let s1 := s.raise Reg.DMC_ECC_STATUS_RH_EV Reg.DMC_ECC_CTRL_INT_EN 56
  if ps = [] then s1.ev .dmc 0x1002 4 (k % 65536)
  else
    let b := s1.bank k
    let new := ps.filter (fun p => !b.throttled.any (fun x => x.1 == p))
    let s2 := (s1.setBank k { b with throttled := b.throttled ++ new.map (fun p => (p, ns)) }).incSat
        Reg.DMC_RH_STATUS_THROTTLES new.length
    let s3 := s2.put Reg.DMC_RH_STATUS_ACTIVE s2.rhActive
    new.foldl (fun t p =>
      let t1 := ((t.put Reg.DMC_RH_LAST_PORT p.idx).put Reg.DMC_RH_LAST_CH d.ch).put Reg.DMC_RH_LAST_SC d.sc
      let t2 := ((t1.put Reg.DMC_RH_LAST_RK d.rk).put Reg.DMC_RH_LAST_BG d.bg).put Reg.DMC_RH_LAST_BA d.ba
      (t2.put Reg.DMC_RH_LAST_ROW d.row).ev .dmc 0x1003 4 (k * 8 + p.idx)) s3

/-- Open the row of a bank's miss, closing another first (rule 5 of R230). -/
def State.activate (s : State) (sub i ns : Nat) : State :=
  let k := bankAt sub i
  match s.missOf k ns with
  | none => s
  | some r =>
    let c := s.sub sub
    let s1 := s.setSub sub { c with pick := (i + 1) % (32 * s.ranks) }
    let s2 := match (s1.bank k).openRow with
      | some _ => s1.send (.dram sub 0 r.dst.rk (k % 32) 0)
      | none => s1
    let t := tableActivate (s2.bank k) r.dst.row r.port
    let b := { t.1 with openRow := some r.dst.row, hits := 0,
                        throttled := t.1.throttled.map (fun x => if x.1 = r.port then (x.1, ns) else x) }
    let s3 := (s2.setBank k b).send (.dram sub 1 r.dst.rk (k % 32) r.dst.row)
    match t.2 with
    | some e => if e.count = s.get Reg.DMC_RH_CFG_THRESH then s3.rowHammer r.dst e ns else s3
    | none => s3

/-- Take a request out of the pool; in-order mode ends with the last request that was waiting when it began (R233). -/
def State.leavePool (s : State) (r : DReq) : State :=
  let k := r.dst.bankKey
  let b := s.bank k
  let s1 := s.setBank k { b with inOrder := b.inOrder.filter (fun i => i != r.id) }
  { s1 with dmc := { s1.dmc with pool := s1.dmc.pool.filter (fun x => x.id != r.id) } }

/-- After a freeze the ports' waiting writes are judged again (R63, R275). -/
def State.settleFreeze (old s : State) : State :=
  if s.get Reg.DMC_FRZ_STATUS_FROZEN = old.get Reg.DMC_FRZ_STATUS_FROZEN then s else s.settlePorts

/-- Issue a column command (R230, R234, R255–R259). `dev` is what the devices add to the stored burst on a read. -/
def State.column (s : State) (r : DReq) (dev : BurstErr) : State :=
  let k := r.dst.bankKey
  let s0 := s.setBank k { s.bank k with hits := (s.bank k).hits + 1 }
  let s1 := s0.send (.dram r.dst.subKey (if r.kind = .write ∨ r.kind = .mergedWrite then 3 else 2) r.dst.rk (k % 32) r.dst.col)
  let stored := mgetD s1.dmc.errs r.burst (List.replicate 16 0)
  match r.kind with
  | .read =>
    s1.settleFreeze (((s1.leavePool r).setErr r.burst (xorBurst stored dev)).decodeRead r.port r.burst (xorBurst stored dev) false).1
  | .write | .mergedWrite => (s1.leavePool r).writeBurst r.burst
  | .partialWrite =>
    let e := xorBurst stored dev
    let d := (s1.setErr r.burst e).decodeRead r.port r.burst e true
    if d.2 then
      let s2 := d.1
      let b := s2.bank k
      let s3 := s2.setBank k { b with inOrder := if b.inOrder.contains r.id then b.inOrder else r.id :: b.inOrder }
      { s3 with dmc := { s3.dmc with
          pool := { r with kind := .mergedWrite } :: s3.dmc.pool.filter (fun x => x.id != r.id) } }
    else s1.settleFreeze (d.1.leavePool r)

/-- The RT buffer in 4 KiB units (R19): 512 KiB, which the dump and restore engines share. -/
def rtUnits : Nat := 128

/-- Assert or release panic from the RT buffer levels in 4 KiB units (R237); no level is above what the buffer holds (R19). -/
def State.syncPanic (s : State) (ns dumpLevel restLevel : Nat) : State :=
  let dump := Nat.min dumpLevel rtUnits
  let rest := Nat.min restLevel (rtUnits - dump)
  let dumping := s.vaulting || s.rehearsing
  let restoring := s.pmr.st == .restoring || s.restRemain != 0
  let d := s.dmc.panicDir
  let next :=
    if d = 1 then (if s.get Reg.DMC_RT_CFG_DUMP_OFF < dump || !dumping then 0 else 1)
    else if d = 2 then (if rest < s.get Reg.DMC_RT_CFG_RST_OFF then 0 else 2)
    else if dumping && decide (dump < s.get Reg.DMC_RT_CFG_DUMP_ON) then 1
    else if restoring && decide (s.get Reg.DMC_RT_CFG_RST_ON < rest) then 2 else 0
  if next = d then s
  else if next = 0 then
    let us := (ns - s.dmc.panicStart) / 1000
    (({ s with dmc := { s.dmc with panicDir := 0 } } : State).put Reg.DMC_STATUS_PANIC 0).put Reg.DMC_PANIC_CNT_MAX_US
      (Nat.min 65535 (Nat.max us (s.get Reg.DMC_PANIC_CNT_MAX_US)))
  else
    (({ s with dmc := { s.dmc with panicDir := next, panicStart := ns,
                                    subs := mmap (fun _ c => { c with since := 0 }) s.dmc.subs } } : State).put Reg.DMC_STATUS_PANIC 1
      ).incSat Reg.DMC_PANIC_CNT_COUNT 1

/-- The BG port writes back the head of the rewrite queue (R259). -/
def State.pumpRewrite (s : State) (ns : Nat) : State :=
  match s.dmc.rewrites with
  | [] => s
  | b :: rest =>
    if s.poolRoom .bg then
      ({ s with dmc := { s.dmc with rewrites := rest } } : State).submitBurst .bg .partialWrite b ns
    else s

/-- One command slot of a subchannel (R230). -/
def State.commandSlot (s : State) (sub ns dump rest : Nat) (forbid : List Nat) (dev : BurstErr) : State :=
  let s0 := s.syncPanic ns dump rest
  let c := s0.sub sub
  let s1 := s0.setSub sub { c with writeMode := s0.nextMode sub ns }
  let s2 := match s1.columnPick sub ns with
    | some (r, cr) =>
      let given := s1.dmc.panicDir != 0 && !s1.dmc.panicReq r
      let c1 := s1.sub sub
      (s1.setSub sub { c1 with credits := cr, since := if given then 0 else c1.since + 1 }).column r dev
    | none =>
      match s1.activatePick sub ns forbid with
      | some i => s1.activate sub i ns
      | none => s1
  (s2.refillPool).pumpRewrite ns

/-! Refresh (R240–R242). -/

/-- An all-bank refresh (R241): the write of every unit whose read has issued completes, every row closes and every rank leaves
power-down. -/
def State.refresh (s : State) : State :=
  let t := (s.dmc.pool.filter (fun r => r.kind == .mergedWrite)).foldl (fun (t : State) r => (t.leavePool r).writeBurst r.burst) s
  { t with dmc := { t.dmc with
      banks := mmap (fun _ b => { b with openRow := none, hits := 0 }) t.dmc.banks,
      subs := mmap (fun _ c => { c with pdown := [] }) t.dmc.subs } }

/-- A refresh falls due (R242). -/
def State.refreshDue (s : State) : State :=
  let owed := s.get Reg.DMC_REF_STATUS_OWED
  if s.dmc.panicDir = 0 then s.refresh
  else if owed < 4 then
    (s.put Reg.DMC_REF_STATUS_OWED (owed + 1)).put Reg.DMC_REF_STATUS_POSTPONED_MAX
      (Nat.max (owed + 1) (s.get Reg.DMC_REF_STATUS_POSTPONED_MAX))
  else
    ((s.refresh).incSat Reg.DMC_REF_STATUS_FORCED 1).raise Reg.DMC_STATUS_FORCED_EV Reg.DMC_CTRL_INT_EN 56

/-! Training (R265–R269). -/

/-- The rate of the image (R248). -/
def State.dramRate (s : State) : Nat := s.get Reg.DMC_GEOM_RATE

/-- The rates with a valid set in a list, as DMC_TRN_STATUS.STORED shows them (R281). -/
def State.setMask (s : State) (l : List TrainSet) : Nat :=
  ([0, 1, 2].map (fun r => b2n (s.setFor l r).isSome * 2 ^ r)).foldl (· + ·) 0

/-- Full training gives a rate's set new values, stored in AON and NOR (R265). -/
def State.storeSet (s : State) (rate : Nat) : State :=
  let f := s.fresh 64
  let t : TrainSet := ⟨rate, s.dramGeom, f.1⟩
  let s1 : State := { f.2 with dmc := { f.2.dmc with
    setsAon := addSet f.2.dmc.setsAon t, trainNor := f.2.dmc.trainNor.write (addSet f.2.dmc.setsNor t), drift := 0,
    norAt := some s.secs } }
  s1.put Reg.DMC_TRN_STATUS_STORED (s1.setMask s1.dmc.setsNor)

/-- Change the DRAM clock branch (R24, R268): the divisor code of CLK_BRANCH counts down as the rate code goes up. -/
def State.clockSwitch (s : State) (rate : Nat) : State :=
  let s1 := ({ s with dmc := { s.dmc with clockWait := none } } : State).refresh
  (s1.put Reg.CLK_BRANCH_DRAM_DIV (2 - rate)).put Reg.DMC_GEOM_RATE rate

/-- A change of the DRAM clock branch cannot run now (R268). -/
def State.clockBarred (s : State) : Bool :=
  s.dmc.panicDir != 0 || s.get Reg.DMC_REF_STATUS_OWED != 0 || s.vaulting || s.get Reg.DMC_TRN_STATUS_WINDOW != 0

/-- The change runs, or waits: a rate that has no stored set is trained in full, once every channel holds its Bring-up leave
(R27, R268). -/
def State.clockTry (s : State) (rate : Nat) : State :=
  let wait (t : State) : State := { t with dmc := { t.dmc with clockWait := some rate } }
  if s.clockBarred then wait s
  else if (s.setFor s.dmc.setsAon rate).isSome || (s.setFor s.dmc.setsNor rate).isSome then s.clockSwitch rate
  else
    let chs := List.range s.channels
    let s1 := chs.foldl (fun (t : State) c => if t.askedOp (.training c) then t else (t.leaveRequest (.training c)).1) s
    if chs.all (fun c => s1.holdsOp (.training c)) then
      let s2 := (s1.clockSwitch rate).put Reg.DMC_TRN_STATUS_FULL (s1.get Reg.DMC_STATUS_CH_POP)
      (chs.foldl (fun (t : State) c => t.leaveDropOp (.training c)) s2).storeSet rate
    else wait s1

/-- A request to change the DRAM clock branch (R268): a deferral is counted. -/
def State.clockChange (s : State) (rate : Nat) : State :=
  s.clockTry rate |> fun t => if s.clockBarred then t.incSat Reg.DMC_TRN_STATUS_DEFERS 1 else t

/-- A deferred change of the clock branch is tried again (R268). -/
def State.clockRetry (s : State) : State :=
  match s.dmc.clockWait with
  | some r => s.clockTry r
  | none => s

/-- A trip aborts the training in progress (R244, R269). -/
def State.dramTrip (s : State) : State :=
  let w := s.get Reg.DMC_TRN_STATUS_WINDOW
  let s1 := if w = 0 then s else (s.put Reg.DMC_TRN_STATUS_WINDOW 0).incSat Reg.DMC_TRN_STATUS_ABORTS 1
  let keep (r : DReq) : Bool := !((r.port == .host || r.port == .echo) && r.kind == .read)
  { s1 with dmc := { s1.dmc with
      pool := s1.dmc.pool.filter keep, waiting := s1.dmc.waiting.filter keep,
      subs := mmap (fun _ c => { c with pdown := [] }) s1.dmc.subs } }

/-- The drain of accepted writes is complete (R244): HOST and ECHO requests are gone. -/
def State.dramDrained (s : State) : State :=
  let keep (r : DReq) : Bool := r.port != .host && r.port != .echo
  let gone := s.dmc.pool.filter (fun r => !keep r)
  let s1 := gone.foldl (fun t r => if r.kind = .read then t.leavePool r else (t.leavePool r).writeBurst r.burst) s
  { s1 with dmc := { s1.dmc with waiting := s1.dmc.waiting.filter keep } }

/-! What writes of the DMC registers start. -/

/-- DMC_CTRL.STAT_CLR (R247). -/
def State.dmcStatClr (s : State) : State :=
  let s1 := ((s.put Reg.DMC_REF_STATUS_FORCED 0).put Reg.DMC_REF_STATUS_POSTPONED_MAX 0).put Reg.DMC_INORDER_CNT_COUNT 0
  (s1.put Reg.DMC_PANIC_CNT_MAX_US 0).put Reg.DMC_PANIC_CNT_COUNT 0

/-- The decode of DMC_XLATE_ADDR (R253). -/
def State.dmcXlate (s : State) : State :=
  let a := s.get Reg.DMC_XLATE_ADDR_ADDR
  let bad := decide (s.capBytes ≤ a)
  let d := if bad then (⟨0, 0, 0, 0, 0, 0, 0⟩ : DAddr) else s.dramAddr a
  let s1 := (s.put Reg.DMC_XLATE_RESULT0_VALID 1).putB Reg.DMC_XLATE_RESULT0_RANGE_ERR bad
  let s2 := (s1.put Reg.DMC_XLATE_RESULT0_COL d.col).put Reg.DMC_XLATE_RESULT0_ROW d.row
  let s3 := ((s2.put Reg.DMC_XLATE_RESULT1_CH d.ch).put Reg.DMC_XLATE_RESULT1_SC d.sc).put Reg.DMC_XLATE_RESULT1_RK d.rk
  (s3.put Reg.DMC_XLATE_RESULT1_BG d.bg).put Reg.DMC_XLATE_RESULT1_BA d.ba

/-- DMC_ECC_CTRL.CNT_CLR (R278). -/
def State.eccCntClr (s : State) : State :=
  let s1 := ((s.put Reg.DMC_CE_CNT_COUNT 0).put Reg.DMC_UE_CNT_VAULT 0).put Reg.DMC_UE_CNT_TOTAL 0
  { s1 with dmc := { s1.dmc with pos := mmap (fun _ p => { p with total := 0 }) s1.dmc.pos } }

/-- DMC_POS_SEL loads DMC_POS_DATA (R279); positions 10–15 read 0. -/
def State.posLoad (s : State) : State :=
  let i := s.get Reg.DMC_POS_SEL_POS
  let key := ((s.get Reg.DMC_POS_SEL_CH * 2 + s.get Reg.DMC_POS_SEL_SC) * 2 + s.get Reg.DMC_POS_SEL_RK) * 10 + i
  let p := if i < 10 then mgetD s.dmc.pos key Position.init else Position.init
  ((s.putB Reg.DMC_POS_DATA_DEGRADED p.degraded).put Reg.DMC_POS_DATA_TOTAL p.total).put Reg.DMC_POS_DATA_BUCKET p.bucket

/-- The diagnostic read of a frozen channel (R283): no count, no event, no rewrite. -/
def State.diagRead (s : State) : State :=
  let a := s.get Reg.DMC_DIAG_ADDR_ADDR
  let refused := decide (s.capBytes ≤ a) || !s.chFrozen (s.dramAddr a).ch
  let e := mgetD s.dmc.errs (a / 64) (List.replicate 16 0)
  let out := match decodeBurst e with
    | .clean => 0 | .corrected _ => 1 | .uncorrectable _ => 2
  let posMask := ((beatPositions (e.map decodeBeat)).map (fun p => 2 ^ p)).foldl (· + ·) 0
  let s1 := (s.putB Reg.DMC_DIAG_RESULT_VALID (!refused)).putB Reg.DMC_DIAG_RESULT_REFUSED refused
  let s2 := s1.put Reg.DMC_DIAG_RESULT_OUTCOME (if refused then 0 else out)
  (s2.put Reg.DMC_DIAG_RESULT_POSITIONS (if refused then 0 else posMask)).put Reg.DMC_DIAG_RESULT_BEATS
    (if refused then 0 else beatMask e)

end Sys2Proof.Machine
end

