-- ==== Sys2Proof/Machine/VaultOps.lean ====
section
/-! DEFINITION. The vault (R104–R116): its start, the manifest, the dump engine's next stripe, the tail, what follows the
seal. -/

namespace Sys2Proof.Machine

/-- Change the vault in progress. -/
def State.updVault (s : State) (f : Vault → Vault) : State := { s with vlt := { s.vlt with cur := s.vlt.cur.map f } }

/-- The highest vault number on flash (R104). -/
def State.newestVault (s : State) : Nat :=
  Nat.max (((s.grt.seals.map (fun x => x.vault)).foldl Nat.max 0))
    (Nat.max ((s.grt.stripes.map (fun x => x.vault)).foldl Nat.max 0) ((s.grt.opens.map (fun x => x.follows)).foldl Nat.max 0))

/-- An empty manifest info block. -/
def ManInfo.empty : ManInfo := ⟨0, 0, 0, 0, 0, 0, 0, 0, 0, []⟩

/-- A vault that begins (R109). -/
def Vault.start (cause : VaultCause) (tripped rehCut : Bool) : Vault :=
  { cause := cause, tripped := tripped, sealed := false, tailPage := false, manifest := [], carried := [],
    carriedSer := [], info := .empty,
    manLeft := [], dataLeft := [], rewrites := [], taken := false, tail := false, manFirst := 0, manLast := 0,
    dataFirst := 0, dataLast := 0, count := 0, degraded := 0, superseded := [], lunsOut := 0, sealFails := 0,
    sealTried := [], mrst := false,
    offReq := false, rehCut := rehCut, failed := false }

/-- The snapshot of the vault start event (R451). -/
def vaultStartSnap : List Nat :=
  [0x150008, 0x15000C, 0x150010, 0x150014, 0x150018, 0x15001C, 0x140018, 0x15002C]

/-- Fetches in progress end with the trip (R125, R128): each granule keeps its source, except that those with held writes
are completed during the vault. -/
def State.stopFetches (s : State) : State :=
  let m := mmap (fun g (e : MapEnt) =>
    if e.st = .fetching ∧ (mget s.pmr.merge g).isNone then
      { e with st := if e.fromPeer then MapSt.remote else MapSt.notCopied }
    else e) s.cache.map
  { s with cache := { s.cache with map := m }, ech := { s.ech with greqs := [], mwrWait := [] } }

/-- A rehearsal is cut short by the trip (R90): its result is discarded. -/
def State.cutRehearsal (s : State) : State :=
  if s.rehearsing then
    ({ s with umb := { s.umb with rehearsal := none } } : State).put Reg.UMB_REH_INFO_OUTCOME 4
  else s

/-- The writes that still wait in a port's share are discarded, counted and reported (R34). -/
def State.discardAll (s : State) (p : Port) : State :=
  (s.portQueue p).foldl (fun (t : State) i => match i with
    | .write _ _ _ => t.discardWrite p
    | _ => t) s

/-- A PMR write or read that flow control can hold back (R74). -/
def heldPmr : Instr → Bool
  | .pmrWriteTlp _ _ _ _ _ _ | .pmrRead _ _ _ | .barrierRead _ _ => true
  | _ => false

/-- Close ingest (R21, R34, R48): received writes and pending barriers go, the PMR is CLOSED and remembers its state (R56). -/
def State.closeIngest (s : State) : State :=
  let s0 := ({ s with flow := s.flow.filter (fun x => !heldPmr x.2) } : State).discardAll .a |>.discardAll .b
  let left := if s0.pmr.st = PmrState.closed then s0.pmr.leftAt else s0.pmr.st
  let s1 := { s0 with
    pmr := { s0.pmr with
      leftAt := left, ingestOpen := false, queueA := [], queueB := [], barriers := [], group := none, waitReads := [] }
    ech := { s0.ech with fwds := [], fwdWait := [] } }
  ((s1.syncThr .a).syncThr .b).setPmr .closed

/-- The wake source of a device that a vault start takes out of SLEEP (R378, R399); 0 where R399 lists none. -/
def VaultCause.wake : VaultCause → Nat
  | .trip => 10
  | .longPress => 4
  | .railFault => 11
  | .grace | .thermal | .commit | .deepPrep | .format => 0

/-- The counts of the last vault begin anew (R134, R138). -/
def State.clearCounts (s : State) : State :=
  (((s.put Reg.VLT_STRIPES_COUNT 0).put Reg.VLT_FAULTS_DEGRADED 0).put Reg.VLT_FAULTS_REWRITTEN 0).put Reg.VLT_FAULTS_LUNS_OUT 0

/-- The Seep stripes that hold a grant are carried (R86): their granules and serials are listed in the manifest (R110). -/
def State.carryFlights (s : State) : State :=
  let fs := s.grt.flights.map (fun (f : Flight) =>
    if f.writer = Writer.seep ∨ f.writer = Writer.rehearsal then { f with carried := true } else f)
  let now := fs.filter (fun f => f.carried)
  ({ s with grt := { s.grt with flights := fs } } : State).updVault (fun v => { v with
    carried := (now.map (fun f => f.stripe.payload.vers.map s.verGran)).flatten,
    carriedSer := now.map (fun f => f.stripe.serial) })

/-- Start a vault (R108, R109 steps 1 to 3). -/
def State.startVault (s : State) (cause : VaultCause) (tripped : Bool) : State :=
  let cut := s.rehearsing
  let p := s.stagingLost
  let s0 := (({ p with evr := { p.evr with tripSeq := some (p.get Reg.EVR_SEQ_NEXT) } } : State).leaveOn cause.wake).setSeq
    seqVault
  let s1 := (s0.put Reg.VLT_STATUS_PHASE 1).eventWith 7 0x0001 4 cause.key (s0.snapOf vaultStartSnap)
  let s2 := (s1.put Reg.VLT_STATUS_INPUT_RET 0).put Reg.VLT_STATUS_DEGRADED 0
  let s3 := ((if tripped then s2.put Reg.VLT_STATUS_HOLD 1 else s2).put Reg.SUP_STATUS_VAULT_SUPPRESS 1).put
    Reg.WDT_STATUS_MASKED 1
  let s4 := { s3 with
    vlt := { s3.vlt with cur := some (Vault.start cause tripped cut), counting := false },
    host := { s3.host with waiting := [] },
    deferred := [] }
  let s5 := ((s4.closeIngest.leaveTrip.lanTrip).cutRehearsal.flashTrip.dramTrip).stopFetches
  s5.carryFlights.echoStateSync

/-- Merge two ascending lists without repeats. -/
def mergeAsc (a b : List Nat) : List Nat :=
  (b.foldl (fun (m : NMap Unit) x => mset m x ()) (a.map (fun x => (x, ())))).map (fun e => e.1)

/-- The carried flights (R86). -/
def State.carriedFlights (s : State) : List Flight := s.grt.flights.filter (fun f => f.carried)

/-- A manifest entry (R149). -/
def State.manEntry (s : State) (carried : List Nat) (g : Nat) : Nat :=
  s.granIndex g + (s.granOwner g).idx * 2 ^ 28 + (if carried.contains g then 2 ^ 30 else 0)

/-- The cache granule that a manifest entry names. -/
def State.entryGran (s : State) (e : Nat) : Nat := s.granOf (if bitOf e 28 then .b else .a) (e % 2 ^ 28)

/-- The manifest entries that a stripe of serial `n` holds (R149): 4,096 in each data page that is not emptied. -/
def manRoom (n : Nat) (layout : List Nat) : Nat := 4096 * (usablePages n layout).length

/-- The stripes that a manifest takes (R150), from serial `n` on, over stripes of one layout; at most `fuel`. -/
def manCount (layout : List Nat) : Nat → Nat → Nat → Nat
  | 0, _, _ => 0
  | fuel + 1, n, left => if left = 0 then 0 else 1 + manCount layout fuel (n + 1) (left - manRoom n layout)

/-- Take the manifest snapshot (R110): what is dirty at the end of the drain, and the granules of the carried stripes. -/
def State.takeManifest (s : State) : State :=
  let cg := (s.vlt.cur.map (fun v => v.carried)).getD []
  let list := mergeAsc s.dirtyList cg
  let own := (list.filter (fun g => decide (g < s.ownGrans))).length
  let seqOwn := s.pmr.nextSeq - 1
  let seqPeer := if s.pair then s.get Reg.ECH_SEQ_STORED_SEQ else 0
  let epPeer := if s.pair then s.pmr.peerEpoch else 0
  let a : Bool := s.owner == .a
  let info : ManInfo :=
    { vault := s.newestVault + 1, total := list.length, own := own, mirror := list.length - own,
      stripes := Nat.max 1 (manCount ((s.nextBandFor.map s.bandLayout).getD channels16) (ceilDiv list.length 4096)
        (s.get Reg.GRT_SERIAL_NEXT) list.length),
      seqA := if a then seqOwn else seqPeer, seqB := if a then seqPeer else seqOwn,
      epochA := if a then s.pmr.epoch else epPeer, epochB := if a then epPeer else s.pmr.epoch,
      carried := (s.vlt.cur.map (fun v => v.carriedSer)).getD [] }
  (s.updVault (fun v => { v with taken := true, manifest := list, info := info, manLeft := list,
                                  dataLeft := list })).put Reg.VLT_GRANULES_COUNT list.length

/-- A granule that was being fetched from the peer and holds writes is completed over the member's own version, or zeros,
and poisoned with the sectors that the writes covered (R128). -/
def State.completeFromOwn (s : State) (g : Nat) : State :=
  let hs := mgetD s.pmr.merge g []
  let img := match s.verOf g with
    | some v => v.data
    | none => []
  let mask := hs.foldl (fun m h => maskOr 8 m (fullSectors h.off h.be)) 0
  let s1 := ((s.writeGranule g).setGranImage g img).setEnt g { s.ent g with st := .copied }
  (s1.applyHeld g).poison g mask 3

/-- Complete the granules whose fetch is from the peer and that hold writes (R128). -/
def State.completePeerHeld (s : State) : State :=
  (s.pmr.merge.filter (fun e => (s.ent e.1).st == .fetching && (s.ent e.1).fromPeer || (s.ent e.1).st == .remote)).foldl
    (fun t e => t.completeFromOwn e.1) s

/-- The five position-summary events of a vault (R451). -/
def State.positionEvents (s : State) : State :=
  (List.range 5).foldl (fun t i =>
    let b (j : Nat) : Nat := (mgetD t.dmc.pos (32 * i + j) Position.init).bucket % 256
    let ws := (List.range 8).map (fun w => b (4 * w) + b (4 * w + 1) * 2 ^ 8 + b (4 * w + 2) * 2 ^ 16 + b (4 * w + 3) * 2 ^ 24)
    t.eventWith 10 0x7002 2 i (ws, false)) s

/-- PD_HOST and PD_ECHO are clamped and switched off (R26, R109): the links go down, PMRCTL.EN stands (R58, R66). -/
def State.linksOff (s : State) : State :=
  let down (h : HostPort) : HostPort := { HostPort.init with pmrEn := h.pmrEn }
  let s1 := if s.sessionUp then s.endSession eDown 2 else s
  let s2 := { s1 with host := { s1.host with portA := down s1.host.portA, portB := down s1.host.portB }, flow := [] }
  (s2.setDom .host .off).setDom .echo .off

/-- The vault writes a granule under the poison rule of R270: it holds an uncorrectable burst, the peer covers its frozen channel
(R274), or it is on the loss list (R275). -/
def State.dumpBad (s : State) (g : Nat) : Bool := s.granBad g || s.granCovered g || (s.granFrozen g && s.dmc.lossList.contains g)

/-- The dump engine reads granules through the symbol code (R256, R270); those written under the poison rule are counted. -/
def State.dumpRead (s : State) (gs : List Nat) : State :=
  (gs.foldl (fun (t : State) g => (t.readGranule .rt g).1) s).incSat Reg.DMC_UE_CNT_VAULT (gs.filter s.dumpBad).length

/-- Hand a vault stripe to the next open band: a serial is noted with what it holds; without a band the vault fails. -/
def State.vaultStripe (s : State) (rewriteOf : Nat) (manifest : Bool) (content : List Nat) : State :=
  let s0 := State.openBandsN 16 s
  match s0.nextBandFor with
  | none => s0.updVault (fun v => { v with failed := true })
  | some b =>
    let n := s0.get Reg.GRT_SERIAL_NEXT
    let info := (s0.vlt.cur.map (fun v => v.info)).getD ManInfo.empty
    let carried := (s0.vlt.cur.map (fun v => v.carried)).getD []
    let s1 :=
      if manifest then
        s0.handStripe b .vault 0 rewriteOf info.vault (fun _ _ => .manifest info (content.map (s0.manEntry carried)))
      else
        let r := s0.dumpRead content
        r.handStripe b .vault 0 rewriteOf info.vault (dataPayload (content.map (fun g => r.gver g 1 false (s0.dumpBad g))))
    let s2 := s1.updVault (fun v =>
      if manifest then { v with manFirst := if v.manFirst = 0 then n else v.manFirst, manLast := n, count := v.count + 1 }
      else { v with dataFirst := if v.dataFirst = 0 then n else v.dataFirst, dataLast := n, count := v.count + 1 })
    s2.incSat Reg.VLT_STRIPES_COUNT 1

/-- The granules, or manifest entries, that a stripe to the next band can hold; 0 without one. -/
def State.vaultRoom (s : State) (manifest : Bool) : Nat :=
  let s0 := State.openBandsN 16 s
  match s0.nextBandFor with
  | none => 0
  | some b => if manifest then manRoom (s0.get Reg.GRT_SERIAL_NEXT) (s0.bandLayout b) else s0.stripeRoom b

/-- Every stripe is on flash: the tail (R112). Summaries close the open bands, the staged journal entries are flushed. -/
def State.vaultTail (s : State) : State :=
  let s1 := s.openBands.foldl (fun t b => t.closeBand b.num false) s
  ((s1.journalFlushAll).updVault (fun v => { v with tail := true })).put Reg.VLT_STATUS_PHASE 5

/-- A stripe in flight has a program that has not ended, or a page that is not accounted for; a GC stripe whose programs have
ended holds nothing up. -/
def Flight.pending (f : Flight) : Bool := !f.waiting.isEmpty || (f.writer != .gc && !f.done.isEmpty)

/-- The dump engine takes its next step that waits for nothing (R109–R113): stripes lost to the dump first, then the
manifest, then the granules still dirty, then the tail. A granule whose held writes are not yet applied is passed over and
packed later (R128; DESIGN CHOICE, since the spec does not say whether the dump waits at it). PHASE becomes 4 with the last
manifest stripe and 5 with the last data stripe. The model's engine keeps one stripe in flight. -/
def State.vaultPump (s : State) : State :=
  match s.vlt.cur with
  | none => s
  | some v =>
    if v.sealed || !v.taken || v.tail || v.failed || s.grt.flights.any (fun f => f.writer == .vault) then s
    else
      match v.rewrites with
      | (n, man, es) :: rest =>
        let room := s.vaultRoom man
        let left := es.drop room
        let s1 := s.updVault (fun w => { w with rewrites := (if left = [] then [] else [(n, man, left)]) ++ rest })
        (s1.incSat Reg.VLT_FAULTS_REWRITTEN 1).vaultStripe n man (es.take room)
      | [] =>
        let need := v.dataLeft.filter (fun g => (s.gran g).dirty)
        if v.manFirst = 0 ∨ v.manLeft ≠ [] then
          let room := s.vaultRoom true
          let left := v.manLeft.drop room
          let s1 := (s.updVault (fun w => { w with manLeft := left })).put Reg.VLT_STATUS_PHASE
            (if left ≠ [] then 3 else if need ≠ [] then 4 else 5)
          s1.vaultStripe 0 true (v.manLeft.take room)
        else
          let ready := need.filter (fun g => (mget s.pmr.merge g).isNone)
          let take := ready.take (s.vaultRoom false)
          if take ≠ [] then
            let left := need.filter (fun g => !take.contains g)
            let s1 := (s.updVault (fun w => { w with dataLeft := left })).put Reg.VLT_STATUS_PHASE (if left = [] then 5 else 4)
            s1.vaultStripe 0 false take
          else if need ≠ [] ∨ s.grt.flights.any Flight.pending then s
          else s.vaultTail

/-- VAULT_DRAIN_COMPLETE's effect (R109 step 4, R110). -/
def State.drainComplete (s : State) (closeNs drainNs firstNs : Nat) : State :=
  match s.vlt.cur with
  | none => s
  | some v =>
    if v.taken then s
    else
      let s1 := ((s.put Reg.VLT_T_EARLY_CLOSE_NS (Nat.min 65535 closeNs)).put Reg.VLT_T_EARLY_DRAIN_NS
        (Nat.min 65535 drainNs)).put Reg.VLT_T_FIRST_FIRST_NS (Nat.min 65535 firstNs)
      let s2 := (s1.put Reg.VLT_STATUS_PHASE 2).clearCounts
      let s4 := ((s2.completePeerHeld.takeManifest).dramDrained).linksOff.positionEvents
      s4.vaultPump

/-- A program of the dump fails or times out (R113, R210): its LUN leaves vault service, a rehearsal is wanted (R88). -/
def State.vaultLunOut (s : State) (lun : Nat) : State :=
  if (s.lun lun).st = .active then
    let s1 := s.setLun lun { s.lun lun with awaitTest := true }
    let s2 := s1.lunState lun .writeOut 5
    let s3 := { s2 with umb := { s2.umb with wanted := true } }
    if s3.vaulting then
      (s3.incSat Reg.VLT_FAULTS_LUNS_OUT 1).updVault (fun v => { v with lunsOut := v.lunsOut + 1 })
    else s3
  else s

/-- A vault data page has programmed (R111): Dirty is cleared and the map names the vault version. -/
def State.vaultPage (s : State) (x : Stripe) (d : Nat) : State :=
  (x.pageVers d).foldl (fun t e => (t.mapTo (t.verGran e.2) x.serial d e.1).clean (t.verGran e.2)) s

/-- The vault engine writes the LUNs' write pointers to the AON save area (R118). -/
def State.savePointers (s : State) : State :=
  let wps := (s.flc.luns.map (fun e => ((e.2.wps.filter (fun w => w.1 / 65536 == 0)).map (fun w =>
    (e.1, (w.1 % 65536, w.2)))).take 1)).flatten
  { s with grt := { s.grt with aonWps := wps } }

/-- A vault stripe's last program has ended (R113): lost to the dump, degraded, or whole. -/
def State.vaultStripeEnd (s : State) (f : Flight) : State :=
  let x := { f.stripe with lost := f.failed }
  let s1 := (s.updStripe x.serial (fun _ => x)).endFlight x.serial
  let entries := match x.payload with
    | .manifest _ es => es.map s.entryGran
    | .data _ | .poisons _ => x.payload.vers.map s.verGran
  let man : Bool := match x.payload with
    | .manifest _ _ => true
    | .data _ | .poisons _ => false
  let s2 :=
    if x.lostToDump then
      s1.updVault (fun v => { v with
        rewrites := v.rewrites ++ [(x.serial, man, entries)],
        superseded := v.superseded ++ [x.serial] })
    else
      let un := (List.range 15).filter (fun d => !x.layout.contains (pagePos x.serial d) || x.lost.contains (pagePos x.serial d))
      let t := un.foldl (fun u d => u.vaultPage x d) s1
      if x.lost.isEmpty then t
      else ((t.updVault (fun v => { v with degraded := v.degraded + 1 })).incSat Reg.VLT_FAULTS_DEGRADED 1).put
        Reg.VLT_STATUS_DEGRADED 1
  s2.savePointers.vaultPump

/-- The channels that this round of seal copies tries in each group (R112): in the first the first channel in vault service,
in the second the remaining ones in turn. -/
def State.sealLists (s : State) (v : Vault) : List (List Nat) :=
  s.recEnv.groups.map (fun l => if v.sealFails = 0 then l.take 1 else l.filter (fun c => !v.sealTried.contains c))

/-- The round of seal copies (R112, R152); the copy of a channel in `fails` does not program. -/
def State.sealCopies (s : State) (v : Vault) (fails : List Nat) : RecRound :=
  s.grt.recRound s.recEnv 0 (s.sealLists v) fails .seal

/-- Bit n: global LUN n is out of vault service (R153). -/
def State.lunOutMap (s : State) : Nat :=
  ((List.range 256).map (fun n => if (s.lun n).st = .active then 0 else 2 ^ n)).foldl (· + ·) 0

/-- The seal of a vault (R112, R153), of record sequence `seq`. `us` is the time from the trigger. -/
def State.sealBody (s : State) (v : Vault) (seq us : Nat) : Seal :=
  let fl := b2n (s.flag Reg.VLT_STATUS_INPUT_RET) + 2 * b2n v.rehCut + 4 * b2n (v.cause == VaultCause.longPress)
  { recSeq := seq, vault := v.info.vault, session := s.get Reg.GRT_SESSION_SESSION, flags := fl,
    seqA := v.info.seqA, seqB := v.info.seqB, epochA := v.info.epochA, epochB := v.info.epochB,
    manFirst := v.manFirst, manLast := v.manLast, dataFirst := v.dataFirst, dataLast := v.dataLast,
    granules := v.manifest.length, stripes := v.count, degraded := v.degraded,
    rewritten := v.superseded.length, lunsOut := v.lunsOut, tClose := s.get Reg.VLT_T_EARLY_CLOSE_NS,
    tDrain := s.get Reg.VLT_T_EARLY_DRAIN_NS, tFirst := s.get Reg.VLT_T_FIRST_FIRST_NS, tSeal := us,
    nextSerial := s.get Reg.GRT_SERIAL_NEXT, outMap := s.lunOutMap, superseded := v.superseded.take 2000 }

/-- The seal record has programmed in round `r` (R112, R118): its body, its copies, and the AON copy of its location. -/
def State.writeSeal (s : State) (v : Vault) (r : RecRound) (us : Nat) : State :=
  { s with grt := { r.grt with seals := r.grt.seals ++ [s.sealBody v (s.grt.recSeq + 1) us], aonSeal := r.good.head? } }

/-- The snapshot of the seal event (R451). -/
def sealSnap : List Nat :=
  [0x160010, 0x160024, 0x160028, 0x16002C, 0x160020, 0x140028, 0x14002C, 0x160004]

/-- The input is present and the vault was not started by a trip, or the input has returned: the run budget is back (R29). -/
def State.sealBudget (s : State) (v : Vault) : State :=
  if s.flag Reg.VLT_STATUS_INPUT_RET || (!v.tripped && s.vlt.input) then s.leaveRun else s

/-- The first seal copy has programmed (R106, R109 step 8, R112, R436). -/
def State.sealed (s : State) (v : Vault) (r : RecRound) (us : Nat) : State :=
  let s1 := (s.writeSeal v r us).updVault (fun w => { w with sealed := true })
  let s2 := ((s1.put Reg.VLT_STATUS_ARMED 0).put Reg.VLT_STATUS_PHASE 6).put Reg.VLT_T_SEAL_SEAL_US us
  let s3 := (s2.put Reg.VLT_VAULT_NUM_NUM v.info.vault).putR Reg.LAN_VAULT_DELIV_E_MJ
    ((s2.lan.sum.map (fun x => x.sum * 1000)).getD 0)
  let s4 := (s3.put Reg.SUP_STATUS_VAULT_SUPPRESS 0).eventWith 7 0x0002 2 (v.info.vault % 65536) (s3.snapOf sealSnap)
  let s5 : State := { s4.timeCopy with lan := { s4.lan with sum := none } }
  (s5.bbTail.sealBudget v).updVault (fun w => { w with tailPage := true })

/-- SEAL_PROGRAMMED's effect (R112, R113): `fails` lists the channels on which the copy of this round failed to program;
their LUNs leave vault service. After two rounds without a copy the vault ends without a seal. -/
def State.sealRound (s : State) (fails : List Nat) (us : Nat) : State :=
  match s.vlt.cur with
  | none => s
  | some v =>
    if v.sealed || !v.tail then s
    else
      let r := s.sealCopies v fails
      let s1 := if r.good ≠ [] then s.sealed v r us
        else
          ({ s with grt := r.grt } : State).updVault (fun w => { w with
            sealFails := w.sealFails + 1, sealTried := w.sealTried ++ (s.sealLists v).flatten,
            failed := w.failed || decide (1 ≤ w.sealFails) })
      r.bad.foldl (fun (t : State) y => t.vaultLunOut y.1) s1

/-- The reason of the power-down that follows a vault (R361). -/
def VaultCause.down : VaultCause → DownWhy
  | .trip => .inputLoss
  | .longPress => .longPress
  | .railFault => .runFault
  | .grace => .offReq
  | .thermal => .thermal
  | .commit | .format => .commit
  | .deepPrep => .offReq

/-- HOLD_EN is released and the vault is over (R109 step 9, R116). -/
def State.vaultOver (s : State) : State :=
  let s1 := (s.put Reg.VLT_STATUS_HOLD 0).put Reg.FLC_STATUS_TRIP 0
  { s1 with vlt := { s1.vlt with cur := none } }

/-- The input is present after the seal of a vault that a trip began (R116 step 2). -/
def State.vaultReturn (s : State) : State :=
  let s1 := ((s.vaultOver.put Reg.VLT_STATUS_PHASE 0).put Reg.WDT_STATUS_MASKED 0).leaveRun
  s1.setSeq seqOn

end Sys2Proof.Machine
end

