-- ==== Sys2Proof/Machine/FlashOps.lean ====
section
/-! DEFINITION. The flash kernel (R191–R213): submitting and issuing descriptors, suspending, the end of an operation, its
timeout, channel faults. -/

namespace Sys2Proof.Machine

/-- The opcodes that read. -/
def Desc.reads (d : Desc) : Bool := d.op == opRead || d.op == opReadHeader || d.op == opErasedCheck || d.op == opReadRaw

/-- A read that may suspend (R206). -/
def Desc.suspender (d : Desc) : Bool := d.reads && (d.cls == 2 || d.cls == 4 || d.cls == 5)

/-- The descriptor breaks R196's form: BAD_DESCRIPTOR. -/
def Desc.bad (d : Desc) : Bool :=
  decide (d.op < 1) || decide (9 < d.op) || decide (d.cls < 1) || decide (8 < d.cls) || d.rsvd != 0

/-- A Ledger block's entry. -/
def State.lblk (s : State) (lun b : Nat) : Blk := mgetD s.grt.ledger.tbl (blkKey lun b) Blk.fresh

/-- Replace it. -/
def State.setLblk (s : State) (lun b : Nat) (v : Blk) : State :=
  { s with grt := { s.grt with ledger := { s.grt.ledger with tbl := mput Blk.fresh s.grt.ledger.tbl (blkKey lun b) v } } }

/-- Blocks of the Ledger area of a LUN (R141): its good blocks above the Grotto. -/
def State.ledgerBlocks (s : State) (lun : Nat) : Nat :=
  if (s.devProfile lun).isSome then (s.lun lun).good - s.get Reg.GRT_GEOM_BLOCKS else 0

/-! The Ledger namespace (R173, R174, R483, R485). -/

/-- The LUNs that hold Ledger blocks on a channel. -/
def State.ledgerLuns (s : State) (ch : Nat) : List Nat := s.activeLuns ch

/-- Ledger blocks of a channel, and the spares taken from them (R173). -/
def State.ledgerOn (s : State) (ch : Nat) : Nat := ((s.ledgerLuns ch).map s.ledgerBlocks).foldl (· + ·) 0
def State.ledgerSpares (s : State) (ch : Nat) : Nat := ceilDiv (s.get Reg.GRT_CAP_CFG_SPARE_PCT * s.ledgerOn ch) 1000

/-- Pages of a Ledger block: SLC pages, or those of the native cell mode (R173). -/
def State.ledgerPages (s : State) (ch : Nat) : Nat :=
  match (s.ledgerLuns ch).head? with
  | some l => ((s.devProfile l).map (fun p => if s.flag Reg.GRT_LEDGER_MODE then p.slcPages else p.slcPages * p.levels)).getD 0
  | none => 0

/-- Bytes of an LBA (R483). -/
def Ledger.lbaBytes (l : Ledger) : Nat := if l.lbaf = 0 then 4096 else 512

/-- NSZE in LBAs (R483). -/
def State.ledgerSize (s : State) (lbaf : Nat) : Nat :=
  let pages := ((List.range 16).map (fun c => (s.ledgerOn c - s.ledgerSpares c) * s.ledgerPages c)).foldl (· + ·) 0
  let op := (s.boot.running.map (fun i => i.ledgerOp)).getD 7
  pages * 16384 * 15 * (100 - op) / 1600 / (if lbaf = 0 then 4096 else 512)

/-- Retired Ledger blocks of a channel. -/
def State.ledgerRetired (s : State) (ch : Nat) : Nat :=
  mcount (fun k (b : Blk) => k / 65536 % 16 == ch && b.st == .retired) s.grt.ledger.tbl

/-- The LBAs for which blocks that are not retired remain (R174). -/
def State.ledgerRoom (s : State) : Nat :=
  let pages := ((List.range 16).map (fun c => (s.ledgerOn c - s.ledgerRetired c) * s.ledgerPages c)).foldl (· + ·) 0
  pages * 16384 * 15 / 16 / s.grt.ledger.lbaBytes

/-- The fewest Ledger spares left on any channel that holds Ledger blocks (R180). -/
def State.ledgerLeast (s : State) (sp : List Nat) : Nat :=
  minNat ((channels16.filter (fun c => s.ledgerOn c != 0)).map (fun c => lget sp c 0))

/-- The namespace takes its full size in an LBA format, under a new key, with nothing mapped (R173, R483, R485). -/
def State.ledgerSetup (s : State) (lbaf : Nat) : State :=
  let n := s.ledgerSize lbaf
  let sp := channels16.map (fun c => s.ledgerSpares c - s.ledgerRetired c)
  let k := s.fresh 512
  let s1 : State := { k.2 with grt := { k.2.grt with ledger := { k.2.grt.ledger with
    lbaf := lbaf, nsze := n, ncap := n, keyGen := k.2.grt.ledger.keyGen + 1, key := k.1, blocks := [], lost := [],
    spares := sp, spares0 := sp, formatting := false } } }
  let s2 := s1.put Reg.GRT_LEDGER_SPARES (s1.ledgerLeast sp)
  let none_ : Bool := sumNat sp == 0
  if n = 0 then s2 else ((s2.putB Reg.GRT_LEDGER_WP none_).putB Reg.GRT_STATUS_LEDGER_WP none_).syncWarn

/-- Erase every Ledger block that is not retired (R205, R485), LUN by LUN under Ledger leave (R27). -/
def State.ledgerErase (s : State) : State :=
  ((List.range 16).map s.ledgerLuns).flatten.foldl (fun (t : State) lun =>
    (t.underLeave (.ledgerErase lun) (fun w => (List.range (w.ledgerBlocks lun)).foldl (fun (u : State) b =>
      let v := u.lblk lun b
      if v.st = .retired then u
      else u.setLblk lun b { v with st := .erased, ec := Nat.min (2 ^ 24 - 1) (v.ec + 1), half := false }) w)).1) s

/-- Format NVM of the Ledger namespace (R485): the key is replaced, so every earlier LBA is gone; every block is erased. -/
def State.ledgerFormat (s : State) (lbaf : Nat) : State := s.ledgerErase.ledgerSetup lbaf

/-- The block lies within its area on this LUN. -/
def State.blockThere (s : State) (d : Desc) : Bool :=
  if d.area = 0 then decide (d.block < s.get Reg.GRT_GEOM_BLOCKS) else decide (d.block < s.ledgerBlocks d.lun)

/-- The ring may address the target with this opcode (R195). -/
def State.ringRight (s : State) (d : Desc) : Bool :=
  let st := (s.blk d.lun d.block).st
  if d.ring < 16 then d.area == 0 && d.writes && (st == .inBand || st == .record || st == .erased || st == .unknown)
  else if d.ring < 32 then d.area == 0 && d.reads && d.op != opReadRaw
  else if d.ring = 32 then d.area == 0
  else if d.ring = 33 then
    d.area == 1 || (d.area == 0 && st == .blackBox && (d.reads || d.writes))
  else false

/-- The SLC flag is as R195 asks. -/
def State.slcRight (s : State) (d : Desc) : Bool :=
  if d.area = 0 then d.slc else d.slc == s.flag Reg.GRT_LEDGER_MODE

/-- The opcodes that name a block. -/
def Desc.blockOp (d : Desc) : Bool := d.reads || d.writes

/-- The LUN does not permit the operation (R210). -/
def State.lunRefuses (s : State) (d : Desc) : Bool :=
  match (s.lun d.lun).st with
  | .active => false
  | .writeOut => d.writes
  | _ => true

/-- The program addresses a page below the block's write pointer (R201). -/
def State.disorder (s : State) (d : Desc) : Bool :=
  d.op == opProgram &&
    (match mget (s.lun d.lun).wps (d.area * 65536 + d.block) with
     | some p => decide (d.page < p)
     | none => false)

/-- Submit a descriptor to its ring of 1,024 (R195–R201, R210, R212); a full ring takes none; an erase of a Grotto block has
its ERASE_START entry staged (R163). -/
def State.flashSubmit (s : State) (d : Desc) : State :=
  if d.bad then s.completePlain d fsBadDesc
  else if !s.ringRight d || !s.slcRight d || (d.blockOp && !s.blockThere d) then s.completePlain d fsArea
  else if s.lunRefuses d then s.completePlain d fsLunOut
  else if s.flag Reg.FLC_STATUS_TRIP ∧ 32 ≤ d.ring ∧ d.cls ≠ 1 then s.completePlain d fsCancelled
  else if s.disorder d then s.completePlain d fsOrder
  else if 1024 ≤ (s.ringHeld d.ring).length then s
  else
    let s1 := if d.op = opProgram then s.setLun d.lun ((s.lun d.lun).wrote d.area d.block d.page) else s
    let s2 := if d.op = opErase ∧ d.area = 0 ∧ !s.grt.startStaged d.lun d.block then
        s1.journalEntry 1 d.lun 0 d.block (s.blk d.lun d.block).worn else s1
    (s2.touch 0).queueDesc d

/-- The leave operation of a program or erase whose GRANT is 0 (R27, R203). -/
def State.descLeave (s : State) (d : Desc) : LeaveOp :=
  if d.area = 1 then (if d.op = opProgram then .ledgerProgram d.lun else .ledgerErase d.lun)
  else if d.op = opErase then (if d.cls = 1 then .vaultErase d.lun else .gcErase d.lun)
  else if (s.blk d.lun d.block).st = .blackBox then .bbPage
  else .vaultProgram d.lun

/-- What waits before a descriptor in its LUN's queue. -/
def before (d : Desc) : List Desc → List Desc
  | [] => []
  | h :: t => if h = d then [] else h :: before d t

/-- R201's rules on order within a block and on DEP. -/
def State.orderOk (s : State) (l : Lun) (d : Desc) : Bool :=
  let earlier := (before d l.queue).filter (fun e => e.area == d.area && e.block == d.block && e.blockOp)
  let block := d.blockOp
  (!block || !(earlier.any (fun e => e.op == opErase))) &&
    (d.op != opProgram || !(earlier.any (fun e => e.op == opProgram))) &&
    (d.op != opErase || earlier.isEmpty) &&
    (match l.suspended with
     | some r => !(block && r.desc.op == opErase && r.desc.area == d.area && r.desc.block == d.block)
     | none => true) &&
    (!d.dep || s.flc.doneTags.contains d.depTag)

/-- The other LUNs that a reset of a LUN resets (R181, R184): none under ONFI, which resets one LUN; under JESD230 those of
its target. -/
def State.resetPeers (s : State) (lun : Nat) : List Nat :=
  if s.get Reg.FLC_IF_CFG_IFACE = 1 then
    (mfilter (fun n l => n % 16 == lun % 16 && n / 64 == lun / 64 && n != lun && l.st != .absent) s.flc.luns).map (fun e => e.1)
  else []

/-- A class-1 program or erase of this descriptor resets its LUN first (R212 step 5). -/
def State.resetsFirst (s : State) (l : Lun) (d : Desc) : Bool :=
  d.cls == 1 && d.writes && l.suspended.isSome && !((s.devProfile d.lun).map (fun p => p.progInEsusp)).getD false

/-- The LUN takes this descriptor now: nothing runs, and beside a suspended operation only reads of class 2, 4 and 5, or a
class-1 program at the trip (R206, R212); one that resets a whole target waits for the programs under way on its other LUNs (R181;
DESIGN CHOICE). -/
def State.lunTakes (s : State) (l : Lun) (d : Desc) : Bool :=
  l.running.isNone &&
    (match l.suspended with
     | none => true
     | some _ => d.suspender || (s.flag Reg.FLC_STATUS_TRIP && d.cls == 1)) &&
    (!s.resetsFirst l d || (s.resetPeers d.lun).all (fun n => (s.lun n).running.isNone))

/-- The descriptors of a LUN in issue order (R200): classes 1 to 3, those that have waited 50 ms unless a vault is in
progress, then classes 4 to 8. -/
def State.issueOrder (s : State) (l : Lun) (aged : List Nat) : List Desc :=
  let cls (n : Nat) := l.queue.filter (fun d => d.cls == n)
  let old := if s.vaulting then [] else l.queue.filter (fun d => aged.contains d.tag && decide (4 ≤ d.cls))
  cls 1 ++ cls 2 ++ cls 3 ++ old ++ cls 4 ++ cls 5 ++ cls 6 ++ cls 7 ++ cls 8

/-- Take a descriptor off its LUN's queue. -/
def State.dequeue (s : State) (d : Desc) : State :=
  let l := s.lun d.lun
  (s.setLun d.lun { l with queue := l.queue.filter (fun e => e != d) }).fillSlots d.lun 16

/-- An erase is issued (R205): its count rises, its pages are gone, and the block is in neither state until it ends. -/
def State.eraseIssued (s : State) (d : Desc) : State :=
  if d.area = 1 then
    let b := s.lblk d.lun d.block
    s.setLblk d.lun d.block { b with ec := b.worn, half := true }
  else
    let b := s.blk d.lun d.block
    (s.setBlk d.lun d.block { b with ec := b.worn, half := true }).dropPages d.lun d.block

/-- A read of a page at or above the write pointer of an open block (R201). -/
def State.aboveWp (s : State) (d : Desc) : Bool :=
  d.reads &&
    (match mget (s.lun d.lun).wps (d.area * 65536 + d.block) with
     | some p => decide (p ≤ d.page)
     | none => false)

/-- What a reset of a LUN does to an erase that R212 leaves suspended there: it is aborted, and never finished. -/
def State.abortSuspended (s : State) (lun : Nat) : State :=
  let l := s.lun lun
  match l.suspended with
  | some r =>
    let s1 := s.setLun lun { l with suspended := none }
    let c := { plainCompl r.desc (if r.desc.op = opProgram then fsProgFail else fsEraseFail) with cflags := 6 }
    (if r.grant = 0 then s1 else s1.leaveReturn (r.grant - 1)).complete c
  | none => s

/-- A class-1 program reaches a LUN with a suspended erase (R212 step 5): without PROG_IN_ESUSP the LUN is reset, which
aborts the erase. -/
def State.abortErase (s : State) (d : Desc) : State :=
  if s.resetsFirst (s.lun d.lun) d then (s.resetPeers d.lun).foldl State.abortSuspended (s.abortSuspended d.lun) else s

/-- What goes to the device before a Grotto operation: the SLC prefix byte of a profile with SLC_METHOD 0 (R182). -/
def State.slcPrefix (s : State) (d : Desc) : List Out :=
  match s.devProfile d.lun with
  | some p => if d.area = 0 ∧ p.slcMethod = 0 ∧ (d.reads || d.writes) = true then [.flashPrefix d.lun p.slcOp] else []
  | none => []

/-- Issue a descriptor to its LUN with the grant it holds (R199, R203). -/
def State.issueNow (s : State) (d : Desc) (grant : Nat) : State :=
  let s1 := (s.abortErase d).dequeue d
  if s1.aboveWp d then s1.completePlain d fsErased
  else
    let s2 := if d.op = opErase then s1.eraseIssued d else s1
    let s3 := s2.setLun d.lun { s2.lun d.lun with running := some ⟨d, grant, 0, false, false, false⟩ }
    ((s3.slcPrefix d).foldl State.send s3).send (.flash d.lun d.op d.block d.page)

/-- An erase of a Grotto block waits for its ERASE_START entry to be on flash (R163). -/
def State.waitsJournal (s : State) (d : Desc) : Bool := d.op == opErase && d.area == 0 && s.grt.startStaged d.lun d.block

/-- Try to issue one descriptor: it must hold leave, or ask for it; a rejected request completes it (R203). -/
def State.tryIssue (s : State) (d : Desc) : State :=
  if s.waitsJournal d then s
  else if !d.writes then s.issueNow d 0
  else if d.grant ≠ 0 then s.issueNow d 0
  else
    let op := s.descLeave d
    match s.broker.held.find? (fun l => l.op == op) with
    | some l => s.issueNow d (l.id + 1)
    | none =>
      if s.askedOp op then s
      else
        let r := s.leaveRequest op
        match r.2 with
        | none => (r.1.dequeue d).completePlain d fsLeave
        | some i => if r.1.leaveHeld i then r.1.issueNow d (i + 1) else r.1

/-- FLASH_DESCRIPTOR_ISSUE's effect: the first descriptor that may go, in issue order; a vault-class erase during a vault flushes
the journal first (R163); a suspended operation resumes when
no read is left to serve (R206), but not in vault mode. -/
def State.issueLun (s : State) (lun : Nat) (aged : List Nat) : State :=
  let l := s.lun lun
  match (s.issueOrder l aged).find? (fun d => s.lunTakes l d && s.orderOk l d) with
  | some d => (if s.vaulting && d.cls == 1 && s.waitsJournal d then s.journalFlushAll else s).tryIssue d
  | none =>
    match l.running, l.suspended with
    | none, some r =>
      if s.flag Reg.FLC_STATUS_TRIP then s else s.setLun lun { l with running := some r, suspended := none }
    | _, _ => s

/-- FLASH_SUSPEND's effect (R206). -/
def State.suspendLun (s : State) (lun : Nat) : State :=
  let l := s.lun lun
  match l.running with
  | none => s
  | some r =>
    let waiting := l.queue.filter Desc.suspender
    let limit := if r.desc.op = opProgram then s.get Reg.FLC_SUSP_CFG_PROG_MAX_SUSP else s.get Reg.FLC_SUSP_CFG_ERASE_MAX_SUSP
    let ok : Bool := waiting.any (fun d => d.cls == 2) || (!waiting.isEmpty && decide (r.susp < limit))
    if r.desc.writes && decide (6 ≤ r.desc.cls) && !r.desc.noSusp && l.suspended.isNone && ok then
      s.setLun lun { l with running := none, suspended := some { r with susp := r.susp + 1, wasSusp := true } }
    else s

/-- The Ledger loses a block (R173, R174): a spare of its channel takes its place, and NCAP falls to what the blocks left can
hold; when no Ledger spare remains the namespace becomes write-protected. -/
def State.retireLedger (s : State) (lun b : Nat) : State :=
  let v := s.lblk lun b
  if v.st = .retired then s
  else
    let ch := lun % 16
    let sp := lset s.grt.ledger.spares ch (lget s.grt.ledger.spares ch 0 - 1)
    let s1 := s.setLblk lun b { v with st := .retired, half := false }
    let s2 := ({ s1 with grt := { s1.grt with ledger := { s1.grt.ledger with
      spares := sp, ncap := Nat.min s1.grt.ledger.ncap s1.ledgerRoom } } } : State).put Reg.GRT_LEDGER_SPARES (s1.ledgerLeast sp)
    if sumNat sp = 0 then ((s2.put Reg.GRT_LEDGER_WP 1).put Reg.GRT_STATUS_LEDGER_WP 1).syncWarn else s2

/-- Count a program failure of a block; the second retires it (R168). -/
def State.blockFail (s : State) (d : Desc) : State :=
  if d.area = 1 then
    let v := s.lblk d.lun d.block
    let s1 := s.setLblk d.lun d.block { v with pfail := Nat.min 15 (v.pfail + 1) }
    if 1 ≤ v.pfail then s1.retireLedger d.lun d.block else s1
  else
    let v := s.blk d.lun d.block
    let s1 := s.setBlk d.lun d.block { v with pfail := Nat.min 15 (v.pfail + 1) }
    if 1 ≤ v.pfail then s1.retireBlk d.lun d.block 2 else s1

/-- A page of a stripe has programmed (R18, R111). -/
def State.pageDone (s : State) (f : Flight) (p : Nat) : State :=
  let f1 := { f with waiting := f.waiting.filter (fun q => q != p), done := f.done ++ [p] }
  let s1 := s.updFlight f.stripe.serial (fun _ => f1)
  if f.writer = .vault then
    let s2 := match posPage f.stripe.serial p with
      | some d => s1.vaultPage f.stripe d
      | none => s1
    if f1.waiting.isEmpty then s2.vaultStripeEnd f1 else s2
  else s1.gcCut f1

/-- Release the in-flight entries of a stripe whose page failed during a vault: the granules stay dirty. -/
def State.dropEntries (s : State) (serial : Nat) : State :=
  { s with cache := { s.cache with inflight := s.cache.inflight.filter (fun e => e.serial != serial) } }

/-- A page of a stripe has failed (R113, R168): during a vault the LUN leaves vault service; outside, the band closes at
its current stripe and the stripe is written again. -/
def State.pageFailed (s : State) (f : Flight) (p lun : Nat) : State :=
  let f1 := { f with waiting := f.waiting.filter (fun q => q != p), failed := f.failed ++ [p] }
  let s1 := (s.updFlight f.stripe.serial (fun _ => f1)).updStripe f.stripe.serial (fun x => { x with lost := x.lost ++ [p] })
  if s.vaulting then
    let s2 := s1.vaultLunOut lun
    if f.writer = .vault then (if f1.waiting.isEmpty then s2.vaultStripeEnd f1 else s2)
    else if f.writer = .gc then s2.gcCut f1
    else if f1.waiting.isEmpty && f1.done.isEmpty then (s2.seepEnd f1).dropEntries f.stripe.serial
    else s2
  else
    let s2 := { s1 with umb := { s1.umb with rehearsal := s1.umb.rehearsal.map (fun (r : Rehearsal) =>
      if f.writer = Writer.rehearsal then { r with failed := true } else r) } }
    let s3 := s2.closeBand f.stripe.band true
    let s4 := if f.failed = [] then
        (s3.rewriteStripe f1).updFlight f.stripe.serial (fun g => { g with grant := 0 })
      else s3
    if f.writer ≠ .gc ∧ f1.waiting = [] ∧ f1.done = [] then s4.endFlight f.stripe.serial else s4

/-- A program has ended (R113, R168, R204). `timed`: it timed out; DEDUCED: FLC_CNT_PFAIL counts what the device reports as
failed, and the time-outs have their own counter. -/
def State.programEnd (s : State) (d : Desc) (ok timed : Bool) : State :=
  let s1 :=
    if ok then s
    else
      let l := s.lun d.lun
      let t := if timed then s else (s.incSat Reg.FLC_CNT_PFAIL_COUNT 1).setLun d.lun { l with pfail := l.pfail + 1 }
      if t.vaulting then t else t.blockFail d
  match (if d.area = 0 then s1.flightPage d else none) with
  | some f => if ok then s1.pageDone f (d.lun % 16) else s1.pageFailed f (d.lun % 16) d.lun
  | none => if !ok && s1.vaulting && d.area == 0 then s1.vaultLunOut d.lun else s1

/-- An erase has ended (R163, R168, R204): ERASE_DONE is staged, those of a GC victim with the last of them (R166). A failed
one retires its block, and during a vault its LUN leaves vault service (R113); so does one that reaches the wear limit
retire. -/
def State.eraseEnd (s : State) (d : Desc) (ok timed : Bool) : State :=
  let s0 := if ok || timed then s else s.incSat Reg.FLC_CNT_EFAIL_COUNT 1
  if d.area = 1 then
    let v := s0.lblk d.lun d.block
    if ok then s0.setLblk d.lun d.block { v with half := false } else s0.retireLedger d.lun d.block
  else
    let v := s0.blk d.lun d.block
    if !ok then
      let t := s0.retireBlk d.lun d.block 1
      if t.vaulting then t.vaultLunOut d.lun else t
    else
      let st := if v.st = .unknown ∨ v.st = .inBand then BlkSt.erased else v.st
      let l := s0.lun d.lun
      let s1 := (s0.setBlk d.lun d.block { v with st := st, half := false }).setLun d.lun
        { l with wps := mdel l.wps d.block }
      let s2 := { s1 with grt := { s1.grt with recs := s1.grt.recs.map (fun (r : RecBlock) =>
        if r.lun = d.lun ∧ r.block = d.block then { r with gen := 0, pages := [] } else r) } }
      let ofVictim : Bool := s2.grt.gc.any (fun (g : Gc) => g.blocks.contains (d.lun, d.block))
      let s3 := if ofVictim then s2 else s2.journalEntry 2 d.lun 0 d.block v.ec
      if s.wornOut v.ec then s3.retireBlk d.lun d.block 3 else s3.grtSync

/-- Close an operation: its completion entry, its leave, and what its end means (R197, R203). -/
def State.opEnd (s : State) (r : FRun) (c : FCompl) : State :=
  let d := r.desc
  let l := s.lun d.lun
  let s1 := s.setLun d.lun { l with running := none }
  let s2 := (if r.grant = 0 then s1 else s1.leaveReturn (r.grant - 1)).complete c
  let ok : Bool := c.status == fsSuccess
  let s3 :=
    if d.op = opProgram then s2.programEnd d ok (c.status == fsTimeout)
    else if d.op = opErase then s2.eraseEnd d ok (c.status == fsTimeout)
    else if d.op = opSetFeature ∧ ok then
      s2.setLun d.lun { s2.lun d.lun with features := mset (s2.lun d.lun).features (d.arg % 256) (d.arg / 256) }
    else s2
  s3.fillSlots d.lun 16

/-- The flags of a completion (R197). -/
def FRun.cflags (r : FRun) (refresh reset : Bool) : Nat := b2n refresh + 2 * b2n r.wasSusp + 4 * b2n (reset || r.wasReset)

/-- A set bit count of a five-bit mask. -/
def bits5 (m : Nat) : Nat := b2n (bitOf m 0) + b2n (bitOf m 1) + b2n (bitOf m 2) + b2n (bitOf m 3) + b2n (bitOf m 4)

/-- The status that an operation ends with (R194, R198). -/
def endStatus (d : Desc) (fail : Bool) (cwFail zeros : Nat) : Nat :=
  if d.op = opProgram then (if fail then fsProgFail else fsSuccess)
  else if d.op = opErase then (if fail then fsEraseFail else fsSuccess)
  else if d.op = opErasedCheck then (if zeros ≤ 64 then fsErased else fsSuccess)
  else if d.op = opRead ∨ d.op = opReadHeader then
    if cwFail = 0 then fsSuccess
    else if (d.op = opReadHeader ∨ cwFail = d.cwMask) ∧ zeros ≤ 64 then fsErased
    else fsUncorr
  else fsSuccess

/-- An operation suspended on a LUN that is reset completes as failed, with CFLAGS.RESET set (R208 step 4). -/
def State.resetSuspended (s : State) (lun : Nat) : State :=
  let l := s.lun lun
  match l.suspended with
  | some q =>
    let s1 := s.setLun lun { l with suspended := none }
    let t := if q.grant = 0 then s1 else s1.leaveReturn (q.grant - 1)
    let st := if q.desc.op = opProgram then fsProgFail else fsEraseFail
    let t1 := t.complete { plainCompl q.desc st with cflags := q.cflags false true }
    if q.desc.op = opProgram then t1.programEnd q.desc false false else t1.eraseEnd q.desc false false
  | none => s

/-- Another LUN of a target that is reset (R181): its suspended operation fails as R208 says. DEDUCED for the one under way:
a program or erase fails in the same way, a read is made again. -/
def State.resetPeer (s : State) (lun : Nat) : State :=
  let s1 := s.resetSuspended lun
  match (s1.lun lun).running with
  | some r =>
    if r.desc.writes then
      s1.opEnd r { plainCompl r.desc (if r.desc.op = opProgram then fsProgFail else fsEraseFail) with cflags := r.cflags false true }
    else s1.setLun lun { s1.lun lun with running := some { r with wasReset := true } }
  | none => s1

/-- A RESET_LUN that ends (R181, R196): under JESD230 the other LUNs of its target are reset with it. -/
def State.resetDone (s : State) (lun : Nat) : State := (s.resetPeers lun).foldl State.resetPeer s

/-- The default ladder of retry offsets, in DAC steps (R192). -/
def defaultLadder : List Int := [-4, 4, -8, 8, -12, 12, -16, 16, -24, 24, -32, 32]

/-- The ladder of a profile (R182, R192): its RETRY_TABLE, or the default where that is empty. -/
def DevProfile.ladder (p : DevProfile) : List Int := if p.retryTable = [] then defaultLadder else p.retryTable

/-- The order in which the retry levels are tried (R191): the one that last succeeded on the LUN, then the others from 1 on. -/
def retryOrder (last levels : Nat) : List Nat :=
  let all := (List.range levels).map (fun k => k + 1)
  if all.contains last then last :: all.filter (fun k => k != last) else all

/-- The levels tried up to the one that succeeds. -/
def triedTo (n : Nat) : List Nat → List Nat
  | [] => []
  | k :: t => if k = n then [k] else k :: triedTo n t

/-- An offset as the value of a feature: two's complement in 8 bits (DESIGN CHOICE: the spec gives no encoding). -/
def dacByte (i : Int) : Nat := (i % 256).toNat

/-- The read-threshold offsets that a read's retries set, in order, and the 0 that restores it (R191). `level` is the level
that succeeded (13 soft decision), `failed` that none did, `best` the level whose offset the soft reads step around. -/
def State.retryOffsets (s : State) (lun level best : Nat) (failed : Bool) : List Int :=
  match s.devProfile lun with
  | none => []
  | some p =>
    let order := retryOrder (s.lun lun).lastLevel (s.get Reg.FLC_RETRY_CFG_LEVELS)
    let off (k : Nat) : Int := p.ladder.getD (k - 1) 0
    let step : Int := (s.get Reg.FLC_RETRY_CFG_SOFT_STEP : Nat)
    let soft : List Int := if s.flag Reg.FLC_RETRY_CFG_SOFT_EN then [off best + step, off best - step] else []
    if level = 0 ∧ !failed then []
    else if failed ∨ level = 13 then order.map off ++ soft ++ [0]
    else (triedTo level order).map off ++ [0]

/-- Set the offsets on the LUN through Set Features (R191): RETRY_FA ends at 0. -/
def State.retrySets (s : State) (lun : Nat) (offs : List Int) : State :=
  match s.devProfile lun with
  | none => s
  | some p =>
    if offs = [] then s
    else
      let s1 := s.setLun lun { s.lun lun with features := mset (s.lun lun).features p.retryFa 0 }
      offs.foldl (fun (t : State) o => t.send (.flash lun opSetFeature p.retryFa (dacByte o))) s1

/-- What a successful read of a Grotto page moves to its buffers (R196): each data codeword of CW_MASK to its place in the
data buffer, the header to the header buffer. -/
def State.readMoves (s : State) (d : Desc) : List Out :=
  match (if d.area = 0 then s.mediaPage d.lun d.block d.page else none) with
  | none => []
  | some x =>
    let words := if d.op = opRead then (List.range 4).filter (fun k => bitOf d.cwMask k) else []
    let hdr : Bool := d.hdrBuf != 0 && (d.op == opReadHeader || (d.op == opRead && bitOf d.cwMask 4))
    words.map (fun k => Out.dma (d.buf + 4096 * k) ((x.1.drop (4096 * k)).take 4096)) ++
      (if hdr then [Out.dma d.hdrBuf x.2] else [])

/-- FLASH_OP_COMPLETE's effect (R191, R193, R197): `level` and `bits` are LEVEL and MAX_BITS, `best` the best retry level,
`retried` codewords decoded after retry, `cwFail` those that failed, `zeros` the zero bits counted, `us` the time from issue.
-/
def State.opComplete (s : State) (lun : Nat) (fail : Bool) (level best bits retried cwFail zeros us : Nat) : State :=
  match (s.lun lun).running with
  | none => s
  | some r =>
    let d := r.desc
    let st := endStatus d fail cwFail zeros
    let rd : Bool := (d.op == opRead || d.op == opReadHeader) && st != fsErased
    let refresh : Bool := rd &&
      (decide (s.get Reg.FLC_LDPC_CFG_REFRESH_LEVEL ≤ level ∧ 0 < level) || decide (s.get Reg.FLC_LDPC_CFG_REFRESH_BITS < bits))
    let c : FCompl := ⟨d.tag, st, level, Nat.min 255 bits, r.cflags refresh false, if st = fsUncorr then cwFail else 0,
      Nat.min 65535 zeros, us⟩
    let s0 := if rd then s.retrySets lun (s.retryOffsets lun level best (st == fsUncorr)) else s
    let s1 := if rd ∧ 0 < level ∧ level ≤ 12 then
        (s0.incSat Reg.FLC_CNT_RETRY_COUNT retried).setLun lun { s0.lun lun with lastLevel := level }
      else if rd ∧ level = 13 then s0.incSat Reg.FLC_CNT_SOFT_COUNT retried
      else s0
    let s2 := if st = fsUncorr then s1.incSat Reg.FLC_CNT_UNCORR_COUNT (bits5 cwFail) else s1
    let s3 := if refresh then
        let t := s2.incSat Reg.FLC_CNT_REFRESH_COUNT 1
        if d.area = 0 then t.setBlk lun d.block { t.blk lun d.block with refresh := true } else t
      else s2
    let s4 := if d.op = opGetFeature then s3.send (.flash lun d.op (d.arg % 256) (mgetD (s3.lun lun).features (d.arg % 256) 0)) else s3
    let s5 := if st = fsSuccess then (s4.readMoves d).foldl State.send s4 else s4
    (if d.op = opResetLun then s5.resetDone lun else s5).opEnd r c

/-- A LUN goes DEAD (R210): its blocks retire (R168). -/
def State.lunDead (s : State) (lun : Nat) : State := (s.lunState lun .dead 6).retireLun lun

/-- FLASH_OP_TIMEOUT's effect (R208, R210): the LUN is reset; `resetOk` when it is ready within T_RST. -/
def State.opTimeout (s : State) (lun : Nat) (resetOk : Bool) : State :=
  let l := s.lun lun
  match l.running with
  | none => s
  | some r =>
    let s1 := (s.incSat Reg.FLC_CNT_TIMEOUT_COUNT 1).setLun lun
      { l with timeouts := l.timeouts ++ [s.secs], pfail := l.pfail + 1 }
    let s2 := (s1.resetSuspended lun).resetDone lun
    let s3 :=
      if r.desc.reads && !r.retried && !s.vaulting && resetOk then
        s2.setLun lun { s2.lun lun with running := some { r with retried := true, wasReset := true } }
      else s2.opEnd r { plainCompl r.desc fsTimeout with cflags := r.cflags false true }
    if !resetOk then s3.lunDead lun
    else if (s3.lun lun).st = .active ∧ s3.get Reg.FLC_TIMEOUT_CFG_LIMIT ≤ s3.lunTimeouts (s3.lun lun) then
      let t := s3.setLun lun { s3.lun lun with awaitTest := true }
      let t1 := t.lunState lun .writeOut 5
      { t1 with umb := { t1.umb with wanted := true } }
    else s3

/-- The LUNs of a channel. -/
def State.lunsOn (s : State) (ch : Nat) : List Nat :=
  (mfilter (fun n l => n % 16 == ch && l.st != .absent) s.flc.luns).map (fun e => e.1)

/-- A channel is out (R211): all of its LUNs become DEAD. -/
def State.channelOut (s : State) (ch : Nat) : State :=
  let s1 := (s.lunsOn ch).foldl (fun t n =>
    if (t.lun n).st = .active ∨ (t.lun n).st = .writeOut then t.lunDead n else t) s
  let s2 := s1.put (Reg.FLC_CHn_STATUS_STATE ch) 3
  { s2.put Reg.FLC_STATUS_CHANNELS_UP (s2.get Reg.FLC_STATUS_CHANNELS_UP - 1) with umb := { s2.umb with wanted := true } }

/-- Retrain a channel from its stored values (R211); `ok` says whether it trains. -/
def State.retrain (s : State) (ch : Nat) (ok : Bool) : State :=
  if ok then s.incSat (Reg.FLC_CHn_STATUS_RETRAINS ch) 1
  else (s.incSat (Reg.FLC_CHn_STATUS_RETRAINS ch) 1).channelOut ch

/-- CHANNEL_FAULT's effect (R211). -/
def State.channelFault (s : State) (ch : Nat) (ok : Bool) : State :=
  if s.get (Reg.FLC_CHn_STATUS_STATE ch) = 0 ∨ s.get (Reg.FLC_CHn_STATUS_STATE ch) = 3 then s
  else
    let s1 := (s.ev .flc 0x0002 4 ch).raise Reg.FLC_STATUS_CH_EV Reg.FLC_CTRL_INT_EN 59
    if s1.vaulting then (s1.activeLuns ch).foldl State.vaultLunOut s1
    else
      let again : Bool := match lget s1.flc.lastFault ch none with
        | some t => decide (s1.secs < t + 60)
        | none => false
      let s2 := { s1 with flc := { s1.flc with lastFault := lset s1.flc.lastFault ch (some s1.secs) } }
      if again then s2.channelOut ch else s2.retrain ch ok

end Sys2Proof.Machine
end

