-- ==== Sys2Proof/Machine/Health.lean ====
section
/-! DEFINITION. Wear and health as the host sees them (R500, R502, R505, R507): erase counts of both flash areas, Percentage
Used, and the four values of the health answers. -/

namespace Sys2Proof.Machine

/-- The LUNs discovered. -/
def State.luns (s : State) : List Nat := (mfilter (fun _ l => l.st != .absent) s.flc.luns).map (fun e => e.1)

/-- The blocks of an area on a LUN, none on an absent one (R500). -/
def State.areaBlocks (s : State) (ledger : Bool) (lun : Nat) : Nat :=
  if (s.lun lun).st = .absent then 0 else if ledger then s.ledgerBlocks lun else s.get Reg.GRT_GEOM_BLOCKS

/-- The block table of an area. -/
def State.areaTbl (s : State) (ledger : Bool) : NMap Blk := if ledger then s.grt.ledger.tbl else s.grt.tbl

/-- A block's entry in an area. -/
def State.areaBlk (s : State) (ledger : Bool) (lun b : Nat) : Blk := if ledger then s.lblk lun b else s.blk lun b

/-- The four bytes of a block entry (R161). -/
def Blk.word (v : Blk) : Nat := v.st.code * 2 ^ 28 + Nat.min 15 v.pfail * 2 ^ 24 + Nat.min (2 ^ 24 - 1) v.ec

/-- All blocks of an area. -/
def State.areaTotal (s : State) (ledger : Bool) : Nat := sumNat (s.luns.map (s.areaBlocks ledger))

/-- The retired blocks of an area. -/
def State.areaRetired (s : State) (ledger : Bool) : Nat := mcount (fun _ (b : Blk) => b.st == .retired) (s.areaTbl ledger)

/-- The mean erase count of the usable blocks of an area (R500). -/
def State.meanEc (s : State) (ledger : Bool) : Nat :=
  let n := s.areaTotal ledger - s.areaRetired ledger
  if n = 0 then 0
  else sumNat ((mfilter (fun _ (b : Blk) => b.st != .retired) (s.areaTbl ledger)).map (fun e => e.2.ec)) / n

/-- The highest erase count of an area, or of one LUN of it. -/
def State.maxEc (s : State) (ledger : Bool) (p : Nat → Bool) : Nat :=
  ((mfilter (fun k _ => p (k / 65536)) (s.areaTbl ledger)).map (fun e => e.2.ec)).foldl Nat.max 0

/-- PE_LIMIT in cycles (R85, R500). -/
def State.peLimit (s : State) : Nat := 10 * s.get Reg.UMB_ENDUR_CFG_PE_LIMIT

/-- Percentage Used (R502). -/
def State.pctUsed (s : State) : Nat :=
  let pct (l : Bool) : Nat := if s.peLimit = 0 then 0 else s.meanEc l * 100 / s.peLimit
  Nat.min 255 (Nat.max (pct false) (pct true))

/-- The composite temperature as the health answers carry it: °C in two's complement. -/
def State.tempByte (s : State) : Nat := (s.tj % 256).toNat

/-- The status flags of the health answers: drive ready, functional, no reset needed, link of each port up. -/
def State.healthFlags (s : State) : Nat :=
  b2n (!(s.nvme .a).rdy && !(s.nvme .b).rdy) * 64 + 32 + 16 + b2n (s.port .a).linkUp * 8 + b2n (s.port .b).linkUp * 4

/-- Status flags, SMART warnings, composite temperature, Percentage Used (R505, R507). -/
def State.healthVals (s : State) : List Nat := [s.healthFlags, s.warnBits, s.tempByte, s.pctUsed]

end Sys2Proof.Machine
end

