-- ==== Sys2Proof/Machine/ImgTable.lean ====
section
/-! DEFINITION. The defaults that the register tables state for "img" fields (R11): what an image carries in a field for
which its board states nothing. Fields without a stated default carry 0. -/

namespace Sys2Proof.Machine.Reg

/-- Stated defaults, part 1. -/
def imgDefaults1 : List (Fld × Nat) :=
  [(UMB_MODEL_CFG_BETA, 10),
    (UMB_MODEL_CFG_ALPHA, 20),
    (UMB_MODEL_CFG_MARGIN, 20),
    (UMB_FIXED_CFG_T_TAIL, 3000),
    (UMB_FIXED_CFG_T_CARRY, 2000),
    (UMB_CAP_CFG_FLOOR, 256),
    (UMB_CAP_CFG_COLD_CAP, 64),
    (UMB_SEEP_CFG_MIRROR_SHARE, 8),
    (UMB_SEEP_CFG_AGE_PERIOD, 40),
    (UMB_SEEP_CFG_TAU, 20),
    (UMB_SEEP_CFG_TARGET, 50),
    (UMB_ENDUR_CFG_LIFE, 7),
    (UMB_ENDUR_CFG_RESERVE, 20),
    (UMB_ENDUR_CFG_PE_LIMIT, 4000),
    (UMB_REH_CFG_TEMP_TRIG, 15),
    (UMB_REH_CFG_WINDOW_MS, 100),
    (UMB_REH_CFG_INTERVAL, 24),
    (VLT_TRIP_CFG_RETURN_MS, 10),
    (VLT_TRIP_CFG_FILTER, 1),
    (GRT_CAP_CFG_MIN_CACHE, 32)]

/-- Stated defaults, part 2. -/
def imgDefaults2 : List (Fld × Nat) :=
  [(GRT_CAP_CFG_SPARE_PCT, 20),
    (GRT_GC_CFG_WEAR_EVERY, 16),
    (GRT_GC_CFG_STOP, 8),
    (GRT_GC_CFG_START, 4),
    (FLC_LDPC_CFG_REFRESH_LEVEL, 4),
    (FLC_LDPC_CFG_REFRESH_BITS, 48),
    (FLC_RETRY_CFG_SOFT_STEP, 6),
    (FLC_RETRY_CFG_SOFT_EN, 1),
    (FLC_SUSP_CFG_ERASE_MAX_SUSP, 32),
    (FLC_SUSP_CFG_PROG_MAX_SUSP, 4),
    (FLC_SUSP_CFG_ERASE_MIN, 100),
    (FLC_SUSP_CFG_PROG_MIN, 25),
    (FLC_TIMEOUT_CFG_LIMIT, 3),
    (FLC_TIMEOUT_CFG_WINDOW, 60),
    (FLC_TIMEOUT_CFG_ERASE_X, 3),
    (FLC_TIMEOUT_CFG_PROG_X, 3),
    (FLC_TIMEOUT_CFG_READ_X, 4),
    (DMC_SCHED_CFG_AGE_LIMIT, 40),
    (DMC_SCHED_CFG_HIT_CAP, 16),
    (DMC_SCHED_CFG_WR_HI, 32)]

/-- Stated defaults, part 3. -/
def imgDefaults3 : List (Fld × Nat) :=
  [(DMC_SCHED_CFG_WR_LO, 8),
    (DMC_PORT_WEIGHT_CPU, 3),
    (DMC_PORT_WEIGHT_BG, 1),
    (DMC_PORT_WEIGHT_RT, 4),
    (DMC_PORT_WEIGHT_ECHO, 4),
    (DMC_PORT_WEIGHT_HOST, 4),
    (DMC_PORT_RESV_BG, 4),
    (DMC_PORT_RESV_CPU, 8),
    (DMC_PORT_RESV_ECHO, 16),
    (DMC_PORT_RESV_HOST, 16),
    (DMC_PORT_RESV_RT, 32),
    (DMC_RT_CFG_RST_OFF, 64),
    (DMC_RT_CFG_RST_ON, 96),
    (DMC_RT_CFG_DUMP_OFF, 64),
    (DMC_RT_CFG_DUMP_ON, 32),
    (DMC_REF_CFG_TREFI_NS, 3900),
    (DMC_PWR_CFG_PD_IDLE, 20),
    (DMC_POS_CFG_LEAK_S, 3600),
    (DMC_POS_CFG_LIMIT, 64),
    (DMC_SCRUB_CFG_HOURS, 24)]

/-- Stated defaults, part 4. -/
def imgDefaults4 : List (Fld × Nat) :=
  [(DMC_SCRUB_CFG_EN, 1),
    (DMC_RH_CFG_THRESH, 4096),
    (DMC_TRN_CFG_TRACK_MS, 128),
    (DMC_TRN_CFG_VERIFY_MARGIN, 8),
    (ECH_CFG_PENALTY_S, 10),
    (ECH_CFG_SILENCE, 25),
    (ECH_CFG_ACK_TO, 125),
    (ECH_CFG2_REJOIN_MS, 100),
    (ECH_CFG2_RESYNC_RATE, 64),
    (ECH_CFG2_LAPSE_LIMIT, 3),
    (ECH_CFG2_FALLBACK, 1),
    (LAN_BUS_CFG_LEARN_MARGIN, 500),
    (LAN_FILT_CFG_CONV_SOC, 20),
    (LAN_FILT_CFG_CONV_V, 20),
    (LAN_FILT_CFG_DISAGREE_S, 60),
    (LAN_FILT_CFG_GATE, 4),
    (LAN_FILT_CFG_K, 3),
    (LAN_LEARN_CFG_RETRY_H, 24),
    (LAN_LEARN_CFG_LEARN_SIGMA, 10),
    (LAN_LEARN_CFG_AGE_PCT, 50)]

/-- Stated defaults, part 5. -/
def imgDefaults5 : List (Fld × Nat) :=
  [(LAN_LEARN_CFG_INTERVAL_D, 90),
    (LAN_REST_CFG_PERIOD_H, 24),
    (LAN_REST_CFG_NATURAL_MIN, 30),
    (LAN_REST_CFG_REST_MIN, 10),
    (SUP_SCAN_CFG_HYST, 8),
    (SUP_SCAN_CFG_PG_SCANS, 2),
    (SUP_SCAN_CFG_FILT, 2),
    (SUP_SEQ_CFG_RUN_LIMIT, 3),
    (SUP_SEQ_CFG_AUTO_ON, 1),
    (SUP_SEQ_CFG_RETRY_DELAY, 50),
    (SUP_SEQ_CFG_RETRIES, 3),
    (SUP_SEQ_CFG_BOOT_GROUP, 2),
    (SUP_BTN_CFG_ORDERLY_S, 10),
    (SUP_BTN_CFG_SHORT_MIN, 5),
    (SUP_BTN_CFG_LONG_S, 8),
    (PWR_CFG_SLEEP_CHECK_MIN, 10),
    (PWR_CFG_IDLE_MS, 10),
    (PWR_CFG_DEEP_EN, 1),
    (PWR_CFG2_BACKOFF_MAX, 10),
    (PWR_CFG2_VOTE_MS, 10)]

/-- Stated defaults, part 6. -/
def imgDefaults6 : List (Fld × Nat) :=
  [(PWR_LEAVE_BUDGET_RUN_MW, 12000),
    (PWR_LEAVE_BUDGET_BASE_MW, 4000),
    (PWR_LEAVE_COST0_TRAIN_MW, 1200),
    (PWR_LEAVE_COST0_PHY_MW, 1500),
    (PWR_LEAVE_COST1_PROG_MW, 90),
    (PWR_LEAVE_COST1_ERASE_MW, 80),
    (PWR_LEAVE_COST1_STRIPE_MW, 300),
    (CFG_TRIAL_MINUTES, 10),
    (WDT_CTRL_EN, 1),
    (WDT_CFG_STAGE2, 100),
    (WDT_CFG_STAGE1, 100),
    (EVR_CFG_REPEAT_S, 1),
    (EVR_CFG_ALERT_SEV, 7),
    (EVR_CFG_MIN_NOR_SEV, 2),
    (EVR_CFG_BB_FLUSH_S, 60),
    (DMC_HASH_BG0_MASK, 33825),
    (DMC_HASH_BG1_MASK, 67650),
    (DMC_HASH_BG2_MASK, 4228),
    (DMC_HASH_BA0_MASK, 8456),
    (DMC_HASH_BA1_MASK, 16912)]

/-- Stated defaults, part 7. -/
def imgDefaults7 : List (Fld × Nat) :=
  [(UMB_VPOWER_P_MW, 60000),
    (UMB_VRATE_B_MBS, 20000)]

/-- Stated defaults of each sequence group (R375). -/
def groupDefaults (g : Nat) : List (Fld × Nat) :=
  [(SUP_GRPg_CFG_DELAY_UP g, 1), (SUP_GRPg_CFG_T_READY g, 10), (SUP_GRPg_CFG2_DELAY_DOWN g, 1), (SUP_GRPg_CFG2_T_OFF g, 20)]

/-- Every stated default. -/
def imgDefaults : List (Fld × Nat) :=
  imgDefaults1 ++ imgDefaults2 ++ imgDefaults3 ++ imgDefaults4 ++ imgDefaults5 ++ imgDefaults6 ++ imgDefaults7 ++
    ((List.range 8).map groupDefaults).flatten

end Sys2Proof.Machine.Reg
end

