-- ==== Sys2Proof/Machine/RestoreOps.lean ====
section
/-! DEFINITION. Restore (R118–R131, R164, R309–R311): the basis, the map build, poison, the pair's result, the Grotto
format, fetches. -/

namespace Sys2Proof.Machine

/-- The record of a list with the highest key. -/
def greatest {α : Type} (k : α → Nat) : List α → Option α
  | [] => none
  | h :: t => some (t.foldl (fun b x => if k b < k x then x else b) h)

/-- The newest open record that can be read (R119, R160). -/
def State.newestOpen (s : State) : Option OpenRecord :=
  greatest (fun (o : OpenRecord) => o.recSeq) (s.grt.opens.filter (fun o => s.grt.readable s.recEnv .opened o.recSeq))

/-- The newest seal that the seal search finds of a vault (R119, R160). -/
def State.sealSearched (s : State) (v : Nat) : Option Seal :=
  greatest (fun (x : Seal) => x.recSeq) (s.grt.seals.filter (fun x => x.vault == v && s.grt.readable s.recEnv .seal x.recSeq))

/-- The readable seal of a vault (R118, R119): a fast restore reads it at the location in the AON save area. DESIGN CHOICE:
where that page cannot be read, the search is made. -/
def State.sealOf (s : State) (v : Nat) : Option Seal :=
  if s.flag Reg.PWR_AON_AON_LOST then s.sealSearched v
  else
    match s.grt.aonSeal.bind s.grt.recAt with
    | some p => if p.bad || p.body != .seal then s.sealSearched v
        else s.grt.seals.find? (fun x => x.recSeq == p.seq && x.vault == v)
    | none => s.sealSearched v

/-- The manifest stripes of a vault. -/
def State.manStripes (s : State) (v : Nat) : List Stripe :=
  (s.grt.stripes.map s.deviceView).filter (fun x => x.vault == v && (match x.payload with
    | .manifest _ _ => true
    | .data _ | .poisons _ => false) && decide (x.missing.length ≤ 1))

/-- The entries of a vault's manifest that can be read; a rewritten stripe counts once. -/
def State.manEntries (s : State) (v : Nat) : List Nat :=
  mergeAsc [] (((s.manStripes v).map (fun x => match x.payload with
    | .manifest _ es => es.map s.entryGran
    | .data _ | .poisons _ => [])).flatten)

/-- The manifest info block of a vault. -/
def State.manInfo (s : State) (v : Nat) : Option ManInfo :=
  match s.manStripes v with
  | x :: _ => (match x.payload with
    | .manifest i _ => some i
    | .data _ | .poisons _ => none)
  | [] => none

/-- The manifest was written complete (R149). -/
def State.manComplete (s : State) (v : Nat) : Bool :=
  match s.manInfo v with
  | some i => (s.manEntries v).length == i.total
  | none => false

/-- The basis of the restore (R119): 1 complete vault, 2 incomplete with its manifest, 3 without, 6 empty cache. -/
def State.basis (s : State) : Nat :=
  let v := s.newestVault
  match s.newestOpen with
  | none => if (s.sealOf v).isSome then 1 else 3
  | some o =>
    if o.follows < v then
      if (s.sealOf v).isSome then 1 else if s.manComplete v then 2 else 3
    else if o.kind = 0 ∧ o.startNo = s.grt.startNo then 6
    else 3

/-- The path of R118 that a start takes, as VLT_OUTCOME.PATH shows it: AON lost is a cold restore. -/
def State.restorePath (s : State) : Nat :=
  if s.flag Reg.SYS_STATUS_SAFE then 3 else if s.flag Reg.PWR_AON_AON_LOST then 2 else 1

/-- A channel's seal group has moved (R151, R176). -/
def State.recordMoved (s : State) : Bool := [0, 4, 8, 12].any (fun c => (s.grottoLuns c).isEmpty)

/-- The seal channel of the group that starts at channel `c` (R151). -/
def State.sealChannel (s : State) (c : Nat) : Option Nat :=
  [c, c + 1, c + 2, c + 3].find? (fun k => !(s.grottoLuns k).isEmpty)

/-! Format (R172). -/

/-- The role of a Grotto block at a format (R141, R151): on the lowest LUN of each seal channel the first two usable blocks
are record blocks and the next two black-box blocks. -/
def State.formatRecords (s : State) : State :=
  [0, 4, 8, 12].foldl (fun t c =>
    match t.sealChannel c with
    | none => t
    | some ch =>
      match t.grottoLuns ch with
      | [] => t
      | lun :: _ =>
        let ok := ((List.range 32).filter (fun b => (t.blk lun b).st != .retired)).take 4
        ok.zipIdx.foldl (fun u e =>
          let w := u.setBlk lun e.1 { u.blk lun e.1 with st := if e.2 < 2 then BlkSt.record else BlkSt.blackBox }
          if e.2 < 2 then { w with grt := { w.grt with recs := w.grt.recs ++ [⟨ch, lun, e.1, 0, []⟩] } } else w) t) s

/-- The spares of a channel at a format (R141): SPARE_PCT of its Grotto blocks, rounded up. DESIGN CHOICE: the lowest free
block numbers, LUN by LUN in turn. -/
def State.formatSpares (s : State) (ch : Nat) : State :=
  let luns := s.grottoLuns ch
  let n := s.get Reg.GRT_GEOM_BLOCKS
  let want := ceilDiv (s.get Reg.GRT_CAP_CFG_SPARE_PCT * n * luns.length) 1000
  let cand := ((List.range n).map (fun i => luns.map (fun l => (l, i)))).flatten
  ((cand.filter (fun y => (s.blk y.1 y.2).st == .erased)).take want).foldl (fun t y =>
    t.setBlk y.1 y.2 { t.blk y.1 y.2 with st := .spare }) s

/-- Each group's record blocks begin (R151): a head record of generation 1 and a snapshot in the first, the other erased. The
snapshot holds the erases and the roles of the format. -/
def State.formatHeads (s : State) : State :=
  { s with grt := [0, 4, 8, 12].foldl (fun (g : Grotto) c =>
      match s.sealChannel c with
      | some ch => g.recReady s.recEnv ch (c / 4) 4
      | none => g) s.grt }

/-- Erase every Grotto block of a LUN for a format (R172 step 1): counts rise, retired blocks stay retired, and one that
reaches the wear limit retires (R168). -/
def State.formatLun (s : State) (lun : Nat) : State :=
  let s1 := s.setLun lun { s.lun lun with pfail := 0, wps := [] }
  (List.range (s.get Reg.GRT_GEOM_BLOCKS)).foldl (fun t b =>
    let v := t.blk lun b
    if v.st = .retired then t
    else if s.wornOut v.worn then
      (t.setBlk lun b ⟨.retired, 0, v.worn, false, false⟩).incSat Reg.GRT_RETIRE_RETIRED 1
    else t.setBlk lun b ⟨.erased, 0, v.worn, false, false⟩) s1

/-- The erases of a format are journalled (R163, R172 step 1): an ERASE_START entry for each block, on flash where record blocks
exist. -/
def State.formatJournal (s : State) (luns : List Nat) : State :=
  let es := (luns.map (fun l => ((List.range (s.get Reg.GRT_GEOM_BLOCKS)).filter (fun b => (s.blk l b).st != .retired)).map
    (fun b => JEnt.mk 1 l 0 b (s.blk l b).worn (s.secs % 2 ^ 32)))).flatten
  { s with grt := ({ s.grt with staged := s.grt.staged ++ es } : Grotto).journalAll s.recEnv }

/-- GROTTO_BLOCKS at a format (R173): the image's value takes effect at the first format, and later only where the Ledger
namespace too has been formatted and holds nothing (DESIGN CHOICE for 'together with'). -/
def State.takeBlocks (s : State) : State :=
  let cur := s.get Reg.GRT_GEOM_BLOCKS
  let img := (s.boot.running.bind (fun i => mget i.fields Reg.GRT_GEOM_BLOCKS.key)).getD cur
  let b := if s.grt.blocksIn = 0 ∨ s.grt.ledger.blocks = [] then img else cur
  ({ s with grt := { s.grt with blocksIn := b } } : State).put Reg.GRT_GEOM_BLOCKS b

/-- 24 hours of fill in bytes (R84). -/
def State.bucketCap (s : State) : Nat := s.umb.fill * 86400

/-- The bucket is full (R84, R100). -/
def State.fullBucket (s : State) : State := s.put Reg.UMB_ENDUR_LEVEL_LEVEL s.bucketCap

/-- The devices of a format (R172 steps 1 and 2, R210): every Grotto block is journalled and erased, the roles are assigned,
DEAD and REFUSED LUNs are forgotten, the stored identities are those in service. -/
def State.formatMedia (s : State) : State :=
  let ls := s.flc.luns.filter (fun e => e.2.st == .active || e.2.st == .writeOut)
  let s0 := ((s.formatJournal (ls.map (fun e => e.1))).takeBlocks).put Reg.GRT_RETIRE_RETIRED 0
  let s1 := ls.foldl (fun t e => t.formatLun e.1) { s0 with grt := { s0.grt with recs := [], opens := [], seals := [] } }
  let s2 := channels16.foldl State.formatSpares s1.formatRecords
  let s3 := { s2 with
    grt := { s2.grt with
      stripes := [], flights := [], bands := [], rotation := 0, formatted := true, aonSeal := none, aonWps := [],
      staged := [], journal := [], gc := none, openFails := 0, capRo := false }
    flc := { s2.flc with
      luns := mmap (fun _ (l : Lun) => if l.st = LunSt.dead ∨ l.st = LunSt.refused then Lun.none else l) s2.flc.luns,
      ids := ls.map (fun (e : Nat × Lun) => (e.1, (e.2.readId, e.2.uid))),
      idsNor := s2.flc.idsNor.write (ls.map (fun (e : Nat × Lun) => (e.1, (e.2.readId, e.2.uid)))) }
    evr := { s2.evr with bb := [] } }
  s3.formatHeads.bbSync

/-- A Grotto format up to its open record (R172 steps 1 to 4; R77, R84, R171, R187, R471, R502). -/
def State.formatGrotto (s : State) : State :=
  let s2 := s.formatMedia
  let k := s2.fresh 512
  let s3 := k.2
  let s4 := { s3 with
    grt := { s3.grt with key := k.1 },
    cache := { s3.cache with grans := [], map := [], inflight := [] },
    pmr := { s3.pmr with poison := [], merge := [], nextSeq := 1, epoch := 0, peerEpoch := 0, restOwnSeq := 0,
                          restOwnEpoch := 0, restMirSeq := 0, restMirEpoch := 0 },
    umb := { s3.umb with wanted := true } }
  let s5 := (((s4.put Reg.GRT_SERIAL_NEXT 1).put Reg.GRT_SESSION_SESSION 0).put Reg.GRT_STATUS_CAP_RO 0).clearCond 0x10
  let s6 := ((s5.incWrap Reg.GRT_KEY_KEY_GEN 1).put Reg.GRT_KEY_VALID 1).put Reg.VLT_VAULT_NUM_NUM 0
  let f := if s6.umb.fillAt.isNone then s6.fillRate else s6.umb.fill
  let s7 := (({ s6 with umb := { s6.umb with fill := f } } : State).put Reg.UMB_STATUS_COLD_CAP 1).fullBucket.put
    Reg.ECH_SEQ_STORED_SEQ 0
  let s8 := { s7 with grt := { s7.grt with spares := channels16.map s7.channelSpares, spares0 := channels16.map s7.channelSpares } }
  let s9 : State := { s8 with host := { s8.host with smart := { s8.host.smart with errEntries := 0 } } }
  (s9.put Reg.EVR_CLEAR_COUNT 0).grtSync

/-- The start's format (R172): the Format open record follows. -/
def State.startFormat (s : State) : State :=
  let s1 := (s.formatGrotto).put Reg.VLT_OUTCOME_OWN 0
  { s1 with vlt := { s1.vlt with basisOwn := 6, basisMir := 6, openKind := some 0 } }

/-! The map build (R120). -/

/-- The ranges of an open record (R154): those inline, then those of its poison-list stripes that can be read. -/
def State.rangesOf (s : State) (o : OpenRecord) : List PRange :=
  o.ranges ++ ((s.grt.stripes.filter (fun x => o.lists x && decide (x.missing.length ≤ 1))).map (fun x => match x.payload with
    | .poisons rs => rs
    | _ => [])).flatten

/-- The poison list of an open record names a granule (R154). -/
def State.listed (s : State) (o : OpenRecord) (g : Nat) : Option PRange :=
  (s.rangesOf o).find? (fun r => r.owner == s.granOwner g && decide (r.start ≤ s.granIndex g) &&
    decide (s.granIndex g < r.start + r.count))

/-- A version with its place: serial, data page, slot. -/
structure Placed where
  ver    : GVer
  serial : Nat
  page   : Nat
  slot   : Nat
  vault  : Nat
  ok     : Bool
deriving DecidableEq, Repr

/-- What the scan sees of a stripe (R118, R121): the pages in blocks with a summary, and in open blocks the headers read,
which a fast restore reads only up to the saved write pointers. -/
def State.seen (s : State) (x : Stripe) : Stripe :=
  if s.flag Reg.PWR_AON_AON_LOST then x
  else
    match s.grt.bands.find? (fun b => b.num == x.band) with
    | none => x
    | some b =>
      let read (p : Nat) : Bool := b.sums.contains p ||
        (match lget b.blocks p none with
         | some y => (match mget s.grt.aonWps y.1 with
           | some w => w.1 == y.2 && decide (x.page < w.2)
           | none => false)
         | none => false)
      { x with layout := x.layout.filter read }

/-- The stripes that the map builder takes (R120): none after the basis vault's last stripe in its session, none that a
seal lists as superseded. -/
def State.mapStripes (s : State) : List Stripe :=
  let sup := ((s.grt.seals.filter (fun x => s.grt.readable s.recEnv .seal x.recSeq)).map (fun x => x.superseded)).flatten
  let cut (x : Stripe) : Bool :=
    if s.vlt.basisOwn = 1 then
      match s.sealOf s.newestVault with
      | some r => decide (x.session < r.session) || decide (x.serial ≤ Nat.max r.dataLast r.manLast)
      | none => true
    else true
  ((s.grt.stripes.filter (fun x => cut x && !sup.contains x.serial)).map (fun x => s.seen (s.deviceView x))).filter
      (fun x => x.layout != [])

/-- The versions of a stripe. -/
def State.placedOf (_s : State) (x : Stripe) : List Placed :=
  ((List.range 15).map (fun d => (x.pageVers d).map (fun e => Placed.mk e.2 x.serial d e.1 x.vault (x.readable d)))).flatten

/-- Is version `b` newer than `a` for its granule (R120)? -/
def State.newer (s : State) (a b : Placed) : Bool :=
  if a.ver.seq ≠ b.ver.seq then decide (a.ver.seq < b.ver.seq)
  else
    let inForce := match s.newestOpen with
      | some o => (s.listed o (s.verGran b.ver)).isSome
      | none => false
    if a.ver.poison ≠ b.ver.poison ∧ !inForce then a.ver.poison
    else decide (a.serial < b.serial)

/-- Choose each granule's newest version (R120); a version of the wrong owner is ignored and recorded at severity 6. -/
def State.chooseVers (s : State) : NMap Placed × Nat :=
  (s.mapStripes.foldl (fun acc x => (s.placedOf x).foldl (fun a p =>
    if !s.pair && p.ver.owner != s.owner then (a.1, a.2 + 1)
    else
      let g := s.verGran p.ver
      match mget a.1 g with
      | some q => if s.newer q p then (mset a.1 g p, a.2) else a
      | none => (mset a.1 g p, a.2)) acc) ([], 0))

/-- The granules that R51 poisons, with the reason (1 incomplete vault, 2 no manifest). -/
def State.r51 (s : State) (best : NMap Placed) : List (Nat × Nat) :=
  let v := s.newestVault
  let part (basis lo n : Nat) : List (Nat × Nat) :=
    if basis = 3 then (List.range n).map (fun i => (lo + i, 2))
    else if basis = 2 then
      let carried := ((s.manInfo v).map (fun i => i.carried)).getD []
      ((s.manEntries v).filter (fun g => decide (lo ≤ g) && decide (g < lo + n) &&
        (match mget best g with
         | some p => !(p.vault == v || carried.contains p.serial)
         | none => true))).map (fun g => (g, 1))
    else []
  part s.vlt.basisOwn 0 s.ownGrans ++
    (if s.pair then part s.vlt.basisMir s.ownGrans (s.cacheGrans - s.ownGrans) else [])

/-- What the chosen version of a granule makes of it (R120, R123): poison mask and reason, if it is poisoned. -/
def State.verPoison (s : State) (g : Nat) (p : Option Placed) : Option Poison :=
  let ofList := match s.newestOpen with
    | some o =>
      match s.listed o g with
      | some r => if (match p with
          | some q => decide (q.serial < o.serialAt)
          | none => true) then some (Poison.mk (if r.count = 1 then r.mask else 0) r.reason) else none
      | none => none
    | none => none
  match p with
  | some q =>
    if !q.ok then some ⟨0, 3⟩
    else if q.ver.poison then some ⟨q.ver.mask, (ofList.map (fun x => x.reason)).getD 3⟩
    else ofList
  | none => ofList

/-- Enter the map and the granule states from the chosen versions (R120, R158). -/
def State.enterMap (s : State) (best : NMap Placed) : State :=
  let marks := match s.newestOpen with
    | some o => ((s.rangesOf o).map (fun r => (List.range r.count).map (fun i => s.granOf r.owner (r.start + i)))).flatten
    | none => []
  let s1 := best.foldl (fun t e =>
    let st : MapSt := .notCopied
    (t.setEnt e.1 ⟨st, some (e.2.serial, e.2.page, e.2.slot), false, false⟩).setGran e.1
      ⟨false, true, e.2.ver.seq, e.2.ver.epoch⟩) { s with cache := Cache.init }
  let cand := mergeAsc (best.map (fun e => e.1)) marks
  let s2 := cand.foldl (fun t g => match s.verPoison g (mget best g) with
    | some p => t.poison g p.mask p.reason
    | none => t) s1
  (s.r51 best).foldl (fun t e => if (mget t.pmr.poison e.1).isSome then t else t.poison e.1 0 e.2) s2

/-- The later of two epochs (R41). -/
def laterEpoch (a b : Nat) : Nat :=
  let d := (b + 2 ^ 32 - a % 2 ^ 32) % 2 ^ 32
  if 0 < d ∧ d < 2 ^ 31 then b else a

/-- The latest epoch of a list (R41). -/
def latestEpoch : List Nat → Option Nat
  | [] => none
  | e :: t => some (t.foldl laterEpoch e)

/-- The epoch that an incomplete vault continues from (R42): the later of the highest on flash for the owner and the newest open
record's. -/
def State.flashEpoch (s : State) (best : NMap Placed) (o : Owner) : Nat :=
  let flash := latestEpoch ((best.filter (fun e => e.2.ver.owner == o)).map (fun e => e.2.ver.epoch))
  let op := s.newestOpen.map (fun r => if o = .a then r.epochA else r.epochB)
  match flash, op with
  | some e, some p => laterEpoch p e
  | some e, none => e
  | none, p => p.getD 0

/-- Last sequence of an owner's region as the restore finds it, and the epoch there: the seal's, the manifest's, or for a vault
that recorded neither the highest that is known (R40, R42). -/
def State.restoredSeq (s : State) (best : NMap Placed) (basis : Nat) (o : Owner) : Nat × Nat :=
  let mine := best.filter (fun e => e.2.ver.owner == o)
  let top := (mine.map (fun e => e.2.ver.seq)).foldl Nat.max 0
  let ep := s.flashEpoch best o
  let opSeq := (s.newestOpen.map (fun r => (if o = .a then r.seqA else r.seqB) - 1)).getD 0
  if basis = 6 then (0, 0)
  else if basis = 1 then
    match s.sealOf s.newestVault with
    | some r => (if o = .a then r.seqA else r.seqB, if o = .a then r.epochA else r.epochB)
    | none => (top, ep)
  else if basis = 2 then
    match s.manInfo s.newestVault with
    | some i => (if o = .a then i.seqA else i.seqB, if o = .a then i.epochA else i.epochB)
    | none => (top, ep)
  else (Nat.max top opSeq, ep)

/-- The next sequence and the epoch with which the own region goes on (R40, R42): the recorded last sequence plus 1, of the seal
or of a complete manifest; where the vault recorded none that can be read, 2³² above the highest known. -/
def State.nextOwn (s : State) (best : NMap Placed) : Nat × Nat :=
  let r := s.restoredSeq best s.vlt.basisOwn s.owner
  (if s.vlt.basisOwn = 3 then r.1 + 2 ^ 32 else r.1 + 1, if s.vlt.basisOwn = 2 then s.flashEpoch best s.owner else r.2)

/-- A VINFO block of one of this member's copies (R309). -/
def State.vblock (s : State) (basis : Nat) (o : Owner) (last : Nat × Nat) : VBlock :=
  { vault := s.newestVault, outcome := if basis = 6 then 0 else basis, manDone := basis == 1 || basis == 2, live := false,
    lastSeq := last.1, epoch := last.2, poisoned := mcount (fun g _ => s.granOwner g == o) s.pmr.poison, digest := s.digest o }

/-- Poisoned granules of the own region. -/
def State.ownPoisoned (s : State) : Nat := mcount (fun g _ => decide (g < s.ownGrans)) s.pmr.poison

/-- The conditions of the own region's result (R49, R52, R123); `alone`: no copy of the peer took part in it. -/
def State.ownConds (s : State) (alone : Bool) : State :=
  let n := s.ownPoisoned
  if n = 0 then s
  else if (alone ∧ s.vlt.basisOwn = 3) ∨ n = s.ownGrans then s.setCond 0x03
  else s.setCond 0x02

/-- The result of the own region is settled: the open record follows; in safe mode none is programmed, and the PMR is
READ_ONLY (R65, R104, R423). -/
def State.restoreSettled (s : State) : State :=
  let s1 := { s with vlt := { s.vlt with waitPeer := false }, ech := { s.ech with needVtab := false } }
  if s1.flag Reg.SYS_STATUS_SAFE ∧ s1.vlt.basisOwn ≠ 6 then ((s1.setPmr .readOnly).startSuccess).copyFinished
  else ({ s1 with vlt := { s1.vlt with openKind := some (if s1.vlt.basisOwn = 6 then 0 else 1) } } : State).syncTurn

/-- A granule is poisoned for a media loss (R123), in the own region or in the mirror region. -/
def State.mediaLost (s : State) (own : Bool) : Bool :=
  s.pmr.poison.any (fun e => decide (e.1 < s.ownGrans) == own && e.2.reason == 3)

/-- The outcome code of a region that a basis gives (R136): a complete vault with a media loss shows 5. -/
def State.outcomeOf (s : State) (own : Bool) (basis : Nat) : Nat :=
  if basis = 6 then 0 else if basis = 1 ∧ s.mediaLost own then 5 else basis

/-- The own region's result is the own copy's (R52), with what the peer's copy gave to it unless `alone`. -/
def State.settleOwnWith (s : State) (alone : Bool) : State :=
  ((s.put Reg.VLT_OUTCOME_OWN (s.outcomeOf true s.vlt.basisOwn)).ownConds alone).restoreSettled

/-- The own copy stands alone (R52, last rows). -/
def State.settleOwn (s : State) : State := s.settleOwnWith true

/-- The peer's copy is complete (R52, R309): a seal, or a live copy. -/
def VBlock.complete (b : VBlock) : Bool := b.outcome == 1 || b.live

/-- The peer holds no copy at all. -/
def VBlock.absent (b : VBlock) : Bool := !b.live && b.outcome == 0

/-- The peer's claims are inconsistent with the own copy (R311). -/
def State.claimsBad (s : State) (own peer : VBlock) : Bool :=
  let d := (own.epoch + 2 ^ 32 - peer.epoch % 2 ^ 32) % 2 ^ 32
  let older : Bool := decide (0 < d) && decide (d < 2 ^ 31)
  (s.vlt.basisOwn == 1 || s.vlt.basisOwn == 2) &&
    ((decide (own.lastSeq < peer.lastSeq) && older) ||
     (own.lastSeq == peer.lastSeq && own.epoch != peer.epoch) ||
     (peer.live && s.vlt.basisOwn == 1 && decide (own.lastSeq < peer.lastSeq)))

/-- Ask for the peer's version table (R310). -/
def State.askVtab (s : State) : State :=
  let s1 := { s with
    vlt := { s.vlt with waitPeer := true }, ech := { s.ech with needVtab := true, vtab := [], vtabNext := 0 } }
  s1.sendVinfo true

/-- Apply R52 to the own region with the peer's VINFO. -/
def State.settlePair (s : State) (own peer : VBlock) : State :=
  if s.claimsBad own peer then ((s.settleOwn).setCond 0x04).misbehave 11 (headerWords fVinfo 0 64 0 0)
  else if peer.absent then s.settleOwn
  else if s.vlt.basisOwn = 1 then
    if !peer.complete then s.settleOwn
    else if own.lastSeq = peer.lastSeq then
      if own.digest = peer.digest then
        if s.ownPoisoned = 0 then s.settleOwn else s.askVtab
      else ((s.settleOwn).setCond 0x04).ev .vlt 0x1003 6 0
    else if own.lastSeq < peer.lastSeq then s.askVtab
    else s.settleOwn
  else s.askVtab

/-- One entry of the peer's version table (R310): the sequence of its chosen version and whether it is poisoned there. A granule
poisoned in the own copy and not in the peer's takes the newer version of the two, or the peer's where that copy is complete
(R52). -/
def State.vtabEntry (s : State) (peer : VBlock) (g : Nat) (seq : Nat) (poisoned : Bool) : State :=
  let own := (s.gran g).seq
  match mget s.pmr.poison g with
  | some p =>
    let clear (t : State) : State := { t with pmr := { t.pmr with poison := mdel t.pmr.poison g },
                                               vlt := { t.vlt with ownBad := mset t.vlt.ownBad g p.reason } }
    if poisoned then s
    else if own < seq ∨ (peer.complete ∧ seq ≠ 0) then (clear s).setEnt g { s.ent g with st := .remote }
    else if peer.complete ∨ (s.ent g).loc.isNone then (clear s).setEnt g MapEnt.none
    else (clear s).setEnt g { s.ent g with st := .notCopied }
  | none => if !poisoned && decide (own < seq) then s.setEnt g { s.ent g with st := .remote } else s

/-- The version table is complete (R310): the result of the own region is settled. The sequence goes on behind the peer's last
one, and behind every one that this member may have assigned, since none is used twice (R40). -/
def State.vtabDone (s : State) (peer : VBlock) : State :=
  if peer.complete then
    let s1 := s.put Reg.VLT_OUTCOME_OWN 4
    let s2 := { s1 with pmr := { s1.pmr with
      nextSeq := Nat.max s1.pmr.nextSeq (peer.lastSeq + 1), epoch := peer.epoch, restOwnSeq := peer.lastSeq,
      restOwnEpoch := peer.epoch } }
    let s3 := if s.vlt.basisOwn = 1 then s2 else s2.setCond 0x01
    (s3.ownConds false).restoreSettled
  else s.settleOwnWith false

/-- A version table chunk received (R301 code 10, R310, R311). `start` is its first granule index. -/
def State.rxVtab (s : State) (start : Nat) (entries : List (Nat × Bool)) (hdr : List Nat) : State :=
  match s.ech.vinfoPeer with
  | none => s.misbehave 10 hdr
  | some blocks =>
    let peer := blocks.2
    if !s.ech.needVtab || start != s.ech.vtabNext then s.misbehave 10 hdr
    else if entries.any (fun e => decide (peer.lastSeq < e.1)) then
      let s1 := { s with ech := { s.ech with needVtab := false } }
      (s1.settleOwn.setCond 0x04).misbehave 11 hdr
    else
      let s1 := entries.zipIdx.foldl (fun t e => t.vtabEntry peer (start + e.2) e.1.1 e.1.2) s
      let next := start + entries.length
      let tab := entries.zipIdx.foldl (fun m e => if e.1.1 = 0 then m else mset m (start + e.2) e.1.1) s1.ech.vtab
      let s2 := { s1 with ech := { s1.ech with vtabNext := next, vtab := tab } }
      if s2.ownGrans ≤ next then s2.vtabDone peer else s2

/-- Send the version table of the peer's region (R310): chunks of 64 entries in ascending order. -/
def State.sendVtab (s : State) : State :=
  let n := s.cacheGrans - s.ownGrans
  (List.range (ceilDiv n 64)).foldl (fun t i =>
    let es := ((List.range 64).map (fun j => 64 * i + j)).filter (fun k => decide (k < n))
    let word (k : Nat) : Nat :=
      let g := s.ownGrans + k
      (s.gran g).seq % 2 ^ 63 + b2n (mget s.pmr.poison g).isSome * 2 ^ 63
    t.frame fVtab 0 (64 * i) ((es.map (fun k => natLe (word k) 8)).flatten)) s

/-- The own region's result once this member's map is built (R52, R65): without a complete own vault a pair member waits for
the peer's copy. -/
def State.settle (s : State) : State :=
  if !s.pair || s.flag Reg.SYS_STATUS_SAFE then s.settleOwn
  else
    match s.ech.vinfoOwn, s.ech.vinfoPeer with
    | some o, some p => s.settlePair o.1 p.2
    | _, _ =>
      if s.vlt.basisOwn = 1 ∧ s.ownPoisoned = 0 then s.settleOwn
      else { s with vlt := { s.vlt with waitPeer := true } }

/-! Block states at a restore (R122, R157, R160, R164). -/

/-- The band and position that hold a block. -/
def State.bandAt (s : State) (k : Nat) : Option Band :=
  s.grt.bands.find? (fun b => lget b.blocks (k / 65536 % 16) none == some (k / 65536, k % 65536))

/-- A block holds a valid summary, or a valid header on its page 0 (R164). -/
def State.headed (s : State) (k : Nat) : Bool :=
  let p := k / 65536 % 16
  match s.bandAt k with
  | some b => b.sums.contains p ||
      s.grt.stripes.any (fun x => x.band == b.num && x.page == 0 && x.layout.contains p && !x.lost.contains p)
  | none => false

/-- A block holds pages of stripes. -/
def State.written (s : State) (k : Nat) : Bool :=
  match s.bandAt k with
  | some b => s.grt.stripes.any (fun x => x.band == b.num && x.layout.contains (k / 65536 % 16))
  | none => false

/-- What a scan makes of a block (R164): its state, and whether it is erased again before use. A record or black-box block
is, when its newest entry is ERASE_START or its page 0 is neither erased nor valid. Where neither the snapshot nor the
journal knows the block, its state is unknown. -/
def State.classify (s : State) (r : Replay) (k : Nat) : BlkSt × Bool :=
  let v := mgetD r.tbl k ⟨.unknown, 0, 0, false, false⟩
  let half := (s.blk (k / 65536) (k % 65536)).half
  let start : Bool := mget r.last k == some 1
  if v.st = .retired then (.retired, false)
  else if v.st = .record ∨ v.st = .blackBox then (v.st, half || start)
  else if s.headed k then (.inBand, false)
  else (if v.st = .spare then .spare else .erased, half || start || s.written k || v.st == .unknown)

/-- Enter the states of a scan (R164): bands keep the blocks that are theirs; the others are usable, or are erased again
first, and one of `failed` whose re-erase fails retires with reason 5. -/
def State.reErase (s : State) (differ : List JEnt) (failed : List Nat) : State :=
  let aon := if s.flag Reg.PWR_AON_AON_LOST then [] else s.grt.staged
  let r := s.grt.replay s.recEnv aon differ
  let keys := (mergeAsc (s.grt.tbl.map (fun e => e.1)) (r.tbl.map (fun e => e.1))).filter (fun k => s.recEnv.luns.contains (k / 65536))
  let found := keys.map (fun k => (k, s.classify r k))
  let s1 := found.foldl (fun (t : State) x =>
    let v := mgetD r.tbl x.1 (t.blk (x.1 / 65536) (x.1 % 65536))
    let u := t.setBlk (x.1 / 65536) (x.1 % 65536)
      { v with st := x.2.1, half := x.2.2, refresh := (t.blk (x.1 / 65536) (x.1 % 65536)).refresh }
    if x.2.1 = .inBand then u else u.dropPages (x.1 / 65536) (x.1 % 65536)) s
  let again := (found.filter (fun x => x.2.2)).map (fun x => (x.1, x.2.1))
  let s2 := again.foldl (fun (t : State) x => t.eraseNow (x.1 / 65536) (x.1 % 65536) x.2 (!failed.contains x.1) 5) s1
  let s3 : State := { s2 with grt := { s2.grt with
    bands := (s2.grt.bands.filter (fun b => b.blocks.any (fun y => y.isSome))).map (fun (b : Band) => { b with closed := true }) } }
  s3.put Reg.GRT_SCAN_HALF_ERASED (Nat.min 65535 again.length)

/-- The scan's findings (R122, R132, R157, R164): the pages that cannot be read, the kind of scan and its duration, the
headers read for far entries, the blocks whose headers disagree with their summary, the half-erased blocks erased again. -/
def State.scanned (s : State) (ms : Nat) (lost : List (Nat × Nat)) (badSums far : Nat) (clash : List Nat) (differ : List JEnt)
    (failed : List Nat) : State :=
  let s1 := lost.foldl (fun t e => t.updStripe e.1 (fun x =>
    if x.lost.contains e.2 then x else { x with lost := x.lost ++ [e.2] })) s
  let closed := ((s1.grt.bands.filter (fun b => b.closed)).map (fun b => b.sums.length)).foldl (· + ·) 0
  let full : Bool := s1.flag Reg.VLT_CFG_FULL_SCAN_NEXT || decide (closed < badSums * 20) ||
    !((s1.grt.foundPages s1.recEnv).any (fun p => p.body == .seal))
  let s2 := ((s1.putB Reg.VLT_STATUS_FULL_SCAN full).putB Reg.VLT_STATUS_BLOCK_FALLBACK
    (decide (0 < badSums) || !clash.isEmpty)).put Reg.VLT_RST_TIME_SCAN_MS (Nat.min 65535 ms)
  let s3 := clash.foldl (fun (t : State) k => t.ev .grt 0x1001 6 (k % 65536)) s2
  ((if full then s3.put Reg.VLT_CFG_FULL_SCAN_NEXT 0 else s3).put Reg.GRT_SCAN_FAR_READS (Nat.min 65535 far)).reErase differ failed

/-- The map entered from the versions on flash (R120), with the sequences and epochs that follow from them (R40, R42, R309). -/
def State.mapEntered (s : State) : State :=
  let ch := s.chooseVers
  let s4 := (if 0 < ch.2 then s.ev .vlt 0x1004 6 0 else s).enterMap ch.1
  let own := s4.nextOwn ch.1
  let rd := s4.restoredSeq ch.1 s4.vlt.basisOwn s4.owner
  let mir := s4.restoredSeq ch.1 s4.vlt.basisMir s4.owner.other
  let s5 := { s4 with
    pmr := { s4.pmr with nextSeq := own.1, epoch := own.2, peerEpoch := mir.2, restOwnSeq := rd.1, restOwnEpoch := own.2,
                          restMirSeq := mir.1, restMirEpoch := mir.2, copyDone := false } }
  let s6 := (s5.put Reg.ECH_SEQ_STORED_SEQ (if s5.pair then mir.1 else 0)).put Reg.VLT_OUTCOME_MIRROR
    (if s5.pair then s5.outcomeOf false s5.vlt.basisMir else 0)
  { s6 with ech := { s6.ech with
    vinfoOwn := some (s6.vblock s6.vlt.basisOwn s6.owner rd, s6.vblock s6.vlt.basisMir s6.owner.other mir) } }

/-- MAP_BUILD_COMPLETE's effect (R120–R124, R157, R160, R164): `lost` lists the pages (serial, position) that cannot be read,
`badSums` counts the closed blocks with an unusable summary, `far` the headers read for far or poisoned entries, `clash`
lists the blocks whose headers disagree with their summary, `differ` the entries that only one copy of a journal page holds,
`failed` the blocks whose re-erase failed, `openMs` the time since the restore phase began, which is latched where the PMR
leaves CLOSED without an open record (R139, R423). -/
def State.mapBuilt (s : State) (ms : Nat) (lost : List (Nat × Nat)) (badSums far : Nat) (clash : List Nat) (differ : List JEnt)
    (failed : List Nat) (openMs : Nat) : State :=
  let s1 := (s.scanned ms lost badSums far clash differ failed).mapEntered
  let s2 := (s1.vinfoTurn.grtSync).settle
  if s2.pmr.st == .readOnly then s2.put Reg.VLT_RST_TIME_OPEN_MS (Nat.min 65535 openMs) else s2

/-- After a cold start with AON lost the timing and count registers come from the newest seal (R132). -/
def State.sealTimes (s : State) : State :=
  match (if s.flag Reg.PWR_AON_AON_LOST then s.sealOf s.newestVault else none) with
  | some r =>
    let s1 := ((s.put Reg.VLT_T_EARLY_CLOSE_NS r.tClose).put Reg.VLT_T_EARLY_DRAIN_NS r.tDrain).put Reg.VLT_T_FIRST_FIRST_NS r.tFirst
    let s2 := ((s1.put Reg.VLT_T_SEAL_SEAL_US r.tSeal).put Reg.VLT_GRANULES_COUNT r.granules).put Reg.VLT_STRIPES_COUNT r.stripes
    ((s2.put Reg.VLT_FAULTS_DEGRADED r.degraded).put Reg.VLT_FAULTS_REWRITTEN r.rewritten).put Reg.VLT_FAULTS_LUNS_OUT r.lunsOut
  | none => s

/-- What the seal search reads (R119, R160): record pages that cannot be read (LUN, block, page), and whether copies of one
record differ, which is recorded; the copy of the lowest group, which the logs of seals and open records hold, counts. -/
def State.searchRead (s : State) (bad : List (Nat × Nat × Nat)) (differ : Bool) : State :=
  let recs := s.grt.recs.map (fun (b : RecBlock) => { b with pages := b.pages.zipIdx.map (fun x =>
    if bad.contains (b.lun, b.block, x.2) then { x.1 with bad := true } else x.1) })
  let s1 : State := { s with grt := { s.grt with recs := recs } }
  if differ then s1.ev .grt 0x1002 6 0 else s1

/-- SEAL_SEARCH_COMPLETE's effect (R118, R119, R172, R502): the basis of each region; an incomplete one counts as an unsafe
shutdown. Without a record block a start formats, in
safe mode restores with everything poisoned, or fails. -/
def State.sealSearch (s : State) : State :=
  let s1 := ((s.put Reg.VLT_STATUS_PHASE 7).put Reg.VLT_OUTCOME_PATH s.restorePath).putB Reg.GRT_STATUS_RECORD_MOVED s.recordMoved
  let s2 := (s1.put Reg.VLT_VAULT_NUM_NUM s1.newestVault).sealTimes
  if s2.grt.formatted then
    let b := s2.basis
    let s3 : State := { s2 with vlt := { s2.vlt with basisOwn := b, basisMir := b } }
    if b = 2 ∨ b = 3 then
      { s3 with host := { s3.host with smart := { s3.host.smart with unsafeDowns := s3.host.smart.unsafeDowns + 1 } } }
    else s3
  else if s2.flag Reg.SYS_STATUS_SAFE then { s2 with vlt := { s2.vlt with basisOwn := 3, basisMir := 3 } }
  else if (s2.boot.running.map (fun i => i.firstFormat)).getD false && s2.grt.stripes.isEmpty then s2.startFormat
  else s2.startFails 7

/-- PEER_WAIT_EXPIRY's effect (R65, R309): the copies available decide, and the result is fixed. -/
def State.peerWaitOver (s : State) : State :=
  if s.vlt.waitPeer then
    ({ s with vlt := { s.vlt with fixed := true, waitPeer := false }, ech := { s.ech with needVtab := false } } : State).settleOwn
  else s

/-- A VINFO frame received (R309, R310): it settles a restore that waits for it, and it may ask for the version table. -/
def State.rxVinfo (s : State) (need : Bool) (own mirror : VBlock) : State :=
  let s1 := { s with ech := { s.ech with vinfoPeer := some (own, mirror) } }
  let s2 := if need then s1.sendVtab else s1
  match s2.ech.vinfoOwn with
  | some o => if s2.vlt.waitPeer && !s2.vlt.fixed && !s2.ech.needVtab then s2.settlePair o.1 mirror else s2.syncTurn
  | none => s2.syncTurn

/-! Fetches (R125–R128). -/

/-- The peer holds a complete copy of the own region that this restore may use (R123). -/
def State.peerHas (s : State) : Bool :=
  s.sessionUp && !s.vlt.fixed && (match s.ech.vinfoPeer with
    | some b => b.2.complete
    | none => false)

/-- A media loss of a granule's newest version (R123): its region is reported as an incomplete vault. -/
def State.mediaLoss (s : State) (g : Nat) : State :=
  let own := decide (g < s.ownGrans)
  let f := if own then Reg.VLT_OUTCOME_OWN else Reg.VLT_OUTCOME_MIRROR
  let s1 := if s.get f = 2 ∨ s.get f = 3 then s else s.put f 5
  if own then s1.setCond (if s1.ownPoisoned = s1.ownGrans then 0x03 else 0x02) else s1

/-- A granule has its content: what waited for it goes on - granule requests, forwarded reads, mirror writes, the dump. -/
def State.fetchFollows (s : State) : State :=
  let s1 := ((s.pumpGreqs).pumpForwards).pumpMirror
  (if s1.vaulting then s1.vaultPump else s1).copyFinished

/-- A fetch from the member's own flash has ended (R125): data in DRAM, held writes applied, waiting reads completed. What cannot
be read comes from the peer's complete copy, else it is a media loss (R123). -/
def State.fetchDone (s : State) (g : Nat) (ok : Bool) : State :=
  let e := s.ent g
  if s.granFrozen g ∧ !s.vaulting then ((s.setEnt g { e with st := .notCopied, demand := false }).fetchFrozen g).fetchFollows
  else
  match (if ok then s.verOf g else none) with
  | some v => ((((s.writeGranule g).setGranImage g v.data).setEnt g { e with st := .copied, demand := false }).settleGran g).fetchFollows
  | none =>
    if g < s.ownGrans ∧ s.peerHas ∧ !s.vaulting then
      (s.setEnt g { e with st := .remote }).startFetch g (e.st == .fetching && e.demand)
    else (((s.poison g 0 3).settleGran g).mediaLoss g).fetchFollows

/-- The background copy has come to this granule (R126): every granule below it that is to be copied has been reached. -/
def State.copyTurn (s : State) (g : Nat) : Bool :=
  mcount (fun k (e : MapEnt) => decide (k < g) && (e.st == .notCopied || e.st == .remote)) s.cache.map == 0

/-- GRANULE_FETCH_COMPLETE's effect (R125, R126, R312): a granule in FETCHING from flash ends its fetch. The granule that the
background copy has reached, own region first and in ascending index, is fetched in the same command: from flash, from the peer
while the horizon admits it, or as zeros. -/
def State.granuleFetch (s : State) (g : Nat) (ok : Bool) (us : Nat) : State :=
  let e := s.ent g
  let paused : Bool := s.flag Reg.VLT_CTRL_COPY_PAUSE || s.vaulting || s.pmr.st == .closed || !s.copyTurn g
  if e.st = .fetching ∧ !e.fromPeer then (if e.demand then s.noteDemand us else s).fetchDone g ok
  else if paused then s
  else if e.st = .notCopied then s.fetchDone g ok
  else if e.st = .remote ∧ s.admits g then s.startFetch g false
  else if e.st = .noVersion ∧ g < s.cacheGrans then s.setEnt g { e with st := .copied }
  else s

end Sys2Proof.Machine
end

