-- ==== Sys2Proof/Machine/LanternOps.lean ====
section
/-! DEFINITION. Lantern's estimator and its board work (R323–R343): the filter, the two bounds, module states, protection,
charging, rest windows, learn cycles, the state kept across starts. -/

namespace Sys2Proof.Machine

/-! Module model (R328, R330). -/

/-- The profile is a capacitor chemistry. -/
def Profile.cap (f : Profile) : Bool := f.chem != 2

/-- Degrees below 25 °C. -/
def below25 (t : Int) : Rat := if t < 25 then ((25 - t : Int) : Rat) else 0

/-- The capacity at a temperature (R328). -/
def Module.ct (m : Module) (f : Profile) : Rat := m.c * (1 - f.kc * below25 m.temp)

/-- The ESR in use at 25 °C (R329). -/
def Module.esr (m : Module) (f : Profile) : Rat :=
  if m.stepCnt < 8 then rmax (2 * f.esrNp) m.stepMax else rtop m.steps

/-- The ESR at the module's temperature (R328). -/
def Module.esrT (m : Module) (f : Profile) : Rat := m.esr f * (1 + f.kr * below25 m.temp)

/-- The vault floor in volts. -/
def State.vFloorV (s : State) : Rat := (s.get Reg.LAN_BUS_CFG_V_FLOOR : Rat) / 1000

/-- The whole bus current at the floor (R328). -/
def State.iVault (s : State) : Rat := (s.get Reg.UMB_VPOWER_P_MW : Rat) / 1000 / s.vFloorV

/-- The voltage at which the module's discharge ends (R328). -/
def State.vEnd (s : State) (m : Module) (f : Profile) : Rat :=
  rmax (s.vFloorV + s.iVault * (m.esrT f + f.rPath)) ((f.cells : Rat) * f.vMin)

/-- A table voltage at the module's temperature: the string's (R330). -/
def Profile.atTemp (f : Profile) (v : Rat) (t : Int) : Rat := (f.cells : Rat) * (v + f.ocvTc * (((t - 25 : Int)) : Rat))

/-- The OCV table of the string at a temperature. -/
def Profile.table (f : Profile) (t : Int) : List Rat := f.ocv.map (fun v => f.atTemp v t)

/-- The open-circuit voltage at a state of charge (R330): linear between the 21 points; beyond them the spec states none. -/
def ocvOf (tab : List Rat) (x : Rat) : Rat :=
  let k := rfloor (x * 20)
  if x < 0 then Config.ocvBeyond (tab.headD 0) x
  else match tab[k]?, tab[k + 1]? with
    | some a, some b => a + (b - a) * (x * 20 - (k : Rat))
    | some a, none => if x = 1 then a else Config.ocvBeyond a x
    | none, _ => Config.ocvBeyond (tab.getLastD 0) x

/-- The slope of the table at a state of charge. At a table point the spec does not say which side. -/
def slopeOf (tab : List Rat) (x : Rat) : Rat :=
  let k0 := rfloor (x * 20)
  let k := if ((k0 : Rat) = x * 20 ∧ Config.roundsUp x) ∨ k0 = 20 then k0 - 1 else k0
  match tab[k]?, tab[k + 1]? with
  | some a, some b => if x < 0 then Config.ocvBeyond 0 x else (b - a) * 20
  | _, _ => Config.ocvBeyond 0 x

/-- The state of charge at a voltage: the lowest at which the table reaches it. -/
def socOf (tab : List Rat) (v : Rat) : Rat :=
  if v < tab.headD 0 then Config.ocvBeyond (tab.headD 0) v
  else
    match (List.range 20).find? (fun k => decide (v ≤ tab.getD (k + 1) 0)) with
    | some k =>
      let a := tab.getD k 0
      let b := tab.getD (k + 1) 0
      if v ≤ a then (k : Rat) / 20 else ((k : Rat) + (v - a) / (b - a)) / 20
    | none => Config.ocvBeyond (tab.getLastD 0) v

/-- The integral of the open-circuit voltage between two states of charge: exact on each piece of the table. -/
def ocvArea (tab : List Rat) (a b : Rat) : Rat :=
  let cuts := ((List.range 21).map (fun (k : Nat) => (k : Rat) / 20)).filter (fun q => decide (a < q) && decide (q < b))
  let pts := a :: (cuts ++ [b])
  if b ≤ a then 0
  else rsum ((pts.zip (pts.drop 1)).map (fun e => (e.2 - e.1) * (ocvOf tab e.1 + ocvOf tab e.2) / 2))

/-- h of R330: the voltage that the state predicts. -/
def Profile.h (f : Profile) (t : Int) (x : Rat) : Rat := if f.cap then x else ocvOf (f.table t) x

/-- Its inverse. -/
def Profile.hinv (f : Profile) (t : Int) (v : Rat) : Rat := if f.cap then v else socOf (f.table t) v

/-- Its slope. -/
def Profile.hd (f : Profile) (t : Int) (x : Rat) : Rat := if f.cap then 1 else slopeOf (f.table t) x

/-- The float target at a temperature (R339). -/
def Profile.target (f : Profile) (t : Int) : Rat :=
  (f.cells : Rat) * (f.vFloat - f.floatTc * (if 40 < t then ((t - 40 : Int) : Rat) else 0))

/-- The voltage accuracy referred to the string (R324, R330). -/
def Profile.sigV (f : Profile) (v : Rat) : Rat := rabs v * 5 / 10000 + (2 : Rat) / 10000 * f.vsRatio

/-- The current accuracy (R330). -/
def Profile.sigI (f : Profile) (i : Rat) : Rat := (2 : Rat) / 1000000 / f.rSh + rabs i / 1000

/-- sr of R330. -/
def Module.sr (m : Module) : Rat := if m.stepCnt < 8 then 1 / 4 else 1 / 10

/-- sz2 of R330. -/
def Module.sz2 (m : Module) (f : Profile) (i v : Rat) : Rat :=
  f.sigV v * f.sigV v + (i * m.sr * m.esrT f) * (i * m.sr * m.esrT f)

/-- Start a module's estimator (R329): a new module, or one whose state is lost. -/
def Module.fresh (m : Module) (f : Profile) (v : Rat) (secs : Nat) : Module :=
  { m with
    c := f.capNp * 8 / 10, sc := 1 / 20, x := f.hinv m.temp v, p := if f.cap then 1 / 4 else 1 / 100, leak := f.leak,
    steps := [], stepMax := 0, stepCnt := 0, prev := none, learned := false, lastLearn := none, lastRest := secs, restMs := 0,
    disMs := 0, agreeMs := 0, lowMs := 0, check := none, reinit := false, awayQ := 0, awayMs := 0, offset := 0 }

/-- Re-initialise the state from the voltage with the variance of R329 (R332). -/
def Module.reinitAt (m : Module) (f : Profile) (v : Rat) : Module :=
  { m with x := f.hinv m.temp v, p := if f.cap then 1 / 4 else 1 / 100, reinit := false }

/-- Coulomb prediction (R330). -/
def Module.predict (m : Module) (f : Profile) (i dt : Rat) : Module :=
  let ct := m.ct f
  let units := if f.cap then ct else 3600 * ct
  let x1 :=
    if f.cap then m.x + (i - m.leak * m.x / ((f.cells : Rat) * f.vFloat)) * dt / ct
    else m.x + (if 0 < i then f.etaChg else 1) * i * dt / (3600 * ct)
  let a := f.sigI i * dt / units
  let b := rabs i * dt * m.sc / units
  { m with x := x1, p := m.p + a * a + b * b }

/-- Measurement update (R330); true when the gate refuses it. -/
def Module.measure (m : Module) (f : Profile) (z sz2 : Rat) (gate : Rat) : Module × Bool :=
  let hd := f.hd m.temp m.x
  let y := z - f.h m.temp m.x
  let sv := hd * hd * m.p + sz2
  if y * y ≤ gate * gate * sv then
    let k := m.p * hd / sv
    ({ m with x := m.x + k * y, p := (1 - k * hd) * m.p }, false)
  else (m, true)

/-- A disagreement sample widens sc (R335). -/
def Module.disagree (m : Module) (dt : Nat) : Module :=
  { m with sc := rmin (1 / 5) (m.sc + 1 / 1000), disMs := m.disMs + dt, agreeMs := 0 }

/-- Keep a step measurement (R329): two consecutive 1 ms samples whose currents differ by at least 0.5 A. -/
def Module.step (m : Module) (f : Profile) (i v : Rat) : Module :=
  match m.prev with
  | none => { m with prev := some (i, v) }
  | some (i0, v0) =>
    let m1 := { m with prev := some (i, v) }
    if rabs (i - i0) < 1 / 2 then m1
    else
      let r := rabs ((v - v0) / (i - i0)) / (1 + f.kr * below25 m.temp)
      { m1 with steps := (r :: m1.steps).take 8, stepMax := rmax m1.stepMax r, stepCnt := m1.stepCnt + 1 }

/-- Bounds of R331 at a given K: energy and charge. -/
def State.bounds (s : State) (m : Module) (f : Profile) (i v k : Rat) : Rat × Rat :=
  let t := m.temp
  let z := v - i * m.esrT f
  let sz := Config.sqrtQ (m.sz2 f i v)
  let hd := f.hd t m.x
  let sv := sz / rabs hd
  let xq := m.x - k * Config.sqrtQ m.p
  let informative : Bool := f.cap || (hd != 0 && decide (sv ≤ 3 / 100))
  let xv := if informative then f.hinv t z - k * sv else f.hinv t (z + k * sz)
  let xg := rmin xq xv
  let cg := m.ct f * (1 - k * m.sc)
  let ve := s.vEnd m f
  let iv := s.iVault
  let r := m.esrT f + f.rPath
  if f.cap then
    (rmax (cg * (xg * xg - ve * ve) / 2 - iv * r * cg * (xg - ve)) 0, rmax (cg * (xg - ve)) 0)
  else
    let se := f.hinv t ve
    (rmax (3600 * cg * (ocvArea (f.table t) se xg - iv * r * (xg - se))) 0, rmax (3600 * cg * (xg - se)) 0)

/-- The module is within its operating range (R331, R341). -/
def Module.inOp (m : Module) (f : Profile) : Bool := decide (f.tOp.1 ≤ m.temp) && decide (m.temp ≤ f.tOp.2)

/-- Store the bounds (R331): 0 outside T_OP. -/
def State.withBounds (s : State) (m : Module) (f : Profile) (i v : Rat) : Module :=
  let a := s.bounds m f i v (s.get Reg.LAN_FILT_CFG_K)
  let b := s.bounds m f i v 0
  if m.inOp f then { m with e := a.1, q := a.2, ePt := b.1, lowMs := 0 } else { m with e := 0, q := 0, ePt := 0, lowMs := 0 }

/-! Readings (R323). -/

/-- The ID code that a pin ratio reads as; none for codes 0 and 15 and for a ratio between bins. -/
def idCodeOf (r : Rat) : Option Nat :=
  if r < 2 / 100 ∨ 97 / 100 < r then none
  else ((List.range 15).drop 1).find? (fun k => decide (((k : Rat) - 4 / 10) / 15 ≤ r) && decide (r ≤ ((k : Rat) + 4 / 10) / 15))

/-- Thermistor loss. -/
def thLost (r : Rat) : Bool := decide (r < 2 / 100) || decide (98 / 100 < r)

/-- The reading that R327 judges: the ID code, none on thermistor loss. -/
def Sample.id (a : Sample) : Option Nat := if thLost a.thR then none else idCodeOf a.idR

/-- The mean current in amperes and the string voltage in volts. -/
def Sample.amps (a : Sample) : Rat := (a.nc : Rat) / 1000000
def Profile.volts (f : Profile) (uv : Int) : Rat := (uv : Rat) / 1000000 * f.vsRatio

/-! Module states (R327). -/

/-- A learn falls due for a port (R336); `first` puts it ahead of every other. -/
def State.learnDue (s : State) (n : Nat) (first : Bool) : State :=
  if s.lan.learn.any (fun l => l.port == n) then s
  else
    let rest := s.lan.due.filter (fun d => d.1 != n)
    let d := if first then (n, s.secs) :: rest
      else if s.lan.due.any (fun d => d.1 == n) then s.lan.due else s.lan.due ++ [(n, s.secs)]
    ({ s with lan := { s.lan with due := d, retry := s.lan.retry.filter (fun k => k != n) } } : State).lanShow

/-- A rehearsal is wanted (R88). -/
def State.wantRehearsal (s : State) : State := { s with umb := { s.umb with wanted := true } }

/-- A module is found on a port (R327): it resumes the state stored for the same profile at a start, else it is new. -/
def State.modFound (s : State) (n i : Nat) (f : Profile) (v : Rat) : State :=
  let m := s.mod n
  let resume : Bool := m.atStart && m.profile == some i
  let m1 := if resume then m else ({ m with profile := some i, learns := [], rests := [] }).fresh f v s.secs
  let s1 := (s.setMod n { m1 with atStart := false, valid := false }).setModSt n mService true true
  let s2 := (s1.put (Reg.LAN_Mn_STATUS_PROFILE n) i).put (Reg.LAN_Mn_STATUS_ID_CODE n) f.idCode
  let s3 := if resume then s2 else (s2.learnDue n false).wantRehearsal
  if m.atStart then s3
  else ((s3.incSat (Reg.LAN_Mn_LEARN_SWAPS n) 1).ev .lan 0x0001 2 n).lanRaise Reg.LAN_STATUS_SWAP_EV

/-- Registers of a port without a module read 0, except STATUS (R348). -/
def State.modBlank (s : State) (n : Nat) : State :=
  let s1 := ((s.put (Reg.LAN_Mn_CURRENT_MA n) 0).put (Reg.LAN_Mn_VT_TEMP n) 0).put (Reg.LAN_Mn_VT_MV n) 0
  let s2 := ((s1.put (Reg.LAN_Mn_CHARGE_MC n) 0).put (Reg.LAN_Mn_ENERGY_MJ n) 0).put (Reg.LAN_Mn_CAP_SIGMA n) 0
  let s3 := ((s2.put (Reg.LAN_Mn_CAP_CAP n) 0).put (Reg.LAN_Mn_ESR_STEPS n) 0).put (Reg.LAN_Mn_ESR_UOHM n) 0
  let s4 := ((s3.put (Reg.LAN_Mn_STATE_SQRT_P n) 0).put (Reg.LAN_Mn_STATE_X n) 0).put (Reg.LAN_Mn_ACCUM_NC n) 0
  let s5 := ((s4.put (Reg.LAN_Mn_REST_LEAK_UA n) 0).put (Reg.LAN_Mn_REST_SINCE_MIN n) 0).put (Reg.LAN_Mn_CHG_TARGET_MV n) 0
  (s5.put (Reg.LAN_Mn_CHG_DUTY n) 0).put (Reg.LAN_Mn_STATUS_LOWCUR n) 0

/-- A module is gone (R327, R338): swap counted, severity 5; a learn that it takes part in is aborted. -/
def State.modLost (s : State) (n : Nat) : State :=
  let st := s.modSt n
  let s1 := if s.lan.learn.any (fun l => l.port == n || (l.step == 2 && st == mStandby)) then s.learnAbort 5 else s
  let s2 := if s1.lan.rest == some n then s1.restCut else s1
  let m := s2.mod n
  let s3 := s2.setMod n { m with valid := false, chgOn := false, e := 0, q := 0, ePt := 0, atStart := false }
  let s4 := ((s3.put (Reg.LAN_Mn_STATUS_STATE n) mAbsent).put (Reg.LAN_Mn_STATUS_FAULT n) 0).modBlank n
  let s5 := ((s4.put (Reg.LAN_Mn_STATUS_ID_CODE n) 0).put (Reg.LAN_Mn_STATUS_DISAGREE n) 0).incSat (Reg.LAN_Mn_LEARN_SWAPS n) 1
  (({ s5 with lan := { s5.lan with due := s5.lan.due.filter (fun d => d.1 != n), retry := s5.lan.retry.filter (fun k => k != n) }
    } : State).ev .lan 0x0002 5 n).lanRaise Reg.LAN_STATUS_SWAP_EV

/-- Judge an ID reading of a port without a module (R327): three equal valid ones find one. -/
def State.judgeAbsent (s : State) (a : Sample) : State :=
  let n := a.port
  let m := s.mod n
  let r := a.id
  let m1 := { m with idLast := r, idCount := if m.idLast = r then m.idCount + 1 else 1 }
  let s1 := s.setMod n m1
  if m1.idCount < 3 then s1
  else
    match r with
    | none => s1.setMod n { m1 with atStart := false }
    | some code =>
      match m1.accepts.find? (fun i => ((mget s.lan.profiles i).map (fun f => f.idCode)) == some code) with
      | some i =>
        match mget s.lan.profiles i with
        | some f => (s1.setMod n { m1 with idCount := 0 }).modFound n i f (f.volts a.uv)
        | none => s1
      | none =>
        let s2 := (s1.setModSt n mRefused false false).setMod n
          { (s1.setModSt n mRefused false false).mod n with atStart := false, idCount := 0 }
        (s2.put (Reg.LAN_Mn_STATUS_ID_CODE n) code).ev .lan 0x1001 5 n

/-- Judge an ID reading of a port with a module (R327): two in a row that do not show its code lose it. -/
def State.judgePresent (s : State) (a : Sample) : State :=
  let m := s.mod a.port
  if a.id = some (s.get (Reg.LAN_Mn_STATUS_ID_CODE a.port)) then s.setMod a.port { m with idLast := a.id, idCount := 0 }
  else
    let s1 := s.setMod a.port { m with idLast := a.id, idCount := m.idCount + 1 }
    if 1 ≤ m.idCount then (s1.modLost a.port).setMod a.port { (s1.modLost a.port).mod a.port with idCount := 0 } else s1

/-- Judge a port's ID reading (R327). -/
def State.judgeId (s : State) (a : Sample) : State :=
  if s.modSt a.port = mAbsent then s.judgeAbsent a else s.judgePresent a

/-! Protection (R341). -/

/-- A port enters FAULT (R341). -/
def State.modFault (s : State) (n code : Nat) (openSwitch : Bool) : State :=
  let s0 := if s.lan.learn.any (fun l => l.port == n || l.step == 2) then s.learnAbort 5 else s
  let s1 := if s0.lan.rest == some n then s0.restCut else s0
  let m := s1.mod n
  let s2 := s1.setMod n { m with causeAt := s1.secs, e := 0, q := 0, ePt := 0, chgOn := false,
                                 disOn := if openSwitch then false else m.disOn }
  (((s2.put (Reg.LAN_Mn_STATUS_STATE n) mFault).put (Reg.LAN_Mn_STATUS_FAULT n) code).ev .lan 0x2001 5 n).lanRaise
    Reg.LAN_STATUS_FAULT_EV

/-- The hardware protection of a port that holds a module (R341). During a vault no rule but the reversed module's opens a
bus switch. -/
def State.protect (s : State) (a : Sample) (f : Profile) : State :=
  let n := a.port
  let m := s.mod n
  let v := f.volts a.uv
  let above : Bool := decide ((f.cells : Rat) * f.vOvp < v)
  let hot : Bool := decide (f.tOp.2 < a.temp)
  let big : Bool := decide (f.iMax < -a.amps)
  let m1 := { m with ovCnt := if above then m.ovCnt + 1 else 0, otCnt := if hot then m.otCnt + 1 else 0,
                     iCnt := if big && !s.vaulting then m.iCnt + 1 else 0, causeAt := if a.uv < 0 ∨ big then s.secs else m.causeAt }
  let s1 := s.setMod n m1
  let s2 := if m1.ovCnt = 2 then s1.ev .lan 0x2002 6 n else s1
  let s3 := if m1.otCnt = 2 then s2.ev .lan 0x2003 4 n else s2
  if s.modSt n = mFault then s3
  else if a.uv < 0 then s3.modFault n 1 true
  else if 10 ≤ m1.iCnt then s3.modFault n 2 true
  else s3

/-! Charging (R339, R340). -/

/-- Is this the learner that charges at I_CHG_MAX (R336)? -/
def State.learnCharges (s : State) (n : Nat) : Bool :=
  s.lan.learn.any (fun l => l.port == n && (l.step == 1 || l.step == 4))

/-- The learner's charger pause of step 2 (R336). -/
def State.learnPauses (s : State) (n : Nat) : Bool := s.lan.learn.any (fun l => l.port == n && l.paused)

/-- Regulate a port's charger (R339, R340). -/
def State.charge (s : State) (n : Nat) (f : Profile) (i v : Rat) : State :=
  let m := s.mod n
  let tgt := f.target m.temp
  let inT : Bool := decide (f.tChg.1 ≤ m.temp) && decide (m.temp ≤ f.tChg.2)
  let inhibit : Bool := !inT || decide (2 ≤ m.ovCnt) || decide (2 ≤ m.otCnt)
  let charging : Bool :=
    if f.cap then true
    else if m.charging then !(decide (tgt - 1 / 100 ≤ v) && decide (i < f.iTerm))
    else decide (m.x < f.rechargeSoc)
  let on : Bool := (s.modSt n == mService) && !inhibit && charging && !s.vaulting && !s.learnPauses n
  let set := if s.learnCharges n || s.deficit then f.iChgMax else f.iChgNorm
  let full := Nat.min 255 (rfloor (set / f.iChgFs * 256))
  let duty := if !on then 0 else if v < tgt * 99 / 100 then full else Nat.min full (Config.chargeDuty n v)
  let s1 := s.setMod n { m with charging := charging, chgOn := on }
  ((s1.put (Reg.LAN_Mn_CHG_DUTY n) duty).putR (Reg.LAN_Mn_CHG_TARGET_MV n) (tgt * 1000)).putB (Reg.LAN_Mn_STATUS_CHG_INHIBIT n)
    inhibit

/-! The sample (R330). -/

/-- The gate of the filter. -/
def State.gate (s : State) : Rat := s.get Reg.LAN_FILT_CFG_GATE

/-- Enter or leave gauge disagreement (R335). -/
def State.judgeGauge (s : State) (n : Nat) : State :=
  let m := s.mod n
  let f := Reg.LAN_Mn_STATUS_DISAGREE n
  if s.flag f then (if 60000 ≤ m.agreeMs then s.put f 0 else s)
  else if 1000 * s.get Reg.LAN_FILT_CFG_DISAGREE_S ≤ m.disMs ∧ 0 < m.disMs then
    (((s.put f 1).ev .lan 0x1002 5 n).lanRaise Reg.LAN_STATUS_DISAGREE_EV).learnDue n true
  else s

/-- One filter update of a module over `dt` seconds (`ms` of them in milliseconds), with the charge of R343 first. -/
def State.filter (s : State) (n : Nat) (f : Profile) (i0 v : Rat) (dt : Rat) (ms : Nat) : State :=
  let m := s.mod n
  let i := i0 - m.offset
  let m0 := if m.reinit then m.reinitAt f v else m
  let units := if f.cap then m0.ct f else 3600 * m0.ct f
  let m1 :=
    if m0.awayMs = 0 then m0
    else
      let sec : Rat := (m0.awayMs : Rat) / 1000
      let w := sec / 20 / units
      let t := m0.predict f (m0.awayQ / sec) sec
      { t with p := t.p + w * w, awayQ := 0, awayMs := 0 }
  let m2 := (m1.predict f i dt)
  let r := m2.measure f (v - i * m2.esrT f) (m2.sz2 f i v) s.gate
  let m3 := if r.2 then r.1.disagree ms else { r.1 with disMs := 0, agreeMs := r.1.agreeMs + ms }
  let m4 := if ms = 1 then m3.step f i v else m3
  let stale : Bool := match m4.check with
    | some e => decide (m.stepCnt < m4.stepCnt) && decide (e * 3 / 10 < rabs (m4.steps.headD 0 - e))
    | none => false
  let m5 := if stale then m4.fresh f v s.secs
    else if m.stepCnt < m4.stepCnt then { m4 with check := none } else m4
  let s1 := s.setMod n (s.withBounds { m5 with valid := true } f i v)
  (if stale then (s1.learnDue n false).wantRehearsal else s1).judgeGauge n

/-- Is a port's state one in which the module is measured? -/
def measured (st : Nat) : Bool := st == mService || st == mStandby || st == mResting || st == mLearning

/-- Natural rest (R334): NATURAL_MIN below 50 mA clears the rest debt. -/
def State.natural (s : State) (n ms : Nat) (i : Rat) : State :=
  let m := s.mod n
  if rabs i < 1 / 20 then
    let r := m.restMs + ms
    if 60000 * s.get Reg.LAN_REST_CFG_NATURAL_MIN ≤ r ∧ m.restMs < 60000 * s.get Reg.LAN_REST_CFG_NATURAL_MIN then
      let rec_ : RestRec := ⟨s.timeWord, rnat (m.leak * 1000000) % 65536, Nat.min 255 (s.get Reg.LAN_REST_CFG_NATURAL_MIN), 0⟩
      (s.setMod n { m with restMs := r, lastRest := s.secs, rests := (rec_ :: m.rests).take 2 }).put
        (Reg.LAN_Mn_STATUS_REST_OVERDUE n) 0
    else s.setMod n { m with restMs := r, lastRest := if 60000 * s.get Reg.LAN_REST_CFG_NATURAL_MIN ≤ r then s.secs else m.lastRest }
  else s.setMod n { m with restMs := 0 }

/-- What falls due by time or by uncertainty (R334, R336). -/
def State.dueCheck (s : State) (n : Nat) : State :=
  let m := s.mod n
  let old : Bool := match m.lastLearn with
    | some t => decide (t + 86400 * s.get Reg.LAN_LEARN_CFG_INTERVAL_D ≤ s.secs)
    | none => true
  let s1 := if s.modSt n = mService ∧ !s.lan.retry.contains n ∧ (!m.learned || old || decide (1 / 20 < m.sc))
      then s.learnDue n false else s
  let late : Bool := decide (m.lastRest + 3600 * s.get Reg.LAN_REST_CFG_PERIOD_H + 86400 ≤ s.secs)
  if late && measured (s.modSt n) && !s1.flag (Reg.LAN_Mn_STATUS_REST_OVERDUE n) then
    (s1.put (Reg.LAN_Mn_STATUS_REST_OVERDUE n) 1).ev .lan 0x1003 4 n
  else s1

/-- Show a module's estimate (R348). -/
def State.showMod (s : State) (n : Nat) (f : Profile) (i v : Rat) : State :=
  let m := s.mod n
  let s1 := ((s.putI (Reg.LAN_Mn_CURRENT_MA n) (rint (i * 1000))).putI (Reg.LAN_Mn_VT_TEMP n) m.temp).putR
    (Reg.LAN_Mn_VT_MV n) (v * 1000)
  let s2 := ((s1.putR (Reg.LAN_Mn_CHARGE_MC n) (m.q * 1000)).putR (Reg.LAN_Mn_ENERGY_MJ n) (m.e * 1000)).putR
    (Reg.LAN_Mn_CAP_SIGMA n) (m.sc * 1000)
  let s3 := ((s2.putR (Reg.LAN_Mn_CAP_CAP n) (m.c * 1000)).put (Reg.LAN_Mn_ESR_STEPS n) (Nat.min 255 m.stepCnt)).putR
    (Reg.LAN_Mn_ESR_UOHM n) (m.esr f * 1000000)
  let s4 := (s3.putR (Reg.LAN_Mn_STATE_SQRT_P n) (Config.sqrtQ m.p * 10000)).putR
    (Reg.LAN_Mn_STATE_X n) (rmax 0 (m.x * (if f.cap then 1000 else 10000)))
  let s5 := (s4.putR (Reg.LAN_Mn_REST_LEAK_UA n) (m.leak * 1000000)).put (Reg.LAN_Mn_REST_SINCE_MIN n)
    (Nat.min 65535 ((s.secs - m.lastRest) / 60))
  (s5.put (Reg.LAN_Mn_LEARN_AGE_D n) (match m.lastLearn with
    | some t => Nat.min 65535 ((s.secs - t) / 86400)
    | none => 65535)).putB (Reg.LAN_Mn_STATUS_LEARNED n) m.learned

/-- The learner leaves T_LEARN (R338). -/
def State.learnTemp (s : State) (n : Nat) (f : Profile) (t : Int) : State :=
  if s.lan.learn.any (fun l => l.port == n && l.step != 4) && !(decide (f.tLearn.1 ≤ t) && decide (t ≤ f.tLearn.2)) then
    s.learnAbort 2
  else s

/-- Add a sample's charge to the converter's accumulator (R324). -/
def State.accumulate (s : State) (a : Sample) : State :=
  s.putI (Reg.LAN_Mn_ACCUM_NC a.port) (s.getI (Reg.LAN_Mn_ACCUM_NC a.port) + a.nc)

/-- The discharge counted out of the learner (R337). -/
def State.learnCount (s : State) (a : Sample) : State :=
  { s with lan := { s.lan with learn := s.lan.learn.map (fun (l : Learn) =>
      if l.port = a.port ∧ l.step = 2 then { l with dq := l.dq - (a.nc : Rat) / 1000000000 } else l) } }

/-- The converter's offset is calibrated from the first minute of a rest window, when no current flows (R334). -/
def Module.calibrate (m : Module) (nc : Int) : Module :=
  if 60000 ≤ m.calCnt then m
  else
    let q := m.calQ + nc
    let m1 := { m with calQ := q, calCnt := m.calCnt + 1 }
    if m1.calCnt = 60000 then { m1 with offset := (q : Rat) / 60000 / 1000000 } else m1

/-- A sample of a module that is measured (R325, R330). -/
def State.sampleMod (s : State) (a : Sample) (f : Profile) : State :=
  let n := a.port
  let v := f.volts a.uv
  let s0 := if s.modSt n = mResting then s.setMod n ((s.mod n).calibrate a.nc) else s
  let i := a.amps - (s0.mod n).offset
  let s1 :=
    if s0.flag (Reg.LAN_Mn_STATUS_LOWCUR n) then s0.setMod n { s0.mod n with lowMs := (s0.mod n).lowMs + 1 }
    else s0.filter n f a.amps v (1 / 1000) 1
  ((((((s1.learnCount a).natural n 1 i).learnTemp n f a.temp).dueCheck n).charge n f i v).showMod n f i v)

/-- A port's sample while CP1 is halted (R341, R343): the converter integrates, and the hardware protects. -/
def State.sampleAway (s : State) (a : Sample) : State :=
  let n := a.port
  let m := s.mod n
  let s1 := if measured (s.modSt n) then
      s.setMod n { m with awayQ := m.awayQ + (a.nc : Rat) / 1000000000, awayMs := m.awayMs + 1, temp := a.temp } else s
  if s.modSt n = mAbsent then s
  else
    match s1.profOf n with
    | some f => if measured (s1.modSt n) || s1.modSt n == mFault then (s1.accumulate a).protect a f else s1.accumulate a
    | none => s1.accumulate a

/-- A fallback of R31 on a port's converter begins or ends (R32, R554). -/
def State.converterFall (s : State) (n : Nat) (on : Bool) : State :=
  if on then s.ev .lan 0x1010 4 n else s.ev .lan 0x0010 2 n

/-- Take one port's sample (R324, R325, R327, R330, R341). A FAULT port whose converter delivers again has a valid reading
again. -/
def State.sampleOne (s : State) (a : Sample) : State :=
  let n := a.port
  if 8 ≤ n then s
  else if s.modSt n = mUnused then s
  else if s.asleep || !s.domOn .ctrl then s.sampleAway a
  else
    let s1 := s.judgeId a
    match s1.profOf n with
    | none => if s1.modSt n = mAbsent then s1 else s1.accumulate a
    | some f =>
      if s1.modSt n = mFault then
        let m := s1.mod n
        let s2 := if m.valid then s1 else (s1.setMod n { m with valid := true, causeAt := s1.secs }).converterFall n false
        ((s2.accumulate a).setMod n { s2.mod n with temp := a.temp }).protect a f
      else if s1.modSt n = mAbsent then s1
      else if !measured (s1.modSt n) then s1.accumulate a
      else
        let s2 := ((s1.accumulate a).setMod n { s1.mod n with temp := a.temp }).protect a f
        if measured (s2.modSt n) then s2.sampleMod a f else s2

/-- A module's bound as it is published (R325, R327): 0 unless it is in SERVICE or STANDBY with valid readings, reduced in
low-current mode. -/
def State.published (s : State) (n : Nat) (e : Rat) : Rat :=
  let m := s.mod n
  if !(s.modSt n == mService || s.modSt n == mStandby) || !m.valid then 0
  else if s.flag (Reg.LAN_Mn_STATUS_LOWCUR n) then
    rmax 0 (e - (s.get (Reg.LAN_Mn_VT_MV n) : Rat) / 1000 / 20 * ((m.lowMs : Rat) / 1000))
  else e

/-- What a module contributes to e (R325, R327, R331). -/
def State.contrib (s : State) (n : Nat) : Rat := s.published n (s.mod n).e

/-- The conditions of R333 hold now. -/
def State.convNow (s : State) : Bool :=
  let serv := ports8.filter (fun n => s.modSt n == mService)
  !serv.isEmpty && serv.all (fun n =>
    let m := s.mod n
    let lim : Rat := match s.profOf n with
      | some f => if f.cap then (s.get Reg.LAN_FILT_CFG_CONV_V : Rat) / 1000 else (s.get Reg.LAN_FILT_CFG_CONV_SOC : Rat) / 1000
      | none => 0
    decide (m.p ≤ lim * lim) && decide (8 ≤ m.stepCnt) && !s.flag (Reg.LAN_Mn_STATUS_DISAGREE n))

/-- Publish e (R331, R333): LAN_GEN counts the publications. -/
def State.publishE (s : State) : State :=
  let e := rsum (ports8.map s.contrib)
  let pt := rsum (ports8.map (fun n => s.published n (s.mod n).ePt))
  let s1 := ((s.putR Reg.LAN_ENERGY_E_MJ (e * 1000)).putR Reg.LAN_ENERGY_PT_E_MJ (pt * 1000)).incWrap Reg.LAN_GEN_GEN 1
  let ms := if s1.convNow then s1.lan.convMs + 1 else 0
  let s2 := { s1 with lan := { s1.lan with convMs := ms } }
  (if 600000 ≤ ms then s2.put Reg.LAN_STATUS_CONVERGED 1 else s2).lanShow

/-- The energy delivered to the bus in one sample (R342). -/
def State.busEnergy (s : State) (l : List Sample) : Rat :=
  rsum (l.map (fun a => match s.profOf a.port with
    | some f =>
      let d := rmax 0 (-a.amps)
      if measured (s.modSt a.port) then (f.volts a.uv * d - d * d * f.rPath) / 1000 else 0
    | none => 0))

/-- Integrate over a vault or a rehearsal window (R342). -/
def State.sumEnergy (s : State) (l : List Sample) : State :=
  { s with lan := { s.lan with sum := s.lan.sum.map (fun (x : ESum) =>
      if 0 < x.skip then { x with skip := x.skip - 1 }
      else match x.left with
        | some 0 => x
        | some (k + 1) => { x with left := some k, sum := x.sum + s.busEnergy l }
        | none => { x with sum := x.sum + s.busEnergy l }) } }

/-- LANTERN_SAMPLE's effect (R330, R331): a window of 1 ms, one sample per port whose converter delivers one. -/
def State.lanternSample (s : State) (l : List Sample) : State :=
  if !s.domOn .sup then s
  else
    let s1 := l.foldl State.sampleOne s
    let s2 := s1.sumEnergy l
    if s2.asleep || !s2.domOn .ctrl then s2 else s2.publishE

/-- CONVERTER_SILENT's effect (R341): FAULT 4; the bus switch is left as it is. -/
def State.converterSilent (s : State) (n : Nat) : State :=
  if n < 8 ∧ measured (s.modSt n) = true then
    let s1 := s.modFault n 4 false
    (s1.setMod n { s1.mod n with valid := false }).converterFall n true
  else s

/-! Low-current mode (R325). -/

/-- Enter low-current mode. -/
def State.lowEntry (s : State) (n : Nat) : State :=
  if measured (s.modSt n) then (s.put (Reg.LAN_Mn_STATUS_LOWCUR n) 1).setMod n { s.mod n with lowMs := 0, prev := none } else s

/-- The 64 Hz update on the means over 15.625 ms. -/
def State.lowUpdate (s : State) (n : Nat) (ua uv temp : Int) : State :=
  match s.profOf n with
  | none => s
  | some f =>
    if !measured (s.modSt n) || !s.flag (Reg.LAN_Mn_STATUS_LOWCUR n) || s.asleep then s
    else
      let s1 := s.setMod n { s.mod n with temp := temp }
      let i : Rat := (ua : Rat) / 1000000
      let s2 := s1.filter n f i (f.volts uv) (1 / 64) 16
      s2.showMod n f (i - (s2.mod n).offset) (f.volts uv)

/-! Rest windows (R334). -/

/-- When a forced rest falls due (R334). -/
def State.restDue (s : State) (n : Nat) : Nat := (s.mod n).lastRest + 3600 * s.get Reg.LAN_REST_CFG_PERIOD_H

/-- A learn due since `t` comes before every forced rest that is due (R336): the longest due starts first. -/
def State.learnFirst (s : State) (t : Nat) : Bool :=
  ports8.all (fun k => s.modSt k != mService || decide (s.secs < s.restDue k) || decide (t ≤ s.restDue k))

/-- A forced rest window may start on a port (R334, R336). -/
def State.restMay (s : State) (n : Nat) : Bool :=
  let m := s.mod n
  !s.flag Reg.SYS_STATUS_SAFE && s.modSt n == mService && decide (s.restDue n ≤ s.secs) &&
    s.lan.due.head?.all (fun d => decide (s.restDue n ≤ d.2)) &&
    ports8.all (fun k => s.modSt k != mResting && s.modSt k != mLearning) && s.lan.rest.isNone &&
    !(s.lan.learn.any (fun l => l.step == 2)) && !s.rehearsing && !s.vaulting && !s.deficit && s.horizonSpares m.e

/-- A module goes to RESTING (R334, R336 step 5): off the bus, its window begins. -/
def State.goRest (s : State) (n : Nat) : State :=
  (s.setMod n { s.mod n with calQ := 0, calCnt := 0 }).setModSt n mResting false false

/-- REST_WINDOW_START's effect. -/
def State.restStart (s : State) (n : Nat) : State :=
  if s.restMay n then
    (({ s with lan := { s.lan with rest := some n } } : State).goRest n).lanShow
  else s

/-- Apply the rest fit (R334): the leakage from the decay, the final voltage as a measurement; the offset stands since the first
minute. -/
def State.restFit (s : State) (n : Nat) (f : Profile) (uvPerS uv : Int) : State :=
  let m := s.mod n
  let v := f.volts uv
  let leak := if f.cap then rmax 0 (-(m.ct f) * (f.volts uvPerS)) else m.leak
  let r := { m with leak := leak }.measure f v (f.sigV v * f.sigV v) s.gate
  let rec_ : RestRec := ⟨s.timeWord, Nat.min 65535 (rnat (leak * 1000000)), Nat.min 255 (s.get Reg.LAN_REST_CFG_REST_MIN), 1⟩
  (s.setMod n { r.1 with lastRest := s.secs, rests := (rec_ :: m.rests).take 2, prev := none }).put
    (Reg.LAN_Mn_STATUS_REST_OVERDUE n) 0

/-- REST_WINDOW_END's effect. -/
def State.restEnd (s : State) (uvPerS uv : Int) : State :=
  match s.lan.rest with
  | none => s
  | some n =>
    match s.profOf n with
    | none => s
    | some f =>
      let s1 := (s.restFit n f uvPerS uv).setModSt n mService true true
      (({ s1 with lan := { s1.lan with rest := none } } : State).lanCopy).lanShow

/-! Learn cycles (R336, R337, R555, R556). -/

/-- The preconditions of a learn of a port. -/
def State.learnMay (s : State) (n : Nat) : Bool :=
  let st := s.get Reg.PWR_STATUS_STATE
  let tOk : Bool := match s.profOf n with
    | some f => decide (f.tLearn.1 ≤ (s.mod n).temp) && decide ((s.mod n).temp ≤ f.tLearn.2)
    | none => false
  !s.flag Reg.SYS_STATUS_SAFE && (st == pwrRun || st == pwrIdle) && s.vlt.input && tOk && s.modSt n == mService &&
    ports8.all (fun k => s.modSt k == mUnused || s.modSt k == mAbsent || (s.modSt k == mService && (s.mod k).valid)) &&
    s.lan.rest.isNone && !s.rehearsing && !s.vaulting && !s.deficit && s.pmr.st != .closed && s.horizonSpares (s.mod n).e

/-- A learn is refused (R336): outcome 7, retried after RETRY_H. -/
def State.learnRefuse (s : State) (n : Nat) : State :=
  ((s.learnEnd ⟨n, 1, false, 0, 0⟩ 7 0 0).learnRetry n).lanShow

/-- LEARN_START's effect: the longest due learn is tried; `n` is a port whose RETRY_H wait has ended. A port of no wait
leaves the due list as it is. -/
def State.learnStart (s : State) (n : Nat) : State :=
  let s0 := if s.lan.retry.contains n then s.learnDue n false else s
  if s0.lan.learn.isSome || s0.lan.rest.isSome then s0
  else
    match s0.lan.due with
    | [] => s0
    | (p, t) :: rest =>
      if !s0.learnFirst t then s0
      else if !s0.learnMay p then s0.learnRefuse p
      else
        let begin_ (t : State) : State :=
          ({ t with lan := { t.lan with learn := some ⟨p, 1, false, 0, 0⟩, due := rest } } : State).lanShow
        if s0.holdsOp (.learnCycle p) then begin_ s0
        else if s0.askedOp (.learnCycle p) then s0
        else
          let r := s0.leaveRequest (.learnCycle p)
          match r.2 with
          | none => r.1.learnRefuse p
          | some i => if r.1.leaveHeld i then begin_ r.1 else r.1

/-- LEARN_CHARGED's effect (R336 step 2, R555): the charger pauses for 60 s. -/
def State.learnCharged (s : State) : State :=
  match s.lan.learn with
  | some l =>
    if l.step = 1 then
      ({ s with lan := { s.lan with learn := some { l with paused := true } } } : State).setMod l.port
        { s.mod l.port with chgOn := false }
    else s
  | none => s

/-- LEARN_CHARGE_TIMEOUT's effect (R556). -/
def State.learnTimeout (s : State) : State :=
  match s.lan.learn with
  | some l => if l.step = 1 ∧ !l.paused then ((s.learnEnd l 7 0 0).ev .lan 0x1004 4 l.port).learnRetry l.port |>.lanShow else s
  | none => s

/-- LEARN_DISCHARGE_START's effect (R336 step 3). -/
def State.learnDischarge (s : State) (uv : Int) : State :=
  match s.lan.learn with
  | none => s
  | some l =>
    if l.step ≠ 1 ∨ !l.paused then s
    else
      match s.profOf l.port with
      | none => s
      | some f =>
        if !s.learnMay l.port then (s.learnEnd l 7 0 0).learnRetry l.port |>.lanShow
        else
          let s1 := ports8.foldl (fun t n =>
            if n ≠ l.port ∧ t.modSt n = mService then t.setModSt n mStandby false false else t) s
          let s2 := (s1.setModSt l.port mLearning true false).put Reg.VLT_STATUS_HOLD 1
          ({ s2 with lan := { s2.lan with learn := some { l with step := 2, paused := false, ocvStart := f.volts uv, dq := 0 } }
            } : State).lanShow

/-- LEARN_MARGIN in volts. -/
def State.marginV (s : State) : Rat := (s.get Reg.LAN_BUS_CFG_LEARN_MARGIN : Rat) / 1000

/-- The learner's terminal voltage has come to the end of its discharge (R336 step 4): V_FLOOR + d × R_PATH + LEARN_MARGIN. -/
def State.learnLow (s : State) (l : Learn) (ua uv : Int) : Bool :=
  match s.profOf l.port with
  | some f => decide (f.volts uv ≤ s.vFloorV + rmax 0 (-(ua : Rat) / 1000000) * f.rPath + s.marginV)
  | none => false

/-- LEARN_DISCHARGE_END's effect (R336 steps 4 and 5), with the learner's current in microamperes and its pin voltage. -/
def State.learnDischarged (s : State) (ua uv : Int) : State :=
  match s.lan.learn with
  | none => s
  | some l =>
    if l.step ≠ 2 ∨ !s.learnLow l ua uv then s
    else
      let s1 := ports8.foldl (fun t n => if t.modSt n = mStandby then t.setModSt n mService true true else t) s
      let s2 := s1.learnHoldOff.goRest l.port
      ({ s2 with lan := { s2.lan with learn := some { l with step := 3 } } } : State).lanShow

/-- The capacity that a learn measured, and whether it is accepted (R337). -/
def State.learnResult (s : State) (l : Learn) (f : Profile) (v : Rat) : Rat × Bool :=
  let m := s.mod l.port
  let tRelax : Rat := 60 * s.get Reg.LAN_REST_CFG_REST_MIN
  if f.cap then
    let c := l.dq / (l.ocvStart - v - m.leak * tRelax / m.c)
    (c, decide (f.capNp / 2 ≤ c) && decide (c ≤ f.capNp * 12 / 10) &&
      decide ((l.ocvStart - s.vFloorV) * 8 / 10 ≤ l.ocvStart - v))
  else
    let e := f.hinv m.temp v
    let hd := f.hd m.temp e
    let informative : Bool := hd != 0 && decide (Config.sqrtQ (f.sigV v * f.sigV v) / rabs hd ≤ 3 / 100)
    let c := l.dq / (3600 * (1 - e))
    (c, informative && decide (f.capNp / 2 ≤ c) && decide (c ≤ f.capNp * 12 / 10))

/-- LEARN_RELAX_END's effect (R336 step 6, R337): step 5 also served as the module's rest window. DESIGN CHOICE: the result
takes the leakage known before that window's fit. -/
def State.learnRelaxed (s : State) (uvPerS uv : Int) : State :=
  match s.lan.learn with
  | none => s
  | some l =>
    if l.step ≠ 3 then s
    else
      match s.profOf l.port with
      | none => s
      | some f =>
        let v := f.volts uv
        let r := s.learnResult l f v
        let m := s.mod l.port
        let sg := s.get Reg.LAN_LEARN_CFG_LEARN_SIGMA
        let m1 := if r.2 then { m with c := r.1, sc := (sg : Rat) / 1000, learned := true, lastLearn := some s.secs } else m
        let s1 := (s.setMod l.port m1).restFit l.port f uvPerS uv
        let s2 := (s1.learnNote l.port (if r.2 then 1 else 2) (rnat (m1.sc * 1000)) (if r.2 then rnat (r.1 * 1000) else 0)).setModSt
          l.port mService true true
        let s3 := if r.2 then s2.wantRehearsal else (s2.ev .lan 0x1005 4 l.port).learnRetry l.port
        let s4 := { s3 with lan := { s3.lan with learn := some { l with step := 4 } } }
        s4.lanCopy.lanShow

/-- LEARN_RECHARGE_DONE's effect (R336 step 7). -/
def State.learnRecharged (s : State) : State :=
  match s.lan.learn with
  | some l =>
    if l.step = 4 then
      (s.learnOver l.port).lanShow
    else s
  | none => s

/-- What fires the learn guard (R336): the learner's voltage below V_FLOOR + LEARN_MARGIN / 2, or no heartbeat (no voltage is
given). -/
def State.guardFires (s : State) (l : Learn) (uv : Option Int) : Bool :=
  match uv, s.profOf l.port with
  | some u, some f => decide (f.volts u < s.vFloorV + s.marginV / 2)
  | some _, none => false
  | none, _ => true

/-- LEARN_GUARD's effect (R336, R338). -/
def State.learnGuard (s : State) (uv : Option Int) : State :=
  match s.lan.learn with
  | some l => if l.step = 2 ∧ s.guardFires l uv = true then
      ((s.learnAbort 5).put Reg.LAN_STATUS_GUARD 1).ev .lan 0x1006 5 l.port else s
  | none => s

/-! Requests (R345, R489). -/

/-- A learn of a port is made due. -/
def State.learnReq (s : State) (n : Nat) : State :=
  if s.modSt n = mUnused ∨ s.modSt n = mAbsent ∨ s.modSt n = mRefused then s else s.learnDue n false

/-- A port in FAULT returns to SERVICE (R327). -/
def State.faultOver (s : State) (n : Nat) : State :=
  let m := s.mod n
  (((s.setMod n { m with iCnt := 0, ovCnt := 0, otCnt := 0, prev := none }).setModSt n mService true true).put
    (Reg.LAN_Mn_STATUS_FAULT n) 0).ev .lan 0x0003 3 n

/-- FAULT_CLR (R327): ports whose cause has been absent for 60 s return to service. -/
def State.lanFaultClr (s : State) : State :=
  (ports8.foldl (fun t n =>
    if t.modSt n = mFault ∧ (t.mod n).valid = true ∧ (t.mod n).causeAt + 60 ≤ t.secs then t.faultOver n else t) s).lanShow

/-- The learn cut short by a warm reset is rescheduled (R338): it is due again. -/
def State.learnAgain (s : State) : State :=
  match s.lan.learn with
  | some l => if l.step = 4 then s.learnAbort 6 else (s.learnAbort 6).learnDue l.port false
  | none => s

/-! Starts (R332). -/

/-- Lantern at a cold start: from its NOR copy, or with its state lost. -/
def State.lanCold (s : State) (table : NMap (List Nat)) (profiles : NMap Profile) (hash : Nat) : State :=
  let age : Rat := (s.get Reg.LAN_LEARN_CFG_AGE_PCT : Rat) / 10000
  let kept : Option (NMap Module) := s.lan.kept hash
  let mk (n : Nat) : Module :=
    let acc := (mget table n).getD []
    match kept with
    | some ms =>
      let m := mgetD ms n Module.init
      { m with accepts := acc, idLast := none, idCount := 0, atStart := true, reinit := true,
               check := if m.steps = [] then none else some (rtop m.steps), sc := rmin (1 / 5) (m.sc + age), prev := none,
               valid := false, ovCnt := 0, otCnt := 0, iCnt := 0, awayQ := 0, awayMs := 0, restMs := 0, disMs := 0, agreeMs := 0 }
    | none => { Module.init with accepts := acc, atStart := true }
  let s1 := { s with lan := { Lantern.init with
    profiles := profiles, tableHash := hash, stateNor := s.lan.stateNor,
    mods := ports8.map (fun n => (n, mk n)) } }
  let s2 := ports8.foldl (fun t n =>
    t.put (Reg.LAN_Mn_STATUS_STATE n) (if (mk n).accepts.isEmpty then mUnused else mAbsent)) s1
  let s3 := s2.putB Reg.LAN_STATUS_LOST kept.isNone
  (if kept.isNone then (s3.put Reg.LAN_STATUS_CONVERGED 0).put Reg.UMB_STATUS_COLD_CAP 1 else s3).lanShow

end Sys2Proof.Machine
end

