-- ==== Sys2Proof/Machine/UmbraOps.lean ====
section
/-! DEFINITION. Umbra at work (R69–R91): the 1 ms update, Seep's rate and stripes, the endurance bucket, rehearsals. -/

namespace Sys2Proof.Machine

/-- Umbra's events and interrupt (R504). -/
def State.umbRaise (s : State) (f : Fld) : State := s.raise f Reg.UMB_CTRL_INT_EN 54

/-! Endurance (R84). -/

/-- The hourly computation (R84). -/
def State.computeFill (s : State) : State :=
  let f := s.fillRate
  ({ s with umb := { s.umb with fill := f, fillAt := some s.secs } } : State).put Reg.UMB_ENDUR_FILL_FILL
    (Nat.min (2 ^ 32 - 1) (f / 1000))

/-- Fill the bucket, up to 24 hours of fill (R84): one millisecond at each update, and what a time without updates leaves out
within a start (SLEEP, when CP1 is halted). Nothing is added for the time between two starts. -/
def State.fillBucket (s : State) : State :=
  let away := match s.umb.fillSec with
    | some t => s.secs - t - 1
    | none => 0
  let t := s.umb.fillRem + s.umb.fill * (1 + 1000 * away)
  let s1 := { s with umb := { s.umb with fillRem := t % 1000, fillSec := some s.secs } }
  let l := s.getI Reg.UMB_ENDUR_LEVEL_LEVEL
  let cap : Int := s.bucketCap
  if cap ≤ l then s1 else s1.putI Reg.UMB_ENDUR_LEVEL_LEVEL (min cap (l + (t / 1000 : Nat)))

/-! The horizon (R69–R72). -/

/-- The clamps that bind, in the order of R71. -/
def State.clampsOf (s : State) (raw : Nat) (stale : Bool) : List Bool :=
  let a := Nat.min raw s.reserveClamp
  let b := Nat.min a (s.cacheGrans * 4096)
  [decide (s.reserveClamp < raw), decide (s.cacheGrans * 4096 < a), s.flag Reg.UMB_STATUS_COLD_CAP && decide (s.coldCap < b), stale]

/-- The rise limit of R72. -/
def State.riseLimit (s : State) (h : Nat) : Nat :=
  let last := s.get Reg.UMB_HORIZON_BYTES
  if s.umb.published then Nat.min h ((last + Nat.max (last * 2 / 100) (2 ^ 28)) / 4096 * 4096) else h

/-- The stale-input rule begins or ends (R31, R32). -/
def State.setStale (s : State) (stale : Bool) : State :=
  if stale && !s.flag Reg.UMB_STATUS_STALE then (s.put Reg.UMB_STATUS_STALE 1).ev .umb 0x0001 5 0
  else if !stale && s.flag Reg.UMB_STATUS_STALE then (s.put Reg.UMB_STATUS_STALE 0).ev .umb 0x0002 2 0
  else s

/-- Every module of the set has completed a learn cycle, whether or not it is in service (R77). -/
def State.setLearned (s : State) : Bool :=
  let l := ports8.filter (fun n => s.modSt n != mUnused && s.modSt n != mAbsent && s.modSt n != mRefused)
  !l.isEmpty && l.all (fun n => (s.mod n).learned)

/-- The cold-start cap ends with a converged estimate, or with every module learned (R77). DESIGN CHOICE: a cap that a Grotto
format applies while CONVERGED stands, which R333 keeps, ends at the next publication; the spec does not say what ends it. -/
def State.coldCapCheck (s : State) : State :=
  let s1 := if s.flag Reg.LAN_STATUS_CONVERGED || s.setLearned then s.put Reg.UMB_STATUS_COLD_CAP 0 else s
  s1.fallback 0 (s1.flag Reg.UMB_STATUS_COLD_CAP)

/-- Compute and publish the horizon (R71): with a stale input the last horizon and the dirty bytes clamp it besides (R31). -/
def State.publishHorizon (s : State) (stale : Bool) : State :=
  let s0 := (s.coldCapCheck).fallback 2 false
  let e := s0.get Reg.LAN_ENERGY_E_MJ
  let raw := s0.horizonOf ((e : Rat) / 1000)
  let h3 := s0.clampHorizon raw
  let h := if stale then Nat.min h3 (Nat.min (s0.get Reg.UMB_HORIZON_BYTES) s0.dirtyBytes) else s0.riseLimit h3
  let cl := s0.clampsOf raw stale
  let s1 := (if cl = s0.umb.clamps then s0 else s0.ev .umb 0x0003 3 0).setStale stale
  let s2 := ((s1.put Reg.UMB_ENERGY_E_MJ e).putR Reg.UMB_VPOWER_P_MW (s0.vaultPower * 1000)).putR Reg.UMB_VRATE_B_MBS
    (s0.vaultRate / 1000000)
  let dfl := s2.resultsInUse.isEmpty
  let s3 := (((s2.putB Reg.UMB_STATUS_DEFAULTS dfl).fallback 1 dfl).putB Reg.UMB_STATUS_CLAMP_RESERVE (cl.getD 0 false)).putB
    Reg.UMB_STATUS_CLAMP_CACHE (cl.getD 1 false)
  let s4 := (s3.put Reg.UMB_HORIZON_BYTES h).incWrap Reg.UMB_GEN_GEN 1
  { s4 with umb := { s4.umb with clamps := cl, published := true, wanted := s4.umb.wanted || s4.resultsInUse.isEmpty },
            pmr := { s4.pmr with firstHorizon := true } }

/-- Enter deficit (R78). -/
def State.deficitCheck (s : State) : State :=
  if !s.deficit && decide (s.get Reg.UMB_HORIZON_BYTES < s.dirtyBytes) then
    (((s.put Reg.UMB_STATUS_DEFICIT 1).umbRaise Reg.UMB_STATUS_DEFICIT_EV).ev .umb 0x1001 5 0).lanAbort 4 |>.learnRevoke
  else s

/-! Seep's rate (R83, R85). -/

/-- The interface rate of a channel in bytes per second. -/
def chanRate (code : Nat) : Rat :=
  if code = 0 then 800000000 else if code = 1 then 1200000000 else if code = 2 then 1600000000 else 2400000000

/-- The time of a stripe on a LUN: bus_t and T_PROG (R214), in seconds. -/
def State.lunStripe (s : State) (n : Nat) : Rat :=
  match s.devProfile n with
  | some p =>
    let bytes := if p.page = 8192 then 2 * (8192 + p.spare) else p.page + p.spare
    (bytes : Rat) / chanRate (s.get (Reg.FLC_CHn_STATUS_RATE (n % 16))) + (1 : Rat) / 2000000 + (p.tProg : Rat) / 1000000
  | none => 0

/-- The slowest profile and channel in vault service. -/
def State.tStripe (s : State) : Rat := rtop ((channels16.map s.activeLuns).flatten.map s.lunStripe)

/-- The grants that Seep may hold (R83). -/
def State.nSeep (s : State) : Nat :=
  Nat.min 8 ((s.get Reg.PWR_LEAVE_BUDGET_RUN_MW - s.get Reg.PWR_LEAVE_BUDGET_BASE_MW) / Nat.max 1 (s.leaveCost .seepStripe))

/-- r_max of R83. -/
def State.rMax (s : State) : Rat :=
  let t := s.tStripe
  if t = 0 then 0 else rmin s.vaultRate ((s.nSeep : Rat) * 245760 / t)

/-- The borrow floor (R85): minus 12 hours of fill. -/
def State.borrowFloor (s : State) : Int := -((s.umb.fill * 43200 : Nat) : Int)

/-- Seep's rate in bytes per second and the MODE that shows it (R83, R99, R386). -/
def State.seepRate (s : State) : Rat × Nat :=
  let h := s.get Reg.UMB_HORIZON_BYTES
  let d := s.dirtyBytes
  let tgt := h * s.get Reg.UMB_SEEP_CFG_TARGET / 100
  let lvl := s.getI Reg.UMB_ENDUR_LEVEL_LEVEL
  let r := if tgt < d then rmin (((d - tgt : Nat) : Rat) / ((s.get Reg.UMB_SEEP_CFG_TAU : Rat) / 10)) s.rMax else 0
  if s.flag Reg.SYS_STATUS_SAFE then (0, 0)
  else if s.deficit then (s.rMax, 3)
  else if s.pwr.prep = 2 then (s.rMax, if lvl ≤ 0 then 2 else 1)
  else if s.flag Reg.UMB_CTRL_SEEP_HOLD then (0, 4)
  else if lvl ≤ s.borrowFloor then (0, 5)
  else if lvl ≤ 0 ∧ d * 10 ≤ h * 9 then (0, 6)
  else if r = 0 then (0, 0)
  else if lvl ≤ 0 then (r, 2)
  else (r, 1)

/-- Set Seep's rate; each entry to borrowing and each to an overdraw in deficit is recorded (R85). -/
def State.setSeepRate (s : State) : State :=
  let r := s.seepRate
  let neg : Bool := decide (s.getI Reg.UMB_ENDUR_LEVEL_LEVEL < 0)
  let lend : Bool := r.2 == 2
  let drain : Bool := r.2 == 3 && neg
  let s0 := if lend && !s.umb.borrowing then s.ev .umb 0x0004 3 0 else s
  let s1 := if drain && !s.umb.overdraw then s0.ev .umb 0x1002 4 0 else s0
  let s2 := { s1 with umb := { s1.umb with borrowing := lend, overdraw := drain, seepR := r.1 } }
  ((s2.put Reg.UMB_SEEP_RATE_RATE (Nat.min (2 ^ 24 - 1) (rfloor (r.1 / 1000000)))).put Reg.UMB_SEEP_RATE_MODE r.2).putB
    Reg.UMB_STATUS_SEEP_BORROW neg

/-! The peer's allowance (R79). -/

/-- Top up the allowance held out to the peer. -/
def State.topUp (s : State) : State :=
  let room := s.get Reg.UMB_HORIZON_BYTES - s.dirtyBytes
  let target := room * s.get Reg.UMB_SEEP_CFG_MIRROR_SHARE / 16 / 4096
  let out := s.get Reg.UMB_PEER_OUT_GRANULES
  if s.streaming && !s.deficit && decide (out < target) then
    let n := s.umb.issued + (target - out)
    (({ s with umb := { s.umb with issued := n } } : State).put Reg.UMB_PEER_OUT_GRANULES target).frame fAllow 0 n []
  else s

/-- DEFICIT_EXIT's effect (R78): the dirty bytes have stood at or below the horizon for 100 ms. -/
def State.deficitExit (s : State) : State :=
  if s.deficit && decide (s.dirtyBytes ≤ s.get Reg.UMB_HORIZON_BYTES) then
    ((s.put Reg.UMB_STATUS_DEFICIT 0).ev .umb 0x1004 2 0).setSeepRate
  else s

/-! Seep's stripes (R18, R81, R82). -/

/-- The age of a zone. -/
def State.zoneAge (s : State) (z : Nat) : Nat := mgetD s.cache.ages z 0

/-- A dirty granule that a Seep stripe could take now; while the PMR is RESTORING only one in COPIED (R126). -/
def State.seepable (s : State) (g : Nat) : Bool :=
  (s.gran g).dirty && !(s.cache.inflight.any (fun e => e.gran == g)) && (mget s.pmr.merge g).isNone &&
    !s.granCovered g && (s.pmr.st != .restoring || (s.ent g).st == .copied)

/-- Order granules by zone age, then by zone from the rotating pointer, then by index (R82). -/
def State.seepOrder (s : State) (l : List Nat) : List Nat :=
  let cut (a : Nat) : List Nat :=
    let m := l.filter (fun g => s.zoneAge (zoneOf g) == a)
    m.filter (fun g => decide (s.cache.seepPtr ≤ zoneOf g)) ++ m.filter (fun g => decide (zoneOf g < s.cache.seepPtr))
  cut 0 ++ cut 1 ++ cut 2 ++ cut 3

/-- What Seep would take, frozen granules of a salvage first (R275). -/
def State.seepList (s : State) : List Nat :=
  let c := s.seepOrder (s.dirtyList.filter s.seepable)
  if s.flag Reg.DMC_FRZ_STATUS_SALVAGE then c.filter s.granUncovered ++ c.filter (fun g => !s.granUncovered g)
  else c.filter (fun g => !s.granUncovered g)

/-- The version that a stripe stores of a dirty granule: under the poison rule of R270 where the salvage finds it so. -/
def State.seepVer (s : State) (g : Nat) : GVer :=
  s.gver g 0 false (s.granFrozen g && (s.granBad g || s.dmc.lossList.contains g))

/-- Read granules for a stripe (R18): an entry of the in-flight table for each that is read from DRAM, the dirty ones and those
that a rehearsal copies; the pointer of R82 moves on with the dirty ones. -/
def State.noteInflight (s : State) (gs copies : List Nat) (serial : Nat) : State :=
  { s with cache := { s.cache with
      inflight := s.cache.inflight ++ (gs ++ copies).map (fun g => InFlight.mk g false serial),
      seepPtr := match gs.getLast? with
        | some g => zoneOf g
        | none => s.cache.seepPtr } }

/-- An agent reads granules for a stripe through the symbol code; a channel that freezes on the way ends its granules' part (R271,
R273). A salvage reads frozen channels (R275). -/
def State.readFor (s : State) (port : DPort) (gs : List Nat) : State :=
  gs.foldl (fun (t : State) g => if t.granFrozen g then t else (t.readGranule port g).1) s

/-- The granules whose channel is as it was in `old`. -/
def State.stillIn (s old : State) (gs : List Nat) : List Nat := gs.filter (fun g => s.granFrozen g == old.granFrozen g)

/-- A rehearsal's stripe (R87): dirty granules in R82's order, then copies of Seeped granules, then empty slots. -/
def State.rehearsalStripe (s : State) : State :=
  let s0 := State.openBandsN 16 s
  match s0.nextBandFor with
  | none => s0
  | some b =>
    let room := s0.stripeRoom b
    let dirty := (s0.seepOrder ((s0.dirtyList.filter s0.seepable).filter (fun g => !s0.granFrozen g))).take room
    let clean := ((mfilter (fun g v => v.seeped && !v.dirty && (s0.ent g).loc.isSome && (s0.ent g).st == .copied &&
      !s0.granFrozen g) s0.cache.grans).map (fun e => e.1)).take (room - dirty.length)
    let n := s0.get Reg.GRT_SERIAL_NEXT
    let r := s0.readFor .rt (dirty ++ clean)
    let ds := r.stillIn s0 dirty
    let cs := r.stillIn s0 clean
    (r.noteInflight ds cs n).handStripe b .rehearsal 0 0 0
      (dataPayload (ds.map r.seepVer ++ cs.map (fun g => r.gver g 3 true false)))

/-- The broker rejects a Seep stripe: its cost is above the budget (R28). -/
def State.seepBarred (s : State) : Bool :=
  decide (s.leaveBudget - s.get Reg.PWR_LEAVE_BUDGET_BASE_MW < s.leaveCost .seepStripe)

/-- SEEP_STRIPE_ISSUE's effect (R82, R83): a stripe, if Seep has a rate or salvages, a grant, and room in the
in-flight table. Seep that its providers stop is a fallback of R31.
-/
def State.seepIssue (s : State) : State :=
  if s.vaulting || !s.grt.formatted || s.flag Reg.SYS_STATUS_SAFE || decide (4096 < s.cache.inflight.length + 60) then s
  else if s.rehearsing then (if s.inRehWindow then s.rehearsalStripe else s)
  else if s.asleep || !(decide (0 < s.umb.seepR) || s.flag Reg.DMC_FRZ_STATUS_SALVAGE) then s
  else
    match s.seepList with
    | [] => s
    | l =>
      let s0 := State.openBandsN 16 s
      match s0.nextBandFor with
      | none => s0.fallback 3 true
      | some b =>
        if !s0.stagingRoom ∨ s0.nSeep ≤ (s0.grt.flights.filter (fun f => f.writer == .seep)).length then s0
        else
          let r := (s0.touch 0).stripeGrant .seepStripe
          match r.2 with
          | none => if s0.seepBarred then r.1.fallback 3 true else r.1
          | some i =>
            let all := l.take (r.1.stripeRoom b)
            let t := (r.1.fallback 3 false).readFor .bg all
            let gs := t.stillIn r.1 all
            let n := t.get Reg.GRT_SERIAL_NEXT
            (t.noteInflight gs [] n).handStripe b .seep i 0 0 (dataPayload (gs.map t.seepVer))

/-- SEEP_STRIPE_PROGRAMMED's effect (R18): the page at a position of a Seep or rehearsal stripe has programmed. -/
def State.seepProgrammed (s : State) (serial pos : Nat) : State :=
  match s.flightOf serial with
  | some f =>
    if (f.writer = Writer.seep ∨ f.writer = Writer.rehearsal) ∧ f.done.contains pos = true then s.seepAccount f pos else s
  | none => s

/-! Rehearsals (R87–R91). -/

/-- The preconditions of R88 that every rehearsal shares. DESIGN CHOICE: a rehearsal also needs an open PMR, the sequencer in ON
and no SLEEP, a formatted Grotto, no vault, no safe mode and no other rehearsal, which R88 does not list: without them there is no
vault path to rehearse; a software request is then refused with OUTCOME 5 as for the listed ones. -/
def State.rehMay (s : State) : Bool :=
  s.vlt.input && s.lan.learn.isNone && s.lan.rest.isNone && !s.deficit && !s.rehearsing && !s.vaulting && s.seqState == seqOn &&
    s.grt.formatted && s.pmr.st != .closed && !s.asleep && !s.flag Reg.SYS_STATUS_SAFE &&
    decide (s.dirtyBytes ≤ s.clampHorizon (s.horizonOf ((s.get Reg.LAN_ENERGY_E_MJ : Rat) / 1000 -
      s.vaultPower * 3 / 2 * ((s.get Reg.UMB_REH_CFG_WINDOW_MS : Rat) / 1000))))

/-- A software rehearsal ran in the previous 15 min. -/
def State.rehRecent (s : State) : Bool :=
  match s.umb.lastSw with
  | some t => decide (s.secs < t + 900)
  | none => false

/-- Start a rehearsal (R89 steps 1 and 2). -/
def State.rehStart (s : State) (software : Bool) : State :=
  let s0 := s.touch 0
  let s1 := { s0 with
    umb := { s0.umb with rehearsal := some ⟨software, 0, false, none⟩, wanted := false,
                          lastSw := if software then some s0.secs else s0.umb.lastSw },
    lan := { s0.lan with sum := some ⟨1, some (s0.get Reg.UMB_REH_CFG_WINDOW_MS), 0⟩ } }
  ((s1.put Reg.PWR_LEAVE_QUEUE_VAULT 1).put Reg.VLT_STATUS_HOLD 1).leaveGrant

/-- A software request (R88): started, or refused once; true when it was started. -/
def State.rehRequest (s : State) : State × Bool :=
  if s.rehMay && !s.rehRecent then (s.rehStart true, true)
  else ((s.put Reg.UMB_REH_INFO_OUTCOME 5).umbRaise Reg.UMB_STATUS_REH_DONE, false)

/-- The interval since the last accepted rehearsal has passed (R88). -/
def State.rehInterval (s : State) : Bool :=
  match s.umb.results.getLast? with
  | some r => decide (r.time + 3600 * s.get Reg.UMB_REH_CFG_INTERVAL ≤ s.secs)
  | none => true

/-- The junction temperature has moved from that of every result in use (R88). -/
def State.rehTemp (s : State) : Bool :=
  !s.resultsInUse.isEmpty &&
    s.resultsInUse.all (fun r => decide ((s.get Reg.UMB_REH_CFG_TEMP_TRIG : Int) < ((s.tj - r.temp).natAbs : Int)))

/-- REHEARSAL_AUTO_TRIGGER's effect (R88). -/
def State.rehAuto (s : State) : State :=
  if (s.umb.wanted || s.rehInterval || s.rehTemp) && s.rehMay then s.rehStart false
  else if s.umb.wanted || s.rehInterval || s.rehTemp then { s with umb := { s.umb with wanted := true } }
  else s

/-- Within 10 %. -/
def near10 (a b : Nat) : Bool := decide (9 * b ≤ 10 * a) && decide (10 * a ≤ 11 * b)

/-- Judge a rehearsal's result (R91): outcome, and the results that follow. A second rejection in a row, whatever either was
for, that agrees with the first is accepted. -/
def State.rehJudge (s : State) (r : RehResult) (complete failed : Bool) : Nat × List RehResult × Option RehResult :=
  let top : Rat := s.vaultPower * 1000
  let high : Nat := match topPower s.resultsInUse with
    | some t => t.power
    | none => rfloor top
  if complete ∧ !failed ∧ high ≤ 2 * r.power ∧ r.power ≤ 2 * high then (1, s.umb.results ++ [r], none)
  else
    let no : Nat := if failed then 3 else 2
    match s.umb.lastRej with
    | some q => if near10 r.power q.power && near10 r.rate q.rate then (1, [r], none) else (no, s.umb.results, some r)
    | none => (no, s.umb.results, some r)

/-- Complete the Rehearsal Vault commands that wait (R491). -/
def State.rehAnswer (s : State) (accepted : Bool) : State :=
  let ws := s.host.waiting.filter (fun w => w.kind == 0xC3)
  let s1 := { s with host := { s.host with waiting := s.host.waiting.filter (fun w => w.kind != 0xC3) } }
  ws.foldl (fun t w => t.adminDone w.req w.id (if accepted then stOk else stVendor 0xCC)
    (t.get Reg.UMB_REH_RESULT_RATE * 2 ^ 16 + t.get Reg.UMB_REH_RESULT_POWER)) s1

/-- Close a rehearsal (R89 steps 4 and 5, R91): `complete` when the window ran complete. -/
def State.rehClose (s : State) (complete : Bool) : State :=
  match s.umb.rehearsal with
  | none => s
  | some h =>
    let win := Nat.max 1 (s.get Reg.UMB_REH_CFG_WINDOW_MS)
    let joules := (s.lan.sum.map (fun x => x.sum)).getD 0
    let mw := rnat (joules * 1000000 / win)
    let r : RehResult := ⟨mw, h.stripes * 245760 * 1000 / win, s.tj, s.lunsActive, s.secs⟩
    let j := s.rehJudge r complete h.failed
    let s1 := { s with
      umb := { s.umb with rehearsal := none, results := j.2.1, lastRej := j.2.2, wanted := s.umb.wanted || j.1 != 1 },
      lan := { s.lan with sum := none } }
    let s2 := ((s1.put Reg.VLT_STATUS_HOLD 0).leaveRun).putR Reg.LAN_REH_ENERGY_E_MJ (joules * 1000)
    let s3 := ((s2.put Reg.UMB_REH_RESULT_RATE (Nat.min 65535 (r.rate / 10000000))).put Reg.UMB_REH_RESULT_POWER
      (Nat.min 65535 (mw / 10))).put Reg.UMB_REH_INFO_OUTCOME j.1
    let s4 := (s3.putI Reg.UMB_REH_INFO_TEMP r.temp).umbRaise Reg.UMB_STATUS_REH_DONE
    let s5 := if j.1 = 1 then s4.put Reg.UMB_REH_INFO_AGE_H 0
      else s4.eventWith 6 0x1005 4 j.1 ([mw % 2 ^ 32, r.rate % 2 ^ 32, r.rate / 2 ^ 32], false)
    s5.rehAnswer (j.1 == 1)

/-- A rehearsal's stripe is in flight. -/
def State.rehInFlight (s : State) : Bool := s.grt.flights.any (fun f => f.writer == .rehearsal)

/-- Close a rehearsal whose window is over once no stripe of it is in flight (R89 step 4). -/
def State.rehSettle (s : State) : State :=
  match s.umb.rehearsal with
  | none => s
  | some h =>
    match h.ending with
    | some c => if s.rehInFlight then s else s.rehClose c
    | none => s

/-- REHEARSAL_WINDOW_END's effect (R89 step 4): the window is over, complete or not. -/
def State.rehEnd (s : State) (complete : Bool) : State :=
  if s.vaulting then s
  else
    ({ s with umb := { s.umb with rehearsal := s.umb.rehearsal.map (fun (r : Rehearsal) =>
      { r with ending := some (r.ending.getD complete) }) } } : State).rehSettle

/-- Count the millisecond that ends now if a write waited in it (R76, R103). -/
def State.countWait (s : State) : State :=
  let w := s.umb.waited || s.portThrottled .a || s.portThrottled .b
  let s1 := { s with umb := { s.umb with waited := false } }
  if w then s1.incSat Reg.UMB_THROTTLE_MS_COUNT 1 else s1

/-- The hours since the last accepted rehearsal (R102). -/
def State.rehAge (s : State) : State :=
  match s.umb.results.getLast? with
  | some r => s.put Reg.UMB_REH_INFO_AGE_H (Nat.min 65535 ((s.secs - r.time) / 3600))
  | none => s

/-- UMBRA_UPDATE's effect (R69–R83): `ageMs` is the age of Lantern's newest value, `late` an update that does not finish in
its millisecond. CP1 must run and an image be loaded. -/
def State.umbraUpdate (s : State) (ageMs : Nat) (late : Bool) : State :=
  if !s.domOn .ctrl || s.asleep || s.boot.running.isNone then s
  else
    let c := s.countWait
    if late then
      let n := c.umb.overruns + 1
      let s1 := (({ c with umb := { c.umb with overruns := n } } : State).fillBucket).ev .umb 0x1003 4 0
      if 3 ≤ n then (s1.publishHorizon true).deficitCheck else s1
    else
      let s0 := { c with umb := { c.umb with overruns := 0 } }
      let s1 := (if s0.umb.fillAt.isNone then s0.computeFill else s0).fillBucket
      let s2 := ((s1.publishHorizon (decide (5 < ageMs))).deficitCheck).setSeepRate
      ((((s2.topUp).rehAge).rehSettle).gcCheck false).gcPump.leaveGrant

end Sys2Proof.Machine
end

