-- ==== Sys2Proof/Machine/StartOps.lean ====
section
/-! DEFINITION. Start-up (R405–R425, R430, R517): the bank, the image values, the resets of the blocks, the DRAM, the flash
devices, the restore phase. `Boot.startStep` says where a start stands: 1 requested, 2 rails up to BOOT_GROUP (cold),
3 PD_CTRL coming up (cold), 4 the other rails, or a warm reset, 5 the other domains, 6 the restore phase. -/

namespace Sys2Proof.Machine

/-! Images and banks (R411, R415, R416). -/

/-- A bank's image. -/
def State.bankImg (s : State) (b : Nat) : Option Image := s.boot.banks.getD b none

/-- The OTP slot that holds the hash of an image's key, used and not revoked (R411 check 3). -/
def State.keySlot (s : State) (i : Image) : Option Nat :=
  findPlace (fun (e : (Bool × Bool) × Nat) => e.1.1 && !e.1.2 && e.2 == i.keyHash) (s.boot.otpSlots.zip s.boot.otpHash)

/-- Check 1 of R411: the header is correct and LENGTH fits the bank; NSECT is 6 to 16 (R409). -/
def Image.headerOk (i : Image) : Bool :=
  i.hdrOk && decide (i.length ≤ 6 * 2 ^ 20) && decide (6 ≤ i.sections.length) && decide (i.sections.length ≤ 16)

/-- Check 2 of R411: the part, the stepping and the ordering code. -/
def State.partOk (s : State) (i : Image) : Bool :=
  i.part == s.get Reg.SYS_ID_PART && i.stepping == s.get Reg.SYS_ID_STEPPING && bitOf i.orderMask (s.view Reg.SYS_ID_ORDER)

/-- Check 6 of R411: the mandatory sections are there, each type at most once, and every CRC holds, with the KEYS tag (R410,
R413); at most 64 and 16 patch records (R431). -/
def Image.sectionsOk (i : Image) : Bool :=
  [1, 2, 3, 4, 5, 6].all (fun t => i.sections.any (fun x => x.type == t)) &&
    i.sections.all (fun x => x.crcOk && (i.sections.filter (fun y => y.type == x.type)).length == 1) && i.railCrc && i.keysOk &&
    decide (i.patches ≤ 64) && decide (i.aonPatches ≤ 16)

/-- Check 7 of R411: every field lies within the range of its register table. -/
def Image.rangesOk (i : Image) : Bool :=
  i.fields.all (fun e => (fldOfKey e.1).any (fun f => decide (f.min ≤ e.2) && decide (e.2 ≤ f.max)))

/-- An image is valid (R411), its seven checks in their order. -/
def State.imgValid (s : State) (i : Image) : Bool :=
  i.headerOk && s.partOk i && (s.keySlot i).isSome && i.sigOk && decide (s.view Reg.SYS_OTP_SVN_MIN ≤ i.svn) &&
    i.sectionsOk && i.rangesOk

/-- A bank holds a valid image. -/
def State.bankOk (s : State) (b : Nat) : Bool := (s.bankImg b).any s.imgValid

/-- The starts that a boot log shows as failed (R416, R422): a Fail record, or the Attempt of a cold start that neither
Success nor Fail follows before the next record. -/
def failedStarts : List BootRec → List BootRec
  | [] => []
  | [x] => if x.kind = 3 ∨ (x.kind = 1 ∧ x.path = 0) then [x] else []
  | x :: y :: t =>
    (if x.kind = 3 ∨ (x.kind = 1 ∧ x.path = 0 ∧ y.kind ≠ 2 ∧ y.kind ≠ 3) then [x] else []) ++ failedStarts (y :: t)

/-- The bank records a failed trial (R416): a start failed on it since its Commit record, and no Confirm follows. -/
def Boot.failedTrial (b : Boot) (r : CommitRec) : Bool :=
  r.kind == 0 && r.trial && (failedStarts b.bootLog).any (fun x => x.bank == r.bank && x.commit == r.seq)

/-- Program a commit record whose two copies hold (R415). When the pair is full after 32 records, the next pair is erased and
the newest record is copied forward. -/
def State.commitNote (s : State) (kind bank : Nat) (trial cold format : Bool) : State :=
  let im := s.bankImg bank
  let r : CommitRec :=
    { seq := s.boot.commitSeq + 1, bank := bank, kind := kind, trial := trial, cold := cold, format := format,
      hash := (im.map (fun i => i.hash)).getD 0, length := (im.map (fun i => i.length)).getD 0,
      svn := (im.map (fun i => i.svn)).getD 0, secs := s.secs, cycles := s.get Reg.SYS_OPSEC_PWR_CYCLES }
  let full : Bool := decide (32 ≤ s.boot.commits.length)
  ({ s with boot := { s.boot with
      commits := (if full then (s.boot.commits.getLast?).toList else s.boot.commits) ++ [r],
      commitPair := if full then (s.boot.commitPair + 1) % 8 else s.boot.commitPair } } : State).put Reg.CFG_COMMIT_SEQ_SEQ r.seq

/-- The bank without a commit record (R416): the valid one with the higher IMAGE_SEQ. -/
def State.bankBySeq (s : State) : Nat :=
  match s.bankImg 0, s.bankImg 1 with
  | some a, some b => if s.imgValid a && (!s.imgValid b || decide (b.seq ≤ a.seq)) then 0 else if s.imgValid b then 1 else 0
  | none, some _ => 1
  | _, none => 0

/-- The newest record's bank may not run (R416). -/
def State.bankBad (s : State) (r : CommitRec) : Bool :=
  !s.bankOk r.bank || ((s.bankImg r.bank).any (fun i => i.hash != r.hash)) || s.boot.failedTrial r

/-- Choose the bank (R416): BANK, TRIAL, ROLLED_BACK and OTHER_VALID follow; a roll-back is recorded. -/
def State.chooseBank (s : State) : State :=
  let s0 := (s.put Reg.CFG_STATUS_ROLLED_BACK 0).put Reg.CFG_STATUS_TRIAL 0
  let s1 := match s.boot.commits.getLast? with
    | none => s0.put Reg.CFG_STATUS_BANK s.bankBySeq
    | some r =>
      if s.bankBad r && s.bankOk (1 - r.bank) then
        (((s0.put Reg.CFG_STATUS_BANK (1 - r.bank)).commitNote 1 (1 - r.bank) false false false).put
          Reg.CFG_STATUS_ROLLED_BACK 1).ev .cfg 0x1001 6 (1 - r.bank)
      else (s0.put Reg.CFG_STATUS_BANK r.bank).putB Reg.CFG_STATUS_TRIAL (r.kind == 0 && r.trial)
  let s2 := s1.putB Reg.CFG_STATUS_OTHER_VALID (s1.bankOk (1 - s1.get Reg.CFG_STATUS_BANK))
  s2.put Reg.CFG_COMMIT_SEQ_SEQ s2.boot.commitSeq

/-- The image of the chosen bank, if it is valid. -/
def State.chosen (s : State) : Option Image := (s.bankImg (s.get Reg.CFG_STATUS_BANK)).filter s.imgValid

/-! "img" values (R11, R357, R516). -/

/-- A field of a block that the test accepts. -/
def Fld.inBlocks (f : Fld) (p : Block → Bool) : Bool :=
  match Block.ofOff f.off with
  | some b => p b
  | none => false

/-- "img" fields of the blocks read 0 until they are loaded (R11). -/
def State.clearImg (s : State) (p : Block → Bool) : State :=
  { s with regs := s.regs.filter (fun e =>
      match fldOfKey e.1 with
      | some f => !(f.img && f.inBlocks p)
      | none => true) }

/-- Load the "img" fields of the blocks that the test accepts (R11, R516): what the image states, else the default of the
register table; the default of TRFC_NS follows the density (R240), and the DRAM and NAND divisors follow the rates (R24). -/
def State.loadImg (s : State) (p : Block → Bool) (fields : NMap Nat) : State :=
  let put (t : State) (f : Fld) (v : Nat) : State := if f.inBlocks p then t.put f v else t
  let s1 := Reg.imgDefaults.foldl (fun t d => put t d.1 d.2) (s.clearImg p)
  let s2 := put s1 Reg.DMC_REF_CFG_TRFC_NS (if mgetD fields Reg.DMC_GEOM_DENSITY.key 0 = 0 then 295 else 410)
  let s3 := fields.foldl (fun t e =>
    match fldOfKey e.1 with
    | some f => if f.img then put t f e.2 else t
    | none => t) s2
  put (put s3 Reg.CLK_BRANCH_DRAM_DIV (2 - mgetD fields Reg.DMC_GEOM_RATE.key (s3.get Reg.DMC_GEOM_RATE)))
    Reg.CLK_BRANCH_NAND_DIV (3 - mgetD fields Reg.FLC_IF_CFG_RATE.key (s3.get Reg.FLC_IF_CFG_RATE))

/-- The ROM boot table (R357). -/
def romTable : List (Fld × Nat) :=
  ([0, 1, 2].map (fun n =>
    [(Reg.SUP_CHn_CFG_GROUP n, n), (Reg.SUP_CHn_CFG_UV_ACT n, 3), (Reg.SUP_CHn_CFG_OV_ACT n, 3),
     (Reg.SUP_CHn_CFG_VAULT_USE n, 1), (Reg.SUP_CHn_CFG_KEEP_SLEEP n, 1), (Reg.SUP_CHn_CFG_KEEP_DEEP n, 1),
     (Reg.SUP_CHn_CFG_DRAM_SR n, if n = 2 then 1 else 0), (Reg.SUP_CHn_THR_UV n, 2048), (Reg.SUP_CHn_THR_OV n, 3925),
     (Reg.SUP_CHn_LVL_PG n, 2048), (Reg.SUP_CHn_LVL_OFF n, 341),
     (Reg.SUP_GRPg_CFG_T_READY n, 50), (Reg.SUP_GRPg_CFG_DELAY_UP n, 5), (Reg.SUP_GRPg_CFG2_T_OFF n, 50),
     (Reg.SUP_GRPg_CFG2_DELAY_DOWN n, 5)])).flatten

/-- Read the rail table (R357): of the chosen bank, else of the other one, else from ROM. -/
def State.loadRails (s : State) : State :=
  let b := s.get Reg.CFG_STATUS_BANK
  let sup (x : Block) : Bool := x == Block.sup
  match (s.bankImg b).filter (fun i => i.railCrc), (s.bankImg (1 - b)).filter (fun i => i.railCrc) with
  | some i, _ => (s.loadImg sup i.fields).put Reg.SUP_STATUS_TABLE_ROM 0
  | none, some i => (s.loadImg sup i.fields).put Reg.SUP_STATUS_TABLE_ROM 0
  | none, none => (romTable.foldl (fun (t : State) e => t.put e.1 e.2) (s.loadImg sup [])).put Reg.SUP_STATUS_TABLE_ROM 1

/-! Steps 1 to 4 (R417, R419, R420, R422, R446, R462). -/

/-- The newest boot record asks for a safe-mode start (R422, R424): three failed starts in a row, or a safe-mode start that
no Clear has ended. -/
def Boot.wantsSafe (b : Boot) : Bool :=
  decide (3 ≤ b.count) || (b.bootLog.getLast?.any (fun r => r.safe && r.kind == 2))

/-- AON has been lost (R407, R417, R436, R445, R446, R517): the operating time resumes from its copy with 600 s added, the
event numbers above those found. -/
def State.aonResume (s : State) : State :=
  let s1 := (s.incWrap Reg.SYS_OPSEC_SECONDS (s.boot.opsecNor + 600)).incWrap Reg.SYS_OPSEC_PWR_CYCLES s.boot.cyclesNor
  (s1.evrRebase (s.boot.opsecNor + 600) s.boot.cyclesNor).put Reg.UMB_ENDUR_LEVEL_LEVEL 0

/-- The recorder at a start (R446, R452, R461, R462): at a cold start SEQ resumes above what is found, and the march test of the
event area decides its mode. -/
def State.evrBegin (s : State) (i : StartIn) (cold : Bool) : State :=
  let s := if cold then s.evrResume else s
  let s1 :=
    if cold ∧ i.ringTest then
      if s.evrMode = 2 then s.put Reg.EVR_MEM_MODE 0 else if s.evrMode = 3 then s.put Reg.EVR_MEM_MODE 1 else s
    else if cold then s.ringFailed [] else s
  s1.evrStart i.norTest

/-- The NOR meets R405: it answers, offers SFDP, has 16 to 256 MiB, a 4 KiB erase type and a soft-reset method. -/
def StartIn.norMeets (i : StartIn) : Bool :=
  i.norOk && i.norSfdp && i.norErase4 && i.norSoft && decide (24 ≤ i.norLog2) && decide (i.norLog2 ≤ 28)

/-- The NOR as SFDP describes it (R405, R441): it is read with 1-4-4 or else 1-1-4, where SFDP lists them. Without a sampling
point at 100 MHz it is read at 50 MHz, the frequency of 1-1-1 commands, which READ then shows (R543; DEDUCED). -/
def State.norInfo (s : State) (i : StartIn) : State :=
  let s1 := ((s.put Reg.CFG_NOR_INFO_SIZE_LOG2 i.norLog2).put Reg.CFG_NOR_INFO_READ
    (if !i.norFast then 0 else if i.nor144 then 2 else if i.nor114 then 1 else 0)).putB Reg.CFG_NOR_INFO_ESUSP i.norEsusp
  (s1.putB Reg.CFG_NOR_INFO_ADDR4 (decide (24 < i.norLog2))).setEvr (s.evr.norSize i.norLog2)

/-- What a start does to the NOR first (R407, R408): the sectors that an erase intent names are erased again, and the areas'
copies are checked; a clash of two valid copies is recorded. -/
def State.norCheck (s : State) (i : StartIn) : State :=
  let s1 := i.badCopies.foldl (fun (t : State) e => t.spoilCopy e.1 e.2) s
  let s2 : State := { s1 with boot := { s1.boot with intents := [] } }
  s2.norClashes.foldl (fun (t : State) k => t.ev .cfg 0x1004 6 k) s2

/-- The start fails before the NOR can take a record (R421 reason 11). -/
def State.norRefused (s : State) : State :=
  let s1 := (s.put Reg.SYS_STATUS_LAST_FAIL 11).ev .sys 0x1001 6 11
  ({ s1 with boot := { s1.boot with starting := false, startStep := 0, startRec := false } } : State).downBegin .startFail false

/-- Every start clears the CFG lock, gives port A the first tie (R38), the watchdog runs on ROM values, and safe mode is
decided (R422, R433, R435). -/
def State.startCommon (s : State) (i : StartIn) (cold : Bool) : State :=
  let s1 := ((s.evrBegin i cold).norInfo i).put Reg.CFG_CTRL_LOCK 0
  let s2 := { s1 with boot := { s1.boot with
    wdtStage := 1, wdtLatch := false, kickHalf := false, trial := false, aonPatchWait := false, starting := true } }
  let s3 := (s2.putB Reg.SYS_STATUS_SAFE s2.boot.wantsSafe).put Reg.WDT_STATUS_STAGE 0
  (({ s3 with pmr := { s3.pmr with lastTie := none } } : State).chooseBank).bootNote 1 0 cold

/-- The image checked (R411, R419 step 4): what CFG shows of it; its hash is in the AON start record. -/
def State.imgTaken (s : State) : State :=
  let s1 : State := { s with boot := { s.boot with
    running := s.chosen, startRec := s.chosen.isSome || s.boot.startRec,
    hashCache := s.boot.banks.map (fun b => b.map (fun i => i.hash)) } }
  match s.chosen with
  | some i =>
    (((s1.put Reg.CFG_STATUS_RUN_VALID 1).put Reg.CFG_IMG_SEQ_SEQ i.seq).put Reg.CFG_SVN_RUNNING i.svn).put
      Reg.SYS_STATUS_NO_IMAGE 0
  | none =>
    (((s1.put Reg.CFG_STATUS_RUN_VALID 0).put Reg.CFG_IMG_SEQ_SEQ 0).put Reg.CFG_SVN_RUNNING 0).put Reg.SYS_STATUS_NO_IMAGE 1

/-- Steps 1 to 3 of R419, and a start from OFF with AON kept (R417): the bank is chosen, the rail table is read, group 0 is
enabled. -/
def State.startPower (s : State) (i : StartIn) : State :=
  let lost := !s.boot.powered
  let cold := lost || !s.boot.startRec
  let s1 := ((if cold then s.put Reg.PWR_WAKE_COUNT 0 else s).put Reg.SYS_STATUS_PATH (if cold then 0 else 4)).putB
      Reg.PWR_AON_AON_LOST lost
  let s2 : State := { s1 with
    boot := { s1.boot with powered := true },
    rails := { s1.rails with ffQueue := s1.rails.ffQueue.map (fun (r : FFRecord) => { r with late := true }) } }
  let s0 := s2.norCheck i
  let s3 := s0.put Reg.SYS_STATUS_SR_VALID 0
  if !i.norMeets then s3.norRefused
  else
    let s4 := (if s3.evr.provisional then s3.aonResume else s3).startCommon i cold
    if s4.chosen.isNone && !s4.flag Reg.SYS_STATUS_SAFE then s4.startFails 1
    else
      let s5 := (if cold then s4 else s4.imgTaken).loadRails.enableGroup 0
      { s5 with boot := { s5.boot with startStep := if cold then 2 else 4 } }

/-- The chosen bank's image has the hash that the AON start record holds of the bank (R420 step 4). -/
def State.hashHeld (s : State) : Bool :=
  let b := s.get Reg.CFG_STATUS_BANK
  (s.boot.hashCache.getD b none) == (s.bankImg b).map (fun i => i.hash)

/-- The bank of a warm reset (R420 step 2), and the save list's CRC at the exit from DEEP (R393). A hash that differs from
the one that the start record holds sends the start down the cold path (R420). -/
def State.startWarm (s : State) (i : StartIn) : State :=
  if !i.norMeets then s.norRefused
  else
    let u := s.norCheck i
    let s0 : State := if s.get Reg.SYS_STATUS_PATH = 3 ∧ s.flag Reg.PWR_SAVE_VALID ∧ !i.saveOk then
        (({ u with pwr := { u.pwr with savedOk := false } } : State).put Reg.PWR_SAVE_CRC_ERR 1).ev .pwr 0x1003 5 0
      else { u with pwr := { u.pwr with savedOk := true } }
    let s1 := (s0.put Reg.PWR_AON_AON_LOST 0).startCommon i false
    if s1.chosen.isNone && !s1.flag Reg.SYS_STATUS_SAFE then s1.startFails 1
    else if s1.hashHeld then s1.imgTaken
    else (((s1.put Reg.SYS_STATUS_PATH 0).put Reg.SYS_STATUS_SR_VALID 0).put Reg.PWR_WAKE_COUNT 0).imgTaken

/-! Domains (R390, R419 step 6, R420 step 1). -/

/-- The image that runs is a pair-mode image (R16). -/
def State.pairImage (s : State) : Bool :=
  match s.boot.running with
  | some i => mgetD i.fields Reg.ECH_STATUS_PAIR_MODE.key 0 == 1
  | none => false

/-- The domains that a start brings up, in the order of R390; without an image neither DRAM nor NAND starts (R425). -/
def State.startDomains (s : State) : List Domain :=
  if s.flag Reg.SYS_STATUS_NO_IMAGE then [.ctrl, .fab, .host]
  else [Domain.ctrl, .fab, .dram, .nand] ++ (if s.pairImage then [Domain.echo] else []) ++ [Domain.host]

/-- The next domain to come up begins (R390). -/
def State.nextDomain (s : State) : State :=
  match s.startDomains.find? (fun d => !s.domOn d) with
  | some d => { s with pwr := { s.pwr with upDom := some d, upStep := 0, upRetry := false } }
  | none => { s with pwr := { s.pwr with upDom := none, upStep := 0 } }

/-- Every domain of the start runs. -/
def State.domainsUp (s : State) : Bool := s.pwr.upDom.isNone && s.startDomains.all s.domOn

/-- Step 6 begins (R419): the root PLL locks, and the domains come up one at a time. -/
def State.beginDomains (s : State) : State :=
  let s1 := (s.put Reg.CLK_STATUS_LOCK 1).put Reg.CLK_STATUS_XTAL_OK 1
  (({ s1 with boot := { s1.boot with startStep := 5 } } : State).console [0, 5]).nextDomain

/-- The rails up to BOOT_GROUP are ready (R357, R419 step 4): PD_CTRL comes up. -/
def State.bootGroupReady (s : State) : State :=
  { s with
    boot := { s.boot with startStep := 3 },
    rails := { s.rails with wait := .boot },
    pwr := { s.pwr with upDom := some Domain.ctrl, upStep := 0, upRetry := false } }

/-- MRST_N, a watchdog reset or a warm commit (R66, R365, R418, R428): ingest closes, the links go down, accepted writes and
held writes are completed (a granule that was to come from the peer is taken without its copy, R131), DRAM enters
self-refresh with its validity flag set, the reset domains go off, and a warm start follows. The clock-fault state ends, a
staging is lost (R432), and above 115 °C the start waits for the die to cool (R550). -/
def State.warmReset (s : State) (path : Nat) : State :=
  let s1 := (s.leaveOn 10).closeIngest.dropRequest.linksOff
  let s2 := (s1.pmr.merge.map (fun e => e.1)).foldl (fun (t : State) g => t.fetchDone g true) s1
  let s3 := (((s2.grottoPowerLoss).cutRehearsal).learnAgain.restCut).stagingLost
  let s4 : State := { s3 with
    dmc := { s3.dmc with selfRefresh := true, pool := [], waiting := [], panicDir := 0 },
    broker := { s3.broker with held := [], queue := [] },
    boot := { s3.boot with starting := true, startStep := 4, wdtStage := 1, hotWait := decide (115 < s.tjunction) },
    pwr := { s3.pwr with upDom := none, upStep := 0, relocking := false, badWindows := 0 },
    host := { s3.host with waiting := [], latches := HostSide.init.latches, snaps := [] },
    deferred := [],
    vlt := { s3.vlt with waitPeer := false, openKind := none } }
  let s5 := ((s4.setDom .ctrl .off).setDom .fab .off).put Reg.SYS_STATUS_SR_VALID
    (if s.dmc.selfRefresh then s.get Reg.SYS_STATUS_SR_VALID else b2n (s.domSt .dram != .off))
  let s6 := ((s5.put Reg.CLK_STATUS_HOLD 0).put Reg.CLK_STATUS_FAULT 0).put Reg.CLK_STATUS_SUP_BACKUP 0
  (s6.put Reg.SYS_STATUS_PATH path).put Reg.VLT_STATUS_PHASE 0

/-- The last group is ready (R358, R361): ON. A start goes on with the domains; MRST_N that came during the sequence leads to
its warm start (R365). -/
def State.seqReady (s : State) : State :=
  let s1 := (s.put Reg.SUP_STATUS_SEQ_DONE 1).setSeq seqOn
  let s2 : State := { s1 with rails := { s1.rails with wait := .none, mrstWait := false } }
  if s.rails.mrstWait then s2.warmReset 1
  else if s2.boot.starting ∧ s2.boot.startStep = 4 then s2.beginDomains
  else s2

/-- PD_CTRL is up at a cold start (R419 step 4): the image is checked, and the remaining groups are sequenced. -/
def State.ctrlUp (s : State) : State :=
  let s1 := s.imgTaken
  if s1.chosen.isNone && !s1.flag Reg.SYS_STATUS_SAFE then s1.startFails 1
  else
    let s2 := [1, 2, 3, 4].foldl (fun (t : State) (n : Nat) => t.console [0, n])
      ({ s1 with boot := { s1.boot with startStep := 4 } } : State)
    let g := s2.rails.reached
    if g < s2.lastGroup then s2.enableGroup (g + 1) else s2.seqReady

/-! Resets of the blocks (R517). -/

/-- What VLT keeps in AON (R106, R132, R517). -/
def vltKept : List Fld :=
  [Reg.VLT_CFG_FULL_SCAN_NEXT, Reg.VLT_STATUS_ARMED, Reg.VLT_STATUS_HOLD, Reg.VLT_VAULT_NUM_NUM, Reg.VLT_T_EARLY_DRAIN_NS,
   Reg.VLT_T_EARLY_CLOSE_NS, Reg.VLT_T_FIRST_FIRST_NS, Reg.VLT_T_SEAL_SEAL_US, Reg.VLT_GRANULES_COUNT,
   Reg.VLT_STRIPES_COUNT, Reg.VLT_FAULTS_DEGRADED, Reg.VLT_FAULTS_REWRITTEN, Reg.VLT_FAULTS_LUNS_OUT]

/-- UMB, VLT, GRT and ECH return to their reset values (R517); what they show of state that stands is kept: the cold-start
cap (R77), the bucket level, the last vault's registers, the Grotto's counters and the stored sequence. -/
def State.resetFabric (s : State) : State :=
  let s1 := (s.resetBlock .umb [Reg.UMB_STATUS_COLD_CAP, Reg.UMB_ENDUR_LEVEL_LEVEL]).resetBlock .vlt vltKept
  let s2 := ((s1.resetRw .grt).put Reg.GRT_STATUS_FORMAT_ARMED 0).resetBlock .ech [Reg.ECH_SEQ_STORED_SEQ]
  { s2 with
    umb := { s2.umb with rehearsal := none, published := false, fillAt := none, issued := 0, overruns := 0, borrowing := false,
                          overdraw := false, seepR := 0, falls := Umbra.init.falls, clamps := Umbra.init.clamps },
    grt := { s2.grt with gc := none, openFails := 0 } }

/-- What FLC and DMC keep in AON at a cold start that has kept it (R221, R277, R281, R517): the FLC_CNT registers, the counters of
the integrity registers, and FORCE_FULL. -/
def Fld.flcDmcKept (f : Fld) : Bool :=
  (decide (0x180040 ≤ f.off) && decide (f.off < 0x180060)) ||
    [Reg.DMC_CE_CNT_COUNT, Reg.DMC_UE_CNT_VAULT, Reg.DMC_UE_CNT_TOTAL, Reg.DMC_SCRUB_STATUS_PASSES, Reg.DMC_RH_STATUS_THROTTLES,
      Reg.DMC_TRN_STATUS_ABORTS, Reg.DMC_TRN_STATUS_DEFERS, Reg.DMC_TRN_CFG_FORCE_FULL].contains f

/-- FLC and DMC return to their reset values (R517). -/
def State.resetMedia (s : State) : State :=
  { s with regs := s.regs.filter (fun e =>
      match Block.ofOff (keyOff e.1) with
      | some .flc => (fldOfKey e.1).any (fun f => f.flcDmcKept)
      | some .dmc => (fldOfKey e.1).any (fun f => f.flcDmcKept)
      | _ => true) }

/-! Image values and patches (R419 step 6, R420 step 4, R423, R431). -/

/-- The blocks whose saved values a DEEP exit restores (R393, R516). -/
def Block.saved (b : Block) : Bool :=
  b == .umb || b == .vlt || b == .grt || b == .flc || b == .dmc || b == .ech

/-- A start is a DEEP exit whose save list holds (R393). -/
def State.deepRestored (s : State) : Bool :=
  s.get Reg.SYS_STATUS_PATH == 3 && s.flag Reg.PWR_SAVE_VALID && s.pwr.savedOk

/-- Resets of a start and the loading of the "img" values; a changed GROTTO_BLOCKS waits for a format (R173). -/
def State.startValues (s : State) : State :=
  let path := s.get Reg.SYS_STATUS_PATH
  let s0 : State := { s with umb := { s.umb with published := false, fillAt := none, fillSec := none, waited := false } }
  let s1 := if path = 3 ∧ s.deepRestored then s0 else s0.resetFabric
  let s2 := if path = 0 ∨ (path = 3 ∧ !s.deepRestored) then s1.resetMedia else s1
  let fields := (s2.boot.running.map (fun i => i.fields)).getD []
  let s3 := if s2.flag Reg.SYS_STATUS_NO_IMAGE then s2
    else
      let t := s2.loadImg (fun b => !(s2.deepRestored && b.saved)) fields
      if t.grt.blocksIn = 0 then t else t.put Reg.GRT_GEOM_BLOCKS t.grt.blocksIn
  { s3 with boot := { s3.boot with wdtStage := if s3.flag Reg.WDT_CTRL_EN then 1 else 0 } }

/-- Apply the ROM patches (R423, R431): a record that does not apply fails the start; safe mode applies none. -/
def State.patch (s : State) (ok : Bool) : State × Bool :=
  let n := (s.boot.running.map (fun i => i.patches)).getD 0
  if s.flag Reg.SYS_STATUS_SAFE then
    (((s.put Reg.CFG_PATCH_SKIPPED 1).put Reg.CFG_PATCH_CP 0).put Reg.CFG_PATCH_AON 0, true)
  else if !ok && decide (0 < n) then (s, false)
  else ((s.put Reg.CFG_PATCH_SKIPPED 0).put Reg.CFG_PATCH_CP n, true)

/-! The DRAM (R224, R265, R266, R276, R423). -/

/-- The channels that the image populates. -/
def State.dramChannels (s : State) : List Nat := (List.range 4).filter (fun c => bitOf (s.get Reg.DMC_STATUS_CH_POP) c)

/-- A mask of channels. -/
def chanMask (l : List Nat) : Nat := (l.map (fun c => 2 ^ c)).foldl (· + ·) 0

/-- Each channel's training holds Bring-up leave for its duration, one after the other as leave allows (R27, R265, R266). -/
def State.trainLeave (s : State) (chs : List Nat) : State :=
  chs.foldl (fun (t : State) c => (t.underLeave (.training c) id).1) s

/-- The channels whose quick verify finds a margin below VERIFY_MARGIN (R265). -/
def State.lowMargins (s : State) (ms : List (Nat × Nat)) : List Nat :=
  (ms.filter (fun m => decide (m.2 < s.get Reg.DMC_TRN_CFG_VERIFY_MARGIN))).map (fun m => m.1)

/-- The controller as every start begins it (R260, R264): empty queues and tables, no position degraded. -/
def Dram.begun (d : Dram) : Dram :=
  { d with pool := [], waiting := [], banks := [], subs := [], panicDir := 0, rewrites := [], scrubAt := 0, mr4Normal := 0,
           clockWait := none, selfRefresh := false, covered := [], pos := mmap (fun _ p => { p with degraded := false }) d.pos }

/-- Initialise and train the DRAM: the start's failure reason, 0 for none (R224, R265, R266, R276, R421, R423). -/
def State.dramStart (s : State) (i : StartIn) : State × Nat :=
  let chs := s.dramChannels
  let cold : Bool := s.get Reg.SYS_STATUS_PATH == 0
  let safe := s.flag Reg.SYS_STATUS_SAFE
  let mis := if cold then i.mismatch.filter (fun k => chs.contains (k / 40)) else []
  let bad := i.badTrain.filter (fun b => chs.contains b.1)
  let sets := if cold then s.dmc.setsNor else s.dmc.setsAon
  let all : Bool := (s.setFor sets s.dramRate).isNone || s.flag Reg.DMC_TRN_CFG_FORCE_FULL
  let low := (s.lowMargins i.margins).filter chs.contains
  let full := chs.filter (fun c => all || low.contains c || s.dmc.freezeFound.contains c)
  let s0 := mis.foldl (fun (t : State) k => t.ev .dmc 0x1005 6 k) s
  let s1 := s0.trainLeave chs
  let s2 := if all then s1 else low.foldl (fun (t : State) c => t.ev .dmc 0x1006 3 c) s1
  let s3 := bad.foldl (fun (t : State) b => t.ev .dmc 0x1007 6 (b.1 * 16 + b.2)) s2
  let s4 := (s3.put Reg.DMC_TRN_STATUS_FULL (chanMask full)).put Reg.DMC_TRN_STATUS_FAILED
    (chanMask (chs.filter (fun c => bad.any (fun b => b.1 == c))))
  if mis ≠ [] ∧ !safe then (s4, 3)
  else if bad ≠ [] ∧ !safe then (s4, 4)
  else
    let frozen := chs.filter (fun c => mis.any (fun k => k / 40 == c) || bad.any (fun b => b.1 == c))
    let s5 := if full.isEmpty then s4 else s4.storeSet s4.dramRate
    let s6 := (if all then s5.put Reg.DMC_TRN_CFG_FORCE_FULL 0 else s5).put Reg.DMC_FRZ_STATUS_FROZEN (chanMask frozen)
    let s7 : State := { s6 with dmc := { s6.dmc.begun with setsAon := if cold then s6.dmc.setsNor else s6.dmc.setsAon } }
    let s8 := ((s7.put Reg.DMC_STATUS_READY 1).put Reg.DMC_STATUS_PANIC 0).put Reg.DMC_TRN_STATUS_STORED (s7.setMask s7.dmc.setsNor)
    (if frozen.isEmpty then s8.clearCond 0x20 else s8.setCond 0x20, 0)

/-! The flash devices (R182–R188, R210). -/

/-- A Read ID matches a profile: the bytes that the mask names are equal (R182). -/
def DevProfile.matchesId (p : DevProfile) (id : Nat) : Bool :=
  (List.range 6).all (fun k => !bitOf p.idMatch (48 + k) || bitsOf p.idMatch (8 * k) 8 == bitsOf id (8 * k) 8)

/-- The parity bytes of a codeword for a spare area (R189): the code of FLC_LDPC_CFG.PARITY. -/
def DevProfile.parity (p : DevProfile) : Option Nat :=
  let n := if p.page = 16384 then 4 else 2
  [3, 2, 1, 0].find? (fun k => decide (320 + n * (256 + 64 * k) ≤ p.spare))

/-- T_CARRY covers every program and suspend that a trip can find in progress on this profile's devices (R213). -/
def State.carryCovers (s : State) (p : DevProfile) : Bool :=
  let t := s.get Reg.UMB_FIXED_CFG_T_CARRY
  decide (p.tProg ≤ t) && decide (p.tSusp ≤ t) && (s.flag Reg.GRT_LEDGER_MODE || decide (p.tProgN ≤ t))

/-- The tests of R183 that concern one LUN alone, the Grotto's bounds (R142) and the bound of R213. -/
def State.lunFits (s : State) (f : FoundLun) (p : DevProfile) : Bool :=
  let n := s.get Reg.GRT_GEOM_BLOCKS
  f.paramOk && f.skips && (p.page == 8192 || p.page == 16384) && p.parity.isSome && decide (p.planes ≤ 6) &&
    decide (64 ≤ p.slcPages) && decide (p.slcPages ≤ 776) && decide (n ≤ f.good) && decide (n ≤ 65535) &&
    decide (n * p.slcPages ≤ 524288) && decide (p.tRead ≤ 30) && s.carryCovers p

/-- The geometry that R183 compares. -/
def DevProfile.geometry (p : DevProfile) : List Nat := [p.page, p.spare, p.planes, p.slcPages]

/-- A LUN is refused (R183, R213): recorded at severity 5. -/
def State.refuseLun (s : State) (l : Lun) (lun : Nat) : State := (s.setLun lun { l with st := .refused }).ev .flc 0x0006 5 lun

/-- SLC mode through Set Features once per LUN (R182 SLC_METHOD 1, R185 step 6), and the timing mode (step 5). -/
def DevProfile.setUp (p : DevProfile) (l : Lun) : Lun :=
  { l with timing := p.timing, features := if p.slcMethod = 1 then mset l.features p.slcFa p.slcFv else l.features }

/-- One LUN found (R183, R187, R210): accepted, or refused. `geo` is the geometry of the first accepted. -/
def State.foundLun (s : State) (geo : Option (List Nat)) (f : FoundLun) : State × Option (List Nat) :=
  let devs := (s.boot.running.map (fun i => i.devices)).getD []
  let old : Lun := { s.lun f.lun with uid := f.uid, readId := f.id, good := f.good }
  match devs.find? (fun e => e.2.matchesId f.id) with
  | none => (s.refuseLun old f.lun, geo)
  | some (k, p) =>
    let l : Lun := p.setUp { old with profile := k, queue := [], park := [], running := none, suspended := none }
    let same : Bool := geo.all (fun g => g == p.geometry)
    if !(s.lunFits f p && same) then (s.refuseLun l f.lun, geo)
    else
      match mget s.flc.ids f.lun with
      | some d =>
        if d.2 = f.uid then
          let st := match old.st with
            | .dead => LunSt.dead
            | .writeOut => LunSt.writeOut
            | _ => LunSt.active
          (s.setLun f.lun { l with st := st }, some p.geometry)
        else (((s.setLun f.lun { l with st := .refused }).ev .flc 0x0004 6 f.lun), geo)
      | none =>
        let s1 := s.setLun f.lun { l with st := .active }
        let ids' := mset s.flc.ids f.lun (f.id, f.uid)
        ({ s1 with flc := { s1.flc with ids := ids', idsNor := s1.flc.idsNor.write ids' } }, some p.geometry)

/-- The test erase, program and read of one of a LUN's spare blocks (R210): its erase is journalled and counted. -/
def State.testBlock (s : State) (n : Nat) : State :=
  match (mfilter (fun k b => k / 65536 == n && b.st == .spare) s.grt.tbl).head? with
  | some e => s.eraseNow (e.1 / 65536) (e.1 % 65536) .spare true 1
  | none => s

/-- The test of a LUN that left vault service in a vault or through time-outs (R210): it returns, recorded at severity 3, or
it stays in WRITE_OUT and is evacuated. -/
def State.lunTests (s : State) (tested : List Nat) : State :=
  let ns := (mfilter (fun _ l => l.st == .writeOut && l.awaitTest) s.flc.luns).map (fun e => e.1)
  ns.foldl (fun (t : State) n =>
    let u := (t.testBlock n).setLun n { t.lun n with awaitTest := false }
    if tested.contains n then
      let v := (u.setLun n { u.lun n with timeouts := [] }).lunState n .active 3
      { v with umb := { v.umb with wanted := true } }
    else u) s

/-- The state and rate of a channel as discovery leaves them (R185, R222): each fall-back is recorded at severity 4 and
raises CH_EV, and has a rehearsal wanted. -/
def State.chanFound (s : State) (i : StartIn) (c : Nat) : State :=
  let img := s.get Reg.FLC_IF_CFG_RATE
  let used : Bool := !(s.lunsOn c).isEmpty
  let rate := Nat.min img (((i.rates.find? (fun e => e.1 == c)).map (fun e => e.2)).getD img)
  let fell : Bool := used && decide (rate < img)
  let t := (s.put (Reg.FLC_CHn_STATUS_STATE c)
    (if i.chOut.contains c then 3 else if !used then 0 else if fell then 2 else 1)).put (Reg.FLC_CHn_STATUS_RATE c) rate
  if fell then
    let u : State := { t with umb := { t.umb with wanted := true } }
    ((List.range (img - rate)).foldl (fun (v : State) _ => v.ev .flc 0x0005 4 c) u).raise
      Reg.FLC_STATUS_CH_EV Reg.FLC_CTRL_INT_EN 59
  else t

/-- The channels that are up (R216): CHANNELS_UP counts those in state 1 or 2 (DEDUCED: an absent channel is not up). -/
def State.channelsUp (s : State) : Nat :=
  ((List.range 16).filter (fun c => s.get (Reg.FLC_CHn_STATUS_STATE c) == 1 || s.get (Reg.FLC_CHn_STATUS_STATE c) == 2)).length

/-- Discovery of a cold start (R184, R185, R187): what no longer answers is absent. A start that has lost AON checks the
identities against the NOR copy. -/
def State.discover (s : State) (i : StartIn) : State :=
  let found := sortBy (fun (f : FoundLun) => f.lun) (i.luns.filter (fun f => !i.chOut.contains (f.lun % 16)))
  let gone (n : Nat) : Bool := !(found.any (fun f => f.lun == n))
  let s1 : State := { s with flc := { s.flc with
    luns := s.flc.luns.filter (fun e => !gone e.1),
    ids := if s.flag Reg.PWR_AON_AON_LOST then (s.flc.idsNor.pick).getD [] else s.flc.ids } }
  let r := found.foldl (fun acc f => acc.1.foundLun acc.2 f) (s1, none)
  let g := r.2.getD []
  let s2 := if g = [] then r.1
    else ((r.1.put Reg.GRT_GEOM_PAGES (g.getD 3 0)).put Reg.GRT_GEOM_SUM_PAGES (if g.getD 3 0 ≤ 388 then 1 else 2)).put
      Reg.FLC_LDPC_CFG_PARITY ((match found.find? (fun f => (r.1.lun f.lun).st == .active) with
        | some f => ((r.1.devProfile f.lun).bind (fun p => p.parity)).getD 0
        | none => 0))
  let s3 := (List.range 16).foldl (fun (t : State) c => t.chanFound i c) s2
  s3.put Reg.FLC_STATUS_CHANNELS_UP s3.channelsUp

/-- A warm start finds a target whose Read ID differs from the stored one (R186). -/
def State.idChanged (s : State) (i : StartIn) : Bool :=
  i.luns.any (fun f => (s.lun f.lun).st != .absent && (s.lun f.lun).readId != f.id)

/-- Enough flash for a start (R188): 8 channels, and a channel of every seal group, with an ACTIVE LUN. -/
def State.enoughFlash (s : State) : Bool :=
  decide (8 ≤ s.vaultChannels.length) && s.recEnv.groups.all (fun l => !l.isEmpty)

/-- The flash devices at a start: discovery when cold or when a Read ID has changed (R186), the test of R210, READY. A Ledger
namespace that was never formatted has its full size, in LBA format 0. -/
def State.flashStart (s : State) (i : StartIn) : State :=
  let path := s.get Reg.SYS_STATUS_PATH
  let s1 := if path = 0 ∨ (path = 3 ∧ !s.deepRestored) ∨ s.idChanged i then s.discover i else s
  let s2 := (s1.lunTests i.tested).put Reg.FLC_STATUS_READY 1
  let s3 := if s2.grt.capRo then (s2.put Reg.GRT_STATUS_CAP_RO 1).setCond 0x10 else s2
  (if s3.grt.ledger.nsze = 0 then s3.ledgerSetup 0 else s3).grtSync

/-! The restore phase (R118, R124, R387, R418). -/

/-- Check the granule state table as a warm start does (R418). -/
def State.scrubTable (s : State) (i : StartIn) : State :=
  let mark (t : State) (g : Nat) : State := t.setGran g { t.gran g with dirty := true }
  if i.badTable then (s.cache.map.map (fun e => e.1)).foldl mark s
  else i.badWords.foldl (fun (t : State) w => ((List.range 32).map (fun k => 32 * w + k)).foldl mark t) s

/-- One granule of a channel that has frozen, as the start that returns the channel to service leaves it (R130, R276): taken
from the Grotto, or from the peer where the own newest version is there alone. DESIGN CHOICE: a dirty granule that no copy
covers was lost with the channel, and is poisoned as a loss to media. -/
def State.unfreezeGran (s : State) (best : NMap Placed) (g : Nat) : State :=
  let dirty := (s.gran g).dirty
  let s1 := s.setGran g { s.gran g with dirty := false, seeped := !dirty }
  let loc := (mget best g).map (fun p => (p.serial, p.page, p.slot))
  if (s.ent g).st = .poisoned then s1
  else if dirty && s.pair && decide (g < s.ownGrans) then s1.setEnt g ⟨.remote, loc, false, false⟩
  else if dirty then if g < s.ownGrans then (s1.poison g 0 3).setCond 0x02 else s1.poison g 0 3
  else if loc.isSome then s1.setEnt g ⟨.notCopied, loc, false, false⟩
  else { s1 with cache := { s1.cache with map := mdel s1.cache.map g, cells := clearCells s1.cache.cells (g * 4096) 4096 } }

/-- Rebuild the map by the summary scan where channels have been frozen (R276): every entry's location is the one found, and
the frozen channels' granules are placed anew; their stored errors are gone with the test. Both copies of the freeze record
are cleared. -/
def State.unfreeze (s : State) : State :=
  let best := s.chooseVers.1
  let chans := s.dmc.freezeFound
  let gs := (mergeAsc (s.cache.map.map (fun e => e.1)) (s.cache.grans.map (fun e => e.1))).filter
      (fun g => chans.contains (s.granChannel g))
  let found (g : Nat) (e : MapEnt) : MapEnt :=
    match mget best g with
    | some p => { e with loc := some (p.serial, p.page, p.slot) }
    | none => e
  let s1 : State := { s with cache := { s.cache with map := mmap found s.cache.map } }
  let s2 := gs.foldl (fun (t : State) g => t.unfreezeGran best g) s1
  let errs := mfilter (fun b _ => !chans.contains (s.dramAddr (b * 64)).ch) s2.dmc.errs
  { s2 with
    dmc := { s2.dmc.freezeNote [] with errs := errs, lossList := [] }
    pmr := { s2.pmr with copyDone := false } }

/-- The granule states of a DEEP exit (R387): nothing is dirty, ages start at 0. -/
def State.deepStates (s : State) : State :=
  let gs := mergeAsc (s.cache.map.map (fun e => e.1)) (s.cache.grans.map (fun e => e.1))
  let s1 := gs.foldl (fun (t : State) g =>
    t.setGran g { t.gran g with dirty := false, seeped := (t.ent g).st == .copied || (t.ent g).st == .poisoned }) s
  { s1 with cache := { s1.cache with ages := [] } }

/-- Open the PMR: READ_ONLY where a condition forbids writes, RESTORING while granules remain, else OPEN (R65). Ingest opens
against the next horizon (R20). -/
def State.openPmr (s : State) : State :=
  let st := if s.blocked then PmrState.readOnly else if s.restRemain != 0 then .restoring else .opened
  let s1 := ({ s with pmr := { s.pmr with ingestOpen := true, firstHorizon := false } } : State).fallback 2 true
  (s1.setPmr st).copyFinished.syncTurn

/-- A vault has been sealed that no open record follows yet: the clean vault of a DEEP entry (R386), or one after whose
seal MRST_N was applied (R116, R365). -/
def State.unopened (s : State) : Bool :=
  match s.newestOpen with
  | some o => decide (o.follows < s.newestVault)
  | none => false

/-- The path without restore (R66, R118, R418): entries in FETCHING return to their source, the session continues. -/
def State.openWarm (s : State) (i : StartIn) : State :=
  let s1 := s.scrubTable i
  let m := mmap (fun _ (e : MapEnt) =>
    if e.st = .fetching then { e with st := if e.fromPeer then MapSt.remote else MapSt.notCopied } else e) s1.cache.map
  let s2 : State := { s1 with
    cache := { s1.cache with map := m, inflight := [] }, vlt := { s1.vlt with basisOwn := 0, basisMir := 0 } }
  let s3 := ((if s2.dmc.freezeFound = [] then s2 else s2.unfreeze).put Reg.VLT_OUTCOME_PATH 0).put Reg.VLT_OUTCOME_KIND
    ((s2.newestOpen.map (fun o => o.kind)).getD 0)
  let s4 := if s3.get Reg.SYS_STATUS_PATH = 3 then s3.deepStates else s3
  if s4.unopened then { s4 with vlt := { s4.vlt with openKind := some 2 } } else s4.openPmr.startSuccess

/-- The newest commit asks for a format that no start has yet completed (R429). -/
def Boot.formatDue (b : Boot) : Bool :=
  match b.commits.getLast? with
  | some r => r.format && r.kind == 0 && !(b.bootLog.any (fun x => x.kind == 2 && x.commit == r.seq))
  | none => false

/-- Step 10 of R419 and step 7 of R420. A cold restore waits for its seal search; a fast one knows the seal. -/
def State.startRestore (s : State) (i : StartIn) : State :=
  let s1 := s.put Reg.SYS_START_MS_MS (Nat.min 65535 i.ms)
  let lines : List Nat := if s.get Reg.SYS_STATUS_PATH = 0 ∨ s.get Reg.SYS_STATUS_PATH = 4 then [6, 7, 8, 9, 10]
    else [1, 2, 3, 4, 6, 7, 8]
  let s2 := lines.foldl (fun (t : State) (n : Nat) => t.console [0, n])
    ({ s1 with boot := { s1.boot with startStep := 6 } } : State)
  let s3 := if s2.flag Reg.SYS_STATUS_SAFE then s2.setCond 0x11 else s2.clearCond 0x11
  if s3.flag Reg.SYS_STATUS_SR_VALID ∧ !s3.flag Reg.SYS_STATUS_SAFE then s3.openWarm i
  else
    let s4 := s3.put Reg.SYS_STATUS_SR_VALID 0
    let s5 : State := { s4 with
      grt := { s4.grt with startNo := s4.grt.startNo + 1 },
      cache := Cache.init,
      vlt := { s4.vlt with basisOwn := 0, basisMir := 0, openKind := none, waitPeer := false, fixed := false, ownBad := [] },
      dmc := if s4.dmc.freezeFound = [] then s4.dmc else s4.dmc.freezeNote [],
      pmr := { s4.pmr with poison := [], merge := [], conds := s4.pmr.conds.filter (fun c => [0x10, 0x11, 0x20, 0x21].contains c) } }
    if s5.boot.formatDue then (s5.put Reg.VLT_STATUS_PHASE 7).startFormat.ledgerFormat 0
    else if s5.flag Reg.PWR_AON_AON_LOST then s5.put Reg.VLT_STATUS_PHASE 7
    else s5.sealSearch

/-- The energy pair of the last vault at a cold start (R342): from the newest seal event that is held. -/
def State.vaultPair (s : State) : State :=
  match greatest (fun (x : EvRecord) => x.seq) (s.evr.heldRecs.filter (fun x => x.src == 7 && x.code == 2)) with
  | some x => (s.put Reg.LAN_VAULT_GUAR_E_MJ (x.snap.getD 5 0)).put Reg.LAN_VAULT_DELIV_E_MJ (x.snap.getD 6 0)
  | none => s

/-- Lantern at a start (R332): from its NOR copy when cold, else from the estimator area in AON. -/
def State.lanStart (s : State) : State :=
  match s.boot.running with
  | some im =>
    let faults := ports8.filter (fun n => s.modSt n == mFault)
    let path := s.get Reg.SYS_STATUS_PATH
    if path = 0 then ((faults.foldl (fun (t : State) n => t.ev .lan 0x0003 3 n) s).lanCold
        im.modules im.profiles im.hashModules).vaultPair
    else if path = 4 then
      let s0 := (faults.foldl (fun (t : State) n => t.ev .lan 0x0003 3 n) s).put Reg.LAN_STATUS_LOST 0
      let s1 : State := { s0 with lan := { s0.lan with
        profiles := im.profiles, tableHash := im.hashModules, rest := none, learn := none, sum := none,
        mods := ports8.map (fun n => (n, { s0.mod n with
          accepts := (mget im.modules n).getD [], idLast := none, idCount := 0, atStart := true, prev := none, valid := false,
          ovCnt := 0, otCnt := 0, iCnt := 0, restMs := 0, disMs := 0, agreeMs := 0 })) } }
      (ports8.foldl (fun (t : State) n =>
        t.put (Reg.LAN_Mn_STATUS_STATE n) (if ((mget im.modules n).getD []).isEmpty then mUnused else mAbsent)) s1).lanShow
    else ((faults.foldl State.faultOver s).put Reg.LAN_STATUS_LOST 0).lanShow
  | none => s

/-- The Echo port at a start (R286, R298, R302, R305, R423): a warm start resumes; safe mode holds the link down. -/
def State.echoStart (s : State) : State :=
  let path := s.get Reg.SYS_STATUS_PATH
  let warm : Bool := path != 0
  let e := s.ech
  let keep : Echo := { Echo.init with
    session := e.session, peerId := if s.flag Reg.PWR_AON_AON_LOST then e.peerNor.pick else e.peerId, peerNor := e.peerNor,
    resume := warm && s.flag Reg.SYS_STATUS_SR_VALID, zones := if path = 0 then [] else e.zones,
    allFrom := if path = 0 then some 0 else e.allFrom, lapses := e.lapses, misbs := e.misbs,
    heldUntilRejoin := e.heldUntilRejoin && warm, detachedAon := e.detachedAon && warm, needFull := !warm || e.needFull,
    newPeer := e.newPeer, mirLive := warm && e.mirLive, nextTag := e.nextTag }
  let s1 := ({ s with ech := keep } : State).put Reg.ECH_PEER_UID_UID_HASH (keep.peerId.getD 0)
  if !s1.pair then s1
  else
    let s2 := s1.setCond 0x21
    if s2.flag Reg.SYS_STATUS_SAFE then s2.setEcho eDetached 2
    else if keep.detachedAon then s2.setEcho eDetached 2
    else if keep.heldUntilRejoin then s2.setEcho eHeld 2
    else s2.echoTrain

/-- Without a valid image (R425): no DRAM, no NAND; the PMR stays CLOSED with ERR 0x11. -/
def State.startBare (s : State) : State :=
  let s1 := s.evrLate.setCond 0x11
  { s1 with boot := { s1.boot with startStep := 6 } }

/-- Steps 6 to 10 of R419, and steps 4 to 7 of R420, once every domain runs. -/
def State.startFinish (s : State) (i : StartIn) : State :=
  if s.flag Reg.SYS_STATUS_NO_IMAGE then s.startBare
  else
    let safe := s.flag Reg.SYS_STATUS_SAFE
    let p := s.startValues.patch i.patchOk
    if !p.2 then p.1.startFails 10
    else
      let d := p.1.dramStart i
      if d.2 ≠ 0 then d.1.startFails d.2
      else
        let s1 := d.1.flashStart i
        if !s1.enoughFlash && !safe then s1.startFails 5
        else ((((s1.lanStart).echoStart).bbSync).evrLate).startRestore i

/-- A start waits for PD_SUP to come up (R390, R419 step 1), and for a hot die to cool (R550). -/
def State.startReady (s : State) : Bool := s.boot.starting && !s.boot.hotWait && s.domOn .aon && s.domOn .sup

/-- COLD_START's and WARM_START's effect: the start takes the next step that needs what it finds outside. -/
def State.startStepWith (s : State) (i : StartIn) : State :=
  if !s.startReady then s
  else if s.boot.startStep = 1 then
    if 0 < s.get Reg.SUP_SEQ_STATUS_ATTEMPT ∧ s.rails.downWhy = .attemptFail then
      let s1 := s.loadRails.enableGroup 0
      { s1 with boot := { s1.boot with startStep := if s.get Reg.SYS_STATUS_PATH = 0 then 2 else 4 } }
    else s.startPower i
  else if s.boot.startStep = 4 ∧ s.seqState = seqOn ∧ s.rails.wait = .boot then s.beginTrans true true
  else if s.boot.startStep = 4 ∧ s.seqState = seqOn ∧ s.rails.wait = .none then
    let s1 := s.startWarm i
    if s1.boot.starting then s1.beginDomains else s1
  else if s.boot.startStep = 5 ∧ s.domainsUp then s.startFinish i
  else s

end Sys2Proof.Machine
end

