-- ==== Sys2Proof/Machine/RailOps.lean ====
section
/-! DEFINITION. Rail supervision and the sequencer's events (R349–R370): samples, confirmed faults, groups, presses. -/

namespace Sys2Proof.Machine

/-! The sequencer's requests (R361–R366). -/

/-- A vault under R108, or DOWN without one when no open record has been programmed in this start (R361). -/
def State.vaultOrDown (s : State) (cause : VaultCause) : State :=
  let s1 := (s.leaveOn cause.wake).announceDown
  if s1.rails.openedThisStart then s1.startVault cause false else s1.downBegin cause.down false

/-- A press was classified, or GRACE was entered (R362, R363). -/
def State.button (s : State) : State :=
  if s.domOn .sup then s.raise Reg.SUP_STATUS_BTN_EV Reg.SUP_CTRL_INT_EN 60 else s

/-- GRACE is over (R361): ORDERLY_S has elapsed, or every port with PMRCTL.EN = 1 reports shutdown complete. -/
def State.graceOver (s : State) : State := if s.seqState = seqGrace then s.vaultOrDown .grace else s

/-- Every port with PMRCTL.EN = 1 reports shutdown complete (R361). -/
def State.portsShut (s : State) : Bool :=
  let shut (p : Port) : Bool := !(s.port p).pmrEn || (s.nvme p).shst == 2
  shut .a && shut .b

/-- A port has reported shutdown complete, or has cleared PMRCTL.EN (R361). -/
def State.graceTurn (s : State) : State := if s.portsShut then s.graceOver else s

/-- Enter GRACE (R363); an ORDERLY_S of 0 goes straight to the vault, and so do ports that have all shut down. -/
def State.enterGrace (s : State) : State :=
  let s1 := ((s.setSeq seqGrace).put Reg.SUP_STATUS_OFF_PENDING 1).button
  if s1.get Reg.SUP_BTN_CFG_ORDERLY_S = 0 then s1.graceOver else s1.graceTurn

/-- An off request or a long press in UP (R361): latched; a DELAY_UP wait is cut short. -/
def State.latchUp (s : State) (why : DownWhy) : State :=
  let s1 : State := { s with rails := { s.rails with upLatched := true, downWhy := why } }
  let s2 := s1.put Reg.SUP_STATUS_OFF_PENDING 1
  if s.rails.wait = .ready then s2 else s2.downBegin why false

/-- An off request (R361): a short press in some states, or SUP_CTRL.OFF_REQ. -/
def State.offRequest (s : State) : State :=
  let st := s.seqState
  if st = seqOn then s.enterGrace
  else if st = seqUp then s.latchUp .offReq
  else if st = seqVault then
    (s.updVault (fun v => { v with offReq := true })).put Reg.SUP_STATUS_OFF_PENDING 1
  else if st = seqRetryWait then s.enterOff false
  else s

/-- A short press (R361, R362, R387). -/
def State.shortPress (s : State) : State :=
  let st := s.seqState
  if st = seqOff then s.wakeOff 4
  else if st = seqLockout then
    let s1 : State := { s with rails := { s.rails with chans := [] } }
    ((s1.put Reg.SUP_STATUS_LOCKOUT 0).put Reg.SUP_FAULT_LATCHED 0).powerOn 0
  else if st = seqGrace then
    ((s.button.setSeq seqOn).put Reg.SUP_STATUS_OFF_PENDING 0).ev .sup 0x0003 3 0
  else if st = seqDown then s.button.put Reg.SUP_STATUS_ON_PENDING 1
  else if st = seqVault then s.button.ev .sup 0x0002 2 0
  else if s.get Reg.PWR_STATUS_STATE = pwrDeep then s.button.wake 4
  else s.button.offRequest

/-- A long press (R108, R361, R362). -/
def State.longPress (s : State) : State :=
  let st := s.seqState
  if st = seqUp then s.button.latchUp .longPress
  else if st = seqOn ∨ st = seqGrace then s.button.vaultOrDown .longPress
  else if st = seqVault then s.button.ev .sup 0x0002 2 1
  else s.button

/-- A cut press (R361, R364). -/
def State.cutPress (s : State) : State :=
  if s.seqState = seqOff ∨ s.seqState = seqLockout then s
  else
    let s1 := s.button.ev .sup 0x2002 7 0
    let s2 := if s1.rails.ffTaken then s1 else s1.takeFF 0 5 0
    ((s2.put Reg.VLT_STATUS_HOLD 0).fastOff .cutPress)

/-- WAKE_N (R361, R366, R387). -/
def State.wakePin (s : State) : State :=
  let st := s.seqState
  let p := s.get Reg.PWR_STATUS_STATE
  if st = seqOff then (if s.flag Reg.SUP_SEQ_CFG_WAKE_ON_OFF then s.wakeOff 5 else s)
  else if st = seqDown then
    (if s.flag Reg.SUP_SEQ_CFG_WAKE_ON_OFF then s.put Reg.SUP_STATUS_ON_PENDING 1 else s)
  else if st = seqOn ∧ (p = pwrSleep ∨ p = pwrDeep ∨ p = pwrEntering) then s.wake 5
  else s

/-- MRST_N (R361, R365): between a trip or vault start and the seal it is recorded and latched; a sequence in progress
continues. -/
def State.mrst (s : State) : State :=
  let st := s.seqState
  if st = seqVault then (s.updVault (fun v => { v with mrst := true })).ev .sup 0x0002 2 2
  else if st = seqUp ∨ st = seqDown then { s with rails := { s.rails with mrstWait := true } }
  else if (st = seqOn ∨ st = seqGrace) ∧ s.get Reg.PWR_STATUS_STATE ≠ pwrDeep then s.warmReset 1
  else s

/-- SYS_CTRL.WARM_RST (R292, R365): as MRST_N, announced to the peer. -/
def State.warmRst (s : State) : State :=
  if s.seqState = seqOn ∨ s.seqState = seqGrace then s.announceDown.mrst else s.mrst

/-! Groups (R358–R360). -/

/-- The attempt fails (R360). -/
def State.attemptFails (s : State) : State :=
  let why := s.rails.downWhy
  if s.rails.upLatched then s.downBegin why false else s.downBegin .attemptFail false

/-- The group being enabled is ready (R358). -/
def State.groupReady (s : State) : State :=
  if s.rails.upLatched then s.downBegin s.rails.downWhy false
  else { s with rails := { s.rails with wait := .delayUp } }

/-- A rail of the group being enabled meets the ready criterion (R358). -/
def State.railReady (s : State) (n : Nat) : Bool :=
  let c := s.chan n
  decide (Nat.max 1 (s.get Reg.SUP_SCAN_CFG_PG_SCANS) ≤ c.pgCnt) && !c.ovConf

/-- The off criterion of a group (R359): the rail that R369 still holds enabled is not waited for here. -/
def State.railsOff (s : State) (g : Nat) : Bool :=
  (s.walkRails g).all (fun n => (s.chan n).offOk || s.flag (Reg.SUP_CHn_VAL_EN n))

/-! Faults (R351–R355, R360, R367). -/

/-- The severity of an action (R353). -/
def actSev (act : Nat) : Nat := if act = 0 then 3 else if act = 1 then 5 else if act = 2 then 6 else 7

/-- Latch a fault (R355): SUP_FAULT and the pins follow. -/
def State.latchFault (s : State) (n act : Nat) : State :=
  if act = 0 then s
  else
    let s1 := s.setChan n { s.chan n with lat := Nat.max act (s.chan n).lat }
    let m := s1.get Reg.SUP_FAULT_LATCHED
    if bitOf m n then s1 else s1.put Reg.SUP_FAULT_LATCHED (m + 2 ^ n)

/-- A channel confirmed a fault in the scan of the first-fail record: OUT_MASK lists it (R367). -/
def State.noteInScan (s : State) (n : Nat) : State :=
  let m := if bitOf s.rails.scanMask n then s.rails.scanMask else s.rails.scanMask + 2 ^ n
  let s1 : State := { s with rails := { s.rails with scanMask := m } }
  if s.rails.ffInScan then
    let q := s1.rails.ffQueue.map (fun (r : FFRecord) => if r.recNo + 1 = s1.rails.ffNext then { r with outMask := m } else r)
    ({ s1 with rails := { s1.rails with ffQueue := q } } : State).put Reg.SUP_FF_MASK_OUT_MASK m
  else s1

/-- A fault that begins a failure takes the first-fail record (R367); none does from a trip onward. -/
def State.firstFail (s : State) (n kind code : Nat) : State :=
  if s.rails.ffTaken || s.rails.ffBarred then s
  else
    let s1 := s.takeFF n kind code
    { s1 with rails := { s1.rails with ffInScan := true } }

/-- What VAULT_OFF or CUT leads to while the sequencer is in ON or GRACE (R353, R361). -/
def State.runFault (s : State) (n act : Nat) : State :=
  if act = 3 ∧ s.flag (Reg.SUP_CHn_CFG_VAULT_USE n) then s.downBegin .runFault false
  else s.vaultOrDown .railFault

/-- A fault is confirmed (R351–R355, R360, R392): kind 1 undervoltage, 2 overvoltage. -/
def State.railFault (s : State) (n kind code : Nat) : State :=
  let act := s.get (if kind = 1 then Reg.SUP_CHn_CFG_UV_ACT n else Reg.SUP_CHn_CFG_OV_ACT n)
  let sup := s.flag Reg.SUP_STATUS_VAULT_SUPPRESS
  let en := s.flag (Reg.SUP_CHn_VAL_EN n)
  let s1 := (s.put (if kind = 1 then Reg.SUP_CHn_VAL_UV_LATCH n else Reg.SUP_CHn_VAL_OV_LATCH n) 1).noteInScan n
  let s2 := if kind = 1 ∧ s.flag (Reg.SUP_CHn_CFG_DRAM_SR n) then s1.put Reg.SYS_STATUS_SR_VALID 0 else s1
  let s3 := ((if sup then s2 else s2.latchFault n act).ev .sup 0x2001 (actSev (if sup then 0 else act)) (n + 256 * kind)).raise
    Reg.SUP_STATUS_FAULT_EV Reg.SUP_CTRL_INT_EN 60
  if sup then (if act = 3 ∧ kind = 2 then s3.put (Reg.SUP_CHn_VAL_EN n) 0 else s3)
  else if act < 2 then s3
  else
    let s4 := s3.firstFail n kind code
    let s5 := if act = 3 then s4.put (Reg.SUP_CHn_VAL_EN n) 0 else s4
    if s.seqState = seqUp then (if en then s5.attemptFails else s5)
    else if s.seqState = seqOn ∨ s.seqState = seqGrace then s5.runFault n act
    else s5

/-! The scan (R349–R352). -/

/-- A channel is used: in a group, or monitor only (R376). -/
def State.railUsed (s : State) (n : Nat) : Bool := decide (s.railGroup n < 8) || s.railGroup n == 15

/-- The undervoltage comparison is on (R352). -/
def State.uvOn (s : State) (n : Nat) : Bool :=
  let g := s.railGroup n
  let st := s.seqState
  let run : Bool := st == seqOn || st == seqGrace || st == seqVault
  if g = 15 then run
  else if !s.flag (Reg.SUP_CHn_VAL_EN n) then false
  else if st = seqUp then decide (g < s.rails.reached) || (g == s.rails.reached && s.rails.wait != .ready)
  else if st = seqDown then decide (g < s.rails.reached)
  else !(s.rails.inTransition && s.rails.wait == .ready && g == s.rails.reached && (s.walkRails g).contains n)

/-- Rails with VAULT_USE = 0 raise no fault during a vault (R352). -/
def State.suppressed (s : State) (n : Nat) : Bool :=
  s.flag Reg.SUP_STATUS_VAULT_SUPPRESS && !s.flag (Reg.SUP_CHn_CFG_VAULT_USE n)

/-- One channel's sample is compared, filtered, and acted on when confirmed (R351, R352). -/
def State.compareRail (s : State) (n code : Nat) : State :=
  let filt := Nat.max 1 (s.get Reg.SUP_SCAN_CFG_FILT)
  let hyst := s.get Reg.SUP_SCAN_CFG_HYST
  let uv := s.get (Reg.SUP_CHn_THR_UV n)
  let ov := s.get (Reg.SUP_CHn_THR_OV n)
  let c := s.chan n
  let uOn := s.uvOn n && !s.suppressed n
  let oOn := !s.suppressed n
  let uc := if uOn ∧ code < uv then Nat.min filt (c.uvCnt + 1) else 0
  let oc := if oOn ∧ ov < code then Nat.min filt (c.ovCnt + 1) else 0
  let uNew : Bool := uc == filt && !c.uvConf
  let oNew : Bool := oc == filt && !c.ovConf
  let uConf : Bool := uOn && (uNew || (c.uvConf && decide (code < uv + hyst)))
  let oConf : Bool := oOn && (oNew || (c.ovConf && decide (ov < code + hyst)))
  let pg := if s.get (Reg.SUP_CHn_LVL_PG n) ≤ code then Nat.min 8 (c.pgCnt + 1) else 0
  let off : Bool := decide (code ≤ s.get (Reg.SUP_CHn_LVL_OFF n))
  let s1 := s.setChan n { c with uvCnt := uc, ovCnt := oc, uvConf := uConf, ovConf := oConf, pgCnt := pg, offOk := off }
  let s2 := if uNew then s1.railFault n 1 code else s1
  if oNew then s2.railFault n 2 code else s2

/-- The ready and the off criterion after a sample (R358, R359). -/
def State.seqProgress (s : State) : State :=
  let g := s.rails.reached
  if s.rails.wait = .ready ∧ (s.walkRails g).all s.railReady then s.groupReady
  else if s.rails.wait = .off ∧ s.railsOff g then { s with rails := { s.rails with wait := .delayDown } }
  else s

/-- RAIL_SCAN_SAMPLE's effect (R349). -/
def State.railSample (s : State) (n code : Nat) : State :=
  if !s.domOn .sup || decide (64 ≤ n) then s
  else
    let s0 : State := if n = 0 then { s with rails := { s.rails with scanMask := 0, ffInScan := false } } else s
    let s1 := s0.put (Reg.SUP_CHn_VAL_CODE n) code
    if !s1.railUsed n then s1
    else
      let s2 := s1.putB (Reg.SUP_CHn_VAL_READY n) (decide (s1.get (Reg.SUP_CHn_LVL_PG n) ≤ code))
      (s2.compareRail n code).seqProgress

/-- A ready timeout of one rail taken as an undervoltage confirmed at T_READY (R355, R358, R359, R392): its latch, its pins
and its record, of kind "ready timeout". -/
def State.missedReady (s : State) (n : Nat) : State :=
  let act := s.get (Reg.SUP_CHn_CFG_UV_ACT n)
  let s1 := if s.flag (Reg.SUP_CHn_CFG_DRAM_SR n) then s.put Reg.SYS_STATUS_SR_VALID 0 else s
  ((s1.latchFault n act).ev .sup 0x2001 (actSev act) (n + 256 * 3)).raise Reg.SUP_STATUS_FAULT_EV Reg.SUP_CTRL_INT_EN 60

/-- GROUP_READY_TIMEOUT's effect (R358–R360): LOG and ALERT rails that miss PG do not fail the group; on the way back from SLEEP
or DEEP a failing rail takes its undervoltage action. -/
def State.readyTimeout (s : State) : State :=
  if s.rails.wait ≠ .ready then s
  else
    let up : Bool := s.seqState == seqUp
    let miss := (s.walkRails s.rails.reached).filter (fun n => !s.railReady n)
    let soft (n : Nat) : Bool := decide (s.get (Reg.SUP_CHn_CFG_UV_ACT n) < 2) && !(up && (s.chan n).ovConf)
    let hard := miss.filter (fun n => !soft n)
    let s1 := (if up then miss.filter soft else miss).foldl State.missedReady s
    match hard with
    | [] => s1.groupReady
    | n :: _ =>
      let act := s1.get (Reg.SUP_CHn_CFG_UV_ACT n)
      let s2 := (if up then s1.latchFault n act else s1).firstFail n 3 (s1.get (Reg.SUP_CHn_VAL_CODE n))
      if up then s2.attemptFails
      else (if act = 3 then s2.put (Reg.SUP_CHn_VAL_EN n) 0 else s2).runFault n act

/-- DELAY_UP_EXPIRY's effect (R357, R358). -/
def State.delayUp (s : State) : State :=
  if s.rails.wait ≠ .delayUp then s
  else
    let g := s.rails.reached
    if s.rails.inTransition then s.transUp (g + 1)
    else if s.boot.startStep = 2 ∧ (s.get Reg.SUP_SEQ_CFG_BOOT_GROUP ≤ g ∨ s.lastGroup ≤ g) then s.bootGroupReady
    else if s.lastGroup ≤ g then s.seqReady
    else s.enableGroup (g + 1)

/-- OFF_TIMEOUT's effect (R359). -/
def State.offTimeout (s : State) : State :=
  if s.rails.wait ≠ .off then s
  else
    let left := (s.walkRails s.rails.reached).filter (fun n => !(s.chan n).offOk && !s.flag (Reg.SUP_CHn_VAL_EN n))
    let s1 := left.foldl (fun (t : State) n => t.ev .sup 0x1004 4 n) s
    { s1 with rails := { s1.rails with wait := .delayDown } }

/-- DELAY_DOWN_EXPIRY's effect (R359). -/
def State.delayDown (s : State) : State :=
  if s.rails.wait ≠ .delayDown then s
  else
    let g := s.rails.reached
    if s.rails.inTransition then s.transDown g
    else if g = 0 then (if s.rails.norHold then { s with rails := { s.rails with wait := .norHold } } else s.downFinish)
    else s.disableGroup (g - 1)

/-- RETRY_DELAY_EXPIRY's effect (R360, R361). -/
def State.retryOver (s : State) : State :=
  if s.seqState = seqRetryWait then s.powerOn (s.get Reg.SUP_SEQ_STATUS_ATTEMPT + 1) else s

/-- SUP_CTRL.FAULT_CLR (R355): the latches of the rails that are back in window clear. -/
def State.faultClr (s : State) : State :=
  (List.range 64).foldl (fun (t : State) n =>
    let c := t.chan n
    if c.lat ≠ 0 ∧ !c.uvConf ∧ !c.ovConf then
      let m := t.get Reg.SUP_FAULT_LATCHED
      (t.setChan n { c with lat := 0 }).put Reg.SUP_FAULT_LATCHED (if bitOf m n then m - 2 ^ n else m)
    else t) s

/-- The NOR_SUPPLY rail that a power-down kept is disabled (R369); a power-down that waits for nothing else is then over. -/
def State.norRelease (s : State) : State :=
  if s.rails.norHold then
    let s1 := (List.range 64).foldl (fun (t : State) n =>
      if t.flag (Reg.SUP_CHn_CFG_NOR_SUPPLY n) then t.put (Reg.SUP_CHn_VAL_EN n) 0 else t) s
    let s2 : State := { s1 with rails := { s1.rails with norHold := false } }
    if s2.rails.wait = .norHold then s2.downFinish else s2
  else s

/-- The sector that takes the next first-fail record (R369): the current one, or the other once it is erased; none where the
record has to wait. -/
def Rails.ffSector (r : Rails) : Option Nat :=
  if (lget r.ffNor r.ffCur []).length < 64 then some r.ffCur
  else if (lget r.ffNor (1 - r.ffCur) []).isEmpty then some (1 - r.ffCur)
  else none

/-- FF_NOR_WRITE's effect (R369, R370): the oldest waiting record is one page program in the supervision log. -/
def State.ffWrite (s : State) : State :=
  match s.rails.ffQueue, s.rails.ffSector with
  | r :: rest, some k =>
    let s1 : State := { s with rails := { s.rails with
      ffQueue := rest, ffCur := k, ffNor := lset s.rails.ffNor k (lget s.rails.ffNor k [] ++ [r]) } }
    if rest.isEmpty then s1.ffErase.norRelease else s1.ffErase
  | _, _ => s

end Sys2Proof.Machine
end

