-- ==== Sys2Proof/Machine/ReturnOps.lean ====
section
/-! DEFINITION. The trip, the input's return, the open record and what follows the seal (R104–R106, R108, R115–R117). -/

namespace Sys2Proof.Machine

/-- A trip that starts no vault is latched and recorded (R105, R106). -/
def State.tripNoted (s : State) : State := s.ev .vlt 0x0004 4 0

/-- A trip in a vault in progress (R105, R108, R114): HOLD_EN is asserted while the vault-arm flag is set. A clean vault of a
DEEP preparation goes on as the vault of this trip. -/
def State.tripInVault (s : State) : State :=
  let s1 := s.updVault (fun v => { v with tripped := true })
  let s2 := if s1.flag Reg.VLT_STATUS_ARMED then s1.put Reg.VLT_STATUS_HOLD 1 else s1
  if s2.seqState = seqVault then s2
  else ((((s2.setSeq seqVault).leaveTrip).put Reg.SUP_STATUS_VAULT_SUPPRESS 1).put Reg.WDT_STATUS_MASKED 1).linksOff

/-- POWER_FAIL_TRIP's effect (R105, R106, R361, R383): what the trip finds decides. -/
def State.powerTrip (s : State) : State :=
  if !s.domOn .aon || !s.vlt.input then s
  else
    let s0 : State := { s with vlt := { s.vlt with input := false, counting := false }, rails := { s.rails with ffBarred := true } }
    let st := s.seqState
    match s.vlt.cur with
    | some v => if v.sealed then s0.tripNoted else s0.tripInVault
    | none =>
      if st = seqUp then (s0.ev .sup 0x1003 5 0).fastOff .inputLoss
      else if st = seqDown then ({ s0.tripNoted with rails := { s0.tripNoted.rails with fast := true } } : State).downFinish
      else if st = seqRetryWait then s0.tripNoted.enterOff true
      else if st = seqOn ∨ st = seqGrace then
        if s.flag Reg.CLK_STATUS_HOLD then (s0.tripNoted).downBegin .inputLoss false
        else if s.get Reg.PWR_STATUS_STATE = pwrDeep then s0.tripNoted
        else if !s.rails.openedThisStart then (s0.tripNoted).fastOff .inputLoss
        else if s.flag Reg.VLT_STATUS_ARMED then s0.startVault .trip true
        else (s0.rollback.dropRequest).tripNoted
      else s0.tripNoted

/-- INPUT_RETURNED's effect (R115–R117, R366): the return time has passed without a break. -/
def State.inputReturned (s : State) : State :=
  if s.vlt.input && s.vlt.counting then
    let s1 : State := { s with vlt := { s.vlt with counting := false } }
    if s1.vlt.cur.isSome then s1.put Reg.VLT_STATUS_INPUT_RET 1
    else if s1.seqState = seqOff ∧ s1.rails.autoOn ∧ s1.flag Reg.SUP_SEQ_CFG_AUTO_ON then s1.wakeOff 13
    else s1
  else s

/-! The open record (R104, R154). -/

/-- Add a poisoned granule to the ranges: one range for a run of wholly poisoned granules of one owner and reason. -/
def addRange (l : List PRange) (r : PRange) : List PRange :=
  match l with
  | p :: t =>
    if p.owner = r.owner ∧ p.reason = r.reason ∧ p.mask = 0 ∧ r.mask = 0 ∧ p.start + p.count = r.start then
      { p with count := p.count + 1 } :: t
    else r :: p :: t
  | [] => [r]

/-- The poison list in force (R53, R104, R154). -/
def State.poisonList (s : State) : List PRange :=
  (s.pmr.poison.foldl (fun l e => addRange l
    { start := s.granIndex e.1, count := 1, owner := s.granOwner e.1, reason := e.2.reason, mask := e.2.mask }) []).reverse

/-- Write poison ranges into a poison-list stripe of the next open band (R154); its pages program within the command. The
ranges left over follow in further stripes, at most `fuel`. -/
def State.poisonStripes : Nat → List PRange → State → State
  | 0, _, s => s
  | fuel + 1, rs, s =>
    if rs = [] then s
    else
      let s0 := State.openBandsN 16 s
      match s0.nextBandFor with
      | none => s0
      | some b =>
        let room := 1024 * (usablePages (s0.get Reg.GRT_SERIAL_NEXT) (s0.bandLayout b)).length
        let x := s0.newStripe b 0 0 (fun _ _ => .poisons (rs.take room))
        State.poisonStripes fuel (rs.drop room) ((s0.logStripe b x).closeFull b)

/-- The open record of a kind, as it is programmed now (R154), of record sequence `seq`; `first` is the stripe serial before
its poison-list stripes. -/
def State.openRecordOf (s : State) (kind seq first : Nat) : OpenRecord :=
  let peer := s.get Reg.ECH_SEQ_STORED_SEQ + 1
  let a : Bool := s.owner == .a
  let next := s.get Reg.GRT_SERIAL_NEXT
  let rs := s.poisonList
  { recSeq := seq, session := s.get Reg.GRT_SESSION_SESSION + 1, follows := s.newestVault, kind := kind,
    serialAt := next, seqA := if a then s.pmr.nextSeq else peer, seqB := if a then peer else s.pmr.nextSeq,
    epochA := if a then s.pmr.epoch else s.pmr.peerEpoch, epochB := if a then s.pmr.peerEpoch else s.pmr.epoch,
    keyGen := s.get Reg.GRT_KEY_KEY_GEN, plFirst := if first < next then first else 0,
    plLast := if first < next then next - 1 else 0, total := rs.length, ranges := rs.take 1000, startNo := s.grt.startNo }

/-- The clean vault of a format (R172): nothing is dirty; a power-down follows. -/
def State.formatVault (s : State) : State := s.startVault .format false

/-- The open record has programmed (R104–R106, R116, R136): the vault-arm flag sets, a session begins, and the PMR opens. PHASE
leaves 7 when nothing is left to copy. A
format written at run time goes on with its clean vault (R172). -/
def State.openDone (s : State) (kind : Nat) (o : OpenRecord) (ms : Nat) : State :=
  let s1 : State := { s with
    grt := { s.grt with opens := s.grt.opens ++ [o], openFails := 0 },
    rails := { s.rails with openedThisStart := true },
    vlt := { s.vlt with openKind := none } }
  let s2 := ((s1.put Reg.GRT_SESSION_SESSION o.session).put Reg.VLT_OUTCOME_KIND kind).put Reg.VLT_STATUS_ARMED 1
  if s2.vlt.formatRun then s2.recordClean.formatVault
  else
    let s3 := if s2.boot.starting then s2.put Reg.VLT_RST_TIME_OPEN_MS (Nat.min 65535 ms) else s2
    let s4 := if kind = 0 then s3 else s3.raise Reg.VLT_STATUS_VAULT_DONE Reg.VLT_CTRL_INT_EN 55
    s4.recordClean.openPmr.startSuccess

/-- What precedes the open record (R154, R163, R172): the blocks whose erase failed in the format before it retire, the
staged journal entries are flushed, the ranges beyond the first 1,000 go into poison-list stripes. -/
def State.openReady (s : State) (kind : Nat) (worn : List Nat) : State :=
  let s1 := if kind = 0 then worn.foldl (fun (t : State) k => t.retireBlk (k / 65536) (k % 65536) 1) s else s
  let rs := s1.poisonList.drop 1000
  State.poisonStripes rs.length rs s1.journalFlushAll

/-- The round of open-record copies (R155): in each group the channels in order until one programs. -/
def State.openCopies (s : State) (fails : List Nat) : RecRound := s.grt.recRound s.recEnv 4 s.recEnv.groups fails .opened

/-- A program of a record page failed outside a vault (R168): the second failure of its block retires it. -/
def State.recFailed (s : State) (y : Nat × Nat) : State :=
  let v := s.blk y.1 y.2
  let s1 := s.setBlk y.1 y.2 { v with pfail := Nat.min 15 (v.pfail + 1) }
  if 1 ≤ v.pfail then s1.retireBlk y.1 y.2 2 else s1

/-- OPEN_RECORD_PROGRAMMED's effect (R104, R155): it counts as programmed when one copy succeeds; three rounds without one
end the start (R421 reason 6). -/
def State.openRecord (s : State) (fails worn : List Nat) (ms : Nat) : State :=
  match s.vlt.openKind with
  | none => s
  | some k =>
    if !s.vlt.input ∧ !s.boot.starting then s
    else
      let s1 := s.openReady k worn
      let r := s1.openCopies fails
      let s2 := r.bad.foldl State.recFailed { s1 with grt := r.grt }
      if r.good ≠ [] then s2.openDone k (s1.openRecordOf k (s1.grt.recSeq + 1) (s.get Reg.GRT_SERIAL_NEXT)) ms
      else
        let s3 : State := { s2 with grt := { s2.grt with openFails := s2.grt.openFails + 1 } }
        if 3 ≤ s3.grt.openFails then s3.startFails 6 else s3

/-! After the seal (R109 step 9, R116, R117, R361). -/

/-- A reset latched during the vault is applied after the seal (R114, R365, R433). -/
def State.latchedReset (s : State) (v : Vault) : State :=
  if v.mrst then s.warmReset 1
  else if s.boot.wdtLatch then ({ s with boot := { s.boot with wdtLatch := false } } : State).warmReset 2
  else s

/-- The vault ends and the board is powered down in reverse sequence (R108, R172, R361, R429). -/
def State.vaultDown (s : State) (v : Vault) : State :=
  let again : Bool := v.cause == .commit || v.cause == .format
  let s1 := if v.cause = .format ∧ s.flag Reg.SYS_STATUS_SAFE then s.bootNote 4 0 false else s
  let s2 : State := { s1.vaultOver with
    boot := { s1.boot with startRec := s1.boot.startRec && !again },
    vlt := { s1.vaultOver.vlt with formatRun := false } }
  s2.downBegin (if v.offReq && v.cause == .trip then .offReq else v.cause.down) false

/-- VAULT_RELEASE's effect: the seal and the tail page are written, or no seal copy could be programmed. Without the input
HOLD_EN is released and the device loses power; with it a vault that a trip began returns to service once the return time
has passed, and any other one powers down. -/
def State.vaultRelease (s : State) : State :=
  match s.vlt.cur with
  | none => s
  | some v =>
    if !((v.sealed && v.tailPage) || v.failed) then s
    else if !s.vlt.input then s.vaultOver.fastOff .inputLoss
    else if (v.cause ≠ .trip ∧ v.cause ≠ .deepPrep) ∨ v.offReq then s.vaultDown v
    else if s.vlt.counting then s
    else (s.vaultReturn).latchedReset v

/-- POST_VAULT_DOMAIN_UP's effect (R116 step 3): the domains are back, the links train, rails that SLEEP had switched off come
back (R359), and the open record of kind Superseded follows. -/
def State.postVault (s : State) : State :=
  if s.seqState = seqOn ∧ s.vlt.cur.isNone ∧ !s.boot.starting ∧ s.vlt.input ∧ !s.vlt.counting ∧ s.pmr.st = .closed ∧
      s.domSt .host = .off ∧ s.unopened then
    let s1 := s.setDom .host .on
    let s2 := (if s.pair then s1.setDom .echo .on else s1).beginTrans false true
    let s3 : State := { s2 with vlt := { s2.vlt with openKind := some 2 } }
    let s5 := (s3.phyRequest .a).phyRequest .b
    if s5.pair then s5.echoTrain else s5
  else s

/-! The clean vault of a DEEP preparation (R386 step 3). -/

/-- Close ingest and write an empty manifest, then the tail; the manifest's journal rules are those of any vault. It becomes the
last vault that the VLT registers describe (R132); its times from a trip are 0. -/
def State.cleanVault (s : State) : State :=
  let s0 := ((s.closeIngest.clearCounts).put Reg.VLT_STATUS_DEGRADED 0).put Reg.VLT_STATUS_INPUT_RET 0
  let s1 := ((s0.put Reg.VLT_T_EARLY_CLOSE_NS 0).put Reg.VLT_T_EARLY_DRAIN_NS 0).put Reg.VLT_T_FIRST_FIRST_NS 0
  let s2 : State := { s1 with
    vlt := { s1.vlt with cur := some (Vault.start .deepPrep false false) }, pwr := { s1.pwr with prep := 3 } }
  (s2.takeManifest).vaultPump

/-- SEAL_PROGRAMMED's effect: the seal of R112; after the clean vault the handshake of step 4 begins (R386). `begin` starts
that handshake. -/
def State.sealDone (s : State) (fails : List Nat) (us : Nat) (begin_ : State → State) : State :=
  let s1 := s.sealRound fails us
  match s1.vlt.cur with
  | some v =>
    if v.cause = .deepPrep ∧ !v.tripped ∧ (v.sealed ∨ v.failed) then
      let s2 := (s1.vaultOver).put Reg.VLT_STATUS_PHASE 0
      if v.sealed then begin_ { s2 with pwr := { s2.pwr with prep := 4 } } else s2
    else s1
  | none => s1

end Sys2Proof.Machine
end

