-- ==== Sys2Proof/Machine/PowerOps.lean ====
section
/-! DEFINITION. Device power states (R378–R393): requests, the handshake and its refusals, the sleep guard, the commits of
SLEEP and DEEP, the domains as they come up, and the AON supply. -/

namespace Sys2Proof.Machine

/-! Activity (R379). -/

/-- None of the activities that keep the device in RUN is going on (R379). -/
def State.quiet (s : State) : Bool :=
  s.umb.seepR == 0 && s.grt.gc.isNone && (s.restRemain == 0 || s.flag Reg.VLT_CTRL_COPY_PAUSE) &&
    !s.ech.rsActive && !s.ech.peerRs && s.slotsHeld == 0 && !s.rehearsing

/-- The device is in RUN or IDLE with the sequencer in ON, and no start is under way: an entry may begin. -/
def State.mayEnter (s : State) : Bool :=
  let st := s.get Reg.PWR_STATUS_STATE
  (st == pwrRun || st == pwrIdle) && s.seqState == seqOn && !s.boot.starting && s.vlt.cur.isNone

/-! The sleep guard (R384). -/

/-- The energy in joules that the dirty bytes and the admission floor need (R69, R384). -/
def State.sleepNeed (s : State) : Rat :=
  let p := s.vaultPower
  let m : Rat := (s.get Reg.UMB_MODEL_CFG_MARGIN : Rat) / 200
  let tData := ((s.dirtyBytes + s.umbFloor : Nat) : Rat) * 4100 / 4096 / s.vaultRate
  (tData * p + s.eCarry + p * ((50 : Rat) / 1000000 + (s.get Reg.UMB_FIXED_CFG_T_TAIL : Rat) / 1000000)) / (1 - m)

/-- The energy that the modules contribute. -/
def State.energyNow (s : State) : Rat := rsum (ports8.map s.contrib)

/-- The state of charge at which the integral of R331 from `se` reaches `need`: along the pieces of the table. -/
def socReach (tab : List Rat) (drop : Rat) : List Rat → Rat → Rat → Rat
  | [], a, need => Config.ocvBeyond a need
  | b :: rest, a, need =>
    let ya := ocvOf tab a - drop
    let area := (b - a) * (ya + (ocvOf tab b - drop)) / 2
    if area < need then socReach tab drop rest b (need - area)
    else
      let slope := (ocvOf tab b - ocvOf tab a) / (b - a)
      if slope = 0 then a + need / ya else a + (Config.sqrtQ (ya * ya + 2 * slope * need) - ya) / slope

/-- The x at which R331 gives a module the energy `e` (R384). -/
def State.guardX (s : State) (m : Module) (f : Profile) (k e : Rat) : Rat :=
  let cg := m.ct f * (1 - k * m.sc)
  let ve := s.vEnd m f
  let drop := s.iVault * (m.esrT f + f.rPath)
  if f.cap then drop + Config.sqrtQ ((ve - drop) * (ve - drop) + 2 * e / cg)
  else
    let tab := f.table m.temp
    let se := f.hinv m.temp ve
    socReach tab drop (((List.range 21).map (fun (n : Nat) => (n : Rat) / 20)).filter (fun q => decide (se < q))) se (e / (3600 * cg))

/-- The lower bound x_g of R331. -/
def Module.xg (m : Module) (f : Profile) (i v k : Rat) : Rat :=
  let t := m.temp
  let z := v - i * m.esrT f
  let sz := Config.sqrtQ (m.sz2 f i v)
  let hd := f.hd t m.x
  let sv := sz / rabs hd
  let xv := if f.cap || (hd != 0 && decide (sv ≤ 3 / 100)) then f.hinv t z - k * sv else f.hinv t (z + k * sz)
  rmin (m.x - k * Config.sqrtQ m.p) xv

/-- The least whole number not below a number that is not negative. -/
def rceil (a : Rat) : Nat := if (rfloor a : Rat) < a then rfloor a + 1 else rfloor a

/-- The guard of one contributing module (R384): voltage in millivolts, charge limit in millicoulombs. -/
def State.guardOf (s : State) (port : Nat) (share : Rat) : Option Guard :=
  let m := s.mod port
  match s.profOf port, m.prev with
  | some f, some (i, v) =>
    let k : Rat := s.get Reg.LAN_FILT_CFG_K
    let x := s.guardX m f k share
    let volts := f.h m.temp x + k * Config.sqrtQ (m.sz2 f i v)
    let cg := m.ct f * (1 - k * m.sc)
    let limit := (if f.cap then cg else 3600 * cg) * (m.xg f i v k - x)
    some { port := port, vGuard := rceil (volts * 1000), limit := rnat (limit * 1000), tempIn := m.temp, lowCnt := 0 }
  | _, _ => none

/-- The guard of every contributing module; none where it cannot be set (R384). -/
def State.guardPlan (s : State) : Option (List Guard) :=
  let e := s.energyNow
  let need := s.sleepNeed
  if e < need then none
  else some ((ports8.filter (fun n => decide (0 < s.contrib n))).filterMap (fun n => s.guardOf n (need * s.contrib n / e)))

/-! The handshake (R381, R382). -/

/-- The domains in the order in which they are asked (R381). -/
def voteOrder : List Domain := [.host, .echo, .nand, .dram, .fab, .ctrl, .sup]

/-- The next domain to ask: those that are off are not asked. -/
def State.nextVote (s : State) : Option Domain :=
  voteOrder.find? (fun d => s.domOn d && !s.pwr.agreed.contains d)

/-- Begin the handshake with a target (R378, R381). -/
def State.beginHandshake (s : State) (target : Nat) : State :=
  let s1 := (s.put Reg.PWR_STATUS_STATE pwrEntering).put Reg.PWR_STATUS_TARGET target
  let s2 : State := { s1 with pwr := { s1.pwr with agreed := [] } }
  ({ s2 with pwr := { s2.pwr with asking := s2.nextVote } } : State).echoStateSync

/-- A host port keeps its domain from sleeping (R381 reason 1). -/
def State.portBusy (s : State) (p : Port) : Bool :=
  let h := s.port p
  (h.linkUp && !h.inL1 && !h.l1En) || !(s.portQueue p).isEmpty || s.flow.any (fun x => x.1 == p) ||
    !h.nvme.fetches.isEmpty || !h.nvme.outs.isEmpty

/-- The reason for which a domain refuses; 0 when it agrees (R381). `busy` says that work is open which the model does not
hold: a TLP, a recent Echo frame, an operation of the domain's own. -/
def State.voteReason (s : State) (d : Domain) (busy : Bool) : Nat :=
  let deep : Bool := s.get Reg.PWR_STATUS_TARGET == pwrDeep
  let e := s.ech
  match d with
  | .host =>
    if busy || s.portBusy .a || s.portBusy .b || !s.pmr.barriers.isEmpty || !s.pmr.waitReads.isEmpty then 1 else 0
  | .echo =>
    if busy || s.echoState == eSync || e.rsActive || e.peerRs || !e.fwds.isEmpty || !e.fwdIn.isEmpty || !e.fwdWait.isEmpty then 2
    else 0
  | .nand => if busy || s.slotsHeld != 0 || !s.flc.rings.isEmpty || !s.grt.flights.isEmpty then 3 else 0
  | .dram =>
    if busy || s.get Reg.DMC_TRN_STATUS_WINDOW != 0 || s.dmc.clockWait.isSome || s.get Reg.DMC_REF_STATUS_OWED != 0 ||
        s.get Reg.DMC_FRZ_STATUS_FROZEN != 0 then 4 else 0
  | .fab =>
    if busy || !s.pmr.queueA.isEmpty || !s.pmr.queueB.isEmpty || !s.pmr.merge.isEmpty || (!deep && s.pmr.st == .closed) ||
        s.pmr.st == .restoring then 5 else 0
  | .ctrl =>
    if busy || !s.host.waiting.isEmpty || !s.deferred.isEmpty || s.boot.staging.isSome || s.boot.staged.isSome then 6
    else if (match s.lan.learn with
        | some l => l.discharging
        | none => false) || s.rehearsing then 7
    else if s.deficit || (!deep && s.guardPlan.isNone) then 8
    else 0
  | .sup => if busy || s.seqState != seqOn || s.get Reg.SUP_FAULT_LATCHED != 0 then 9 else 0
  | .aon => 0

/-- The refusal counter of a domain (R400). -/
def refuseCnt : Domain → Fld
  | .ctrl => Reg.PWR_REFUSE_CNT0_CTRL
  | .fab => Reg.PWR_REFUSE_CNT0_FAB
  | .dram => Reg.PWR_REFUSE_CNT0_DRAM
  | .nand => Reg.PWR_REFUSE_CNT1_NAND
  | .host => Reg.PWR_REFUSE_CNT1_HOST
  | .echo => Reg.PWR_REFUSE_CNT1_ECHO
  | _ => Reg.PWR_REFUSE_CNT0_SUP

/-- An entry is refused (R382): rollback, the counters, the event, and the retry of a pending request. -/
def State.refuse (s : State) (d : Domain) (reason : Nat) : State :=
  let target := s.get Reg.PWR_STATUS_TARGET
  let s1 := (s.rollback).incSat (refuseCnt d) 1
  let k := s1.pwr.k + 1
  let s2 := ({ s1 with pwr := { s1.pwr with k := k } } : State).put Reg.PWR_REFUSE_LAST_DOMAIN d.idx
  let s3 := ((s2.put Reg.PWR_REFUSE_LAST_REASON reason).put Reg.PWR_REFUSE_LAST_K (Nat.min 15 k)).put
    Reg.PWR_REFUSE_LAST_TARGET target
  let s4 := (s3.raise Reg.PWR_STATUS_REFUSE_EV Reg.PWR_CTRL_INT_EN 61).ev .pwr 0x0001 2 (d.idx + 8 * reason)
  (if s4.pwr.request ≠ 0 then s4.put Reg.PWR_STATUS_RETRY 1 else s4).echoStateSync

/-! The commits (R381, R384, R386, R391–R393). -/

/-- DRAM enters self-refresh (R392): queued writes are issued, queued reads are discarded. -/
def State.selfRefresh (s : State) : State :=
  let ws := (s.dmc.pool ++ s.dmc.waiting).filter (fun r => r.kind != .read)
  let s1 := ws.foldl (fun (t : State) r => t.writeBurst r.burst) s
  ({ s1 with dmc := { s1.dmc with
      selfRefresh := true, pool := [], waiting := [], banks := mmap (fun _ (b : Bank) => { b with openRow := none, hits := 0 })
        s1.dmc.banks } } : State).put Reg.SYS_STATUS_SR_VALID 1

/-- The commit of SLEEP (R377, R381, R384, R385): the guard is armed, the domains are retained, the watchdog pauses, and the
rails that SLEEP does not keep go off. -/
def State.commitSleep (s : State) : State :=
  let g := s.guardPlan.getD []
  let s1 := s.selfRefresh
  let s2 : State := [Domain.nand, .dram, .fab, .ctrl].foldl (fun (t : State) d => t.setDom d .retained)
    { s1 with pwr := { s1.pwr with guard := g, request := 0, agreed := [], asking := none, k := 0 } }
  let s3 := ((s2.put Reg.PWR_STATUS_STATE pwrSleep).put Reg.PWR_STATUS_TARGET 0).put Reg.PWR_STATUS_RETRY 0
  (((s3.put Reg.PWR_STATUS_GUARD 1).put Reg.WDT_STATUS_PAUSED 1).beginTrans false false).echoStateSync

/-- A register-file key is on the save list (R393). -/
def savedKey (k : Nat) : Bool :=
  match fldOfKey k with
  | some f => (f.acc == .rw || f.acc == .rwl || f.acc == .w1c || f.acc == .w1s || f.acc == .rc) && f.inBlocks Block.saved
  | none => false

/-- The dwords of the save list: those of the registers that hold a field on it. -/
def saveWords : Nat :=
  ((Block.all.filter Block.saved).map (fun b => (b.rows.map (fun r =>
    if r.flds.any (fun f => f.acc == .rw || f.acc == .rwl || f.acc == .w1c || f.acc == .w1s || f.acc == .rc) then
      (if r.wide then 2 else 1) else 0)).foldl (· + ·) 0)).foldl (· + ·) 0

/-- A rail that DRAM needs in self-refresh is not kept in DEEP (R392). -/
def State.srLost (s : State) : Bool :=
  (List.range 64).any (fun n => decide (s.railGroup n < 8) && s.flag (Reg.SUP_CHn_CFG_DRAM_SR n) &&
    !s.flag (Reg.SUP_CHn_CFG_KEEP_DEEP n))

/-- The commit of DEEP (R386 step 5, R392, R393, R507). -/
def State.commitDeep (s : State) : State :=
  let s1 := (s.linksOff).selfRefresh
  let s2 := if s1.srLost then s1.put Reg.SYS_STATUS_SR_VALID 0 else s1
  let s3 : State := [Domain.nand, .dram, .fab, .ctrl].foldl (fun (t : State) d => t.setDom d .off)
    { s2 with
      pwr := { s2.pwr with
        saved := s2.regs.filter (fun e => savedKey e.1), savedOk := true, request := 0, agreed := [], asking := none, prep := 0,
        k := 0 },
      rails := { s2.rails with openedThisStart := false },
      ech := { s2.ech with goingDown := false },
      host := { s2.host with smb := { s2.host.smb with heldHealth := s.healthVals } } }
  let s4 := ((s3.put Reg.PWR_SAVE_VALID 1).put Reg.PWR_SAVE_WORDS saveWords).put Reg.VLT_STATUS_ARMED 0
  let s5 := ((s4.put Reg.PWR_STATUS_STATE pwrDeep).put Reg.PWR_STATUS_TARGET 0).put Reg.PWR_STATUS_RETRY 0
  (s5.put Reg.WDT_STATUS_PAUSED 1).beginTrans true false

/-- DOMAIN_VOTE's effect (R381): the domain asked agrees or refuses; the last agreement commits. -/
def State.vote (s : State) (busy : Bool) : State :=
  if s.get Reg.PWR_STATUS_STATE ≠ pwrEntering then s
  else
    match s.pwr.asking with
    | none => s
    | some d =>
      let r := s.voteReason d busy
      if r ≠ 0 then s.refuse d r
      else
        let s1 : State := { s with pwr := { s.pwr with agreed := s.pwr.agreed ++ [d] } }
        match s1.nextVote with
        | some n => { s1 with pwr := { s1.pwr with asking := some n } }
        | none => if s1.get Reg.PWR_STATUS_TARGET = pwrDeep then s1.commitDeep else s1.commitSleep

/-! Requests (R380, R386). -/

/-- A sleep request (R380, R382): it stays pending. -/
def State.sleepRequest (s : State) : State :=
  if s.flag Reg.SYS_STATUS_SAFE then s
  else
  let s1 := ({ s with pwr := { s.pwr with request := 2, k := 0 } } : State).put Reg.PWR_STATUS_RETRY 0
  if s1.mayEnter then s1.beginHandshake pwrSleep else s1

/-- The conditions of a deep request (R386). -/
def State.deepMay (s : State) : Bool :=
  let off (p : Port) : Bool := !((s.port p).linkUp && (s.port p).pmrEn)
  s.flag Reg.PWR_CFG_DEEP_EN && !s.flag Reg.SYS_STATUS_SAFE && off .a && off .b && s.seqState == seqOn &&
      (s.pmr.st == .opened || s.pmr.st == .readOnly)

/-- Preparation for DEEP, step 1 (R386). -/
def State.deepBegin (s : State) : State :=
  let s1 := (s.lanAbort 6).put Reg.PWR_STATUS_STATE pwrEntering
  let s2 : State := { s1 with pwr := { s1.pwr with prep := 2 }, ech := { s1.ech with goingDown := true } }
  ((s2.put Reg.PWR_STATUS_TARGET pwrDeep).echoStateSync).setSeepRate

/-- A deep request (R386): accepted only in its conditions. -/
def State.deepRequest (s : State) : State :=
  if !s.deepMay then s
  else
    let s1 := ({ s with pwr := { s.pwr with request := 3, k := 0 } } : State).put Reg.PWR_STATUS_RETRY 0
    if s1.mayEnter then s1.deepBegin else s1

/-- The back-off of a refused request has ended (R382). A request that came while no entry could begin is still pending (R380),
and begins here too. -/
def State.retryRequest (s : State) : State :=
  if s.pwr.request ≠ 0 ∧ s.mayEnter then
    let s1 := s.put Reg.PWR_STATUS_RETRY 0
    if s1.pwr.request = 2 then s1.beginHandshake pwrSleep
    else if s1.pwr.request = 3 ∧ s1.deepMay then s1.deepBegin
    else s1
  else s

/-- PWR_CTRL.CANCEL (R397). -/
def State.cancelRequest (s : State) : State := s.dropRequest

/-! Domains (R390). -/

/-- The exit from SLEEP (R385): every retained domain runs, the rails that SLEEP had switched off come back. -/
def State.sleepExit (s : State) : State :=
  if s.get Reg.PWR_STATUS_STATE = pwrExiting ∧ s.get Reg.PWR_WAKE_FROM = pwrSleep then
    ((s.sleepExitNow).beginTrans false true).echoStateSync
  else s

/-- TEST_MODE high holds PD_CTRL, PD_FAB, PD_HOST and PD_ECHO in reset (R546). -/
def State.testHolds (s : State) (d : Domain) : Bool :=
  s.test.mode && (d == .ctrl || d == .fab || d == .host || d == .echo)

/-- A domain coming up reports its next ready signal (R390); the last one ends its bring-up, unless TEST_MODE holds the
domain (R546). With PD_HOST the host PHYs ask for leave (R27). -/
def State.domainReady (s : State) : State :=
  match s.pwr.upDom with
  | none => s
  | some d =>
    if s.pwr.upStep < 3 then { s with pwr := { s.pwr with upStep := s.pwr.upStep + 1, upRetry := false } }
    else if s.testHolds d then
      ({ s with pwr := { s.pwr with upDom := none, upStep := 0, upRetry := false } } : State).setDom d .held
    else
      let s0 := (({ s with pwr := { s.pwr with upDom := none, upStep := 0, upRetry := false } } : State).setDom d .on)
      let s1 := if d = .host then (s0.phyRequest .a).phyRequest .b else s0
      if s1.boot.startStep = 3 ∧ s1.boot.starting then s1.ctrlUp
      else if s1.boot.startStep = 5 ∧ s1.boot.starting then s1.nextDomain
      else s1

/-- A second missed bound: the domain is held with LOGIC_OK = 0 (R390). -/
def State.domainHeld (s : State) (d : Domain) : State :=
  let m := s.get Reg.PWR_STATUS_DOM_FAIL
  let s1 := (s.put Reg.PWR_STATUS_DOM_FAIL (if bitOf m d.idx then m else m + 2 ^ d.idx)).ev .pwr 0x1005 6 d.idx
  ({ s1 with pwr := { s1.pwr with upDom := none, upStep := 0, upRetry := false } } : State).setDom d .held

/-- DOMAIN_BOUND_MISSED's effect (R390): retried once; the second miss holds the domain. A start then fails; an exit from
SLEEP or DEEP leads to the warm start of R66. -/
def State.domainMissed (s : State) (d : Domain) : State :=
  let up : Bool := s.pwr.upDom == some d
  let sleep : Bool := s.get Reg.PWR_STATUS_STATE == pwrExiting && s.domSt d == .retained
  if !(up || sleep) then s
  else if !s.pwr.upRetry then { s with pwr := { s.pwr with upRetry := true } }
  else
    let s1 := s.domainHeld d
    if sleep then s1.announceDown.warmReset 1
    else if s1.boot.starting ∧ s1.get Reg.SYS_STATUS_PATH = 3 then s1.warmReset 3
    else if s1.boot.starting then s1.startFails 8
    else s1

/-! The AON supply (R389, R534). -/

/-- PD_AON is reset (R389, R517, R534): every other domain is clamped and off without a register save, RAIL_EN is inactive,
HOLD_EN is released, and what AON held is lost. What stands on flash and in the NOR is kept. -/
def State.aonReset (s : State) : State :=
  let s1 := s.allOff
  let keep (k : Nat) : Bool :=
    Block.ofOff (keyOff k) == some .grt || k == Reg.UMB_STATUS_COLD_CAP.key || k == Reg.ECH_SEQ_STORED_SEQ.key
  { s1 with
    regs := s1.regs.filter (fun e => keep e.1)
    evr := { s1.evr with
      ring := [], opens := [], buffer := [], lostBySev := Recorder.init.lostBySev, lostLo := 0, lostHi := 0,
      views := Recorder.init.views, holes := [], challenge := none, refusals := [], provisional := true, tripSeq := none }
    rails := { Rails.init with ffNor := s1.rails.ffNor, ffCur := s1.rails.ffCur, ffNext := s1.rails.ffNext }
    broker := Broker.init
    pwr := Power.init
    dmc := { Dram.init with trainNor := s1.dmc.trainNor, norAt := s1.dmc.norAt, freezeNor := s1.dmc.freezeNor }
    flc := { s1.flc with ids := [] }
    ech := { Echo.init with session := s1.ech.session, peerNor := s1.ech.peerNor }
    grt := { s1.grt with staged := [], aonSeal := none, aonWps := [] }
    boot := { s1.boot with powered := false, startRec := false, trial := false, wdtStage := 0, wdtLatch := false, running := none,
                            staging := none, staged := none, hashCache := [none, none], intents := [] } }

end Sys2Proof.Machine
end

