-- ==== Sys2Proof/Machine/ClockOps.lean ====
section
/-! DEFINITION. The root clock's monitor, the clock fault and its relock (R25, R403, R404). -/

namespace Sys2Proof.Machine

/-- A clock fault (R25): ingest closes, the pins follow CLK_STATUS, the event, and one relock attempt. -/
def State.clockFault (s : State) : State :=
  if s.flag Reg.CLK_STATUS_FAULT ∨ !s.flag Reg.CLK_STATUS_LOCK then s
  else
    let s1 := ((s.closeIngest).put Reg.CLK_STATUS_FAULT 1).put Reg.CLK_STATUS_SUP_BACKUP 1
    let s2 := (s1.ev .clk 0x2001 7 0).raise Reg.CLK_STATUS_FAULT_EV Reg.CLK_CTRL_INT_EN 61
    let s3 := s2.incSat Reg.CLK_FAULT_CNT_FAULTS 1
    { s3 with pwr := { s3.pwr with relocking := true, badWindows := 0 } }

/-- CLOCK_MONITOR_WINDOW's effect (R25, R404): the count of one window of 32 AON cycles. -/
def State.clockWindow (s : State) (count : Nat) : State :=
  if !s.domOn .aon then s
  else
    let s1 := ((s.put Reg.CLK_MON_COUNT count).put Reg.CLK_MON_RANGE_MAX (Nat.max (s.get Reg.CLK_MON_RANGE_MAX) (count % 65536))).put
      Reg.CLK_MON_RANGE_MIN (Nat.min (s.get Reg.CLK_MON_RANGE_MIN) (count % 65536))
    if 24292 ≤ count ∧ count ≤ 24536 then { s1 with pwr := { s1.pwr with badWindows := 0 } }
    else if s1.pwr.badWindows = 0 then { s1 with pwr := { s1.pwr with badWindows := 1 } }
    else s1.clockFault

/-- Ingest was closed by a clock fault and nothing else keeps it closed. -/
def State.mayReopen (s : State) : Bool :=
  s.rails.openedThisStart && s.vlt.cur.isNone && s.vlt.openKind.isNone && s.pwr.prep == 0 && s.domOn .host &&
    (s.seqState == seqOn || s.seqState == seqGrace) && s.pmr.st == .closed

/-- The relock has succeeded (R25, R269): the DRAM training is verified against the stored values under Bring-up leave, a channel
with too little margin freezes, and ingest reopens. `margins` are the least margins found. -/
def State.relocked (s : State) (margins : List (Nat × Nat)) : State :=
  let low := s.lowMargins margins
  let s1 : State := { s with pwr := { s.pwr with relocking := false, badWindows := 0 } }
  let s2 := ((s1.put Reg.CLK_STATUS_FAULT 0).put Reg.CLK_STATUS_SUP_BACKUP 0).incSat Reg.CLK_FAULT_CNT_RELOCKS 1
  let s3 := s2.dramChannels.foldl (fun (t : State) c =>
    (t.underLeave (.training c) (fun u => if low.contains c then (u.freezeChan c ([], false)).settlePorts else u)).1) s2
  if s3.mayReopen then s3.openPmr else s3

/-- The relock has failed (R25, R106, R392, R394): the cache is in self-refresh, the PLL-derived clocks stop, and the domains
they feed are held. -/
def State.clockHold (s : State) : State :=
  let s1 := (s.linksOff).selfRefresh
  let s2 : State := [Domain.ctrl, .fab, .dram, .nand, .host, .echo].foldl (fun (t : State) d =>
      if s.domSt d = .off then t else t.setDom d .held)
    { s1 with pwr := { s1.pwr with relocking := false } }
  ((s2.put Reg.CLK_STATUS_HOLD 1).put Reg.CLK_STATUS_LOCK 0).put Reg.VLT_STATUS_ARMED 0

end Sys2Proof.Machine
end

