-- ==== Sys2Proof/Machine/RegActs.lean ====
section
/-! DEFINITION. What writes of the vendor registers start (R9: a write-only field acts as its meaning states): one operation
per block, given the word as written. `ow` is the register's word before the write. -/

namespace Sys2Proof.Machine

/-- The value that a word gives a field. -/
def Fld.of (f : Fld) (w : Nat) : Nat := w / 2 ^ f.lo % 2 ^ f.width

/-- The field is one bit and the word sets it. -/
def Fld.set (f : Fld) (w : Nat) : Bool := f.of w == 1

/-- Apply an effect if the word sets the bit. -/
def State.onBit (s : State) (f : Fld) (w : Nat) (k : State → State) : State := if f.set w then k s else s

/-! SYS (R414, R424, R438, R439). -/

/-- End safe mode (R424): a Clear record, then power-down and a cold start after RETRY_DELAY. -/
def State.leaveSafe (s : State) : State :=
  if s.flag Reg.SYS_STATUS_SAFE ∧ (s.seqState = seqOn ∨ s.seqState = seqGrace) then
    (s.bootNote 4 0 false).vaultOrDown .commit
  else s

/-- SAFE_CLR: the first write arms, the second within 1 s ends safe mode (R424). -/
def State.safeClr (s : State) : State :=
  if s.flag Reg.SYS_STATUS_SAFE_ARMED then (s.put Reg.SYS_STATUS_SAFE_ARMED 0).leaveSafe
  else s.put Reg.SYS_STATUS_SAFE_ARMED 1

/-- A word goes into the provisioning buffer of 20 words (R414). -/
def State.provWord (s : State) (w : Nat) : State :=
  if s.boot.prov.length < 20 then { s with boot := { s.boot with prov := s.boot.prov ++ [w % 2 ^ 32] } } else s

/-- The burn of a slot is allowed (R414): the slot is unused; slot 0 takes 20 words, slots 1 to 3 take 12 each, and those only
while the CFG lock is clear and the running image has PROVISION. -/
def State.burnOk (s : State) (slot : Nat) : Bool :=
  !(s.boot.otpSlots.getD slot (true, true)).1 &&
    (if slot = 0 then s.boot.prov.length == 20
     else s.boot.prov.length == 12 && !s.flag Reg.CFG_CTRL_LOCK && s.boot.running.any (fun i => i.provision))

/-- The number that 32-bit words spell, the lowest first. -/
def wordsNat : List Nat → Nat
  | [] => 0
  | w :: t => w % 2 ^ 32 + 2 ^ 32 * wordsNat t

/-- SYS_PROV_CTRL.BURN (R414, R439): slot 0 brings the image key with it. -/
def State.burn (s : State) : State :=
  let slot := s.get Reg.SYS_PROV_CTRL_SLOT
  if s.burnOk slot then
    let s1 : State := { s with boot := { s.boot with
      otpSlots := lset s.boot.otpSlots slot (true, (s.boot.otpSlots.getD slot (false, false)).2), prov := [],
      otpHash := lset s.boot.otpHash slot (wordsNat (s.boot.prov.take 12)),
      imgKey := if slot = 0 then wordsNat (s.boot.prov.drop 12) else s.boot.imgKey,
      fuses := if slot = 0 then mset s.boot.fuses Reg.SYS_OTP_IMG_KEY.key 1 else s.boot.fuses } }
    (s1.put Reg.SYS_PROV_CTRL_DONE 1).put Reg.SYS_PROV_CTRL_ERR 0
  else (s.put Reg.SYS_PROV_CTRL_DONE 0).put Reg.SYS_PROV_CTRL_ERR 1

/-- Writes of SYS registers. -/
def State.actSys (s : State) (o w : Nat) : State :=
  if o = 0x100004 then (s.onBit Reg.SYS_CTRL_SAFE_CLR w State.safeClr).onBit Reg.SYS_CTRL_WARM_RST w State.warmRst
  else if o = 0x100028 then s.onBit Reg.SYS_PROV_CTRL_BURN w State.burn
  else if o = 0x10002C then s.provWord w
  else s

/-! CLK and PWR (R387, R397, R404). -/

/-- CLK_CTRL.MON_CLR. -/
def State.monClr (s : State) : State := (s.put Reg.CLK_MON_RANGE_MAX 0).put Reg.CLK_MON_RANGE_MIN 65535

/-- PWR_CTRL.CNT_CLR: the refusal counters and PWR_OFFACC. -/
def State.pwrCntClr (s : State) : State :=
  Reg.rowsPwr.foldl (fun t r =>
    if r.off = 0x12001C ∨ r.off = 0x120020 ∨ r.off = 0x120024 then r.flds.foldl (fun u f => u.put f 0) t else t) s

/-- Writes of CLK and PWR registers. A change of the budget or the costs lets waiting leave requests be examined again. -/
def State.actPwr (s : State) (o w : Nat) : State :=
  if o = 0x110000 then s.onBit Reg.CLK_CTRL_MON_CLR w State.monClr
  else if o = 0x120000 then
    let s1 := (s.onBit Reg.PWR_CTRL_CNT_CLR w State.pwrCntClr).onBit Reg.PWR_CTRL_CANCEL w State.cancelRequest
    let s2 := (s1.onBit Reg.PWR_CTRL_SLEEP_REQ w State.sleepRequest).onBit Reg.PWR_CTRL_DEEP_REQ w State.deepRequest
    s2.onBit Reg.PWR_CTRL_WAKE_REQ w (fun t => t.wake 12)
  else if o = 0x120034 then s.leaveGrant
  else s

/-! SUP and LAN (R345, R355, R372). -/

/-- Writes of SUP registers. -/
def State.actSup (s : State) (o w : Nat) : State :=
  if o = 0x130000 then
    let s1 := s.onBit Reg.SUP_CTRL_FF_ACK w (fun t => t.put Reg.SUP_FF_INFO_VALID 0)
    (s1.onBit Reg.SUP_CTRL_FAULT_CLR w State.faultClr).onBit Reg.SUP_CTRL_OFF_REQ w State.offRequest
  else s

/-- Writes of LAN registers. -/
def State.actLan (s : State) (o w : Nat) : State :=
  if o = 0x140000 then
    let s1 := s.onBit Reg.LAN_CTRL_LEARN_CANCEL w (fun t => t.learnAbort 6)
    let s2 := s1.onBit Reg.LAN_CTRL_LEARN_REQ w (fun t => t.learnReq (t.get Reg.LAN_CTRL_LEARN_PORT))
    s2.onBit Reg.LAN_CTRL_FAULT_CLR w State.lanFaultClr
  else s

/-! UMB, VLT and GRT (R88, R133, R172, R176). -/

/-- A change of a software hold is recorded as a configuration event (R79, R126, R176). -/
def State.holdEvent (s : State) (b : Block) (f : Fld) (ow w : Nat) : State :=
  if f.of ow = f.of w then s else s.ev b 0x4001 3 (f.of w)

/-- VLT_CTRL.STAT_CLR: VLT_DEMAND_CNT, VLT_DEMAND_MAX and VLT_MERGE.FULL_CNT. -/
def State.vltStatClr (s : State) : State :=
  let s1 := Reg.rowsVlt.foldl (fun t r =>
    if r.off = 0x160038 ∨ r.off = 0x16003C then r.flds.foldl (fun u f => u.put f 0) t else t) s
  s1.put Reg.VLT_MERGE_FULL_CNT 0

/-- The Grotto format of a running device (R172): the cache is discarded, the Format open record follows, then the clean vault. -/
def State.formatNow (s : State) : State :=
  let s1 := (s.closeIngest).formatGrotto
  { s1 with vlt := { s1.vlt with openKind := some 0, formatRun := true } }

/-- GRT_CTRL.FORMAT (R172, R176): the first write arms; the second within 1 s requests the format, which needs the PMR in
READ_ONLY with ERR 0x10 or 0x11. -/
def State.grtFormat (s : State) : State :=
  if s.flag Reg.GRT_STATUS_FORMAT_ARMED then
    let s1 := s.put Reg.GRT_STATUS_FORMAT_ARMED 0
    let err := errCode s.pmr.conds
    if s.pmr.st = .readOnly ∧ (err = 0x10 ∨ err = 0x11) ∧ !s.vaulting ∧ !s.vlt.formatRun then s1.formatNow else s1
  else s.put Reg.GRT_STATUS_FORMAT_ARMED 1

/-- Writes of UMB, VLT and GRT registers. -/
def State.actData (s : State) (o ow w : Nat) : State :=
  if o = 0x150000 then
    let s1 := s.holdEvent .umb Reg.UMB_CTRL_SEEP_HOLD ow w
    let s2 := if Reg.UMB_CTRL_SEEP_HOLD.of ow = Reg.UMB_CTRL_SEEP_HOLD.of w then s1 else s1.setSeepRate
    s2.onBit Reg.UMB_CTRL_REH_START w (fun t => t.rehRequest.1)
  else if o = 0x160000 then
    (s.holdEvent .vlt Reg.VLT_CTRL_COPY_PAUSE ow w).onBit Reg.VLT_CTRL_STAT_CLR w State.vltStatClr
  else if o = 0x170000 then
    let s1 := s.holdEvent .grt Reg.GRT_CTRL_GC_HOLD ow w
    let s2 := if Reg.GRT_CTRL_GC_HOLD.of ow = Reg.GRT_CTRL_GC_HOLD.of w then s1 else s1.gcCheck false
    let s3 := s2.onBit Reg.GRT_CTRL_GC_NOW w (fun t => t.gcCheck true)
    (s3.onBit Reg.GRT_CTRL_JRNL_FLUSH w State.journalFlush).onBit Reg.GRT_CTRL_FORMAT w State.grtFormat
  else s

/-! FLC and DMC (R216, R220, R247, R253, R278, R279, R283). -/

/-- FLC_CTRL.RETRAIN_GO (R211, R216): ignored while TRIP is 1 and on a channel that is out or absent. Whether the channel
trains is what the devices answer: given, or a free value. -/
def State.retrainGo (s : State) (env : Option Bool) : State :=
  let ch := s.get Reg.FLC_CTRL_RETRAIN_CH
  let st := s.get (Reg.FLC_CHn_STATUS_STATE ch)
  if s.flag Reg.FLC_STATUS_TRIP ∨ st = 0 ∨ st = 3 then s
  else
    match env with
    | some ok => s.retrain ch ok
    | none => let b := s.fresh 1; b.2.retrain ch (b.1 == 1)

/-- FLC_CTRL.CNT_CLR: the FLC_CNT registers. -/
def State.flcCntClr (s : State) : State :=
  Reg.rowsFlc.foldl (fun t r =>
    if 0x180040 ≤ r.off ∧ r.off ≤ 0x180058 then r.flds.foldl (fun u f => u.put f 0) t else t) s

/-- FLC_EC_SEL loads FLC_EC_DATA (R161, R220). -/
def State.ecLoad (s : State) : State :=
  let lun := s.get Reg.FLC_EC_SEL_LUN
  let b := s.get Reg.FLC_EC_SEL_BLOCK
  let grotto : Bool := s.get Reg.FLC_EC_SEL_AREA == 0
  let n := if grotto then s.get Reg.GRT_GEOM_BLOCKS else s.ledgerBlocks lun
  let v := if grotto then s.blk lun b else s.lblk lun b
  if (s.lun lun).st ≠ .absent ∧ b < n then
    ((s.put Reg.FLC_EC_DATA_STATE v.st.code).put Reg.FLC_EC_DATA_PFAIL (Nat.min 15 v.pfail)).put Reg.FLC_EC_DATA_COUNT
      (Nat.min (2 ^ 24 - 1) v.ec)
  else ((s.put Reg.FLC_EC_DATA_STATE 15).put Reg.FLC_EC_DATA_PFAIL 15).put Reg.FLC_EC_DATA_COUNT (2 ^ 24 - 1)

/-- Writes of FLC and DMC registers. -/
def State.actMem (s : State) (o w : Nat) (env : Option Bool) : State :=
  if o = 0x180000 then
    (s.onBit Reg.FLC_CTRL_CNT_CLR w State.flcCntClr).onBit Reg.FLC_CTRL_RETRAIN_GO w (fun t => t.retrainGo env)
  else if o = 0x18002C then s.ecLoad
  else if o = 0x190000 then s.onBit Reg.DMC_CTRL_STAT_CLR w State.dmcStatClr
  else if o = 0x190050 then s.dmcXlate
  else if o = 0x190100 then s.onBit Reg.DMC_ECC_CTRL_CNT_CLR w State.eccCntClr
  else if o = 0x190114 then s.posLoad
  else if o = 0x190160 then s.diagRead
  else s

/-! ECH, EVR, CFG and WDT (R313, R317, R434, R466, R471). -/

/-- ECH_CTRL.CNT_CLR: ECH_CNT_NAK, ECH_CNT_LAPSE and ECH_CNT_FWD. -/
def State.echCntClr (s : State) : State :=
  Reg.rowsEch.foldl (fun t r =>
    if 0x1A0044 ≤ r.off ∧ r.off ≤ 0x1A004C then r.flds.foldl (fun u f => u.put f 0) t else t) s

/-- EVR_CTRL.CNT_CLR: EVR_LOST. -/
def State.evrCntClr (s : State) : State := (s.put Reg.EVR_LOST_OVERWRITTEN 0).put Reg.EVR_LOST_DROPPED 0

/-- WDT_KICK (R434): 0x5A, then 0xA5; accepted when every heartbeat bit is set, and it clears them. -/
def State.kick (s : State) (key : Nat) : State :=
  if key = 0x5A then { s with boot := { s.boot with kickHalf := true } }
  else
    let half := s.boot.kickHalf
    let s1 : State := { s with boot := { s.boot with kickHalf := false } }
    if key = 0xA5 ∧ half ∧ s.get Reg.WDT_HB_CP = 15 then
      let s2 : State := { s1 with boot := { s1.boot with wdtStage := if s1.boot.wdtStage = 0 then 0 else 1 } }
      (s2.put Reg.WDT_HB_CP 0).put Reg.WDT_STATUS_STAGE 0
    else s1

/-- WDT_CTRL.EN (R433): enabling starts stage 1, disabling stops the count. -/
def State.wdtEn (s : State) (ow : Nat) : State :=
  let en := s.get Reg.WDT_CTRL_EN
  if Reg.WDT_CTRL_EN.of ow = en then s
  else
    let s1 : State := { s with boot := { s.boot with wdtStage := en } }
    s1.put Reg.WDT_STATUS_STAGE 0

/-- Writes of ECH, EVR, CFG and WDT registers. -/
def State.actRest (s : State) (o ow w : Nat) : State :=
  if o = 0x1A0000 then
    let s1 := s.onBit Reg.ECH_CTRL_CNT_CLR w State.echCntClr
    let s2 := s1.onBit Reg.ECH_CTRL_DETACH w (fun t => if t.pair then t.detach else t)
    s2.onBit Reg.ECH_CTRL_REJOIN w (fun t => if t.canRejoin then t.rejoin else t)
  else if o = 0x1B0000 then
    let s1 := s.onBit Reg.EVR_CTRL_CNT_CLR w State.evrCntClr
    (s1.onBit Reg.EVR_CTRL_FLUSH w (fun t => if t.evrMode != 0 || t.norFlushes then t.flushAll false else t)).onBit
        Reg.EVR_CTRL_RD_GO w State.readRecord
  else if o = 0x1D0000 then s.wdtEn ow
  else if o = 0x1D0008 then s.kick (Reg.WDT_KICK_KEY.of w)
  else s

/-- What a write of a register starts, after its fields have taken their values. -/
def State.regAct (s : State) (b : Block) (o ow w : Nat) (env : Option Bool) : State :=
  match b with
  | .sys => s.actSys o w
  | .clk | .pwr => s.actPwr o w
  | .sup => s.actSup o w
  | .lan => s.actLan o w
  | .umb | .vlt | .grt => s.actData o ow w
  | .flc | .dmc => s.actMem o w env
  | .ech | .evr | .cfg | .wdt => s.actRest o ow w

end Sys2Proof.Machine
end

