-- ==== Sys2Proof/Machine/RegAccess.lean ====
section
/-! DEFINITION. Accesses to the vendor window (R9, R10, R394, R395, R509–R516): one read or write of one or two dwords by one
requester, with its latch, the limits on requesters, the lock, and the events. -/

namespace Sys2Proof.Machine

/-- How an access ends: its data, whether the domain was off or held (R394), and whether a write was refused under R515. -/
structure Acc where
  st      : State
  val     : Nat
  off     : Bool
  refused : Bool
deriving DecidableEq, Repr

/-- An access that was performed. -/
def accOk (s : State) (v : Nat) : Acc := ⟨s, v, false, false⟩

/-- The vendor window (R509). -/
def inWindow (o : Nat) : Bool := decide (0x100000 ≤ o) && decide (o < 0x1E0000)

/-- What a requester left at its last access (R513). -/
def State.regPort (s : State) (r : Requester) : RegPort := lget s.host.latches r.idx RegPort.init

/-- Set it. -/
def State.setRegPort (s : State) (r : Requester) (v : RegPort) : State :=
  { s with host := { s.host with latches := lset s.host.latches r.idx v } }

/-- An access to a register: the read before no longer counts, and a held low dword of another register is discarded (R513). -/
def State.noteAccess (s : State) (r : Requester) (base : Nat) : State :=
  let p := s.regPort r
  let held := match p.held with
    | some h => if h.1 = base then some h else none
    | none => none
  s.setRegPort r { p with lastLow := none, held := held }

/-- An event about one access, with its own snapshot: offset, data, requester, then 0 (R451). -/
def State.accEvent (s : State) (src code sev o w : Nat) (r : Requester) : State :=
  s.eventWith src code sev (o % 65536) ([o, w % 2 ^ 32, r.code, 0], false)

/-- An access to a domain that is off or held (R394, R395, R400). -/
def State.offAccess (s : State) (r : Requester) (d : Domain) (o : Nat) : State :=
  let s1 := ((s.incSat Reg.PWR_OFFACC_COUNT 1).put Reg.PWR_OFFACC_DOMAIN d.idx).put Reg.PWR_OFFACC_REQUESTER r.code
  (s1.put Reg.PWR_OFFACC_ADDR_ADDR o).eventWith Block.pwr.source 0x3001 3 d.idx ([r.code, d.idx, o, 0], false)

/-- The data of an access to a domain that is off. -/
def deadWord : Nat := 0xDEAD0FFD

/-- An access to a domain retained in SLEEP wakes the device with source 2 (R394). -/
def State.wakeDomain (s : State) (d : Domain) : State := if s.domSt d = .retained then s.wake 2 else s

/-- The defined bits of a register. -/
def RegRow.mask (r : RegRow) : Nat := (r.flds.map (fun f => (2 ^ f.width - 1) * 2 ^ f.lo)).foldl (· + ·) 0

/-- Software can write a field of the register (R9). -/
def RegRow.writable (r : RegRow) : Bool := r.flds.any (fun f => f.acc != .ro && f.acc != .rc)

/-- The register has an RWL field. -/
def RegRow.hasRwl (r : RegRow) : Bool := r.flds.any (fun f => f.acc == .rwl)

/-- Some bit of `w` outside `m` is set: a reserved bit written as 1 (R10). -/
def strayBits (m w : Nat) : Bool := (Nat.land w m) != w

/-! The fields (R9, R435, R516). -/

/-- A word of DMC_SCHED_CFG within its range (R249): each field, and WR_LO below WR_HI. -/
def schedWord (w : Nat) : Bool :=
  [Reg.DMC_SCHED_CFG_AGE_LIMIT, Reg.DMC_SCHED_CFG_HIT_CAP, Reg.DMC_SCHED_CFG_WR_HI].all (fun f =>
    decide (f.min ≤ f.of w) && decide (f.of w ≤ f.max)) &&
    decide (Reg.DMC_SCHED_CFG_WR_LO.of w < Reg.DMC_SCHED_CFG_WR_HI.of w)

/-- An RWL field takes a value while the lock is clear: the value lies in its range, the hash masks are not in use (R249),
the reservations sum to 112 units at most (R250), a write of DMC_SCHED_CFG outside its range is ignored whole (R249), and
STOP is above START (R176). -/
def State.rwlTakes (s : State) (f : Fld) (v w : Nat) : Bool :=
  decide (f.min ≤ v) && decide (v ≤ f.max) &&
    (if 0x190010 ≤ f.off ∧ f.off ≤ 0x19002C then !s.flag Reg.DMC_STATUS_READY
     else if f.off = 0x190034 then
      decide (Reg.DMC_PORT_RESV_BG.of w + Reg.DMC_PORT_RESV_CPU.of w + Reg.DMC_PORT_RESV_ECHO.of w +
        Reg.DMC_PORT_RESV_HOST.of w + Reg.DMC_PORT_RESV_RT.of w ≤ 112)
     else if f.off = Reg.DMC_SCHED_CFG_WR_LO.off then schedWord w
     else if f = Reg.GRT_GC_CFG_STOP then decide (Reg.GRT_GC_CFG_START.of w < v)
     else true)

/-- One field takes its part of a word (R9). MVIEW_EN is read-only in an unpaired image (R317). -/
def State.fldWrite (s : State) (w : Nat) (f : Fld) : State :=
  let v := f.of w
  match f.acc with
  | .ro | .rc | .wo => s
  | .rw => if f = Reg.ECH_CTRL_MVIEW_EN ∧ !s.pair then s else s.put f v
  | .w1c => s.put f (s.get f - Nat.land (s.get f) v)
  | .w1s => s.put f (Nat.lor (s.get f) v)
  | .rwl => if !s.flag Reg.CFG_CTRL_LOCK && s.rwlTakes f v w then s.put f v else s

/-- A register takes a word and starts what its meaning says; an RWL write while the lock is clear is recorded (R435). -/
def State.rowWrite (s : State) (r : Requester) (b : Block) (row : RegRow) (w : Nat) (env : Option Bool) : State :=
  let ow := s.wordOf row
  let s1 := if row.hasRwl ∧ !s.flag Reg.CFG_CTRL_LOCK then s.accEvent 13 0x4001 3 row.off w r else s
  (row.flds.foldl (fun t f => t.fldWrite w f) s1).regAct b row.off ow w env

/-- A write whose word sets reserved bits is recorded; its effect is undefined (R10), so that whether the write of the other bits
takes effect is a free value. -/
def State.strayWrite (s : State) (src o w : Nat) (r : Requester) (k : State → State) : State :=
  let s1 := s.accEvent src 0x3002 4 o w r
  let b := s1.fresh 1
  if b.1 = 1 then k b.2 else b.2

/-- A write of a 32-bit register, or of a 64-bit register with both its dwords. -/
def State.fullWrite (s : State) (r : Requester) (b : Block) (row : RegRow) (o w : Nat) (env : Option Bool) : State :=
  if strayBits row.mask w then s.strayWrite b.source o w r (fun t => t.rowWrite r b row w env)
  else s.rowWrite r b row w env

/-! Requesters (R515). -/

/-- A requester may make this write (R508, R515). -/
def State.mayWrite (s : State) (r : Requester) (o w : Nat) : Bool :=
  let cp : Option Nat := match r with
    | .cp0 => some 0 | .cp1 => some 1 | .cp2 => some 2 | .cp3 => some 3
    | _ => none
  if r = .uart ∧ s.flag Reg.CFG_CTRL_LOCK then false
  else if o = 0x1D000C then (List.range 4).all (fun i => !bitOf w i || cp == some i)
  else if o = 0x1D0008 then cp.isSome
  else if o = 0x100028 ∨ o = 0x10002C then r == .cp0 || r == .smbus
  else true

/-! One dword (R512–R514). -/

/-- The dword read of a register whose domain answers: RC fields clear, the high dword is latched (R9, R513). -/
def State.readDword (s : State) (r : Requester) (o : Nat) : State × Nat :=
  match regAt o with
  | none => (s.noteAccess r o, 0)
  | some (row, hi) =>
    let w := s.wordOf row
    let p := s.regPort r
    let s1 := s.noteAccess r row.off
    if hi then (s1, if p.lastLow = some row.off then p.latch else w / 2 ^ 32)
    else
      let s2 := row.flds.foldl (fun t f => if f.acc = .rc then t.put f 0 else t) s1
      if row.wide then
        (s2.setRegPort r { s2.regPort r with lastLow := some row.off, latch := w / 2 ^ 32 }, w % 2 ^ 32)
      else (s2, w)

/-- The dword write of a register whose domain answers, by a requester who may. -/
def State.writeDword (s : State) (r : Requester) (b : Block) (o w : Nat) (env : Option Bool) : State :=
  match regAt o with
  | none =>
    let s1 := s.noteAccess r o
    if w = 0 then s1 else s1.accEvent b.source 0x3002 4 o w r
  | some (row, hi) =>
    let p := s.regPort r
    let s1 := s.noteAccess r row.off
    if !row.wide then s1.fullWrite r b row o w env
    else if hi then
      let low := match p.held with
        | some h => if h.1 = row.off then h.2 else s.wordOf row % 2 ^ 32
        | none => s.wordOf row % 2 ^ 32
      (s1.setRegPort r { s1.regPort r with held := none }).fullWrite r b row o (w * 2 ^ 32 + low) env
    else if row.writable then s1.setRegPort r { s1.regPort r with held := some (row.off, w) }
    else s1.fullWrite r b row o w env

/-- Read one dword of the window. -/
def State.regRead (s : State) (r : Requester) (o : Nat) : Acc :=
  match Block.ofOff o with
  | none => accOk s 0
  | some b =>
    if s.domAnswers b.domain then
      let a := (s.wakeDomain b.domain).readDword r o
      accOk a.1 a.2
    else ⟨(s.noteAccess r o).offAccess r b.domain o, deadWord, true, false⟩

/-- A console write is recorded as an event of severity 3 (R508). -/
def State.noteConsole (s : State) (r : Requester) (b : Block) (o w : Nat) : State :=
  if r = .uart then s.accEvent b.source 0x4002 3 o w r else s

/-- Write one dword of the window; `env` says what a channel that is retrained answers. -/
def State.regWriteEnv (s : State) (r : Requester) (o w : Nat) (env : Option Bool) : Acc :=
  match Block.ofOff o with
  | none => accOk s 0
  | some b =>
    if !s.domAnswers b.domain then ⟨(s.noteAccess r o).offAccess r b.domain o, 0, true, false⟩
    else if !s.mayWrite r o w then ⟨(s.noteAccess r o).accEvent b.source 0x3003 3 o w r, 0, false, true⟩
    else accOk (((s.wakeDomain b.domain).noteConsole r b o w).writeDword r b o w env) 0

/-- Write one dword of the window. -/
def State.regWrite (s : State) (r : Requester) (o w : Nat) : Acc := s.regWriteEnv r o w none

/-- Read two dwords at an 8-byte-aligned offset: a 64-bit register is sampled once (R511, R513); the two count as one access
(R514). -/
def State.regRead2 (s : State) (r : Requester) (o : Nat) : Acc :=
  let lo := s.regRead r o
  if lo.off then { lo with val := deadWord * (2 ^ 32 + 1) }
  else
    let hi := lo.st.regRead r (o + 4)
    ⟨hi.st, lo.val + hi.val * 2 ^ 32, false, false⟩

/-- Write two dwords at an 8-byte-aligned offset. -/
def State.regWrite2 (s : State) (r : Requester) (o w : Nat) : Acc :=
  let lo := s.regWrite r o (w % 2 ^ 32)
  if lo.off then lo
  else
    let hi := lo.st.regWrite r (o + 4) (w / 2 ^ 32)
    ⟨hi.st, 0, hi.off, lo.refused || hi.refused⟩

/-! Who can reach the window (R34, R508, R509, R518, R520). -/

/-- The requester runs and its path answers: a host function with its memory space enabled, the control processors, the SMBus
window outside a vault, the console. -/
def State.reaches (s : State) (r : Requester) : Bool :=
  match r with
  | .portA => s.portMem .a
  | .portB => s.portMem .b
  | .cp0 | .cp1 | .cp2 | .cp3 => s.domOn .ctrl
  | .aon => s.domOn .aon
  | .smbus => s.domOn .sup && !s.vaulting
  | .uart => s.domOn .ctrl && !s.vaulting

/-- A host access arrives as a TLP, which wakes the device from SLEEP (R383). -/
def State.arrive (s : State) (r : Requester) : State := if r.port.isSome then s.wake 1 else s

/-- A requester's write of the window, which command `c` stands for: a host port's is a posted write, which flow control can hold
back (R74). -/
def State.windowPut (s : State) (r : Requester) (c : Instr) (k : State → State) : State :=
  if s.reaches r then
    match r.port with
    | some p => s.orHold p c (fun t => k (t.arrive r))
    | none => k s
  else s

/-- A requester's single-dword write. -/
def State.dwordPut (s : State) (r : Requester) (o w : Nat) : State :=
  s.windowPut r (.registerWrite r o (natLe w 4) [true, true, true, true]) (fun t => (t.regWrite r o w).st)

/-- A requester's single-dword write with a bit set, as the rows of single bits command it. -/
def State.bitWrite (s : State) (r : Requester) (o : Nat) (f : Fld) (w : Word) : State :=
  s.dwordPut r o (Nat.lor w.toNat (2 ^ f.lo))

/-- A requester's single-dword write of a word. -/
def State.wordWrite (s : State) (r : Requester) (o : Nat) (w : Word) : State := s.dwordPut r o w.toNat

end Sys2Proof.Machine
end

