-- ==== Sys2Proof/Machine/AdminOps.lean ====
section
/-! DEFINITION. How an admin command is accepted (R425, R486, R487, R505–R507), and the effects of the vendor admin commands that
are no log page and no Identify (R426–R429, R488–R495). -/

namespace Sys2Proof.Machine

/-! Acceptance. -/

/-- How a command is executed: a standard command, a vendor command, which runs one at a time, or one of those that never wait
(R487). -/
inductive AdmKind where
  | std | vendor | now
deriving DecidableEq, Repr

/-- Keep a command until CP0 can take it. -/
def State.defer (s : State) (c : Instr) (req : AdminReq) (id : CmdId) : State :=
  { s with deferred := s.deferred ++ [⟨req, id, c⟩] }

/-- A command that the device does not accept while it runs without an image (R425). -/
def State.bareRefuse (s : State) (kind : AdmKind) (req : AdminReq) (id : CmdId) : State :=
  s.adminDone req id (if kind = .std then stInvalidOpcode else stVendor 0xC1) 0

/-- CP0 takes a command (R425, R487): it waits while PD_CTRL does not run; a vendor command waits for those before it. `bare`
says that the command is accepted without an image. -/
def State.adminTake (s : State) (c : Instr) (req : AdminReq) (id : CmdId) (kind : AdmKind) (bare : Bool) (k : State → State) :
    State :=
  if !s.domOn .ctrl then s.defer c req id
  else if s.flag Reg.SYS_STATUS_NO_IMAGE && !bare then s.bareRefuse kind req id
  else if kind = .vendor && !(s.host.waiting.isEmpty && s.deferred.isEmpty) then s.defer c req id
  else k s

/-- An admin command arrives: at an enabled controller, or tunnelled over SMBus, whose port does not acknowledge from a trip to
the seal and takes MCTP control messages alone until its endpoint ID is assigned (R505–R507). -/
def State.admin (s : State) (c : Instr) (req : AdminReq) (id : CmdId) (kind : AdmKind) (bare : Bool) (k : State → State) :
    State :=
  match req with
  | .host p =>
    if !s.portLive p || !(s.nvme p).en || (s.nvme p).cfs then s else (s.touch 1).adminTake c req id kind bare k
  | .mi p =>
    if !s.domOn .sup then s
    else if s.vaulting then s.send .smbNak
    else if s.host.smb.eid = 0 then s
    else if !s.portExists p then s.adminDone req id stInvalidField 0
    else (s.touch 2).adminTake c req id kind bare k

/-! Pair Control (R313, R494). -/

/-- The 64 bytes of action 0: all 0 in an unpaired image but for what the image gives ECH_STATUS. -/
def State.pairBytes (s : State) : List Byte :=
  if s.pair then
    ([0x1A0004, 0x1A0010, 0x1A0014].map (fun o => natLe (s.peek o) 4)).flatten ++ natLe 0 4 ++
      natLe (s.get Reg.ECH_PEER_UID_UID_HASH) 8 ++ natLe (s.get Reg.ECH_SEQ_SENT_SEQ) 8 ++
      natLe (s.get Reg.ECH_SEQ_ACKED_SEQ) 8 ++ natLe (s.get Reg.ECH_SEQ_STORED_SEQ) 8 ++
      ([0x1A0038, 0x1A003C].map (fun o => natLe (s.peek o) 4)).flatten ++ natLe 0 8
  else natLe 0 64

/-- A Pair Control action other than 0 and 5: 0xC9 in an unpaired image, 0xCA where the state refuses it. -/
def State.pairAction (s : State) (req : AdminReq) (id : CmdId) (may : Bool) (k : State → State) : State :=
  if !s.pair then s.adminDone req id (stVendor 0xC9) 0
  else if !may then s.adminDone req id (stVendor 0xCA) 0
  else (k s).adminDone req id stOk 0

/-! Barrier Query (R488). -/

/-- An owner block. -/
def ownerBlock (epoch flags covered accepted acked : Nat) : List Byte :=
  natLe epoch 4 ++ natLe flags 4 ++ natLe covered 8 ++ natLe accepted 8 ++ natLe acked 8

/-- The 128 bytes of Barrier Query. -/
def State.barrierBytes (s : State) : List Byte :=
  let own := ownerBlock s.pmr.epoch 3 s.pmr.lastCovered (s.pmr.nextSeq - 1) (s.get Reg.ECH_SEQ_ACKED_SEQ)
  let peer := ownerBlock s.pmr.peerEpoch (2 * b2n s.pair) 0 (s.get Reg.ECH_SEQ_STORED_SEQ) 0
  let a : Bool := s.owner == .a
  natLe s.owner.idx 1 ++ natLe (if s.pair then s.echoState else 0) 1 ++ natLe 0 6 ++ (if a then own else peer) ++
    (if a then peer else own) ++ natLe 0 56

/-! Updates (R410, R426–R429, R492, R493). -/

/-- What an image gives a field. -/
def Image.val (i : Image) (f : Fld) : Nat :=
  mgetD i.fields f.key (((Reg.imgDefaults.find? (fun d => d.1 = f)).map (fun d => d.2)).getD 0)

/-- Two images give some "img" field of a block different values. -/
def imgDiffer (a b : Image) (blk : Block) : Bool :=
  blk.rows.any (fun r => r.flds.any (fun f => f.img && a.val f != b.val f))

/-- The RAIL section asks for a cold commit (R410). -/
def railCold (a b : Image) : Bool :=
  (List.range 64).any (fun n => [Reg.SUP_CHn_CFG_GROUP n, Reg.SUP_CHn_CFG_EN_POL n, Reg.SUP_CHn_CFG_VAULT_USE n,
    Reg.SUP_CHn_CFG_NOR_SUPPLY n].any (fun f => a.val f != b.val f))

/-- The update class of an image against another (R410, R427), as RESULT shows it: 2 Warm, 3 Cold, 4 Format. -/
def imgClass (a b : Image) : Nat :=
  if a.val Reg.DMC_GEOM_CAP_GIB ≠ b.val Reg.DMC_GEOM_CAP_GIB ∨ a.val Reg.GRT_GEOM_BLOCKS ≠ b.val Reg.GRT_GEOM_BLOCKS ∨
      a.val Reg.GRT_LEDGER_MODE ≠ b.val Reg.GRT_LEDGER_MODE ∨ a.val Reg.ECH_STATUS_PAIR_MODE ≠ b.val Reg.ECH_STATUS_PAIR_MODE ∨
      a.owner ≠ b.owner then 4
  else if railCold a b ∨ a.modules ≠ b.modules ∨ a.profiles ≠ b.profiles ∨ imgDiffer a b .dmc ∨ a.devices ≠ b.devices ∨
      a.val Reg.FLC_IF_CFG_RATE ≠ b.val Reg.FLC_IF_CFG_RATE ∨ a.val Reg.FLC_IF_CFG_IFACE ≠ b.val Reg.FLC_IF_CFG_IFACE then 3
  else 2

/-- The class against the running image; without one every section is new. -/
def State.classOf (s : State) (i : Image) : Nat :=
  match s.boot.running with
  | some r => imgClass r i
  | none => 4

/-- The bank that does not run. -/
def State.otherBank (s : State) : Nat := 1 - s.get Reg.CFG_STATUS_BANK

/-- The first sector of the bank that does not run, by number (R406). -/
def State.bankSector (s : State) : Nat := (0x20000 + s.otherBank * 0x600000) / 4096

/-- A staging begins (R426): the bank's first sector is erased, and a staged image that it held is gone. -/
def State.stageBegin (s : State) (req : AdminReq) : State :=
  let s1 : State := { s with boot := { s.boot with
    banks := lset s.boot.banks s.otherBank none, staged := none, intents := s.boot.intents ++ [s.bankSector],
    staging := some { owner := req.requester.port, offset := 0, data := [], last := false } } }
  ((s1.put Reg.CFG_STATUS_OTHER_VALID 0).put Reg.CFG_SVN_STAGED 0).updResult 1

/-- A chunk goes in under the erase intents of its sectors (R407); the last one starts verification, and the command waits
for it (R426, R492). -/
def State.stageChunk (s : State) (req : AdminReq) (id : CmdId) (data : List Byte) (last : Bool) : State :=
  match s.boot.staging with
  | none => s
  | some g =>
    let g1 : Staging := { g with offset := g.offset + data.length, data := g.data ++ data, last := last }
    let erased := (List.range (ceilDiv g1.offset 4096 - ceilDiv g.offset 4096)).map (fun k => s.bankSector + ceilDiv g.offset 4096 + k)
    let s1 := ({ s with boot := { s.boot with
        staging := some g1, intents := s.boot.intents ++ erased.filter (fun n => n != s.bankSector) } } : State).put
            Reg.CFG_UPD_STATUS_KIB (g1.offset / 1024)
    if last then
      ({ s1 with host := { s1.host with waiting := s1.host.waiting ++ [⟨req, id, 0xC4⟩] } } : State).put Reg.CFG_UPD_STATUS_BUSY 1
    else s1.adminDone req id stOk 0

/-- The size of a chunk is as R426 asks: at most 256 KiB, a multiple of 4 KiB unless it is the last, the image at most 6 MiB. -/
def chunkOk (at_ n : Nat) (last : Bool) : Bool :=
  decide (0 < n) && decide (n ≤ 256 * 1024) && (last || n % 4096 == 0) && n % 4 == 0 && decide (at_ + n ≤ 6 * 2 ^ 20)

/-- Update Stage (R426, R492). -/
def State.stage (s : State) (req : AdminReq) (id : CmdId) (ofst : Nat) (data : List Byte) (last : Bool) : State :=
  let fail (st : NStat) : State := s.adminDone req id st 0
  if s.vaulting then fail (stVendor 0xC0)
  else
    match s.boot.staging with
    | some g =>
      if g.owner ≠ req.requester.port then fail (stVendor 0xCB)
      else if !chunkOk (4 * ofst) data.length last then fail stInvalidField
      else if g.last ∨ 4 * ofst ≠ g.offset then fail (stVendor 0xC7)
      else s.stageChunk req id data last
    | none =>
      if !chunkOk (4 * ofst) data.length last then fail stInvalidField
      else if ofst ≠ 0 then fail (stVendor 0xC7)
      else (s.stageBegin req).stageChunk req id data last

/-- The check of R411 that a staged image fails, as RESULT shows it; 0 if it passes. `found` is what the reading back of the
bank finds: 0, or a RESULT of 5 to 9. DESIGN CHOICE: a header that fails check 1 shows 8, for which RESULT has no value of
its own. -/
def State.verifyFail (s : State) (found : Nat) (i : Image) : Nat :=
  if 5 ≤ found ∧ found ≤ 9 then found
  else if !i.headerOk then 8
  else if !s.partOk i then 7
  else if !i.sigOk || (s.keySlot i).isNone then 5
  else if i.svn < s.view Reg.SYS_OTP_SVN_MIN then 6
  else if !i.sectionsOk || !i.rangesOk || !i.patchRom then 8
  else 0

/-- Complete the Update Stage commands that wait for verification (R492). -/
def State.stageAnswer (s : State) (st : NStat) : State :=
  let ws := s.host.waiting.filter (fun w => w.kind == 0xC4)
  let s1 : State := { s with host := { s.host with waiting := s.host.waiting.filter (fun w => w.kind != 0xC4) } }
  ws.foldl (fun (t : State) w => t.adminDone w.req w.id st (t.get Reg.CFG_UPD_STATUS_RESULT)) s1

/-- Verification ends (R427): a valid image makes its bank valid and takes its class; another leaves the header erased. -/
def State.verifyDone (s : State) (found : Nat) (i : Image) : State :=
  match s.boot.staging with
  | some g =>
    if !g.last then s
    else
      let fail := s.verifyFail found i
      if fail = 0 then
        let s1 : State := { s with boot := { s.boot with
          staging := none, staged := some i, banks := lset s.boot.banks s.otherBank (some i) } }
        let s2 := ((s1.put Reg.CFG_STATUS_OTHER_VALID 1).put Reg.CFG_SVN_STAGED i.svn).put Reg.CFG_UPD_STATUS_BUSY 0
        (s2.updResult (s.classOf i)).stageAnswer stOk
      else
        let s1 : State := { s with boot := { s.boot with staging := none } }
        ((s1.put Reg.CFG_UPD_STATUS_BUSY 0).updResult fail).stageAnswer (stVendor 0xC6)
  | none => s

/-- Why a commit is refused now (R428, R493): a vault, a rehearsal, steps 3 to 5 of a learn, RESTORING, a staging; the
sequencer not in ON. -/
def State.commitBar (s : State) : Option NStat :=
  let learning : Bool := match s.lan.learn with
    | some l => l.discharging
    | none => false
  if s.vaulting || s.rehearsing || learning || s.pmr.st == .restoring || s.boot.staging.isSome then some (stVendor 0xC0)
  else if s.seqState ≠ seqOn then some (stVendor 0xC1)
  else none

/-- Steps 1 to 3 of a commit (R428, R429): both copies of the record, the hash cached, the command completed. -/
def State.commitSteps (s : State) (req : AdminReq) (id : CmdId) (cold format : Bool) : State :=
  let s1 := (s.commitNote 0 s.otherBank true cold format).updResult 11
  ({ s1 with boot := { s1.boot with
      staged := none, hashCache := lset s1.boot.hashCache s.otherBank ((s.bankImg s.otherBank).map (fun i => i.hash)) } } : State).adminDone
          req id stOk 11

/-- A commit (R424, R428, R429): a warm one goes on to the warm reset with GOING_DOWN announced, a cold one to the vault and the
power-down; in safe mode the Clear record and the cold start end it. -/
def State.commit (s : State) (req : AdminReq) (id : CmdId) (cold format : Bool) : State :=
  let s1 := s.commitSteps req id cold format
  if s1.flag Reg.SYS_STATUS_SAFE then s1.leaveSafe
  else if cold then s1.vaultOrDown .commit
  else s1.announceDown.warmReset 5

/-- Update Commit, actions 0 to 2 (R428): the staged result permits the class. -/
def State.commitStaged (s : State) (req : AdminReq) (id : CmdId) (cold format : Bool) : State :=
  match s.commitBar with
  | some st => s.adminDone req id st 0
  | none =>
    let r := s.get Reg.CFG_UPD_STATUS_RESULT
    let top : Nat := if format then 4 else if cold then 3 else 2
    if s.boot.staged.isSome && decide (2 ≤ r) && decide (r ≤ top) then s.commit req id cold format
    else s.adminDone req id (stVendor 0xC8) 0

/-- Update Commit, action 4 (R428): the other bank as it stands, by the commit that its class asks for. -/
def State.commitOther (s : State) (req : AdminReq) (id : CmdId) : State :=
  match s.commitBar with
  | some st => s.adminDone req id st 0
  | none =>
    match (s.bankImg s.otherBank).filter s.imgValid with
    | some i => s.commit req id (decide (3 ≤ s.classOf i)) (s.classOf i == 4)
    | none => s.adminDone req id (stVendor 0xC6) (s.get Reg.CFG_UPD_STATUS_RESULT)

/-- Update Commit, action 3 (R428, R493): the staging is aborted. -/
def State.stageAbort (s : State) (req : AdminReq) (id : CmdId) : State :=
  if s.vaulting then s.adminDone req id (stVendor 0xC0) 0
  else
    let s1 := if s.boot.staging.isSome then s.stagingLost
      else if s.boot.staged.isSome then s.updResult 10 else s
    ({ s1 with boot := { s1.boot with staged := none } } : State).adminDone req id stOk 0

/-! Rehearsal Vault, Learn-Cycle Request and Register Access (R489, R491, R495). -/

/-- Rehearsal Vault (R491): refused at once with 0xC2, else answered when the rehearsal ends. -/
def State.rehCommand (s : State) (req : AdminReq) (id : CmdId) : State :=
  let r := s.rehRequest
  if r.2 then { r.1 with host := { r.1.host with waiting := r.1.host.waiting ++ [⟨req, id, 0xC3⟩] } }
  else r.1.adminDone req id (stVendor 0xC2) (r.1.peek 0x150064)

/-- Learn-Cycle Request (R489): it returns LAN_LEARN_STATUS. -/
def State.learnCommand (s : State) (req : AdminReq) (id : CmdId) (port : Nat) (cancel : Bool) : State :=
  if s.modSt port ≠ mService ∧ !cancel then s.adminDone req id stInvalidField 0
  else
    let s1 := if cancel then s.learnAbort 6 else s.learnReq port
    s1.adminDone req id stOk (s1.peek 0x140024)

/-- Register Access (R495): the access of BAR0 by the same requester; the value after the access is returned. -/
def State.regAccess (s : State) (req : AdminReq) (id : CmdId) (off : Nat) (w : Option Nat) : State :=
  if !inWindow off || off % 4 != 0 then s.adminDone req id stInvalidField 0
  else
    match w with
    | some v =>
      let a := s.regWrite req.requester off v
      let after : Nat := if a.off then deadWord else a.st.peek off
      a.st.adminDone req id stOk after
    | none =>
      let a := s.regRead req.requester off
      a.st.adminDone req id stOk a.val

end Sys2Proof.Machine
end

