-- ==== Sys2Proof/Machine/LogPages.lean ====
section
/-! DEFINITION. The log pages (R368, R463–R465, R480, R496–R503): their bytes, the snapshots of R496, and what a read changes. -/

namespace Sys2Proof.Machine

/-- Bytes laid out at offsets: parts in ascending order, zeros between and after them, `n` bytes in all. -/
def layFrom (pos n : Nat) : List (Nat × List Byte) → List Byte
  | [] => List.replicate (n - pos) 0
  | (o, b) :: t => List.replicate (o - pos) 0 ++ b ++ layFrom (o + b.length) n t

/-- A page of `n` bytes. -/
def lay (n : Nat) (parts : List (Nat × List Byte)) : List Byte := layFrom 0 n parts

/-- The bytes of a page that a command reads: those beyond its end are 0 (R496). -/
def pageSlice (page : List Byte) (off len : Nat) : List Byte :=
  let b := (page.drop off).take len
  b ++ List.replicate (len - b.length) 0

/-- Dwords of registers in order. -/
def State.peeks (s : State) (offs : List Nat) : List Byte := (offs.map (fun o => natLe (s.peek o) 4)).flatten

/-! Standard pages (R479, R480, R502). -/

/-- An upper-case hexadecimal digit. -/
def hexDigit (n : Nat) : Byte := if n < 10 then BitVec.ofNat 8 (48 + n) else BitVec.ofNat 8 (55 + n)

/-- The `n` lowest hexadecimal digits of a number, the highest first. -/
def hexBytes (v : Nat) : Nat → List Byte
  | 0 => []
  | n + 1 => hexDigit (v / 16 ^ n % 16) :: hexBytes v n

/-- The ASCII bytes of a text, padded with spaces. -/
def textBytes (t : List Char) (n : Nat) : List Byte :=
  let b := (t.map (fun c => BitVec.ofNat 8 c.toNat)).take n
  b ++ List.replicate (n - b.length) 32

/-- The FR string of an image number (R479). -/
def frBytes (seq : Nat) : List Byte := textBytes ['B', '0'] 2 ++ hexBytes (seq % 2 ^ 24) 6

/-- An entry of the Error Information page. -/
def ErrEntry.bytes (e : ErrEntry) : List Byte :=
  lay 64 [(0, natLe e.count 8), (8, natLe e.id.sq 2), (10, natLe e.id.cid 2), (12, natLe ((e.sct % 8 * 256 + e.sc % 256) * 2) 2),
    (14, natLe 0xFFFF 2)]

/-- Log page 0x01 of a controller. -/
def State.errorPage (s : State) (p : Port) : List Byte := lay 4096 [(0, ((s.nvme p).errs.map ErrEntry.bytes).flatten)]

/-- The hottest module temperature in °C (R502). -/
def State.hottest (s : State) : Int :=
  let l := (ports8.filter (fun n => s.modSt n != mUnused && s.modSt n != mAbsent)).map (fun n => s.getI (Reg.LAN_Mn_VT_TEMP n))
  match l with
  | [] => -273
  | h :: t => t.foldl (fun a b => if a < b then b else a) h

/-- Log page 0x02 (R502). -/
def State.smartPage (s : State) : List Byte :=
  let m := s.host.smart
  lay 512 [(0, natLe s.warnBits 1), (1, natLe s.kelvin.toNat 2), (3, natLe s.sparePct 1), (4, natLe s.spareThr 1),
    (5, natLe s.pctUsed 1), (32, natLe (ceilDiv m.unitsRead 1000) 16), (48, natLe (ceilDiv m.unitsWritten 1000) 16),
    (64, natLe m.readCmds 16), (80, natLe m.writeCmds 16), (112, natLe (s.get Reg.SYS_OPSEC_PWR_CYCLES) 16),
    (128, natLe (s.secs / 3600) 16), (144, natLe m.unsafeDowns 16), (160, natLe m.mediaErrs 16), (176, natLe m.errEntries 16),
    (192, natLe (m.warnMs / 60000) 4), (196, natLe (m.critMs / 60000) 4), (200, natLe s.kelvin.toNat 2),
    (202, natLe (s.hottest + 273).toNat 2)]

/-- Log page 0x03 (R479): slot 1 the running bank, slot 2 the other one when it is valid. -/
def State.slotPage (s : State) : List Byte :=
  let other := match (s.bankImg s.otherBank).filter s.imgValid with
    | some i => frBytes i.seq
    | none => natLe 0 8
  lay 512 [(0, natLe 1 1), (8, frBytes (s.get Reg.CFG_IMG_SEQ_SEQ)), (16, other)]

/-- The opcodes supported: admin and I/O (R480, R484). -/
def adminOps : List Nat :=
  [0x00, 0x01, 0x02, 0x04, 0x05, 0x06, 0x08, 0x09, 0x0A, 0x0C, 0x18, 0x80, 0xC0, 0xC1, 0xC2, 0xC3, 0xC4, 0xC5, 0xC6, 0xC7]
def ioOps : List Nat := [0x00, 0x01, 0x02, 0x08, 0x09]

/-- Log page 0x05: the commands supported. -/
def effectsPage : List Byte :=
  lay 4096 (adminOps.map (fun o => (4 * o, natLe 1 4)) ++ ioOps.map (fun o => (1024 + 4 * o, natLe 1 4)))

/-! Vendor pages (R497–R501). -/

/-- Granules poisoned of an owner. -/
def State.poisonedOf (s : State) (o : Owner) : Nat := mcount (fun g _ => s.granOwner g == o) s.pmr.poison

/-- A region block (R497). -/
def State.regionBlock (s : State) (o : Owner) (outcome epoch last next : Nat) : List Byte :=
  natLe o.idx 1 ++ natLe outcome 1 ++ natLe 0 2 ++ natLe epoch 4 ++ natLe last 8 ++ natLe next 8 ++ natLe (s.poisonedOf o) 8

/-- PMR_STATE (R497). -/
def PmrState.code : PmrState → Nat
  | .closed => 0 | .restoring => 1 | .opened => 2 | .readOnly => 3

/-- Log page 0xC0 (R497). -/
def State.vaultStatusPage (s : State) : List Byte :=
  let ack : Bool := s.pmr.conds.contains 0x01 || s.pmr.conds.contains 0x04
  let own := s.regionBlock s.owner (s.get Reg.VLT_OUTCOME_OWN) s.pmr.restOwnEpoch s.pmr.restOwnSeq s.pmr.nextSeq
  let mir := if s.pair then s.regionBlock s.owner.other (s.get Reg.VLT_OUTCOME_MIRROR) s.pmr.restMirEpoch s.pmr.restMirSeq
      (s.get Reg.ECH_SEQ_STORED_SEQ + 1)
    else natLe 0 32
  let list := sortBy (fun (r : PRange) => r.owner.idx) s.poisonList
  natLe 1 2 ++ natLe (b2n s.deficit + 2 * b2n ack) 2 ++ natLe (errCode s.pmr.conds) 1 ++ natLe (hstsOf s.pmr.conds) 1 ++
    natLe s.pmr.st.code 1 ++ natLe (s.get Reg.VLT_OUTCOME_PATH) 1 ++ natLe (s.get Reg.VLT_VAULT_NUM_NUM) 4 ++
    natLe (s.get Reg.GRT_SESSION_SESSION) 4 ++ natLe (s.view Reg.UMB_DEFICIT_BYTES) 8 ++ natLe s.host.discarded 8 ++
    own ++ mir ++ natLe list.length 4 ++ natLe 0 28 ++ (list.map PRange.bytes).flatten

/-- A learn entry and a rest entry (R498). -/
def LearnRec.bytes (r : LearnRec) : List Byte := natLe r.time 8 ++ natLe r.outcome 1 ++ natLe r.sigma 1 ++ natLe 0 2 ++ natLe r.cap 4
def RestRec.bytes (r : RestRec) : List Byte := natLe r.time 8 ++ natLe r.leak 2 ++ natLe r.mins 1 ++ natLe r.flags 1 ++ natLe 0 4

/-- Log page 0xC1 (R498). -/
def State.lanPage (s : State) : List Byte :=
  let head := s.peeks [0x140004, 0x140018, 0x14001C, 0x140020, 0x140024, 0x140028, 0x14002C, 0x140030] ++
    natLe (s.get Reg.UMB_HORIZON_BYTES) 8
  let block (n : Nat) : List Byte := lay 128
    [(0, s.peeks ((List.range 13).map (fun k => 0x140100 + 64 * n + 4 * k))), (64, ((s.mod n).learns.map LearnRec.bytes).flatten),
     (96, ((s.mod n).rests.map RestRec.bytes).flatten)]
  lay 64 [(0, head)] ++ (ports8.map block).flatten

/-- Log page 0xC3 of an area (R500). -/
def State.wearPage (s : State) (ledger : Bool) : List Byte :=
  let spares := if ledger then s.get Reg.GRT_LEDGER_SPARES else s.get Reg.GRT_RETIRE_SPARES_MIN
  let head := natLe 1 2 ++ natLe (b2n ledger) 1 ++ natLe 0 5 ++ natLe s.peLimit 4 ++ natLe (s.meanEc ledger) 4 ++
    natLe (s.maxEc ledger (fun _ => true)) 4 ++ natLe (s.areaRetired ledger) 4 ++ natLe spares 4 ++ natLe (s.areaTotal ledger) 4 ++
    natLe 0 32
  let luns := List.range 256
  let row (n : Nat) : List Byte :=
    let before := sumNat ((List.range n).map (s.areaBlocks ledger))
    let here := s.areaBlocks ledger n
    natLe (s.lun n).st.code 1 ++ natLe 0 3 ++ natLe here 4 ++ natLe (if here = 0 then 0 else 0x1040 + 4 * before) 4 ++
      natLe (if here = 0 then 0 else s.maxEc ledger (fun l => l == n)) 4
  let entries (n : Nat) : List Byte :=
    ((List.range (s.areaBlocks ledger n)).map (fun b => natLe (s.areaBlk ledger n b).word 4)).flatten
  head ++ (luns.map row).flatten ++ (luns.map entries).flatten

/-- A position in DMC_POS_DATA's format (R279). -/
def Position.word (p : Position) : Nat :=
  b2n p.degraded * 2 ^ Reg.DMC_POS_DATA_DEGRADED.lo + (p.total % 2 ^ 16) * 2 ^ Reg.DMC_POS_DATA_TOTAL.lo + p.bucket % 2 ^ 8

/-- Log page 0xC4 (R501). -/
def State.dramPage (s : State) : List Byte :=
  natLe 1 2 ++ natLe (s.get Reg.DMC_STATUS_CH_POP) 1 ++ natLe (s.get Reg.DMC_FRZ_STATUS_FROZEN) 1 ++
    natLe (mcount (fun _ (p : Position) => p.degraded) s.dmc.pos) 2 ++ natLe 0 2 ++
    s.peeks [0x190108, 0x19010C, 0x190138, 0x19013C, 0x190140, 0x190144, 0x190148, 0x19014C, 0x190150, 0x190154, 0x190158,
      0x190134, 0x190120] ++ natLe 0 4 ++
    ((List.range 160).map (fun k => natLe (mgetD s.dmc.pos k Position.init).word 4)).flatten

/-! Log page 0xC2 (R368, R463–R465, R499). -/

/-- The 64 bytes of a first-fail record (R368). -/
def FFRecord.bytes (r : FFRecord) : List Byte :=
  let snap := r.snap.map (fun e => e.2 % 4096 + e.1 * 4096)
  let body := (r.words.map (fun w => natLe w 4)).flatten ++
    ((List.range 7).map (fun i => natLe (lget snap i 0xFFFFFFFF) 4)).flatten
  body ++ natLe (crc32c body) 4

/-- The first-fail records of the supervision log, newest first. -/
def State.ffList (s : State) : List FFRecord := (sortBy (fun (r : FFRecord) => r.recNo) s.rails.ffNor.flatten).reverse

/-- The events of each source: code and severity (R449–R451, R554). Every block also raises 0x3002, 0x3003 and
0x4002. -/
def codesOf : List (Nat × List (Nat × Nat)) :=
  [(1, [(0x1001, 6), (0x2001, 7)]),
   (2, [(0x2001, 7)]),
   (3, [(0x0001, 2), (0x1001, 4), (0x1003, 5), (0x1004, 6), (0x1005, 6), (0x3001, 3)]),
   (4, [(0x0001, 2), (0x0002, 2), (0x0003, 3), (0x1002, 6), (0x1003, 5), (0x1004, 4), (0x2001, 6), (0x2002, 7), (0x7001, 6)]),
   (5, [(0x0010, 2), (0x1010, 4), (0x0001, 2), (0x0002, 5), (0x0003, 3), (0x1001, 5),
        (0x1002, 5), (0x1003, 4), (0x1004, 4), (0x1005, 4), (0x1006, 5), (0x2001, 5), (0x2002, 6), (0x2003, 4)]),
   (6, [(0x0010, 2), (0x0011, 2), (0x0012, 2), (0x0013, 2), (0x1010, 4), (0x1011, 4), (0x1012, 4), (0x1013, 4),
        (0x0001, 5), (0x0002, 2), (0x0003, 3), (0x0004, 3), (0x1001, 5), (0x1002, 4), (0x1003, 4), (0x1004, 2), (0x1005, 4), (0x4001, 3)]),
   (7, [(0x0001, 4), (0x0002, 2), (0x0003, 2), (0x0004, 4), (0x1002, 5), (0x1003, 6), (0x1004, 6), (0x4001, 3)]),
   (8, [(0x1001, 6), (0x1002, 6), (0x4001, 3)]),
   (9, [(0x0001, 5), (0x0002, 4), (0x0003, 5), (0x0004, 6), (0x0005, 4), (0x0006, 5)]),
   (10, [(0x1001, 5), (0x1002, 4), (0x1003, 4), (0x1004, 6), (0x1005, 6), (0x1006, 3), (0x1007, 6), (0x2001, 6), (0x7002, 2)]),
   (11, [(0x0001, 2), (0x1001, 4), (0x1002, 4), (0x1003, 4), (0x1004, 4), (0x5001, 6), (0x5002, 6)]),
   (12, [(0x6001, 7), (0x6002, 7), (0x6003, 7), (0x6004, 6), (0x6005, 5), (0x6006, 4), (0x6007, 6)]),
   (13, [(0x1001, 6), (0x1002, 5), (0x1003, 6), (0x1004, 6), (0x4001, 3)]),
   (14, [(0x1001, 4), (0x1002, 6), (0x2001, 6)]),
   (15, [(0x0001, 2), (0x1001, 5), (0x1002, 4)])]

/-- Every source, code and severity (R451). -/
def codeList : List (Nat × Nat × Nat) :=
  (codesOf.map (fun e => e.2.map (fun c => (e.1, c.1, c.2)))).flatten ++
    ((List.range 14).map (fun b => [(b + 1, 0x3002, 4), (b + 1, 0x3003, 3), (b + 1, 0x4002, 3)])).flatten

/-- The code directory (R463): entries with names that the spec does not give. -/
def State.codePage (s : State) : State × List Byte :=
  codeList.foldl (fun (r : State × List Byte) (e : Nat × Nat × Nat) =>
    let n := r.1.fresh 448
    (n.2, r.2 ++ natLe e.1 1 ++ natLe 0 1 ++ natLe e.2.1 2 ++ natLe e.2.2 1 ++ natLe 0 3 ++ natLe n.1 56)) (s, [])

/-- The place of a view's requester; the other requesters have none. -/
def Requester.view : Requester → Nat
  | .portA => 0 | .portB => 1 | _ => 2

/-- Log page 0xC2: what a read of `len` bytes at `off` returns. A read at offset 0 opens the view; at another offset without a
view the header alone is returned. -/
def State.eventPage (s : State) (r : Requester) (lsp off len : Nat) : State × List Byte :=
  if lsp = 0 then
    let s1 := if off = 0 then s.openView r.view else s
    match lget s1.evr.views r.view none with
    | some _ => (s1, pageSlice (s1.viewBytes r.view) off len)
    | none => (s1, pageSlice (s1.viewBytes r.view) 0 len)
  else if lsp = 1 then (s, pageSlice ((s.ffList.map FFRecord.bytes).flatten) off len)
  else
    let c := s.codePage
    (c.1, pageSlice c.2 off len)

/-! Snapshots (R496) and the command. -/

/-- A page read through its snapshot: taken at offset 0, or where none is younger than 60 s. -/
def State.snapPage (s : State) (r : Requester) (key off len : Nat) (page : List Byte) : State × List Byte :=
  let old := s.host.snaps.find? (fun x => x.req == r && x.page == key && decide (s.secs < x.time + 60))
  match (if off = 0 then none else old) with
  | some x => (s, pageSlice x.bytes off len)
  | none =>
    let keep := s.host.snaps.filter (fun x => !(x.req == r && x.page == key))
    ({ s with host := { s.host with snaps := keep ++ [⟨r, key, s.secs, page⟩] } }, pageSlice page off len)

/-- The bytes of a log page, or none where the page or its parameters are refused. -/
def State.logPage (s : State) (req : AdminReq) (lid lsp off len : Nat) : State × Except NStat (List Byte) :=
  let r := req.requester
  let ok (b : List Byte) : State × Except NStat (List Byte) := (s, .ok (pageSlice b off len))
  let two (x : State × List Byte) : State × Except NStat (List Byte) := (x.1, .ok x.2)
  let bare : Bool := s.flag Reg.SYS_STATUS_NO_IMAGE && lid != 0xC0 && lid != 0xC2
  if bare then (s, .error stInvalidLogPage)
  else if off % 4 ≠ 0 then (s, .error stInvalidField)
  else if lid = 0x01 then ok (s.errorPage req.ctrl)
  else if lid = 0x02 then ok s.smartPage
  else if lid = 0x03 then ok s.slotPage
  else if lid = 0x05 then ok effectsPage
  else if lid = 0xC0 then two (s.snapPage r lid off len s.vaultStatusPage)
  else if lid = 0xC1 then two (s.snapPage r lid off len s.lanPage)
  else if lid = 0xC2 then
    if off % 64 ≠ 0 ∨ (lsp ≠ 0 ∧ lsp ≠ 1 ∧ lsp ≠ 3) then (s, .error stInvalidField) else two (s.eventPage r lsp off len)
  else if lid = 0xC3 then
    if 1 < lsp then (s, .error stInvalidField) else two (s.snapPage r (lid + 256 * lsp) off len (s.wearPage (lsp == 1)))
  else if lid = 0xC4 then two (s.snapPage r lid off len s.dramPage)
  else (s, .error stInvalidLogPage)

/-- What the read of a page clears (R60, R497, R503): page 0xC0 at offset 0 removes conditions 0x01 and 0x04; without RAE the
event that named the page may be raised again on the reading controller. -/
def State.logRead (s : State) (req : AdminReq) (lid off : Nat) (rae : Bool) : State :=
  let s1 := if lid = 0xC0 ∧ off = 0 then (s.clearCond 0x01).clearCond 0x04 else s
  match req with
  | .host p =>
    if rae then s1 else s1.setNvme p { s1.nvme p with masked := (s1.nvme p).masked.filter (fun m => m != lid) }
  | .mi _ => s1

/-- Get Log Page (R480, R496–R502). -/
def State.getLog (s : State) (req : AdminReq) (id : CmdId) (lid lsp off len : Nat) (rae : Bool) : State :=
  let x := s.logPage req lid lsp off len
  match x.2 with
  | .ok b => ((x.1.adminData req b).logRead req lid off rae).adminDone req id stOk 0
  | .error st => x.1.adminDone req id st 0

end Sys2Proof.Machine
end

