-- ==== Sys2Proof/Machine/NvmeOps.lean ====
section
/-! DEFINITION. The NVMe controllers at work (R475–R485): queues and doorbells, features and power states, asynchronous event
requests, Identify, the I/O commands of the Ledger namespace, configuration writes. -/

namespace Sys2Proof.Machine

/-! Submission queues (R477, R509). -/

/-- The entries of a submission queue that are being fetched. -/
def Nvme.fetching (n : Nvme) (qid : Nat) : Nat := (n.fetches.filter (fun f => f.1 == qid)).length

/-- The slots of a submission queue that are not yet fetched, in order. -/
def Nvme.slotsDue (n : Nvme) (qid : Nat) (q : SubQ) : List Nat :=
  let at_ := (q.head + n.fetching qid) % q.size
  (List.range ((q.tail + q.size - at_) % q.size)).map (fun i => (at_ + i) % q.size)

/-- Fetch the entries that a queue's doorbell has made available: the function must be a bus master; after a shutdown
notification no I/O is taken (R478). -/
def State.pumpSq (s : State) (p : Port) (qid : Nat) : State :=
  let n := s.nvme p
  match mget n.sqs qid with
  | none => s
  | some q =>
    if !(s.port p).bme || !n.en || n.cfs || (n.shn != 0 && qid != 0) then s
    else (n.slotsDue qid q).foldl (fun (t : State) slot =>
      (t.setNvme p { t.nvme p with fetches := (t.nvme p).fetches ++ [(qid, slot)] }).send (.hostRead p (q.base + 64 * slot) 64)) s

/-- Every queue of a controller. -/
def State.pumpSqs (s : State) (p : Port) : State :=
  ((s.nvme p).sqs.map (fun e => e.1)).foldl (fun (t : State) q => t.pumpSq p q) s

/-- A submission queue tail doorbell; one of a queue that does not exist, or a value beyond its size, raises an error event. -/
def State.sqDoorbell (s : State) (p : Port) (qid tail : Nat) : State :=
  let n := s.nvme p
  match mget n.sqs qid with
  | none => s.asyncOn p 0 0 0x01
  | some q =>
    if q.size ≤ tail then s.asyncOn p 0 1 0x01
    else (s.setNvme p { n with sqs := mset n.sqs qid { q with tail := tail } }).pumpSq p qid

/-- A completion queue head doorbell. -/
def State.cqDoorbell (s : State) (p : Port) (qid head : Nat) : State :=
  let n := s.nvme p
  match mget n.cqs qid with
  | none => s.asyncOn p 0 0 0x01
  | some q =>
    if q.size ≤ head then s.asyncOn p 0 1 0x01
    else s.setNvme p { n with cqs := mset n.cqs qid { q with head := head } }

/-- The queue's head passes an entry whose fetch has ended. -/
def State.entryDone (s : State) (p : Port) (qid slot : Nat) : State :=
  let n := s.nvme p
  let sqs := match mget n.sqs qid with
    | some q => mset n.sqs qid { q with head := (slot + 1) % q.size }
    | none => n.sqs
  s.setNvme p { n with fetches := n.fetches.filter (fun f => f != (qid, slot)), sqs := sqs }

/-- An entry arrives: its command is outstanding, and the data that it takes from host memory is fetched. -/
def State.entryArrives (s : State) (p : Port) (qid slot : Nat) (id : CmdId) (op prp len : Nat) : State :=
  let s1 := s.entryDone p qid slot
  let o : Outstanding := ⟨⟨qid, id.cid⟩, op, decide (0 < len)⟩
  let s2 := s1.setNvme p { s1.nvme p with outs := (s1.nvme p).outs ++ [o] }
  if len = 0 then s2 else s2.send (.hostRead p prp len)

/-- The data of a command has arrived. -/
def State.dataArrives (s : State) (p : Port) (id : CmdId) : State :=
  s.setNvme p { s.nvme p with outs := (s.nvme p).outs.map (fun o => if o.id = id then { o with fetch := false } else o) }

/-- A read of host memory exceeds 50 ms (R477): its command completes with Data Transfer Error. The identifier in an entry that
never arrived is a free value. -/
def State.fetchLost (s : State) (p : Port) (f : HostFetch) : State :=
  let s1 := s.evHost 0x1002 4 p.idx
  match f with
  | .entry qid slot =>
    let c := s1.fresh 16
    (c.2.entryDone p qid slot).cqePost p ⟨qid, c.1⟩ stTransferError 0
  | .data id => s1.cqePost p id stTransferError 0

/-- The read is open. -/
def State.fetchOpen (s : State) (p : Port) : HostFetch → Bool
  | .entry qid slot => (s.nvme p).fetches.contains (qid, slot)
  | .data id => (s.nvme p).outs.any (fun o => o.id == id && o.fetch)

/-! Create and Delete I/O Queue (R480, R504). -/

/-- A queue identifier that a queue may take. -/
def qidOk (qid : Nat) (used : Bool) : Bool := decide (1 ≤ qid) && decide (qid ≤ 53) && !used

/-- Create I/O CQ or SQ. `qsize` is the number of entries less 1; `arg` is the vector, or the completion queue in bits 15 to 0
and the priority above. -/
def State.createQueue (s : State) (p : Port) (cq : Bool) (qid qsize base arg : Nat) (pc ien : Bool) : State × NStat :=
  let n := s.nvme p
  if !qidOk qid (if cq then (mget n.cqs qid).isSome else (mget n.sqs qid).isSome) then (s, stInvalidQid)
  else if qsize = 0 ∨ 4095 < qsize then (s, stInvalidQsize)
  else if !pc then (s, stInvalidField)
  else if cq then
    if 53 < arg then (s, stInvalidVector)
    else (s.setNvme p { n with cqs := mset n.cqs qid ⟨base, qsize + 1, arg, ien, 0, 0, true⟩ }, stOk)
  else if arg % 65536 = 0 ∨ (mget n.cqs (arg % 65536)).isNone then (s, stCqInvalid)
  else (s.setNvme p { n with sqs := mset n.sqs qid ⟨base, qsize + 1, arg % 65536, arg / 65536, 0, 0⟩ }, stOk)

/-- Delete I/O SQ or CQ: a submission queue takes its commands with it; a completion queue in use stays. -/
def State.deleteQueue (s : State) (p : Port) (cq : Bool) (qid : Nat) : State × NStat :=
  let n := s.nvme p
  if cq then
    if qid = 0 ∨ (mget n.cqs qid).isNone then (s, stInvalidQid)
    else if n.sqs.any (fun e => e.2.cq == qid) then (s, stInvalidQDelete)
    else (s.setNvme p { n with cqs := mdel n.cqs qid }, stOk)
  else if qid = 0 ∨ (mget n.sqs qid).isNone then (s, stInvalidQid)
  else (s.setNvme p { n with
    sqs := mdel n.sqs qid, outs := n.outs.filter (fun o => o.id.sq != qid), fetches := n.fetches.filter (fun f => f.1 != qid) }, stOk)

/-! Asynchronous Event Request and Abort (R479, R480, R487, R503). -/

/-- Asynchronous Event Request: it is answered at once when an event waits, and held otherwise, at most eight at a time. -/
def State.aerRequest (s : State) (p : Port) (id : CmdId) : State :=
  let n := s.nvme p
  let id0 : CmdId := { id with sq := 0 }
  match n.events with
  | d :: rest =>
    (s.setNvme p { n with events := rest, masked := n.masked ++ [d / 65536 % 256] }).cqePost p id0 stOk d
  | [] => if 8 ≤ n.aers.length then s.cqePost p id0 stAerLimit 0 else s.setNvme p { n with aers := n.aers ++ [id0] }

/-- Abort: a vendor command that waits to start, or a held event request, completes as aborted; DW0 bit 0 tells that nothing was
aborted. -/
def State.abortCmd (s : State) (p : Port) (id target : CmdId) : State :=
  let n := s.nvme p
  let hit (d : Deferred) : Bool := d.req == .host p && d.id == target
  if s.deferred.any hit then
    (({ s with deferred := s.deferred.filter (fun d => !hit d) } : State).adminDone (.host p) target stAborted 0).adminDone (.host p)
      id stOk 0
  else if n.aers.contains { target with sq := 0 } && target.sq == 0 then
    ((s.setNvme p { n with aers := n.aers.filter (fun a => a != target) }).adminDone (.host p) target stAborted 0).adminDone
      (.host p) id stOk 0
  else s.adminDone (.host p) id stOk 1

/-! Features (R480, R481, R503). -/

/-- The features supported. -/
def featIds : List Nat := [0x01, 0x02, 0x04, 0x07, 0x08, 0x09, 0x0B, 0x0F]

/-- The key of a feature's stored value: the temperature thresholds by sensor and side, the vectors by number. -/
def featKey (fid arg : Nat) : Nat :=
  if fid = 0x04 then 0x0400 + bitsOf arg 20 2 + 16 * bitsOf arg 16 4
  else if fid = 0x09 then 0x0900 + arg % 65536
  else fid

/-- The parameters of a feature are ones the controller has: composite temperature and two sensors, over and under; vectors 0 to
63. -/
def featOk (fid arg : Nat) : Bool :=
  featIds.contains fid && (fid != 0x04 || (decide (bitsOf arg 16 4 ≤ 2) && decide (bitsOf arg 20 2 ≤ 1))) &&
    (fid != 0x09 || decide (arg % 65536 < 64))

/-- The value of a feature. -/
def Nvme.feat (n : Nvme) (fid arg : Nat) : Nat :=
  if fid = 0x02 then n.ps
  else if fid = 0x04 then
    if featKey fid arg = 0x0400 then n.overTemp else mgetD n.feats (featKey fid arg) (if bitsOf arg 20 2 = 0 then 0xFFFF else 0)
  else if fid = 0x07 then 0x00340034
  else if fid = 0x09 then mgetD n.feats (featKey fid arg) (arg % 65536)
  else mgetD n.feats fid 0

/-- Every enabled controller is in a power state that the test accepts (R380, R386). -/
def State.allPs (s : State) (ok : Nat → Bool) : Bool :=
  let one (p : Port) : Bool := !(s.nvme p).en || ok (s.nvme p).ps
  one .a && one .b

/-- Set a power state (R481): PS1 and PS2 may make a sleep or a deep request; PS2 is refused while a condition of R386 fails. -/
def State.setPs (s : State) (p : Port) (ps : Nat) : State × NStat :=
  if 2 < ps ∨ (ps = 2 ∧ !s.deepMay) then (s, stInvalidField)
  else
    let s1 := s.setNvme p { s.nvme p with ps := ps }
    if ps = 0 then (s1, stOk)
    else if s1.allPs (fun x => x == 2) then (s1.deepRequest, stOk)
    else if s1.allPs (fun x => x != 0) then (s1.sleepRequest, stOk)
    else (s1, stOk)

/-- Set Features: status and DW0. A changed temperature threshold may change the warnings. -/
def State.setFeat (s : State) (p : Port) (fid arg : Nat) : State × NStat × Nat :=
  let n := s.nvme p
  if !featOk fid arg then (s, stInvalidField, 0)
  else if fid = 0x02 then
    let r := s.setPs p (arg % 32)
    (r.1, r.2, 0)
  else if fid = 0x07 then (s, stOk, 0x00340034)
  else
    let v := if fid = 0x04 then arg % 65536 else arg % 2 ^ 32
    let s1 := s.setNvme p { n with feats := mset n.feats (featKey fid arg) v }
    (if fid = 0x04 then s1.syncWarn else s1, stOk, 0)

/-! Identify (R479, R481, R483). -/

/-- The vendor identifiers of the running image in a number: Vendor ID, Subsystem Vendor ID, Subsystem ID from bit 0 up;
0x1FD3 for all three without an image (R476). -/
def State.vendorIds (s : State) : Nat := (s.boot.running.map (fun i => i.vendor)).getD 0x1FD31FD31FD3

/-- The model number, padded with spaces (R479): the IDENT string, else the default by ordering code. -/
def State.modelName (s : State) : List Byte :=
  match (s.boot.running.map (fun i => i.model)).getD [] with
  | [] => textBytes ['D', 'X', 'B', '-', '9', '6', '4', '0', '-', 'A', if s.view Reg.SYS_ID_ORDER = 1 then 'S' else 'E'] 40
  | b => b.take 40 ++ List.replicate (40 - b.length) 32

/-- A power state descriptor: maximum power, whether in units of 0.0001 W, non-operational, latencies. -/
def psDesc (mp : Nat) (fine nonOp : Bool) (en ex : Nat) : List Byte :=
  natLe mp 2 ++ natLe 0 1 ++ natLe (b2n fine + 2 * b2n nonOp) 1 ++ natLe en 4 ++ natLe ex 4 ++ natLe 0 20

/-- H: the bytes of the mirror view, 0 if unpaired. -/
def State.viewSize (s : State) : Nat := if s.pair then s.pmrBytes else 0

/-- Identify Controller (R479). -/
def State.identCtrl (s : State) (p : Port) : List Byte :=
  let ids := s.vendorIds
  let sn := textBytes ['T', 'B'] 2 ++ hexBytes (s.view Reg.SYS_UID_UID_HASH) 16 ++ textBytes [] 2
  let own := natLe 0x9640 2 ++ natLe 0xB0 1 ++ natLe (s.view Reg.SYS_ID_ORDER) 1 ++
    natLe (b2n s.pair + 2 * s.owner.idx) 1 ++ natLe 0 3 ++ natLe s.capGiB 2 ++ natLe 0 6 ++ natLe s.pmrBytes 8 ++
    natLe s.viewSize 8 ++ natLe ((s.boot.running.map (fun i => i.seq)).getD 0) 8 ++ natLe (s.get Reg.CFG_SVN_RUNNING) 4
  lay 4096 [(0, natLe ids 2), (2, natLe (ids / 65536) 2), (4, sn), (24, s.modelName),
    (64, frBytes (s.get Reg.CFG_IMG_SEQ_SEQ)), (76, natLe (if s.x8 then 0 else 3) 1), (77, natLe 8 1), (78, natLe p.idx 2),
    (256, natLe 2 2), (258, natLe 3 1), (259, natLe 7 1), (260, natLe 3 1), (261, natLe 6 1), (262, natLe 63 1), (263, natLe 2 1),
    (266, natLe 378 2), (268, natLe 388 2), (512, natLe 0x66 1), (513, natLe 0x44 1), (516, natLe 1 4), (520, natLe 0x0C 2),
    (2048, psDesc 2700 false false 0 0 ++ psDesc 350 false true 7000 100 ++ psDesc 500 true true 60012100 60000), (3072, own)]

/-- Identify Namespace of NSID 1 (R483). -/
def State.identNs (s : State) : List Byte :=
  let l := s.grt.ledger
  let unit := if l.lbaf = 0 then 3 else 31
  lay 4096 [(0, natLe l.nsze 8), (8, natLe l.ncap 8), (16, natLe l.blocks.length 8), (24, natLe 0x10 1), (25, natLe 1 1),
    (26, natLe l.lbaf 1), (30, natLe (b2n (!s.x8)) 1), (33, natLe 9 1), (64, natLe unit 2), (72, natLe unit 2),
    (128, natLe 0 2 ++ natLe 12 1 ++ natLe 0 1 ++ natLe 0 2 ++ natLe 9 1 ++ natLe 1 1)]

/-- The Ledger namespace exists: not without an image (R425). -/
def State.nsExists (s : State) : Bool := !s.flag Reg.SYS_STATUS_NO_IMAGE

/-- Identify (R480): controller, namespace, the list of namespaces, and the identification descriptors of a namespace, whose
values the spec does not give. -/
def State.identify (s : State) (req : AdminReq) (id : CmdId) (cns nsid : Nat) : State :=
  let give (b : List Byte) : State := (s.adminData req b).adminDone req id stOk 0
  if cns = 1 then give (s.identCtrl req.ctrl)
  else if cns = 2 then give (lay 4096 (if nsid = 0 ∧ s.nsExists = true then [(0, natLe 1 4)] else []))
  else if cns = 0 ∨ cns = 3 then
    if nsid ≠ 1 ∨ !s.nsExists then s.adminDone req id stInvalidNs 0
    else if cns = 0 then give s.identNs
    else
      let f := s.fresh 320
      (f.2.adminData req (lay 4096 [(0, natLe f.1 40)])).adminDone req id stOk 0
  else s.adminDone req id stInvalidField 0

/-! Format NVM (R485). -/

/-- Format NVM: the status that refuses it, or none. -/
def State.formatBar (s : State) (nsid lbaf ses : Nat) : Option NStat :=
  if nsid ≠ 1 ∧ nsid ≠ 0xFFFFFFFF then some stInvalidNs
  else if 1 < lbaf then some stInvalidFormat
  else if 2 < ses then some stInvalidField
  else if s.vaulting || s.rehearsing || s.boot.staging.isSome then some (stVendor 0xC0)
  else if !s.flag Reg.FLC_STATUS_READY then some stNotReady
  else if s.flag Reg.SYS_STATUS_SAFE then some stWriteProtected
  else none

/-! I/O (R484). -/

/-- A namespace other than NSID 1, or a state in which it is not ready. -/
def State.nsBar (s : State) (nsid : Nat) : Option NStat :=
  if nsid ≠ 1 ∨ !s.nsExists then some stInvalidNs
  else if !s.flag Reg.FLC_STATUS_READY || s.grt.ledger.formatting then some stNotReady
  else none

/-- The namespace takes no write (R174, R423). -/
def State.ledgerWp (s : State) : Bool := s.flag Reg.GRT_LEDGER_WP || s.flag Reg.SYS_STATUS_SAFE

/-- Why a command on a range of LBAs is refused before it reaches the flash. -/
def State.rangeBar (s : State) (nsid slba nlb : Nat) (write : Bool) : Option NStat :=
  match s.nsBar nsid with
  | some st => some st
  | none =>
    if s.grt.ledger.nsze < slba + nlb then some stLbaRange
    else if write && s.ledgerWp then some stWriteProtected
    else none

/-- The LBAs of a range. -/
def lbas (slba nlb : Nat) : List Nat := (List.range nlb).map (fun i => slba + i)

/-- Map an LBA to its bytes. -/
def Ledger.writeLba (l : Ledger) (n : Nat) (data : List Byte) : Ledger :=
  { l with blocks := mset l.blocks n (storeBytes [] 0 data), lost := l.lost.filter (fun x => x != n) }

/-- Deallocate an LBA. -/
def Ledger.trimLba (l : Ledger) (n : Nat) : Ledger :=
  { l with blocks := mdel l.blocks n, lost := l.lost.filter (fun x => x != n) }

/-- The bytes of an LBA: zeros where nothing is mapped (DLFEAT). -/
def Ledger.readLba (l : Ledger) (n : Nat) : List Byte := loadBytes ((mget l.blocks n).getD []) 0 l.lbaBytes

/-- Replace the namespace. -/
def State.setLedger (s : State) (l : Ledger) : State := { s with grt := { s.grt with ledger := l } }

/-- Update the SMART counters. -/
def State.smartUpd (s : State) (f : Smart → Smart) : State :=
  { s with host := { s.host with smart := f s.host.smart } }

/-- LBAs of a range that are not yet mapped. -/
def Ledger.newLbas (l : Ledger) (slba nlb : Nat) : Nat := ((lbas slba nlb).filter (fun n => (mget l.blocks n).isNone)).length

/-- Write (R483, R484): the transfer is whole LBAs, at most 1 MiB (MDTS). -/
def State.ledgerWrite (s : State) (nsid slba : Nat) (data : List Byte) : State × NStat :=
  let l := s.grt.ledger
  let nlb := data.length / l.lbaBytes
  if data.length % l.lbaBytes ≠ 0 ∨ data = [] ∨ 2 ^ 20 < data.length then (s, stInvalidField)
  else
    match s.rangeBar nsid slba nlb true with
    | some st => (s, st)
    | none =>
      if l.ncap < l.blocks.length + l.newLbas slba nlb then (s, stCapExceeded)
      else
        let l' := (List.range nlb).foldl (fun (m : Ledger) i =>
          m.writeLba (slba + i) ((data.drop (i * l.lbaBytes)).take l.lbaBytes)) l
        let w (t : State) : State := (t.setLedger l').smartUpd (fun m => { m with
          unitsWritten := m.unitsWritten + data.length / 512, writeCmds := m.writeCmds + 1 })
        match s.serviceLuns with
        | [] => (w s, stOk)
        | lun :: _ =>
          let r := s.underLeave (.ledgerProgram lun) w
          (r.1, if r.2 then stOk else stInternal)

/-- Read (R484): `bad` tells that LDPC, read retry and stripe parity all fail. -/
def State.ledgerRead (s : State) (r : Requester) (nsid slba nlb : Nat) (bad : Bool) : State × NStat :=
  let l := s.grt.ledger
  if nlb = 0 ∨ 2 ^ 20 < nlb * l.lbaBytes then (s, stInvalidField)
  else
    match s.rangeBar nsid slba nlb false with
    | some st => (s, st)
    | none =>
      if bad || (lbas slba nlb).any (fun n => l.lost.contains n) then
        (s.smartUpd (fun m => { m with mediaErrs := m.mediaErrs + 1 }), stUnrecovered)
      else
        ((s.send (.data r ((lbas slba nlb).map l.readLba).flatten)).smartUpd (fun m => { m with
          unitsRead := m.unitsRead + nlb * l.lbaBytes / 512, readCmds := m.readCmds + 1 }), stOk)

/-- Write Zeroes, which deallocates (R483), and the deallocation of Dataset Management. -/
def State.ledgerTrim (s : State) (nsid : Nat) (ranges : List (Nat × Nat)) : State × NStat :=
  match ranges.findSome? (fun r => s.rangeBar nsid r.1 r.2 true) with
  | some st => (s, st)
  | none => (s.setLedger ((ranges.map (fun r => lbas r.1 r.2)).flatten.foldl Ledger.trimLba s.grt.ledger), stOk)

/-- An I/O command at a controller: none is taken on a port that is down, at a controller that is not enabled or shut down, nor
from a trip to the seal, and it waits while PD_CTRL does not run. -/
def State.ioRun (s : State) (c : Instr) (p : Port) (id : CmdId) (k : State → State × NStat) : State :=
  let n := s.nvme p
  if !s.portLive p || !n.en || n.cfs || n.shn != 0 || s.vaulting then s
  else
    let s1 := s.touch 1
    if !s1.domOn .ctrl then s1.defer c (.host p) id
    else
      let r := k s1
      r.1.cqePost p id r.2 0

/-! Configuration writes and controller registers (R475, R477, R478, R482, R504). -/

/-- Send the MSI-X messages that are pending and no longer masked. -/
def State.msixDrain (s : State) (p : Port) : State :=
  let h := s.port p
  if h.msixEn && !h.msixFm then
    let go := h.pba.filter (fun v => h.unmasked.contains v)
    go.foldl (fun (t : State) v => t.send (.msix p v)) (s.setPort p { h with pba := h.pba.filter (fun v => !h.unmasked.contains v) })
  else s

/-- The least power of two not below `n`. -/
def pow2Up (n : Nat) : Nat := if n ≤ 1 then 1 else 2 ^ (Nat.log2 (n - 1) + 1)

/-- The bytes that a pair of BAR dwords claims (R476): BAR0/1 2 MiB, BAR2/3 the PMR, BAR4/5 the mirror view; 0 where the BAR
is not implemented. -/
def State.barSize (s : State) (pair : Nat) : Nat :=
  if pair = 0 then 2 * 2 ^ 20
  else if pair = 1 then (if s.pmrBytes = 0 then 0 else pow2Up s.pmrBytes)
  else if s.viewSize = 0 then 0 else pow2Up s.viewSize

/-- What a BAR dword reads as (R476): the address bits that its size leaves, with 64-bit type in the low dword and
prefetchable for the second and the third pair. -/
def State.barWord (s : State) (p : Port) (k : Nat) : Nat :=
  let size := s.barSize (k / 2)
  let v := lget (s.port p).bars k 0
  if size = 0 then 0
  else if k % 2 = 0 then v / Nat.min size (2 ^ 32) * Nat.min size (2 ^ 32) % 2 ^ 32 + (if k = 0 then 4 else 12)
  else v / (size / 2 ^ 32 + b2n (size % 2 ^ 32 != 0)) * (size / 2 ^ 32 + b2n (size % 2 ^ 32 != 0)) % 2 ^ 32

/-- A configuration write. -/
def State.cfgWrite (s : State) (p : Port) (w : CfgWrite) : State :=
  let h := s.port p
  match w with
  | .command mse bme => (s.setPort p { h with mse := mse, bme := bme }).pumpSqs p
  | .msix en fm => (s.setPort p { h with msixEn := en, msixFm := fm }).msixDrain p
  | .vector v masked =>
    if 64 ≤ v then s
    else
      let u := h.unmasked.filter (fun x => x != v)
      (s.setPort p { h with unmasked := if masked then u else u ++ [v] }).msixDrain p
  | .aerStatus x => s.setPort p { h with aerUnc := h.aerUnc - Nat.land h.aerUnc x.toNat }
  | .aerMask x => s.setPort p { h with aerMask := x.toNat }
  | .ecrc gen chk => s.setPort p { h with ecrcGen := gen, ecrcChk := chk }
  | .aspm l1 => s.setPort p { h with l1En := l1 }
  | .timeout => s
  | .bar k x => if k < 6 then s.setPort p { h with bars := lset h.bars k x.toNat } else s

/-- A write of a controller register other than CC, PMRCTL and the doorbells: the read-only registers and PMRMSC ignore it. -/
def State.nvmeRegWrite (s : State) (p : Port) (off w : Nat) : State :=
  let n := s.nvme p
  if off = 0x0C then s.setNvme p { n with intms := Nat.lor n.intms w }
  else if off = 0x10 then s.setNvme p { n with intms := n.intms - Nat.land n.intms w }
  else if off = 0x24 then s.setNvme p { n with aqa := w }
  else if off = 0x28 then s.setNvme p { n with asq := n.asq / 2 ^ 32 * 2 ^ 32 + w / 4096 * 4096 }
  else if off = 0x2C then s.setNvme p { n with asq := n.asq % 2 ^ 32 + w * 2 ^ 32 }
  else if off = 0x30 then s.setNvme p { n with acq := n.acq / 2 ^ 32 * 2 ^ 32 + w / 4096 * 4096 }
  else if off = 0x34 then s.setNvme p { n with acq := n.acq % 2 ^ 32 + w * 2 ^ 32 }
  else s

/-- The Keep Alive Timer expires: the controller stops with CFS set and an Error Information entry. -/
def State.keepAliveLost (s : State) (p : Port) : State :=
  let n := s.nvme p
  let e : ErrEntry := ⟨s.host.smart.errEntries + 1, ⟨0, 0xFFFF⟩, 0, 0x14⟩
  (s.setNvme p { n with cfs := true, errs := (e :: n.errs).take 64 }).smartUpd (fun m => { m with errEntries := m.errEntries + 1 })

end Sys2Proof.Machine
end

