-- ==== Sys2Proof/Machine/AdminCmds.lean ====
section
/-! DEFINITION. The admin commands (R426–R429, R480–R503): standard and vendor. -/

namespace Sys2Proof.Machine

/-! Pair Control (R313, R494). -/

/-- PAIR_STATUS (R494): action 0, which never waits. -/
def execPairStatus (req : AdminReq) (id : CmdId) (s : State) : Host.Outcome State Fault Refusal :=
  done s (s.admin (.pairStatus req id) req id .now false (fun t => (t.adminData req t.pairBytes).adminDone req id stOk 0))

/-- PAIR_DETACH (R313): action 1. -/
def execPairDetach (req : AdminReq) (id : CmdId) (s : State) : Host.Outcome State Fault Refusal :=
  done s (s.admin (.pairDetach req id) req id .vendor false (fun t => t.pairAction req id true State.detach))

/-- PAIR_REJOIN (R313): action 2. -/
def execPairRejoin (req : AdminReq) (id : CmdId) (s : State) : Host.Outcome State Fault Refusal :=
  done s (s.admin (.pairRejoin req id) req id .vendor false (fun t => t.pairAction req id t.canRejoin State.rejoin))

/-- PAIR_REPLACE (R297, R313): action 3, not while the peer is in SYNC or IN_SERVICE. -/
def execPairReplace (req : AdminReq) (id : CmdId) (s : State) : Host.Outcome State Fault Refusal :=
  done s (s.admin (.pairReplace req id) req id .vendor false (fun t =>
    t.pairAction req id (!t.streaming) (fun u => u.put Reg.ECH_STATUS_REPLACE_ARMED 1)))

/-- MIRROR_VIEW_ON (R313): action 4. -/
def execMirrorViewOn (req : AdminReq) (id : CmdId) (s : State) : Host.Outcome State Fault Refusal :=
  done s (s.admin (.mirrorViewOn req id) req id .vendor false (fun t =>
    t.pairAction req id true (fun u => u.put Reg.ECH_CTRL_MVIEW_EN 1)))

/-- MIRROR_VIEW_OFF (R313, R494): action 5, without effect in an unpaired image. -/
def execMirrorViewOff (req : AdminReq) (id : CmdId) (s : State) : Host.Outcome State Fault Refusal :=
  done s (s.admin (.mirrorViewOff req id) req id .vendor false (fun t =>
    (if t.pair then t.put Reg.ECH_CTRL_MVIEW_EN 0 else t).adminDone req id stOk 0))

/-! Updates (R426–R429, R492, R493). -/

/-- UPDATE_STAGE (R426, R492). `ofst` counts dwords. -/
def execUpdateStage (req : AdminReq) (id : CmdId) (ofst : Nat) (data : List Byte) (last : Bool) (s : State) :
    Host.Outcome State Fault Refusal :=
  done s (s.admin (.updateStage req id ofst data last) req id .vendor true (fun t => t.stage req id ofst data last))

/-- UPDATE_VERIFY_DONE (R427): `result` is what reading back the bank finds, 0 or a RESULT of 5 to 9; `img` is the image. -/
def execUpdateVerifyDone (result : Nat) (img : Image) (s : State) : Host.Outcome State Fault Refusal :=
  done s (if s.domOn .ctrl then s.verifyDone result img else s)

/-- UPDATE_COMMIT_WARM (R428): action 0. -/
def execUpdateCommitWarm (req : AdminReq) (id : CmdId) (s : State) : Host.Outcome State Fault Refusal :=
  done s (s.admin (.updateCommitWarm req id) req id .vendor true (fun t => t.commitStaged req id false false))

/-- UPDATE_COMMIT_COLD (R429): action 1. -/
def execUpdateCommitCold (req : AdminReq) (id : CmdId) (s : State) : Host.Outcome State Fault Refusal :=
  done s (s.admin (.updateCommitCold req id) req id .vendor true (fun t => t.commitStaged req id true false))

/-- UPDATE_COMMIT_FORMAT (R429): action 2. -/
def execUpdateCommitFormat (req : AdminReq) (id : CmdId) (s : State) : Host.Outcome State Fault Refusal :=
  done s (s.admin (.updateCommitFormat req id) req id .vendor true (fun t => t.commitStaged req id true true))

/-- UPDATE_ABORT (R428): action 3. -/
def execUpdateAbort (req : AdminReq) (id : CmdId) (s : State) : Host.Outcome State Fault Refusal :=
  done s (s.admin (.updateAbort req id) req id .vendor true (fun t => t.stageAbort req id))

/-- UPDATE_COMMIT_OTHER (R428): action 4. -/
def execUpdateCommitOther (req : AdminReq) (id : CmdId) (s : State) : Host.Outcome State Fault Refusal :=
  done s (s.admin (.updateCommitOther req id) req id .vendor true (fun t => t.commitOther req id))

/-! The other vendor commands (R467–R469, R488–R491, R495). -/

/-- GET_CHALLENGE (R490): a nonce and END_SEQ. -/
def execGetChallenge (req : AdminReq) (id : CmdId) (s : State) : Host.Outcome State Fault Refusal :=
  done s (s.admin (.getChallenge req id) req id .vendor false (fun t =>
    (t.getChallenge.1.adminData req t.getChallenge.2).adminDone req id stOk 0))

/-- CLEAR (R467–R469, R490). `keyOk`: the SHA-384 of KEY equals the slot's; `sigOk`: the signature verifies; `sigHash`: the first
16 bytes of the SHA-384 of the signature. -/
def execClear (req : AdminReq) (id : CmdId) (clearTo maxSev scope slot : Nat) (keyOk sigOk : Bool) (sigHash : List Nat)
    (s : State) : Host.Outcome State Fault Refusal :=
  done s (s.admin (.clear req id clearTo maxSev scope slot keyOk sigOk sigHash) req id .vendor false (fun t =>
    let r := t.logClear req.requester clearTo maxSev scope slot keyOk sigOk sigHash
    r.1.adminDone req id r.2 0))

/-- BARRIER_QUERY (R488): never waits, changes nothing but the answer. -/
def execBarrierQuery (req : AdminReq) (id : CmdId) (s : State) : Host.Outcome State Fault Refusal :=
  done s (s.admin (.barrierQuery req id) req id .now false (fun t => (t.adminData req t.barrierBytes).adminDone req id stOk 0))

/-- LEARN_CYCLE_REQUEST (R489). -/
def execLearnCycleRequest (req : AdminReq) (id : CmdId) (port : Fin 8) (cancel : Bool) (s : State) :
    Host.Outcome State Fault Refusal :=
  done s (s.admin (.learnCycleRequest req id port cancel) req id .vendor false (fun t => t.learnCommand req id port.val cancel))

/-- REHEARSAL_VAULT (R491). -/
def execRehearsalVault (req : AdminReq) (id : CmdId) (s : State) : Host.Outcome State Fault Refusal :=
  done s (s.admin (.rehearsalVault req id) req id .vendor false (fun t => t.rehCommand req id))

/-- REGISTER_ACCESS_READ (R495): never waits. -/
def execRegisterAccessRead (req : AdminReq) (id : CmdId) (off : Nat) (s : State) : Host.Outcome State Fault Refusal :=
  done s (s.admin (.registerAccessRead req id off) req id .now false (fun t => t.regAccess req id off none))

/-- REGISTER_ACCESS_WRITE (R495): never waits. -/
def execRegisterAccessWrite (req : AdminReq) (id : CmdId) (off : Nat) (w : Word) (s : State) :
    Host.Outcome State Fault Refusal :=
  done s (s.admin (.registerAccessWrite req id off w) req id .now false (fun t => t.regAccess req id off (some w.toNat)))

/-! Standard admin commands (R480). -/

/-- CREATE_IO_QUEUE (R480, R504). -/
def execCreateIoQueue (p : Port) (id : CmdId) (cq : Bool) (qid qsize base arg : Nat) (pc ien : Bool) (s : State) :
    Host.Outcome State Fault Refusal :=
  done s (s.admin (.createIoQueue p id cq qid qsize base arg pc ien) (.host p) id .std false (fun t =>
    let r := t.createQueue p cq qid qsize base arg pc ien
    r.1.adminDone (.host p) id r.2 0))

/-- DELETE_IO_QUEUE (R480). -/
def execDeleteIoQueue (p : Port) (id : CmdId) (cq : Bool) (qid : Nat) (s : State) : Host.Outcome State Fault Refusal :=
  done s (s.admin (.deleteIoQueue p id cq qid) (.host p) id .std false (fun t =>
    let r := t.deleteQueue p cq qid
    r.1.adminDone (.host p) id r.2 0))

/-- GET_LOG_PAGE (R480, R496–R502). -/
def execGetLogPage (req : AdminReq) (id : CmdId) (lid lsp off len : Nat) (rae : Bool) (s : State) :
    Host.Outcome State Fault Refusal :=
  done s (s.admin (.getLogPage req id lid lsp off len rae) req id .std true (fun t => t.getLog req id lid lsp off len rae))

/-- IDENTIFY (R479, R480, R483). -/
def execIdentify (req : AdminReq) (id : CmdId) (cns nsid : Nat) (s : State) : Host.Outcome State Fault Refusal :=
  done s (s.admin (.identify req id cns nsid) req id .std true (fun t => t.identify req id cns nsid))

/-- ABORT (R480, R487). -/
def execAbort (p : Port) (id target : CmdId) (s : State) : Host.Outcome State Fault Refusal :=
  done s (s.admin (.abort p id target) (.host p) id .std false (fun t => t.abortCmd p id target))

/-- ASYNCHRONOUS_EVENT_REQUEST (R480, R503). -/
def execAsynchronousEventRequest (p : Port) (id : CmdId) (s : State) : Host.Outcome State Fault Refusal :=
  done s (s.admin (.asynchronousEventRequest p id) (.host p) id .std false (fun t => t.aerRequest p id))

/-- KEEP_ALIVE (R480). -/
def execKeepAlive (p : Port) (id : CmdId) (s : State) : Host.Outcome State Fault Refusal :=
  done s (s.admin (.keepAlive p id) (.host p) id .std false (fun t => t.adminDone (.host p) id stOk 0))

/-- GET_FEATURES (R480, R481). -/
def execGetFeatures (req : AdminReq) (id : CmdId) (fid arg : Nat) (s : State) : Host.Outcome State Fault Refusal :=
  done s (s.admin (.getFeatures req id fid arg) req id .std false (fun t =>
    if featOk fid arg then t.adminDone req id stOk ((t.nvme req.ctrl).feat fid arg) else t.adminDone req id stInvalidField 0))

/-- SET_FEATURES (R480, R481): no feature can be saved. -/
def execSetFeatures (p : Port) (id : CmdId) (fid arg : Nat) (save : Bool) (s : State) : Host.Outcome State Fault Refusal :=
  done s (s.admin (.setFeatures p id fid arg save) (.host p) id .std false (fun t =>
    if !featOk fid arg then t.adminDone (.host p) id stInvalidField 0
    else if save then t.adminDone (.host p) id stNotSaveable 0
    else
      let r := t.setFeat p fid arg
      r.1.adminDone (.host p) id r.2.1 r.2.2))

/-- FORMAT_NVM (R485). -/
def execFormatNvm (p : Port) (id : CmdId) (nsid lbaf ses : Nat) (s : State) : Host.Outcome State Fault Refusal :=
  done s (s.admin (.formatNvm p id nsid lbaf ses) (.host p) id .std false (fun t =>
    match t.formatBar nsid lbaf ses with
    | some st => t.adminDone (.host p) id st 0
    | none => (t.ledgerFormat lbaf).adminDone (.host p) id stOk 0))

/-- INVALID_OPCODE (R7, R480, R484, R506): an admin opcode that is not supported, or, on an I/O queue, an I/O opcode that is
not. -/
def execInvalidOpcode (req : AdminReq) (id : CmdId) (s : State) : Host.Outcome State Fault Refusal :=
  done s (match req with
    | .host p =>
      if id.sq ≠ 0 then s.ioRun (.invalidOpcode req id) p id (fun t => (t, stInvalidOpcode))
      else s.admin (.invalidOpcode req id) req id .std true (fun t => t.adminDone req id stInvalidOpcode 0)
    | .mi _ => s.admin (.invalidOpcode req id) req id .std true (fun t => t.adminDone req id stInvalidOpcode 0))

end Sys2Proof.Machine
end

