-- ==== Sys2Proof/Machine/ClockCmds.lean ====
section
/-! DEFINITION. The commands of the root clock and of the leave broker (R25, R27–R30). -/

namespace Sys2Proof.Machine

/-- CLOCK_MONITOR_WINDOW (R25). -/
def execClockMonitorWindow (count : Nat) (s : State) : Host.Outcome State Fault Refusal := done s (s.clockWindow count)

/-- PLL_LOSS_OF_LOCK (R25): the root PLL signals loss of lock. -/
def execPllLossOfLock (s : State) : Host.Outcome State Fault Refusal := done s s.clockFault

/-- CLOCK_RELOCK_RESULT (R25): the relock attempt succeeds or fails; `margins` gives the channels and the least margin that each
verification finds. -/
def execClockRelockResult (ok : Bool) (margins : List (Nat × Nat)) (s : State) : Host.Outcome State Fault Refusal :=
  done s (if !s.pwr.relocking then s else if ok then s.relocked margins else s.clockHold)

/-- LEAVE_REQUEST (R27, R28): an operation asks the broker for leave. -/
def execLeaveRequest (op : LeaveOp) (s : State) : Host.Outcome State Fault Refusal := done s (s.leaveRequest op).1

/-- LEAVE_RETURN (R28): tokens come back, or a waiting request is withdrawn. -/
def execLeaveReturn (id : Nat) (s : State) : Host.Outcome State Fault Refusal := done s (s.leaveReturn id)

/-- LEAVE_AGE_EXPIRY (R28): a request has been queued longer than 50 ms and is examined first. -/
def execLeaveAgeExpiry (id : Nat) (s : State) : Host.Outcome State Fault Refusal :=
  done s (({ s with broker := { s.broker with
      queue := s.broker.queue.map (fun (l : Leave) => if l.id = id then { l with aged := true } else l) } } : State).leaveGrant)

end Sys2Proof.Machine
end

