-- ==== Sys2Proof/Machine/DramCmds.lean ====
section
/-! DEFINITION. The commands of the DRAM controller (R223–R283). Register-write rows stand in RegCmds. -/

namespace Sys2Proof.Machine

/-- DRAM_REQUEST (R229, R233, R234, R273): a request of a port, split into bursts in address order. -/
def execDramRequest (port : DPort) (write : Bool) (addr len ns : Nat) (s : State) : Host.Outcome State Fault Refusal :=
  done s (if s.capBytes < addr + len ∨ len = 0 ∨ !s.submits port then s
    else (burstsOf addr len).foldl (fun t b =>
      t.submitBurst port (if !write then .read else if b.2 then .write else .partialWrite) b.1 ns) s)

/-- DRAM_COMMAND_SLOT (R230–R239, R254–R263). -/
def execDramCommandSlot (sub ns dump rest : Nat) (forbid dev : List Nat) (s : State) : Host.Outcome State Fault Refusal :=
  done s (if s.domOn .dram then s.commandSlot sub ns dump rest forbid dev else s)

/-- ROW_IDLE_CLOSE (R231): an open row that no request waits for is closed. -/
def execRowIdleClose (bank : Nat) (s : State) : Host.Outcome State Fault Refusal :=
  let b := s.bank bank
  done s (match b.openRow with
    | none => s
    | some row => if (s.dmc.bankReqs bank).any (fun r => r.dst.row == row) then s
        else s.setBank bank { b with openRow := none, hits := 0 })

/-- REFRESH_DUE (R242). -/
def execRefreshDue (s : State) : Host.Outcome State Fault Refusal :=
  done s (if s.domOn .dram then s.refreshDue else s)

/-- REFRESH_CATCHUP (R242): a refresh that is owed is made up for while panic is released. -/
def execRefreshCatchup (s : State) : Host.Outcome State Fault Refusal :=
  let owed := s.get Reg.DMC_REF_STATUS_OWED
  done s (if s.domOn .dram ∧ s.dmc.panicDir = 0 ∧ owed ≠ 0 then (s.refresh).put Reg.DMC_REF_STATUS_OWED (owed - 1) else s)

/-- MR4_POLL (R240): `hot`: a device needs the doubled rate; `above`: a device is above its refresh range. -/
def execMr4Poll (hot above : Bool) (s : State) : Host.Outcome State Fault Refusal :=
  let n := if hot || above then 0 else s.dmc.mr4Normal + 1
  let s1 := { s with dmc := { s.dmc with mr4Normal := Nat.min 16 n } }
  let s2 := if hot || above then s1.put Reg.DMC_STATUS_REF_2X 1
    else if 16 ≤ n then s1.put Reg.DMC_STATUS_REF_2X 0 else s1
  done s (if !s.domOn .dram then s else if above then s2.ev .dmc 0x1004 6 0 else s2)

/-- RANK_POWER_DOWN (R243): an idle rank; never from a trip to the seal nor during a rehearsal. -/
def execRankPowerDown (sub rank : Nat) (s : State) : Host.Outcome State Fault Refusal :=
  let c := s.sub sub
  let busy := s.dmc.pool.any (fun r => r.dst.subKey == sub && r.dst.rk == rank)
  done s (if s.get Reg.DMC_PWR_CFG_PD_IDLE = 0 || busy || s.vaulting || s.rehearsing || c.pdown.contains rank then s
    else
      let s1 := { s with dmc := { s.dmc with
        banks := mmap (fun k (b : Bank) => if k / 32 = sub * 2 + rank then { b with openRow := none, hits := 0 } else b) s.dmc.banks } }
      s1.setSub sub { c with pdown := c.pdown ++ [rank] })

/-- POSITION_LEAK (R260): LEAK_S seconds without a correction remove 1 from the bucket. -/
def execPositionLeak (pos : Nat) (s : State) : Host.Outcome State Fault Refusal :=
  done s (match mget s.dmc.pos pos with
    | some p =>
      let p' : Position := { p with bucket := p.bucket - 1 }
      { s with dmc := { s.dmc with pos := mset s.dmc.pos pos p' } }
    | none => s)

/-- The burst of the map reserve that holds a granule's entry (R225). -/
def State.mapBurst (s : State) (g : Nat) : Nat := s.mapAddr g / 64

/-- The next burst that scrub may read at or after a burst (R258, R261): of a granule in COPIED, then of the written part of
the map reserve; none on a frozen channel. -/
def State.scrubNext (s : State) (b : Nat) : Option Nat :=
  let ok (g : Nat) (e : MapEnt) : Bool := e.st == .copied && !s.granFrozen g
  if ok (b / 64) (s.ent (b / 64)) then some b
  else
    match s.cache.map.find? (fun e => decide (b / 64 < e.1) && ok e.1 e.2) with
    | some e => some (e.1 * 64)
    | none => (s.cache.map.find? (fun e => decide (b ≤ s.mapBurst e.1) && s.mapKnown e.1)).map (fun e => s.mapBurst e.1)

/-- SCRUB_STEP (R261): the next eligible burst is read through the BG port; it pauses in a vault, a rehearsal, a panic. -/
def execScrubStep (ns : Nat) (s : State) : Host.Outcome State Fault Refusal :=
  done s (if !s.flag Reg.DMC_SCRUB_CFG_EN || s.vaulting || s.rehearsing || s.dmc.panicDir != 0 || !s.domOn .dram then s
    else
      match s.scrubNext s.dmc.scrubAt with
      | some b =>
        let s1 := { s with dmc := { s.dmc with scrubAt := b + 1 } }
        (s1.submitBurst .bg .read b ns).put Reg.DMC_SCRUB_STATUS_PCT (b * 64 * 100 / Nat.max 1 s.capBytes)
      | none =>
        (({ s with dmc := { s.dmc with scrubAt := 0 } } : State).incSat Reg.DMC_SCRUB_STATUS_PASSES 1).put
          Reg.DMC_SCRUB_STATUS_PCT 0)

/-- RH_WINDOW_END (R262, R263): tables and spill counters are cleared, throttles end. -/
def execRhWindowEnd (s : State) : Host.Outcome State Fault Refusal :=
  done s (({ s with dmc := { s.dmc with
    banks := mmap (fun _ b => { b with acts := [], spill := 0, throttled := [] }) s.dmc.banks } } : State).put
      Reg.DMC_RH_STATUS_ACTIVE 0)

/-- A gathering window's adjustment (R267): the AON set of the rate in use takes new delays, `drift` steps from the NOR set;
the NOR set is rewritten beyond 2 steps, at most once an hour. -/
def State.trackSet (s : State) (drift : Nat) : State :=
  match s.setFor s.dmc.setsAon s.dramRate with
  | none => { s with dmc := { s.dmc with drift := drift } }
  | some t =>
    let f := s.fresh 64
    let new : TrainSet := if drift = s.dmc.drift then t else { t with vals := f.1 }
    let s1 : State := { f.2 with dmc := { f.2.dmc with setsAon := addSet f.2.dmc.setsAon new, drift := drift } }
    let due := match s1.dmc.norAt with
      | some at_ => decide (at_ + 3600 ≤ s1.secs)
      | none => true
    if 2 < drift ∧ due = true then
      { s1 with dmc := { s1.dmc with
        drift := 0, norAt := some s1.secs, trainNor := s1.dmc.trainNor.write (addSet s1.dmc.setsNor new) } }
    else s1

/-- TRAINING_TRACK (R267): `drift` is the steps by which a delay now differs from the NOR set. No window opens while a clock
change waits, which is tried again in its place (R268). -/
def execTrainingTrack (sub drift : Nat) (s : State) : Host.Outcome State Fault Refusal :=
  done s (if !s.domOn .dram || s.vaulting || s.chFrozen (sub / 2) then s
    else if s.dmc.clockWait.isSome then s.clockRetry
    else s.trackSet drift)

/-- DRAM_CLOCK_CHANGE (R268): to one of the three rates of R248. -/
def execDramClockChange (rate : Nat) (s : State) : Host.Outcome State Fault Refusal :=
  done s (if s.domOn .dram && decide (rate % 4 ≤ 2) then s.clockChange (rate % 4) else s)

end Sys2Proof.Machine
end

