-- ==== Sys2Proof/Machine/EchoCmds.lean ====
section
/-! DEFINITION. The frames and timers of the Echo link (R284–R313). Pair Control and register writes stand in AdminCmds
and RegCmds. A frame's operands are its fields of R288; `rx` is what the link layer finds of it. -/

namespace Sys2Proof.Machine

/-- ECHO_LINK_UP (R284, R286, R299, R313): the link reaches L0 with a rate and a width (R319); one below 32 GT/s x8 only
where FALLBACK permits it. A member in DETACHED whose peer brings the link up again leaves DETACHED with it, unless safe mode
holds it there (R423). -/
def execEchoLinkUp (rate width : Nat) (s : State) : Host.Outcome State Fault Refusal :=
  done s (
    if !s.echoRate (rate % 4) (width % 4) then s
    else if s.domOn .echo && s.pair && s.echoState == eDown then s.echoUp (rate % 4) (width % 4)
    else if s.domOn .echo && s.pair && s.echoState == eDetached && !s.flag Reg.SYS_STATUS_SAFE then
      (({ s with ech := { s.ech with detachedAon := false } } : State).setEcho eDown 2).echoUp (rate % 4) (width % 4)
    else s)

/-- ECHO_TRAIN_RETRY (R286). -/
def execEchoTrainRetry (s : State) : Host.Outcome State Fault Refusal := done s s.echoTrain

/-- ECHO_TRAINING_ATTEMPT_FAILED (R27, R286): the leave is returned; the retry timer of 100 ms, or 10 s after ten failures
in a row, is armed. A peer that does not come back counts as gone for the granules that were to come from it (R131). -/
def execEchoTrainingAttemptFailed (s : State) : Host.Outcome State Fault Refusal :=
  done s (if s.askedOp .phyEcho then
    let s1 := s.leaveDropOp .phyEcho
    ({ s1 with ech := { s1.ech with failsRow := s1.ech.failsRow + 1 } } : State).dropRemote
  else s)

/-- ECHO_LINK_LOSS (R293, R299): the session ends; the state is DOWN unless it is DETACHED, HELD or REFUSED, and the link
retrains. -/
def execEchoLinkLoss (s : State) : Host.Outcome State Fault Refusal :=
  done s (if s.canRejoin then s else if s.flag Reg.ECH_LINK_UP then (s.endSession eDown 4).echoTrain else s)

/-- HELLO (R296, R297, R301): outside a handshake it is misbehaviour code 9. -/
def execHello (malformed : Bool) (nonce proto owner stepping : Nat) (resume : Bool) (cap uid pairId session : Nat)
    (s : State) : Host.Outcome State Fault Refusal :=
  let h : Hello := ⟨nonce, proto, owner, stepping, resume, cap, uid, pairId, session⟩
  let hdr := headerWords fHello 0 16 0 0
  done s (
    if !s.flag Reg.ECH_LINK_UP then s
    else if s.echoState != ePairing || s.ech.hello.isSome then (if s.sessionUp then s.misbehave 9 hdr else s)
    else if malformed then s.misbehave 9 hdr
    else
      let s1 := { s with ech := { s.ech with hello := some h } }
      let s2 := ((s1.put Reg.ECH_PEER_STEPPING stepping).put Reg.ECH_PEER_OWNER owner).put Reg.ECH_PEER_CAP_GIB cap
      let f := s2.fresh 384
      (f.2.send (.frame fProof [0, 0, 0] (natLe f.1 48))).pairCheck)

/-- PROOF (R296, R297): `ok` says whether its HMAC verifies. -/
def execProof (malformed ok : Bool) (s : State) : Host.Outcome State Fault Refusal :=
  let hdr := headerWords fProof 0 12 0 0
  done s (
    if !s.flag Reg.ECH_LINK_UP then s
    else if s.echoState != ePairing then (if s.sessionUp then s.misbehave 9 hdr else s)
    else if malformed then s.misbehave 9 hdr
    else if !ok then s.refusePeer 5 0
    else ({ s with ech := { s.ech with proofOk := true } } : State).pairCheck)

/-- MWR (R290, R301). -/
def execMwr (rx : Rx) (off low : Nat) (data : List Byte) (be : List Bool) (s : State) :
    Host.Outcome State Fault Refusal :=
  let arg := off + low * 2 ^ 40
  done s ((s.touch 3).rxFrame rx fMwr (beFlags be) arg (data.length / 4) (fun t =>
    t.rxMwr off (low % 2 ^ 24) data be (headerWords fMwr (beFlags be) (data.length / 4) rx.lseq arg)))

/-- EPOCH (R289, R301 code 8). -/
def execEpoch (rx : Rx) (epoch : Nat) (s : State) : Host.Outcome State Fault Refusal :=
  done s ((s.touch 3).rxFrame rx fEpoch 0 epoch 0 (fun t => t.rxEpoch epoch (headerWords fEpoch 0 0 rx.lseq epoch)))

/-- MACK (R290, R291, R301 codes 4 to 6): `kind` is KIND, `ns` the not-stored mark, `rtt` the round trip it ends. -/
def execMack (rx : Rx) (kind ns : Bool) (arg epoch dirtied rtt : Nat) (s : State) : Host.Outcome State Fault Refusal :=
  let fl := b2n ns + b2n kind * 2
  done s ((s.touch 3).rxFrame rx fMack fl arg 4 (fun t =>
    t.rxMack kind ns arg epoch dirtied rtt (headerWords fMack fl 4 rx.lseq arg)))

/-- ALLOW (R291, R301 code 7). -/
def execAllow (rx : Rx) (total : Nat) (s : State) : Host.Outcome State Fault Refusal :=
  done s ((s.touch 3).rxFrame rx fAllow 0 total 0 (fun t =>
    if total < t.ech.allowTotal then t.misbehave 7 (headerWords fAllow 0 0 rx.lseq total)
    else { t with ech := { t.ech with allowTotal := total } }))

/-- STATE (R292, R300, R313). A STATE frame is no activity (R379). -/
def execState (rx : Rx) (word : Nat) (s : State) : Host.Outcome State Fault Refusal :=
  done s (s.rxFrame rx fState 0 word 0 (fun t => t.rxState word))

/-- FRD (R304): answered once ORDER_SEQ is stored and the granule is present. -/
def execFrd (rx : Rx) (off tag len order : Nat) (s : State) : Host.Outcome State Fault Refusal :=
  done s ((s.touch 3).rxFrame rx fFrd 0 (off + tag * 2 ^ 40 + len * 2 ^ 48) 2 (fun t =>
    ({ t with ech := { t.ech with fwdIn := t.ech.fwdIn ++ [FwdIn.mk tag off len order] } } : State).pumpForwards))

/-- FDATA (R304, R301 code 10): `last`, `poison`, `notAvail` are its flags. -/
def execFdata (rx : Rx) (off tag : Nat) (last poison notAvail : Bool) (data : List Byte) (s : State) :
    Host.Outcome State Fault Refusal :=
  let fl := b2n last + b2n poison * 2 + b2n notAvail * 4
  done s ((s.touch 3).rxFrame rx fFdata fl (off + tag * 2 ^ 40) (data.length / 4) (fun t =>
    match t.ech.fwds.find? (fun f => f.tag == tag && f.off + f.got.length == off) with
    | none => t.misbehave 10 (headerWords fFdata fl (data.length / 4) rx.lseq (off + tag * 2 ^ 40))
    | some f =>
      let rest := t.ech.fwds.filter (fun x => x.tag != tag)
      let free (u : State) : State :=
        match u.ech.fwdWait with
        | [] => u
        | w :: ws => ({ u with ech := { u.ech with fwdWait := ws } } : State).forwardRead w.1 w.2.1 w.2.2
      if poison || notAvail then free (({ t with ech := { t.ech with fwds := rest } } : State).answerPoison f.port f.len)
      else if last then
        free (({ t with ech := { t.ech with fwds := rest } } : State).send
          (.cpl f.port .success false ((f.got ++ data).take f.len)))
      else { t with ech := { t.ech with fwds := rest ++ [{ f with got := f.got ++ data }] } }))

/-- GREQ (R312): answered with the granule's parts and version, after a fetch when it is not yet in DRAM. -/
def execGreq (rx : Rx) (gran tag purpose : Nat) (s : State) : Host.Outcome State Fault Refusal :=
  done s ((s.touch 3).rxFrame rx fGreq purpose (gran + tag * 2 ^ 32) 0 (fun t =>
    ({ t with ech := { t.ech with greqIn := t.ech.greqIn ++ [(tag, gran, purpose)] } } : State).pumpGreqs))

/-- GDATA (R306, R312, R301 code 10). -/
def execGdata (rx : Rx) (gran tag purpose part : Nat) (data : List Byte) (s : State) :
    Host.Outcome State Fault Refusal :=
  let arg := gran + tag * 2 ^ 32
  let fl := purpose + part * 4
  done s ((s.touch 3).rxFrame rx fGdata fl arg 128 (fun t =>
    if purpose = 2 then
      if t.ech.peerRs then
        let ps := mset (mgetD t.ech.rsParts gran []) (part % 8) data
        { t with ech := { t.ech with rsParts := mset t.ech.rsParts gran ps } }
      else t.misbehave 10 (headerWords fGdata fl 128 rx.lseq arg)
    else if t.ech.greqs.any (fun q => q.tag == tag && t.granIndex q.gran == gran) then
      { t with ech := { t.ech with greqs := t.ech.greqs.map (fun q =>
          if q.tag == tag then { q with parts := mset q.parts (part % 8) data } else q) } }
    else t.misbehave 10 (headerWords fGdata fl 128 rx.lseq arg)))

/-- GVER (R306, R312, R301 codes 10 and 12); `us` is the time since its request. From the trip on no mirror data is stored
(R80). -/
def execGver (rx : Rx) (gran tag purpose seq epoch gflags sectors status us : Nat) (s : State) :
    Host.Outcome State Fault Refusal :=
  let arg := gran + tag * 2 ^ 32
  let hdr := headerWords fGver purpose 4 rx.lseq arg
  done s ((s.touch 3).rxFrame rx fGver purpose arg 4 (fun t =>
    if t.vaulting then t
    else if purpose = 2 then
      if t.ech.peerRs then (t.storeResync gran seq epoch gflags sectors status hdr).pumpMirror else t.misbehave 10 hdr
    else
      match t.ech.greqs.find? (fun q => q.tag == tag && t.granIndex q.gran == gran) with
      | some q => ((t.rxRequested q seq epoch gflags sectors status us hdr).pumpGreqs).pumpMirror
      | none => t.misbehave 10 hdr))

/-- RSYNC (R308, R289): kind 0 BEGIN, 1 END, 2 ABORT. At END the prefix up to S_END is held, and acknowledged. -/
def execRsync (rx : Rx) (kind sEnd count : Nat) (s : State) : Host.Outcome State Fault Refusal :=
  let hdr := headerWords fRsync kind (if kind = 1 then 2 else 0) rx.lseq sEnd
  done s ((s.touch 3).rxFrame rx fRsync kind sEnd (if kind = 1 then 2 else 0) (fun t =>
    if kind = 0 then { t with ech := { t.ech with peerRs := true, epochFree := true, mirLive := true, rsParts := [] } }
    else if kind = 1 then
      match t.ech.peerEpoch with
      | none => t.misbehave 8 hdr
      | some e =>
        let st := Nat.max sEnd (t.get Reg.ECH_SEQ_STORED_SEQ)
        let t1 := { t with ech := { t.ech with peerRs := false, rsParts := [], expWrite := Nat.max t.ech.expWrite (st + 1),
                                                pendAck := t.ech.pendAck + 1, pendRs := t.ech.pendRs + count },
                           pmr := { t.pmr with peerEpoch := e } }
        ((t1.put Reg.ECH_SEQ_STORED_SEQ st).sendMack).pumpForwards
    else { t with ech := { t.ech with peerRs := false, rsParts := [] } }))

/-- LCTL (R293): an ACK frees replay space and credits, a NAK starts a replay; a counter not above the last is discarded. -/
def execLctl (ctl : Nat) (tagOk nak : Bool) (lseq freed : Nat) (s : State) : Host.Outcome State Fault Refusal :=
  done s (
    if !s.sessionUp || !tagOk || ctl ≤ s.ech.ctlSeen then s
    else
      let s1 := { s with ech := { s.ech with ctlSeen := ctl, peerFreed := freed } }
      if nak then
        let again := s1.ech.replay.filter (fun f => decide (lseq ≤ f.lseq % 2 ^ 32))
        (again.foldl (fun t f => t.send (.frame f.ty [f.flags, f.lseq % 2 ^ 32, f.arg] f.payload)) s1).incSat
          Reg.ECH_CNT_NAK_COUNT 1
      else { s1 with ech := { s1.ech with replay := s1.ech.replay.filter (fun f => decide (lseq < f.lseq % 2 ^ 32)) } })

/-- MACK_COALESCE_TIMER (R290). -/
def execMackCoalesceTimer (s : State) : Host.Outcome State Fault Refusal :=
  done s (if s.sessionUp then s.sendMack else s)

/-- STATE_SEND_TIMER (R292). -/
def execStateSendTimer (s : State) : Host.Outcome State Fault Refusal := done s s.echoStateSend

/-- LCTL_ACK_TIMER (R293): an ACK while frames arrive. -/
def execLctlAckTimer (s : State) : Host.Outcome State Fault Refusal :=
  done s (if s.sessionUp && s.ech.ackDue then s.lctl false else s)

/-- ECHO_REPLAY_TIMEOUT (R293): the link retrains; `ok` says whether the retrain reaches L0. -/
def execEchoReplayTimeout (ok : Bool) (s : State) : Host.Outcome State Fault Refusal :=
  done s (
    if !s.sessionUp then s
    else
      let s1 := s.incSat Reg.ECH_LINK_RETRAINS 1
      if ok then
        let s2 := { s1 with ech := { s1.ech with nakRow := 0 } }
        s2.ech.replay.foldl (fun t f => t.send (.frame f.ty [f.flags, f.lseq % 2 ^ 32, f.arg] f.payload)) s2
      else (s1.endSession eDown 4).echoTrain)

/-- ECHO_SILENCE (R300). -/
def execEchoSilence (s : State) : Host.Outcome State Fault Refusal := done s (s.lapse 1)

/-- LAPSED_REJOIN (R299, R307): the peer has been steady for REJOIN_MS. -/
def execLapsedRejoin (s : State) : Host.Outcome State Fault Refusal :=
  done s (if s.echoState = eLapsed ∧ s.ech.peerSteady then s.beginResync false else s)

/-- HELD_PENALTY_END (R302): HELD ends and the link retrains, unless a third misbehaviour holds it until Rejoin. -/
def execHeldPenaltyEnd (s : State) : Host.Outcome State Fault Refusal :=
  done s (if s.echoState = eHeld ∧ !s.ech.heldUntilRejoin then (s.setEcho eDown 2).echoTrain else s)

/-- REFUSED_RETRY (R297, R299). -/
def execRefusedRetry (s : State) : Host.Outcome State Fault Refusal :=
  done s (if s.echoState = eRefused then (s.setEcho eDown 2).echoTrain else s)

/-- RESYNC_GRANULE_READ (R306). -/
def execResyncGranuleRead (s : State) : Host.Outcome State Fault Refusal :=
  done s (if s.ech.rsActive && s.streaming then s.resyncStep else s)

/-- REPLACE_EXPIRY (R313). -/
def execReplaceExpiry (s : State) : Host.Outcome State Fault Refusal :=
  done s (s.put Reg.ECH_STATUS_REPLACE_ARMED 0)

end Sys2Proof.Machine
end

