-- ==== Sys2Proof/Machine/FlashCmds.lean ====
section
/-! DEFINITION. The flash kernel's commands (R195–R213): the nine opcodes as they are submitted to a ring, the issue to a
LUN, suspension, the end and the timeout of an operation, faults of a channel, foreign queue writes. -/

namespace Sys2Proof.Machine

/-- READ (R196 opcode 1): a descriptor is written into its ring. -/
def execRead (d : Desc) (s : State) : Host.Outcome State Fault Refusal := done s (s.flashSubmit { d with op := opRead })

/-- READ_HEADER (R196 opcode 2). -/
def execReadHeader (d : Desc) (s : State) : Host.Outcome State Fault Refusal :=
  done s (s.flashSubmit { d with op := opReadHeader })

/-- PROGRAM (R196 opcode 3). -/
def execProgram (d : Desc) (s : State) : Host.Outcome State Fault Refusal := done s (s.flashSubmit { d with op := opProgram })

/-- ERASE (R196 opcode 4). -/
def execErase (d : Desc) (s : State) : Host.Outcome State Fault Refusal := done s (s.flashSubmit { d with op := opErase })

/-- ERASED_CHECK (R196 opcode 5). -/
def execErasedCheck (d : Desc) (s : State) : Host.Outcome State Fault Refusal :=
  done s (s.flashSubmit { d with op := opErasedCheck })

/-- RESET_LUN (R196 opcode 6). -/
def execResetLun (d : Desc) (s : State) : Host.Outcome State Fault Refusal :=
  done s (s.flashSubmit { d with op := opResetLun })

/-- GET_FEATURE (R196 opcode 7). -/
def execGetFeature (d : Desc) (s : State) : Host.Outcome State Fault Refusal :=
  done s (s.flashSubmit { d with op := opGetFeature })

/-- SET_FEATURE (R196 opcode 8). -/
def execSetFeature (d : Desc) (s : State) : Host.Outcome State Fault Refusal :=
  done s (s.flashSubmit { d with op := opSetFeature })

/-- READ_RAW (R196 opcode 9). -/
def execReadRaw (d : Desc) (s : State) : Host.Outcome State Fault Refusal := done s (s.flashSubmit { d with op := opReadRaw })

/-- FLASH_DESCRIPTOR_ISSUE (R199, R200, R203): the next descriptor of a LUN; `aged` lists the tags that have waited
50 ms. -/
def execFlashDescriptorIssue (lun : Nat) (aged : List Nat) (s : State) : Host.Outcome State Fault Refusal :=
  done s (s.issueLun lun aged)

/-- FLASH_SUSPEND (R206). -/
def execFlashSuspend (lun : Nat) (s : State) : Host.Outcome State Fault Refusal := done s (s.suspendLun lun)

/-- FLASH_OP_COMPLETE (R191, R193, R197, R204). -/
def execFlashOpComplete (lun : Nat) (fail : Bool) (level best bits retried cwFail zeros us : Nat) (s : State) :
    Host.Outcome State Fault Refusal :=
  done s (s.opComplete lun fail level best bits retried cwFail zeros us)

/-- FLASH_OP_TIMEOUT (R208). -/
def execFlashOpTimeout (lun : Nat) (resetOk : Bool) (s : State) : Host.Outcome State Fault Refusal :=
  done s (s.opTimeout lun resetOk)

/-- FOREIGN_QUEUE_WRITE (R14, R219): discarded, counted and recorded at severity 5. A write by CP3 is not foreign. -/
def execForeignQueueWrite (r : Requester) (ch : Nat) (s : State) : Host.Outcome State Fault Refusal :=
  done s (
    if r = .cp3 then s
    else ((s.incSat Reg.FLC_FOREIGN_COUNT 1).raise Reg.FLC_STATUS_FOREIGN_EV Reg.FLC_CTRL_INT_EN 59).ev .flc 0x0003 5 ch)

/-- CHANNEL_FAULT (R211): `ok` says whether the retraining trains. -/
def execChannelFault (ch : Nat) (ok : Bool) (s : State) : Host.Outcome State Fault Refusal := done s (s.channelFault ch ok)

end Sys2Proof.Machine
end

