-- ==== Sys2Proof/Machine/NvmeCmds.lean ====
section
/-! DEFINITION. The I/O commands of the Ledger namespace, the doorbells, the reads of host memory, controller registers and
configuration writes (R475–R484, R509). -/

namespace Sys2Proof.Machine

/-- FLUSH (R484): there is no volatile write cache. -/
def execFlush (p : Port) (id : CmdId) (nsid : Nat) (s : State) : Host.Outcome State Fault Refusal :=
  done s (s.ioRun (.flush p id nsid) p id (fun t => (t, (t.nsBar (if nsid = 0xFFFFFFFF then 1 else nsid)).getD stOk)))

/-- WRITE (R484): it completes when its data and parity have programmed. -/
def execWrite (p : Port) (id : CmdId) (nsid slba : Nat) (data : List Byte) (s : State) : Host.Outcome State Fault Refusal :=
  done s (s.ioRun (.write p id nsid slba data) p id (fun t => t.ledgerWrite nsid slba data))

/-- READ_LBA (R484): `bad` tells that the data cannot be recovered. -/
def execReadLba (p : Port) (id : CmdId) (nsid slba nlb : Nat) (bad : Bool) (s : State) : Host.Outcome State Fault Refusal :=
  done s (s.ioRun (.readLba p id nsid slba nlb bad) p id (fun t => t.ledgerRead p.req nsid slba nlb bad))

/-- WRITE_ZEROES (R483, R484): it deallocates. -/
def execWriteZeroes (p : Port) (id : CmdId) (nsid slba nlb : Nat) (s : State) : Host.Outcome State Fault Refusal :=
  done s (s.ioRun (.writeZeroes p id nsid slba nlb) p id (fun t => t.ledgerTrim nsid [(slba, nlb)]))

/-- DATASET_MANAGEMENT (R484): only the deallocate attribute has an effect. -/
def execDatasetManagement (p : Port) (id : CmdId) (nsid : Nat) (dealloc : Bool) (ranges : List (Nat × Nat)) (s : State) :
    Host.Outcome State Fault Refusal :=
  done s (s.ioRun (.datasetManagement p id nsid dealloc ranges) p id (fun t =>
    if dealloc then t.ledgerTrim nsid ranges else (t, (t.nsBar nsid).getD stOk)))

/-- A submission queue's tail is written (R509). -/
def State.sqTail (s : State) (p : Port) (qid tail : Nat) : State :=
  if (s.nvme p).en then (s.touch 1).sqDoorbell p qid tail else s

/-- SQ_DOORBELL (R509): a posted write of a submission queue's tail. -/
def execSqDoorbell (p : Port) (qid tail : Nat) (s : State) : Host.Outcome State Fault Refusal :=
  done s (if s.portMem p then s.orHold p (.sqDoorbell p qid tail) (fun t => t.sqTail p qid tail) else s)

/-- A completion queue's head is written (R509). -/
def State.cqHead (s : State) (p : Port) (qid head : Nat) : State :=
  if (s.nvme p).en then (s.wake 1).cqDoorbell p qid head else s

/-- CQ_DOORBELL (R509): a posted write of a completion queue's head. -/
def execCqDoorbell (p : Port) (qid head : Nat) (s : State) : Host.Outcome State Fault Refusal :=
  done s (if s.portMem p then s.orHold p (.cqDoorbell p qid head) (fun t => t.cqHead p qid head) else s)

/-- HOST_READ_TIMEOUT (R477). -/
def execHostReadTimeout (p : Port) (f : HostFetch) (s : State) : Host.Outcome State Fault Refusal :=
  done s (if s.portLive p && s.fetchOpen p f then s.fetchLost p f else s)

/-- HOST_MEMORY_READ_COMPLETION (R477): for an entry, its command's identifier, its opcode (I/O opcodes from 256), and the address
and length of the data that it takes from host memory. -/
def execHostMemoryReadCompletion (p : Port) (f : HostFetch) (id : CmdId) (op prp len : Nat) (s : State) :
    Host.Outcome State Fault Refusal :=
  done s (
    if !s.portLive p || !s.fetchOpen p f then s
    else
      match f with
      | .entry qid slot => s.entryArrives p qid slot id op prp len
      | .data i => s.dataArrives p i)

/-- NVME_REGISTER_WRITE (R478, R482). -/
def execNvmeRegisterWrite (p : Port) (off : Nat) (w : Word) (s : State) : Host.Outcome State Fault Refusal :=
  done s (if s.portMem p then s.orHold p (.nvmeRegisterWrite p off w) (fun t => (t.wake 1).nvmeRegWrite p off w.toNat) else s)

/-- PCIE_CONFIG_WRITE (R475, R477, R504). -/
def execPcieConfigWrite (p : Port) (w : CfgWrite) (s : State) : Host.Outcome State Fault Refusal :=
  done s (if s.portLive p then (s.wake 1).cfgWrite p w else s)

/-- KEEP_ALIVE_TIMEOUT (R480): the timer runs while its feature is not 0. -/
def execKeepAliveTimeout (p : Port) (s : State) : Host.Outcome State Fault Refusal :=
  done s (if s.portLive p && (s.nvme p).en && !(s.nvme p).cfs && mgetD (s.nvme p).feats 0x0F 0 != 0 then s.keepAliveLost p else s)

end Sys2Proof.Machine
end

