-- ==== Sys2Proof/Machine/PmrCmds.lean ====
section
/-! DEFINITION. The PMR's commands (R33–R67): write and read TLPs, sequencing, barriers, PMRCTL, port resets, controller
enable and shutdown, and the energy-insufficient condition. -/

namespace Sys2Proof.Machine

/-- A waiting item leaves a port's receive queue into its share, or is ordered at once when nothing waits before it. -/
def State.pushItem (s : State) (p : Port) (i : PortItem) : State :=
  (s.setPortQueue p (s.portQueue p ++ [i])).syncThr p

/-- A port's share has room for so many more bytes of waiting writes (R74). -/
def State.shareRoom (s : State) (p : Port) (n : Nat) : Bool := decide (queueBytes (s.portQueue p) + n ≤ s.portShare)

/-- A write TLP leaves the receive queue of its port (R34, R35). An ECRC error is noticed while the host enables checking
(R477). -/
def State.writeArrives (s : State) (p : Port) (addr : Nat) (data : List Byte) (be : List Bool) (ep ecrcErr : Bool) : State :=
  let s1 := s.touch 1
  if !s1.portMem p then s1.aer p aerUnsupported
  else if ecrcErr && (s1.port p).ecrcChk then s1.aer p aerEcrc
  else if ep then s1.aer p aerPoisoned
  else if be.all (fun b => !b) then s1
  else if (s1.portQueue p).isEmpty && !s1.asleep && !s1.writable p addr data.length then s1.discardWrite p
  else (s1.pushItem p (.write addr data be)).noteWait

/-- PMR_WRITE_TLP (R34, R35, R74): a posted write to BAR2/3. One that finds its port's share full is held back by flow
control, and every posted write of the port after it. -/
def execPmrWriteTlp (p : Port) (addr : Nat) (data : List Byte) (be : List Bool) (ep ecrcErr : Bool) (s : State) :
    Host.Outcome State Fault Refusal :=
  done s (
    if !s.portLive p then s
    else if s.shareRoom p data.length then s.orHold p (.pmrWriteTlp p addr data be ep ecrcErr)
      (fun t => t.writeArrives p addr data be ep ecrcErr)
    else { s with flow := s.flow ++ [(p, .pmrWriteTlp p addr data be ep ecrcErr)] })

/-- The write at the head of a port's queue that can be sequenced now (R34, R73). -/
def State.headReady (s : State) (p : Port) : Bool :=
  match s.portQueue p with
  | .write addr data _ :: _ => s.writable p addr data.length && s.sequencable addr data.length
  | _ => false

/-- Sequence the write at the head of a port's queue (R38), then order the reads behind it (R37). -/
def State.sequenceHead (s : State) (p : Port) : State :=
  match s.portQueue p with
  | .write addr data be :: rest =>
    let s1 := (s.setPortQueue p rest).acceptWrite addr data be
    (s1.drainReads p (s1.portQueue p)).syncThr p
  | _ => s

/-- The port sequenced in a cycle in which both are ready: not the winner of the previous tie; port A first (R38). -/
def State.tieWinner (s : State) : Port :=
  match s.pmr.lastTie with
  | some .a => .b
  | _ => .a

/-- A fabric cycle (R38): the writes that fail R34 for another reason than the horizon are discarded, then the ready port's
head write, or the tie's winner's, takes the next sequence. -/
def State.sequenceTurn (s : State) (ready : Option Port) : State :=
  let s1 := s.settlePorts.noteWait
  match ready with
  | some p => if s1.headReady p then s1.sequenceHead p else s1
  | none =>
    if s1.headReady .a && s1.headReady .b then
      let p := s1.tieWinner
      ({ s1 with pmr := { s1.pmr with lastTie := some p } } : State).sequenceHead p
    else if s1.headReady .a then s1.sequenceHead .a
    else if s1.headReady .b then s1.sequenceHead .b
    else s1

/-- A read of BAR2/3 leaves the receive queue of its port (R34, R37): it waits behind writes of its port that wait. -/
def State.readArrives (s : State) (p : Port) (addr len : Nat) : State :=
  let s1 := s.touch 1
  if !s1.portMem p then s1.refuseRead p
  else if s1.asleep || !(s1.portQueue p).isEmpty then s1.pushItem p (.read addr len)
  else s1.orderRead p addr len

/-- PMR_READ (R34, R36, R37, R55): a memory read of BAR2/3. -/
def execPmrRead (p : Port) (addr len : Nat) (s : State) : Host.Outcome State Fault Refusal :=
  done s (if s.portLive p then s.orHold p (.pmrRead p addr len) (fun t => t.readArrives p addr len) else s)

/-- A read of PMRSTS arrives at `ns` nanoseconds and is ordered behind the writes of its port (R43). -/
def State.barrierArrives (s : State) (p : Port) (ns : Nat) : State :=
  let s1 := (s.atTime ns).touch 1
  if !s1.portMem p then s1.refuseRead p
  else if s1.asleep || !(s1.portQueue p).isEmpty then s1.pushItem p (.barrier ns)
  else s1.orderBarrier p ns

/-- A read of PMRSTS: it arrives at once, or is held back behind the posted writes of its port (R43, R74). -/
def State.barrierRead (s : State) (p : Port) (ns : Nat) : State :=
  if s.portLive p then s.orHold p (.barrierRead p ns) (fun t => t.barrierArrives p ns) else s

/-- BARRIER_READ (R43). -/
def execBarrierRead (p : Port) (ns : Nat) (s : State) : Host.Outcome State Fault Refusal := done s (s.barrierRead p ns)

/-- The oldest group of barriers completes, once its 1 µs window is over and its rule is met (R41, R43). -/
def State.barrierTurn (s : State) : State :=
  match s.pmr.barriers with
  | [] => s
  | b :: _ => if s.pmr.windowOver b.group then s.completeBarriers else s

/-- BARRIER_COMPLETE (R41, R43, R45) at `ns` nanoseconds: all reads of the oldest group complete together. -/
def execBarrierComplete (ns : Nat) (s : State) : Host.Outcome State Fault Refusal := done s (s.atTime ns).barrierTurn

/-- BARRIER_ACK_TIMEOUT (R45, R300): the reads of the oldest group have waited ACK_TO for the peer's acknowledgement of the
writes that the group covers; the peer lapses. -/
def execBarrierAckTimeout (s : State) : Host.Outcome State Fault Refusal :=
  done s (match s.pmr.barriers with
    | [] => s
    | b :: _ => if s.barrierRule (s.pmr.groupPoint b.group) = .notMet then s.lapse 0 else s)

/-- PMRCTL takes a word (R48, R58): bit 0 is EN; clearing it discards the port's pending barrier reads, those that still wait
behind writes among them, and its received writes then fail R34; GRACE may end (R361). -/
def State.pmrctl (s : State) (p : Port) (w : Word) : State :=
  let s1 := s.wake 1
  let en := bitOf w.toNat 0
  let s2 := s1.setPort p { s1.port p with pmrEn := en }
  if en then s2 else ((s2.dropBarriers p).settlePorts).graceTurn

/-- PMRCTL_WRITE (R48, R58). -/
def execPmrctlWrite (p : Port) (w : Word) (s : State) : Host.Outcome State Fault Refusal :=
  done s (if s.portMem p then s.orHold p (.pmrctlWrite p w) (fun t => t.pmrctl p w) else s)

/-- PORT_RESET (R48, R58, R66, R477): a Function Level Reset keeps the link; a Conventional Reset takes it down. -/
def execPortReset (p : Port) (flr : Bool) (s : State) : Host.Outcome State Fault Refusal :=
  done s (
    if !s.portExists p then s
    else
      let h := s.port p
      let h' := if flr then { HostPort.init with linkUp := h.linkUp, linkSt := h.linkSt } else HostPort.init
      let s1 := (s.setPort p h').dropPort p
      if flr || !s1.domOn .host then s1 else s1.phyRequest p)

/-- PORT_LINK_DOWN (R66, R477): the controller resets, PMRCTL.EN stands. -/
def execPortLinkDown (p : Port) (s : State) : Host.Outcome State Fault Refusal :=
  done s (
    if !s.portLive p then s
    else
      let h := s.port p
      ((s.setPort p { HostPort.init with pmrEn := h.pmrEn }).dropPort p).phyRequest p)

/-- HOST_LINK_UP (R27, R66): the link reaches L0 and the bring-up leave is returned. A bring-up that holds no grant asks for one,
and waits while it is queued. `status` is the link status word. -/
def execHostLinkUp (p : Port) (status : Nat) (s : State) : Host.Outcome State Fault Refusal :=
  done s (
    if !s.portExists p || !s.domOn .host then s
    else
      let s0 := s.phyRequest p
      if s0.holdsOp (.phyHost p) then
        (s0.setPort p { s0.port p with linkUp := true, inL1 := false, linkSt := status % 2 ^ 32 }).leaveDropOp (.phyHost p)
      else s0)

/-- The controller as CC.EN 1 to 0 leaves it: the admin queue registers stand, every queue and command is gone. -/
def Nvme.disabled (n : Nvme) : Nvme :=
  { Nvme.init with aqa := n.aqa, asq := n.asq, acq := n.acq, cc := n.cc - n.cc % 2 }

/-- CC.EN goes from 1 to 0 (R66): the controller resets, the PMR is left unchanged. -/
def State.ctrlDisable (s : State) (p : Port) : State := ((s.wake 1).setNvme p (s.nvme p).disabled).dropCmds p

/-- CONTROLLER_DISABLE (R66): a posted write of CC. -/
def execControllerDisable (p : Port) (s : State) : Host.Outcome State Fault Refusal :=
  done s (if s.portMem p then s.orHold p (.controllerDisable p) (fun t => t.ctrlDisable p) else s)

/-- CC.EN goes from 0 to 1 (R478): RDY follows whatever the PMR does; the admin queues stand as AQA, ASQ and ACQ say. -/
def State.ctrlEnable (s : State) (p : Port) (cc : Word) : State :=
  if (s.nvme p).en then s
  else
    let s1 := s.wake 1
    let n := s1.nvme p
    let sq : SubQ := ⟨n.asq, n.aqa % 4096 + 1, 0, 0, 0, 0⟩
    let cq : CompQ := ⟨n.acq, n.aqa / 65536 % 4096 + 1, 0, true, 0, 0, true⟩
    s1.setNvme p { n with en := true, rdy := true, shst := 0, shn := 0, cc := cc.toNat / 2 * 2 + 1,
                          sqs := [(0, sq)], cqs := [(0, cq)] }

/-- CONTROLLER_ENABLE (R478): a posted write of CC. -/
def execControllerEnable (p : Port) (cc : Word) (s : State) : Host.Outcome State Fault Refusal :=
  done s (if s.portMem p then s.orHold p (.controllerEnable p cc) (fun t => t.ctrlEnable p cc) else s)

/-- CC.SHN asks for a shutdown (R361, R363, R478): new I/O stops and SHST reports shutdown complete, which may end GRACE. -/
def State.ctrlShutdown (s : State) (p : Port) (shn : Nat) : State :=
  if (s.nvme p).en && shn % 4 != 0 then
    let s1 := s.wake 1
    (s1.setNvme p { s1.nvme p with shn := shn % 4, shst := 2 }).graceTurn
  else s

/-- SHUTDOWN_NOTIFICATION (R363, R478): a posted write of CC. -/
def execShutdownNotification (p : Port) (shn : Nat) (s : State) : Host.Outcome State Fault Refusal :=
  done s (if s.portMem p then s.orHold p (.shutdownNotification p shn) (fun t => t.ctrlShutdown p shn) else s)

/-- The admission floor of R62 in bytes. -/
def State.floorBytes (s : State) : Nat := s.get Reg.UMB_CAP_CFG_FLOOR * 2 ^ 20

/-- ENERGY_INSUFFICIENT_ENTRY (R62, R63): the horizon has been below the floor for 1 s; waiting writes are discarded. -/
def execEnergyInsufficientEntry (s : State) : Host.Outcome State Fault Refusal :=
  done s (
    if s.get Reg.UMB_HORIZON_BYTES < s.floorBytes ∧ !s.pmr.insuff then
      let s1 := { s with pmr := { s.pmr with insuff := true } }
      (((s1.put Reg.UMB_STATUS_INSUFF 1).setCond 0x12).settlePorts).syncWarn
    else s)

/-- ENERGY_INSUFFICIENT_EXIT (R62): the horizon has stood at twice the floor for 10 s. -/
def execEnergyInsufficientExit (s : State) : Host.Outcome State Fault Refusal :=
  done s (
    if s.pmr.insuff ∧ 2 * s.floorBytes ≤ s.get Reg.UMB_HORIZON_BYTES then
      let s1 := { s with pmr := { s.pmr with insuff := false } }
      ((s1.put Reg.UMB_STATUS_INSUFF 0).clearCond 0x12).syncWarn
    else s)

end Sys2Proof.Machine
end

