-- ==== Sys2Proof/Machine/RegCmds.lean ====
section
/-! DEFINITION. The commands that are accesses to vendor registers (R509–R517): the writes that set one bit of a control
register, and any other read or write. A row of one bit is a write of its register with that bit set; the word's other bits
act as they stand. -/

namespace Sys2Proof.Machine

/-- VLT_STAT_CLR (R133): a write with STAT_CLR set. -/
def execVltStatClr (r : Requester) (w : Word) (s : State) : Host.Outcome State Fault Refusal :=
  done s (s.bitWrite r 0x160000 Reg.VLT_CTRL_STAT_CLR w)

/-- REHEARSAL_REQUEST (R88): a write with REH_START set. -/
def execRehearsalRequest (r : Requester) (w : Word) (s : State) : Host.Outcome State Fault Refusal :=
  done s (s.bitWrite r 0x150000 Reg.UMB_CTRL_REH_START w)

/-- GRT_FORMAT_WRITE (R172): a write with FORMAT set. -/
def execGrtFormatWrite (r : Requester) (w : Word) (s : State) : Host.Outcome State Fault Refusal :=
  done s (s.bitWrite r 0x170000 Reg.GRT_CTRL_FORMAT w)

/-- JRNL_FLUSH (R176): a write with JRNL_FLUSH set. -/
def execJrnlFlush (r : Requester) (w : Word) (s : State) : Host.Outcome State Fault Refusal :=
  done s (s.bitWrite r 0x170000 Reg.GRT_CTRL_JRNL_FLUSH w)

/-- GC_NOW (R176): a write with GC_NOW set. -/
def execGcNow (r : Requester) (w : Word) (s : State) : Host.Outcome State Fault Refusal :=
  done s (s.bitWrite r 0x170000 Reg.GRT_CTRL_GC_NOW w)

/-- FLC_CNT_CLR (R216): a write with CNT_CLR set. -/
def execFlcCntClr (r : Requester) (w : Word) (s : State) : Host.Outcome State Fault Refusal :=
  done s (s.bitWrite r 0x180000 Reg.FLC_CTRL_CNT_CLR w)

/-- DMC_STAT_CLR (R247): a write with STAT_CLR set. -/
def execDmcStatClr (r : Requester) (w : Word) (s : State) : Host.Outcome State Fault Refusal :=
  done s (s.bitWrite r 0x190000 Reg.DMC_CTRL_STAT_CLR w)

/-- DMC_ECC_CNT_CLR (R278): a write with CTRL_CNT_CLR set. -/
def execDmcEccCntClr (r : Requester) (w : Word) (s : State) : Host.Outcome State Fault Refusal :=
  done s (s.bitWrite r 0x190100 Reg.DMC_ECC_CTRL_CNT_CLR w)

/-- ECH_CNT_CLR (R317): a write with CNT_CLR set. -/
def execEchCntClr (r : Requester) (w : Word) (s : State) : Host.Outcome State Fault Refusal :=
  done s (s.bitWrite r 0x1A0000 Reg.ECH_CTRL_CNT_CLR w)

/-- LEARN_REQ (R336): a write with LEARN_REQ set. -/
def execLearnReq (r : Requester) (w : Word) (s : State) : Host.Outcome State Fault Refusal :=
  done s (s.bitWrite r 0x140000 Reg.LAN_CTRL_LEARN_REQ w)

/-- LEARN_CANCEL (R338): a write with LEARN_CANCEL set. -/
def execLearnCancel (r : Requester) (w : Word) (s : State) : Host.Outcome State Fault Refusal :=
  done s (s.bitWrite r 0x140000 Reg.LAN_CTRL_LEARN_CANCEL w)

/-- LAN_FAULT_CLR (R345): a write with FAULT_CLR set. -/
def execLanFaultClr (r : Requester) (w : Word) (s : State) : Host.Outcome State Fault Refusal :=
  done s (s.bitWrite r 0x140000 Reg.LAN_CTRL_FAULT_CLR w)

/-- OFF_REQ (R361, R372): a write with OFF_REQ set. -/
def execOffReq (r : Requester) (w : Word) (s : State) : Host.Outcome State Fault Refusal :=
  done s (s.bitWrite r 0x130000 Reg.SUP_CTRL_OFF_REQ w)

/-- SUP_FAULT_CLR (R355): a write with FAULT_CLR set. -/
def execSupFaultClr (r : Requester) (w : Word) (s : State) : Host.Outcome State Fault Refusal :=
  done s (s.bitWrite r 0x130000 Reg.SUP_CTRL_FAULT_CLR w)

/-- FF_ACK (R372): a write with FF_ACK set. -/
def execFfAck (r : Requester) (w : Word) (s : State) : Host.Outcome State Fault Refusal :=
  done s (s.bitWrite r 0x130000 Reg.SUP_CTRL_FF_ACK w)

/-- CLK_MON_CLR (R404): a write with MON_CLR set. -/
def execClkMonClr (r : Requester) (w : Word) (s : State) : Host.Outcome State Fault Refusal :=
  done s (s.bitWrite r 0x110000 Reg.CLK_CTRL_MON_CLR w)

/-- SLEEP_REQ (R380): a write with SLEEP_REQ set. -/
def execSleepReq (r : Requester) (w : Word) (s : State) : Host.Outcome State Fault Refusal :=
  done s (s.bitWrite r 0x120000 Reg.PWR_CTRL_SLEEP_REQ w)

/-- DEEP_REQ (R386): a write with DEEP_REQ set. -/
def execDeepReq (r : Requester) (w : Word) (s : State) : Host.Outcome State Fault Refusal :=
  done s (s.bitWrite r 0x120000 Reg.PWR_CTRL_DEEP_REQ w)

/-- PWR_CANCEL (R397): a write with CANCEL set. -/
def execPwrCancel (r : Requester) (w : Word) (s : State) : Host.Outcome State Fault Refusal :=
  done s (s.bitWrite r 0x120000 Reg.PWR_CTRL_CANCEL w)

/-- WAKE_REQ (R387): a write with WAKE_REQ set. -/
def execWakeReq (r : Requester) (w : Word) (s : State) : Host.Outcome State Fault Refusal :=
  done s (s.bitWrite r 0x120000 Reg.PWR_CTRL_WAKE_REQ w)

/-- PWR_CNT_CLR (R397): a write with CNT_CLR set. -/
def execPwrCntClr (r : Requester) (w : Word) (s : State) : Host.Outcome State Fault Refusal :=
  done s (s.bitWrite r 0x120000 Reg.PWR_CTRL_CNT_CLR w)

/-- SAFE_CLR (R424): a write with SAFE_CLR set. -/
def execSafeClr (r : Requester) (w : Word) (s : State) : Host.Outcome State Fault Refusal :=
  done s (s.bitWrite r 0x100004 Reg.SYS_CTRL_SAFE_CLR w)

/-- PROV_BURN (R414): a write with CTRL_BURN set. -/
def execProvBurn (r : Requester) (w : Word) (s : State) : Host.Outcome State Fault Refusal :=
  done s (s.bitWrite r 0x100028 Reg.SYS_PROV_CTRL_BURN w)

/-- CFG_LOCK (R435): a write with LOCK set. -/
def execCfgLock (r : Requester) (w : Word) (s : State) : Host.Outcome State Fault Refusal :=
  done s (s.bitWrite r 0x1C0000 Reg.CFG_CTRL_LOCK w)

/-- EVR_FLUSH (R471): a write with FLUSH set. -/
def execEvrFlush (r : Requester) (w : Word) (s : State) : Host.Outcome State Fault Refusal :=
  done s (s.bitWrite r 0x1B0000 Reg.EVR_CTRL_FLUSH w)

/-- EVR_RD_GO (R466): a write with RD_GO set. -/
def execEvrRdGo (r : Requester) (w : Word) (s : State) : Host.Outcome State Fault Refusal :=
  done s (s.bitWrite r 0x1B0000 Reg.EVR_CTRL_RD_GO w)

/-- EVR_CNT_CLR (R471): a write with CNT_CLR set. -/
def execEvrCntClr (r : Requester) (w : Word) (s : State) : Host.Outcome State Fault Refusal :=
  done s (s.bitWrite r 0x1B0000 Reg.EVR_CTRL_CNT_CLR w)

/-- FLC_EC_SEL_WRITE (R220): a write of FLC_EC_SEL. -/
def execFlcEcSelWrite (r : Requester) (w : Word) (s : State) : Host.Outcome State Fault Refusal := done s (s.wordWrite r 0x18002C w)

/-- DMC_POS_SEL_WRITE (R279): a write of DMC_POS_SEL. -/
def execDmcPosSelWrite (r : Requester) (w : Word) (s : State) : Host.Outcome State Fault Refusal := done s (s.wordWrite r 0x190114 w)

/-- DMC_XLATE (R253): a write of the high dword of DMC_XLATE_ADDR, with the low dword held before it. -/
def execDmcXlate (r : Requester) (w : Word) (s : State) : Host.Outcome State Fault Refusal := done s (s.wordWrite r 0x190054 w)

/-- DMC_DIAG_READ (R283): a write of the high dword of DMC_DIAG_ADDR. -/
def execDmcDiagRead (r : Requester) (w : Word) (s : State) : Host.Outcome State Fault Refusal := done s (s.wordWrite r 0x190164 w)

/-- PROV_DATA_WRITE (R439): a write of SYS_PROV_DATA. -/
def execProvDataWrite (r : Requester) (w : Word) (s : State) : Host.Outcome State Fault Refusal := done s (s.wordWrite r 0x10002C w)

/-- A write of FLC_CTRL with RETRAIN_GO set. -/
def State.retrainWrite (s : State) (r : Requester) (w : Word) (ok : Bool) : State :=
  (s.regWriteEnv r 0x180000 (Nat.lor w.toNat (2 ^ Reg.FLC_CTRL_RETRAIN_GO.lo)) (some ok)).st

/-- RETRAIN_GO (R211, R216): a write of FLC_CTRL with RETRAIN_GO set; `ok` says whether the channel trains. -/
def execRetrainGo (r : Requester) (w : Word) (ok : Bool) (s : State) : Host.Outcome State Fault Refusal :=
  done s (s.windowPut r (.retrainGo r w ok) (fun t => t.retrainWrite r w ok))

/-- The requester that a control processor is. -/
def cpReq (n : Fin 4) : Requester :=
  match n with
  | 0 => .cp0 | 1 => .cp1 | 2 => .cp2 | 3 => .cp3

/-- WDT_HEARTBEAT (R434): a control processor sets its bit of WDT_HB. -/
def execWdtHeartbeat (cp : Fin 4) (s : State) : Host.Outcome State Fault Refusal :=
  done s (s.wordWrite (cpReq cp) 0x1D000C (BitVec.ofNat 32 (2 ^ cp.val)))

/-- WDT_KICK (R434): a write of WDT_KICK. -/
def execWdtKick (r : Requester) (key : Byte) (s : State) : Host.Outcome State Fault Refusal :=
  done s (s.wordWrite r 0x1D0008 (BitVec.ofNat 32 key.toNat))

/-- An access has one of the two sizes of R511. -/
def sizeOk (o len : Nat) : Bool := (len == 4 && o % 4 == 0) || (len == 8 && o % 8 == 0)

/-- A requester's read of the window (R511): its data, for a host as a completion TLP, and for the on-chip requesters with the
bus-error flag of R394. -/
def State.windowRead (s : State) (r : Requester) (o len : Nat) : State :=
  match r.port with
  | some p =>
    if sizeOk o len then
      let a := if len = 4 then s.regRead r o else s.regRead2 r o
      a.st.send (.cpl p .success false (natLe a.val len))
    else s.send (.cpl p .unsupported false [])
  | none =>
    if sizeOk o len then
      let a := if len = 4 then s.regRead r o else s.regRead2 r o
      a.st.send (.reg r a.val a.off)
    else s

/-- A requester's write of the window (R511): other sizes are an Unsupported Request for a host; a single dword whose byte
enables are not all set is dropped and recorded. -/
def State.windowWrite (s : State) (r : Requester) (o : Nat) (data : List Byte) (be : List Bool) : State :=
  let w := leNat data
  if !sizeOk o data.length then
    match r.port with
    | some p => s.aer p aerUnsupported
    | none => s
  else if data.length = 4 then
    if be.all (fun b => b) then
      let a := s.regWrite r o w
      if r.port.isNone && a.off then a.st.send (.reg r deadWord true) else a.st
    else
      match Block.ofOff o with
      | some b => (s.noteAccess r o).accEvent b.source 0x3003 3 o w r
      | none => s
  else
    let a := s.regWrite2 r o w
    if r.port.isNone && a.off then a.st.send (.reg r deadWord true) else a.st

/-- PMRTO in units of 500 ms (R57): 0x3C until discovery; then what covers the vault pages of a LUN at the slowest read time in
use (the LUNs in Grotto service), plus 16 s. -/
def State.pmrTo (s : State) : Nat :=
  if s.flag Reg.FLC_STATUS_READY then
    let slow := ((s.flc.luns.filter (fun e => e.2.st == .active || e.2.st == .writeOut)).map (fun e =>
      ((s.devProfile e.1).map (fun d => d.tRead)).getD 0)).foldl Nat.max 0
    let us := s.get Reg.GRT_GEOM_BLOCKS * s.get Reg.GRT_GEOM_PAGES * slow + 16000000
    Nat.min 255 (Nat.max 0x3C (ceilDiv us 500000))
  else 0x3C

/-- The PMR registers of a port (R57, R58, R482): PMRCAP, PMRCTL, PMREBS, PMRSWTP. -/
def State.pmrDword (s : State) (p : Port) (o : Nat) : Nat :=
  match o with
  | 0xE00 => s.pmrTo * 2 ^ 16 + 2 * 2 ^ 10 + 2 * 2 ^ 5 + 2 ^ 4 + 2 ^ 3
  | 0xE04 => b2n (s.port p).pmrEn
  | 0xE0C => (if s.x8 then 2 else 1) * 2 ^ 8 + 2
  | 0xE10 => s.get Reg.UMB_ENDUR_FILL_FILL * 1000 / 2 ^ 20 * 2 ^ 8 + 2
  | _ => 0

/-- The NVMe registers that a host reads at the start of BAR0 (R57–R59, R478, R482), as bytes: the dword at an offset.
BPINFO, CMB and the rest read 0. -/
def State.nvmeDword (s : State) (p : Port) (o : Nat) : Nat :=
  let n := s.nvme p
  let cap : Nat := 0x0FFF + 2 ^ 16 + 0x14 * 2 ^ 24 + 2 ^ 37 + 4 * 2 ^ 52 + 2 ^ 56
  match o with
  | 0x00 => cap % 2 ^ 32
  | 0x04 => cap / 2 ^ 32
  | 0x08 => 0x00020000
  | 0x0C | 0x10 => n.intms
  | 0x14 => n.cc
  | 0x1C => s.csts p
  | 0x24 => n.aqa
  | 0x28 => n.asq % 2 ^ 32
  | 0x2C => n.asq / 2 ^ 32
  | 0x30 => n.acq % 2 ^ 32
  | 0x34 => n.acq / 2 ^ 32
  | _ => s.pmrDword p o

/-- REGISTER_READ (R394, R509, R511, R513): a read through BAR0, or by a processor, of the vendor window; a host's read of its
NVMe and PMR registers, and of an unassigned range, which reads 0. A read of PMRSTS is a barrier read, at a time that the
command does not give (R59). -/
def execRegisterRead (r : Requester) (off len : Nat) (s : State) : Host.Outcome State Fault Refusal :=
  done s (
    if !s.reaches r then s
    else
      let s1 := s.arrive r
      if inWindow off then s1.windowRead r off len
      else
        match r.port with
        | some p =>
          if off / 4 * 4 = 0xE08 then
            s1.barrierRead p s1.pmr.now
          else
          let v := if off < 0x1000 then s1.nvmeDword p (off / 4 * 4) + s1.nvmeDword p (off / 4 * 4 + 4) * 2 ^ 32 else 0
          s1.send (.cpl p .success false (natLe v len))
        | none => s1.send (.reg r 0 false))

/-- A write of BAR0: outside the window nothing is stored here. -/
def State.regPut (s : State) (r : Requester) (off : Nat) (data : List Byte) (be : List Bool) : State :=
  if inWindow off then s.windowWrite r off data be else s

/-- REGISTER_WRITE (R10, R509–R516): a write of the vendor window; elsewhere in BAR0 outside the NVMe region it is dropped. -/
def execRegisterWrite (r : Requester) (off : Nat) (data : List Byte) (be : List Bool) (s : State) :
    Host.Outcome State Fault Refusal :=
  done s (s.windowPut r (.registerWrite r off data be) (fun t => t.regPut r off data be))

end Sys2Proof.Machine
end

