-- ==== Sys2Proof/Machine/FlowCmds.lean ====
section
/-! DEFINITION. PCIe flow control on posted writes (R20, R74), and the sequencing of waiting writes, which frees the ports'
shares of the ingest buffer (R38). -/

namespace Sys2Proof.Machine

/-- A posted write that flow control held back, or a PMR read behind it, leaves the receive queue: it acts as its command
does. -/
def State.runHeld (s : State) : Instr → State
  | .pmrWriteTlp p addr data be ep ecrcErr => s.writeArrives p addr data be ep ecrcErr
  | .pmrRead p addr len => s.readArrives p addr len
  | .barrierRead p ns => s.barrierArrives p ns
  | .pmrctlWrite p w => if s.portMem p then s.pmrctl p w else s
  | .controllerEnable p cc => if s.portMem p then s.ctrlEnable p cc else s
  | .controllerDisable p => if s.portMem p then s.ctrlDisable p else s
  | .shutdownNotification p shn => if s.portMem p then s.ctrlShutdown p shn else s
  | .sqDoorbell p qid tail => if s.portMem p then s.sqTail p qid tail else s
  | .cqDoorbell p qid head => if s.portMem p then s.cqHead p qid head else s
  | .nvmeRegisterWrite p off w => if s.portMem p then (s.wake 1).nvmeRegWrite p off w.toNat else s
  | .registerWrite r off data be => if s.reaches r then (s.arrive r).regPut r off data be else s
  | .retrainGo r w ok => if s.reaches r then (s.arrive r).retrainWrite r w ok else s
  | _ => s

/-- What flow control holds back can leave the receive queue: a PMR write when its port's share has room, anything else at once
(R74). -/
def State.flowFits (s : State) (p : Port) : Instr → Bool
  | .pmrWriteTlp _ _ data _ _ _ => s.shareRoom p data.length
  | _ => true

/-- Credits return as a port's share empties (R74): what was held back goes on in its order, as far as there is room; at most `n`
of it. -/
def State.flowOn (p : Port) : Nat → State → State
  | 0, s => s
  | n + 1, s =>
    match findPlace (fun x => x.1 == p) s.flow with
    | none => s
    | some i =>
      match s.flow[i]? with
      | some x =>
        if s.portLive p && s.flowFits p x.2 then State.flowOn p n (({ s with flow := eraseAt s.flow i } : State).runHeld x.2) else s
      | none => s

/-- Both ports' held writes go on. -/
def State.flowBoth (s : State) : State :=
  let s1 := State.flowOn .a s.flow.length s
  State.flowOn .b s1.flow.length s1

/-- PMR_WRITE_SEQUENCE (R38): one waiting write takes the next sequence. `ready` is the one port whose write is ready in
this fabric cycle, none when both ports' writes are; `ns` is the time of the cycle, at which the reads behind it are ordered. A
write that the horizon, Echo or the merge queue does not admit waits. -/
def execPmrWriteSequence (ready : Option Port) (ns : Nat) (s : State) : Host.Outcome State Fault Refusal :=
  done s (if s.asleep then s else ((s.atTime ns).sequenceTurn ready).flowBoth)

end Sys2Proof.Machine
end

