-- ==== Sys2Proof/Machine/GrottoCmds.lean ====
section
/-! DEFINITION. The Grotto's commands that no register write gives (R163, R166, R176): the journal's timer, the format's
arming window, the ends of GC stripes and erases. -/

namespace Sys2Proof.Machine

/-- FORMAT_ARMED_EXPIRY (R176): one second after the first FORMAT write. -/
def execFormatArmedExpiry (s : State) : Host.Outcome State Fault Refusal := done s (s.put Reg.GRT_STATUS_FORMAT_ARMED 0)

/-- JOURNAL_FLUSH_TIMER (R163): one second after the oldest staged entry, or at 1,021 entries. -/
def execJournalFlushTimer (s : State) : Host.Outcome State Fault Refusal :=
  done s (if s.grt.formatted then s.journalFlush else s)

/-- GC_STRIPE_PROGRAMMED (R166 step 3): a GC stripe whose last program has ended. -/
def execGcStripeProgrammed (serial : Nat) (s : State) : Host.Outcome State Fault Refusal :=
  done s (match s.flightOf serial with
    | some f => if f.writer = .gc ∧ f.waiting = [] then s.gcAccount f else s
    | none => s)

/-- A block of the victim still waits for its erase to end. -/
def State.erasePending (s : State) (g : Gc) : Bool :=
  g.blocks.any (fun y => (s.lun y.1).st == .active && ((s.blk y.1 y.2).st == .inBand || (s.blk y.1 y.2).half))

/-- GC_ERASE_DONE (R166 step 5): every erase of the victim has ended. -/
def execGcEraseDone (s : State) : Host.Outcome State Fault Refusal :=
  done s (match s.grt.gc with
    | some g => if g.stage = 2 ∧ !s.erasePending g then s.gcDone g else s
    | none => s)

end Sys2Proof.Machine
end

