-- ==== Sys2Proof/Machine/LanternCmds.lean ====
section
/-! DEFINITION. Lantern's commands that no register write gives (R322–R343, R555, R556). -/

namespace Sys2Proof.Machine

/-- LANTERN_SAMPLE (R330): one 1 ms window. -/
def execLanternSample (l : List Sample) (s : State) : Host.Outcome State Fault Refusal := done s (s.lanternSample l)

/-- LOWCUR_ENTRY (R325): 1 s below 50 mA. -/
def execLowcurEntry (port : Nat) (s : State) : Host.Outcome State Fault Refusal := done s (s.lowEntry port)

/-- LOWCUR_UPDATE (R325): the means over 15.625 ms, in microamperes and pin microvolts. -/
def execLowcurUpdate (port : Nat) (ua uv temp : Int) (s : State) : Host.Outcome State Fault Refusal :=
  done s (s.lowUpdate port ua uv temp)

/-- LOWCUR_EXIT (R325): the comparator sees 50 mA or more. -/
def execLowcurExit (port : Nat) (s : State) : Host.Outcome State Fault Refusal :=
  done s (if port < 8 then s.put (Reg.LAN_Mn_STATUS_LOWCUR port) 0 else s)

/-- CONVERTER_SILENT (R341). -/
def execConverterSilent (port : Nat) (s : State) : Host.Outcome State Fault Refusal := done s (s.converterSilent port)

/-- LANTERN_NOR_COPY (R332): every 10 min, while CP1 runs. -/
def execLanternNorCopy (s : State) : Host.Outcome State Fault Refusal :=
  done s (if s.domOn .ctrl && !s.asleep then s.lanCopy else s)

/-- SIGMA_AGING (R337): every 30 days, up to 20 %. -/
def execSigmaAging (s : State) : Host.Outcome State Fault Refusal :=
  done s (ports8.foldl (fun t n =>
    if measured (t.modSt n) || t.modSt n == mFault then
      let m := t.mod n
      let sc := rmin (1 / 5) (m.sc + (t.get Reg.LAN_LEARN_CFG_AGE_PCT : Rat) / 10000)
      (t.setMod n { m with sc := sc }).putR (Reg.LAN_Mn_CAP_SIGMA n) (sc * 1000)
    else t) s)

/-- REST_WINDOW_START (R334). -/
def execRestWindowStart (port : Nat) (s : State) : Host.Outcome State Fault Refusal := done s (s.restStart port)

/-- REST_WINDOW_END (R334): the decay of the EM_VS pin in microvolts per second over the last 5 min, and the final pin voltage in
microvolts. -/
def execRestWindowEnd (uvPerS uv : Int) (s : State) : Host.Outcome State Fault Refusal := done s (s.restEnd uvPerS uv)

/-- LEARN_START (R336). -/
def execLearnStart (port : Nat) (s : State) : Host.Outcome State Fault Refusal := done s (s.learnStart port)

/-- LEARN_CHARGED (R555). -/
def execLearnCharged (s : State) : Host.Outcome State Fault Refusal := done s s.learnCharged

/-- LEARN_CHARGE_TIMEOUT (R556). -/
def execLearnChargeTimeout (s : State) : Host.Outcome State Fault Refusal := done s s.learnTimeout

/-- LEARN_DISCHARGE_START (R336 step 3): `uv` is the pin voltage at the end of the 60 s pause. -/
def execLearnDischargeStart (uv : Int) (s : State) : Host.Outcome State Fault Refusal := done s (s.learnDischarge uv)

/-- LEARN_DISCHARGE_END (R336 steps 4 and 5): the learner's current in microamperes and its pin voltage in microvolts. -/
def execLearnDischargeEnd (ua uv : Int) (s : State) : Host.Outcome State Fault Refusal := done s (s.learnDischarged ua uv)

/-- LEARN_RELAX_END (R334, R337): the decay of the pin voltage over the last 5 min, and the pin voltage then. -/
def execLearnRelaxEnd (uvPerS uv : Int) (s : State) : Host.Outcome State Fault Refusal := done s (s.learnRelaxed uvPerS uv)

/-- LEARN_RECHARGE_DONE (R336 step 7). -/
def execLearnRechargeDone (s : State) : Host.Outcome State Fault Refusal := done s s.learnRecharged

/-- LEARN_GUARD (R336): the learner's pin voltage, or none where Lantern's heartbeat has stopped. -/
def execLearnGuard (uv : Option Int) (s : State) : Host.Outcome State Fault Refusal := done s (s.learnGuard uv)

end Sys2Proof.Machine
end

