-- ==== Sys2Proof/Machine/MgmtOps.lean ====
section
/-! DEFINITION. Management on the SMBus and on the console (R505–R508, R518–R520): the NVMe-MI endpoint, the Basic Management
Command, the indirect register window, the UART lines. -/

namespace Sys2Proof.Machine

/-! NVMe-MI (R505–R507). -/

/-- The values of the health answers: those held from the DEEP entry while the device is in DEEP (R507). -/
def State.healthNow (s : State) : List Nat :=
  if s.get Reg.PWR_STATUS_STATE = pwrDeep then s.host.smb.heldHealth else s.healthVals

/-- A request at the SMBus port (R505, R507): nothing answers while PD_SUP is off; from a trip to the seal the address is not
acknowledged; until the endpoint ID is assigned MCTP control messages alone are accepted (`mctp`: the request needs the ID). A
request that the AON microcontroller answers (`held`) wakes nothing in DEEP; every other wakes the device with source 2 and is
answered when CP0 runs. -/
def State.mi (s : State) (c : Instr) (mctp held : Bool) (k : State → State) : State :=
  if !s.domOn .sup then s
  else if s.vaulting then s.send .smbNak
  else if mctp && s.host.smb.eid == 0 then s
  else if held && s.get Reg.PWR_STATUS_STATE == pwrDeep then k s
  else
    let t := s.touch 2
    if t.domOn .ctrl then k t else t.defer c (.mi .a) ⟨0, 0⟩

/-- A successful NVMe-MI response with data. -/
def State.miData (s : State) (bytes : List Byte) : State := (s.send (.data .smbus bytes)).send (.miResp 0 0 0)

/-- An NVMe-MI response that refuses a field. -/
def State.miRefuse (s : State) : State := s.send (.miResp stInvalidField.sct stInvalidField.sc 0)

/-- Change the SMBus side. -/
def State.setSmb (s : State) (f : Smbus → Smbus) : State := { s with host := { s.host with smb := f s.host.smb } }

/-- A configuration identifier's value: 1 the SMBus frequency (1 is 100 kHz, 2 is 400 kHz), 3 the MCTP transmission unit. -/
def State.miConfig (s : State) (cid : Nat) : Option Nat :=
  if cid = 1 then some s.host.smb.freq else if cid = 3 then some s.host.smb.mtu else none

/-- Set a configuration value: 100 kHz or 400 kHz, 64 to 250 bytes (R506). -/
def State.miSet (s : State) (cid v : Nat) : State :=
  if cid = 1 ∧ (v = 1 ∨ v = 2) then (s.setSmb (fun b => { b with freq := v })).send (.miResp 0 0 0)
  else if cid = 3 ∧ 64 ≤ v ∧ v ≤ 250 then (s.setSmb (fun b => { b with mtu := v })).send (.miResp 0 0 0)
  else s.miRefuse

/-- The answer of the NVM Subsystem Health Status Poll: the four health values, then a composite controller status that the spec
does not lay out, and two reserved bytes. -/
def State.subsysHealth (s : State) : State :=
  let c := s.fresh 16
  c.2.miData ((s.healthNow.map (fun v => natLe v 1)).flatten ++ natLe c.1 2 ++ natLe 0 2)

/-- The answer of the Controller Health Status Poll: identity, CSTS, composite temperature in kelvin, Percentage Used, spare,
critical warnings, and a changed-status field that the spec does not give. -/
def State.ctrlHealth (s : State) (p : Port) : State :=
  let c := s.fresh 16
  c.2.miData (natLe p.idx 2 ++ natLe (s.csts p) 2 ++ natLe s.kelvin.toNat 2 ++ natLe s.pctUsed 1 ++ natLe s.sparePct 1 ++
    natLe s.warnBits 1 ++ natLe c.1 2 ++ natLe 0 5)

/-- The Basic Management Command at 0x6A (R505): status flags, the SMART warnings with their bits inverted, composite temperature
and Percentage Used. -/
def State.basicHealth (s : State) : State :=
  let v := s.healthNow
  s.send (.smb ([lget v 0 0, 255 - lget v 1 0 % 256, lget v 2 0, lget v 3 0].map (fun n => BitVec.ofNat 8 n)))

/-! The indirect window (R518–R520). -/

/-- A transfer at the indirect window: silent while PD_SUP is off, not acknowledged from a trip to the seal. -/
def State.smb (s : State) (k : State → State) : State :=
  if !s.domOn .sup then s else if s.vaulting then s.send .smbNak else k s

/-- A write command: while PEC_REQ is 1, one without a valid PEC is discarded and sets PEC_ERR; one that is taken clears it, as
the bit says whether the last write was discarded (R519). -/
def State.smbWrite (s : State) (pec : Bool) (k : State → State) : State :=
  s.smb (fun t =>
    if t.host.smb.pecReq && !pec then t.setSmb (fun b => { b with status := 8 })
    else k (t.setSmb (fun b => { b with status := if b.status = 8 then 0 else b.status })))

/-- ADDR and STATUS after an access: AUTOINC adds 4. -/
def State.smbAfter (s : State) (status : Nat) : State :=
  s.setSmb (fun b => { b with status := status, addr := if b.autoInc then (b.addr + 4) % 2 ^ 32 else b.addr })

/-- ADDR names no dword of the vendor window: RANGE. -/
def smbRange (o : Nat) : Bool := !inWindow o || o % 4 != 0

/-- STATUS of an access (R519). -/
def Acc.smbStatus (a : Acc) : Nat := if a.off then 2 else if a.refused then 16 else 1

/-- Write at ADDR. -/
def State.smbStore (s : State) (w : Nat) : State :=
  let o := s.host.smb.addr
  if smbRange o then s.smbAfter 4
  else
    let a := s.regWrite .smbus o w
    a.st.smbAfter a.smbStatus

/-- Read at ADDR: five bytes, STATUS first. The data of an access that is not made is a free value. -/
def State.smbLoad (s : State) : State :=
  let o := s.host.smb.addr
  let a : Acc := if smbRange o then accOk (s.fresh 32).2 (s.fresh 32).1 else s.regRead .smbus o
  let st := if smbRange o then 4 else a.smbStatus
  (a.st.smbAfter st).send (.smb ((5 : Byte) :: (natLe st 1 ++ natLe a.val 4)))

/-! The console (R508). -/

/-- An input line: CP0 takes it while it runs, and the console is silent from a trip to the seal. -/
def State.uart (s : State) (k : State → State) : State := if s.domOn .ctrl && !s.vaulting then k s else s

/-- The one line that reports a command as unknown or refused. -/
def State.uartError (s : State) : State := s.console [7]

/-- status: power state, sequencer state, PMR state and ERR.CODE, horizon, dirty bytes, ECH_STATUS.STATE. -/
def State.uartStatus (s : State) : State :=
  s.console [1, s.get Reg.PWR_STATUS_STATE, s.seqState, s.pmr.st.code, errCode s.pmr.conds, s.get Reg.UMB_HORIZON_BYTES,
    s.dirtyBytes, s.echoState]

/-- events n: the newest n records by SEQ, the oldest of them first. -/
def State.uartEvents (s : State) (n : Nat) : State :=
  let es := s.evr.viewRecs s.endSeq
  (es.drop (es.length - n)).foldl (fun (t : State) (e : EvRecord) => t.console [2, e.seq, e.sev, e.src, e.code, e.key, e.rep]) s

/-- ff: the newest first-fail record. -/
def State.uartFf (s : State) : State :=
  match s.rails.ffQueue.reverse ++ s.ffList with
  | r :: _ => s.console (3 :: r.words)
  | [] => s.console [3]

/-- reg r: the dword that the register reads. -/
def State.uartRead (s : State) (o : Nat) : State :=
  if smbRange o then s.uartError
  else
    let a := s.regRead .uart o
    a.st.console [4, o, a.val]

/-- reg w: the register's value after the access; an access that is refused prints the error line. -/
def State.uartWrite (s : State) (o w : Nat) : State :=
  if smbRange o then s.uartError
  else
    let a := s.regWrite .uart o w
    if a.refused then a.st.uartError else a.st.console [5, o, if a.off then deadWord else a.st.peek o]

end Sys2Proof.Machine
end

