-- ==== Sys2Proof/Machine/MgmtCmds.lean ====
section
/-! DEFINITION. Commands from the SMBus and from the console (R505–R508, R518–R520, R544). -/

namespace Sys2Proof.Machine

/-- MCTP_CONTROL (R505): the bus owner assigns the endpoint ID. -/
def execMctpControl (eid : Nat) (s : State) : Host.Outcome State Fault Refusal :=
  done s (s.mi (.mctpControl eid) false false (fun t =>
    (t.setSmb (fun b => { b with eid := eid % 256 })).send (.smb (natLe eid 1))))

/-- READ_NVME_MI_DATA_STRUCTURE (R506): the contents are not given, so 32 bytes are free. -/
def execReadNvmeMiDataStructure (dtyp ctrl : Nat) (s : State) : Host.Outcome State Fault Refusal :=
  done s (s.mi (.readNvmeMiDataStructure dtyp ctrl) true false (fun t =>
    let v := t.fresh 256
    v.2.miData (natLe v.1 32)))

/-- SUBSYSTEM_HEALTH_STATUS_POLL (R506, R507): in DEEP the AON microcontroller answers with held values. -/
def execSubsystemHealthStatusPoll (clear : Bool) (s : State) : Host.Outcome State Fault Refusal :=
  done s (s.mi (.subsystemHealthStatusPoll clear) true true State.subsysHealth)

/-- CONTROLLER_HEALTH_STATUS_POLL (R506). -/
def execControllerHealthStatusPoll (p : Port) (s : State) : Host.Outcome State Fault Refusal :=
  done s (s.mi (.controllerHealthStatusPoll p) true false (fun t => if t.portExists p then t.ctrlHealth p else t.miRefuse))

/-- CONFIGURATION_GET (R506): the SMBus frequency or the MCTP transmission unit. -/
def execConfigurationGet (cid : Nat) (s : State) : Host.Outcome State Fault Refusal :=
  done s (s.mi (.configurationGet cid) true false (fun t =>
    match t.miConfig cid with
    | some v => t.send (.miResp 0 0 v)
    | none => t.miRefuse))

/-- CONFIGURATION_SET (R506). -/
def execConfigurationSet (cid val : Nat) (s : State) : Host.Outcome State Fault Refusal :=
  done s (s.mi (.configurationSet cid val) true false (fun t => t.miSet cid val))

/-- BASIC_MANAGEMENT_COMMAND (R505, R507). -/
def execBasicManagementCommand (s : State) : Host.Outcome State Fault Refusal :=
  done s (s.mi .basicManagementCommand false true State.basicHealth)

/-- SMBUS_ADDR_WRITE (R518): 0x10 Block Write. -/
def execSmbusAddrWrite (addr : Word) (pec : Bool) (s : State) : Host.Outcome State Fault Refusal :=
  done s (s.smbWrite pec (fun t => t.setSmb (fun b => { b with addr := addr.toNat })))

/-- SMBUS_ADDR_READ (R518): 0x10 Block Read. -/
def execSmbusAddrRead (s : State) : Host.Outcome State Fault Refusal :=
  done s (s.smb (fun t => t.send (.smb ((4 : Byte) :: natLe t.host.smb.addr 4))))

/-- SMBUS_WRITE (R518): 0x11. -/
def execSmbusWrite (w : Word) (pec : Bool) (s : State) : Host.Outcome State Fault Refusal :=
  done s (s.smbWrite pec (fun t => t.smbStore w.toNat))

/-- SMBUS_READ (R518): 0x12. -/
def execSmbusRead (s : State) : Host.Outcome State Fault Refusal := done s (s.smb State.smbLoad)

/-- SMBUS_STATUS (R519): 0x13. -/
def execSmbusStatus (s : State) : Host.Outcome State Fault Refusal :=
  done s (s.smb (fun t => t.send (.smb (natLe t.host.smb.status 1))))

/-- SMBUS_CTRL_WRITE (R518): 0x14 Write Byte. -/
def execSmbusCtrlWrite (b : Byte) (pec : Bool) (s : State) : Host.Outcome State Fault Refusal :=
  done s (s.smbWrite pec (fun t => t.setSmb (fun m => { m with autoInc := b.getLsbD 0, pecReq := b.getLsbD 1 })))

/-- SMBUS_CTRL_READ (R518): 0x14 Read Byte. -/
def execSmbusCtrlRead (s : State) : Host.Outcome State Fault Refusal :=
  done s (s.smb (fun t => t.send (.smb (natLe (b2n t.host.smb.autoInc + 2 * b2n t.host.smb.pecReq) 1))))

/-- SMBUS_STUCK_TIMEOUT (R544): the lines are released and the transfer in progress is gone. A transfer is one command here, so
none is half done; ADDR and CTRL stay, as R518 keeps them until PD_SUP goes off. -/
def execSmbusStuckTimeout (s : State) : Host.Outcome State Fault Refusal := done s s

/-- UART_STATUS (R508). -/
def execUartStatus (s : State) : Host.Outcome State Fault Refusal := done s (s.uart State.uartStatus)

/-- UART_EVENTS (R508): 1 to 64 records. -/
def execUartEvents (n : Nat) (s : State) : Host.Outcome State Fault Refusal :=
  done s (s.uart (fun t => if 1 ≤ n ∧ n ≤ 64 then t.uartEvents n else t.uartError))

/-- UART_FF (R508). -/
def execUartFf (s : State) : Host.Outcome State Fault Refusal := done s (s.uart State.uartFf)

/-- UART_REG_READ (R508). -/
def execUartRegRead (off : Nat) (s : State) : Host.Outcome State Fault Refusal := done s (s.uart (fun t => t.uartRead off))

/-- UART_REG_WRITE (R508). -/
def execUartRegWrite (off : Nat) (w : Word) (s : State) : Host.Outcome State Fault Refusal :=
  done s (s.uart (fun t => t.uartWrite off w.toNat))

/-- UART_HELP (R508): the commands. -/
def execUartHelp (s : State) : Host.Outcome State Fault Refusal := done s (s.uart (fun t => t.console [6]))

/-- UART_UNKNOWN (R508): one error line, and nothing changes. -/
def execUartUnknown (s : State) : Host.Outcome State Fault Refusal := done s (s.uart State.uartError)

end Sys2Proof.Machine
end

