-- ==== Sys2Proof/Machine/PairCmds.lean ====
section
/-! DEFINITION. The mirror view (R303) and the frames of a restore across the pair (R309, R310). -/

namespace Sys2Proof.Machine

/-- VINFO (R309): bit 0 of ARG0 asks for the version table: the version table is needed.
The payload is the sender's two region blocks. -/
def execVinfo (rx : Rx) (need : Bool) (own mirror : VBlock) (s : State) : Host.Outcome State Fault Refusal :=
  done s ((s.touch 3).rxFrame rx fVinfo 0 (b2n need) 16 (fun t => t.rxVinfo need own mirror))

/-- VTAB (R310): a chunk of the version table. -/
def execVtab (rx : Rx) (start : Nat) (entries : List (Nat × Bool)) (s : State) : Host.Outcome State Fault Refusal :=
  done s ((s.touch 3).rxFrame rx fVtab 0 start (2 * entries.length)
    (fun t => t.rxVtab start entries (headerWords fVtab 0 (2 * entries.length) rx.lseq start)))

/-- MIRROR_VIEW_READ (R303): a read of BAR4/5. -/
def execMirrorViewRead (p : Port) (addr len : Nat) (s : State) : Host.Outcome State Fault Refusal :=
  done s (
    if !s.portLive p then s
    else
      let s1 := s.touch 1
      if !s1.portMem p || !s1.pair || !s1.flag Reg.ECH_CTRL_MVIEW_EN || decide (s1.ownGrans * 4096 < addr + len) then s1.refuseRead p
      else s1.serveRead p (s1.ownGrans * 4096 + addr) len)

/-- MIRROR_VIEW_WRITE (R303): discarded as an Unsupported Request. -/
def execMirrorViewWrite (p : Port) (s : State) : Host.Outcome State Fault Refusal :=
  done s (if s.portLive p then (s.touch 1).aer p aerUnsupported else s)

end Sys2Proof.Machine
end

