-- ==== Sys2Proof/Machine/PowerCmds.lean ====
section
/-! DEFINITION. The commands of the device power states (R378–R391). -/

namespace Sys2Proof.Machine

/-- IDLE_TIMEOUT (R378, R379): IDLE_MS has passed without an activity. -/
def execIdleTimeout (s : State) : Host.Outcome State Fault Refusal :=
  done s (if s.get Reg.PWR_STATUS_STATE = pwrRun ∧ s.mayEnter ∧ s.quiet then s.put Reg.PWR_STATUS_STATE pwrIdle else s)

/-- AUTO_SLEEP_TIMER (R380): AUTO_SLEEP_S seconds of unbroken IDLE with both host links in L1 or down. -/
def execAutoSleepTimer (s : State) : Host.Outcome State Fault Refusal :=
  done s (
    let low (p : Port) : Bool := !(s.port p).linkUp || (s.port p).inL1
    if s.get Reg.PWR_STATUS_STATE = pwrIdle ∧ s.get Reg.PWR_CFG_AUTO_SLEEP_S ≠ 0 ∧ low .a ∧ low .b then s.sleepRequest else s)

/-- DOMAIN_VOTE (R381): the domain that is asked answers. -/
def execDomainVote (busy : Bool) (s : State) : Host.Outcome State Fault Refusal := done s (s.vote busy)

/-- DOMAIN_VOTE_TIMEOUT (R381, R382): no answer within VOTE_MS counts as a refusal. -/
def execDomainVoteTimeout (s : State) : Host.Outcome State Fault Refusal :=
  done s (match s.pwr.asking with
    | some d => if s.get Reg.PWR_STATUS_STATE = pwrEntering then s.refuse d 31 else s
    | none => s)

/-- SLEEP_RETRY_BACKOFF (R382): the back-off of a refused request has passed. -/
def execSleepRetryBackoff (s : State) : Host.Outcome State Fault Refusal := done s s.retryRequest

/-- DEEP_PREP_DRAINED (R386 step 3): nothing is dirty any more, and the clean vault begins. -/
def execDeepPrepDrained (s : State) : Host.Outcome State Fault Refusal :=
  done s (if s.pwr.prep = 2 ∧ s.dirtyBytes = 0 then s.cleanVault else s)

/-- DEEP_PREP_TIMEOUT (R386): step 2 has not ended by 60 s. -/
def execDeepPrepTimeout (s : State) : Host.Outcome State Fault Refusal :=
  done s (if s.pwr.prep = 2 then s.refuse .ctrl 10 else s)

/-- DEEP_WAKE_TIMER (R387): WAKE_TIMER_MIN minutes of DEEP. -/
def execDeepWakeTimer (s : State) : Host.Outcome State Fault Refusal :=
  done s (if s.get Reg.PWR_STATUS_STATE = pwrDeep ∧ s.get Reg.PWR_CFG2_WAKE_TIMER_MIN ≠ 0 then s.wake 6 else s)

/-- SLEEP_GUARD_TRIP (R384): a condition of the sleep guard holds. -/
def execSleepGuardTrip (s : State) : Host.Outcome State Fault Refusal :=
  done s (if s.get Reg.PWR_STATUS_STATE = pwrSleep ∧ s.flag Reg.PWR_STATUS_GUARD then s.wake 8 else s)

/-- SLEEP_CHECK (R384): the device wakes every SLEEP_CHECK_MIN minutes and re-enters SLEEP through a new handshake. -/
def execSleepCheck (s : State) : Host.Outcome State Fault Refusal :=
  done s (if s.get Reg.PWR_STATUS_STATE = pwrSleep then
      let t := s.wake 7
      ({ t with pwr := { t.pwr with request := 2 } } : State).put Reg.PWR_STATUS_RETRY 1
    else s)

/-- SLEEP_EXIT (R385): every domain runs again. -/
def execSleepExit (s : State) : Host.Outcome State Fault Refusal := done s s.sleepExit

/-- DOMAIN_READY (R390): the domain coming up reports its next ready signal. -/
def execDomainReady (s : State) : Host.Outcome State Fault Refusal := done s s.domainReady

/-- DOMAIN_BOUND_MISSED (R390): a ready signal of domain `d` misses its bound. -/
def execDomainBoundMissed (d : Domain) (s : State) : Host.Outcome State Fault Refusal := done s (s.domainMissed d)

/-- AON_BOR_WARNING (R389): the AON core supply stays below its warning level. -/
def execAonBorWarning (s : State) : Host.Outcome State Fault Refusal :=
  done s (if s.domOn .aon then (s.put Reg.PWR_AON_BOR_WARN 1).ev .pwr 0x1004 6 0 else s)

/-- AON_BOR_RESET (R389): the AON core supply falls below its reset level. -/
def execAonBorReset (s : State) : Host.Outcome State Fault Refusal := done s s.aonReset

end Sys2Proof.Machine
end

