-- ==== Sys2Proof/Machine/RailCmds.lean ====
section
/-! DEFINITION. The commands of rail supervision and the sequencer (R349–R370). -/

namespace Sys2Proof.Machine

/-- RAIL_SCAN_SAMPLE (R349–R353): channel `n` of the scan converts to `code`. -/
def execRailScanSample (n code : Nat) (s : State) : Host.Outcome State Fault Refusal := done s (s.railSample n code)

/-- GROUP_READY_TIMEOUT (R358, R360): T_READY has passed. -/
def execGroupReadyTimeout (s : State) : Host.Outcome State Fault Refusal := done s s.readyTimeout

/-- DELAY_UP_EXPIRY (R358). -/
def execDelayUpExpiry (s : State) : Host.Outcome State Fault Refusal := done s s.delayUp

/-- OFF_TIMEOUT (R359). -/
def execOffTimeout (s : State) : Host.Outcome State Fault Refusal := done s s.offTimeout

/-- DELAY_DOWN_EXPIRY (R359). -/
def execDelayDownExpiry (s : State) : Host.Outcome State Fault Refusal := done s s.delayDown

/-- RETRY_DELAY_EXPIRY (R360, R361). -/
def execRetryDelayExpiry (s : State) : Host.Outcome State Fault Refusal := done s s.retryOver

/-- SHORT_PRESS (R361, R362): a press recognised as short. -/
def execShortPress (s : State) : Host.Outcome State Fault Refusal := done s (if s.domOn .aon then s.shortPress else s)

/-- LONG_PRESS (R361, R362). -/
def execLongPress (s : State) : Host.Outcome State Fault Refusal := done s (if s.domOn .aon then s.longPress else s)

/-- CUT_PRESS (R361, R364). -/
def execCutPress (s : State) : Host.Outcome State Fault Refusal := done s s.cutPress

/-- GRACE_TIMEOUT (R361, R363): ORDERLY_S has elapsed; ports that have all reported shutdown complete end GRACE at once. -/
def execGraceTimeout (s : State) : Host.Outcome State Fault Refusal := done s s.graceOver

/-- FF_NOR_WRITE (R369, R370): the oldest waiting first-fail record is programmed to the NOR. -/
def execFfNorWrite (s : State) : Host.Outcome State Fault Refusal := done s s.ffWrite

/-- NOR_SUPPLY_HOLD_EXPIRY (R369): the 5 ms for which the NOR_SUPPLY rail stays enabled have passed. -/
def execNorSupplyHoldExpiry (s : State) : Host.Outcome State Fault Refusal := done s s.norRelease

/-- MRST_N (R365). -/
def execMrstN (s : State) : Host.Outcome State Fault Refusal := done s s.mrst

/-- WAKE_N (R366). -/
def execWakeN (s : State) : Host.Outcome State Fault Refusal := done s (if s.domOn .aon then s.wakePin else s)

end Sys2Proof.Machine
end

