-- ==== Sys2Proof/Machine/RecorderCmds.lean ====
section
/-! DEFINITION. The commands of the event recorder that are no register write and no NVMe command (R444–R471). -/

namespace Sys2Proof.Machine

/-- The event port has an entry for a submission while `queued` of its 32 hold others: four are reserved for severity 6 and 7
(R444). -/
def portEntry (queued sev : Nat) : Bool := decide (queued < if 6 ≤ sev then 32 else 28)

/-- EVENT_SUBMIT (R444, R450): an event reaches the port, where `queued` submissions wait, with its own snapshot words or with its
source's list; without an entry it is dropped and counted. -/
def execEventSubmit (src code sev key : Nat) (own : List Nat) (queued : Nat) (s : State) : Host.Outcome State Fault Refusal :=
  done s (
    if !s.domOn .aon then s
    else if !portEntry queued sev then s.dropRec
    else if own.isEmpty then s.event src code sev key
    else s.eventWith src code sev key (own, false))

/-- RECORD_WINDOW_CLOSE (R452): the repeat window of an open record has ended. -/
def execRecordWindowClose (seq : Nat) (s : State) : Host.Outcome State Fault Refusal :=
  done s (match s.evr.opens.find? (fun o => o.evt.seq == seq) with
    | none => s
    | some o =>
      if (o.evt.time % 2 ^ 40) / s.repeatWindow = s.secs / s.repeatWindow then s else s.closeOpen seq)

/-- NOR_JOURNAL_FLUSH (R455): up to four waiting records are programmed to the journal; `failed` when a record failed at
two consecutive slots (R462). Until the severity table is complete they stay in the ring (R456). -/
def execNorJournalFlush (failed : Bool) (s : State) : Host.Outcome State Fault Refusal :=
  done s (if s.domOn .aon && s.evrMode == 0 && !s.evr.provisional && s.evr.unflushed != 0 then
      (if failed then s.norFailed else if s.norFlushes then (State.norFlush false 4 s).lostReport else s)
    else if s.domOn .aon && s.evrMode == 2 && failed then s.norFailed
    else s)

/-- BLACK_BOX_FLUSH (R458): a black-box page is programmed while the black box is the destination (R459); a failed program
retires the block. -/
def execBlackBoxFlush (ok : Bool) (s : State) : Host.Outcome State Fault Refusal :=
  done s (if s.domOn .ctrl && s.domOn .nand && (s.evrMode == 1 || s.evrMode == 3) && !s.evr.provisional then
      (if ok then (s.bbFlush false).lostReport else s.bbFailed)
    else s)

/-- NOR_UNRESPONSIVE (R462): the NOR does not answer for 100 ms. -/
def execNorUnresponsive (s : State) : Host.Outcome State Fault Refusal :=
  done s (if s.domOn .aon then s.norFailed else s)

/-- RING_ECC_ERROR (R462): an uncorrectable error in the event area of AON SRAM; `lost` names the slots it makes
unreadable. -/
def execRingEccError (lost : List Nat) (s : State) : Host.Outcome State Fault Refusal :=
  done s (if s.domOn .aon then s.ringFailed lost else s)

/-- VIEW_EXPIRY (R464): a requester's view closes 60 s after it opened. -/
def execViewExpiry (r : Requester) (s : State) : Host.Outcome State Fault Refusal :=
  done s (match viewOf r with
    | some v => s.closeView v
    | none => s)

/-- CHALLENGE_EXPIRY (R467): the nonce is valid for 60 s. -/
def execChallengeExpiry (s : State) : Host.Outcome State Fault Refusal :=
  done s { s with evr := { s.evr with challenge := none } }

/-- JOURNAL_SEVERITY_SCAN_DONE (R456): CP0's background read of the journal is complete. -/
def execJournalSeverityScanDone (s : State) : Host.Outcome State Fault Refusal :=
  done s (if s.domOn .ctrl then s.scanDone else s)

end Sys2Proof.Machine
end

