-- ==== Sys2Proof/Machine/StartCmds.lean ====
section
/-! DEFINITION. The commands of start-up, the watchdog, the trial window, the NOR and the temperature (R405–R443, R534,
R550). -/

namespace Sys2Proof.Machine

/-- POWER_ON_RESET (R361, R417, R534, R546): VSTBY is applied with TEST_MODE at the level given; AON is lost, the JTAG port
selects IDCODE, and a cold start follows. -/
def execPowerOnReset (testMode : Bool) (s : State) : Host.Outcome State Fault Refusal :=
  done s (({ s.aonReset with test := ⟨testMode, .idcode⟩ } : State).powerOn 0)

/-- COLD_START (R419): a cold start takes its next step with what it finds. -/
def execColdStart (i : StartIn) (s : State) : Host.Outcome State Fault Refusal :=
  done s (if s.boot.startStep = 1 ∨ s.get Reg.SYS_STATUS_PATH = 0 then s.startStepWith i else s)

/-- WARM_START (R420): a warm start takes its next step with what it finds. -/
def execWarmStart (i : StartIn) (s : State) : Host.Outcome State Fault Refusal :=
  done s (if s.boot.startStep = 1 ∨ s.get Reg.SYS_STATUS_PATH ≠ 0 then s.startStepWith i else s)

/-- SAFE_ARMED_EXPIRY (R438): 1 s after the first SAFE_CLR. -/
def execSafeArmedExpiry (s : State) : Host.Outcome State Fault Refusal := done s (s.put Reg.SYS_STATUS_SAFE_ARMED 0)

/-- The watchdog counts: it is enabled, not paused, and the sequencer is in a state in which the processors run (R433). -/
def State.wdtRuns (s : State) : Bool :=
  let st := s.seqState
  s.boot.wdtStage != 0 && !s.flag Reg.WDT_STATUS_PAUSED && (st == seqUp || st == seqOn || st == seqGrace || st == seqVault)

/-- WDT_STAGE1_EXPIRY (R433). -/
def execWdtStage1Expiry (s : State) : Host.Outcome State Fault Refusal :=
  done s (if s.wdtRuns && s.boot.wdtStage == 1 then
      let s1 := (s.ev .wdt 0x1001 4 0).raise Reg.WDT_STATUS_STAGE1_EV Reg.SYS_CTRL_INT_EN 63
      let s2 := (s1.incSat Reg.WDT_COUNT_STAGE1 1).put Reg.WDT_STATUS_STAGE 1
      { s2 with boot := { s2.boot with wdtStage := 2 } }
    else s)

/-- The second stage expires (R430, R433): latched from a trip to the seal, a failure during a start, else a warm reset, which
within the trial window makes the bank record a failed trial. -/
def State.wdtReset (s : State) : State :=
  let s1 := ((s.ev .wdt 0x2001 6 0).incSat Reg.WDT_COUNT_RESETS 1).put Reg.WDT_STATUS_STAGE 0
  if s1.vlt.cur.isSome then { s1 with boot := { s1.boot with wdtLatch := true, wdtStage := 0 } }
  else if s1.boot.starting then s1.startFails 9
  else
    let s2 := if s1.boot.trial then ({ s1 with boot := { s1.boot with trial := false } } : State).bootNote 3 9 false else s1
    s2.announceDown.warmReset 2

/-- WDT_STAGE2_EXPIRY (R433). -/
def execWdtStage2Expiry (s : State) : Host.Outcome State Fault Refusal :=
  done s (if s.wdtRuns && s.boot.wdtStage == 2 then s.wdtReset else s)

/-- AON_CORE_TIMER (R434): the AON microcontroller restarts alone; the sequencer resumes where it stood. -/
def execAonCoreTimer (s : State) : Host.Outcome State Fault Refusal :=
  done s (if s.domOn .aon ∧ !s.flag Reg.PWR_AON_LP_MODE then s.ev .wdt 0x1002 6 0 else s)

/-- The image is confirmed (R412, R430): SVN_MIN rises to its SVN, and the slots it names are revoked, except its own. -/
def State.confirm (s : State) : State :=
  let s1 := (s.commitNote 2 (s.get Reg.CFG_STATUS_BANK) false false false).put Reg.CFG_STATUS_TRIAL 0
  let s2 : State := { s1 with boot := { s1.boot with trial := false } }
  match s2.boot.running with
  | some i =>
    if i.svnLock then
      { s2 with boot := { s2.boot with
        fuses := mset s2.boot.fuses Reg.SYS_OTP_SVN_MIN.key (Nat.max (s2.view Reg.SYS_OTP_SVN_MIN) i.svn),
        otpSlots := s2.boot.otpSlots.zipIdx.map (fun e =>
          (e.1.1, e.1.2 || (i.revoke.contains e.2 && s2.keySlot i != some e.2))) } }
    else s2
  | none => s2

/-- TRIAL_WINDOW_END (R430): the trial window has ended without a watchdog reset. -/
def execTrialWindowEnd (s : State) : Host.Outcome State Fault Refusal :=
  done s (if s.boot.trial ∧ !s.boot.starting then s.confirm else s)

/-- NOR_OP_COMPLETE (R407): a NOR erase or program ends after `fails` failures; a failure is retried once, and each retry is
counted. The end of an erase clears its intent. A record that fails twice goes to the next free slot; a sector that fails
twice is left out of its area, which for the journal leaves one erased sector less; a journal of fewer than 16 usable sectors
has failed (R462). -/
def execNorOpComplete (erase : Bool) (fails : Nat) (journal : Bool) (s : State) : Host.Outcome State Fault Refusal :=
  done s (
    if !s.domOn .aon then s
    else
    let s : State := if erase then { s with boot := { s.boot with intents := s.boot.intents.drop 1 } } else s
    if fails = 0 then s
    else if erase then
      let s1 := s.incSat Reg.CFG_NOR_ERR_ERASE_RETRY 1
      if fails = 1 then s1
      else
        let s2 : State := if journal then { s1 with evr := { s1.evr with freeSect := s1.evr.freeSect - 1 } } else s1
        let s3 := s2.ev .cfg 0x1003 6 0
        if s3.evr.usableSect < 16 then s3.norFailed else s3
    else s.incSat Reg.CFG_NOR_ERR_PROG_RETRY 1)

/-- OPSEC_COPY (R332, R436): every 10 min operating seconds, power cycles and Lantern's state go to the configuration area. -/
def execOpsecCopy (s : State) : Host.Outcome State Fault Refusal :=
  done s (if s.domOn .sup ∧ s.evrMode ≠ 1 ∧ s.evrMode ≠ 3 then
      s.lanCopy.timeCopy
    else s)

/-- AON_PATCH_SWAP (R431): the AON patches take effect in one table swap. -/
def execAonPatchSwap (s : State) : Host.Outcome State Fault Refusal :=
  done s (if s.boot.aonPatchWait ∧ s.seqState = seqOn then
      ({ s with boot := { s.boot with aonPatchWait := false } } : State).put Reg.CFG_PATCH_AON
        ((s.boot.running.map (fun i => i.aonPatches)).getD 0)
    else s)

/-- THERMAL_SHUTDOWN (R550): SYS_TEMP has read 125 °C or more in 10 consecutive samples outside a vault; a vault and a
power-down run as after a long press. -/
def execThermalShutdown (s : State) : Host.Outcome State Fault Refusal :=
  done s (if s.boot.tempHot < 10 ∨ s.vlt.cur.isSome then s
    else
      let s1 := ({ s with boot := { s.boot with tempHot := 0 } } : State).ev .sys 0x2001 7 0
      let st := s1.seqState
      if st = seqOn ∨ st = seqGrace then s1.vaultOrDown .thermal
      else if st = seqUp then s1.latchUp .thermal
      else s1)

/-- JUNCTION_TEMP_SAMPLE (R438, R502, R503, R550): the junction temperature in °C, each millisecond. A start that has not
begun its first step is held back above 115 °C, and released at 110 °C or below; the times above WCTEMP and CCTEMP are
counted, and the warnings follow. -/
def execJunctionTempSample (t : Int) (s : State) : Host.Outcome State Fault Refusal :=
  done s (
    if !s.domOn .sup then s
    else
      let s1 := s.putI Reg.SYS_TEMP_TJ t
      let s2 : State := { s1 with
        boot := { s1.boot with
          tempHot := if t < 125 ∨ s1.vlt.cur.isSome then 0 else Nat.min 10 (s1.boot.tempHot + 1),
          hotWait :=
            if s1.boot.hotWait then decide (110 < t) else s1.boot.starting && s1.boot.startStep == 1 && decide (115 < t) },
        host := { s1.host with smart := { s1.host.smart with
          warnMs := s1.host.smart.warnMs + b2n (decide (378 < t + 273)),
          critMs := s1.host.smart.critMs + b2n (decide (388 < t + 273)) } } }
      s2.syncWarn)

end Sys2Proof.Machine
end

