-- ==== Sys2Proof/Machine/UmbraCmds.lean ====
section
/-! DEFINITION. Umbra's and Seep's commands that no register write gives (R69–R91). -/

namespace Sys2Proof.Machine

/-- UMBRA_UPDATE (R69). -/
def execUmbraUpdate (ageMs : Nat) (late : Bool) (s : State) : Host.Outcome State Fault Refusal := done s (s.umbraUpdate ageMs late)

/-- DEFICIT_EXIT (R78). -/
def execDeficitExit (s : State) : Host.Outcome State Fault Refusal := done s s.deficitExit

/-- ENDURANCE_FILL_COMPUTE (R84): hourly, while CP1 runs. -/
def execEnduranceFillCompute (s : State) : Host.Outcome State Fault Refusal :=
  done s (if s.domOn .ctrl && !s.asleep && s.boot.running.isSome then s.computeFill else s)

/-- ZONE_AGE_SWEEP (R81): every non-zero age falls by one. -/
def execZoneAgeSweep (s : State) : Host.Outcome State Fault Refusal :=
  done s (if s.domOn .ctrl && !s.asleep then
      { s with cache := { s.cache with ages := mfilter (fun _ a => a != 0) (mmap (fun _ (a : Nat) => a - 1) s.cache.ages) } }
    else s)

/-- SEEP_STRIPE_ISSUE (R82). -/
def execSeepStripeIssue (s : State) : Host.Outcome State Fault Refusal := done s s.seepIssue

/-- SEEP_STRIPE_PROGRAMMED (R18). -/
def execSeepStripeProgrammed (serial pos : Nat) (s : State) : Host.Outcome State Fault Refusal :=
  done s (s.seepProgrammed serial pos).rehSettle

/-- REHEARSAL_AUTO_TRIGGER (R88). -/
def execRehearsalAutoTrigger (s : State) : Host.Outcome State Fault Refusal := done s s.rehAuto

/-- REHEARSAL_WINDOW_END (R89). -/
def execRehearsalWindowEnd (complete : Bool) (s : State) : Host.Outcome State Fault Refusal := done s (s.rehEnd complete)

end Sys2Proof.Machine
end

