-- ==== Sys2Proof/Machine/VaultCmds.lean ====
section
/-! DEFINITION. The commands of the vault and the restore (R104–R131). -/

namespace Sys2Proof.Machine

/-- POWER_FAIL_TRIP (R105, R106): the filtered VIN_SENSE output asserts. -/
def execPowerFailTrip (s : State) : Host.Outcome State Fault Refusal := done s s.powerTrip

/-- VIN_SENSE_RISE (R115): VIN_SENSE rises above its rising threshold, and the return time begins. -/
def execVinSenseRise (s : State) : Host.Outcome State Fault Refusal :=
  done s (if s.domOn .aon ∧ !s.vlt.input then { s with vlt := { s.vlt with input := true, counting := true } } else s)

/-- INPUT_RETURNED (R115–R117, R366): VIN_SENSE has stayed above the threshold for RETURN_MS. -/
def execInputReturned (s : State) : Host.Outcome State Fault Refusal := done s s.inputReturned

/-- VAULT_DRAIN_COMPLETE (R109 step 4, R110): the accepted writes are committed; the times latched from the trip. -/
def execVaultDrainComplete (closeNs drainNs firstNs : Nat) (s : State) : Host.Outcome State Fault Refusal :=
  done s (s.drainComplete closeNs drainNs firstNs)

/-- SEAL_PROGRAMMED (R112): a round of seal copies ends; `fails` lists the channels whose copy did not program. -/
def execSealProgrammed (fails : List Nat) (us : Nat) (s : State) : Host.Outcome State Fault Refusal :=
  done s (s.sealDone fails us (fun t => t.beginHandshake pwrDeep))

/-- VAULT_RELEASE (R109 step 9, R116, R117). -/
def execVaultRelease (s : State) : Host.Outcome State Fault Refusal := done s s.vaultRelease

/-- POST_VAULT_DOMAIN_UP (R116 step 3). -/
def execPostVaultDomainUp (s : State) : Host.Outcome State Fault Refusal := done s s.postVault

/-- OPEN_RECORD_PROGRAMMED (R104, R155, R172): a round of open-record copies ends; `fails` lists the channels whose program
failed, `worn` the blocks whose erase failed in the format before it; `ms` is the time since the restore phase began. -/
def execOpenRecordProgrammed (fails worn : List Nat) (ms : Nat) (s : State) : Host.Outcome State Fault Refusal :=
  done s (s.openRecord fails worn ms)

/-- SEAL_SEARCH_COMPLETE (R118, R119, R160): the seal search of a cold restore ends; `bad` lists the record pages that could
not be read, `differ` says whether copies of one record differ. -/
def execSealSearchComplete (bad : List (Nat × Nat × Nat)) (differ : Bool) (s : State) : Host.Outcome State Fault Refusal :=
  done s (if s.boot.starting ∧ s.boot.startStep = 6 ∧ s.get Reg.VLT_STATUS_PHASE = 7 ∧ s.vlt.openKind.isNone ∧
      s.flag Reg.PWR_AON_AON_LOST ∧ s.ech.vinfoOwn.isNone then (s.searchRead bad differ).sealSearch else s)

/-- MAP_BUILD_COMPLETE (R120–R124): the granule map is built. -/
def execMapBuildComplete (ms : Nat) (lost : List (Nat × Nat)) (badSums far : Nat) (clash : List Nat) (differ : List JEnt)
    (failed : List Nat) (openMs : Nat) (s : State) : Host.Outcome State Fault Refusal :=
  done s (if s.boot.starting ∧ s.boot.startStep = 6 ∧ s.get Reg.VLT_STATUS_PHASE = 7 ∧ s.vlt.openKind.isNone ∧
      s.ech.vinfoOwn.isNone ∧ s.vlt.basisOwn ≠ 0 then s.mapBuilt ms lost badSums far clash differ failed openMs else s)

/-- PEER_WAIT_EXPIRY (R65): 10 s have passed without the peer's VINFO. -/
def execPeerWaitExpiry (s : State) : Host.Outcome State Fault Refusal := done s s.peerWaitOver

/-- GRANULE_FETCH_COMPLETE (R125–R127): a fetch ends, or the background copy reaches a granule. -/
def execGranuleFetchComplete (g : Nat) (ok : Bool) (us : Nat) (s : State) : Host.Outcome State Fault Refusal :=
  done s (s.granuleFetch g ok us)

/-- COPY_PAUSE_EXPIRY (R126): COPY_PAUSE has been set for 600 s and clears itself. -/
def execCopyPauseExpiry (s : State) : Host.Outcome State Fault Refusal :=
  done s (if s.flag Reg.VLT_CTRL_COPY_PAUSE then (s.put Reg.VLT_CTRL_COPY_PAUSE 0).ev .vlt 0x4001 3 0 else s)

end Sys2Proof.Machine
end

