-- ==== Sys2Proof/Machine/Dispatch.lean ====
section
/-! DEFINITION. The dispatch of a command to its meaning: one arm per constructor. -/

namespace Sys2Proof.Machine

/-- The effect of a command on everything but the queue. -/
def exec (i : Instr) (s : State) : Host.Outcome State Fault Refusal :=
  match i with
  | .pmrWriteTlp p addr data be ep ecrcErr => Sys2Proof.Machine.execPmrWriteTlp p addr data be ep ecrcErr s
  | .pmrWriteSequence ready ns => Sys2Proof.Machine.execPmrWriteSequence ready ns s
  | .pmrRead p addr len => Sys2Proof.Machine.execPmrRead p addr len s
  | .barrierRead p ns => Sys2Proof.Machine.execBarrierRead p ns s
  | .barrierComplete ns => Sys2Proof.Machine.execBarrierComplete ns s
  | .barrierAckTimeout => Sys2Proof.Machine.execBarrierAckTimeout s
  | .pmrctlWrite p w => Sys2Proof.Machine.execPmrctlWrite p w s
  | .portReset p flr => Sys2Proof.Machine.execPortReset p flr s
  | .portLinkDown p => Sys2Proof.Machine.execPortLinkDown p s
  | .controllerDisable p => Sys2Proof.Machine.execControllerDisable p s
  | .controllerEnable p cc => Sys2Proof.Machine.execControllerEnable p cc s
  | .shutdownNotification p shn => Sys2Proof.Machine.execShutdownNotification p shn s
  | .energyInsufficientEntry => Sys2Proof.Machine.execEnergyInsufficientEntry s
  | .energyInsufficientExit => Sys2Proof.Machine.execEnergyInsufficientExit s
  | .umbraUpdate ageMs late => Sys2Proof.Machine.execUmbraUpdate ageMs late s
  | .deficitExit => Sys2Proof.Machine.execDeficitExit s
  | .enduranceFillCompute => Sys2Proof.Machine.execEnduranceFillCompute s
  | .zoneAgeSweep => Sys2Proof.Machine.execZoneAgeSweep s
  | .seepStripeIssue => Sys2Proof.Machine.execSeepStripeIssue s
  | .seepStripeProgrammed serial pos => Sys2Proof.Machine.execSeepStripeProgrammed serial pos s
  | .rehearsalRequest r w => Sys2Proof.Machine.execRehearsalRequest r w s
  | .rehearsalAutoTrigger => Sys2Proof.Machine.execRehearsalAutoTrigger s
  | .rehearsalWindowEnd complete => Sys2Proof.Machine.execRehearsalWindowEnd complete s
  | .powerFailTrip => Sys2Proof.Machine.execPowerFailTrip s
  | .vinSenseRise => Sys2Proof.Machine.execVinSenseRise s
  | .inputReturned => Sys2Proof.Machine.execInputReturned s
  | .vaultDrainComplete closeNs drainNs firstNs => Sys2Proof.Machine.execVaultDrainComplete closeNs drainNs firstNs s
  | .sealProgrammed fails us => Sys2Proof.Machine.execSealProgrammed fails us s
  | .vaultRelease => Sys2Proof.Machine.execVaultRelease s
  | .postVaultDomainUp => Sys2Proof.Machine.execPostVaultDomainUp s
  | .openRecordProgrammed fails worn ms => Sys2Proof.Machine.execOpenRecordProgrammed fails worn ms s
  | .sealSearchComplete bad differ => Sys2Proof.Machine.execSealSearchComplete bad differ s
  | .mapBuildComplete ms lost badSums far clash differ failed openMs => Sys2Proof.Machine.execMapBuildComplete ms lost badSums far clash differ failed openMs s
  | .peerWaitExpiry => Sys2Proof.Machine.execPeerWaitExpiry s
  | .granuleFetchComplete g ok us => Sys2Proof.Machine.execGranuleFetchComplete g ok us s
  | .copyPauseExpiry => Sys2Proof.Machine.execCopyPauseExpiry s
  | .vltStatClr r w => Sys2Proof.Machine.execVltStatClr r w s
  | .grtFormatWrite r w => Sys2Proof.Machine.execGrtFormatWrite r w s
  | .formatArmedExpiry => Sys2Proof.Machine.execFormatArmedExpiry s
  | .jrnlFlush r w => Sys2Proof.Machine.execJrnlFlush r w s
  | .journalFlushTimer => Sys2Proof.Machine.execJournalFlushTimer s
  | .gcNow r w => Sys2Proof.Machine.execGcNow r w s
  | .gcStripeProgrammed serial => Sys2Proof.Machine.execGcStripeProgrammed serial s
  | .gcEraseDone => Sys2Proof.Machine.execGcEraseDone s
  | .read d => Sys2Proof.Machine.execRead d s
  | .readHeader d => Sys2Proof.Machine.execReadHeader d s
  | .program d => Sys2Proof.Machine.execProgram d s
  | .erase d => Sys2Proof.Machine.execErase d s
  | .erasedCheck d => Sys2Proof.Machine.execErasedCheck d s
  | .resetLun d => Sys2Proof.Machine.execResetLun d s
  | .getFeature d => Sys2Proof.Machine.execGetFeature d s
  | .setFeature d => Sys2Proof.Machine.execSetFeature d s
  | .readRaw d => Sys2Proof.Machine.execReadRaw d s
  | .flashDescriptorIssue lun aged => Sys2Proof.Machine.execFlashDescriptorIssue lun aged s
  | .flashSuspend lun => Sys2Proof.Machine.execFlashSuspend lun s
  | .flashOpComplete lun fail level best bits retried cwFail zeros us => Sys2Proof.Machine.execFlashOpComplete lun fail level best bits retried cwFail zeros us s
  | .flashOpTimeout lun resetOk => Sys2Proof.Machine.execFlashOpTimeout lun resetOk s
  | .foreignQueueWrite r ch => Sys2Proof.Machine.execForeignQueueWrite r ch s
  | .channelFault ch ok => Sys2Proof.Machine.execChannelFault ch ok s
  | .retrainGo r w ok => Sys2Proof.Machine.execRetrainGo r w ok s
  | .flcCntClr r w => Sys2Proof.Machine.execFlcCntClr r w s
  | .flcEcSelWrite r w => Sys2Proof.Machine.execFlcEcSelWrite r w s
  | .dramRequest port write addr len ns => Sys2Proof.Machine.execDramRequest port write addr len ns s
  | .dramCommandSlot sub ns dump rest forbid dev => Sys2Proof.Machine.execDramCommandSlot sub ns dump rest forbid dev s
  | .rowIdleClose bank => Sys2Proof.Machine.execRowIdleClose bank s
  | .refreshDue => Sys2Proof.Machine.execRefreshDue s
  | .refreshCatchup => Sys2Proof.Machine.execRefreshCatchup s
  | .mr4Poll hot above => Sys2Proof.Machine.execMr4Poll hot above s
  | .rankPowerDown sub rank => Sys2Proof.Machine.execRankPowerDown sub rank s
  | .dmcStatClr r w => Sys2Proof.Machine.execDmcStatClr r w s
  | .dmcXlate r w => Sys2Proof.Machine.execDmcXlate r w s
  | .dmcEccCntClr r w => Sys2Proof.Machine.execDmcEccCntClr r w s
  | .dmcPosSelWrite r w => Sys2Proof.Machine.execDmcPosSelWrite r w s
  | .dmcDiagRead r w => Sys2Proof.Machine.execDmcDiagRead r w s
  | .positionLeak pos => Sys2Proof.Machine.execPositionLeak pos s
  | .scrubStep ns => Sys2Proof.Machine.execScrubStep ns s
  | .rhWindowEnd => Sys2Proof.Machine.execRhWindowEnd s
  | .trainingTrack sub drift => Sys2Proof.Machine.execTrainingTrack sub drift s
  | .dramClockChange rate => Sys2Proof.Machine.execDramClockChange rate s
  | .echoLinkUp rate width => Sys2Proof.Machine.execEchoLinkUp rate width s
  | .echoTrainRetry => Sys2Proof.Machine.execEchoTrainRetry s
  | .echoLinkLoss => Sys2Proof.Machine.execEchoLinkLoss s
  | .hello malformed nonce proto owner stepping resume cap uid pairId session => Sys2Proof.Machine.execHello malformed nonce proto owner stepping resume cap uid pairId session s
  | .proof malformed ok => Sys2Proof.Machine.execProof malformed ok s
  | .mwr rx off low data be => Sys2Proof.Machine.execMwr rx off low data be s
  | .epoch rx epoch => Sys2Proof.Machine.execEpoch rx epoch s
  | .mack rx kind ns arg epoch dirtied rtt => Sys2Proof.Machine.execMack rx kind ns arg epoch dirtied rtt s
  | .allow rx total => Sys2Proof.Machine.execAllow rx total s
  | .state rx word => Sys2Proof.Machine.execState rx word s
  | .frd rx off tag len order => Sys2Proof.Machine.execFrd rx off tag len order s
  | .fdata rx off tag last poison notAvail data => Sys2Proof.Machine.execFdata rx off tag last poison notAvail data s
  | .greq rx gran tag purpose => Sys2Proof.Machine.execGreq rx gran tag purpose s
  | .gdata rx gran tag purpose part data => Sys2Proof.Machine.execGdata rx gran tag purpose part data s
  | .gver rx gran tag purpose seq epoch gflags sectors status us => Sys2Proof.Machine.execGver rx gran tag purpose seq epoch gflags sectors status us s
  | .rsync rx kind sEnd count => Sys2Proof.Machine.execRsync rx kind sEnd count s
  | .vinfo rx need own mirror => Sys2Proof.Machine.execVinfo rx need own mirror s
  | .vtab rx start entries => Sys2Proof.Machine.execVtab rx start entries s
  | .lctl ctl tagOk nak lseq freed => Sys2Proof.Machine.execLctl ctl tagOk nak lseq freed s
  | .mackCoalesceTimer => Sys2Proof.Machine.execMackCoalesceTimer s
  | .stateSendTimer => Sys2Proof.Machine.execStateSendTimer s
  | .lctlAckTimer => Sys2Proof.Machine.execLctlAckTimer s
  | .echoReplayTimeout ok => Sys2Proof.Machine.execEchoReplayTimeout ok s
  | .echoSilence => Sys2Proof.Machine.execEchoSilence s
  | .lapsedRejoin => Sys2Proof.Machine.execLapsedRejoin s
  | .heldPenaltyEnd => Sys2Proof.Machine.execHeldPenaltyEnd s
  | .refusedRetry => Sys2Proof.Machine.execRefusedRetry s
  | .resyncGranuleRead => Sys2Proof.Machine.execResyncGranuleRead s
  | .replaceExpiry => Sys2Proof.Machine.execReplaceExpiry s
  | .mirrorViewRead p addr len => Sys2Proof.Machine.execMirrorViewRead p addr len s
  | .pairStatus req id => Sys2Proof.Machine.execPairStatus req id s
  | .pairDetach req id => Sys2Proof.Machine.execPairDetach req id s
  | .pairRejoin req id => Sys2Proof.Machine.execPairRejoin req id s
  | .pairReplace req id => Sys2Proof.Machine.execPairReplace req id s
  | .mirrorViewOn req id => Sys2Proof.Machine.execMirrorViewOn req id s
  | .mirrorViewOff req id => Sys2Proof.Machine.execMirrorViewOff req id s
  | .echCntClr r w => Sys2Proof.Machine.execEchCntClr r w s
  | .lanternSample l => Sys2Proof.Machine.execLanternSample l s
  | .lowcurEntry port => Sys2Proof.Machine.execLowcurEntry port s
  | .lowcurUpdate port ua uv temp => Sys2Proof.Machine.execLowcurUpdate port ua uv temp s
  | .lowcurExit port => Sys2Proof.Machine.execLowcurExit port s
  | .converterSilent port => Sys2Proof.Machine.execConverterSilent port s
  | .lanternNorCopy => Sys2Proof.Machine.execLanternNorCopy s
  | .sigmaAging => Sys2Proof.Machine.execSigmaAging s
  | .restWindowStart port => Sys2Proof.Machine.execRestWindowStart port s
  | .restWindowEnd uvPerS uv => Sys2Proof.Machine.execRestWindowEnd uvPerS uv s
  | .learnReq r w => Sys2Proof.Machine.execLearnReq r w s
  | .learnCancel r w => Sys2Proof.Machine.execLearnCancel r w s
  | .lanFaultClr r w => Sys2Proof.Machine.execLanFaultClr r w s
  | .learnStart port => Sys2Proof.Machine.execLearnStart port s
  | .learnCharged => Sys2Proof.Machine.execLearnCharged s
  | .learnChargeTimeout => Sys2Proof.Machine.execLearnChargeTimeout s
  | .learnDischargeEnd ua uv => Sys2Proof.Machine.execLearnDischargeEnd ua uv s
  | .learnRelaxEnd uvPerS uv => Sys2Proof.Machine.execLearnRelaxEnd uvPerS uv s
  | .learnRechargeDone => Sys2Proof.Machine.execLearnRechargeDone s
  | .learnGuard uv => Sys2Proof.Machine.execLearnGuard uv s
  | .railScanSample n code => Sys2Proof.Machine.execRailScanSample n code s
  | .groupReadyTimeout => Sys2Proof.Machine.execGroupReadyTimeout s
  | .delayUpExpiry => Sys2Proof.Machine.execDelayUpExpiry s
  | .offTimeout => Sys2Proof.Machine.execOffTimeout s
  | .delayDownExpiry => Sys2Proof.Machine.execDelayDownExpiry s
  | .retryDelayExpiry => Sys2Proof.Machine.execRetryDelayExpiry s
  | .shortPress => Sys2Proof.Machine.execShortPress s
  | .longPress => Sys2Proof.Machine.execLongPress s
  | .cutPress => Sys2Proof.Machine.execCutPress s
  | .offReq r w => Sys2Proof.Machine.execOffReq r w s
  | .graceTimeout => Sys2Proof.Machine.execGraceTimeout s
  | .supFaultClr r w => Sys2Proof.Machine.execSupFaultClr r w s
  | .ffAck r w => Sys2Proof.Machine.execFfAck r w s
  | .ffNorWrite => Sys2Proof.Machine.execFfNorWrite s
  | .mrstN => Sys2Proof.Machine.execMrstN s
  | .wakeN => Sys2Proof.Machine.execWakeN s
  | .clockMonitorWindow count => Sys2Proof.Machine.execClockMonitorWindow count s
  | .pllLossOfLock => Sys2Proof.Machine.execPllLossOfLock s
  | .clockRelockResult ok margins => Sys2Proof.Machine.execClockRelockResult ok margins s
  | .clkMonClr r w => Sys2Proof.Machine.execClkMonClr r w s
  | .leaveRequest op => Sys2Proof.Machine.execLeaveRequest op s
  | .leaveReturn id => Sys2Proof.Machine.execLeaveReturn id s
  | .leaveAgeExpiry id => Sys2Proof.Machine.execLeaveAgeExpiry id s
  | .idleTimeout => Sys2Proof.Machine.execIdleTimeout s
  | .sleepReq r w => Sys2Proof.Machine.execSleepReq r w s
  | .autoSleepTimer => Sys2Proof.Machine.execAutoSleepTimer s
  | .deepReq r w => Sys2Proof.Machine.execDeepReq r w s
  | .pwrCancel r w => Sys2Proof.Machine.execPwrCancel r w s
  | .domainVote busy => Sys2Proof.Machine.execDomainVote busy s
  | .domainVoteTimeout => Sys2Proof.Machine.execDomainVoteTimeout s
  | .sleepRetryBackoff => Sys2Proof.Machine.execSleepRetryBackoff s
  | .deepPrepDrained => Sys2Proof.Machine.execDeepPrepDrained s
  | .deepPrepTimeout => Sys2Proof.Machine.execDeepPrepTimeout s
  | .wakeReq r w => Sys2Proof.Machine.execWakeReq r w s
  | .deepWakeTimer => Sys2Proof.Machine.execDeepWakeTimer s
  | .sleepGuardTrip => Sys2Proof.Machine.execSleepGuardTrip s
  | .sleepCheck => Sys2Proof.Machine.execSleepCheck s
  | .sleepExit => Sys2Proof.Machine.execSleepExit s
  | .domainReady => Sys2Proof.Machine.execDomainReady s
  | .domainBoundMissed d => Sys2Proof.Machine.execDomainBoundMissed d s
  | .aonBorWarning => Sys2Proof.Machine.execAonBorWarning s
  | .aonBorReset => Sys2Proof.Machine.execAonBorReset s
  | .pwrCntClr r w => Sys2Proof.Machine.execPwrCntClr r w s
  | .powerOnReset testMode => Sys2Proof.Machine.execPowerOnReset testMode s
  | .coldStart ix => Sys2Proof.Machine.execColdStart ix s
  | .warmStart ix => Sys2Proof.Machine.execWarmStart ix s
  | .safeClr r w => Sys2Proof.Machine.execSafeClr r w s
  | .safeArmedExpiry => Sys2Proof.Machine.execSafeArmedExpiry s
  | .provDataWrite r w => Sys2Proof.Machine.execProvDataWrite r w s
  | .provBurn r w => Sys2Proof.Machine.execProvBurn r w s
  | .cfgLock r w => Sys2Proof.Machine.execCfgLock r w s
  | .wdtHeartbeat cp => Sys2Proof.Machine.execWdtHeartbeat cp s
  | .wdtKick r key => Sys2Proof.Machine.execWdtKick r key s
  | .wdtStage1Expiry => Sys2Proof.Machine.execWdtStage1Expiry s
  | .wdtStage2Expiry => Sys2Proof.Machine.execWdtStage2Expiry s
  | .aonCoreTimer => Sys2Proof.Machine.execAonCoreTimer s
  | .updateStage req id ofst data last => Sys2Proof.Machine.execUpdateStage req id ofst data last s
  | .updateVerifyDone result img => Sys2Proof.Machine.execUpdateVerifyDone result img s
  | .updateCommitWarm req id => Sys2Proof.Machine.execUpdateCommitWarm req id s
  | .updateCommitCold req id => Sys2Proof.Machine.execUpdateCommitCold req id s
  | .updateCommitFormat req id => Sys2Proof.Machine.execUpdateCommitFormat req id s
  | .updateAbort req id => Sys2Proof.Machine.execUpdateAbort req id s
  | .updateCommitOther req id => Sys2Proof.Machine.execUpdateCommitOther req id s
  | .trialWindowEnd => Sys2Proof.Machine.execTrialWindowEnd s
  | .norOpComplete erase fails journal => Sys2Proof.Machine.execNorOpComplete erase fails journal s
  | .opsecCopy => Sys2Proof.Machine.execOpsecCopy s
  | .aonPatchSwap => Sys2Proof.Machine.execAonPatchSwap s
  | .thermalShutdown => Sys2Proof.Machine.execThermalShutdown s
  | .eventSubmit src code sev key own queued => Sys2Proof.Machine.execEventSubmit src code sev key own queued s
  | .recordWindowClose seq => Sys2Proof.Machine.execRecordWindowClose seq s
  | .norJournalFlush failed => Sys2Proof.Machine.execNorJournalFlush failed s
  | .evrFlush r w => Sys2Proof.Machine.execEvrFlush r w s
  | .blackBoxFlush ok => Sys2Proof.Machine.execBlackBoxFlush ok s
  | .norUnresponsive => Sys2Proof.Machine.execNorUnresponsive s
  | .ringEccError lost => Sys2Proof.Machine.execRingEccError lost s
  | .evrRdGo r w => Sys2Proof.Machine.execEvrRdGo r w s
  | .evrCntClr r w => Sys2Proof.Machine.execEvrCntClr r w s
  | .viewExpiry r => Sys2Proof.Machine.execViewExpiry r s
  | .getChallenge req id => Sys2Proof.Machine.execGetChallenge req id s
  | .challengeExpiry => Sys2Proof.Machine.execChallengeExpiry s
  | .clear req id clearTo maxSev scope slot keyOk sigOk sigHash => Sys2Proof.Machine.execClear req id clearTo maxSev scope slot keyOk sigOk sigHash s
  | .createIoQueue p id cq qid qsize base arg pc ien => Sys2Proof.Machine.execCreateIoQueue p id cq qid qsize base arg pc ien s
  | .deleteIoQueue p id cq qid => Sys2Proof.Machine.execDeleteIoQueue p id cq qid s
  | .getLogPage req id lid lsp off len rae => Sys2Proof.Machine.execGetLogPage req id lid lsp off len rae s
  | .identify req id cns nsid => Sys2Proof.Machine.execIdentify req id cns nsid s
  | .abort p id target => Sys2Proof.Machine.execAbort p id target s
  | .asynchronousEventRequest p id => Sys2Proof.Machine.execAsynchronousEventRequest p id s
  | .keepAlive p id => Sys2Proof.Machine.execKeepAlive p id s
  | .getFeatures req id fid arg => Sys2Proof.Machine.execGetFeatures req id fid arg s
  | .setFeatures p id fid arg save => Sys2Proof.Machine.execSetFeatures p id fid arg save s
  | .formatNvm p id nsid lbaf ses => Sys2Proof.Machine.execFormatNvm p id nsid lbaf ses s
  | .invalidOpcode req id => Sys2Proof.Machine.execInvalidOpcode req id s
  | .flush p id nsid => Sys2Proof.Machine.execFlush p id nsid s
  | .write p id nsid slba data => Sys2Proof.Machine.execWrite p id nsid slba data s
  | .readLba p id nsid slba nlb bad => Sys2Proof.Machine.execReadLba p id nsid slba nlb bad s
  | .writeZeroes p id nsid slba nlb => Sys2Proof.Machine.execWriteZeroes p id nsid slba nlb s
  | .datasetManagement p id nsid dealloc ranges => Sys2Proof.Machine.execDatasetManagement p id nsid dealloc ranges s
  | .sqDoorbell p qid tail => Sys2Proof.Machine.execSqDoorbell p qid tail s
  | .cqDoorbell p qid head => Sys2Proof.Machine.execCqDoorbell p qid head s
  | .hostReadTimeout p f => Sys2Proof.Machine.execHostReadTimeout p f s
  | .barrierQuery req id => Sys2Proof.Machine.execBarrierQuery req id s
  | .learnCycleRequest req id port cancel => Sys2Proof.Machine.execLearnCycleRequest req id port cancel s
  | .rehearsalVault req id => Sys2Proof.Machine.execRehearsalVault req id s
  | .registerAccessRead req id off => Sys2Proof.Machine.execRegisterAccessRead req id off s
  | .registerAccessWrite req id off w => Sys2Proof.Machine.execRegisterAccessWrite req id off w s
  | .registerWrite r off data be => Sys2Proof.Machine.execRegisterWrite r off data be s
  | .mctpControl eid => Sys2Proof.Machine.execMctpControl eid s
  | .readNvmeMiDataStructure dtyp ctrl => Sys2Proof.Machine.execReadNvmeMiDataStructure dtyp ctrl s
  | .subsystemHealthStatusPoll clear => Sys2Proof.Machine.execSubsystemHealthStatusPoll clear s
  | .controllerHealthStatusPoll p => Sys2Proof.Machine.execControllerHealthStatusPoll p s
  | .configurationGet cid => Sys2Proof.Machine.execConfigurationGet cid s
  | .configurationSet cid val => Sys2Proof.Machine.execConfigurationSet cid val s
  | .basicManagementCommand => Sys2Proof.Machine.execBasicManagementCommand s
  | .smbusAddrWrite addr pec => Sys2Proof.Machine.execSmbusAddrWrite addr pec s
  | .smbusAddrRead => Sys2Proof.Machine.execSmbusAddrRead s
  | .smbusWrite w pec => Sys2Proof.Machine.execSmbusWrite w pec s
  | .smbusRead => Sys2Proof.Machine.execSmbusRead s
  | .smbusStatus => Sys2Proof.Machine.execSmbusStatus s
  | .smbusCtrlWrite b pec => Sys2Proof.Machine.execSmbusCtrlWrite b pec s
  | .smbusCtrlRead => Sys2Proof.Machine.execSmbusCtrlRead s
  | .smbusStuckTimeout => Sys2Proof.Machine.execSmbusStuckTimeout s
  | .uartStatus => Sys2Proof.Machine.execUartStatus s
  | .uartEvents n => Sys2Proof.Machine.execUartEvents n s
  | .uartFf => Sys2Proof.Machine.execUartFf s
  | .uartRegRead off => Sys2Proof.Machine.execUartRegRead off s
  | .uartRegWrite off w => Sys2Proof.Machine.execUartRegWrite off w s
  | .uartHelp => Sys2Proof.Machine.execUartHelp s
  | .uartUnknown => Sys2Proof.Machine.execUartUnknown s
  | .hostLinkUp p status => Sys2Proof.Machine.execHostLinkUp p status s
  | .echoTrainingAttemptFailed => Sys2Proof.Machine.execEchoTrainingAttemptFailed s
  | .learnDischargeStart uv => Sys2Proof.Machine.execLearnDischargeStart uv s
  | .norSupplyHoldExpiry => Sys2Proof.Machine.execNorSupplyHoldExpiry s
  | .junctionTempSample t => Sys2Proof.Machine.execJunctionTempSample t s
  | .journalSeverityScanDone => Sys2Proof.Machine.execJournalSeverityScanDone s
  | .keepAliveTimeout p => Sys2Proof.Machine.execKeepAliveTimeout p s
  | .registerRead r off len => Sys2Proof.Machine.execRegisterRead r off len s
  | .mirrorViewWrite p => Sys2Proof.Machine.execMirrorViewWrite p s
  | .nvmeRegisterWrite p off w => Sys2Proof.Machine.execNvmeRegisterWrite p off w s
  | .pcieConfigWrite p w => Sys2Proof.Machine.execPcieConfigWrite p w s
  | .hostMemoryReadCompletion p f id op prp len => Sys2Proof.Machine.execHostMemoryReadCompletion p f id op prp len s

end Sys2Proof.Machine
end

