-- ==== Sys2Proof/Machine/Step.lean ====
section
/-! DEFINITION. One step of the block: the command at the front of the queue runs; on an empty queue a command that waited for
CP0 runs once CP0 can take it, else one period of the 32.768 kHz clock passes (DESIGN CHOICE: notes/assumptions/2.md). -/

namespace Sys2Proof.Machine

/-- CP0 can take a command that waited (R486, R487): PD_CTRL runs, the data path is awake, no vault is under way, and no vendor
command is in progress. -/
def State.canTake (s : State) : Bool := s.domOn .ctrl && !s.asleep && !s.vaulting && s.host.waiting.isEmpty

/-- The commands that still wait after one of them ran: none where it started a vault or a reset, which discard them; else those
behind it, and itself in front where it must wait again. -/
def State.requeue (t : State) (ds : List Deferred) : State :=
  if t.vaulting || !t.domOn .ctrl then t else { t with deferred := t.deferred ++ ds }

/-- On an empty queue: the oldest command that waits; else a clock period. -/
def State.idle (s : State) : Host.Outcome State Fault Refusal :=
  match s.deferred with
  | [] => done s s.tick
  | d :: ds =>
    if s.canTake then
      match exec d.cmd { s with deferred := [] } with
      | .next t => .next (t.requeue ds)
      | o => o
    else done s s.tick

/-- Take the command at the front of the queue and run it with the queue's rest. -/
def step (s : State) : Host.Outcome State Fault Refusal :=
  match s.pending with
  | [] => s.idle
  | c :: rest => exec c { s with pending := rest }

/-- The state with the command that a table word spells at the front of its queue. -/
def State.withFetchWord (s : State) (nbits w : Nat) : State :=
  match decodeTableWord nbits w with
  | some c => { s with pending := c :: s.pending }
  | none => s

end Sys2Proof.Machine
end

