-- ==== Sys2Proof/Safety.lean ====
section
/-! DEFINITION. What the claims speak of: that a command runs to a next state, that a step does, what the pins show, and the
canonical form of what the state holds. -/

namespace Sys2Proof.Machine

/-- The command answers a next state, and it has the property. -/
def Runs (c : Instr) (s : State) (P : State → Prop) : Prop := ∃ t, exec c s = .next t ∧ P t

/-- The step answers a next state, and it has the property. -/
def Steps (s : State) (P : State → Prop) : Prop := ∃ t, step s = .next t ∧ P t

/-- The power-control pins show what the rules say of them (R61, R106, R352, R360, R471). -/
abbrev State.PinsShown (s : State) : Prop := s.pins = s.levels

/-- The DRAM's bytes are in canonical form. -/
abbrev State.MemoryWf (s : State) : Prop := Memory.wf s.cache.cells = true

/-- The parts of the state that a command may change. -/
inductive Part where
  | rails | broker | pwr | ports | pmr | cache | umb | vlt | grt | flc | dmc | ech | lan | boot | deferred | flow | test
deriving DecidableEq, Repr

/-- The two states agree in a part; of the ports, in what is not NVMe, AER or interrupt state. -/
def Part.Same (t s : State) : Part → Prop
  | .rails => t.rails = s.rails
  | .broker => t.broker = s.broker
  | .pwr => t.pwr = s.pwr
  | .ports => ∀ p, (t.port p).linkUp = (s.port p).linkUp ∧ (t.port p).mse = (s.port p).mse ∧
      (t.port p).pmrEn = (s.port p).pmrEn ∧ (t.port p).inL1 = (s.port p).inL1 ∧ (t.port p).linkSt = (s.port p).linkSt
  | .pmr => t.pmr = s.pmr
  | .cache => t.cache = s.cache
  | .umb => t.umb = s.umb
  | .vlt => t.vlt = s.vlt
  | .grt => t.grt = s.grt
  | .flc => t.flc = s.flc
  | .dmc => t.dmc = s.dmc
  | .ech => t.ech = s.ech
  | .lan => t.lan = s.lan
  | .boot => t.boot = s.boot
  | .deferred => t.deferred = s.deferred
  | .flow => t.flow = s.flow
  | .test => t.test = s.test

/-- The register lies outside the recorder's block. -/
abbrev Fld.OffRecorder (f : Fld) : Prop := f.key < 0x1B0000 * 4096 ∨ 0x1C0000 * 4096 ≤ f.key

/-- The frame of a command: only the named parts and the named register fields differ, beside the recorder with its registers,
what is sent out, the pins, and the ports' NVMe, AER and interrupt state. -/
def State.Frame (t s : State) (ps : List Part) (fs : List Fld) : Prop :=
  (∀ p, p ∉ ps → p.Same t s) ∧ ∀ f : Fld, f.OffRecorder → f.key ∉ fs.map Fld.key → t.get f = s.get f

/-- The frame of a command that counts as an activity in RUN (R379): it also drops a pending sleep or deep request (R380). -/
abbrev State.ActFrame (t s : State) (ps : List Part) (fs : List Fld) : Prop :=
  t.Frame s (.pwr :: ps) (Reg.PWR_STATUS_RETRY :: fs) ∧ t.pwr = { s.pwr with request := 0, k := 0 }

/-- The device is in RUN (R378). -/
abbrev State.InRun (s : State) : Prop := s.get Reg.PWR_STATUS_STATE = pwrRun

/-- The device runs, the port's link is up, its memory space is enabled, and flow control holds nothing of it back: a TLP is
claimed at once. -/
abbrev State.Claims (s : State) (p : Port) : Prop := s.InRun ∧ s.portMem p = true ∧ s.holdsPosted p = false

/-- The port has nothing waiting. -/
abbrev State.NoneWaiting (s : State) (p : Port) : Prop := s.portQueue p = []

/-- The granule stands in DRAM, whole and neither frozen nor poisoned. -/
abbrev State.Present (s : State) (g : Nat) : Prop :=
  (s.ent g).st = .copied ∧ mget s.pmr.poison g = none ∧ s.granFrozen g = false ∧ s.granCovered g = false

/-- A descriptor that no check of R195, R196, R201, R210 and R212 turns away. -/
abbrev State.takesDesc (s : State) (d : Desc) : Prop :=
  d.bad = false ∧ s.ringRight d = true ∧ s.slcRight d = true ∧ (d.blockOp = true → s.blockThere d = true) ∧
    s.lunRefuses d = false ∧ (s.flag Reg.FLC_STATUS_TRIP = false ∨ d.ring < 32 ∨ d.cls = 1) ∧ s.disorder d = false

/-- The next page of the journal finds a record channel that takes it (R151, R163). -/
abbrev State.takesJournal (s : State) : Prop :=
  (s.grt.recRound s.recEnv 4 ((s.recEnv.groups.filter (fun l => !l.isEmpty)).take 2) []
    (.journal s.grt.journal.length (Nat.min 1021 s.grt.staged.length))).good ≠ []

/-- The device runs, a session carries frames, and the link layer finds nothing wrong with the frame: its sequence is the
next one, its tag verifies and R288 gives it its form. -/
abbrev State.Accepts (s : State) (rx : Rx) : Prop :=
  s.InRun ∧ s.sessionUp = true ∧ rx.lseq = s.ech.expSeq % 2 ^ 32 ∧ rx.tagOk = true ∧ rx.malformed = false

/-- The link is up and the peers have not yet paired (R296). -/
abbrev State.Pairing (s : State) : Prop :=
  s.flag Reg.ECH_LINK_UP = true ∧ s.echoState = ePairing

/-- The fields of the register at an offset. -/
def fieldsAt (o : Nat) : List Fld :=
  match regAt o with
  | some e => e.1.flds
  | none => []

/-- A write that reaches its register and takes effect: the requester's path answers, flow control does not hold it back, the
block's domain runs, the requester may make it, and no reserved bit is set (R10, R74, R394, R515). -/
def State.Writes (s : State) (r : Requester) (o w : Nat) : Prop :=
  s.reaches r = true ∧ (∀ p, r.port = some p → s.InRun ∧ s.holdsPosted p = false) ∧
    (∃ b, Block.ofOff o = some b ∧ s.domOn b.domain = true) ∧
    s.mayWrite r o w = true ∧ ∃ row, regAt o = some (row, false) ∧ row.wide = false ∧ strayBits row.mask w = false

/-- Such a write of a word with one command bit set, and no other of the register's command bits. -/
def State.Asks (s : State) (r : Requester) (o : Nat) (f : Fld) (w : Word) : Prop :=
  s.Writes r o (Nat.lor w.toNat (2 ^ f.lo)) ∧
    ∀ g ∈ fieldsAt o, g.acc = .wo → g ≠ f → g.of (Nat.lor w.toNat (2 ^ f.lo)) = 0

/-- The registers whose write starts something beside what their fields take (R9). -/
def actingOffsets : List Nat :=
  [0x100004, 0x100028, 0x10002C, 0x110000, 0x120000, 0x120034, 0x130000, 0x140000, 0x150000, 0x160000, 0x170000, 0x180000,
    0x18002C, 0x190000, 0x190050, 0x190100, 0x190114, 0x190160, 0x1A0000, 0x1B0000, 0x1D0000, 0x1D0008]

/-- Something was sent out after what the first state had sent. -/
def State.Sent (t s : State) (o : Out) : Prop := ∃ l, t.out = s.out ++ l ∧ o ∈ l

/-- An admin command was answered: a completion queue entry of the controller, or a tunnelled response. -/
def State.Answers (t s : State) (req : AdminReq) (id : CmdId) (st : NStat) (dw0 : Nat) : Prop :=
  match req with
  | .host p => ∃ q ph, t.Sent s (.cqe p q { id with sq := 0 } st.sct st.sc dw0 ph)
  | .mi _ => t.Sent s (.miResp st.sct st.sc dw0)

/-- The submission queue has its completion queue; queue 0 is the admin queue. -/
def Nvme.hasCq (n : Nvme) (sq : Nat) : Bool := (mget n.cqs (((mget n.sqs sq).map (fun q => q.cq)).getD 0)).isSome

/-- The device runs with an image and takes an admin command of this sender at once: an enabled controller with its admin
completion queue, or the SMBus endpoint with its endpoint ID. -/
def State.TakesAdmin (s : State) (req : AdminReq) : Prop :=
  s.InRun ∧ s.domOn .ctrl = true ∧ s.flag Reg.SYS_STATUS_NO_IMAGE = false ∧ s.host.waiting = [] ∧ s.deferred = [] ∧
    match req with
    | .host p => s.portLive p = true ∧ (s.nvme p).en = true ∧ (s.nvme p).cfs = false ∧ (s.nvme p).hasCq 0 = true
    | .mi p => s.domOn .sup = true ∧ s.vaulting = false ∧ s.host.smb.eid ≠ 0 ∧ s.portExists p = true

/-- The device runs and takes an I/O command of this queue at once. -/
abbrev State.TakesIo (s : State) (p : Port) (id : CmdId) : Prop :=
  s.InRun ∧ s.domOn .ctrl = true ∧ s.portLive p = true ∧ (s.nvme p).en = true ∧ (s.nvme p).cfs = false ∧ (s.nvme p).shn = 0 ∧
    s.vaulting = false ∧ (s.nvme p).hasCq id.sq = true

/-- An I/O command was answered with this status. -/
def State.IoDone (t s : State) (p : Port) (id : CmdId) (st : NStat) : Prop :=
  ∃ q ph, t.Sent s (.cqe p q id st.sct st.sc 0 ph)

/-- The SMBus endpoint takes an NVMe-MI message at once. -/
abbrev State.TakesMi (s : State) : Prop :=
  s.InRun ∧ s.domOn .sup = true ∧ s.domOn .ctrl = true ∧ s.vaulting = false ∧ s.host.smb.eid ≠ 0

end Sys2Proof.Machine
end

