-- ==== Sys2Proof/Certificates/Slice0/Obligations.lean ====
section
/-! DEFINITION. The statements for the provers. -/

open Sys2Proof Sys2Proof.Machine

/-! ## The queue and the pins -/

/-- A step on a state whose queue has a front is the execution of that command with the queue's rest. -/
def Obligations.StepRunsFront : Prop :=
  ∀ (c : Instr) (rest : List Instr) (s : State), s.pending = c :: rest → step s = exec c { s with pending := rest }

/-- Every command answers a next state, whatever the state and the operands, and leaves the queue as it was. -/
def Obligations.EveryCommandAnswers : Prop :=
  ∀ (c : Instr) (s : State), Runs c s fun t => t.pending = s.pending

/-- With no command and none deferred, a step counts one period of the 32.768 kHz clock while PD_SUP is on, and with the last
period of a second an operating second (the model's choice, log entry 2). -/
def Obligations.IdleCountsSeconds : Prop :=
  (∀ s : State, s.pending = [] → s.deferred = [] → s.domOn .sup = true → s.pwr.ticks + 1 < 32768 →
    Steps s fun t => t.pwr.ticks = s.pwr.ticks + 1 ∧ t.secs = s.secs) ∧
  (∀ s : State, s.pending = [] → s.deferred = [] → s.domOn .sup = true → 32768 ≤ s.pwr.ticks + 1 →
    Steps s fun t => t.pwr.ticks = 0 ∧ t.secs = (s.secs + 1) % 2 ^ 40) ∧
  (∀ s : State, s.pending = [] → s.deferred = [] → s.domOn .sup = false → Steps s fun t => t.pwr = s.pwr ∧ t.regs = s.regs)

/-- The invariant of the power-control pins is kept by every step: HOLD_EN, ALERT_N and FAULT_N show what their rules say. -/
def Obligations.PinsKept : Prop :=
  ∀ s t : State, s.PinsShown → step s = .next t → t.PinsShown

/-- A pin follows its causes: after any command, a latched fault of action 2 or 3, LOCKOUT or a clock fault asserts FAULT_N, and
each of these and the recorder's, the contract's and Echo's conditions assert ALERT_N; nothing else does (R25, R61, R302, R352,
R360, R462, R471). -/
def Obligations.PinsFollow : Prop :=
  ∀ (c : Instr) (s : State), Runs c s fun t =>
    (t.pins.hold = t.flag Reg.VLT_STATUS_HOLD) ∧
    (t.pins.fault = true ↔ (∃ e ∈ t.rails.chans, 2 ≤ e.2.lat) ∨ t.flag Reg.SUP_STATUS_LOCKOUT = true ∨
      t.flag Reg.CLK_STATUS_FAULT = true ∨ t.flag Reg.CLK_STATUS_HOLD = true) ∧
    (t.pins.alert = true ↔ (∃ e ∈ t.rails.chans, 1 ≤ e.2.lat) ∨ t.flag Reg.SUP_STATUS_LOCKOUT = true ∨
      t.flag Reg.CLK_STATUS_FAULT = true ∨ t.flag Reg.CLK_STATUS_HOLD = true ∨ t.flag Reg.EVR_STATUS_SEV_EV = true ∨
      t.flag Reg.EVR_MEM_CRIT = true ∨ t.pmr.hsts = 3 ∨ t.ech.heldUntilRejoin = true)

/-- Every step keeps the DRAM's bytes in canonical form: addresses rising, and no entry equal to what an unlisted byte reads. -/
def Obligations.MemoryKept : Prop :=
  ∀ s t : State, s.MemoryWf → step s = .next t → t.MemoryWf

/-- Reset meets both invariants with no pin asserted, and leaves no vault and no write counted, the sequencer in OFF, the PMR
CLOSED, the lock open, the monitor's range empty. -/
def Obligations.ResetState : Prop :=
  State.reset.PinsShown ∧ State.reset.pins = ⟨false, false, false⟩ ∧ State.reset.MemoryWf ∧
    State.reset.seqState = seqOff ∧ State.reset.pmr.st = .closed ∧ State.reset.vlt.cur = none ∧ State.reset.pending = [] ∧
    State.reset.get Reg.VLT_STATUS_HOLD = 0 ∧ State.reset.flag Reg.CFG_CTRL_LOCK = false ∧
    State.reset.get Reg.CLK_MON_RANGE_MIN = 0xFFFF ∧ State.reset.get Reg.CLK_MON_RANGE_MAX = 0

/-! ## The persistence contract -/

/-- PMR_WRITE_TLP: a write that R34 takes waits in its port's share behind the others. A poisoned one is reported and does
not; one outside R34 is counted and reported; one that finds its port's share full is held back (R74). PMR_WRITE_SEQUENCE:
the write takes the next sequence, its enabled bytes are stored, and its granule is dirty with that sequence and the current
epoch; no other byte of the DRAM differs. -/
def Obligations.PmrWrites : Prop :=
  (∀ (p : Port) (addr : Nat) (data : List Byte) (be : List Bool) (s : State), s.Claims p →
    queueBytes (s.portQueue p) + data.length ≤ s.portShare → be.all (fun b => !b) = false → s.writable p addr data.length = true →
    Runs (.pmrWriteTlp p addr data be false false) s fun t =>
      t.portQueue p = s.portQueue p ++ [.write addr data be] ∧ t.cache = s.cache ∧ t.pmr.nextSeq = s.pmr.nextSeq) ∧
  (∀ (p : Port) (addr : Nat) (data : List Byte) (be : List Bool) (s : State), s.Claims p →
    queueBytes (s.portQueue p) + data.length ≤ s.portShare →
    Runs (.pmrWriteTlp p addr data be true false) s fun t => t.pmr = s.pmr ∧ t.cache = s.cache) ∧
  (∀ (p : Port) (addr : Nat) (data : List Byte) (be : List Bool) (s : State), s.Claims p → s.NoneWaiting p →
    data.length ≤ s.portShare → be.all (fun b => !b) = false → s.writable p addr data.length = false →
    Runs (.pmrWriteTlp p addr data be false false) s fun t =>
      t.pmr = s.pmr ∧ t.cache = s.cache ∧ t.host.discarded = s.host.discarded + 1) ∧
  (∀ (p : Port) (addr : Nat) (data : List Byte) (be : List Bool) (ep ecrcErr : Bool) (s : State), s.portLive p = true →
    s.portShare < queueBytes (s.portQueue p) + data.length →
    Runs (.pmrWriteTlp p addr data be ep ecrcErr) s fun t =>
      t.flow = s.flow ++ [(p, .pmrWriteTlp p addr data be ep ecrcErr)] ∧ t.regs = s.regs ∧ t.Frame s [.flow] []) ∧
  (∀ (p : Port) (addr ns : Nat) (data : List Byte) (be : List Bool) (s : State), s.asleep = false → s.flow = [] →
    (s.atTime ns).settlePorts.portQueue p = [.write addr data be] → (s.atTime ns).settlePorts.headReady p = true →
    (s.atTime ns).settlePorts.pair = false → (s.atTime ns).settlePorts.Present (addr / 4096) →
    (s.atTime ns).settlePorts.dramClean = true →
    Runs (.pmrWriteSequence (some p) ns) s fun t =>
      t.pmr.nextSeq = (s.atTime ns).settlePorts.pmr.nextSeq + 1 ∧ t.portQueue p = [] ∧
      t.cache.cells = storeEnabled (s.atTime ns).settlePorts.cache.cells (addr / 4096 * 4096 + addr % 4096) data be ∧
      (t.gran (addr / 4096)).dirty = true ∧ (t.gran (addr / 4096)).seq = (s.atTime ns).settlePorts.pmr.nextSeq ∧
      (t.gran (addr / 4096)).epoch = (s.atTime ns).settlePorts.pmr.epoch ∧
      ∀ a, a < addr ∨ addr + data.length ≤ a → loadByte t.cache.cells a = loadByte (s.atTime ns).settlePorts.cache.cells a)

/-- PMR_READ: a read of granules that stand in DRAM, where no burst holds an error, returns their bytes and changes no memory; one
of a granule that is not copied yet waits for the fetch that it starts; with EN = 0 it is an Unsupported Request. -/
def Obligations.PmrReads : Prop :=
  (∀ (p : Port) (addr len : Nat) (s : State), s.Claims p → s.NoneWaiting p → (s.port p).pmrEn = true → s.pmr.st ≠ .closed →
    addr + len ≤ s.pmrBytes → s.Present (addr / 4096) → s.errsIn addr len = [] →
    Runs (.pmrRead p addr len) s fun t =>
      t.out = s.out ++ [.cpl p .success false (loadBytes s.cache.cells addr len)] ∧
      t.Frame s [.pwr] [Reg.PWR_STATUS_RETRY]) ∧
  (∀ (p : Port) (addr len : Nat) (s : State), s.Claims p → s.NoneWaiting p → (s.port p).pmrEn = true → s.pmr.st ≠ .closed →
    addr + len ≤ s.pmrBytes → s.granFrozen (addr / 4096) = false → (s.ent (addr / 4096)).st = .notCopied →
    Runs (.pmrRead p addr len) s fun t =>
      t.out = s.out ∧ t.pmr.waitReads = s.pmr.waitReads ++ [WaitRead.mk p addr len] ∧
      (t.ent (addr / 4096)).st = .fetching ∧ t.cache.cells = s.cache.cells) ∧
  (∀ (p : Port) (addr len : Nat) (s : State), s.Claims p → s.NoneWaiting p → (s.port p).pmrEn = false →
    Runs (.pmrRead p addr len) s fun t => .cpl p .unsupported false [] ∈ t.out ∧ t.cache = s.cache ∧ t.pmr = s.pmr)

/-- BARRIER_READ: the barrier's point is the last sequence given; within 1 µs it joins the open group. BARRIER_COMPLETE: without a
peer a barrier completes as durable once its group's 1 µs window is over, the epoch rises by one and the last covered sequence
takes the barrier's point. In a pair whose peer is in service it waits for the acknowledgement of its point, and
BARRIER_ACK_TIMEOUT then ends that service. -/
def Obligations.Barriers : Prop :=
  (∀ (p : Port) (ns : Nat) (s : State), s.Claims p → s.NoneWaiting p → (s.port p).pmrEn = true →
    Runs (.barrierRead p ns) s fun t =>
      t.pmr.barriers = s.pmr.barriers ++ [⟨p, s.pmr.nextSeq - 1, (s.pmr.barrierGroup (Nat.max s.pmr.now ns)).1⟩] ∧
      t.cache = s.cache) ∧
  (∀ (m : Pmr) (g t0 ns : Nat), m.group = some (g, t0) → t0 ≤ ns → ns < t0 + 1000 → (m.barrierGroup ns).1 = g) ∧
  (∀ (m : Pmr) (g t0 ns : Nat), m.group = some (g, t0) → t0 + 1000 ≤ ns → (m.barrierGroup ns).1 = m.nextGroup) ∧
  (∀ (b : Barrier) (ns : Nat) (s : State), s.pmr.barriers = [b] → s.pair = false →
    (s.atTime ns).pmr.windowOver b.group = true → Runs (.barrierComplete ns) s fun t =>
      t.pmr.barriers = [] ∧ t.pmr.epoch = (s.pmr.epoch + 1) % 2 ^ 32 ∧
      t.pmr.lastCovered = Nat.max s.pmr.lastCovered b.point ∧ t.cache = s.cache) ∧
  (∀ (b : Barrier) (ns : Nat) (s : State), s.pmr.barriers = [b] → (s.atTime ns).pmr.windowOver b.group = false →
    Runs (.barrierComplete ns) s fun t => t.pmr = (s.atTime ns).pmr ∧ t.out = s.out) ∧
  (∀ (b : Barrier) (ns : Nat) (s : State), s.pmr.barriers = [b] → s.pair = true → s.peerInService = true → s.ech.nsSeqs = [] →
    s.get Reg.ECH_SEQ_ACKED_SEQ < b.point →
    Runs (.barrierComplete ns) s fun t => t.pmr = (s.atTime ns).pmr ∧ t.out = s.out) ∧
  (∀ (b : Barrier) (s : State), s.pmr.barriers = [b] → s.barrierRule b.point = .notMet → s.streaming = true →
    Runs .barrierAckTimeout s fun t => t.echoState = eLapsed ∨ t.echoState = eHeld)


/-! ## Ports and controllers -/

/-- PMRCTL_WRITE, HOST_LINK_UP (with its bring-up leave, which it gives back), PORT_LINK_DOWN, PORT_RESET: what each leaves of its
port. CONTROLLER_ENABLE, CONTROLLER_DISABLE and SHUTDOWN_NOTIFICATION: RDY follows EN whatever the PMR does, and the PMR is left
alone. -/
def Obligations.PortsAndControllers : Prop :=
  (∀ (p : Port) (w : Word) (s : State), s.Claims p → bitOf w.toNat 0 = true →
    Runs (.pmrctlWrite p w) s fun t => (t.port p).pmrEn = true ∧ t.Frame s [.ports, .pwr] [Reg.PWR_STATUS_RETRY]) ∧
  (∀ (p : Port) (w : Word) (s : State), s.Claims p → bitOf w.toNat 0 = false → s.NoneWaiting .a → s.NoneWaiting .b → s.seqState ≠ seqGrace →
    Runs (.pmrctlWrite p w) s fun t => (t.port p).pmrEn = false ∧ t.pmr.barriers = s.pmr.barriers.filter (fun b => b.port != p)) ∧
  (∀ (p : Port) (status : Nat) (s : State), s.portExists p = true → s.domOn .host = true → s.holdsOp (.phyHost p) = true →
    Runs (.hostLinkUp p status) s fun t => (t.port p).linkUp = true ∧ (t.port p).linkSt = status % 2 ^ 32 ∧
      (t.port p).pmrEn = (s.port p).pmrEn ∧ t.holdsOp (.phyHost p) = false) ∧
  (∀ (p : Port) (status : Nat) (s : State), s.portExists p = true → s.domOn .host = true →
    (s.phyRequest p).holdsOp (.phyHost p) = false → Runs (.hostLinkUp p status) s fun t =>
      (t.port p).linkUp = (s.port p).linkUp ∧ t.broker = (s.phyRequest p).broker) ∧
  (∀ (p : Port) (s : State), s.portLive p = true →
    Runs (.portLinkDown p) s fun t => (t.port p).linkUp = false ∧ (t.port p).pmrEn = (s.port p).pmrEn ∧ (t.nvme p).rdy = false ∧
      t.portQueue p = []) ∧
  (∀ (p : Port) (flr : Bool) (s : State), s.portExists p = true →
    Runs (.portReset p flr) s fun t => (t.port p).linkUp = (flr && (s.port p).linkUp) ∧ (t.port p).pmrEn = false ∧
      (t.nvme p).en = false ∧ t.portQueue p = [] ∧ ∀ b ∈ t.pmr.barriers, b.port ≠ p) ∧
  (∀ (p : Port) (cc : Word) (s : State), s.Claims p → (s.nvme p).en = false →
    Runs (.controllerEnable p cc) s fun t => (t.nvme p).en = true ∧ (t.nvme p).rdy = true ∧ (t.nvme p).shst = 0 ∧
      (t.port p).pmrEn = (s.port p).pmrEn ∧ t.Frame s [.pwr] [Reg.PWR_STATUS_RETRY]) ∧
  (∀ (p : Port) (s : State), s.Claims p →
    Runs (.controllerDisable p) s fun t => (t.nvme p).en = false ∧ (t.nvme p).rdy = false ∧ (t.nvme p).sqs = [] ∧
      (t.port p).pmrEn = (s.port p).pmrEn ∧ t.Frame s [.pwr, .deferred] [Reg.PWR_STATUS_RETRY]) ∧
  (∀ (p : Port) (shn : Nat) (s : State), s.Claims p → (s.nvme p).en = true → shn % 4 ≠ 0 → s.seqState ≠ seqGrace →
    Runs (.shutdownNotification p shn) s fun t => (t.nvme p).shst = 2 ∧ (t.nvme p).shn = shn % 4 ∧ t.pmr = s.pmr)

/-! ## Umbra, Seep, rehearsals -/

/-- The horizon lies below every clamp of R71, rises no faster than R72 lets it, and under the stale-input rule of R31 stands
at or below both its last value and the dirty bytes. -/
def Obligations.HorizonClamps : Prop :=
  (∀ (s : State) (h : Nat), s.clampHorizon h ≤ h ∧ s.clampHorizon h ≤ s.reserveClamp ∧ s.clampHorizon h ≤ s.cacheGrans * 4096 ∧
    (s.flag Reg.UMB_STATUS_COLD_CAP = true → s.clampHorizon h ≤ s.coldCap)) ∧
  (∀ (s : State) (h : Nat), s.riseLimit h ≤ h ∧ (s.umb.published = true →
    s.riseLimit h ≤ s.get Reg.UMB_HORIZON_BYTES + Nat.max (s.get Reg.UMB_HORIZON_BYTES * 2 / 100) (2 ^ 28))) ∧
  (∀ s : State, (s.publishHorizon true).get Reg.UMB_HORIZON_BYTES ≤ s.get Reg.UMB_HORIZON_BYTES ∧
    (s.publishHorizon true).get Reg.UMB_HORIZON_BYTES ≤ s.dirtyBytes) ∧
  (∀ (s : State) (stale : Bool), (s.publishHorizon stale).get Reg.UMB_HORIZON_BYTES ≤ s.reserveClamp ∧
    (s.publishHorizon stale).get Reg.UMB_HORIZON_BYTES ≤ s.cacheGrans * 4096) ∧
  (∀ (s : State) (stale : Bool), (s.publishHorizon stale).flag Reg.UMB_STATUS_STALE = stale ∧
    (s.publishHorizon stale).umb.published = true ∧ (s.publishHorizon stale).pmr.firstHorizon = true)

/-- Seep takes granules in the order of their zones' ages, and every granule of age 0 to 3 once. -/
def Obligations.SeepOrder : Prop :=
  (∀ (s : State) (l : List Nat), (s.seepOrder l).Pairwise (fun g h => s.zoneAge (zoneOf g) ≤ s.zoneAge (zoneOf h))) ∧
  (∀ (s : State) (l : List Nat) (g : Nat), s.zoneAge (zoneOf g) ≤ 3 → (s.seepOrder l).count g = l.count g)

/-- UMBRA_UPDATE: a late update publishes nothing until the third in a row; one in time publishes. DEFICIT_EXIT ends a
deficit that the dirty bytes no longer show. ENDURANCE_FILL_COMPUTE sets the fill rate. ZONE_AGE_SWEEP takes one from every
age. ENERGY_INSUFFICIENT_ENTRY and _EXIT: condition 0x12 comes below the floor and goes at twice the floor. -/
def Obligations.UmbraRuns : Prop :=
  (∀ (ageMs : Nat) (s : State), s.domOn .ctrl = true → s.asleep = false → s.boot.running.isSome = true → s.umb.overruns < 2 →
    Runs (.umbraUpdate ageMs true) s fun t =>
      t.umb.overruns = s.umb.overruns + 1 ∧ t.umb.published = s.umb.published ∧
      t.Frame s [.umb] [Reg.UMB_THROTTLE_MS_COUNT, Reg.UMB_ENDUR_LEVEL_LEVEL]) ∧
  (∀ (ageMs : Nat) (s : State), s.domOn .ctrl = true → s.asleep = false → s.boot.running.isSome = true → 2 ≤ s.umb.overruns →
    s.deficit = true → Runs (.umbraUpdate ageMs true) s fun t =>
      t.get Reg.UMB_HORIZON_BYTES ≤ s.get Reg.UMB_HORIZON_BYTES ∧ t.flag Reg.UMB_STATUS_STALE = true ∧ t.umb.published = true) ∧
  (∀ (ageMs : Nat) (s : State), s.domOn .ctrl = true → s.asleep = false → s.boot.running.isSome = true →
    s.grt.formatted = false → s.grt.gc = none →
    Runs (.umbraUpdate ageMs false) s fun t => t.umb.overruns = 0 ∧ t.umb.published = true ∧ t.pmr.firstHorizon = true ∧
      t.umb.fillAt.isSome = true ∧ t.cache = s.cache) ∧
  (∀ s : State, s.deficit = true → s.dirtyBytes ≤ s.get Reg.UMB_HORIZON_BYTES →
    Runs .deficitExit s fun t => t.deficit = false ∧ t.Frame s [.umb] [Reg.UMB_STATUS_DEFICIT, Reg.UMB_SEEP_RATE_RATE,
      Reg.UMB_SEEP_RATE_MODE, Reg.UMB_STATUS_SEEP_BORROW]) ∧
  (∀ s : State, s.domOn .ctrl = true → s.asleep = false → s.boot.running.isSome = true →
    Runs .enduranceFillCompute s fun t => t.umb = { s.umb with fill := s.fillRate, fillAt := some s.secs } ∧
      t.get Reg.UMB_ENDUR_FILL_FILL = Nat.min (2 ^ 32 - 1) (s.fillRate / 1000) ∧
      t.Frame s [.umb] [Reg.UMB_ENDUR_FILL_FILL]) ∧
  (∀ s : State, s.domOn .ctrl = true → s.asleep = false →
    Runs .zoneAgeSweep s fun t => (∀ z a, (z, a) ∈ t.cache.ages ↔ a ≠ 0 ∧ (z, a + 1) ∈ s.cache.ages) ∧
      t.cache.grans = s.cache.grans ∧ t.cache.cells = s.cache.cells ∧ t.Frame s [.cache] []) ∧
  (∀ s : State, s.get Reg.UMB_HORIZON_BYTES < s.floorBytes → s.pmr.insuff = false →
    Runs .energyInsufficientEntry s fun t => t.pmr.insuff = true ∧ 0x12 ∈ t.pmr.conds) ∧
  (∀ s : State, s.pmr.insuff = true → 2 * s.floorBytes ≤ s.get Reg.UMB_HORIZON_BYTES →
    Runs .energyInsufficientExit s fun t => t.pmr.insuff = false ∧ 0x12 ∉ t.pmr.conds) ∧
  (∀ s : State, s.floorBytes ≤ s.get Reg.UMB_HORIZON_BYTES →
    Runs .energyInsufficientEntry s fun t => t.pmr = s.pmr ∧ t.regs = s.regs)

/-- SEEP_STRIPE_ISSUE: with a rate, a grant, room, and no burst of the DRAM in error, the granules that Seep would take first
enter the in-flight table under the next serial. SEEP_STRIPE_PROGRAMMED: an entry is released; its granule is clean and
Seeped unless the entry is stale. -/
def Obligations.SeepStripes : Prop :=
  (∀ (s : State) (b : Band) (i : Nat), s.InRun → s.vaulting = false → s.grt.formatted = true →
    s.flag Reg.SYS_STATUS_SAFE = false → s.cache.inflight.length + 60 ≤ 4096 → s.rehearsing = false →
    0 < s.umb.seepR → s.stagingRoom = true → s.dmc.errs = [] → s.seepList ≠ [] → s.targetOpen ≤ s.openBands.length →
    s.nextBandFor = some b →
    (s.grt.flights.filter (fun f => f.writer == .seep)).length < s.nSeep → s.freeGrant .seepStripe = some i →
    Runs .seepStripeIssue s fun t =>
      t.cache.inflight = s.cache.inflight ++
        (s.seepList.take (s.stripeRoom b)).map (fun g => InFlight.mk g false (s.get Reg.GRT_SERIAL_NEXT)) ∧
      t.grt.flights.length = s.grt.flights.length + 1 ∧ t.cache.cells = s.cache.cells ∧ t.cache.grans = s.cache.grans) ∧
  (∀ (s : State) (serial pos d k : Nat) (f : Flight) (v : GVer) (e : InFlight), s.umb.rehearsal = none →
    s.mapKnown (s.verGran v) = true →
    s.flightOf serial = some f → f.writer = .seep →
    f.stripe.serial = serial → f.waiting ≠ [] → f.done.contains pos = true → posPage serial pos = some d →
    f.stripe.pageVers d = [(k, v)] →
    s.cache.inflight.find? (fun x => x.gran == s.verGran v && x.serial == serial) = some e →
    Runs (.seepStripeProgrammed serial pos) s fun t =>
      e ∉ t.cache.inflight ∧ (t.ent (s.verGran v)).loc = some (serial, d, k) ∧
      (e.stale = false → (t.gran (s.verGran v)).dirty = false ∧ (t.gran (s.verGran v)).seeped = true) ∧
      (e.stale = true → t.gran (s.verGran v) = s.gran (s.verGran v)) ∧ t.Frame s [.cache, .grt] [])

/-- REHEARSAL_AUTO_TRIGGER starts a rehearsal that is wanted and may run, with HOLD_EN asserted and leave under the vault budget,
and keeps one that may not run wanted. REHEARSAL_WINDOW_END ends it, with the outcome of R91, once no stripe of it is in flight;
a first rejection in a row leaves the results as they were. -/
def Obligations.Rehearsals : Prop :=
  (∀ s : State, s.InRun → s.umb.wanted = true → s.rehMay = true →
    Runs .rehearsalAutoTrigger s fun t => t.umb.rehearsal = some ⟨false, 0, false, none⟩ ∧ t.umb.wanted = false ∧ t.pins.hold = true ∧
      t.flag Reg.PWR_LEAVE_QUEUE_VAULT = true ∧ t.cache = s.cache) ∧
  (∀ s : State, s.rehInterval = true → s.rehMay = false →
    Runs .rehearsalAutoTrigger s fun t => t.umb = { s.umb with wanted := true } ∧ t.Frame s [.umb] []) ∧
  (∀ (s : State) (h : Rehearsal) (c : Bool), s.umb.rehearsal = some h → s.vaulting = false → s.rehInFlight = true →
    Runs (.rehearsalWindowEnd c) s fun t => t.umb.rehearsal = some { h with ending := some (h.ending.getD c) } ∧
      t.Frame s [.umb] []) ∧
  (∀ (s : State) (h : Rehearsal), s.umb.rehearsal = some h → s.vaulting = false → s.rehInFlight = false →
    s.umb.lastRej = none → h.failed = true →
    Runs (.rehearsalWindowEnd true) s fun t => t.umb.rehearsal = none ∧ t.umb.results = s.umb.results ∧ t.umb.wanted = true ∧
      t.get Reg.UMB_REH_INFO_OUTCOME = 3 ∧ t.pins.hold = false ∧ t.flag Reg.PWR_LEAVE_QUEUE_VAULT = false ∧ t.cache = s.cache) ∧
  (∀ (s : State) (h : Rehearsal), s.umb.rehearsal = some h → s.vaulting = false → s.rehInFlight = false →
    s.umb.lastRej = none → h.failed = false → h.ending = none →
    Runs (.rehearsalWindowEnd false) s fun t => t.umb.rehearsal = none ∧ t.umb.results = s.umb.results ∧ t.umb.wanted = true ∧
      t.get Reg.UMB_REH_INFO_OUTCOME = 2 ∧ t.pins.hold = false ∧ t.cache = s.cache)

/-! ## Flash -/

/-- READ, READ_HEADER, PROGRAM, ERASE, ERASED_CHECK, RESET_LUN, GET_FEATURE, SET_FEATURE and READ_RAW: a descriptor that
passes the checks waits on its LUN's queue behind the others, or in its ring while earlier ones wait there; one that does not
completes at once with the status of the first check that it fails. An ERASE of a Grotto block stages its ERASE_START entry
(R163). -/
def Obligations.FlashSubmits : Prop :=
  ∀ row ∈ ([(.read, 1), (.readHeader, 2), (.program, 3), (.erase, 4), (.erasedCheck, 5), (.resetLun, 6), (.getFeature, 7),
      (.setFeature, 8), (.readRaw, 9)] : List ((Desc → Instr) × Nat)), ∀ (d : Desc) (s : State),
    (s.InRun → s.takesDesc { d with op := row.2 } → s.ringHeld d.ring = [] → (s.lun d.lun).park = [] →
      (s.lun d.lun).slots < 16 →
      Runs (row.1 d) s fun t => (t.lun d.lun).queue = (s.lun d.lun).queue ++ [{ d with op := row.2 }] ∧
        t.flc.compl = s.flc.compl ∧ (row.2 = 4 → d.area = 0 → t.grt.startStaged d.lun d.block = true) ∧
        (row.2 ≠ 4 → t.grt = s.grt) ∧ t.Frame s [.flc, .grt] [Reg.FLC_INFLIGHT_PEAK]) ∧
    (s.InRun → s.takesDesc { d with op := row.2 } → s.ringHeld d.ring ≠ [] → (s.ringHeld d.ring).length < 1024 →
      Runs (row.1 d) s fun t => t.ringHeld d.ring = s.ringHeld d.ring ++ [{ d with op := row.2 }] ∧
        t.flc.compl = s.flc.compl ∧ t.Frame s [.flc, .grt] []) ∧
    (Desc.bad { d with op := row.2 } = true →
      Runs (row.1 d) s fun t => t.flc = (s.completePlain { d with op := row.2 } fsBadDesc).flc ∧ t.Frame s [.flc] []) ∧
    (Desc.bad { d with op := row.2 } = false → s.ringRight { d with op := row.2 } = false →
      Runs (row.1 d) s fun t => t.flc = (s.completePlain { d with op := row.2 } fsArea).flc ∧ t.Frame s [.flc] []) ∧
    (Desc.bad { d with op := row.2 } = false → s.ringRight { d with op := row.2 } = true →
      s.slcRight { d with op := row.2 } = true → s.blockThere { d with op := row.2 } = true →
      s.lunRefuses { d with op := row.2 } = true →
      Runs (row.1 d) s fun t => t.flc = (s.completePlain { d with op := row.2 } fsLunOut).flc ∧ t.Frame s [.flc] [])

/-- FLASH_DESCRIPTOR_ISSUE runs the first descriptor of the issue order that the LUN takes, with the SLC prefix that R182
asks for; an erase whose ERASE_START entry is not on flash waits (R163). FLASH_SUSPEND stops a background program or erase
for a waiting read of class 2. -/
def Obligations.FlashIssues : Prop :=
  (∀ (lun : Nat) (aged : List Nat) (d : Desc) (s : State),
    (s.issueOrder (s.lun lun) aged).find? (fun e => s.lunTakes (s.lun lun) e && s.orderOk (s.lun lun) e) = some d →
    d.lun = lun → d.writes = false → s.aboveWp d = false →
    Runs (.flashDescriptorIssue lun aged) s fun t => (t.lun lun).running = some ⟨d, 0, 0, false, false, false⟩ ∧
      t.out = s.out ++ s.slcPrefix d ++ [.flash lun d.op d.block d.page] ∧ t.Frame s [.flc] [Reg.FLC_INFLIGHT_PEAK]) ∧
  (∀ (lun : Nat) (aged : List Nat) (d : Desc) (s : State),
    (s.issueOrder (s.lun lun) aged).find? (fun e => s.lunTakes (s.lun lun) e && s.orderOk (s.lun lun) e) = some d →
    s.waitsJournal d = true → s.vaulting = false →
    Runs (.flashDescriptorIssue lun aged) s fun t => t.flc = s.flc ∧ t.out = s.out ∧ t.regs = s.regs) ∧
  (∀ (lun : Nat) (r : FRun) (s : State), (s.lun lun).running = some r → (s.lun lun).suspended = none → r.desc.writes = true →
    6 ≤ r.desc.cls → r.desc.noSusp = false → ((s.lun lun).queue.filter Desc.suspender).any (fun d => d.cls == 2) = true →
    Runs (.flashSuspend lun) s fun t => (t.lun lun).running = none ∧
      (t.lun lun).suspended = some { r with susp := r.susp + 1, wasSusp := true } ∧
      (t.lun lun).queue = (s.lun lun).queue ∧ t.Frame s [.flc] []) ∧
  (∀ (lun : Nat) (r : FRun) (s : State), (s.lun lun).running = some r → r.desc.cls < 6 →
    Runs (.flashSuspend lun) s fun t => t.flc = s.flc ∧ t.regs = s.regs)

/-- FLASH_OP_COMPLETE: a read that decodes at level 0 moves its codewords to the buffers and ends with SUCCESS and its completion
entry. FLASH_OP_TIMEOUT: a read is issued once more after the reset. -/
def Obligations.FlashEnds : Prop :=
  (∀ (lun best bits zeros us : Nat) (fail : Bool) (r : FRun) (s : State), (s.lun lun).running = some r → r.desc.lun = lun →
    r.desc.op = opRead → r.grant = 0 → bits ≤ s.get Reg.FLC_LDPC_CFG_REFRESH_BITS →
    Runs (.flashOpComplete lun fail 0 best bits 0 0 zeros us) s fun t => (t.lun lun).running = none ∧
      t.out = s.out ++ s.readMoves r.desc ∧
      t.flc.compl = s.flc.compl ++ [⟨r.desc.tag, fsSuccess, 0, Nat.min 255 bits, r.cflags false false, 0,
        Nat.min 65535 zeros, us⟩] ∧ t.flc.doneTags = s.flc.doneTags ++ [r.desc.tag] ∧
      t.Frame s [.flc] [Reg.FLC_INFLIGHT_PEAK]) ∧
  (∀ (lun : Nat) (r : FRun) (s : State), (s.lun lun).running = some r → (s.lun lun).suspended = none → r.desc.reads = true →
    r.retried = false → s.vaulting = false → s.get Reg.FLC_IF_CFG_IFACE = 0 →
    ((s.lun lun).timeouts.length + 1 < s.get Reg.FLC_TIMEOUT_CFG_LIMIT) →
    Runs (.flashOpTimeout lun true) s fun t => (t.lun lun).running = some { r with retried := true, wasReset := true } ∧
      (t.lun lun).timeouts = (s.lun lun).timeouts ++ [s.secs] ∧ t.flc.compl = s.flc.compl ∧
      t.Frame s [.flc] [Reg.FLC_CNT_TIMEOUT_COUNT])

/-- FOREIGN_QUEUE_WRITE counts and records a write that is not CP3's, and nothing else. CHANNEL_FAULT retrains a channel
whose last fault is not of this minute. -/
def Obligations.FlashFaults : Prop :=
  (∀ (r : Requester) (ch : Nat) (s : State), r ≠ .cp3 →
    Runs (.foreignQueueWrite r ch) s fun t => t.get Reg.FLC_FOREIGN_COUNT = satAdd (2 ^ 32 - 1) (s.get Reg.FLC_FOREIGN_COUNT) 1 ∧
      t.flag Reg.FLC_STATUS_FOREIGN_EV = true ∧ t.Frame s [] [Reg.FLC_FOREIGN_COUNT, Reg.FLC_STATUS_FOREIGN_EV]) ∧
  (∀ (ch : Nat) (s : State), Runs (.foreignQueueWrite .cp3 ch) s fun t => t.Frame s [] [] ∧ t.out = s.out) ∧
  (∀ (ch : Nat) (s : State), ch < 16 → s.get (Reg.FLC_CHn_STATUS_STATE ch) ≠ 0 → s.get (Reg.FLC_CHn_STATUS_STATE ch) ≠ 3 →
    s.vaulting = false → lget s.flc.lastFault ch none = none →
    Runs (.channelFault ch true) s fun t => t.flag Reg.FLC_STATUS_CH_EV = true ∧
      t.get (Reg.FLC_CHn_STATUS_RETRAINS ch) = satAdd 255 (s.get (Reg.FLC_CHn_STATUS_RETRAINS ch)) 1 ∧
      t.flc.luns = s.flc.luns ∧ t.Frame s [.flc] [Reg.FLC_STATUS_CH_EV, Reg.FLC_CHn_STATUS_RETRAINS ch])

/-! ## Grotto -/

/-- A data page of a stripe stands beside the XOR page at serial mod 16, and a payload lays its versions out in order, four
to each page that carries content. -/
def Obligations.StripeLayout : Prop :=
  (∀ n d : Nat, d < 15 → pagePos n d < 16 ∧ pagePos n d ≠ n % 16 ∧ posPage n (pagePos n d) = some d) ∧
  (∀ (n : Nat) (layout : List Nat) (vs : List GVer), vs.length ≤ 4 * (usablePages n layout).length →
    (dataPayload vs n layout).vers = vs) ∧
  (∀ (n : Nat) (layout : List Nat) (vs : List GVer) (slots : List (Option GVer)),
    dataPayload vs n layout = .data slots → slots.length = 60)

/-- FORMAT_ARMED_EXPIRY disarms. JOURNAL_FLUSH_TIMER moves up to 1,021 staged entries into the journal in order, where a record
channel takes the page; what a new record block stages meanwhile comes last. GC_STRIPE_PROGRAMMED: a map entry that still names
the old slot of the victim names the copy; one that Seep has moved is left alone. GC_ERASE_DONE: the victim and its stripes
leave the log. Both are shown at a trip, when GC takes no further step. -/
def Obligations.GrottoWork : Prop :=
  (∀ s : State, Runs .formatArmedExpiry s fun t => t.flag Reg.GRT_STATUS_FORMAT_ARMED = false ∧
    t.Frame s [] [Reg.GRT_STATUS_FORMAT_ARMED]) ∧
  (∀ s : State, s.grt.formatted = true → s.grt.staged ≠ [] → s.flag Reg.SYS_STATUS_SAFE = false → s.grt.gc = none →
    s.takesJournal → Runs .journalFlushTimer s fun t => s.grt.recSeq < t.grt.recSeq ∧
      (∃ l, t.grt.journal ++ t.grt.staged = s.grt.journal ++ s.grt.staged ++ l ∧
        t.grt.staged = s.grt.staged.drop 1021 ++ l) ∧ t.Frame s [.grt] []) ∧
  (∀ (serial d k : Nat) (f : Flight) (v w : GVer) (g : Gc) (l : Nat × Nat × Nat) (old : Stripe) (s : State),
    s.flightOf serial = some f → f.writer = .gc → f.waiting = [] → f.failed = [] → s.mapKnown (s.verGran v) = true →
    s.vaulting = true → s.grt.gc = some g → d < 15 →
    (∀ e, e < 15 → e ≠ d → f.stripe.pageVers e = []) → f.stripe.pageVers d = [(k, v)] →
    (s.ent (s.verGran v)).loc = some l → s.stripeOf l.1 = some old → s.verAt l = some w →
    Runs (.gcStripeProgrammed serial) s fun t => t.flightOf serial = none ∧
      (old.band = g.victim → w.seq = v.seq → (t.ent (s.verGran v)).loc = some (serial, d, k)) ∧
      (old.band ≠ g.victim → t.cache = s.cache) ∧ t.cache.cells = s.cache.cells ∧ t.cache.grans = s.cache.grans) ∧
  (∀ (g : Gc) (s : State), s.grt.gc = some g → g.stage = 2 → s.erasePending g = false → s.vaulting = true →
    (∀ n, s.evacuating n = false) →
    Runs .gcEraseDone s fun t => t.grt.gc = none ∧ t.grt.gcCount = s.grt.gcCount + 1 ∧
      t.grt.bands = s.grt.bands.filter (fun b => b.num != g.victim) ∧
      t.grt.stripes = s.grt.stripes.filter (fun x => x.band != g.victim) ∧ t.cache = s.cache)


/-! ## DRAM -/

/-- No two bursts of the cache share a place in the DRAM: within the address width that the fields of R226 make up, the fields of
R226 and R227 give back the burst. -/
def Obligations.DramMapInjective : Prop :=
  ∀ (s : State) (a b : Nat), a < 2 ^ (19 + s.chWidth + s.rkWidth + s.rowWidth) → b < 2 ^ (19 + s.chWidth + s.rkWidth + s.rowWidth) →
    s.dramAddr a = s.dramAddr b → a / 64 = b / 64

/-- The bytes of the DRAM: a store is read back whole; a store under byte enables changes exactly the enabled bytes; a number's
little-endian bytes spell it. -/
def Obligations.MemoryLaws : Prop :=
  (∀ (m : List Host.Cell) (a : Nat) (bs : List Byte), loadBytes (storeBytes m a bs) a bs.length = bs) ∧
  (∀ (m : List Host.Cell) (a i : Nat) (bs : List Byte) (be : List Bool) (v : Byte), bs[i]? = some v → be[i]? = some true →
    loadByte (storeEnabled m a bs be) (a + i) = v) ∧
  (∀ (m : List Host.Cell) (a x : Nat) (bs : List Byte) (be : List Bool), x < a ∨ be.getD (x - a) false = false →
    loadByte (storeEnabled m a bs be) x = loadByte m x) ∧
  (∀ v n : Nat, leNat (natLe v n) = v % 2 ^ (8 * n))

/-- The symbol code corrects any error in one symbol of a beat and names its position; it lets no error in one symbol pass as
clean. DRAM_REQUEST: a read of one burst takes its place in the pool when its port has room and nothing before it, and waits
at its port otherwise; a frozen channel takes none, nor does one of a port that may not submit, or beyond the cache.
DRAM_COMMAND_SLOT: a lone read of an open row is issued. -/
def Obligations.DramRequests : Prop :=
  (∀ p e : Nat, p < 10 → 0 < e → e < 16 → decodeBeat (e * 2 ^ (4 * p)) = .corrected p e) ∧
  (∀ (p : DPort) (addr len ns : Nat) (s : State), addr + len ≤ s.capBytes → 0 < len → addr % 64 + len ≤ 64 →
    s.domOn .dram = true → s.submits p = true → s.chFrozen (s.dramAddr (addr / 64 * 64)).ch = false →
    s.dmc.waiting.any (fun w => w.port == p) = false → s.poolRoom p = true →
    Runs (.dramRequest p false addr len ns) s fun t =>
      t.dmc.pool = s.dmc.pool ++ [⟨p, .read, addr / 64, s.dramAddr (addr / 64 * 64), s.dmc.nextId, ns⟩] ∧
      t.dmc.waiting = s.dmc.waiting ∧ t.Frame s [.dmc] [Reg.DMC_INORDER_CNT_COUNT]) ∧
  (∀ (p : DPort) (addr len ns : Nat) (s : State), addr + len ≤ s.capBytes → 0 < len → addr % 64 + len ≤ 64 →
    s.domOn .dram = true → s.submits p = true → s.chFrozen (s.dramAddr (addr / 64 * 64)).ch = false → s.poolRoom p = false →
    Runs (.dramRequest p false addr len ns) s fun t =>
      t.dmc.waiting = s.dmc.waiting ++ [⟨p, .read, addr / 64, s.dramAddr (addr / 64 * 64), s.dmc.nextId, ns⟩] ∧
      t.dmc.pool = s.dmc.pool ∧ t.Frame s [.dmc] []) ∧
  (∀ (p : DPort) (addr len ns : Nat) (s : State), addr % 64 + len ≤ 64 →
    s.chFrozen (s.dramAddr (addr / 64 * 64)).ch = true →
    Runs (.dramRequest p false addr len ns) s fun t => t.Frame s [] []) ∧
  (∀ (p : DPort) (write : Bool) (addr len ns : Nat) (s : State), s.submits p = false ∨ s.capBytes < addr + len →
    Runs (.dramRequest p write addr len ns) s fun t => t.Frame s [] []) ∧
  (∀ (sub ns dump rest : Nat) (forbid : List Nat) (r : DReq) (s : State), s.domOn .dram = true → s.dmc.panicDir = 0 →
    s.vaulting = false → s.rehearsing = false → s.pmr.st ≠ .restoring → s.restRemain = 0 → s.dmc.pool = [r] →
    s.dmc.waiting = [] → s.dmc.rewrites = [] → r.kind = .read → r.dst.subKey = sub → 0 < s.get Reg.DMC_SCHED_CFG_WR_HI →
    (s.bank r.dst.bankKey).openRow = some r.dst.row → (s.bank r.dst.bankKey).inOrder = [] → mget s.dmc.errs r.burst = none →
    Runs (.dramCommandSlot sub ns dump rest forbid []) s fun t => t.dmc.pool = [] ∧
      t.out = s.out ++ [.dram sub 2 r.dst.rk (r.dst.bankKey % 32) r.dst.col] ∧ t.Frame s [.dmc] [])

/-- ROW_IDLE_CLOSE, REFRESH_DUE, REFRESH_CATCHUP, RANK_POWER_DOWN and MR4_POLL: an idle row closes; a refresh closes every row, is
postponed under panic, at most four times, and is made up for after it; an idle rank powers down; a hot device doubles the rate.
-/
def Obligations.DramUpkeep : Prop :=
  (∀ (k row : Nat) (s : State), (s.bank k).openRow = some row → (s.dmc.bankReqs k).any (fun r => r.dst.row == row) = false →
    Runs (.rowIdleClose k) s fun t => (t.bank k).openRow = none ∧ (∀ j, j ≠ k → t.bank j = s.bank j) ∧ t.dmc.pool = s.dmc.pool ∧
      t.Frame s [.dmc] []) ∧
  (∀ (k row : Nat) (s : State), (s.bank k).openRow = some row → (s.dmc.bankReqs k).any (fun r => r.dst.row == row) = true →
    Runs (.rowIdleClose k) s fun t => t.Frame s [] []) ∧
  (∀ s : State, s.domOn .dram = true → s.dmc.panicDir = 0 →
    Runs .refreshDue s fun t => (∀ k, (t.bank k).openRow = none ∧ ∀ c, (t.sub c).pdown = []) ∧
      ((∀ r ∈ s.dmc.pool, r.kind ≠ .mergedWrite) → t.dmc.pool = s.dmc.pool) ∧ t.Frame s [.dmc] [Reg.DMC_ECC_CTRL_INJ_MODE]) ∧
  (∀ s : State, s.domOn .dram = true → s.dmc.panicDir ≠ 0 → s.get Reg.DMC_REF_STATUS_OWED < 4 →
    Runs .refreshDue s fun t => t.get Reg.DMC_REF_STATUS_OWED = s.get Reg.DMC_REF_STATUS_OWED + 1 ∧
      t.Frame s [] [Reg.DMC_REF_STATUS_OWED, Reg.DMC_REF_STATUS_POSTPONED_MAX]) ∧
  (∀ s : State, s.domOn .dram = true → s.dmc.panicDir ≠ 0 → 4 ≤ s.get Reg.DMC_REF_STATUS_OWED →
    Runs .refreshDue s fun t => (∀ k, (t.bank k).openRow = none) ∧ t.flag Reg.DMC_STATUS_FORCED_EV = true ∧
      t.get Reg.DMC_REF_STATUS_FORCED = satAdd 65535 (s.get Reg.DMC_REF_STATUS_FORCED) 1) ∧
  (∀ s : State, s.domOn .dram = true → s.dmc.panicDir = 0 → 0 < s.get Reg.DMC_REF_STATUS_OWED → s.get Reg.DMC_REF_STATUS_OWED < 8 →
    Runs .refreshCatchup s fun t => t.get Reg.DMC_REF_STATUS_OWED + 1 = s.get Reg.DMC_REF_STATUS_OWED ∧
      (∀ k, (t.bank k).openRow = none) ∧ t.Frame s [.dmc] [Reg.DMC_REF_STATUS_OWED, Reg.DMC_ECC_CTRL_INJ_MODE]) ∧
  (∀ (sub rank : Nat) (s : State), s.get Reg.DMC_PWR_CFG_PD_IDLE ≠ 0 → s.vaulting = false → s.rehearsing = false →
    s.dmc.pool.any (fun r => r.dst.subKey == sub && r.dst.rk == rank) = false → (s.sub sub).pdown.contains rank = false →
    Runs (.rankPowerDown sub rank) s fun t => (t.sub sub).pdown = (s.sub sub).pdown ++ [rank] ∧
      (∀ k, k / 32 = sub * 2 + rank → (t.bank k).openRow = none) ∧ t.dmc.pool = s.dmc.pool ∧ t.Frame s [.dmc] []) ∧
  (∀ (above : Bool) (s : State), s.domOn .dram = true →
    Runs (.mr4Poll true above) s fun t => t.flag Reg.DMC_STATUS_REF_2X = true ∧ t.dmc.mr4Normal = 0 ∧
      t.Frame s [.dmc] [Reg.DMC_STATUS_REF_2X]) ∧
  (∀ s : State, s.domOn .dram = true → 15 ≤ s.dmc.mr4Normal →
    Runs (.mr4Poll false false) s fun t => t.flag Reg.DMC_STATUS_REF_2X = false ∧ t.Frame s [.dmc] [Reg.DMC_STATUS_REF_2X])

/-- POSITION_LEAK, SCRUB_STEP, RH_WINDOW_END, TRAINING_TRACK and DRAM_CLOCK_CHANGE. -/
def Obligations.DramBackground : Prop :=
  (∀ (k : Nat) (q : Position) (s : State), mget s.dmc.pos k = some q →
    Runs (.positionLeak k) s fun t => mget t.dmc.pos k = some { q with bucket := q.bucket - 1 } ∧
      (∀ j, j ≠ k → mget t.dmc.pos j = mget s.dmc.pos j) ∧ t.Frame s [.dmc] []) ∧
  (∀ (ns b : Nat) (s : State), s.flag Reg.DMC_SCRUB_CFG_EN = true → s.vaulting = false → s.rehearsing = false →
    s.dmc.panicDir = 0 → s.domOn .dram = true → s.scrubNext s.dmc.scrubAt = some b →
    Runs (.scrubStep ns) s fun t => t.dmc.scrubAt = b + 1 ∧ t.cache = s.cache) ∧
  (∀ (ns : Nat) (s : State), s.flag Reg.DMC_SCRUB_CFG_EN = true → s.vaulting = false → s.rehearsing = false →
    s.dmc.panicDir = 0 → s.domOn .dram = true → s.scrubNext s.dmc.scrubAt = none →
    Runs (.scrubStep ns) s fun t => t.dmc.scrubAt = 0 ∧ t.get Reg.DMC_SCRUB_STATUS_PCT = 0 ∧
      t.get Reg.DMC_SCRUB_STATUS_PASSES = satAdd 65535 (s.get Reg.DMC_SCRUB_STATUS_PASSES) 1) ∧
  (∀ s : State, Runs .rhWindowEnd s fun t =>
    (∀ k, (t.bank k).acts = [] ∧ (t.bank k).spill = 0 ∧ (t.bank k).throttled = [] ∧ (t.bank k).openRow = (s.bank k).openRow) ∧
      t.get Reg.DMC_RH_STATUS_ACTIVE = 0 ∧ t.Frame s [.dmc] [Reg.DMC_RH_STATUS_ACTIVE]) ∧
  (∀ (sub drift : Nat) (s : State), s.domOn .dram = true → s.dmc.clockWait = none → s.vaulting = false →
    s.chFrozen (sub / 2) = false → s.setFor s.dmc.setsAon s.dramRate = none →
    Runs (.trainingTrack sub drift) s fun t => t.dmc = { s.dmc with drift := drift } ∧ t.Frame s [.dmc] []) ∧
  (∀ (sub drift : Nat) (s : State), s.domOn .dram = true → s.dmc.clockWait = none → s.vaulting = false →
    s.chFrozen (sub / 2) = false → (s.setFor s.dmc.setsAon s.dramRate).isSome = true → drift ≤ 2 →
    Runs (.trainingTrack sub drift) s fun t => t.dmc.drift = drift ∧ t.dmc.trainNor = s.dmc.trainNor ∧
      t.dmc.norAt = s.dmc.norAt ∧ (t.setFor t.dmc.setsAon s.dramRate).isSome = true ∧
      (drift = s.dmc.drift → t.setFor t.dmc.setsAon s.dramRate = s.setFor s.dmc.setsAon s.dramRate) ∧ t.Frame s [.dmc] []) ∧
  (∀ (sub drift : Nat) (s : State), s.domOn .dram = true → s.dmc.clockWait = none → s.vaulting = false →
    s.chFrozen (sub / 2) = false → (s.setFor s.dmc.setsAon s.dramRate).isSome = true → 2 < drift → s.dmc.norAt = none →
    Runs (.trainingTrack sub drift) s fun t => t.dmc.drift = 0 ∧ t.dmc.norAt = some s.secs ∧
      (∃ new, t.setFor t.dmc.setsAon s.dramRate = some new ∧ t.dmc.trainNor = s.dmc.trainNor.write (addSet s.dmc.setsNor new)) ∧
      t.Frame s [.dmc] []) ∧
  (∀ (rate : Nat) (s : State), s.domOn .dram = true → s.dmc.panicDir = 0 → s.get Reg.DMC_REF_STATUS_OWED = 0 →
    s.vaulting = false → s.get Reg.DMC_TRN_STATUS_WINDOW = 0 → rate % 4 ≤ 2 →
    (s.setFor s.dmc.setsAon (rate % 4)).isSome = true →
    Runs (.dramClockChange rate) s fun t => t.get Reg.CLK_BRANCH_DRAM_DIV = 2 - rate % 4 ∧ t.get Reg.DMC_GEOM_RATE = rate % 4 ∧
      t.dmc.clockWait = none ∧ (∀ k, (t.bank k).openRow = none) ∧
      t.Frame s [.dmc] [Reg.CLK_BRANCH_DRAM_DIV, Reg.DMC_GEOM_RATE, Reg.DMC_ECC_CTRL_INJ_MODE]) ∧
  (∀ (rate : Nat) (s : State), s.domOn .dram = true → s.vaulting = true → rate % 4 ≤ 2 →
    Runs (.dramClockChange rate) s fun t => t.dmc = { s.dmc with clockWait := some (rate % 4) } ∧
      t.Frame s [.dmc] [Reg.DMC_TRN_STATUS_DEFERS])

/-! ## Echo -/

/-- ECHO_LINK_UP, ECHO_TRAIN_RETRY, ECHO_TRAINING_ATTEMPT_FAILED and ECHO_LINK_LOSS. The link layer: a frame out of sequence
or with a wrong tag is answered with a NAK and not taken, those that follow are discarded until the one named comes; a
malformed one is misbehaviour 9. -/
def Obligations.EchoLink : Prop :=
  (∀ (rate width : Nat) (s : State), s.domOn .echo = true → s.pair = true → s.echoState = eDown →
    s.echoRate (rate % 4) (width % 4) = true →
    Runs (.echoLinkUp rate width) s fun t => t.echoState = ePairing ∧ t.flag Reg.ECH_LINK_UP = true ∧
      t.get Reg.ECH_LINK_RATE = rate % 4 ∧ t.get Reg.ECH_LINK_WIDTH = width % 4 ∧ t.ech.failsRow = 0 ∧
      t.askedOp .phyEcho = false ∧ t.cache = s.cache) ∧
  (∀ (rate width : Nat) (s : State), s.echoRate (rate % 4) (width % 4) = false →
    Runs (.echoLinkUp rate width) s fun t => t.Frame s [] []) ∧
  (∀ s : State, s.domOn .echo = true → s.pair = true → s.echoState = eDown → s.askedOp .phyEcho = false →
    s.leaveCost .phyEcho ≤ s.leaveBudget - s.get Reg.PWR_LEAVE_BUDGET_BASE_MW → (∀ l ∈ s.broker.queue, l.id ≠ s.broker.nextId) →
    Runs .echoTrainRetry s fun t => t.askedOp .phyEcho = true ∧
      t.get Reg.ECH_LINK_RETRAINS = satAdd 65535 (s.get Reg.ECH_LINK_RETRAINS) 1 ∧
      t.Frame s [.broker] [Reg.ECH_LINK_RETRAINS]) ∧
  (∀ s : State, s.askedOp .phyEcho = true →
    s.cache.map.any (fun e => e.2.st == .remote || (e.2.st == .fetching && e.2.fromPeer)) = false →
    Runs .echoTrainingAttemptFailed s fun t => t.askedOp .phyEcho = false ∧
      t.ech = { s.ech with failsRow := s.ech.failsRow + 1 } ∧ t.Frame s [.broker, .ech] []) ∧
  (∀ s : State, s.canRejoin = false → s.flag Reg.ECH_LINK_UP = true →
    Runs .echoLinkLoss s fun t => t.echoState = eDown ∧ t.flag Reg.ECH_LINK_UP = false) ∧
  (∀ s : State, s.canRejoin = true → Runs .echoLinkLoss s fun t => t.Frame s [] []) ∧
  (∀ (s : State) (rx : Rx) (ty flags arg len : Nat) (act : State → State), s.sessionUp = true →
    rx.lseq ≠ s.ech.expSeq % 2 ^ 32 ∨ rx.tagOk = false →
    s.ech.discarding = false ∨ rx.lseq = s.ech.expSeq % 2 ^ 32 →
    (s.rxFrame rx ty flags arg len act).ech.expSeq = s.ech.expSeq ∧
      (s.rxFrame rx ty flags arg len act).ech.ctlSent = s.ech.ctlSent + 1 ∧
      (s.rxFrame rx ty flags arg len act).ech.discarding = true ∧
      (s.rxFrame rx ty flags arg len act).Frame s [.ech] [Reg.ECH_CNT_NAK_COUNT]) ∧
  (∀ (s : State) (rx : Rx) (ty flags arg len : Nat) (act : State → State), s.ech.discarding = true →
    rx.lseq ≠ s.ech.expSeq % 2 ^ 32 → s.rxFrame rx ty flags arg len act = s) ∧
  (∀ (s : State) (rx : Rx) (ty flags arg len : Nat) (act : State → State), s.sessionUp = true →
    rx.lseq = s.ech.expSeq % 2 ^ 32 → rx.tagOk = true → rx.malformed = true →
    (s.rxFrame rx ty flags arg len act).echoState = eHeld ∧
      (s.rxFrame rx ty flags arg len act).get Reg.ECH_MISB_LAST_CODE = 9) ∧
  (∀ (s : State) (rx : Rx) (ty flags arg len : Nat) (act : State → State), s.sessionUp = false →
    s.rxFrame rx ty flags arg len act = s)

/-- HELLO and PROOF: a HELLO in PAIRING is kept and answered with a PROOF; a malformed one is misbehaviour 9; a PROOF that
does not verify refuses the peer; with both and every check of R297 passed, the peers are in SYNC with the session number
above both. -/
def Obligations.EchoPairs : Prop :=
  (∀ (nonce proto owner stepping cap uid pairId session : Nat) (resume : Bool) (s : State), s.Pairing → s.ech.hello = none →
    s.ech.proofOk = false →
    Runs (.hello false nonce proto owner stepping resume cap uid pairId session) s fun t =>
      t.ech.hello = some ⟨nonce, proto, owner, stepping, resume, cap, uid, pairId, session⟩ ∧ t.echoState = ePairing ∧
      t.Frame s [.ech] [Reg.ECH_PEER_STEPPING, Reg.ECH_PEER_OWNER, Reg.ECH_PEER_CAP_GIB]) ∧
  (∀ (nonce proto owner stepping cap uid pairId session : Nat) (resume : Bool) (s : State), s.Pairing → s.ech.hello = none →
    Runs (.hello true nonce proto owner stepping resume cap uid pairId session) s fun t =>
      t.echoState = eHeld ∧ t.get Reg.ECH_MISB_LAST_CODE = 9) ∧
  (∀ s : State, s.Pairing → Runs (.proof false false) s fun t => t.echoState = eRefused ∧ t.flag Reg.ECH_LINK_UP = false) ∧
  (∀ s : State, s.Pairing → s.ech.hello = none →
    Runs (.proof false true) s fun t => t.ech = { s.ech with proofOk := true } ∧ t.Frame s [.ech] []) ∧
  (∀ (h : Hello) (i : Image) (s : State), s.Pairing → s.ech.hello = some h → s.boot.running = some i → h.pairId = i.pairId →
    h.proto = 1 → h.owner ≠ s.owner.idx → h.cap = s.capGiB → s.ech.peerId = some h.uid → h.resume = false →
    s.ech.resume = false → s.ech.vinfoPeer = none →
    Runs (.proof false true) s fun t => t.echoState = eSync ∧ t.ech.session = Nat.max s.ech.session h.session + 1 ∧
      t.ech.peerId = some h.uid ∧ t.cache = s.cache)

/-- MWR: the next mirror write is stored with its sequence and the epoch of its stream, and its granule is dirty. One out of
sequence is misbehaviour 1, behind writes that wait for the merge queue it waits too; one outside the region is misbehaviour 2.
-/
def Obligations.MirrorWrites : Prop :=
  (∀ (rx : Rx) (off low epoch g : Nat) (data : List Byte) (be : List Bool) (s : State), s.Accepts rx → s.streaming = true →
    s.vaulting = false → s.ech.peerEpoch = some epoch → s.ech.restart = false → s.ech.expWrite < 2 ^ 64 →
    inferSeq (s.ech.expWrite - 1) (low % 2 ^ 24) = s.ech.expWrite →
    off + data.length ≤ s.ownGrans * 4096 → off % 4096 + data.length ≤ 4096 → g = s.granOf s.owner.other (off / 4096) →
    s.granFrozen g = false → (s.gran g).dirty = true → (s.ent g).st = .copied → mget s.pmr.poison g = none →
    s.dramClean = true → s.ech.mwrWait = [] → s.ech.pendAck < 63 → s.ech.fwdIn = [] →
    Runs (.mwr rx off low data be) s fun t => t.get Reg.ECH_SEQ_STORED_SEQ = s.ech.expWrite ∧
      t.ech.expWrite = s.ech.expWrite + 1 ∧ t.ech.pendAck = s.ech.pendAck + 1 ∧ t.pmr.peerEpoch = epoch ∧
      t.cache.cells = storeEnabled s.cache.cells (g * 4096 + off % 4096) data be ∧ (t.gran g).dirty = true ∧
      (t.gran g).seq = s.ech.expWrite ∧ (t.gran g).epoch = epoch ∧
      t.Frame s [.ech, .pmr, .cache, .pwr] [Reg.ECH_SEQ_STORED_SEQ, Reg.PWR_STATUS_RETRY]) ∧
  (∀ (rx : Rx) (off low epoch : Nat) (data : List Byte) (be : List Bool) (w : MirWrite) (ws : List MirWrite) (s : State),
    s.Accepts rx → s.streaming = true → s.vaulting = false → s.ech.peerEpoch = some epoch → s.ech.restart = false →
    inferSeq (s.ech.expWrite - 1) (low % 2 ^ 24) = s.ech.expWrite →
    off + data.length ≤ s.ownGrans * 4096 → off % 4096 + data.length ≤ 4096 → s.ech.mwrWait = w :: ws →
    Runs (.mwr rx off low data be) s fun t => t.ech.mwrWait.length = s.ech.mwrWait.length + 1 ∧
      t.ech.expWrite = s.ech.expWrite + 1 ∧ t.Frame s [.ech, .pwr] [Reg.PWR_STATUS_RETRY]) ∧
  (∀ (rx : Rx) (off low epoch : Nat) (data : List Byte) (be : List Bool) (s : State), s.Accepts rx → s.streaming = true →
    s.vaulting = false → s.ech.peerEpoch = some epoch → s.ech.restart = false →
    inferSeq (s.ech.expWrite - 1) (low % 2 ^ 24) ≠ s.ech.expWrite →
    Runs (.mwr rx off low data be) s fun t => t.echoState = eHeld ∧ t.get Reg.ECH_MISB_LAST_CODE = 1) ∧
  (∀ (rx : Rx) (off low epoch : Nat) (data : List Byte) (be : List Bool) (s : State), s.Accepts rx → s.streaming = true →
    s.vaulting = false → s.ech.peerEpoch = some epoch → s.ech.restart = true → s.ownGrans * 4096 < off + data.length →
    Runs (.mwr rx off low data be) s fun t => t.echoState = eHeld ∧ t.get Reg.ECH_MISB_LAST_CODE = 2)

/-- EPOCH, MACK, ALLOW and STATE: the stream's epoch, the acknowledged sequence, the allowance and the peer's state word;
what each rule forbids is misbehaviour under its code. -/
def Obligations.EchoStreams : Prop :=
  (∀ (rx : Rx) (e : Nat) (s : State), s.Accepts rx → s.ech.epochFree = true →
    Runs (.epoch rx e) s fun t => t.ech.peerEpoch = some (e % 2 ^ 32) ∧ t.ech.restart = true ∧ t.ech.epochFree = false ∧
      t.ech.expSeq = s.ech.expSeq + 1 ∧ t.Frame s [.ech, .pwr] [Reg.PWR_STATUS_RETRY]) ∧
  (∀ (rx : Rx) (e0 : Nat) (s : State), s.Accepts rx → s.ech.epochFree = false → s.ech.peerEpoch = some e0 →
    Runs (.epoch rx ((e0 + 1) % 2 ^ 32)) s fun t => t.ech.peerEpoch = some ((e0 + 1) % 2 ^ 32) ∧
      t.ech.restart = s.ech.restart ∧ t.Frame s [.ech, .pwr] [Reg.PWR_STATUS_RETRY]) ∧
  (∀ (rx : Rx) (e e0 : Nat) (s : State), s.Accepts rx → s.ech.epochFree = false →
    s.ech.peerEpoch = some e0 → e ≠ (e0 + 1) % 2 ^ 32 →
    Runs (.epoch rx e) s fun t => t.echoState = eHeld ∧ t.get Reg.ECH_MISB_LAST_CODE = 8) ∧
  (∀ (rx : Rx) (ns : Bool) (arg epoch dirtied rtt : Nat) (s : State), s.Accepts rx → s.streaming = true →
    arg < 2 ^ 64 → s.get Reg.ECH_SEQ_ACKED_SEQ ≤ arg → arg ≤ s.get Reg.ECH_SEQ_SENT_SEQ → s.ech.epochAt arg = some epoch →
    s.ech.dirtied ≤ dirtied →
    dirtied ≤ s.ech.mwrSent - (s.ech.unacked.filter (fun w => decide (arg < w.seq))).length + s.ech.rsSent →
    s.ech.rsEnd = none →
    Runs (.mack rx false ns arg epoch dirtied rtt) s fun t => t.get Reg.ECH_SEQ_ACKED_SEQ = arg ∧ t.ech.dirtied = dirtied ∧
      t.ech.unacked = s.ech.unacked.filter (fun w => decide (arg < w.seq)) ∧
      t.Frame s [.ech, .pwr] [Reg.ECH_SEQ_ACKED_SEQ, Reg.ECH_LAT_LAST_NS, Reg.ECH_LAT_MAX_NS, Reg.PWR_STATUS_RETRY]) ∧
  (∀ (rx : Rx) (ns : Bool) (arg epoch dirtied rtt : Nat) (s : State), s.Accepts rx → s.streaming = true →
    s.get Reg.ECH_SEQ_SENT_SEQ < arg →
    Runs (.mack rx false ns arg epoch dirtied rtt) s fun t => t.echoState = eHeld ∧ t.get Reg.ECH_MISB_LAST_CODE = 4) ∧
  (∀ (rx : Rx) (n : Nat) (s : State), s.Accepts rx → s.ech.allowTotal ≤ n →
    Runs (.allow rx n) s fun t => t.ech.allowTotal = n ∧ t.Frame s [.ech, .pwr] [Reg.PWR_STATUS_RETRY]) ∧
  (∀ (rx : Rx) (n : Nat) (s : State), s.Accepts rx → n < s.ech.allowTotal →
    Runs (.allow rx n) s fun t => t.echoState = eHeld ∧ t.get Reg.ECH_MISB_LAST_CODE = 7) ∧
  (∀ (rx : Rx) (w : Nat) (s : State), s.Accepts rx → bitOf w 5 = false → bitOf w 7 = false → bitOf w 12 = false →
    bitOf w 13 = false → bitsOf w 0 3 < 3 →
    Runs (.state rx w) s fun t => t.ech.peerState = w ∧ t.get Reg.ECH_STATUS_PEER_FROZEN = bitsOf w 8 4 ∧
      t.flag Reg.ECH_STATUS_PEER_TRIP = false ∧
      t.Frame s [.ech] [Reg.ECH_STATUS_PEER_TRIP, Reg.ECH_STATUS_PEER_FROZEN]) ∧
  (∀ (rx : Rx) (w : Nat) (s : State), s.Accepts rx → bitOf w 7 = true →
    Runs (.state rx w) s fun t => t.echoState = eDetached ∧ t.ech.detachedAon = true)

/-- FRD, FDATA and GREQ: a forwarded read waits until its order is stored and is answered from the mirror's bytes; its data
completes the host's read; a granule request is answered in nine frames. -/
def Obligations.EchoReads : Prop :=
  (∀ (rx : Rx) (off tag len order : Nat) (s : State), s.Accepts rx → s.ech.fwdIn = [] →
    s.get Reg.ECH_SEQ_STORED_SEQ < order →
    Runs (.frd rx off tag len order) s fun t => t.ech.fwdIn = [⟨tag, off, len, order⟩] ∧ t.out = s.out ∧
    t.Frame s [.ech, .pwr] [Reg.PWR_STATUS_RETRY]) ∧
  (∀ (rx : Rx) (off tag len order g : Nat) (s : State), s.Accepts rx → s.ech.fwdIn = [] → len ≤ 512 →
    order ≤ s.get Reg.ECH_SEQ_STORED_SEQ → g = s.granOf s.owner.other (off / 4096) → s.granFrozen g = false →
    (s.ent g).st = .copied → s.errsIn (g * 4096 + off % 4096) len = [] →
    Runs (.frd rx off tag len order) s fun t => t.ech.fwdIn = [] ∧ t.Frame s [.ech, .pwr] [Reg.PWR_STATUS_RETRY] ∧
      ∃ w, t.out = s.out ++ [.frame fFdata w (loadBytes s.cache.cells (g * 4096 + off % 4096) len)]) ∧
  (∀ (rx : Rx) (off tag : Nat) (data : List Byte) (f : Fwd) (s : State), s.Accepts rx →
    s.ech.fwds.find? (fun x => x.tag == tag && x.off + x.got.length == off) = some f → s.ech.fwdWait = [] →
    Runs (.fdata rx off tag true false false data) s fun t => t.ech.fwds = s.ech.fwds.filter (fun x => x.tag != tag) ∧
      t.out = s.out ++ [.cpl f.port .success false ((f.got ++ data).take f.len)] ∧
      t.Frame s [.ech, .pwr] [Reg.PWR_STATUS_RETRY]) ∧
  (∀ (rx : Rx) (off tag : Nat) (last poison na : Bool) (data : List Byte) (s : State), s.Accepts rx →
    s.ech.fwds.find? (fun x => x.tag == tag && x.off + x.got.length == off) = none →
    Runs (.fdata rx off tag last poison na data) s fun t => t.echoState = eHeld ∧ t.get Reg.ECH_MISB_LAST_CODE = 10) ∧
  (∀ (rx : Rx) (gran tag purpose g : Nat) (s : State), s.Accepts rx → s.ech.greqIn = [] →
    g = s.granOf s.owner.other gran → s.granFrozen g = false → (s.ent g).st = .copied → s.errsIn (g * 4096) 4096 = [] →
    Runs (.greq rx gran tag purpose) s fun t => t.ech.greqIn = [] ∧ t.ech.sendSeq = s.ech.sendSeq + 9 ∧
      t.out.length = s.out.length + 9 ∧ t.Frame s [.ech, .pwr] [Reg.PWR_STATUS_RETRY])

/-- GDATA, GVER and RSYNC: the parts and the version of a resync granule store it as a dirty mirror granule; BEGIN, END and
ABORT of a resync. -/
def Obligations.EchoResync : Prop :=
  (∀ (rx : Rx) (gran tag part : Nat) (data : List Byte) (s : State), s.Accepts rx → s.ech.peerRs = true →
    Runs (.gdata rx gran tag 2 part data) s fun t =>
      mget (mgetD t.ech.rsParts gran []) (part % 8) = some data ∧ t.Frame s [.ech, .pwr] [Reg.PWR_STATUS_RETRY]) ∧
  (∀ (rx : Rx) (gran tag seq epoch sectors us g : Nat) (s : State), s.Accepts rx → s.ech.peerRs = true → s.vaulting = false →
    s.streaming = true → g = s.granOf s.owner.other gran → s.granFrozen g = false → (s.gran g).dirty = true → s.dramClean = true →
    s.pmr.waitReads = [] → s.ech.fwdIn = [] → s.ech.mwrWait = [] → s.ech.pendRs < 63 →
    Runs (.gver rx gran tag 2 seq epoch 1 sectors 0 us) s fun t => t.ech.rsStored = s.ech.rsStored + 1 ∧ (t.gran g).dirty = true ∧
      (t.gran g).seq = seq ∧ (t.gran g).epoch = epoch ∧ (t.ent g).st = .copied ∧ mget t.ech.rsParts gran = none ∧
      t.cache.cells = storeBytes (clearCells s.cache.cells (g * 4096) 4096) (g * 4096)
        ((List.range 8).map (fun i => mgetD (mgetD s.ech.rsParts gran []) i [])).flatten ∧
      mget t.pmr.merge g = none ∧ mget t.pmr.poison g = none) ∧
  (∀ (rx : Rx) (gran tag seq epoch fl sectors us g : Nat) (s : State), s.Accepts rx → s.ech.peerRs = true → s.vaulting = false →
    s.streaming = true → g = s.granOf s.owner.other gran → s.granFrozen g = false → s.dramClean = true →
    s.pmr.waitReads = [] → s.ech.fwdIn = [] → s.ech.mwrWait = [] → s.ech.pendRs < 63 →
    Runs (.gver rx gran tag 2 seq epoch fl sectors 2 us) s fun t => t.gran g = GState.none ∧ t.ent g = MapEnt.none ∧
      t.ech.rsStored = s.ech.rsStored + 1) ∧
  (∀ (rx : Rx) (sEnd count : Nat) (s : State), s.Accepts rx →
    Runs (.rsync rx 0 sEnd count) s fun t => t.ech.peerRs = true ∧ t.ech.epochFree = true ∧ t.ech.rsParts = [] ∧
      t.Frame s [.ech, .pwr] [Reg.PWR_STATUS_RETRY]) ∧
  (∀ (rx : Rx) (sEnd count e : Nat) (s : State), s.Accepts rx → s.ech.peerEpoch = some e → s.ech.fwdIn = [] → sEnd < 2 ^ 64 →
    s.get Reg.ECH_SEQ_STORED_SEQ ≤ sEnd →
    Runs (.rsync rx 1 sEnd count) s fun t => t.ech.peerRs = false ∧ t.get Reg.ECH_SEQ_STORED_SEQ = sEnd ∧ t.pmr.peerEpoch = e ∧
      t.ech.pendAck = 0 ∧ t.Frame s [.ech, .pmr, .pwr] [Reg.ECH_SEQ_STORED_SEQ, Reg.PWR_STATUS_RETRY]) ∧
  (∀ (rx : Rx) (sEnd count : Nat) (s : State), s.Accepts rx →
    Runs (.rsync rx 2 sEnd count) s fun t => t.ech.peerRs = false ∧ t.ech.rsParts = [] ∧
      t.Frame s [.ech, .pwr] [Reg.PWR_STATUS_RETRY])

/-- LCTL and the timers of the link. -/
def Obligations.EchoTimers : Prop :=
  (∀ (ctl lseq freed : Nat) (s : State), s.sessionUp = true → s.ech.ctlSeen < ctl →
    Runs (.lctl ctl true false lseq freed) s fun t => t.ech.peerFreed = freed ∧ t.ech.ctlSeen = ctl ∧
      t.ech.replay = s.ech.replay.filter (fun f => decide (lseq < f.lseq % 2 ^ 32)) ∧ t.Frame s [.ech] []) ∧
  (∀ (ctl lseq freed : Nat) (nak : Bool) (s : State), ctl ≤ s.ech.ctlSeen →
    Runs (.lctl ctl true nak lseq freed) s fun t => t.Frame s [] []) ∧
  (∀ s : State, s.sessionUp = true → s.ech.pendRs = 0 → 0 < s.ech.pendAck →
    Runs .mackCoalesceTimer s fun t => t.ech.pendAck = 0 ∧ t.ech.sendSeq = s.ech.sendSeq + 1 ∧ t.Frame s [.ech] []) ∧
  (∀ s : State, s.sessionUp = true → Runs .stateSendTimer s fun t => t.ech.lastState = s.echoStateWord ∧
    t.ech.sendSeq = s.ech.sendSeq + 1 ∧ t.Frame s [.ech] []) ∧
  (∀ s : State, s.sessionUp = true → s.ech.ackDue = true →
    Runs .lctlAckTimer s fun t => t.ech = { s.ech with ctlSent := s.ech.ctlSent + 1, ackDue := false } ∧ t.Frame s [.ech] []) ∧
  (∀ s : State, s.sessionUp = true → Runs (.echoReplayTimeout true) s fun t =>
    t.out.length = s.out.length + s.ech.replay.length ∧ t.ech = { s.ech with nakRow := 0 } ∧
      t.Frame s [.ech] [Reg.ECH_LINK_RETRAINS]) ∧
  (∀ s : State, s.sessionUp = true → Runs (.echoReplayTimeout false) s fun t => t.echoState = eDown ∧
    t.flag Reg.ECH_LINK_UP = false) ∧
  (∀ s : State, s.streaming = true → Runs .echoSilence s fun t => t.echoState = eLapsed ∨ t.echoState = eHeld) ∧
  (∀ s : State, s.echoState = eLapsed → s.ech.peerSteady = true → s.lowestZone.isSome = true →
    Runs .lapsedRejoin s fun t => t.echoState = eSync ∧ t.ech.rsActive = true ∧ t.cache = s.cache) ∧
  (∀ s : State, s.echoState = eHeld → s.ech.heldUntilRejoin = false →
    Runs .heldPenaltyEnd s fun t => t.echoState = eDown ∧ t.cache = s.cache) ∧
  (∀ s : State, s.echoState = eHeld → s.ech.heldUntilRejoin = true → Runs .heldPenaltyEnd s fun t => t.Frame s [] []) ∧
  (∀ s : State, s.echoState = eRefused → Runs .refusedRetry s fun t => t.echoState = eDown ∧ t.cache = s.cache) ∧
  (∀ (z : Nat) (s : State), s.ech.rsActive = true → s.streaming = true → s.domOn .echo = true → s.lowestZone = some z →
    s.ech.rsNext < z * 256 → s.granFrozen (z * 256) = false → (s.ent (z * 256)).st = .copied → 0 < s.peerIn →
    s.ech.noRoom (8 * 536 + 40) (8 * 9 + 1) = false → s.errsIn (z * 256 * 4096) 4096 = [] → z * 256 + 1 < s.ownGrans →
    Runs .resyncGranuleRead s fun t => t.ech.rsNext = z * 256 + 1 ∧ t.ech.rsSent = s.ech.rsSent + 1 ∧
      t.ech.sendSeq = s.ech.sendSeq + 9 ∧ t.Frame s [.ech] []) ∧
  (∀ s : State, Runs .replaceExpiry s fun t => t.flag Reg.ECH_STATUS_REPLACE_ARMED = false ∧
    t.Frame s [] [Reg.ECH_STATUS_REPLACE_ARMED])

/-- VINFO and VTAB bring the peer's region blocks and its version table; a resync that waits for VINFO then begins, a new
peer's in full. MIRROR_VIEW_READ reads the peer's region as this member holds it and changes nothing; MIRROR_VIEW_WRITE is an
Unsupported Request. -/
def Obligations.MirrorView : Prop :=
  (∀ (rx : Rx) (own mirror : VBlock) (s : State), s.Accepts rx → s.ech.vinfoOwn = none → s.echoState ≠ eSync →
    Runs (.vinfo rx false own mirror) s fun t => t.ech.vinfoPeer = some (own, mirror) ∧ t.Frame s [.ech, .pwr] [Reg.PWR_STATUS_RETRY]) ∧
  (∀ (rx : Rx) (own mirror : VBlock) (s : State), s.Accepts rx → s.ech.vinfoOwn = none → s.echoState = eSync →
    s.ech.vinfoSent = true → s.pmr.st ≠ .closed → s.ech.rsActive = false → s.ech.rsEnd = none → s.ech.newPeer = true → 0 < s.ownZones →
    Runs (.vinfo rx false own mirror) s fun t => t.ech.vinfoPeer = some (own, mirror) ∧ t.ech.rsActive = true ∧
      t.ech.allFrom = some 0 ∧ t.get Reg.ECH_RESYNC_MODE = 2 ∧ t.cache = s.cache) ∧
  (∀ (rx : Rx) (start : Nat) (b : VBlock × VBlock) (s : State), s.Accepts rx → s.ech.vinfoPeer = some b →
    s.ech.needVtab = true → start = s.ech.vtabNext → start < s.ownGrans →
    Runs (.vtab rx start []) s fun t => t.ech.vtabNext = start ∧ t.ech.vtab = s.ech.vtab ∧
      t.Frame s [.ech, .pwr] [Reg.PWR_STATUS_RETRY]) ∧
  (∀ (rx : Rx) (start : Nat) (es : List (Nat × Bool)) (b : VBlock × VBlock) (s : State), s.Accepts rx →
    s.ech.vinfoPeer = some b → start ≠ s.ech.vtabNext →
    Runs (.vtab rx start es) s fun t => t.echoState = eHeld ∧ t.get Reg.ECH_MISB_LAST_CODE = 10) ∧
  (∀ (p : Port) (addr len g : Nat) (s : State), s.Claims p → s.pair = true → s.flag Reg.ECH_CTRL_MVIEW_EN = true →
    addr + len ≤ s.ownGrans * 4096 → g = (s.ownGrans * 4096 + addr) / 4096 → s.granFrozen g = false → (s.ent g).st = .copied →
    s.errsIn (s.ownGrans * 4096 + addr) len = [] →
    Runs (.mirrorViewRead p addr len) s fun t => t.Frame s [.pwr] [Reg.PWR_STATUS_RETRY] ∧
      t.out = s.out ++ [.cpl p .success false (loadBytes s.cache.cells (g * 4096 + (s.ownGrans * 4096 + addr) % 4096) len)]) ∧
  (∀ (p : Port) (s : State), s.Claims p →
    Runs (.mirrorViewWrite p) s fun t => t.Frame s [.pwr] [Reg.PWR_STATUS_RETRY] ∧ bitOf (t.port p).aerUnc aerUnsupported = true)

/-! ## Rails, the sequencer, the button -/

/-- RAIL_SCAN_SAMPLE: the code is shown; below the limit the filter counts, and when it is full the fault is confirmed and
latched: ALERT_N is asserted. -/
def Obligations.RailScan : Prop :=
  (∀ (n code : Nat) (s : State), s.domOn .sup = true → n < 64 → 0 < n → s.railUsed n = false →
    Runs (.railScanSample n code) s fun t => t.get (Reg.SUP_CHn_VAL_CODE n) = code % 4096 ∧
      t.Frame s [] [Reg.SUP_CHn_VAL_CODE n]) ∧
  (∀ (n code : Nat) (s : State), s.domOn .sup = true → n < 64 → 0 < n → s.railUsed n = true → s.rails.wait = .none →
    s.uvOn n = true → s.flag Reg.SUP_STATUS_VAULT_SUPPRESS = false → code < s.get (Reg.SUP_CHn_THR_UV n) →
    code ≤ s.get (Reg.SUP_CHn_THR_OV n) → (s.chan n).uvConf = false → (s.chan n).uvCnt + 1 < s.get Reg.SUP_SCAN_CFG_FILT →
    Runs (.railScanSample n code) s fun t => (t.chan n).uvCnt = (s.chan n).uvCnt + 1 ∧ (t.chan n).uvConf = false ∧
      (t.chan n).lat = (s.chan n).lat ∧
      t.Frame s [.rails] [Reg.SUP_CHn_VAL_CODE n, Reg.SUP_CHn_VAL_READY n]) ∧
  (∀ (n code : Nat) (s : State), s.domOn .sup = true → n < 64 → 0 < n → s.railUsed n = true → s.rails.wait = .none →
    s.uvOn n = true → s.flag Reg.SUP_STATUS_VAULT_SUPPRESS = false → code < s.get (Reg.SUP_CHn_THR_UV n) →
    code ≤ s.get (Reg.SUP_CHn_THR_OV n) → (s.chan n).uvConf = false → (s.chan n).uvCnt + 1 = s.get Reg.SUP_SCAN_CFG_FILT →
    s.get (Reg.SUP_CHn_CFG_UV_ACT n) = 1 →
    Runs (.railScanSample n code) s fun t => (t.chan n).uvConf = true ∧ (t.chan n).lat = Nat.max 1 (s.chan n).lat ∧
      t.flag Reg.SUP_STATUS_FAULT_EV = true ∧ t.flag (Reg.SUP_CHn_VAL_UV_LATCH n) = true ∧ t.pins.alert = true ∧
      t.seqState = s.seqState)

/-- The walk through the groups: ready rails end the wait for a group, one that fails its group turns the sequence down; each
delay leads to the next group up or down; a retry starts the next attempt. -/
def Obligations.RailGroups : Prop :=
  (∀ s : State, s.rails.wait = .ready → (s.walkRails s.rails.reached).all s.railReady = true → s.rails.upLatched = false →
    Runs .groupReadyTimeout s fun t => t.rails = { s.rails with wait := .delayUp } ∧ t.Frame s [.rails] []) ∧
  (∀ (n : Nat) (s : State), s.rails.wait = .ready → s.seqState = seqUp → n ∈ s.walkRails s.rails.reached →
    s.railReady n = false → 2 ≤ s.get (Reg.SUP_CHn_CFG_UV_ACT n) →
    Runs .groupReadyTimeout s fun t => t.seqState = seqDown) ∧
  (∀ s : State, s.rails.wait = .delayUp → s.rails.inTransition = false → s.boot.startStep ≠ 2 → s.rails.reached < s.lastGroup →
    Runs .delayUpExpiry s fun t => t.rails.reached = s.rails.reached + 1 ∧ t.rails.wait = .ready ∧
      (∀ n ∈ s.railsOf (s.rails.reached + 1), t.flag (Reg.SUP_CHn_VAL_EN n) = true) ∧ t.cache = s.cache) ∧
  (∀ s : State, s.rails.wait = .off → Runs .offTimeout s fun t => t.rails = { s.rails with wait := .delayDown } ∧
    t.Frame s [.rails] []) ∧
  (∀ s : State, s.rails.wait = .delayDown → s.rails.inTransition = false → 0 < s.rails.reached →
    Runs .delayDownExpiry s fun t => t.rails.reached + 1 = s.rails.reached ∧ t.rails.wait = .off ∧ t.cache = s.cache) ∧
  (∀ s : State, s.seqState = seqRetryWait → s.get Reg.SUP_SEQ_STATUS_ATTEMPT < 7 →
    Runs .retryDelayExpiry s fun t => t.seqState = seqUp ∧ t.boot.starting = true ∧
      t.get Reg.SUP_SEQ_STATUS_ATTEMPT = s.get Reg.SUP_SEQ_STATUS_ATTEMPT + 1)

/-- SHORT_PRESS, LONG_PRESS, CUT_PRESS and GRACE_TIMEOUT in the states of the sequencer. -/
def Obligations.Button : Prop :=
  (∀ s : State, s.domOn .aon = true → s.seqState = seqOff → Runs .shortPress s fun t => t.seqState = seqUp ∧
    t.boot.starting = true ∧ t.get Reg.PWR_WAKE_SOURCE = 4) ∧
  (∀ s : State, s.domOn .aon = true → s.seqState = seqGrace → Runs .shortPress s fun t => t.seqState = seqOn ∧
    t.flag Reg.SUP_STATUS_OFF_PENDING = false ∧ t.cache = s.cache) ∧
  (∀ s : State, s.domOn .aon = true → s.seqState = seqDown → Runs .shortPress s fun t =>
    t.flag Reg.SUP_STATUS_ON_PENDING = true ∧ t.Frame s [] [Reg.SUP_STATUS_ON_PENDING, Reg.SUP_STATUS_BTN_EV]) ∧
  (∀ s : State, s.domOn .aon = true → s.seqState = seqUp → s.rails.wait = .ready → Runs .longPress s fun t => t.rails.upLatched = true ∧
    t.rails.downWhy = .longPress ∧ t.flag Reg.SUP_STATUS_OFF_PENDING = true ∧ t.seqState = seqUp ∧ t.cache = s.cache) ∧
  (∀ s : State, s.domOn .aon = true → s.seqState = seqOn → s.rails.openedThisStart = false →
    Runs .longPress s fun t => t.seqState = seqDown ∧ t.flag Reg.VLT_STATUS_ARMED = false) ∧
  (∀ s : State, s.seqState ≠ seqOff → s.seqState ≠ seqLockout → s.flag Reg.SUP_STATUS_ON_PENDING = false →
    Runs .cutPress s fun t => t.seqState = seqOff ∧ (∀ d, d ≠ .aon → t.domSt d = .off) ∧ t.pins.hold = false ∧
      t.cache = Cache.init ∧ t.rails.ffTaken = true) ∧
  (∀ s : State, s.seqState = seqOff → Runs .cutPress s fun t => t.Frame s [] []) ∧
  (∀ s : State, s.seqState = seqGrace → s.rails.openedThisStart = false →
    Runs .graceTimeout s fun t => t.seqState = seqDown) ∧
  (∀ s : State, s.seqState ≠ seqGrace → Runs .graceTimeout s fun t => t.Frame s [] [])

/-- FF_NOR_WRITE, with the erase of the other sector once the current one is full, and NOR_SUPPLY_HOLD_EXPIRY; MRST_N in VAULT, UP
and ON; WAKE_N in OFF and DOWN. -/
def Obligations.RailPins : Prop :=
  (∀ (r q : FFRecord) (rest : List FFRecord) (s : State), s.rails.ffQueue = r :: q :: rest →
    (lget s.rails.ffNor s.rails.ffCur []).length < 63 →
    Runs .ffNorWrite s fun t => t.rails.ffQueue = q :: rest ∧
      t.rails.ffNor = lset s.rails.ffNor s.rails.ffCur (lget s.rails.ffNor s.rails.ffCur [] ++ [r]) ∧ t.Frame s [.rails] []) ∧
  (∀ (r q : FFRecord) (rest : List FFRecord) (s : State), s.rails.ffQueue = r :: q :: rest → s.seqState = seqOn →
    s.rails.ffCur ≤ 1 → s.rails.ffNor.length = 2 → (lget s.rails.ffNor s.rails.ffCur []).length = 63 →
    Runs .ffNorWrite s fun t => t.rails.ffQueue = q :: rest ∧ t.rails.ffCur = s.rails.ffCur ∧
      lget t.rails.ffNor s.rails.ffCur [] = lget s.rails.ffNor s.rails.ffCur [] ++ [r] ∧
      lget t.rails.ffNor (1 - s.rails.ffCur) [] = [] ∧ t.Frame s [.rails] []) ∧
  (∀ s : State, 64 ≤ (lget s.rails.ffNor s.rails.ffCur []).length → (lget s.rails.ffNor (1 - s.rails.ffCur) []).isEmpty = false →
    Runs .ffNorWrite s fun t => t.Frame s [] []) ∧
  (∀ s : State, s.rails.norHold = true → s.rails.wait = .norHold → s.rails.downWhy = .offReq →
    s.flag Reg.SUP_STATUS_ON_PENDING = false → Runs .norSupplyHoldExpiry s fun t => t.seqState = seqOff) ∧
  (∀ s : State, s.rails.norHold = true → s.rails.wait ≠ .norHold →
    Runs .norSupplyHoldExpiry s fun t => t.rails = { s.rails with norHold := false } ∧
    (∀ n < 64, s.flag (Reg.SUP_CHn_CFG_NOR_SUPPLY n) = true → t.flag (Reg.SUP_CHn_VAL_EN n) = false) ∧ t.cache = s.cache) ∧
  (∀ (v : Vault) (s : State), s.seqState = seqVault → s.vlt.cur = some v →
    Runs .mrstN s fun t => t.vlt.cur = some { v with mrst := true } ∧ t.Frame s [.vlt] []) ∧
  (∀ s : State, s.seqState = seqUp → Runs .mrstN s fun t => t.rails = { s.rails with mrstWait := true } ∧
    t.Frame s [.rails] []) ∧
  (∀ s : State, s.seqState = seqOn → s.get Reg.PWR_STATUS_STATE ≠ pwrDeep →
    Runs .mrstN s fun t => t.boot.starting = true ∧ t.boot.startStep = 4 ∧ t.domSt .ctrl = .off ∧ t.domSt .fab = .off ∧
      t.get Reg.SYS_STATUS_PATH = 1 ∧ t.dmc.selfRefresh = true) ∧
  (∀ s : State, s.domOn .aon = true → s.seqState = seqOff → s.flag Reg.SUP_SEQ_CFG_WAKE_ON_OFF = true →
    Runs .wakeN s fun t => t.seqState = seqUp ∧ t.get Reg.PWR_WAKE_SOURCE = 5) ∧
  (∀ s : State, s.domOn .aon = true → s.seqState = seqDown → s.flag Reg.SUP_SEQ_CFG_WAKE_ON_OFF = true →
    Runs .wakeN s fun t => t.flag Reg.SUP_STATUS_ON_PENDING = true ∧ t.Frame s [] [Reg.SUP_STATUS_ON_PENDING]) ∧
  (∀ s : State, s.domOn .aon = true → s.seqState = seqOff → s.flag Reg.SUP_SEQ_CFG_WAKE_ON_OFF = false →
    Runs .wakeN s fun t => t.Frame s [] [])

/-! ## Power states -/

/-- IDLE_TIMEOUT, AUTO_SLEEP_TIMER and the handshake: a vote passes to the next domain that runs, and a refusal or a vote
that never comes takes the device back to RUN with its reason shown. -/
def Obligations.SleepEntry : Prop :=
  (∀ s : State, s.InRun → s.mayEnter = true → s.quiet = true →
    Runs .idleTimeout s fun t => t.get Reg.PWR_STATUS_STATE = pwrIdle ∧ t.Frame s [] [Reg.PWR_STATUS_STATE]) ∧
  (∀ s : State, s.InRun → s.quiet = false → Runs .idleTimeout s fun t => t.Frame s [] []) ∧
  (∀ s : State, s.get Reg.PWR_STATUS_STATE = pwrIdle → s.get Reg.PWR_CFG_AUTO_SLEEP_S ≠ 0 → (s.port .a).linkUp = false →
    (s.port .b).linkUp = false → s.flag Reg.SYS_STATUS_SAFE = false → s.mayEnter = true →
    Runs .autoSleepTimer s fun t => t.get Reg.PWR_STATUS_STATE = pwrEntering ∧ t.get Reg.PWR_STATUS_TARGET = pwrSleep ∧
      t.pwr.request = 2 ∧ t.pwr.agreed = [] ∧ t.cache = s.cache) ∧
  (∀ (d n : Domain) (busy : Bool) (s : State), s.get Reg.PWR_STATUS_STATE = pwrEntering → s.pwr.asking = some d →
    s.voteReason d busy = 0 →
    voteOrder.find? (fun e => s.domOn e && !(s.pwr.agreed ++ [d]).contains e) = some n →
    Runs (.domainVote busy) s fun t => t.pwr = { s.pwr with agreed := s.pwr.agreed ++ [d], asking := some n } ∧
      t.Frame s [.pwr] []) ∧
  (∀ (d : Domain) (busy : Bool) (s : State), s.get Reg.PWR_STATUS_STATE = pwrEntering → s.pwr.asking = some d →
    s.voteReason d busy ≠ 0 →
    Runs (.domainVote busy) s fun t => t.get Reg.PWR_STATUS_STATE = pwrRun ∧ t.pwr.agreed = [] ∧ t.pwr.k = s.pwr.k + 1 ∧
      t.get Reg.PWR_REFUSE_LAST_REASON = s.voteReason d busy ∧ t.get Reg.PWR_REFUSE_LAST_DOMAIN = d.idx ∧ t.cache = s.cache) ∧
  (∀ (d : Domain) (s : State), s.get Reg.PWR_STATUS_STATE = pwrEntering → s.pwr.asking = some d →
    Runs .domainVoteTimeout s fun t => t.get Reg.PWR_STATUS_STATE = pwrRun ∧ t.get Reg.PWR_REFUSE_LAST_REASON = 31 ∧
      t.flag Reg.PWR_STATUS_REFUSE_EV = true ∧ t.cache = s.cache) ∧
  (∀ s : State, s.mayEnter = true → s.pwr.request = 2 →
    Runs .sleepRetryBackoff s fun t => t.get Reg.PWR_STATUS_STATE = pwrEntering ∧ t.flag Reg.PWR_STATUS_RETRY = false ∧
      t.cache = s.cache) ∧
  (∀ s : State, s.pwr.request = 0 ∨ s.mayEnter = false → Runs .sleepRetryBackoff s fun t => t.Frame s [] [])

/-- DEEP's preparation, the wakes, and the exit from SLEEP. -/
def Obligations.SleepExitAndDeep : Prop :=
  (∀ s : State, s.pwr.prep = 2 → s.dirtyBytes = 0 → Runs .deepPrepDrained s fun t => t.pwr.prep = 3 ∧ t.vlt.cur.isSome = true) ∧
  (∀ s : State, s.pwr.prep = 2 → s.dirtyBytes ≠ 0 → Runs .deepPrepDrained s fun t => t.Frame s [] []) ∧
  (∀ s : State, s.get Reg.PWR_STATUS_STATE = pwrEntering → s.pwr.prep = 2 →
    Runs .deepPrepTimeout s fun t => t.pwr.prep = 0 ∧ t.get Reg.PWR_STATUS_STATE = pwrRun ∧
      t.get Reg.PWR_REFUSE_LAST_REASON = 10 ∧ t.cache = s.cache) ∧
  (∀ s : State, s.get Reg.PWR_STATUS_STATE = pwrDeep → s.get Reg.PWR_CFG2_WAKE_TIMER_MIN ≠ 0 →
    Runs .deepWakeTimer s fun t => t.get Reg.PWR_STATUS_STATE = pwrExiting ∧ t.get Reg.PWR_WAKE_SOURCE = 6 ∧
      t.get Reg.PWR_WAKE_FROM = pwrDeep ∧ t.boot.starting = true ∧ t.cache = s.cache) ∧
  (∀ s : State, s.get Reg.PWR_STATUS_STATE = pwrSleep → s.flag Reg.PWR_STATUS_GUARD = true →
    Runs .sleepGuardTrip s fun t => t.get Reg.PWR_STATUS_STATE = pwrExiting ∧ t.get Reg.PWR_WAKE_SOURCE = 8 ∧
      t.get Reg.PWR_WAKE_FROM = pwrSleep ∧ t.flag Reg.PWR_STATUS_WAKE_EV = true ∧ t.boot = s.boot ∧ t.cache = s.cache) ∧
  (∀ s : State, s.get Reg.PWR_STATUS_STATE = pwrSleep →
    Runs .sleepCheck s fun t => t.get Reg.PWR_STATUS_STATE = pwrExiting ∧ t.get Reg.PWR_WAKE_SOURCE = 7 ∧ t.pwr.request = 2 ∧
      t.flag Reg.PWR_STATUS_RETRY = true ∧ t.cache = s.cache) ∧
  (∀ s : State, s.get Reg.PWR_STATUS_STATE = pwrExiting → s.get Reg.PWR_WAKE_FROM = pwrSleep →
    Runs .sleepExit s fun t => t.InRun ∧ (∀ d, t.domSt d ≠ .retained) ∧ t.dmc.selfRefresh = false ∧
      t.flag Reg.PWR_STATUS_GUARD = false ∧ t.cache = s.cache)

/-- The domains as they come up, those that TEST_MODE holds in reset, and the AON supply. -/
def Obligations.DomainsAndAon : Prop :=
  (∀ (d : Domain) (s : State), s.pwr.upDom = some d → s.pwr.upStep < 3 →
    Runs .domainReady s fun t => t.pwr = { s.pwr with upStep := s.pwr.upStep + 1, upRetry := false } ∧ t.Frame s [.pwr] []) ∧
  (∀ (d : Domain) (s : State), s.pwr.upDom = some d → 3 ≤ s.pwr.upStep → s.boot.starting = false →
    s.testHolds d = false → d ≠ .host →
    Runs .domainReady s fun t => t.pwr.dom = lset s.pwr.dom d.idx .on ∧ t.pwr.upDom = none ∧ t.Frame s [.pwr] []) ∧
  (∀ s : State, s.pwr.upDom = some .host → 3 ≤ s.pwr.upStep → s.boot.starting = false → s.testHolds .host = false →
    Runs .domainReady s fun t => t.pwr.dom = lset s.pwr.dom Domain.host.idx .on ∧ t.pwr.upDom = none) ∧
  (∀ (d : Domain) (s : State), s.pwr.upDom = some d → 3 ≤ s.pwr.upStep → s.testHolds d = true →
    Runs .domainReady s fun t => t.pwr.dom = lset s.pwr.dom d.idx .held ∧ t.pwr.upDom = none ∧ t.Frame s [.pwr] []) ∧
  (∀ (d : Domain) (s : State), s.pwr.upDom = some d → s.pwr.upRetry = false →
    Runs (.domainBoundMissed d) s fun t => t.pwr = { s.pwr with upRetry := true } ∧ t.Frame s [.pwr] []) ∧
  (∀ (d : Domain) (s : State), s.pwr.upDom = some d → s.pwr.upRetry = true → s.boot.starting = false →
    s.get Reg.PWR_STATUS_STATE ≠ pwrExiting →
    Runs (.domainBoundMissed d) s fun t => t.pwr.dom = lset s.pwr.dom d.idx .held ∧ bitOf (t.get Reg.PWR_STATUS_DOM_FAIL) d.idx = true ∧
      t.cache = s.cache) ∧
  (∀ s : State, s.domOn .aon = true → Runs .aonBorWarning s fun t => t.flag Reg.PWR_AON_BOR_WARN = true ∧
    t.Frame s [] [Reg.PWR_AON_BOR_WARN]) ∧
  (∀ s : State, Runs .aonBorReset s fun t => t.pwr = Power.init ∧ t.broker = Broker.init ∧ t.cache = Cache.init ∧
    t.seqState = seqOff ∧ t.pins.hold = false ∧ t.pins.fault = false ∧ t.evr.ring = [] ∧ t.boot.running = none)

/-! ## The vendor registers -/

/-- The commands that clear counts: each count they name is 0 after, and nothing else changes but the fields of the register
written. CLK_MON_CLR empties the range of the monitor. -/
def Obligations.RegisterClears : Prop :=
  (∀ (r : Requester) (w : Word) (s : State) (l : List Fld), s.Asks r 0x160000 Reg.VLT_CTRL_STAT_CLR w →
    l = [Reg.VLT_DEMAND_CNT_COUNT, Reg.VLT_DEMAND_MAX_MAX_US, Reg.VLT_MERGE_FULL_CNT] →
    Runs (.vltStatClr r w) s fun t => (∀ f ∈ l, t.get f = 0) ∧ t.Frame (s.arrive r) [] (fieldsAt 0x160000 ++ l)) ∧
  (∀ (r : Requester) (w : Word) (s : State) (l : List Fld), s.Asks r 0x180000 Reg.FLC_CTRL_CNT_CLR w →
    l = ([0x180040, 0x180044, 0x180048, 0x18004C, 0x180050, 0x180054, 0x180058].map fieldsAt).flatten →
    Runs (.flcCntClr r w) s fun t => (∀ f ∈ l, t.get f = 0) ∧ t.Frame (s.arrive r) [] (fieldsAt 0x180000 ++ l)) ∧
  (∀ (r : Requester) (w : Word) (s : State) (l : List Fld), s.Asks r 0x190000 Reg.DMC_CTRL_STAT_CLR w →
    l = [Reg.DMC_REF_STATUS_FORCED, Reg.DMC_REF_STATUS_POSTPONED_MAX, Reg.DMC_INORDER_CNT_COUNT,
      Reg.DMC_PANIC_CNT_MAX_US, Reg.DMC_PANIC_CNT_COUNT] →
    Runs (.dmcStatClr r w) s fun t => (∀ f ∈ l, t.get f = 0) ∧ t.Frame (s.arrive r) [] (fieldsAt 0x190000 ++ l)) ∧
  (∀ (r : Requester) (w : Word) (s : State) (l : List Fld), s.Asks r 0x190100 Reg.DMC_ECC_CTRL_CNT_CLR w →
    l = [Reg.DMC_CE_CNT_COUNT, Reg.DMC_UE_CNT_VAULT, Reg.DMC_UE_CNT_TOTAL] →
    Runs (.dmcEccCntClr r w) s fun t => (∀ f ∈ l, t.get f = 0) ∧ t.Frame (s.arrive r) [.dmc] (fieldsAt 0x190100 ++ l)) ∧
  (∀ (r : Requester) (w : Word) (s : State) (l : List Fld), s.Asks r 0x1A0000 Reg.ECH_CTRL_CNT_CLR w →
    l = [Reg.ECH_CNT_NAK_COUNT, Reg.ECH_CNT_LAPSE_COUNT, Reg.ECH_CNT_FWD_COUNT] →
    Runs (.echCntClr r w) s fun t => (∀ f ∈ l, t.get f = 0) ∧ t.Frame (s.arrive r) [] (fieldsAt 0x1A0000 ++ l)) ∧
  (∀ (r : Requester) (w : Word) (s : State) (l : List Fld), s.Asks r 0x130000 Reg.SUP_CTRL_FF_ACK w →
    l = [Reg.SUP_FF_INFO_VALID] →
    Runs (.ffAck r w) s fun t => (∀ f ∈ l, t.get f = 0) ∧ t.Frame (s.arrive r) [] (fieldsAt 0x130000 ++ l)) ∧
  (∀ (r : Requester) (w : Word) (s : State) (l : List Fld), s.Asks r 0x120000 Reg.PWR_CTRL_CNT_CLR w →
    l = ([0x12001C, 0x120020, 0x120024].map fieldsAt).flatten →
    Runs (.pwrCntClr r w) s fun t => (∀ f ∈ l, t.get f = 0) ∧ t.Frame (s.arrive r) [] (fieldsAt 0x120000 ++ l)) ∧
  (∀ (r : Requester) (w : Word) (s : State) (l : List Fld), s.Asks r 0x1B0000 Reg.EVR_CTRL_CNT_CLR w →
    l = [Reg.EVR_LOST_OVERWRITTEN, Reg.EVR_LOST_DROPPED] →
    Runs (.evrCntClr r w) s fun t => (∀ f ∈ l, t.get f = 0) ∧ t.Frame (s.arrive r) [] (fieldsAt 0x1B0000 ++ l)) ∧
  (∀ (r : Requester) (w : Word) (s : State), s.Asks r 0x110000 Reg.CLK_CTRL_MON_CLR w →
    Runs (.clkMonClr r w) s fun t => t.get Reg.CLK_MON_RANGE_MAX = 0 ∧ t.get Reg.CLK_MON_RANGE_MIN = 65535 ∧
      t.Frame (s.arrive r) [] (fieldsAt 0x110000 ++ [Reg.CLK_MON_RANGE_MAX, Reg.CLK_MON_RANGE_MIN])) ∧
  (∀ (r : Requester) (w : Word) (s : State), s.Asks r 0x130000 Reg.SUP_CTRL_FAULT_CLR w →
    Runs (.supFaultClr r w) s fun t => (∀ n < 64, (s.chan n).uvConf = false → (s.chan n).ovConf = false → (t.chan n).lat = 0) ∧
      (∀ n < 64, (s.chan n).uvConf = true ∨ (s.chan n).ovConf = true → t.chan n = s.chan n) ∧
      t.Frame (s.arrive r) [.rails] (fieldsAt 0x130000 ++ [Reg.SUP_FAULT_LATCHED])) ∧
  (∀ (r : Requester) (w : Word) (s : State), s.Asks r 0x140000 Reg.LAN_CTRL_FAULT_CLR w →
    Runs (.lanFaultClr r w) s fun t => t.cache = s.cache ∧ (∀ n < 8, s.modSt n = mFault → (s.mod n).valid = true →
        (s.mod n).causeAt + 60 ≤ s.secs → t.modSt n = mService ∧ t.get (Reg.LAN_Mn_STATUS_FAULT n) = 0) ∧
      ∀ n < 8, s.modSt n = mFault → s.secs < (s.mod n).causeAt + 60 → t.modSt n = mFault) ∧
  (∀ (r : Requester) (w : Word) (s : State), s.Asks r 0x1C0000 Reg.CFG_CTRL_LOCK w →
    Runs (.cfgLock r w) s fun t => t.flag Reg.CFG_CTRL_LOCK = true ∧ t.Frame (s.arrive r) [] (fieldsAt 0x1C0000)) ∧
  (∀ (r : Requester) (w : Word) (s : State) (x : RingSlot), s.Asks r 0x1B0000 Reg.EVR_CTRL_FLUSH w → r ≠ .uart →
    s.evr.provisional = false → s.evrMode = 0 → s.evr.ring = [x] → x.flushed = false → s.evr.norRoom = true →
    s.norFlushes = true →
    Runs (.evrFlush r w) s fun t => t.evr.ring = [{ x with flushed := true }] ∧
      (∃ c, t.evr.sectors.getLast? = some c ∧ c.recs.getLast? = some x.evt) ∧ t.Frame (s.arrive r) [] []) ∧
  (∀ (r : Requester) (w : Word) (s : State), s.Asks r 0x1B0000 Reg.EVR_CTRL_RD_GO w → r ≠ .uart →
    s.evr.standing (s.get Reg.EVR_RD_SEQ_SEQ) = none →
    Runs (.evrRdGo r w) s fun t => t.flag Reg.EVR_RD_STATUS_VALID = true ∧ t.flag Reg.EVR_RD_STATUS_NOT_HELD = true ∧
      t.evr = s.evr ∧ t.Frame (s.arrive r) [] []) ∧
  (∀ (r : Requester) (w : Word) (s : State) (e : EvRecord) (src : Nat), s.Asks r 0x1B0000 Reg.EVR_CTRL_RD_GO w → r ≠ .uart →
    s.evr.standing (s.get Reg.EVR_RD_SEQ_SEQ) = some (e, src) →
    Runs (.evrRdGo r w) s fun t => t.flag Reg.EVR_RD_STATUS_VALID = true ∧ t.flag Reg.EVR_RD_STATUS_NOT_HELD = false ∧
      t.get Reg.EVR_RD_STATUS_FROM = src % 4 ∧ (∀ n < 16, t.get (Reg.EVR_RD_DATAw_WORD n) = leNat ((e.bytes.drop (4 * n)).take 4)) ∧
      t.evr = s.evr ∧ t.Frame (s.arrive r) [] [])

/-- The commands that are requests: a rehearsal, a format, the journal, GC, a learn, off, SLEEP, DEEP, the end of safe mode,
a burn, a retrain. Each does what its rule says where it may, and what its rule says where it may not. -/
def Obligations.RegisterRequests : Prop :=
  (∀ (r : Requester) (w : Word) (s : State), s.Asks r 0x150000 Reg.UMB_CTRL_REH_START w →
    Reg.UMB_CTRL_SEEP_HOLD.of w.toNat = s.get Reg.UMB_CTRL_SEEP_HOLD → s.rehMay = true → s.rehRecent = false →
    Runs (.rehearsalRequest r w) s fun t => t.umb.rehearsal = some ⟨true, 0, false, none⟩ ∧ t.umb.lastSw = some s.secs ∧
      t.pins.hold = true ∧ t.flag Reg.PWR_LEAVE_QUEUE_VAULT = true ∧ t.cache = s.cache) ∧
  (∀ (r : Requester) (w : Word) (s : State), s.Asks r 0x150000 Reg.UMB_CTRL_REH_START w →
    Reg.UMB_CTRL_SEEP_HOLD.of w.toNat = s.get Reg.UMB_CTRL_SEEP_HOLD → s.rehRecent = true →
    Runs (.rehearsalRequest r w) s fun t => t.get Reg.UMB_REH_INFO_OUTCOME = 5 ∧ t.flag Reg.UMB_STATUS_REH_DONE = true ∧
      t.Frame (s.arrive r) [] (fieldsAt 0x150000 ++ [Reg.UMB_REH_INFO_OUTCOME, Reg.UMB_STATUS_REH_DONE])) ∧
  (∀ (r : Requester) (w : Word) (s : State), s.Asks r 0x170000 Reg.GRT_CTRL_FORMAT w →
    Reg.GRT_CTRL_GC_HOLD.of w.toNat = s.get Reg.GRT_CTRL_GC_HOLD → s.flag Reg.GRT_STATUS_FORMAT_ARMED = false →
    Runs (.grtFormatWrite r w) s fun t => t.flag Reg.GRT_STATUS_FORMAT_ARMED = true ∧
      t.Frame (s.arrive r) [] (fieldsAt 0x170000 ++ [Reg.GRT_STATUS_FORMAT_ARMED])) ∧
  (∀ (r : Requester) (w : Word) (s : State), s.Asks r 0x170000 Reg.GRT_CTRL_FORMAT w →
    Reg.GRT_CTRL_GC_HOLD.of w.toNat = s.get Reg.GRT_CTRL_GC_HOLD → s.flag Reg.GRT_STATUS_FORMAT_ARMED = true →
    s.pmr.st = .readOnly → errCode s.pmr.conds = 0x11 → s.vaulting = false → s.vlt.formatRun = false →
    Runs (.grtFormatWrite r w) s fun t => t.vlt.formatRun = true ∧ t.vlt.openKind = some 0 ∧ t.pmr.st = .closed ∧
      t.grt.formatted = true ∧ t.cache.grans = [] ∧ t.grt.bands = []) ∧
  (∀ (r : Requester) (w : Word) (s : State), s.Asks r 0x170000 Reg.GRT_CTRL_JRNL_FLUSH w →
    Reg.GRT_CTRL_GC_HOLD.of w.toNat = s.get Reg.GRT_CTRL_GC_HOLD → s.grt.staged ≠ [] → s.flag Reg.SYS_STATUS_SAFE = false →
    s.grt.gc = none → s.takesJournal → Runs (.jrnlFlush r w) s fun t => s.grt.recSeq < t.grt.recSeq ∧
      (∃ l, t.grt.journal ++ t.grt.staged = s.grt.journal ++ s.grt.staged ++ l ∧ t.grt.staged = s.grt.staged.drop 1021 ++ l) ∧
      t.Frame (s.arrive r) [.grt] (fieldsAt 0x170000)) ∧
  (∀ (r : Requester) (w : Word) (s : State) (b : Band), s.Asks r 0x170000 Reg.GRT_CTRL_GC_NOW w →
    Reg.GRT_CTRL_GC_HOLD.of w.toNat = s.get Reg.GRT_CTRL_GC_HOLD → s.grt.formatted = true → s.get Reg.GRT_GEOM_PAGES ≠ 0 →
    s.vaulting = false → s.grt.gc = none → s.flag Reg.SYS_STATUS_SAFE = false → s.gcAllowed = true →
    s.gcWanted = true ∨ s.gcMore = true → s.gcVictim = some b →
    Runs (.gcNow r w) s fun t => t.grt = { s.grt with gc := some ⟨b.num, [], 0⟩ } ∧ t.flag Reg.GRT_STATUS_GC_ACTIVE = true ∧
      t.Frame (s.arrive r) [.grt] (fieldsAt 0x170000 ++ [Reg.GRT_STATUS_GC_ACTIVE, Reg.GRT_STATUS_GC_HELD])) ∧
  (∀ (r : Requester) (w : Word) (s : State) (n : Nat), s.Asks r 0x140000 Reg.LAN_CTRL_LEARN_REQ w →
    n = Reg.LAN_CTRL_LEARN_PORT.of (Nat.lor w.toNat 32) → s.modSt n = mService → s.lan.learn = none →
    Runs (.learnReq r w) s fun t => n ∈ t.lan.due.map Prod.fst ∧ t.lan.learn = none ∧ t.cache = s.cache ∧ t.pmr = s.pmr) ∧
  (∀ (r : Requester) (w : Word) (s : State) (l : Learn), s.Asks r 0x140000 Reg.LAN_CTRL_LEARN_CANCEL w →
    s.lan.learn = some l → l.step ≠ 4 →
    Runs (.learnCancel r w) s fun t => t.lan.learn = none ∧ t.get Reg.LAN_LEARN_STATUS_LAST_OUTCOME = 6 ∧ l.port ∉ t.lan.due.map Prod.fst ∧
      l.port ∈ t.lan.retry ∧ t.cache = s.cache) ∧
  (∀ (r : Requester) (w : Word) (s : State), s.Asks r 0x130000 Reg.SUP_CTRL_OFF_REQ w → s.seqState = seqOn →
    s.get Reg.SUP_BTN_CFG_ORDERLY_S ≠ 0 → s.portsShut = false →
    Runs (.offReq r w) s fun t => t.seqState = seqGrace ∧ t.flag Reg.SUP_STATUS_OFF_PENDING = true ∧ t.cache = s.cache) ∧
  (∀ (r : Requester) (w : Word) (s : State) (v : Vault), s.Asks r 0x130000 Reg.SUP_CTRL_OFF_REQ w → s.seqState = seqVault →
    s.vlt.cur = some v → Runs (.offReq r w) s fun t => t.vlt.cur = some { v with offReq := true } ∧ t.seqState = seqVault) ∧
  (∀ (r : Requester) (w : Word) (s : State), s.Asks r 0x120000 Reg.PWR_CTRL_SLEEP_REQ w → s.flag Reg.SYS_STATUS_SAFE = false →
    s.mayEnter = true → Runs (.sleepReq r w) s fun t => t.get Reg.PWR_STATUS_STATE = pwrEntering ∧
      t.get Reg.PWR_STATUS_TARGET = pwrSleep ∧ t.pwr.request = 2 ∧ t.cache = s.cache) ∧
  (∀ (r : Requester) (w : Word) (s : State), s.Asks r 0x120000 Reg.PWR_CTRL_DEEP_REQ w → s.deepMay = true → s.mayEnter = true →
    Runs (.deepReq r w) s fun t => t.get Reg.PWR_STATUS_STATE = pwrEntering ∧ t.get Reg.PWR_STATUS_TARGET = pwrDeep ∧
      t.pwr.request = 3 ∧ t.pwr.prep = 2 ∧ t.cache = s.cache) ∧
  (∀ (r : Requester) (w : Word) (s : State), s.Asks r 0x120000 Reg.PWR_CTRL_DEEP_REQ w → s.deepMay = false →
    Runs (.deepReq r w) s fun t => t.Frame (s.arrive r) [] (fieldsAt 0x120000)) ∧
  (∀ (r : Requester) (w : Word) (s : State), s.Asks r 0x120000 Reg.PWR_CTRL_CANCEL w →
    Runs (.pwrCancel r w) s fun t => t.pwr = { s.pwr with request := 0, k := 0 } ∧ t.flag Reg.PWR_STATUS_RETRY = false ∧
      t.Frame (s.arrive r) [.pwr] (fieldsAt 0x120000 ++ [Reg.PWR_STATUS_RETRY])) ∧
  (∀ (r : Requester) (w : Word) (s : State), s.Asks r 0x120000 Reg.PWR_CTRL_WAKE_REQ w → s.get Reg.PWR_STATUS_STATE = pwrSleep →
    Runs (.wakeReq r w) s fun t => t.get Reg.PWR_STATUS_STATE = pwrExiting ∧ t.get Reg.PWR_WAKE_SOURCE = 12 ∧
      t.get Reg.PWR_WAKE_FROM = pwrSleep ∧ t.flag Reg.PWR_STATUS_WAKE_EV = true ∧ t.cache = s.cache) ∧
  (∀ (r : Requester) (w : Word) (s : State), s.Asks r 0x100004 Reg.SYS_CTRL_SAFE_CLR w →
    s.flag Reg.SYS_STATUS_SAFE_ARMED = false →
    Runs (.safeClr r w) s fun t => t.flag Reg.SYS_STATUS_SAFE_ARMED = true ∧
      t.Frame (s.arrive r) [] (fieldsAt 0x100004 ++ [Reg.SYS_STATUS_SAFE_ARMED])) ∧
  (∀ (r : Requester) (w : Word) (s : State), s.Asks r 0x100004 Reg.SYS_CTRL_SAFE_CLR w →
    s.flag Reg.SYS_STATUS_SAFE_ARMED = true → s.flag Reg.SYS_STATUS_SAFE = true → s.seqState = seqOn →
    s.rails.openedThisStart = false → s.boot.bootLog.length < 2048 →
    Runs (.safeClr r w) s fun t => t.seqState = seqDown ∧ t.flag Reg.SYS_STATUS_SAFE_ARMED = false ∧
      ∃ e, t.boot.bootLog = s.boot.bootLog ++ [e] ∧ e.kind = 4) ∧
  (∀ (r : Requester) (w : Word) (s : State) (n : Nat), s.Asks r 0x100028 Reg.SYS_PROV_CTRL_BURN w →
    n = Reg.SYS_PROV_CTRL_SLOT.of (Nat.lor w.toNat 1) → s.burnOk n = true →
    Runs (.provBurn r w) s fun t => t.boot.otpSlots = lset s.boot.otpSlots n (true, (s.boot.otpSlots.getD n (false, false)).2) ∧
      t.boot.prov = [] ∧ t.flag Reg.SYS_PROV_CTRL_DONE = true ∧ t.flag Reg.SYS_PROV_CTRL_ERR = false ∧
      t.Frame (s.arrive r) [.boot] (fieldsAt 0x100028)) ∧
  (∀ (r : Requester) (w : Word) (s : State) (n : Nat), s.Asks r 0x100028 Reg.SYS_PROV_CTRL_BURN w →
    n = Reg.SYS_PROV_CTRL_SLOT.of (Nat.lor w.toNat 1) → s.burnOk n = false →
    Runs (.provBurn r w) s fun t => t.flag Reg.SYS_PROV_CTRL_DONE = false ∧ t.flag Reg.SYS_PROV_CTRL_ERR = true ∧
      t.Frame (s.arrive r) [] (fieldsAt 0x100028)) ∧
  (∀ (r : Requester) (w : Word) (s : State) (n : Nat), s.Asks r 0x180000 Reg.FLC_CTRL_RETRAIN_GO w →
    n = Reg.FLC_CTRL_RETRAIN_CH.of (Nat.lor w.toNat 4096) → s.flag Reg.FLC_STATUS_TRIP = false →
    s.get (Reg.FLC_CHn_STATUS_STATE n) = 1 →
    Runs (.retrainGo r w true) s fun t => t.get (Reg.FLC_CHn_STATUS_RETRAINS n) = satAdd 255 (s.get (Reg.FLC_CHn_STATUS_RETRAINS n)) 1 ∧
      t.Frame (s.arrive r) [] (fieldsAt 0x180000 ++ [Reg.FLC_CHn_STATUS_RETRAINS n])) ∧
  (∀ (r : Requester) (w : Word) (s : State) (n : Nat), s.Asks r 0x180000 Reg.FLC_CTRL_RETRAIN_GO w →
    n = Reg.FLC_CTRL_RETRAIN_CH.of (Nat.lor w.toNat 4096) → s.flag Reg.FLC_STATUS_TRIP = false →
    s.get (Reg.FLC_CHn_STATUS_STATE n) = 1 →
    Runs (.retrainGo r w false) s fun t => t.get (Reg.FLC_CHn_STATUS_STATE n) = 3 ∧ t.umb.wanted = true)

/-- The commands that write a word or a key, and the register accesses of R509–R516: selections load their data registers, a read
gives the fields' values, a write gives each field what its access type allows, a domain that is off gives 0xDEAD0FFD. -/
def Obligations.RegisterWords : Prop :=
  (∀ (r : Requester) (w : Word) (s : State) (lun b : Nat), s.Writes r 0x18002C w.toNat → Reg.FLC_EC_SEL_AREA.of w.toNat = 0 →
    lun = Reg.FLC_EC_SEL_LUN.of w.toNat → b = Reg.FLC_EC_SEL_BLOCK.of w.toNat → (s.lun lun).st ≠ .absent →
    b < s.get Reg.GRT_GEOM_BLOCKS →
    Runs (.flcEcSelWrite r w) s fun t => t.get Reg.FLC_EC_DATA_COUNT = Nat.min (2 ^ 24 - 1) (s.blk lun b).ec ∧
      t.get Reg.FLC_EC_DATA_PFAIL = Nat.min 15 (s.blk lun b).pfail ∧ t.get Reg.FLC_EC_DATA_STATE = (s.blk lun b).st.code % 16 ∧
      t.Frame (s.arrive r) [] (fieldsAt 0x18002C ++ fieldsAt 0x180030)) ∧
  (∀ (r : Requester) (w : Word) (s : State) (i key : Nat), s.Writes r 0x190114 w.toNat → i = Reg.DMC_POS_SEL_POS.of w.toNat →
    key = ((Reg.DMC_POS_SEL_CH.of w.toNat * 2 + Reg.DMC_POS_SEL_SC.of w.toNat) * 2 + Reg.DMC_POS_SEL_RK.of w.toNat) * 10 + i →
    i < 10 → Runs (.dmcPosSelWrite r w) s fun t =>
      t.get Reg.DMC_POS_DATA_TOTAL = (mgetD s.dmc.pos key Position.init).total % 2 ^ 16 ∧
      t.get Reg.DMC_POS_DATA_BUCKET = (mgetD s.dmc.pos key Position.init).bucket % 2 ^ 8 ∧
      t.flag Reg.DMC_POS_DATA_DEGRADED = (mgetD s.dmc.pos key Position.init).degraded ∧
      t.Frame (s.arrive r) [] (fieldsAt 0x190114 ++ fieldsAt 0x190118)) ∧
  (∀ (r : Requester) (w : Word) (s : State) (low : Nat), s.reaches r = true → r.port = none → r ≠ .uart → s.domOn .dram = true →
    (s.regPort r).held = some (0x190050, low) → low < 2 ^ 32 → w.toNat < 2 ^ 7 → s.capBytes ≤ w.toNat * 2 ^ 32 + low →
    Runs (.dmcXlate r w) s fun t => t.get Reg.DMC_XLATE_ADDR_ADDR = w.toNat * 2 ^ 32 + low ∧
      t.flag Reg.DMC_XLATE_RESULT0_VALID = true ∧ t.flag Reg.DMC_XLATE_RESULT0_RANGE_ERR = true) ∧
  (∀ (r : Requester) (w : Word) (s : State) (low a : Nat), s.reaches r = true → r.port = none → r ≠ .uart →
    s.domOn .dram = true → (s.regPort r).held = some (0x190050, low) → low < 2 ^ 32 → w.toNat < 2 ^ 7 →
    a = w.toNat * 2 ^ 32 + low → a < s.capBytes →
    Runs (.dmcXlate r w) s fun t => t.flag Reg.DMC_XLATE_RESULT0_VALID = true ∧
      t.flag Reg.DMC_XLATE_RESULT0_RANGE_ERR = false ∧ t.get Reg.DMC_XLATE_RESULT0_ROW = (s.dramAddr a).row % 2 ^ 17 ∧
      t.get Reg.DMC_XLATE_RESULT0_COL = (s.dramAddr a).col % 2 ^ 7 ∧ t.get Reg.DMC_XLATE_RESULT1_CH = (s.dramAddr a).ch % 4) ∧
  (∀ (r : Requester) (w : Word) (s : State) (low a : Nat), s.reaches r = true → r.port = none → r ≠ .uart →
    s.domOn .dram = true → (s.regPort r).held = some (0x190160, low) → low < 2 ^ 32 → w.toNat < 2 ^ 7 →
    a = w.toNat * 2 ^ 32 + low → a < s.capBytes → s.chFrozen (s.dramAddr a).ch = true →
    Runs (.dmcDiagRead r w) s fun t => t.flag Reg.DMC_DIAG_RESULT_VALID = true ∧ t.flag Reg.DMC_DIAG_RESULT_REFUSED = false ∧
      t.dmc = s.dmc ∧ t.cache = s.cache) ∧
  (∀ (r : Requester) (w : Word) (s : State) (low a : Nat), s.reaches r = true → r.port = none → r ≠ .uart →
    s.domOn .dram = true → (s.regPort r).held = some (0x190160, low) → low < 2 ^ 32 → w.toNat < 2 ^ 7 →
    a = w.toNat * 2 ^ 32 + low → s.chFrozen (s.dramAddr a).ch = false →
    Runs (.dmcDiagRead r w) s fun t => t.flag Reg.DMC_DIAG_RESULT_VALID = false ∧ t.flag Reg.DMC_DIAG_RESULT_REFUSED = true ∧
      t.dmc = s.dmc) ∧
  (∀ (r : Requester) (w : Word) (s : State), s.Writes r 0x10002C w.toNat → s.boot.prov.length < 20 →
    Runs (.provDataWrite r w) s fun t => t.boot = { s.boot with prov := s.boot.prov ++ [w.toNat] } ∧
      t.Frame (s.arrive r) [.boot] []) ∧
  (∀ (cp : Fin 4) (s : State), s.domOn .ctrl = true → s.domOn .aon = true →
    Runs (.wdtHeartbeat cp) s fun t => t.get Reg.WDT_HB_CP = Nat.lor (s.get Reg.WDT_HB_CP) (2 ^ cp.val) % 16 ∧
      t.Frame s [] [Reg.WDT_HB_CP]) ∧
  (∀ (cp : Fin 4) (s : State), s.domOn .ctrl = true → s.domOn .aon = true →
    Runs (.wdtKick (cpReq cp) 0x5A) s fun t => t.boot = { s.boot with kickHalf := true } ∧ t.Frame s [.boot] []) ∧
  (∀ (cp : Fin 4) (s : State), s.domOn .ctrl = true → s.domOn .aon = true → s.boot.kickHalf = true → s.get Reg.WDT_HB_CP = 15 →
    Runs (.wdtKick (cpReq cp) 0xA5) s fun t => t.get Reg.WDT_HB_CP = 0 ∧ t.get Reg.WDT_STATUS_STAGE = 0 ∧
      t.boot.kickHalf = false ∧ t.boot.wdtStage = (if s.boot.wdtStage = 0 then 0 else 1) ∧
      t.Frame s [.boot] [Reg.WDT_HB_CP, Reg.WDT_STATUS_STAGE]) ∧
  (∀ (r : Requester) (o : Nat) (row : RegRow) (s : State), s.reaches r = true → r.port = none → inWindow o = true → o % 4 = 0 →
    (∃ b, Block.ofOff o = some b ∧ s.domOn b.domain = true) → regAt o = some (row, false) → row.wide = false →
    Runs (.registerRead r o 4) s fun t => t.out = s.out ++ [.reg r (s.wordOf row) false] ∧
      (∀ f ∈ row.flds, f.acc = .rc → t.get f = 0) ∧ t.Frame s [] (row.flds.filter (fun f => f.acc == .rc))) ∧
  (∀ (r : Requester) (o : Nat) (row : RegRow) (s : State), s.reaches r = true → r.port = none → inWindow o = true → o % 4 = 0 →
    (∃ b, Block.ofOff o = some b ∧ s.domOn b.domain = true) → regAt o = some (row, true) →
    (s.regPort r).lastLow = some row.off →
    Runs (.registerRead r o 4) s fun t => t.out = s.out ++ [.reg r (s.regPort r).latch false] ∧ t.regs = s.regs ∧
      t.Frame s [] []) ∧
  (∀ (p : Port) (o : Nat) (row : RegRow) (s : State), s.Claims p → inWindow o = true → o % 4 = 0 →
    (∃ b, Block.ofOff o = some b ∧ s.domOn b.domain = true) → regAt o = some (row, false) → row.wide = false →
    Runs (.registerRead p.req o 4) s fun t => t.out = s.out ++ [.cpl p .success false (natLe (s.wordOf row) 4)]) ∧
  (∀ (r : Requester) (o : Nat) (b : Block) (s : State), s.reaches r = true → r.port = none → inWindow o = true → o % 4 = 0 →
    Block.ofOff o = some b → s.domAnswers b.domain = false →
    Runs (.registerRead r o 4) s fun t => .reg r 0xDEAD0FFD true ∈ t.out ∧ t.get Reg.PWR_OFFACC_REQUESTER = r.code ∧
      t.get Reg.PWR_OFFACC_COUNT = satAdd (2 ^ Reg.PWR_OFFACC_COUNT.width - 1) (s.get Reg.PWR_OFFACC_COUNT) 1) ∧
  (∀ (r : Requester) (o : Nat) (data : List Byte) (row : RegRow) (s : State), s.Writes r o (leNat data) → inWindow o = true →
    o % 4 = 0 → data.length = 4 → regAt o = some (row, false) → (row.flds.map Fld.key).Nodup →
    (∀ f ∈ row.flds, f.OffRecorder) → o ∉ actingOffsets →
    Runs (.registerWrite r o data [true, true, true, true]) s fun t => t.Frame (s.arrive r) [] row.flds ∧
      ∀ f ∈ row.flds, (f.acc = .rw → t.get f = f.of (leNat data)) ∧
        (f.acc = .ro ∨ f.acc = .rc ∨ f.acc = .wo → t.get f = (s.arrive r).get f) ∧
        (f.acc = .rwl → s.flag Reg.CFG_CTRL_LOCK = true → f.key ≠ Reg.CFG_CTRL_LOCK.key → t.get f = (s.arrive r).get f)) ∧
  (∀ (p : Port) (o : Nat) (data : List Byte) (be : List Bool) (s : State), s.Claims p → inWindow o = true →
    sizeOk o data.length = false →
    Runs (.registerWrite p.req o data be) s fun t => bitOf (t.port p).aerUnc 20 = true ∧ t.regs = (s.arrive p.req).regs)

/-- The latch and the held dword of each requester (R513): a 64-bit register stands in two dwords, the low one first; the low
dword's read samples the register, the high dword's read returns the latch after it and the live dword otherwise, two dwords are
sampled once; a low dword that is written waits for the high one, whose write takes both and starts the register's action (R253,
R283); an access to another register discards it. -/
def Obligations.HighDwordLatch : Prop :=
  (∀ (r : Requester) (o : Nat) (b : Block) (row : RegRow) (s : State), s.host.latches.length = 9 → Block.ofOff o = some b →
    s.domOn b.domain = true → regAt o = some (row, false) → row.wide = true →
    (s.regRead r o).val = s.wordOf row % 2 ^ 32 ∧
      (s.regRead r o).st.regPort r = { s.regPort r with
        lastLow := some row.off, latch := s.wordOf row / 2 ^ 32, held := ((s.noteAccess r row.off).regPort r).held } ∧
      ∀ q : Requester, q ≠ r → (s.regRead r o).st.regPort q = s.regPort q) ∧
  (∀ (r : Requester) (o : Nat) (b : Block) (row : RegRow) (s : State), Block.ofOff o = some b → s.domOn b.domain = true →
    regAt o = some (row, true) → (s.regRead r o).val =
      (if (s.regPort r).lastLow = some row.off then (s.regPort r).latch else s.wordOf row / 2 ^ 32)) ∧
  (∀ (r : Requester) (o : Nat) (b : Block) (row : RegRow) (s : State), s.host.latches.length = 9 → Block.ofOff o = some b →
    Block.ofOff (o + 4) = some b → s.domOn b.domain = true → regAt o = some (row, false) → regAt (o + 4) = some (row, true) →
    row.wide = true → (s.regRead2 r o).val = s.wordOf row) ∧
  (∀ (r : Requester) (o w : Nat) (b : Block) (row : RegRow) (s : State), s.host.latches.length = 9 → r ≠ .uart →
    Block.ofOff o = some b → s.domOn b.domain = true → s.mayWrite r o w = true → regAt o = some (row, false) → row.wide = true →
    row.writable = true → (s.regWrite r o w).st.regs = s.regs ∧ (s.regWrite r o w).st.Frame s [] [] ∧
      ((s.regWrite r o w).st.regPort r).held = some (row.off, w)) ∧
  (∀ (r : Requester) (w : Word) (low : Nat) (s : State), r ≠ .uart → s.domOn .aon = true →
    (s.regPort r).held = some (0x1B0040, low) → low < 2 ^ 32 →
    (s.regWrite r 0x1B0044 w.toNat).st.get Reg.EVR_RD_SEQ_SEQ = w.toNat * 2 ^ 32 + low ∧
      ((s.regWrite r 0x1B0044 w.toNat).st.regPort r).held = none) ∧
  (∀ (r : Requester) (o w : Nat) (hi : Bool) (b : Block) (row : RegRow) (h : Nat × Nat) (s : State),
    s.host.latches.length = 9 → Block.ofOff o = some b → s.domOn b.domain = true → regAt o = some (row, hi) →
    (s.regPort r).held = some h → h.1 ≠ row.off → ((s.regRead r o).st.regPort r).held = none ∧
      (s.mayWrite r o w = true → ((s.regWrite r o w).st.regPort r).held ≠ some h)) ∧
  (∀ (o : Nat) (row : RegRow), regAt o = some (row, false) → row.wide = true →
    row.off = o ∧ o % 8 = 0 ∧ regAt (o + 4) = some (row, true)) ∧
  (∀ (r : Requester) (w : Word) (low : Nat) (s : State), r ≠ .uart → s.domOn .dram = true →
    (s.regPort r).held = some (0x190050, low) → low < 2 ^ 32 → w.toNat < 2 ^ 7 →
    (s.regWrite r 0x190054 w.toNat).st.get Reg.DMC_XLATE_ADDR_ADDR = w.toNat * 2 ^ 32 + low ∧
      (s.regWrite r 0x190054 w.toNat).st.flag Reg.DMC_XLATE_RESULT0_VALID = true ∧
      ((s.regWrite r 0x190054 w.toNat).st.regPort r).held = none) ∧
  (∀ (r : Requester) (w : Word) (low : Nat) (s : State), r ≠ .uart → s.domOn .dram = true →
    (s.regPort r).held = some (0x190160, low) → low < 2 ^ 32 → w.toNat < 2 ^ 7 →
    (s.regWrite r 0x190164 w.toNat).st.get Reg.DMC_DIAG_ADDR_ADDR = w.toNat * 2 ^ 32 + low ∧
      (s.regWrite r 0x190164 w.toNat).st.flag Reg.DMC_DIAG_RESULT_VALID =
        !(s.regWrite r 0x190164 w.toNat).st.flag Reg.DMC_DIAG_RESULT_REFUSED ∧
      ((s.regWrite r 0x190164 w.toNat).st.regPort r).held = none)

/-- Who may write (R515): WDT_HB bit n only CP n, WDT_KICK only the control processors, the provisioning registers only CP0
and the SMBus, the console nothing once the lock is set, and every requester every other field. A write that is forbidden is
dropped without error and recorded with severity 3 and code 0x3003. What an access reads or writes does not depend on who
makes it. -/
def Obligations.WriteRights : Prop :=
  (∀ (o w : Nat) (s : State), s.flag Reg.CFG_CTRL_LOCK = true → s.mayWrite .uart o w = false) ∧
  (∀ (r : Requester) (o w : Nat) (s : State), r ≠ .uart ∨ s.flag Reg.CFG_CTRL_LOCK = false →
    (o ∉ [0x1D0008, 0x1D000C, 0x100028, 0x10002C] → s.mayWrite r o w = true) ∧
    (o = 0x1D0008 → (s.mayWrite r o w = true ↔ r ∈ [.cp0, .cp1, .cp2, .cp3])) ∧
    (o = 0x100028 ∨ o = 0x10002C → (s.mayWrite r o w = true ↔ r = .cp0 ∨ r = .smbus)) ∧
    (o = 0x1D000C → (s.mayWrite r o w = true ↔ ∀ i : Fin 4, bitOf w i.val = true → r = cpReq i))) ∧
  (∀ (r : Requester) (o w : Nat) (b : Block) (s : State), Block.ofOff o = some b → s.domOn b.domain = true →
    s.mayWrite r o w = false → w < 2 ^ 32 → s.domOn .aon = true → s.openMatch b.source 0x3003 (o % 65536) = none →
    s.evrMode = 0 → s.evr.opens.length < 64 → s.evr.ring.length < 2048 → s.evr.lostBySev.all (fun n => n == 0) = true →
    (s.regWrite r o w).off = false ∧ (s.regWrite r o w).refused = true ∧ (s.regWrite r o w).st.Frame s [] [] ∧
      ∃ e x, (s.regWrite r o w).st.evr.ring = s.evr.ring ++ [⟨e, x, false⟩] ∧ e.code = 0x3003 ∧ e.sev = 3 ∧
        e.src = b.source ∧ e.snap = [o, w, r.code, 0]) ∧
  (∀ (r : Requester) (o w : Nat) (b : Block) (s : State), Block.ofOff o = some b → s.domOn b.domain = true →
    s.mayWrite r o w = false →
    (s.regWrite r o w).off = false ∧ (s.regWrite r o w).refused = true ∧ (s.regWrite r o w).st.Frame s [] []) ∧
  (∀ (r q : Requester) (o : Nat) (s : State), (∀ row, regAt o ≠ some (row, true)) →
    (s.regRead r o).val = (s.regRead q o).val ∧ (s.regRead r o).off = (s.regRead q o).off) ∧
  (∀ (r q : Requester) (o w : Nat) (b : Block) (row : RegRow) (s : State), Block.ofOff o = some b → s.domOn b.domain = true →
    s.mayWrite r o w = true → s.mayWrite q o w = true → regAt o = some (row, false) → row.wide = false →
    strayBits row.mask w = false → (∀ f ∈ row.flds, f.OffRecorder) → o ∉ actingOffsets →
    ∀ f ∈ row.flds, (s.regWrite r o w).st.get f = (s.regWrite q o w).st.get f)

/-! ## The vault and the restore -/

/-- POWER_FAIL_TRIP in each state it can find, VIN_SENSE_RISE and INPUT_RETURNED. In ON or GRACE with the vault-arm flag set the
vault begins: HOLD_EN is asserted, ingest closes, PWROK is ignored, the watchdog is masked. -/
def Obligations.PowerFailTrips : Prop :=
  (∀ s : State, s.domOn .aon = true → s.vlt.input = true → s.vlt.cur = none → s.seqState = seqOn ∨ s.seqState = seqGrace →
    s.flag Reg.CLK_STATUS_HOLD = false → s.InRun → s.rails.openedThisStart = true → s.flag Reg.VLT_STATUS_ARMED = true →
    Runs .powerFailTrip s fun t => t.seqState = seqVault ∧
      (∃ v, t.vlt.cur = some v ∧ v = { Vault.start .trip true s.rehearsing with carried := v.carried, carriedSer := v.carriedSer } ∧
        v.carriedSer = t.carriedFlights.map (fun f => f.stripe.serial)) ∧
      t.vlt.input = false ∧ t.pins.hold = true ∧ t.pmr.st = .closed ∧ t.pmr.ingestOpen = false ∧ t.pmr.barriers = [] ∧
      t.flag Reg.SUP_STATUS_VAULT_SUPPRESS = true ∧ t.flag Reg.WDT_STATUS_MASKED = true ∧ t.flag Reg.FLC_STATUS_TRIP = true ∧
      t.get Reg.VLT_STATUS_PHASE = 1 ∧ t.cache.cells = s.cache.cells) ∧
  (∀ s : State, s.domOn .aon = true → s.vlt.input = true → s.vlt.cur = none → s.seqState = seqOn →
    s.flag Reg.CLK_STATUS_HOLD = false → s.InRun → s.rails.openedThisStart = true → s.flag Reg.VLT_STATUS_ARMED = false →
    Runs .powerFailTrip s fun t => t.vlt = { s.vlt with input := false, counting := false } ∧
      t.pwr = { s.pwr with request := 0, k := 0 } ∧ t.rails = { s.rails with ffBarred := true } ∧
      t.Frame s [.vlt, .pwr, .rails] [Reg.PWR_STATUS_RETRY]) ∧
  (∀ s : State, s.domOn .aon = true → s.vlt.input = true → s.vlt.cur = none → s.seqState = seqUp →
    s.flag Reg.SUP_STATUS_ON_PENDING = false →
    Runs .powerFailTrip s fun t => t.seqState = seqOff ∧ t.rails.autoOn = true ∧ t.pins.hold = false ∧ t.cache = Cache.init) ∧
  (∀ (v : Vault) (s : State), s.domOn .aon = true → s.vlt.input = true → s.vlt.cur = some v → v.sealed = false →
    s.seqState = seqVault → s.flag Reg.VLT_STATUS_ARMED = true →
    Runs .powerFailTrip s fun t => t.vlt = { s.vlt with input := false, counting := false, cur := some { v with tripped := true } } ∧
      t.pins.hold = true ∧ t.rails = { s.rails with ffBarred := true } ∧ t.Frame s [.vlt, .rails] [Reg.VLT_STATUS_HOLD]) ∧
  (∀ (v : Vault) (s : State), s.domOn .aon = true → s.vlt.input = true → s.vlt.cur = some v → v.sealed = true →
    Runs .powerFailTrip s fun t => t.vlt = { s.vlt with input := false, counting := false } ∧
      t.rails = { s.rails with ffBarred := true } ∧ t.Frame s [.vlt, .rails] []) ∧
  (∀ s : State, s.domOn .aon = true → s.vlt.input = false →
    Runs .vinSenseRise s fun t => t.vlt = { s.vlt with input := true, counting := true } ∧ t.Frame s [.vlt] []) ∧
  (∀ (v : Vault) (s : State), s.vlt.input = true → s.vlt.counting = true → s.vlt.cur = some v →
    Runs .inputReturned s fun t => t.vlt = { s.vlt with counting := false } ∧ t.flag Reg.VLT_STATUS_INPUT_RET = true ∧
      t.Frame s [.vlt] [Reg.VLT_STATUS_INPUT_RET]) ∧
  (∀ s : State, s.vlt.input = true → s.vlt.counting = true → s.vlt.cur = none → s.seqState = seqOff → s.rails.autoOn = true →
    s.flag Reg.SUP_SEQ_CFG_AUTO_ON = true →
    Runs .inputReturned s fun t => t.seqState = seqUp ∧ t.boot.starting = true ∧ t.get Reg.PWR_WAKE_SOURCE = 13)

/-- The vault's own course: the drain and the manifest, the seal copies, the release without and with the input, the domains
and the open record after it. -/
def Obligations.VaultCourse : Prop :=
  (∀ (v : Vault) (closeNs drainNs firstNs : Nat) (s : State), s.vlt.cur = some v → v.taken = false → s.pmr.merge = [] →
    Runs (.vaultDrainComplete closeNs drainNs firstNs) s fun t =>
      (∃ x, t.vlt.cur = some x ∧ x.taken = true ∧ x.manifest = mergeAsc s.dirtyList v.carried ∧
        x.info.carried = v.carriedSer) ∧
      t.get Reg.VLT_T_EARLY_CLOSE_NS = Nat.min 65535 closeNs ∧ t.get Reg.VLT_T_EARLY_DRAIN_NS = Nat.min 65535 drainNs ∧
      t.get Reg.VLT_T_FIRST_FIRST_NS = Nat.min 65535 firstNs ∧ ∀ p, (t.port p).linkUp = false) ∧
  (∀ (v : Vault) (fails : List Nat) (us : Nat) (s : State), s.vlt.cur = some v → v.sealed = false → v.tail = true →
    v.cause ≠ .deepPrep → (s.sealCopies v fails).good ≠ [] →
    Runs (.sealProgrammed fails us) s fun t =>
      (∃ n, t.vlt.cur = some { v with sealed := true, tailPage := true, lunsOut := v.lunsOut + n }) ∧
      t.flag Reg.VLT_STATUS_ARMED = false ∧ t.get Reg.VLT_STATUS_PHASE = 6 ∧ t.flag Reg.SUP_STATUS_VAULT_SUPPRESS = false ∧
      t.get Reg.VLT_VAULT_NUM_NUM = v.info.vault % 2 ^ 32 ∧ t.get Reg.VLT_T_SEAL_SEAL_US = us % 2 ^ 32 ∧
      ∃ r, t.grt.seals = s.grt.seals ++ [r] ∧ r.vault = v.info.vault ∧ r.granules = v.manifest.length ∧ r.stripes = v.count ∧
        r.tSeal = us ∧ r.recSeq = s.grt.recSeq + 1) ∧
  (∀ (v : Vault) (fails : List Nat) (us : Nat) (s : State), s.vlt.cur = some v → v.sealed = false → v.tail = true →
    v.cause ≠ .deepPrep → (s.sealCopies v fails).good = [] →
    Runs (.sealProgrammed fails us) s fun t =>
      (∃ n, t.vlt.cur = some { v with sealFails := v.sealFails + 1, sealTried := v.sealTried ++ (s.sealLists v).flatten,
                                       failed := v.failed || decide (1 ≤ v.sealFails), lunsOut := v.lunsOut + n }) ∧
      t.grt.seals = s.grt.seals ∧ t.flag Reg.VLT_STATUS_ARMED = s.flag Reg.VLT_STATUS_ARMED ∧ t.cache = s.cache) ∧
  (∀ (v : Vault) (s : State), s.vlt.cur = some v → (v.sealed = true ∧ v.tailPage = true) ∨ v.failed = true →
    s.vlt.input = false → s.flag Reg.SUP_STATUS_ON_PENDING = false →
    Runs .vaultRelease s fun t => t.seqState = seqOff ∧ t.vlt.cur = none ∧ t.pins.hold = false ∧ t.cache = Cache.init ∧
      t.rails.autoOn = true ∧ t.grt.seals = s.grt.seals) ∧
  (∀ (v : Vault) (s : State), s.vlt.cur = some v → v.sealed = true → v.tailPage = true → s.vlt.input = true →
    s.vlt.counting = false → v.cause = .trip → v.offReq = false → v.mrst = false → s.boot.wdtLatch = false →
    Runs .vaultRelease s fun t => t.seqState = seqOn ∧ t.vlt.cur = none ∧ t.pins.hold = false ∧
      t.get Reg.VLT_STATUS_PHASE = 0 ∧ t.flag Reg.WDT_STATUS_MASKED = false ∧ t.flag Reg.PWR_LEAVE_QUEUE_VAULT = false ∧
      t.cache = s.cache) ∧
  (∀ (v : Vault) (s : State), s.vlt.cur = some v → v.sealed = false ∨ v.tailPage = false → v.failed = false →
    Runs .vaultRelease s fun t => t.Frame s [] []) ∧
  (∀ (v : Vault) (s : State), s.vlt.cur = some v → v.sealed = true → v.tailPage = true → s.vlt.input = true →
    v.cause = .longPress → Runs .vaultRelease s fun t => t.seqState = seqDown ∧ t.vlt.cur = none ∧ t.pins.hold = false) ∧
  (∀ s : State, s.seqState = seqOn → s.vlt.cur = none → s.boot.starting = false → s.vlt.input = true → s.vlt.counting = false →
    s.pmr.st = .closed → s.domSt .host = .off → s.unopened = true → s.pair = false →
    Runs .postVaultDomainUp s fun t => t.vlt = { s.vlt with openKind := some 2 } ∧
      t.pwr.dom = lset s.pwr.dom Domain.host.idx .on ∧ t.cache = s.cache ∧ t.pmr = s.pmr) ∧
  (∀ (k ms : Nat) (fails worn : List Nat) (s : State), s.vlt.openKind = some k → s.vlt.input = true → s.vlt.formatRun = false →
    ((s.openReady k worn).openCopies fails).good ≠ [] →
    Runs (.openRecordProgrammed fails worn ms) s fun t => t.flag Reg.VLT_STATUS_ARMED = true ∧ t.vlt.openKind = none ∧
      t.rails.openedThisStart = true ∧ t.get Reg.VLT_OUTCOME_KIND = k % 16 ∧ t.pmr.st ≠ .closed ∧
      t.get Reg.GRT_SESSION_SESSION = (s.get Reg.GRT_SESSION_SESSION + 1) % 2 ^ 32 ∧
      ∃ o, t.grt.opens = s.grt.opens ++ [o] ∧ o.kind = k ∧ o.session = s.get Reg.GRT_SESSION_SESSION + 1) ∧
  (∀ (k ms : Nat) (fails worn : List Nat) (s : State), s.vlt.openKind = some k → s.vlt.input = true → s.grt.openFails < 2 →
    ((s.openReady k worn).openCopies fails).good = [] →
    Runs (.openRecordProgrammed fails worn ms) s fun t => t.grt.openFails = s.grt.openFails + 1 ∧ t.vlt.openKind = some k ∧
      t.flag Reg.VLT_STATUS_ARMED = s.flag Reg.VLT_STATUS_ARMED ∧ t.grt.opens = s.grt.opens ∧ t.cache.cells = s.cache.cells) ∧
  (∀ (k ms : Nat) (fails worn : List Nat) (s : State), s.vlt.openKind = some k → s.vlt.input = true → s.grt.openFails = 2 →
    ((s.openReady k worn).openCopies fails).good = [] →
    Runs (.openRecordProgrammed fails worn ms) s fun t => t.seqState = seqDown ∧ t.get Reg.SYS_STATUS_LAST_FAIL = 6)

/-- The restore: the seal search fixes the basis from the record pages that it could read, or the start fails without any; the map
build gives the open record that follows, the wait for the peer ends, and a fetch, on demand or in the background copy's turn,
puts the granule's newest version in DRAM or poisons it. -/
def Obligations.Restores : Prop :=
  (∀ (bad : List (Nat × Nat × Nat)) (differ : Bool) (s : State), s.boot.starting = true → s.boot.startStep = 6 →
    s.get Reg.VLT_STATUS_PHASE = 7 → s.vlt.openKind = none → s.flag Reg.PWR_AON_AON_LOST = true → s.ech.vinfoOwn = none →
    s.grt.formatted = true →
    Runs (.sealSearchComplete bad differ) s fun t =>
      t.vlt = { s.vlt with basisOwn := (s.searchRead bad differ).basis, basisMir := (s.searchRead bad differ).basis } ∧
      t.get Reg.VLT_VAULT_NUM_NUM = (s.searchRead bad differ).newestVault % 2 ^ 32 ∧ t.cache = s.cache ∧
      t.grt = (s.searchRead bad differ).grt) ∧
  (∀ (bad : List (Nat × Nat × Nat)) (differ : Bool) (s : State), s.boot.starting = true → s.boot.startStep = 6 →
    s.get Reg.VLT_STATUS_PHASE = 7 → s.vlt.openKind = none → s.flag Reg.PWR_AON_AON_LOST = true → s.ech.vinfoOwn = none →
    s.grt.formatted = false → s.flag Reg.SYS_STATUS_SAFE = false → (s.boot.running.map (fun i => i.firstFormat)).getD false = false →
    Runs (.sealSearchComplete bad differ) s fun t => t.seqState = seqDown ∧ t.get Reg.SYS_STATUS_LAST_FAIL = 7) ∧
  (∀ (bad : List (Nat × Nat × Nat)) (differ : Bool) (s : State), s.boot.starting = false ∨ s.flag Reg.PWR_AON_AON_LOST = false →
    Runs (.sealSearchComplete bad differ) s fun t => t.Frame s [] []) ∧
  (∀ (ms badSums far openMs : Nat) (lost : List (Nat × Nat)) (clash failed : List Nat) (differ : List JEnt) (s : State),
    s.boot.starting = true → s.boot.startStep = 6 → s.get Reg.VLT_STATUS_PHASE = 7 → s.vlt.openKind = none →
    s.ech.vinfoOwn = none → s.vlt.basisOwn ≠ 0 → s.pair = false → s.flag Reg.SYS_STATUS_SAFE = false →
    Runs (.mapBuildComplete ms lost badSums far clash differ failed openMs) s fun t =>
      t.vlt.openKind = some (if s.vlt.basisOwn = 6 then 0 else 1) ∧ t.ech.vinfoOwn.isSome = true ∧
      t.get Reg.VLT_RST_TIME_SCAN_MS = Nat.min 65535 ms ∧ t.get Reg.GRT_SCAN_FAR_READS = Nat.min 65535 far ∧
      ∀ b ∈ t.grt.bands, b.closed = true) ∧
  (∀ (ms badSums far openMs : Nat) (lost : List (Nat × Nat)) (clash failed : List Nat) (differ : List JEnt) (s : State),
    s.boot.starting = false ∨ s.vlt.basisOwn = 0 →
    Runs (.mapBuildComplete ms lost badSums far clash differ failed openMs) s fun t => t.Frame s [] []) ∧
  (∀ s : State, s.vlt.waitPeer = true → s.flag Reg.SYS_STATUS_SAFE = false →
    Runs .peerWaitExpiry s fun t =>
      t.vlt = { s.vlt with waitPeer := false, fixed := true, openKind := some (if s.vlt.basisOwn = 6 then 0 else 1) } ∧
      t.cache = s.cache) ∧
  (∀ s : State, s.vlt.waitPeer = false → Runs .peerWaitExpiry s fun t => t.Frame s [] []) ∧
  (∀ (g us : Nat) (v : GVer) (s : State), (s.ent g).st = .fetching → (s.ent g).fromPeer = false → s.verOf g = some v →
    mget s.pmr.merge g = none → s.pmr.waitReads = [] → s.ech.greqIn = [] → s.ech.fwdIn = [] → s.ech.mwrWait = [] →
    s.granFrozen g = false → s.dramClean = true → s.vaulting = false →
    Runs (.granuleFetchComplete g true us) s fun t => t.ent g = { s.ent g with st := .copied, demand := false } ∧
      t.cache.cells = replaceCells s.cache.cells (g * 4096) 4096 v.data ∧
      t.get Reg.VLT_DEMAND_MAX_MAX_US = if (s.ent g).demand = true then
        Nat.max (s.get Reg.VLT_DEMAND_MAX_MAX_US) (Nat.min 65535 us) % 2 ^ 16 else s.get Reg.VLT_DEMAND_MAX_MAX_US) ∧
  (∀ (g us : Nat) (v : GVer) (s : State), (s.ent g).st = .notCopied → s.verOf g = some v → s.copyTurn g = true →
    s.flag Reg.VLT_CTRL_COPY_PAUSE = false → s.pmr.st ≠ .closed →
    mget s.pmr.merge g = none → s.pmr.waitReads = [] → s.ech.greqIn = [] → s.ech.fwdIn = [] → s.ech.mwrWait = [] →
    s.granFrozen g = false → s.dramClean = true → s.vaulting = false →
    Runs (.granuleFetchComplete g true us) s fun t => t.ent g = { s.ent g with st := .copied, demand := false } ∧
      t.cache.cells = replaceCells s.cache.cells (g * 4096) 4096 v.data) ∧
  (∀ (g us : Nat) (s : State), (s.ent g).st = .fetching → (s.ent g).fromPeer = false → s.peerHas = false →
    s.granFrozen g = false →
    mget s.pmr.merge g = none → s.pmr.waitReads = [] → s.ech.greqIn = [] → s.ech.fwdIn = [] → s.ech.mwrWait = [] →
    Runs (.granuleFetchComplete g false us) s fun t => (mget t.pmr.poison g).isSome = true) ∧
  (∀ (g us : Nat) (ok : Bool) (s : State), (s.ent g).st = .noVersion → s.flag Reg.VLT_CTRL_COPY_PAUSE = false →
    s.vaulting = false → s.pmr.st ≠ .closed → s.copyTurn g = true → g < s.cacheGrans →
    Runs (.granuleFetchComplete g ok us) s fun t => t.ent g = { s.ent g with st := .copied } ∧
      t.cache.cells = s.cache.cells ∧ t.Frame s [.cache] []) ∧
  (∀ (g us : Nat) (ok : Bool) (s : State), (s.ent g).st ≠ .fetching → s.flag Reg.VLT_CTRL_COPY_PAUSE = true →
    Runs (.granuleFetchComplete g ok us) s fun t => t.Frame s [] []) ∧
  (∀ s : State, s.flag Reg.VLT_CTRL_COPY_PAUSE = true →
    Runs .copyPauseExpiry s fun t => t.flag Reg.VLT_CTRL_COPY_PAUSE = false ∧ t.Frame s [] [Reg.VLT_CTRL_COPY_PAUSE])

/-! ## Start-up, the watchdog, the temperature -/

/-- POWER_ON_RESET, COLD_START and WARM_START: power-on begins a start; a start without NOR or image fails with its reason;
one that finds its image goes on; one that waits for the die to cool does nothing. -/
def Obligations.Starts : Prop :=
  (∀ (testMode : Bool) (s : State), Runs (.powerOnReset testMode) s fun t => t.seqState = seqUp ∧ t.boot.starting = true ∧
    t.boot.startStep = 1 ∧ t.boot.powered = false ∧ t.boot.running = none ∧ t.pwr.upDom = some .sup ∧ t.test = ⟨testMode, .idcode⟩ ∧
    t.get Reg.SYS_OPSEC_PWR_CYCLES = 1 ∧ t.cache = Cache.init ∧ t.broker = Broker.init ∧ t.vlt.cur = none ∧ t.pins.hold = false) ∧
  (∀ (i : StartIn) (s : State), s.startReady = true → s.boot.startStep = 1 → s.get Reg.SUP_SEQ_STATUS_ATTEMPT = 0 →
    i.norMeets = false → Runs (.coldStart i) s fun t => t.seqState = seqDown ∧ t.get Reg.SYS_STATUS_LAST_FAIL = 11 ∧
      t.boot.starting = false) ∧
  (∀ (i : StartIn) (s : State), s.startReady = true → s.boot.startStep = 1 → s.get Reg.SUP_SEQ_STATUS_ATTEMPT = 0 →
    i.norMeets = true → s.boot.banks = [none, none] → s.boot.wantsSafe = false →
    Runs (.coldStart i) s fun t => t.seqState = seqDown ∧ t.get Reg.SYS_STATUS_LAST_FAIL = 1) ∧
  (∀ (i : StartIn) (im : Image) (s : State), s.startReady = true → s.boot.startStep = 1 →
    s.get Reg.SUP_SEQ_STATUS_ATTEMPT = 0 → i.norMeets = true → s.boot.powered = true → s.boot.startRec = false →
    s.boot.bootLog.length < 2048 → s.boot.commits = [] → s.boot.banks = [some im, none] → s.imgValid im = true → s.boot.wantsSafe = false →
    Runs (.coldStart i) s fun t => t.boot.startStep = 2 ∧ t.get Reg.SYS_STATUS_PATH = 0 ∧ t.get Reg.CFG_STATUS_BANK = 0 ∧
      t.flag Reg.PWR_AON_AON_LOST = false ∧ t.flag Reg.CFG_CTRL_LOCK = false ∧ t.rails.wait = .ready ∧
      ∃ r, t.boot.bootLog = s.boot.bootLog ++ [r] ∧ r.kind = 1) ∧
  (∀ (i : StartIn) (im : Image) (s : State), s.startReady = true → s.boot.startStep = 4 → s.seqState = seqOn →
    s.rails.wait = .none → s.get Reg.SYS_STATUS_PATH = 1 → i.norMeets = true → s.boot.commits = [] →
    s.boot.banks = [some im, none] → s.imgValid im = true → s.boot.wantsSafe = false → s.domOn .ctrl = false →
    Runs (.warmStart i) s fun t => t.boot.startStep = 5 ∧ t.boot.running = some im ∧ t.flag Reg.CLK_STATUS_LOCK = true ∧
      t.pwr.upDom = some .ctrl ∧ t.get Reg.CFG_SVN_RUNNING = im.svn % 2 ^ Reg.CFG_SVN_RUNNING.width ∧
      t.get Reg.SYS_STATUS_PATH = if s.boot.hashCache.getD 0 none = some im.hash then 1 else 0) ∧
  (∀ (i : StartIn) (s : State), s.startReady = true → s.boot.startStep = 4 → s.seqState = seqOn → s.rails.wait = .none →
    s.get Reg.SYS_STATUS_PATH = 1 → i.norMeets = false →
    Runs (.warmStart i) s fun t => t.seqState = seqDown ∧ t.get Reg.SYS_STATUS_LAST_FAIL = 11) ∧
  (∀ (i : StartIn) (s : State), s.startReady = true → s.boot.startStep = 5 → s.domainsUp = true →
    s.get Reg.SYS_STATUS_PATH = 0 → s.flag Reg.SYS_STATUS_NO_IMAGE = true →
    Runs (.coldStart i) s fun t => t.boot.startStep = 6 ∧ 0x11 ∈ t.pmr.conds ∧ t.dmc = s.dmc ∧ t.flc = s.flc) ∧
  (∀ (i : StartIn) (im : Image) (s : State), s.startReady = true → s.boot.startStep = 5 → s.domainsUp = true →
    s.get Reg.SYS_STATUS_PATH = 1 → s.flag Reg.SYS_STATUS_NO_IMAGE = false → s.flag Reg.SYS_STATUS_SAFE = false →
    s.boot.running = some im → 0 < im.patches → i.patchOk = false →
    Runs (.warmStart i) s fun t => t.seqState = seqDown ∧ t.get Reg.SYS_STATUS_LAST_FAIL = 10) ∧
  (∀ (i : StartIn) (s : State), s.boot.hotWait = true → Runs (.coldStart i) s fun t => t.Frame s [] []) ∧
  (∀ (i : StartIn) (s : State), s.boot.hotWait = true → Runs (.warmStart i) s fun t => t.Frame s [] [])

/-- The watchdog's stages, the end of a trial window, the periodic copies, the NOR's errors, the patches of AON, and the
temperature. -/
def Obligations.Watchdog : Prop :=
  (∀ s : State, Runs .safeArmedExpiry s fun t => t.flag Reg.SYS_STATUS_SAFE_ARMED = false ∧
    t.Frame s [] [Reg.SYS_STATUS_SAFE_ARMED]) ∧
  (∀ s : State, s.wdtRuns = true → s.boot.wdtStage = 1 →
    Runs .wdtStage1Expiry s fun t => t.boot = { s.boot with wdtStage := 2 } ∧ t.get Reg.WDT_STATUS_STAGE = 1 ∧
      t.flag Reg.WDT_STATUS_STAGE1_EV = true ∧ t.get Reg.WDT_COUNT_STAGE1 = satAdd 65535 (s.get Reg.WDT_COUNT_STAGE1) 1 ∧
      t.Frame s [.boot] [Reg.WDT_STATUS_STAGE, Reg.WDT_STATUS_STAGE1_EV, Reg.WDT_COUNT_STAGE1]) ∧
  (∀ (v : Vault) (s : State), s.wdtRuns = true → s.boot.wdtStage = 2 → s.vlt.cur = some v →
    Runs .wdtStage2Expiry s fun t => t.boot = { s.boot with wdtLatch := true, wdtStage := 0 } ∧
      t.Frame s [.boot] [Reg.WDT_STATUS_STAGE, Reg.WDT_COUNT_RESETS]) ∧
  (∀ s : State, s.wdtRuns = true → s.boot.wdtStage = 2 → s.vlt.cur = none → s.boot.starting = true →
    Runs .wdtStage2Expiry s fun t => t.seqState = seqDown ∧ t.get Reg.SYS_STATUS_LAST_FAIL = 9) ∧
  (∀ s : State, s.wdtRuns = true → s.boot.wdtStage = 2 → s.vlt.cur = none → s.boot.starting = false → s.boot.trial = false →
    Runs .wdtStage2Expiry s fun t => t.get Reg.SYS_STATUS_PATH = 2 ∧ t.boot.starting = true ∧ t.boot.startStep = 4 ∧
      t.get Reg.WDT_COUNT_RESETS = satAdd 65535 (s.get Reg.WDT_COUNT_RESETS) 1 ∧ t.domSt .ctrl = .off) ∧
  (∀ s : State, s.wdtRuns = false → Runs .wdtStage1Expiry s fun t => t.Frame s [] []) ∧
  (∀ s : State, s.domOn .aon = true → s.flag Reg.PWR_AON_LP_MODE = false →
    Runs .aonCoreTimer s fun t => t.evr = (s.ev .wdt 0x1002 6 0).evr ∧ t.Frame s [] []) ∧
  (∀ (im : Image) (s : State), s.boot.trial = true → s.boot.starting = false → s.boot.running = some im → im.svnLock = true →
    s.boot.commits.length < 32 → Runs .trialWindowEnd s fun t => t.boot.trial = false ∧ t.flag Reg.CFG_STATUS_TRIAL = false ∧
      mget t.boot.fuses Reg.SYS_OTP_SVN_MIN.key = some (Nat.max (s.view Reg.SYS_OTP_SVN_MIN) im.svn) ∧
      (∃ r, t.boot.commits = s.boot.commits ++ [r] ∧ r.kind = 2 ∧ r.bank = s.get Reg.CFG_STATUS_BANK) ∧
      t.Frame s [.boot] [Reg.CFG_STATUS_TRIAL, Reg.CFG_COMMIT_SEQ_SEQ]) ∧
  (∀ (journal : Bool) (fails : Nat) (s : State), s.domOn .aon = true → 0 < fails →
    Runs (.norOpComplete false fails journal) s fun t =>
      t.get Reg.CFG_NOR_ERR_PROG_RETRY = satAdd 65535 (s.get Reg.CFG_NOR_ERR_PROG_RETRY) 1 ∧ t.evr = s.evr ∧
      t.Frame s [] [Reg.CFG_NOR_ERR_PROG_RETRY]) ∧
  (∀ (journal : Bool) (fails : Nat) (s : State), s.domOn .aon = true → 0 < fails →
    Runs (.norOpComplete true fails journal) s fun t =>
      t.get Reg.CFG_NOR_ERR_ERASE_RETRY = satAdd 65535 (s.get Reg.CFG_NOR_ERR_ERASE_RETRY) 1 ∧
      t.boot = { s.boot with intents := s.boot.intents.drop 1 } ∧ (fails = 1 → t.evr = s.evr) ∧
      t.Frame s [.boot] [Reg.CFG_NOR_ERR_ERASE_RETRY, Reg.GRT_STATUS_BB_ACTIVE]) ∧
  (∀ s : State, s.domOn .sup = true → s.evrMode ≠ 1 → s.evrMode ≠ 3 → Runs .opsecCopy s fun t =>
    t.boot = { s.boot with timeNor := s.boot.timeNor.write (s.secs, s.get Reg.SYS_OPSEC_PWR_CYCLES) } ∧
      t.lan = (if s.vaulting = true then s.lan else { s.lan with stateNor := s.lan.stateNor.write (s.lan.mods, s.lan.tableHash) }) ∧
      t.Frame s [.boot, .lan] []) ∧
  (∀ (im : Image) (s : State), s.boot.aonPatchWait = true → s.seqState = seqOn → s.boot.running = some im →
    Runs .aonPatchSwap s fun t => t.boot = { s.boot with aonPatchWait := false } ∧
      t.get Reg.CFG_PATCH_AON = im.aonPatches % 2 ^ 8 ∧ t.Frame s [.boot] [Reg.CFG_PATCH_AON]) ∧
  (∀ s : State, 10 ≤ s.boot.tempHot → s.vlt.cur = none → s.seqState = seqOn → s.InRun → s.rails.openedThisStart = true →
    Runs .thermalShutdown s fun t => t.seqState = seqVault ∧
      (∃ v, t.vlt.cur = some v ∧ v = { Vault.start .thermal false s.rehearsing with carried := v.carried, carriedSer := v.carriedSer } ∧
        v.carriedSer = t.carriedFlights.map (fun f => f.stripe.serial)) ∧
      t.boot.tempHot = 0 ∧ t.pmr.st = .closed) ∧
  (∀ s : State, s.boot.tempHot < 10 → Runs .thermalShutdown s fun t => t.Frame s [] []) ∧
  (∀ (c : Int) (s : State), s.domOn .sup = true →
    Runs (.junctionTempSample c) s fun t => t.get Reg.SYS_TEMP_TJ = (c % 256).toNat ∧
      t.boot.tempHot = (if c < 125 ∨ s.vlt.cur.isSome = true then 0 else Nat.min 10 (s.boot.tempHot + 1)) ∧
      t.boot.hotWait = (if s.boot.hotWait = true then decide (110 < c) else
        s.boot.starting && s.boot.startStep == 1 && decide (115 < c)) ∧ t.Frame s [.boot] [Reg.SYS_TEMP_TJ])

/-! ## The root clock and the leave broker -/

/-- The clock monitor, the fault and the relock; asking for leave, returning it, ageing. A grant never takes the power held above
the budget. -/
def Obligations.ClockAndLeave : Prop :=
  (∀ (count : Nat) (s : State), s.domOn .aon = true → 24292 ≤ count → count ≤ 24536 →
    Runs (.clockMonitorWindow count) s fun t => t.get Reg.CLK_MON_COUNT = count ∧ t.pwr = { s.pwr with badWindows := 0 } ∧
      t.get Reg.CLK_MON_RANGE_MAX = Nat.max (s.get Reg.CLK_MON_RANGE_MAX) count % 65536 ∧
      t.get Reg.CLK_MON_RANGE_MIN = Nat.min (s.get Reg.CLK_MON_RANGE_MIN) count ∧
      t.Frame s [.pwr] [Reg.CLK_MON_COUNT, Reg.CLK_MON_RANGE_MAX, Reg.CLK_MON_RANGE_MIN]) ∧
  (∀ (count : Nat) (s : State), s.domOn .aon = true → count < 24292 ∨ 24536 < count → s.pwr.badWindows = 0 →
    Runs (.clockMonitorWindow count) s fun t => t.pwr = { s.pwr with badWindows := 1 } ∧ t.pmr = s.pmr ∧
      t.flag Reg.CLK_STATUS_FAULT = s.flag Reg.CLK_STATUS_FAULT) ∧
  (∀ (count : Nat) (s : State), s.domOn .aon = true → count < 24292 ∨ 24536 < count → s.pwr.badWindows = 1 →
    s.flag Reg.CLK_STATUS_FAULT = false → s.flag Reg.CLK_STATUS_LOCK = true →
    Runs (.clockMonitorWindow count) s fun t => t.flag Reg.CLK_STATUS_FAULT = true ∧ t.pmr.st = .closed ∧
      t.pwr.relocking = true ∧ t.pins.fault = true ∧ t.pins.alert = true) ∧
  (∀ s : State, s.flag Reg.CLK_STATUS_FAULT = false → s.flag Reg.CLK_STATUS_LOCK = true →
    Runs .pllLossOfLock s fun t => t.flag Reg.CLK_STATUS_FAULT = true ∧ t.flag Reg.CLK_STATUS_SUP_BACKUP = true ∧
      t.flag Reg.CLK_STATUS_FAULT_EV = true ∧ t.pmr.st = .closed ∧ t.pwr.relocking = true ∧ t.pins.fault = true ∧
      t.get Reg.CLK_FAULT_CNT_FAULTS = satAdd (2 ^ Reg.CLK_FAULT_CNT_FAULTS.width - 1) (s.get Reg.CLK_FAULT_CNT_FAULTS) 1) ∧
  (∀ s : State, s.flag Reg.CLK_STATUS_FAULT = true → Runs .pllLossOfLock s fun t => t.Frame s [] []) ∧
  (∀ (margins : List (Nat × Nat)) (s : State), s.pwr.relocking = true → s.mayReopen = true → s.lowMargins margins = [] →
    Runs (.clockRelockResult true margins) s fun t => t.flag Reg.CLK_STATUS_FAULT = false ∧ t.pwr.relocking = false ∧
      t.pmr.st ≠ .closed ∧ t.cache = s.cache) ∧
  (∀ (margins : List (Nat × Nat)) (s : State), s.pwr.relocking = true →
    Runs (.clockRelockResult false margins) s fun t => t.flag Reg.CLK_STATUS_HOLD = true ∧ t.flag Reg.CLK_STATUS_LOCK = false ∧
      t.flag Reg.VLT_STATUS_ARMED = false ∧ t.dmc.selfRefresh = true ∧ t.pins.fault = true ∧
      ∀ d ∈ [Domain.ctrl, .fab, .dram, .nand, .host, .echo], s.domSt d ≠ .off → t.domSt d = .held) ∧
  (∀ (op : LeaveOp) (s : State), s.leaveBudget - s.get Reg.PWR_LEAVE_BUDGET_BASE_MW < s.leaveCost op →
    Runs (.leaveRequest op) s fun t => t.broker = s.broker ∧ t.Frame s [] [Reg.PWR_LEAVE_QUEUE_REJECTS] ∧
      t.get Reg.PWR_LEAVE_QUEUE_REJECTS =
        satAdd (2 ^ Reg.PWR_LEAVE_QUEUE_REJECTS.width - 1) (s.get Reg.PWR_LEAVE_QUEUE_REJECTS) 1) ∧
  (∀ (op : LeaveOp) (s : State), s.leaveCost op ≤ s.leaveBudget - s.get Reg.PWR_LEAVE_BUDGET_BASE_MW →
    (∀ l ∈ s.broker.queue, l.id ≠ s.broker.nextId) →
    Runs (.leaveRequest op) s fun t => ⟨s.broker.nextId, op, s.leaveCost op, false⟩ ∈ t.broker.held ++ t.broker.queue ∧
      t.broker.nextId = s.broker.nextId + 1 ∧ t.Frame s [.broker] []) ∧
  (∀ (id : Nat) (s : State), Runs (.leaveReturn id) s fun t =>
    (∀ l ∈ t.broker.held ++ t.broker.queue, l.id ≠ id ∧ l ∈ s.broker.held ++ s.broker.queue) ∧ t.Frame s [.broker] []) ∧
  (∀ (l : Leave) (s : State), s.broker.queue.filter (fun x => x.id == l.id) = [l] → (∀ x ∈ s.broker.queue, x.aged = false) →
    s.vaulting = false → s.rehearsing = false →
    s.broker.heldMw + l.cost ≤ s.leaveBudget - s.get Reg.PWR_LEAVE_BUDGET_BASE_MW →
    Runs (.leaveAgeExpiry l.id) s fun t => { l with aged := true } ∈ t.broker.held ∧ t.Frame s [.broker] []) ∧
  (∀ s : State, s.leaveGrant.broker.heldMw ≤
    Nat.max s.broker.heldMw (s.leaveBudget - s.get Reg.PWR_LEAVE_BUDGET_BASE_MW))

/-! ## Lantern -/

/-- The estimator's commands: a sample publishes the energy and counts the publication; asleep it only counts charge. Low-current
mode, a silent converter, the copy, ageing, rest windows, and every step of a learn cycle. -/
def Obligations.LanternWork : Prop :=
  (∀ s : State, s.domOn .sup = true → s.domOn .ctrl = true → s.asleep = false →
    Runs (.lanternSample []) s fun t => t.get Reg.LAN_GEN_GEN = (s.get Reg.LAN_GEN_GEN + 1) % 2 ^ Reg.LAN_GEN_GEN.width ∧
      t.get Reg.LAN_ENERGY_E_MJ =
        (s.putR Reg.LAN_ENERGY_E_MJ (rsum (ports8.map s.contrib) * 1000)).get Reg.LAN_ENERGY_E_MJ) ∧
  (∀ (a : Sample) (s : State), s.domOn .sup = true → s.asleep = true → a.port < 8 → measured (s.modSt a.port) = true →
    Runs (.lanternSample [a]) s fun t => (t.mod a.port).awayQ = (s.mod a.port).awayQ + (a.nc : Rat) / 1000000000 ∧
      (t.mod a.port).awayMs = (s.mod a.port).awayMs + 1 ∧ t.get Reg.LAN_GEN_GEN = s.get Reg.LAN_GEN_GEN ∧
      t.get Reg.LAN_ENERGY_E_MJ = s.get Reg.LAN_ENERGY_E_MJ) ∧
  (∀ (n : Nat) (s : State), n < 8 → measured (s.modSt n) = true →
    Runs (.lowcurEntry n) s fun t => t.flag (Reg.LAN_Mn_STATUS_LOWCUR n) = true ∧
      t.mod n = { s.mod n with lowMs := 0, prev := none } ∧ t.Frame s [.lan] [Reg.LAN_Mn_STATUS_LOWCUR n]) ∧
  (∀ (n : Nat) (ua uv temp : Int) (f : Profile) (s : State), n < 8 → measured (s.modSt n) = true →
    s.flag (Reg.LAN_Mn_STATUS_LOWCUR n) = true → s.asleep = false → s.profOf n = some f →
    Runs (.lowcurUpdate n ua uv temp) s fun t => (t.mod n).temp = temp ∧ (t.mod n).valid = true ∧ (t.mod n).lowMs = 0) ∧
  (∀ (n : Nat) (s : State), n < 8 → Runs (.lowcurExit n) s fun t => t.flag (Reg.LAN_Mn_STATUS_LOWCUR n) = false ∧
    t.Frame s [] [Reg.LAN_Mn_STATUS_LOWCUR n]) ∧
  (∀ (n : Nat) (s : State), n < 8 → measured (s.modSt n) = true → s.lan.learn = none → s.lan.rest = none →
    Runs (.converterSilent n) s fun t => t.modSt n = mFault ∧ t.get (Reg.LAN_Mn_STATUS_FAULT n) = 4 ∧
      t.flag Reg.LAN_STATUS_FAULT_EV = true ∧ (t.mod n).valid = false ∧ (t.mod n).disOn = (s.mod n).disOn ∧
      (t.mod n).chgOn = false) ∧
  (∀ s : State, s.domOn .ctrl = true → s.asleep = false → s.vaulting = false →
    Runs .lanternNorCopy s fun t => t.lan = { s.lan with stateNor := s.lan.stateNor.write (s.lan.mods, s.lan.tableHash) } ∧
      t.Frame s [.lan] []) ∧
  (∀ s : State, s.vaulting = true → Runs .lanternNorCopy s fun t => t.Frame s [] []) ∧
  (∀ s : State, Runs .sigmaAging s fun t => (∀ n < 8, measured (s.modSt n) = true ∨ s.modSt n = mFault →
      (t.mod n).sc = rmin (1 / 5) ((s.mod n).sc + (s.get Reg.LAN_LEARN_CFG_AGE_PCT : Rat) / 10000)) ∧
    t.Frame s [.lan] (ports8.map Reg.LAN_Mn_CAP_SIGMA)) ∧
  (∀ (n : Nat) (s : State), n < 8 → s.restMay n = true →
    Runs (.restWindowStart n) s fun t => t.lan.rest = some n ∧ t.modSt n = mResting ∧ (t.mod n).disOn = false ∧
      (t.mod n).chgOn = false ∧ (t.mod n).calCnt = 0 ∧ t.flag Reg.LAN_STATUS_REST_ACTIVE = true) ∧
  (∀ (n : Nat) (s : State), s.restMay n = false → Runs (.restWindowStart n) s fun t => t.Frame s [] []) ∧
  (∀ (n : Nat) (uvPerS uv : Int) (f : Profile) (s : State), n < 8 → s.lan.rest = some n → s.profOf n = some f →
    Runs (.restWindowEnd uvPerS uv) s fun t => t.lan.rest = none ∧ t.modSt n = mService ∧
      (t.mod n).offset = (s.mod n).offset ∧ (t.mod n).lastRest = s.secs ∧ (t.mod n).leak = (if f.cap = true then
        rmax 0 (-((s.mod n).ct f) * f.volts uvPerS) else (s.mod n).leak) ∧
      (s.vaulting = false → t.lan.stateNor = s.lan.stateNor.write (t.lan.mods, s.lan.tableHash))) ∧
  (∀ (n p since : Nat) (rest : List (Nat × Nat)) (s : State), s.lan.retry.contains n = false → s.lan.learn = none →
    s.lan.rest = none → s.lan.due = (p, since) :: rest → s.learnFirst since = true → s.learnMay p = true →
    s.holdsOp (.learnCycle p) = true →
    Runs (.learnStart n) s fun t => t.lan.learn = some ⟨p, 1, false, 0, 0⟩ ∧ t.lan.due = rest ∧
      t.flag Reg.LAN_STATUS_LEARN_ACTIVE = true) ∧
  (∀ (n p since : Nat) (rest : List (Nat × Nat)) (s : State), s.lan.retry.contains n = false → s.lan.learn = none →
    s.lan.rest = none → s.lan.due = (p, since) :: rest → s.learnFirst since = true → s.learnMay p = false →
    Runs (.learnStart n) s fun t => t.lan.learn = none ∧ t.get Reg.LAN_LEARN_STATUS_LAST_OUTCOME = 7 ∧ p ∈ t.lan.retry ∧
      ∀ d ∈ t.lan.due, d.1 ≠ p) ∧
  (∀ (l : Learn) (s : State), s.lan.learn = some l → l.step = 1 →
    Runs .learnCharged s fun t => t.lan.learn = some { l with paused := true } ∧ (t.mod l.port).chgOn = false ∧
      t.Frame s [.lan] []) ∧
  (∀ (l : Learn) (s : State), s.lan.learn = some l → l.step = 1 → l.paused = false →
    Runs .learnChargeTimeout s fun t => t.lan.learn = none ∧ t.get Reg.LAN_LEARN_STATUS_LAST_OUTCOME = 7 ∧
      l.port ∈ t.lan.retry) ∧
  (∀ (l : Learn) (f : Profile) (uv : Int) (s : State), s.lan.learn = some l → l.step = 1 → l.paused = true → l.port < 8 →
    s.profOf l.port = some f → s.learnMay l.port = true →
    Runs (.learnDischargeStart uv) s fun t =>
      t.lan.learn = some { l with step := 2, paused := false, ocvStart := f.volts uv, dq := 0 } ∧ t.pins.hold = true ∧
      t.modSt l.port = mLearning ∧ (∀ n < 8, n ≠ l.port → s.modSt n = mService → t.modSt n = mStandby)) ∧
  (∀ (l : Learn) (ua uv : Int) (s : State), s.lan.learn = some l → l.step = 2 → s.learnLow l ua uv = true → l.port < 8 →
    s.vlt.cur = none → s.rehearsing = false → Runs (.learnDischargeEnd ua uv) s fun t => t.lan.learn = some { l with step := 3 } ∧
    t.pins.hold = false ∧
      t.modSt l.port = mResting ∧ ∀ n < 8, n ≠ l.port → s.modSt n = mStandby → t.modSt n = mService) ∧
  (∀ (l : Learn) (f : Profile) (uvPerS uv : Int) (s : State), s.lan.learn = some l → l.step = 3 → l.port < 8 →
    s.profOf l.port = some f → (s.learnResult l f (f.volts uv)).2 = true →
    Runs (.learnRelaxEnd uvPerS uv) s fun t => t.lan.learn = some { l with step := 4 } ∧ t.modSt l.port = mService ∧
      t.get Reg.LAN_LEARN_STATUS_LAST_OUTCOME = 1 ∧ (t.mod l.port).c = (s.learnResult l f (f.volts uv)).1 ∧
      (t.mod l.port).learned = true ∧ t.umb.wanted = true) ∧
  (∀ (l : Learn) (f : Profile) (uvPerS uv : Int) (s : State), s.lan.learn = some l → l.step = 3 → l.port < 8 →
    s.profOf l.port = some f → (s.learnResult l f (f.volts uv)).2 = false →
    Runs (.learnRelaxEnd uvPerS uv) s fun t => t.lan.learn = some { l with step := 4 } ∧
      t.get Reg.LAN_LEARN_STATUS_LAST_OUTCOME = 2 ∧ (t.mod l.port).c = (s.mod l.port).c ∧ l.port ∈ t.lan.retry) ∧
  (∀ (l : Learn) (s : State), s.lan.learn = some l → l.step = 4 →
    Runs .learnRechargeDone s fun t => t.lan.learn = none ∧ t.askedOp (.learnCycle l.port) = false ∧
      t.flag Reg.LAN_STATUS_LEARN_ACTIVE = false) ∧
  (∀ (l : Learn) (ua uv : Int) (s : State), s.lan.learn = some l → s.learnLow l ua uv = false →
    Runs (.learnDischargeEnd ua uv) s fun t => t.Frame s [] []) ∧
  (∀ (l : Learn) (uv : Option Int) (s : State), s.lan.learn = some l → s.guardFires l uv = false →
    Runs (.learnGuard uv) s fun t => t.Frame s [] []) ∧
  (∀ (l : Learn) (uv : Option Int) (s : State), s.lan.learn = some l → l.step = 2 → s.guardFires l uv = true → s.vlt.cur = none →
    s.rehearsing = false → Runs (.learnGuard uv) s fun t => t.lan.learn = none ∧ t.get Reg.LAN_LEARN_STATUS_LAST_OUTCOME = 5 ∧
      t.flag Reg.LAN_STATUS_GUARD = true ∧ t.pins.hold = false)

/-! ## The event recorder -/

/-- The recorder: a submission takes the next SEQ or raises a REPEAT; records reach durable memory; failures change the mode;
windows, views and challenges end. -/
def Obligations.RecorderWork : Prop :=
  (∀ (src code sev key w queued : Nat) (own : List Nat) (s : State), s.domOn .aon = true → portEntry queued sev = true →
    s.openMatch src code (key % 65536) = none →
    s.evrMode = 0 → s.evr.opens.length < 64 → s.evr.ring.length < 2048 → s.evr.lostBySev.all (fun n => n == 0) = true →
    Runs (.eventSubmit src code sev key (w :: own) queued) s fun t =>
      t.get Reg.EVR_SEQ_NEXT = (s.get Reg.EVR_SEQ_NEXT + 1) % 2 ^ Reg.EVR_SEQ_NEXT.width ∧ t.Frame s [] [] ∧
      ∃ e, t.evr.ring = s.evr.ring ++ [⟨e, decide (sev < s.get Reg.EVR_CFG_MIN_NOR_SEV), false⟩] ∧
        t.evr.opens = s.evr.opens ++ [⟨e, none⟩] ∧ e.seq = s.get Reg.EVR_SEQ_NEXT ∧ e.src = src ∧ e.code = code ∧
        e.sev = sev ∧ e.key = key % 65536 ∧ e.rep = 0 ∧ e.snap = w :: own) ∧
  (∀ (src code sev key queued : Nat) (own : List Nat) (s : State), s.domOn .aon = true → portEntry queued sev = false →
    Runs (.eventSubmit src code sev key own queued) s fun t => t.evr = s.evr ∧ t.flag Reg.EVR_STATUS_LOST_EV = true ∧
      t.get Reg.EVR_LOST_DROPPED = satAdd (2 ^ Reg.EVR_LOST_DROPPED.width - 1) (s.get Reg.EVR_LOST_DROPPED) 1 ∧ t.Frame s [] []) ∧
  (∀ (src code sev key w queued : Nat) (own : List Nat) (o : OpenRec) (s : State), s.domOn .aon = true →
    portEntry queued sev = true → s.openMatch src code (key % 65536) = some o → s.evr.lostBySev.all (fun n => n == 0) = true →
    Runs (.eventSubmit src code sev key (w :: own) queued) s fun t => t.get Reg.EVR_SEQ_NEXT = s.get Reg.EVR_SEQ_NEXT ∧
      (∃ x ∈ t.evr.opens, x.evt.seq = o.evt.seq ∧ x.evt.rep = o.evt.rep + 1) ∧ t.Frame s [] []) ∧
  (∀ (seq : Nat) (o : OpenRec) (s : State), s.evr.opens.find? (fun x => x.evt.seq == seq) = some o → o.written = none →
    (o.evt.time % 2 ^ 40) / s.repeatWindow ≠ s.secs / s.repeatWindow →
    Runs (.recordWindowClose seq) s fun t =>
      t.evr = { s.evr with opens := s.evr.opens.filter (fun x => x.evt.seq != seq) } ∧ t.Frame s [] []) ∧
  (∀ (x : RingSlot) (s : State), s.domOn .aon = true → s.evrMode = 0 → s.evr.provisional = false → s.evr.ring = [x] →
    x.flushed = false → s.norFlushes = true → s.evr.norRoom = true → s.evr.lostBySev.all (fun n => n == 0) = true →
    Runs (.norJournalFlush false) s fun t => t.evr.ring = [{ x with flushed := true }] ∧
      (∃ c, t.evr.sectors.getLast? = some c ∧ c.recs.getLast? = some x.evt) ∧ t.Frame s [] []) ∧
  (∀ (x : RingSlot) (s : State), s.domOn .aon = true → s.evrMode = 0 → s.evr.provisional = false → s.evr.ring = [x] →
    x.flushed = false → s.norFlushes = false → Runs (.norJournalFlush false) s fun t => t.evr = s.evr ∧ t.Frame s [] []) ∧
  (∀ (x : RingSlot) (s : State), s.domOn .aon = true → s.evrMode = 0 → s.evr.provisional = false → s.evr.ring = [x] →
    x.flushed = false → Runs (.norJournalFlush true) s fun t => t.get Reg.EVR_MEM_MODE = 1 ∧
      t.flag Reg.GRT_STATUS_BB_ACTIVE = true ∧ t.flag Reg.EVR_MEM_CRIT = false) ∧
  (∀ (x : RingSlot) (b : BBBlock) (s : State), s.domOn .ctrl = true → s.domOn .nand = true → s.evrMode = 1 →
    s.evr.provisional = false → s.evr.ring = [x] → x.flushed = false → s.evr.bb = [b] → s.get Reg.EVR_BB_CURRENT = 0 →
    b.pages.length < s.get Reg.GRT_GEOM_PAGES → s.evr.lostBySev.all (fun n => n == 0) = true →
    Runs (.blackBoxFlush true) s fun t => t.evr.ring = [{ x with flushed := true }] ∧ t.Frame s [] [] ∧
      ∃ g, t.evr.bb = [{ b with pages := b.pages ++ [g] }] ∧ g.recs = [x.evt] ∧ g.tail = false) ∧
  (∀ s : State, s.domOn .aon = true → s.evrMode = 0 →
    Runs .norUnresponsive s fun t => t.get Reg.EVR_MEM_MODE = 1 ∧ t.flag Reg.EVR_STATUS_MEM_EV = true ∧
      t.flag Reg.EVR_MEM_CRIT = false) ∧
  (∀ s : State, s.domOn .aon = true → s.evrMode = 2 →
    Runs .norUnresponsive s fun t => t.get Reg.EVR_MEM_MODE = 3 ∧ t.flag Reg.EVR_MEM_CRIT = true ∧ t.pins.alert = true) ∧
  (∀ (lost : List Nat) (s : State), s.domOn .aon = true → s.evrMode = 0 →
    Runs (.ringEccError lost) s fun t => t.get Reg.EVR_MEM_MODE = 2 ∧ t.evr.ring = [] ∧ t.flag Reg.EVR_STATUS_MEM_EV = true) ∧
  (∀ (r : Requester) (v : Nat) (s : State), viewOf r = some v →
    Runs (.viewExpiry r) s fun t => t.evr = { s.evr with
      views := lset s.evr.views v none,
      holes := if (lset s.evr.views v none).all (fun x => x.isNone) = true then [] else s.evr.holes } ∧ t.Frame s [] []) ∧
  (∀ s : State, Runs .challengeExpiry s fun t => t.evr = { s.evr with challenge := none } ∧ t.Frame s [] []) ∧
  (∀ s : State, s.domOn .ctrl = true → s.evr.clears = [] →
    Runs .journalSeverityScanDone s fun t => t.flag Reg.EVR_STATUS_SCAN_DONE = true ∧ t.evr = s.evr ∧ t.Frame s [] [])

/-! ## NVMe -/

/-- The controllers' queues and reads: doorbells, fetches and their end, configuration and register writes, the keep-alive timer,
and the I/O commands of the Ledger namespace. -/
def Obligations.NvmeIo : Prop :=
  (∀ (p : Port) (qid tail : Nat) (q : SubQ) (s : State), s.Claims p → (s.nvme p).en = true → (s.nvme p).cfs = false →
    (s.nvme p).shn = 0 → (s.port p).bme = true → mget (s.nvme p).sqs qid = some q → tail < q.size →
    Runs (.sqDoorbell p qid tail) s fun t => mget (t.nvme p).sqs qid = some { q with tail := tail } ∧ t.ActFrame s [] [] ∧
      (t.nvme p).fetches = (s.nvme p).fetches ++
        ((s.nvme p).slotsDue qid { q with tail := tail }).map (fun i => (qid, i))) ∧
  (∀ (p : Port) (qid head : Nat) (q : CompQ) (s : State), s.Claims p → (s.nvme p).en = true →
    mget (s.nvme p).cqs qid = some q → head < q.size →
    Runs (.cqDoorbell p qid head) s fun t => mget (t.nvme p).cqs qid = some { q with head := head } ∧ t.ActFrame s [] []) ∧
  (∀ (p : Port) (qid slot : Nat) (s : State), s.portLive p = true → (s.nvme p).fetches.contains (qid, slot) = true →
    Runs (.hostReadTimeout p (.entry qid slot)) s fun t => (qid, slot) ∉ (t.nvme p).fetches ∧ t.Frame s [] []) ∧
  (∀ (p : Port) (id : CmdId) (s : State), s.portLive p = true → s.fetchOpen p (.data id) = true →
    (s.nvme p).hasCq id.sq = true →
    Runs (.hostReadTimeout p (.data id)) s fun t => t.IoDone s p id stTransferError ∧ t.Frame s [] []) ∧
  (∀ (p : Port) (qid slot op prp len : Nat) (id : CmdId) (q : SubQ) (s : State), s.portLive p = true →
    (s.nvme p).fetches.contains (qid, slot) = true → mget (s.nvme p).sqs qid = some q →
    Runs (.hostMemoryReadCompletion p (.entry qid slot) id op prp len) s fun t =>
      (t.nvme p).outs = (s.nvme p).outs ++ [⟨⟨qid, id.cid⟩, op, decide (0 < len)⟩] ∧ (qid, slot) ∉ (t.nvme p).fetches ∧
      mget (t.nvme p).sqs qid = some { q with head := (slot + 1) % q.size } ∧ t.Frame s [] []) ∧
  (∀ (p : Port) (i id : CmdId) (op prp len : Nat) (s : State), s.portLive p = true → s.fetchOpen p (.data i) = true →
    Runs (.hostMemoryReadCompletion p (.data i) id op prp len) s fun t => t.fetchOpen p (.data i) = false ∧ t.Frame s [] []) ∧
  (∀ (p : Port) (w : Word) (s : State), s.Claims p → Runs (.nvmeRegisterWrite p 0x24 w) s fun t =>
    t.nvme p = { s.nvme p with aqa := w.toNat } ∧ t.ActFrame s [] []) ∧
  (∀ (p : Port) (w : Word) (s : State), s.Claims p → Runs (.nvmeRegisterWrite p 0x0C w) s fun t =>
    t.nvme p = { s.nvme p with intms := Nat.lor (s.nvme p).intms w.toNat } ∧ t.ActFrame s [] []) ∧
  (∀ (p : Port) (mse bme : Bool) (s : State), s.InRun → s.portLive p = true →
    Runs (.pcieConfigWrite p (.command mse bme)) s fun t => (t.port p).mse = mse ∧ (t.port p).bme = bme ∧
      (t.port p).pmrEn = (s.port p).pmrEn ∧ (t.port p).linkUp = (s.port p).linkUp ∧ t.ActFrame s [.ports] []) ∧
  (∀ (p : Port) (s : State), s.portLive p = true → (s.nvme p).en = true → (s.nvme p).cfs = false →
    mgetD (s.nvme p).feats 0x0F 0 ≠ 0 →
    Runs (.keepAliveTimeout p) s fun t => (t.nvme p).cfs = true ∧ t.Frame s [] []) ∧
  (∀ (p : Port) (id : CmdId) (s : State), s.TakesIo p id → s.nsBar 1 = none →
    Runs (.flush p id 1) s fun t => t.IoDone s p id stOk ∧ t.ActFrame s [] []) ∧
  (∀ (p : Port) (id : CmdId) (slba : Nat) (data : List Byte) (s : State), s.TakesIo p id →
    s.rangeBar 1 slba 1 true = none → data.length = s.grt.ledger.lbaBytes →
    s.grt.ledger.blocks.length + 1 ≤ s.grt.ledger.ncap →
    s.get Reg.PWR_LEAVE_COST1_PROG_MW ≤ s.leaveBudget - s.get Reg.PWR_LEAVE_BUDGET_BASE_MW →
    Runs (.write p id 1 slba data) s fun t => t.IoDone s p id stOk ∧ t.grt.ledger.readLba slba = data ∧
      (∀ n, n ≠ slba → t.grt.ledger.readLba n = s.grt.ledger.readLba n) ∧ t.ActFrame s [.grt, .broker] []) ∧
  (∀ (p : Port) (id : CmdId) (slba : Nat) (s : State), s.TakesIo p id → s.rangeBar 1 slba 1 false = none →
    s.grt.ledger.lost.contains slba = false →
    Runs (.readLba p id 1 slba 1 false) s fun t => t.IoDone s p id stOk ∧
      t.Sent s (.data p.req (s.grt.ledger.readLba slba)) ∧ t.ActFrame s [] []) ∧
  (∀ (p : Port) (id : CmdId) (slba : Nat) (s : State), s.TakesIo p id → s.rangeBar 1 slba 1 false = none →
    Runs (.readLba p id 1 slba 1 true) s fun t => t.IoDone s p id stUnrecovered ∧ t.ActFrame s [] []) ∧
  (∀ (p : Port) (id : CmdId) (slba nlb : Nat) (s : State), s.TakesIo p id → s.rangeBar 1 slba nlb true = none →
    Runs (.writeZeroes p id 1 slba nlb) s fun t => t.IoDone s p id stOk ∧ t.ActFrame s [.grt] [] ∧
      ∀ n, slba ≤ n → n < slba + nlb → t.grt.ledger.readLba n = List.replicate s.grt.ledger.lbaBytes 0) ∧
  (∀ (p : Port) (id : CmdId) (slba nlb : Nat) (s : State), s.TakesIo p id → s.rangeBar 1 slba nlb true = none →
    Runs (.datasetManagement p id 1 true [(slba, nlb)]) s fun t => t.IoDone s p id stOk ∧ t.ActFrame s [.grt] [] ∧
      ∀ n, slba ≤ n → n < slba + nlb → mget t.grt.ledger.blocks n = none) ∧
  (∀ (p : Port) (id : CmdId) (slba nlb : Nat) (s : State), s.TakesIo p id → s.nsBar 1 = none →
    s.grt.ledger.nsze < slba + nlb →
    Runs (.writeZeroes p id 1 slba nlb) s fun t => t.IoDone s p id stLbaRange ∧ t.ActFrame s [] [])

/-- The standard admin commands: each answers, with its effect or with the status that refuses it. -/
def Obligations.NvmeAdmin : Prop :=
  (∀ (p : Port) (id : CmdId) (qid qsize base vec : Nat) (ien : Bool) (s : State), s.TakesAdmin (.host p) → 1 ≤ qid → qid ≤ 53 →
    mget (s.nvme p).cqs qid = none → 1 ≤ qsize → qsize ≤ 4095 → vec ≤ 53 →
    Runs (.createIoQueue p id true qid qsize base vec true ien) s fun t => t.Answers s (.host p) id stOk 0 ∧
      mget (t.nvme p).cqs qid = some ⟨base, qsize + 1, vec, ien, 0, 0, true⟩ ∧ t.ActFrame s [] []) ∧
  (∀ (p : Port) (id : CmdId) (qsize base arg : Nat) (cq pc ien : Bool) (s : State), s.TakesAdmin (.host p) →
    Runs (.createIoQueue p id cq 0 qsize base arg pc ien) s fun t => t.Answers s (.host p) id stInvalidQid 0 ∧
      (t.nvme p).sqs = (s.nvme p).sqs ∧ t.ActFrame s [] []) ∧
  (∀ (p : Port) (id : CmdId) (qid : Nat) (q : SubQ) (s : State), s.TakesAdmin (.host p) → 1 ≤ qid →
    mget (s.nvme p).sqs qid = some q →
    Runs (.deleteIoQueue p id false qid) s fun t => t.Answers s (.host p) id stOk 0 ∧ mget (t.nvme p).sqs qid = none ∧
      t.ActFrame s [] []) ∧
  (∀ (req : AdminReq) (id : CmdId) (off len : Nat) (rae : Bool) (s : State), s.TakesAdmin req → off % 4 = 0 →
    Runs (.getLogPage req id 0x02 0 off len rae) s fun t => t.Answers s req id stOk 0 ∧
      t.Sent s (.data req.requester (pageSlice s.smartPage off len)) ∧ t.ActFrame s [] []) ∧
  (∀ (req : AdminReq) (id : CmdId) (lsp off len : Nat) (rae : Bool) (s : State), s.TakesAdmin req → off % 4 = 0 →
    Runs (.getLogPage req id 0x7F lsp off len rae) s fun t => t.Answers s req id stInvalidLogPage 0 ∧ t.ActFrame s [] []) ∧
  (∀ (req : AdminReq) (id : CmdId) (nsid : Nat) (s : State), s.TakesAdmin req →
    Runs (.identify req id 1 nsid) s fun t => t.Answers s req id stOk 0 ∧
      t.Sent s (.data req.requester (s.identCtrl req.ctrl)) ∧ t.ActFrame s [] []) ∧
  (∀ (p : Port) (id target : CmdId) (s : State), s.TakesAdmin (.host p) → (s.nvme p).aers.contains target = true →
    target.sq = 0 →
    Runs (.abort p id target) s fun t => t.Answers s (.host p) target stAborted 0 ∧ t.Answers s (.host p) id stOk 0 ∧
      target ∉ (t.nvme p).aers ∧ t.ActFrame s [] []) ∧
  (∀ (p : Port) (id target : CmdId) (s : State), s.TakesAdmin (.host p) →
    (s.nvme p).aers.contains { target with sq := 0 } = false →
    Runs (.abort p id target) s fun t => t.Answers s (.host p) id stOk 1 ∧ t.ActFrame s [] []) ∧
  (∀ (p : Port) (id : CmdId) (s : State), s.TakesAdmin (.host p) → (s.nvme p).events = [] → (s.nvme p).aers.length < 8 →
    Runs (.asynchronousEventRequest p id) s fun t => (t.nvme p).aers = (s.nvme p).aers ++ [{ id with sq := 0 }] ∧
      t.out = s.out ∧ t.ActFrame s [] []) ∧
  (∀ (p : Port) (id : CmdId) (d : Nat) (rest : List Nat) (s : State), s.TakesAdmin (.host p) → (s.nvme p).events = d :: rest →
    Runs (.asynchronousEventRequest p id) s fun t => t.Answers s (.host p) id stOk d ∧ (t.nvme p).events = rest ∧
      t.ActFrame s [] []) ∧
  (∀ (p : Port) (id : CmdId) (s : State), s.TakesAdmin (.host p) →
    Runs (.keepAlive p id) s fun t => t.Answers s (.host p) id stOk 0 ∧ t.ActFrame s [] []) ∧
  (∀ (req : AdminReq) (id : CmdId) (fid arg : Nat) (s : State), s.TakesAdmin req → featOk fid arg = true →
    Runs (.getFeatures req id fid arg) s fun t => t.Answers s req id stOk ((s.nvme req.ctrl).feat fid arg) ∧ t.ActFrame s [] []) ∧
  (∀ (p : Port) (id : CmdId) (arg : Nat) (s : State), s.TakesAdmin (.host p) →
    Runs (.setFeatures p id 0x0B arg false) s fun t => t.Answers s (.host p) id stOk 0 ∧
      (t.nvme p).feat 0x0B 0 = arg % 2 ^ 32 ∧ t.ActFrame s [] []) ∧
  (∀ (p : Port) (id : CmdId) (fid arg : Nat) (s : State), s.TakesAdmin (.host p) → featOk fid arg = true →
    Runs (.setFeatures p id fid arg true) s fun t => t.Answers s (.host p) id stNotSaveable 0 ∧
      (t.nvme p).feats = (s.nvme p).feats ∧ t.ActFrame s [] []) ∧
  (∀ (p : Port) (id : CmdId) (lbaf ses : Nat) (s : State), s.TakesAdmin (.host p) → s.formatBar 1 lbaf ses = none →
    Runs (.formatNvm p id 1 lbaf ses) s fun t => t.Answers s (.host p) id stOk 0 ∧ t.grt.ledger.lbaf = lbaf ∧
      t.grt.ledger.blocks = [] ∧ t.grt.ledger.keyGen = s.grt.ledger.keyGen + 1 ∧ t.cache = s.cache) ∧
  (∀ (p : Port) (id : CmdId) (lbaf ses : Nat) (st : NStat) (s : State), s.TakesAdmin (.host p) →
    s.formatBar 1 lbaf ses = some st →
    Runs (.formatNvm p id 1 lbaf ses) s fun t => t.Answers s (.host p) id st 0 ∧ t.ActFrame s [] []) ∧
  (∀ (req : AdminReq) (id : CmdId) (s : State), s.TakesAdmin req → id.sq = 0 →
    Runs (.invalidOpcode req id) s fun t => t.Answers s req id stInvalidOpcode 0 ∧ t.ActFrame s [] []) ∧
  (∀ (p : Port) (id : CmdId) (s : State), s.TakesIo p id → id.sq ≠ 0 →
    Runs (.invalidOpcode (.host p) id) s fun t => t.IoDone s p id stInvalidOpcode ∧ t.ActFrame s [] [])

/-- The vendor admin commands: the pair, an update from its first chunk to its commit, the event log's challenge and clear, the
barrier query, learns, rehearsals and register access. -/
def Obligations.VendorAdmin : Prop :=
  (∀ (req : AdminReq) (id : CmdId) (s : State), s.TakesAdmin req →
    Runs (.pairStatus req id) s fun t => t.Answers s req id stOk 0 ∧ t.Sent s (.data req.requester s.pairBytes) ∧
      t.ActFrame s [] []) ∧
  (∀ (req : AdminReq) (id : CmdId) (s : State), s.TakesAdmin req → s.pair = false →
    Runs (.pairDetach req id) s fun t => t.Answers s req id (stVendor 0xC9) 0 ∧ t.ActFrame s [] []) ∧
  (∀ (req : AdminReq) (id : CmdId) (s : State), s.TakesAdmin req → s.pair = true →
    Runs (.pairDetach req id) s fun t => t.Answers s req id stOk 0 ∧ t.echoState = eDetached ∧ t.ech.detachedAon = true) ∧
  (∀ (req : AdminReq) (id : CmdId) (s : State), s.TakesAdmin req → s.pair = true → s.canRejoin = true →
    Runs (.pairRejoin req id) s fun t => t.Answers s req id stOk 0 ∧ t.echoState = eDown ∧ t.ech.detachedAon = false ∧
      t.ech.heldUntilRejoin = false) ∧
  (∀ (req : AdminReq) (id : CmdId) (s : State), s.TakesAdmin req → s.pair = true → s.canRejoin = false →
    Runs (.pairRejoin req id) s fun t => t.Answers s req id (stVendor 0xCA) 0 ∧ t.ActFrame s [] []) ∧
  (∀ (req : AdminReq) (id : CmdId) (s : State), s.TakesAdmin req → s.pair = true → s.streaming = false →
    Runs (.pairReplace req id) s fun t => t.Answers s req id stOk 0 ∧ t.flag Reg.ECH_STATUS_REPLACE_ARMED = true ∧
      t.ActFrame s [] [Reg.ECH_STATUS_REPLACE_ARMED]) ∧
  (∀ (req : AdminReq) (id : CmdId) (s : State), s.TakesAdmin req → s.pair = true →
    Runs (.mirrorViewOn req id) s fun t => t.Answers s req id stOk 0 ∧ t.flag Reg.ECH_CTRL_MVIEW_EN = true ∧
      t.ActFrame s [] [Reg.ECH_CTRL_MVIEW_EN]) ∧
  (∀ (req : AdminReq) (id : CmdId) (s : State), s.TakesAdmin req → s.pair = true →
    Runs (.mirrorViewOff req id) s fun t => t.Answers s req id stOk 0 ∧ t.flag Reg.ECH_CTRL_MVIEW_EN = false ∧
      t.ActFrame s [] [Reg.ECH_CTRL_MVIEW_EN]) ∧
  (∀ (req : AdminReq) (id : CmdId) (data : List Byte) (s : State), s.TakesAdmin req → s.vaulting = false →
    s.boot.staging = none → chunkOk 0 data.length false = true →
    Runs (.updateStage req id 0 data false) s fun t => t.Answers s req id stOk 0 ∧ t.get Reg.CFG_UPD_STATUS_RESULT = 1 ∧
      t.boot.staging = some ⟨req.requester.port, data.length, data, false⟩ ∧ t.boot.staged = none) ∧
  (∀ (req : AdminReq) (id : CmdId) (ofst : Nat) (data : List Byte) (g : Staging) (s : State), s.TakesAdmin req →
    s.vaulting = false → s.boot.staging = some g → g.owner = req.requester.port → chunkOk (4 * ofst) data.length true = true →
    g.last = false → 4 * ofst = g.offset →
    Runs (.updateStage req id ofst data true) s fun t => t.host.waiting = [⟨req, id, 0xC4⟩] ∧
      t.flag Reg.CFG_UPD_STATUS_BUSY = true ∧ t.out = s.out ∧
      t.boot.staging = some { g with offset := g.offset + data.length, data := g.data ++ data, last := true }) ∧
  (∀ (found : Nat) (i : Image) (g : Staging) (s : State), s.domOn .ctrl = true → s.boot.staging = some g → g.last = true →
    s.verifyFail found i = 0 →
    Runs (.updateVerifyDone found i) s fun t => t.boot.staging = none ∧ t.boot.staged = some i ∧
      t.boot.banks = lset s.boot.banks s.otherBank (some i) ∧ t.get Reg.CFG_UPD_STATUS_RESULT = s.classOf i ∧
      t.flag Reg.CFG_UPD_STATUS_BUSY = false ∧ t.host.waiting = s.host.waiting.filter (fun w => w.kind != 0xC4)) ∧
  (∀ (found : Nat) (i : Image) (g : Staging) (s : State), s.domOn .ctrl = true → s.boot.staging = some g → g.last = true →
    s.verifyFail found i ≠ 0 →
    Runs (.updateVerifyDone found i) s fun t => t.boot = { s.boot with staging := none } ∧
      t.get Reg.CFG_UPD_STATUS_RESULT = s.verifyFail found i ∧ t.flag Reg.CFG_UPD_STATUS_BUSY = false) ∧
  (∀ (req : AdminReq) (id : CmdId) (s : State), s.TakesAdmin req → s.commitBar = none → s.boot.staged.isSome = true →
    s.get Reg.CFG_UPD_STATUS_RESULT = 2 → s.boot.commits.length < 32 → s.flag Reg.SYS_STATUS_SAFE = false →
    Runs (.updateCommitWarm req id) s fun t => t.Answers s req id stOk 11 ∧ t.get Reg.SYS_STATUS_PATH = 5 ∧
      t.boot.starting = true ∧ t.boot.startStep = 4 ∧
      ∃ r, t.boot.commits = s.boot.commits ++ [r] ∧ r.kind = 0 ∧ r.bank = s.otherBank ∧ r.trial = true ∧ r.cold = false) ∧
  (∀ (req : AdminReq) (id : CmdId) (s : State), s.TakesAdmin req → s.commitBar = none → s.boot.staged.isSome = true →
    s.get Reg.CFG_UPD_STATUS_RESULT = 3 → s.boot.commits.length < 32 → s.flag Reg.SYS_STATUS_SAFE = false → s.rails.openedThisStart = true →
    Runs (.updateCommitCold req id) s fun t => t.Answers s req id stOk 11 ∧ t.seqState = seqVault ∧
      (∃ v, t.vlt.cur = some v ∧ v = { Vault.start .commit false false with carried := v.carried, carriedSer := v.carriedSer } ∧
        v.carriedSer = t.carriedFlights.map (fun f => f.stripe.serial)) ∧
      ∃ r, t.boot.commits = s.boot.commits ++ [r] ∧ r.cold = true ∧ r.format = false) ∧
  (∀ (req : AdminReq) (id : CmdId) (s : State), s.TakesAdmin req → s.commitBar = none → s.boot.staged.isSome = true →
    s.get Reg.CFG_UPD_STATUS_RESULT = 4 → s.boot.commits.length < 32 → s.flag Reg.SYS_STATUS_SAFE = false →
    s.rails.openedThisStart = false →
    Runs (.updateCommitFormat req id) s fun t => t.Answers s req id stOk 11 ∧ t.seqState = seqDown ∧
      ∃ r, t.boot.commits = s.boot.commits ++ [r] ∧ r.cold = true ∧ r.format = true) ∧
  (∀ (req : AdminReq) (id : CmdId) (s : State), s.TakesAdmin req → s.commitBar = none → s.boot.staged = none →
    Runs (.updateCommitWarm req id) s fun t => t.Answers s req id (stVendor 0xC8) 0 ∧ t.ActFrame s [] []) ∧
  (∀ (req : AdminReq) (id : CmdId) (g : Staging) (s : State), s.TakesAdmin req → s.vaulting = false →
    s.boot.staging = some g → Runs (.updateAbort req id) s fun t => t.Answers s req id stOk 0 ∧
      t.boot = { s.boot with staging := none, staged := none } ∧ t.get Reg.CFG_UPD_STATUS_RESULT = 10) ∧
  (∀ (req : AdminReq) (id : CmdId) (i : Image) (s : State), s.TakesAdmin req → s.commitBar = none →
    (s.bankImg s.otherBank).filter s.imgValid = some i → s.classOf i = 2 → s.flag Reg.SYS_STATUS_SAFE = false →
    Runs (.updateCommitOther req id) s fun t => t.Answers s req id stOk 11 ∧ t.get Reg.SYS_STATUS_PATH = 5 ∧
      t.boot.startStep = 4) ∧
  (∀ (req : AdminReq) (id : CmdId) (s : State), s.TakesAdmin req →
    Runs (.getChallenge req id) s fun t => t.Answers s req id stOk 0 ∧ t.ActFrame s [] [] ∧
      ∃ n, t.evr = { s.evr with challenge := some ⟨n, s.endSeq⟩ } ∧
        t.Sent s (.data req.requester (natLe n 32 ++ natLe s.endSeq 8 ++ List.replicate 24 0))) ∧
  (∀ (req : AdminReq) (id : CmdId) (clearTo maxSev scope slot : Nat) (sigHash : List Nat) (c : Challenge) (s : State),
    s.TakesAdmin req → s.flag Reg.EVR_STATUS_CLEAR_LOCK = false → s.vaulting = false → s.rehearsing = false →
    s.boot.staging = none → s.seqState = seqOn → s.evr.challenge = some c →
    s.boot.otpSlots.getD slot (false, false) = (true, false) → clearTo ≤ c.endSeq →
    Runs (.clear req id clearTo maxSev scope slot true true sigHash) s fun t => t.Answers s req id stOk 0 ∧
      t.evr.clears = s.evr.clears ++ [⟨s.get Reg.EVR_SEQ_NEXT, clearTo, maxSev, scope⟩] ∧ t.evr.challenge = none ∧
      t.get Reg.EVR_CLEAR_SEQ_SEQ = clearTo % 2 ^ 64 ∧
      t.get Reg.EVR_CLEAR_COUNT = satAdd 65535 (s.get Reg.EVR_CLEAR_COUNT) 1) ∧
  (∀ (req : AdminReq) (id : CmdId) (clearTo maxSev scope slot : Nat) (keyOk sigOk : Bool) (sigHash : List Nat) (s : State),
    s.TakesAdmin req → s.flag Reg.EVR_STATUS_CLEAR_LOCK = false → s.vaulting = false → s.rehearsing = false →
    s.boot.staging = none → s.seqState = seqOn → s.evr.challenge = none →
    Runs (.clear req id clearTo maxSev scope slot keyOk sigOk sigHash) s fun t => t.Answers s req id (stVendor 0xC5) 0 ∧
      t.evr.clears = s.evr.clears ∧ t.flag Reg.EVR_STATUS_CLEAR_EV = true ∧ t.ActFrame s [] []) ∧
  (∀ (req : AdminReq) (id : CmdId) (s : State), s.TakesAdmin req →
    Runs (.barrierQuery req id) s fun t => t.Answers s req id stOk 0 ∧ t.Sent s (.data req.requester s.barrierBytes) ∧
      t.ActFrame s [] []) ∧
  (∀ (req : AdminReq) (id : CmdId) (port : Fin 8) (s : State), s.TakesAdmin req → s.modSt port.val = mService →
    s.lan.learn = none → Runs (.learnCycleRequest req id port false) s fun t => (∃ d ∈ t.lan.due, d.1 = port.val) ∧
      (∃ d, t.Answers s req id stOk d) ∧ t.cache = s.cache) ∧
  (∀ (req : AdminReq) (id : CmdId) (port : Fin 8) (s : State), s.TakesAdmin req → s.modSt port.val ≠ mService →
    Runs (.learnCycleRequest req id port false) s fun t => t.Answers s req id stInvalidField 0 ∧ t.ActFrame s [] []) ∧
  (∀ (req : AdminReq) (id : CmdId) (s : State), s.TakesAdmin req → s.rehMay = true → s.rehRecent = false →
    Runs (.rehearsalVault req id) s fun t => t.umb.rehearsal = some ⟨true, 0, false, none⟩ ∧
      t.host.waiting = [⟨req, id, 0xC3⟩] ∧ t.pins.hold = true ∧ t.cache = s.cache) ∧
  (∀ (req : AdminReq) (id : CmdId) (s : State), s.TakesAdmin req → s.rehMay = false →
    Runs (.rehearsalVault req id) s fun t => (∃ d, t.Answers s req id (stVendor 0xC2) d) ∧
      t.get Reg.UMB_REH_INFO_OUTCOME = 5 ∧ t.ActFrame s [] [Reg.UMB_REH_INFO_OUTCOME, Reg.UMB_STATUS_REH_DONE]) ∧
  (∀ (req : AdminReq) (id : CmdId) (o : Nat) (row : RegRow) (s : State), s.TakesAdmin req → inWindow o = true → o % 4 = 0 →
    (∃ b, Block.ofOff o = some b ∧ s.domOn b.domain = true) → regAt o = some (row, false) → row.wide = false →
    Runs (.registerAccessRead req id o) s fun t =>
      t.Answers s req id stOk ((s.touch (match req with | .host _ => 1 | .mi _ => 2)).wordOf row) ∧
      t.ActFrame s [] (row.flds.filter (fun f => f.acc == .rc))) ∧
  (∀ (req : AdminReq) (id : CmdId) (o : Nat) (w : Word) (row : RegRow) (s : State), s.TakesAdmin req →
    s.Writes req.requester o w.toNat → inWindow o = true → o % 4 = 0 → regAt o = some (row, false) →
    (row.flds.map Fld.key).Nodup → (∀ f ∈ row.flds, f.OffRecorder) → o ∉ actingOffsets →
    Runs (.registerAccessWrite req id o w) s fun t => (∃ d, t.Answers s req id stOk d) ∧ t.ActFrame s [] row.flds ∧
      ∀ f ∈ row.flds, f.acc = .rw → t.get f = f.of w.toNat)

/-! ## Management -/

/-- The SMBus endpoint, the indirect register window and the console: what each request answers and what it changes. -/
def Obligations.Management : Prop :=
  (∀ (eid : Nat) (s : State), s.InRun → s.domOn .sup = true → s.domOn .ctrl = true → s.vaulting = false →
    Runs (.mctpControl eid) s fun t => t.host.smb = { s.host.smb with eid := eid % 256 } ∧
      t.out = s.out ++ [.smb (natLe eid 1)] ∧ t.ActFrame s [] []) ∧
  (∀ (dtyp ctrl : Nat) (s : State), s.TakesMi → Runs (.readNvmeMiDataStructure dtyp ctrl) s fun t =>
    ∃ b, t.out = s.out ++ [.data .smbus b, .miResp 0 0 0] ∧ b.length = 32 ∧ t.ActFrame s [] []) ∧
  (∀ (clear : Bool) (s : State), s.TakesMi → Runs (.subsystemHealthStatusPoll clear) s fun t =>
    ∃ x, t.out = s.out ++ [.data .smbus ((s.healthVals.map (fun v => natLe v 1)).flatten ++ natLe x 2 ++ natLe 0 2),
      .miResp 0 0 0] ∧ t.ActFrame s [] []) ∧
  (∀ (p : Port) (s : State), s.TakesMi → s.portExists p = true → Runs (.controllerHealthStatusPoll p) s fun t =>
    ∃ x, t.out = s.out ++ [.data .smbus (natLe p.idx 2 ++ natLe (s.csts p) 2 ++ natLe s.kelvin.toNat 2 ++ natLe s.pctUsed 1 ++
      natLe s.sparePct 1 ++ natLe s.warnBits 1 ++ natLe x 2 ++ natLe 0 5), .miResp 0 0 0] ∧ t.ActFrame s [] []) ∧
  (∀ (cid v : Nat) (s : State), s.TakesMi → s.miConfig cid = some v → Runs (.configurationGet cid) s fun t =>
    t.out = s.out ++ [.miResp 0 0 v] ∧ t.ActFrame s [] []) ∧
  (∀ (cid : Nat) (s : State), s.TakesMi → s.miConfig cid = none → Runs (.configurationGet cid) s fun t =>
    t.out = s.out ++ [.miResp stInvalidField.sct stInvalidField.sc 0] ∧ t.ActFrame s [] []) ∧
  (∀ (v : Nat) (s : State), s.TakesMi → 64 ≤ v → v ≤ 250 → Runs (.configurationSet 3 v) s fun t =>
    t.host.smb = { s.host.smb with mtu := v } ∧ t.out = s.out ++ [.miResp 0 0 0] ∧ t.ActFrame s [] []) ∧
  (∀ (v : Nat) (s : State), s.TakesMi → v < 64 ∨ 250 < v → Runs (.configurationSet 3 v) s fun t =>
    t.host = s.host ∧ t.out = s.out ++ [.miResp stInvalidField.sct stInvalidField.sc 0] ∧ t.ActFrame s [] []) ∧
  (∀ s : State, s.InRun → s.domOn .sup = true → s.domOn .ctrl = true → s.vaulting = false →
    Runs .basicManagementCommand s fun t => t.out = s.out ++ [.smb ([s.healthFlags, 255 - s.warnBits % 256, s.tempByte,
      s.pctUsed].map (fun n => BitVec.ofNat 8 n))] ∧ t.ActFrame s [] []) ∧
  (∀ s : State, s.get Reg.PWR_STATUS_STATE = pwrDeep → s.domOn .sup = true → s.vaulting = false →
    Runs .basicManagementCommand s fun t => t.regs = s.regs ∧ t.Frame s [] [] ∧
      t.out = s.out ++ [.smb ([lget s.host.smb.heldHealth 0 0, 255 - lget s.host.smb.heldHealth 1 0 % 256,
        lget s.host.smb.heldHealth 2 0, lget s.host.smb.heldHealth 3 0].map (fun n => BitVec.ofNat 8 n))]) ∧
  (∀ (s : State) (cid : Nat) (addr w : Word) (b : Byte) (pec : Bool), s.domOn .sup = true → s.vaulting = true →
    ∀ c ∈ [Instr.smbusAddrWrite addr pec, .smbusAddrRead, .smbusWrite w pec, .smbusRead, .smbusStatus, .smbusCtrlWrite b pec,
      .smbusCtrlRead, .configurationGet cid, .basicManagementCommand],
      Runs c s fun t => t.out = s.out ++ [.smbNak] ∧ t.host = s.host ∧ t.regs = s.regs ∧ t.Frame s [] []) ∧
  (∀ (addr : Word) (pec : Bool) (s : State), s.domOn .sup = true → s.vaulting = false →
    pec = true ∨ s.host.smb.pecReq = false → Runs (.smbusAddrWrite addr pec) s fun t =>
      t.host.smb = { s.host.smb with addr := addr.toNat, status := if s.host.smb.status = 8 then 0 else s.host.smb.status } ∧
      t.Frame s [] []) ∧
  (∀ (b : Byte) (pec : Bool) (s : State), s.domOn .sup = true → s.vaulting = false →
    pec = true ∨ s.host.smb.pecReq = false → Runs (.smbusCtrlWrite b pec) s fun t =>
      t.host.smb = { s.host.smb with
        autoInc := b.getLsbD 0, pecReq := b.getLsbD 1, status := if s.host.smb.status = 8 then 0 else s.host.smb.status } ∧
        t.Frame s [] []) ∧
  (∀ s : State, s.domOn .sup = true → s.vaulting = false → Runs .smbusAddrRead s fun t =>
    t.out = s.out ++ [.smb ((4 : Byte) :: natLe s.host.smb.addr 4)] ∧ t.Frame s [] []) ∧
  (∀ s : State, s.domOn .sup = true → s.vaulting = false → Runs .smbusCtrlRead s fun t =>
    t.out = s.out ++ [.smb (natLe (b2n s.host.smb.autoInc + 2 * b2n s.host.smb.pecReq) 1)] ∧ t.Frame s [] []) ∧
  (∀ s : State, Runs .smbusStuckTimeout s fun t => t.host = s.host ∧ t.out = s.out ∧ t.regs = s.regs ∧ t.Frame s [] []) ∧
  (∀ s : State, s.domOn .ctrl = true → s.vaulting = false → Runs .uartStatus s fun t => t.Frame s [] [] ∧
    t.out = s.out ++ [.uart [1, s.get Reg.PWR_STATUS_STATE, s.seqState, s.pmr.st.code, errCode s.pmr.conds,
      s.get Reg.UMB_HORIZON_BYTES, s.dirtyBytes, s.echoState]]) ∧
  (∀ (n : Nat) (s : State), s.domOn .ctrl = true → s.vaulting = false → 1 ≤ n → n ≤ 64 → Runs (.uartEvents n) s fun t =>
    t.out = s.out ++ ((s.evr.viewRecs s.endSeq).drop ((s.evr.viewRecs s.endSeq).length - n)).map
      (fun e => Out.uart [2, e.seq, e.sev, e.src, e.code, e.key, e.rep]) ∧ t.Frame s [] []) ∧
  (∀ (n : Nat) (s : State), s.domOn .ctrl = true → s.vaulting = false → n = 0 ∨ 64 < n → Runs (.uartEvents n) s fun t =>
    t.out = s.out ++ [.uart [7]] ∧ t.Frame s [] []) ∧
  (∀ s : State, s.domOn .ctrl = true → s.vaulting = false → Runs .uartFf s fun t => t.Frame s [] [] ∧
    t.out = s.out ++ [.uart (match s.rails.ffQueue.reverse ++ s.ffList with
      | r :: _ => 3 :: r.words
      | [] => [3])]) ∧
  (∀ s : State, s.domOn .ctrl = true → s.vaulting = false → Runs .uartHelp s fun t =>
    t.out = s.out ++ [.uart [6]] ∧ t.regs = s.regs ∧ t.Frame s [] []) ∧
  (∀ s : State, s.domOn .ctrl = true → s.vaulting = false → Runs .uartUnknown s fun t =>
    t.out = s.out ++ [.uart [7]] ∧ t.host = s.host ∧ t.regs = s.regs ∧ t.Frame s [] []) ∧
  (∀ (o n : Nat) (w : Word) (s : State), s.vaulting = true →
    ∀ c ∈ [Instr.uartStatus, .uartEvents n, .uartFf, .uartRegRead o, .uartRegWrite o w, .uartHelp, .uartUnknown],
      Runs c s fun t => t.out = s.out ∧ t.host = s.host ∧ t.regs = s.regs ∧ t.Frame s [] []) ∧
  (∀ (o : Nat) (row : RegRow) (b : Block) (s : State), s.domOn .ctrl = true → s.vaulting = false → smbRange o = false →
    Block.ofOff o = some b → s.domOn b.domain = true → regAt o = some (row, false) → row.wide = false →
    Runs (.uartRegRead o) s fun t => t.out = s.out ++ [.uart [4, o, s.wordOf row]] ∧
      t.Frame s [] (row.flds.filter (fun f => f.acc == .rc))) ∧
  (∀ (o : Nat) (w : Word) (row : RegRow) (s : State), s.Writes .uart o w.toNat → smbRange o = false →
    regAt o = some (row, false) → (row.flds.map Fld.key).Nodup → (∀ f ∈ row.flds, f.OffRecorder) → o ∉ actingOffsets →
    Runs (.uartRegWrite o w) s fun t => t.Frame s [] row.flds ∧ (∀ f ∈ row.flds, f.acc = .rw → t.get f = f.of w.toNat) ∧
      ∃ v, t.Sent s (.uart [5, o, v])) ∧
  (∀ (o : Nat) (w : Word) (b : Block) (s : State), s.domOn .ctrl = true → s.vaulting = false → smbRange o = false →
    Block.ofOff o = some b → s.domOn b.domain = true → s.flag Reg.CFG_CTRL_LOCK = true →
    Runs (.uartRegWrite o w) s fun t => t.Sent s (.uart [7]) ∧ t.Frame s [] [])

/-- The STATUS byte of the indirect window (R519): what each access sets, that a write after the lock sets DONE alone, and
that the reserved bits stay 0. -/
def Obligations.SmbusStatusByte : Prop :=
  (∀ s : State, s.domOn .sup = true → s.vaulting = false → Runs .smbusStatus s fun t =>
    t.out = s.out ++ [.smb (natLe s.host.smb.status 1)] ∧ t.Frame s [] []) ∧
  (∀ (w : Word) (row : RegRow) (s : State), s.Writes .smbus s.host.smb.addr w.toNat → smbRange s.host.smb.addr = false →
    regAt s.host.smb.addr = some (row, false) → (row.flds.map Fld.key).Nodup → (∀ f ∈ row.flds, f.OffRecorder) →
    s.host.smb.addr ∉ actingOffsets →
    Runs (.smbusWrite w true) s fun t => t.Frame s [] row.flds ∧ (∀ f ∈ row.flds, f.acc = .rw → t.get f = f.of w.toNat) ∧
      t.host.smb = { s.host.smb with
        status := 1, addr := if s.host.smb.autoInc then (s.host.smb.addr + 4) % 2 ^ 32 else s.host.smb.addr }) ∧
  (∀ (row : RegRow) (b : Block) (s : State), s.domOn .sup = true → s.vaulting = false → smbRange s.host.smb.addr = false →
    Block.ofOff s.host.smb.addr = some b → s.domOn b.domain = true → regAt s.host.smb.addr = some (row, false) →
    row.wide = false →
    Runs .smbusRead s fun t => t.out = s.out ++ [.smb ((5 : Byte) :: (natLe 1 1 ++ natLe (s.wordOf row) 4))] ∧
      t.host.smb = { s.host.smb with
        status := 1, addr := if s.host.smb.autoInc then (s.host.smb.addr + 4) % 2 ^ 32 else s.host.smb.addr }) ∧
  (∀ (b : Block) (s : State), s.domOn .sup = true → s.vaulting = false → smbRange s.host.smb.addr = false →
    Block.ofOff s.host.smb.addr = some b → s.domAnswers b.domain = false →
    Runs .smbusRead s fun t => t.Sent s (.smb ((5 : Byte) :: (natLe 2 1 ++ natLe 0xDEAD0FFD 4))) ∧ t.host.smb.status = 2) ∧
  (∀ (w : Word) (b : Block) (s : State), s.domOn .sup = true → s.vaulting = false → smbRange s.host.smb.addr = false →
    Block.ofOff s.host.smb.addr = some b → s.domAnswers b.domain = false →
    Runs (.smbusWrite w true) s fun t => t.host.smb.status = 2 ∧
      t.Frame s [] [Reg.PWR_OFFACC_COUNT, Reg.PWR_OFFACC_DOMAIN, Reg.PWR_OFFACC_REQUESTER, Reg.PWR_OFFACC_ADDR_ADDR]) ∧
  (∀ (w : Word) (s : State), s.domOn .sup = true → s.vaulting = false → smbRange s.host.smb.addr = true →
    Runs (.smbusWrite w true) s fun t => t.host.smb.status = 4 ∧ t.regs = s.regs ∧ t.Frame s [] []) ∧
  (∀ s : State, s.domOn .sup = true → s.vaulting = false → smbRange s.host.smb.addr = true →
    Runs .smbusRead s fun t => t.host.smb.status = 4 ∧ t.regs = s.regs ∧ t.Frame s [] []) ∧
  (∀ (addr w : Word) (b : Byte) (s : State), s.domOn .sup = true → s.vaulting = false → s.host.smb.pecReq = true →
    ∀ c ∈ [Instr.smbusAddrWrite addr false, .smbusWrite w false, .smbusCtrlWrite b false],
      Runs c s fun t => t.host.smb = { s.host.smb with status := 8 } ∧ t.out = s.out ∧ t.regs = s.regs ∧ t.Frame s [] []) ∧
  (∀ (w : Word) (b : Block) (s : State), s.domOn .sup = true → s.vaulting = false → smbRange s.host.smb.addr = false →
    Block.ofOff s.host.smb.addr = some b → s.domOn b.domain = true →
    s.mayWrite .smbus s.host.smb.addr w.toNat = false →
    Runs (.smbusWrite w true) s fun t => t.host.smb.status = 16 ∧ t.Frame s [] []) ∧
  (∀ (w : Word) (row : RegRow) (s : State), s.Writes .smbus s.host.smb.addr w.toNat → smbRange s.host.smb.addr = false →
    regAt s.host.smb.addr = some (row, false) → (∀ f ∈ row.flds, f.acc = .rwl) → (∀ f ∈ row.flds, f.OffRecorder) →
    s.host.smb.addr ∉ actingOffsets → s.flag Reg.CFG_CTRL_LOCK = true →
    Runs (.smbusWrite w true) s fun t => t.host.smb.status = 1 ∧ t.Frame s [] []) ∧
  (∀ (w : Word) (pec : Bool) (s : State), s.host.smb.status < 32 →
    (Runs (.smbusWrite w pec) s fun t => t.host.smb.status < 32) ∧ Runs .smbusRead s fun t => t.host.smb.status < 32)
end

