-- ==== Sys2Proof/Laws/Maps.lean ====
section
/-! SUPPORT. The laws of sparse tables and byte memories: a read after a write, and that every operation keeps the canonical
form. -/

namespace Sys2Proof.Machine

variable {α β : Type}

@[simp] theorem mget_nil (k : Nat) : mget ([] : NMap α) k = none := rfl
@[simp] theorem mgetD_nil (k : Nat) (d : α) : mgetD ([] : NMap α) k d = d := rfl

@[simp] theorem mget_mset_same (m : NMap α) (k : Nat) (v : α) : mget (mset m k v) k = some v := by
  induction m with
  | nil => simp [mset, mget]
  | cons e t ih =>
    obtain ⟨k', w⟩ := e
    simp only [mset]
    split
    · simp [mget]
    · split
      · simp [mget]
      · simp_all [mget]

theorem mget_mset_ne (m : NMap α) {k j : Nat} (v : α) (h : j ≠ k) : mget (mset m k v) j = mget m j := by
  induction m with
  | nil => simp [mset, mget, h]
  | cons e t ih =>
    obtain ⟨k', w⟩ := e
    simp only [mset]
    split
    · simp [mget, h]
    · split
      · subst_vars; simp [mget, h]
      · simp [mget, ih]

@[simp] theorem mget_mdel_same (m : NMap α) (k : Nat) : mget (mdel m k) k = none := by
  induction m with
  | nil => rfl
  | cons e t ih =>
    obtain ⟨k', w⟩ := e
    simp only [mdel]
    split
    · exact ih
    · simp_all [mget]

theorem mget_mdel_ne (m : NMap α) {k j : Nat} (h : j ≠ k) : mget (mdel m k) j = mget m j := by
  induction m with
  | nil => rfl
  | cons e t ih =>
    obtain ⟨k', w⟩ := e
    simp only [mdel]
    split
    · subst_vars; simp [mget, h, ih]
    · simp [mget, ih]

variable [DecidableEq α]

@[simp] theorem mgetD_mput_same (d : α) (m : NMap α) (k : Nat) (v : α) : mgetD (mput d m k v) k d = v := by
  unfold mput mgetD
  split
  · simp_all
  · simp

theorem mgetD_mput_ne (d : α) (m : NMap α) {k j : Nat} (v : α) (h : j ≠ k) : mgetD (mput d m k v) j d = mgetD m j d := by
  unfold mput mgetD
  split
  · rw [mget_mdel_ne m h]
  · rw [mget_mset_ne m v h]

theorem mgetD_mput_ne' (d d' : α) (m : NMap α) {k j : Nat} (v : α) (h : j ≠ k) :
    mgetD (mput d m k v) j d' = mgetD m j d' := by
  unfold mput mgetD
  split
  · rw [mget_mdel_ne m h]
  · rw [mget_mset_ne m v h]

omit [DecidableEq α] in
theorem sortedFrom_mono (m : NMap α) {a b : Nat} (h : a ≤ b) (hm : NMap.sortedFrom b m = true) : NMap.sortedFrom a m = true := by
  cases m with
  | nil => rfl
  | cons e t =>
    obtain ⟨k, v⟩ := e
    simp only [NMap.sortedFrom, Bool.and_eq_true, decide_eq_true_eq] at hm ⊢
    exact ⟨by omega, hm.2⟩

omit [DecidableEq α] in
theorem sortedFrom_mset (m : NMap α) (lo k : Nat) (v : α) (hk : lo ≤ k) (hm : NMap.sortedFrom lo m = true) :
    NMap.sortedFrom lo (mset m k v) = true := by
  induction m generalizing lo with
  | nil => simp [mset, NMap.sortedFrom, hk]
  | cons e t ih =>
    obtain ⟨k', w⟩ := e
    simp only [NMap.sortedFrom, Bool.and_eq_true, decide_eq_true_eq] at hm
    simp only [mset]
    split
    · simp only [NMap.sortedFrom, Bool.and_eq_true, decide_eq_true_eq]
      exact ⟨hk, by omega, hm.2⟩
    · split
      · subst_vars; simp [NMap.sortedFrom, hm]
      · simp only [NMap.sortedFrom, Bool.and_eq_true, decide_eq_true_eq]
        exact ⟨hm.1, ih (k' + 1) (by omega) hm.2⟩

omit [DecidableEq α] in
theorem sortedFrom_mdel (m : NMap α) (lo k : Nat) (hm : NMap.sortedFrom lo m = true) : NMap.sortedFrom lo (mdel m k) = true := by
  induction m generalizing lo with
  | nil => rfl
  | cons e t ih =>
    obtain ⟨k', w⟩ := e
    simp only [NMap.sortedFrom, Bool.and_eq_true, decide_eq_true_eq] at hm
    simp only [mdel]
    split
    · exact sortedFrom_mono _ (by omega) (ih (k' + 1) hm.2)
    · simp only [NMap.sortedFrom, Bool.and_eq_true, decide_eq_true_eq]
      exact ⟨hm.1, ih (k' + 1) hm.2⟩

omit [DecidableEq α] in
theorem sortedFrom_filter (m : NMap α) (lo : Nat) (p : Nat × α → Bool) (hm : NMap.sortedFrom lo m = true) :
    NMap.sortedFrom lo (m.filter p) = true := by
  induction m generalizing lo with
  | nil => rfl
  | cons e t ih =>
    obtain ⟨k', w⟩ := e
    simp only [NMap.sortedFrom, Bool.and_eq_true, decide_eq_true_eq] at hm
    simp only [List.filter_cons]
    split
    · simp only [NMap.sortedFrom, Bool.and_eq_true, decide_eq_true_eq]
      exact ⟨hm.1, ih (k' + 1) hm.2⟩
    · exact sortedFrom_mono _ (by omega) (ih (k' + 1) hm.2)

omit [DecidableEq α] in
/-- Writing a table keeps its canonical form. -/
theorem wf_mset (m : NMap α) (k : Nat) (v : α) (hm : NMap.wf m = true) : NMap.wf (mset m k v) = true :=
  sortedFrom_mset m 0 k v (Nat.zero_le _) hm

omit [DecidableEq α] in
theorem wf_mdel (m : NMap α) (k : Nat) (hm : NMap.wf m = true) : NMap.wf (mdel m k) = true := sortedFrom_mdel m 0 k hm

theorem wf_mput (d : α) (m : NMap α) (k : Nat) (v : α) (hm : NMap.wf m = true) : NMap.wf (mput d m k v) = true := by
  unfold mput
  split
  · exact wf_mdel m k hm
  · exact wf_mset m k v hm

omit [DecidableEq α] in
theorem wf_mfilter (m : NMap α) (p : Nat → α → Bool) (hm : NMap.wf m = true) : NMap.wf (mfilter p m) = true :=
  sortedFrom_filter m 0 _ hm

omit [DecidableEq α] in
theorem sortedFrom_mmap (m : NMap α) (lo : Nat) (f : Nat → α → β) (hm : NMap.sortedFrom lo m = true) :
    NMap.sortedFrom lo (mmap f m) = true := by
  induction m generalizing lo with
  | nil => rfl
  | cons e t ih =>
    obtain ⟨k', w⟩ := e
    simp only [NMap.sortedFrom, Bool.and_eq_true, decide_eq_true_eq] at hm
    simp only [mmap, List.map_cons, NMap.sortedFrom, Bool.and_eq_true, decide_eq_true_eq]
    exact ⟨hm.1, ih (k' + 1) hm.2⟩

omit [DecidableEq α] in
theorem wf_mmap (m : NMap α) (f : Nat → α → β) (hm : NMap.wf m = true) : NMap.wf (mmap f m) = true :=
  sortedFrom_mmap m 0 f hm

/-! Byte memories. -/

theorem all_mset (m : List Host.Cell) (k : Nat) (v : Byte) (p : Host.Cell → Bool) (hv : p (k, v) = true) (hm : m.all p = true) :
    (mset m k v).all p = true := by
  induction m with
  | nil => simp [mset, hv]
  | cons e t ih =>
    obtain ⟨k', w⟩ := e
    simp only [List.all_cons, Bool.and_eq_true] at hm
    simp only [mset]
    split
    · simp [hv, hm.1, hm.2]
    · split
      · simp [hv, hm.2]
      · simp only [List.all_cons, Bool.and_eq_true]
        exact ⟨hm.1, ih hm.2⟩

theorem all_mdel (m : List Host.Cell) (k : Nat) (p : Host.Cell → Bool) (hm : m.all p = true) : (mdel m k).all p = true := by
  induction m with
  | nil => rfl
  | cons e t ih =>
    obtain ⟨k', w⟩ := e
    simp only [List.all_cons, Bool.and_eq_true] at hm
    simp only [mdel]
    split
    · exact ih hm.2
    · simp only [List.all_cons, Bool.and_eq_true]
      exact ⟨hm.1, ih hm.2⟩

/-- Writing a byte keeps a memory's canonical form. -/
theorem Memory.wf_mput (m : List Host.Cell) (a : Nat) (b : Byte) (h : Memory.wf m = true) : Memory.wf (mput 0 m a b) = true := by
  simp only [Memory.wf, Bool.and_eq_true] at h ⊢
  refine ⟨Machine.wf_mput 0 m a b h.1, ?_⟩
  unfold mput
  split
  · exact all_mdel m a _ h.2
  · exact all_mset m a b _ (by simpa using ‹¬ b = 0›) h.2

theorem Memory.wf_filter (m : List Host.Cell) (p : Host.Cell → Bool) (h : Memory.wf m = true) :
    Memory.wf (m.filter p) = true := by
  simp only [Memory.wf, Bool.and_eq_true] at h ⊢
  refine ⟨sortedFrom_filter m 0 p h.1, ?_⟩
  rw [List.all_eq_true] at h ⊢
  intro c hc
  exact h.2 c (List.mem_of_mem_filter hc)

theorem Memory.wf_storeBytes (bs : List Byte) (m : List Host.Cell) (a : Nat) (h : Memory.wf m = true) :
    Memory.wf (storeBytes m a bs) = true := by
  induction bs generalizing m a with
  | nil => exact h
  | cons b t ih => exact ih _ _ (Memory.wf_mput m a b h)

theorem Memory.wf_storeEnabled (bs : List Byte) (es : List Bool) (m : List Host.Cell) (a : Nat) (h : Memory.wf m = true) :
    Memory.wf (storeEnabled m a bs es) = true := by
  induction bs generalizing m a es with
  | nil => simpa [storeEnabled] using h
  | cons b t ih =>
    cases es with
    | nil => simpa [storeEnabled] using h
    | cons e es =>
      simp only [storeEnabled]
      refine ih es _ _ ?_
      split
      · exact Memory.wf_mput m a b h
      · exact h

theorem Memory.wf_clearCells (m : List Host.Cell) (a n : Nat) (h : Memory.wf m = true) : Memory.wf (clearCells m a n) = true :=
  Memory.wf_filter m _ h

theorem Memory.wf_pasteCells (cs m : List Host.Cell) (a : Nat) (h : Memory.wf m = true) :
    Memory.wf (pasteCells m a cs) = true := by
  induction cs generalizing m with
  | nil => exact h
  | cons c t ih =>
    obtain ⟨o, b⟩ := c
    exact ih _ (Memory.wf_mput m (a + o) b h)

theorem Memory.wf_replaceCells (m : List Host.Cell) (a n : Nat) (cs : List Host.Cell) (h : Memory.wf m = true) :
    Memory.wf (replaceCells m a n cs) = true :=
  Memory.wf_pasteCells _ _ a (Memory.wf_clearCells m a n h)

/-- A byte that a store does not reach reads as before. -/
theorem loadByte_storeBytes_out (bs : List Byte) (m : List Host.Cell) (a x : Nat) (h : x < a ∨ a + bs.length ≤ x) :
    loadByte (storeBytes m a bs) x = loadByte m x := by
  induction bs generalizing m a with
  | nil => rfl
  | cons b t ih =>
    simp only [List.length_cons] at h
    simp only [storeBytes]
    rw [ih _ _ (by omega)]
    exact mgetD_mput_ne 0 m b (by omega)

/-- A byte that a store reaches reads as stored. -/
theorem loadByte_storeBytes_in (bs : List Byte) (m : List Host.Cell) (a i : Nat) (h : i < bs.length) :
    loadByte (storeBytes m a bs) (a + i) = bs[i] := by
  induction bs generalizing m a i with
  | nil => simp at h
  | cons b t ih =>
    simp only [storeBytes]
    cases i with
    | zero =>
      rw [loadByte_storeBytes_out t _ _ _ (by omega)]
      simp [loadByte]
    | succ i =>
      have := ih (mput 0 m a b) (a + 1) i (by simpa using h)
      rw [show a + (i + 1) = a + 1 + i by omega, this]
      rfl

end Sys2Proof.Machine
end

