-- ==== Sys2Proof/Laws/State.lean ====
section
/-! SUPPORT. What each update of the state leaves alone, and what a field reads after it was stored: one lemma per field and
update, so that no proof unfolds a record update. -/

namespace Sys2Proof.Machine

variable (s t : State)

@[simp] theorem State.put_pending (f : Fld) (v : Nat) : (s.put f v).pending = s.pending := rfl
@[simp] theorem State.put_evr (f : Fld) (v : Nat) : (s.put f v).evr = s.evr := rfl
@[simp] theorem State.put_rails (f : Fld) (v : Nat) : (s.put f v).rails = s.rails := rfl
@[simp] theorem State.put_broker (f : Fld) (v : Nat) : (s.put f v).broker = s.broker := rfl
@[simp] theorem State.put_pwr (f : Fld) (v : Nat) : (s.put f v).pwr = s.pwr := rfl
@[simp] theorem State.put_host (f : Fld) (v : Nat) : (s.put f v).host = s.host := rfl
@[simp] theorem State.put_pmr (f : Fld) (v : Nat) : (s.put f v).pmr = s.pmr := rfl
@[simp] theorem State.put_cache (f : Fld) (v : Nat) : (s.put f v).cache = s.cache := rfl
@[simp] theorem State.put_umb (f : Fld) (v : Nat) : (s.put f v).umb = s.umb := rfl
@[simp] theorem State.put_vlt (f : Fld) (v : Nat) : (s.put f v).vlt = s.vlt := rfl
@[simp] theorem State.put_grt (f : Fld) (v : Nat) : (s.put f v).grt = s.grt := rfl
@[simp] theorem State.put_flc (f : Fld) (v : Nat) : (s.put f v).flc = s.flc := rfl
@[simp] theorem State.put_dmc (f : Fld) (v : Nat) : (s.put f v).dmc = s.dmc := rfl
@[simp] theorem State.put_ech (f : Fld) (v : Nat) : (s.put f v).ech = s.ech := rfl
@[simp] theorem State.put_lan (f : Fld) (v : Nat) : (s.put f v).lan = s.lan := rfl
@[simp] theorem State.put_boot (f : Fld) (v : Nat) : (s.put f v).boot = s.boot := rfl
@[simp] theorem State.put_out (f : Fld) (v : Nat) : (s.put f v).out = s.out := rfl
@[simp] theorem State.put_deferred (f : Fld) (v : Nat) : (s.put f v).deferred = s.deferred := rfl
@[simp] theorem State.put_flow (f : Fld) (v : Nat) : (s.put f v).flow = s.flow := rfl
@[simp] theorem State.put_pins (f : Fld) (v : Nat) : (s.put f v).pins = s.pins := rfl
@[simp] theorem State.put_test (f : Fld) (v : Nat) : (s.put f v).test = s.test := rfl
@[simp] theorem State.put_free (f : Fld) (v : Nat) : (s.put f v).free = s.free := rfl

@[simp] theorem State.send_pending (o : Out) : (s.send o).pending = s.pending := rfl
@[simp] theorem State.send_regs (o : Out) : (s.send o).regs = s.regs := rfl
@[simp] theorem State.send_evr (o : Out) : (s.send o).evr = s.evr := rfl
@[simp] theorem State.send_rails (o : Out) : (s.send o).rails = s.rails := rfl
@[simp] theorem State.send_broker (o : Out) : (s.send o).broker = s.broker := rfl
@[simp] theorem State.send_pwr (o : Out) : (s.send o).pwr = s.pwr := rfl
@[simp] theorem State.send_host (o : Out) : (s.send o).host = s.host := rfl
@[simp] theorem State.send_pmr (o : Out) : (s.send o).pmr = s.pmr := rfl
@[simp] theorem State.send_cache (o : Out) : (s.send o).cache = s.cache := rfl
@[simp] theorem State.send_umb (o : Out) : (s.send o).umb = s.umb := rfl
@[simp] theorem State.send_vlt (o : Out) : (s.send o).vlt = s.vlt := rfl
@[simp] theorem State.send_grt (o : Out) : (s.send o).grt = s.grt := rfl
@[simp] theorem State.send_flc (o : Out) : (s.send o).flc = s.flc := rfl
@[simp] theorem State.send_dmc (o : Out) : (s.send o).dmc = s.dmc := rfl
@[simp] theorem State.send_ech (o : Out) : (s.send o).ech = s.ech := rfl
@[simp] theorem State.send_lan (o : Out) : (s.send o).lan = s.lan := rfl
@[simp] theorem State.send_boot (o : Out) : (s.send o).boot = s.boot := rfl
@[simp] theorem State.send_deferred (o : Out) : (s.send o).deferred = s.deferred := rfl
@[simp] theorem State.send_flow (o : Out) : (s.send o).flow = s.flow := rfl
@[simp] theorem State.send_pins (o : Out) : (s.send o).pins = s.pins := rfl
@[simp] theorem State.send_test (o : Out) : (s.send o).test = s.test := rfl
@[simp] theorem State.send_free (o : Out) : (s.send o).free = s.free := rfl

@[simp] theorem State.setDom_pending (d : Domain) (v : DomSt) : (s.setDom d v).pending = s.pending := rfl
@[simp] theorem State.setDom_regs (d : Domain) (v : DomSt) : (s.setDom d v).regs = s.regs := rfl
@[simp] theorem State.setDom_evr (d : Domain) (v : DomSt) : (s.setDom d v).evr = s.evr := rfl
@[simp] theorem State.setDom_rails (d : Domain) (v : DomSt) : (s.setDom d v).rails = s.rails := rfl
@[simp] theorem State.setDom_broker (d : Domain) (v : DomSt) : (s.setDom d v).broker = s.broker := rfl
@[simp] theorem State.setDom_host (d : Domain) (v : DomSt) : (s.setDom d v).host = s.host := rfl
@[simp] theorem State.setDom_pmr (d : Domain) (v : DomSt) : (s.setDom d v).pmr = s.pmr := rfl
@[simp] theorem State.setDom_cache (d : Domain) (v : DomSt) : (s.setDom d v).cache = s.cache := rfl
@[simp] theorem State.setDom_umb (d : Domain) (v : DomSt) : (s.setDom d v).umb = s.umb := rfl
@[simp] theorem State.setDom_vlt (d : Domain) (v : DomSt) : (s.setDom d v).vlt = s.vlt := rfl
@[simp] theorem State.setDom_grt (d : Domain) (v : DomSt) : (s.setDom d v).grt = s.grt := rfl
@[simp] theorem State.setDom_flc (d : Domain) (v : DomSt) : (s.setDom d v).flc = s.flc := rfl
@[simp] theorem State.setDom_dmc (d : Domain) (v : DomSt) : (s.setDom d v).dmc = s.dmc := rfl
@[simp] theorem State.setDom_ech (d : Domain) (v : DomSt) : (s.setDom d v).ech = s.ech := rfl
@[simp] theorem State.setDom_lan (d : Domain) (v : DomSt) : (s.setDom d v).lan = s.lan := rfl
@[simp] theorem State.setDom_boot (d : Domain) (v : DomSt) : (s.setDom d v).boot = s.boot := rfl
@[simp] theorem State.setDom_out (d : Domain) (v : DomSt) : (s.setDom d v).out = s.out := rfl
@[simp] theorem State.setDom_deferred (d : Domain) (v : DomSt) : (s.setDom d v).deferred = s.deferred := rfl
@[simp] theorem State.setDom_flow (d : Domain) (v : DomSt) : (s.setDom d v).flow = s.flow := rfl
@[simp] theorem State.setDom_pins (d : Domain) (v : DomSt) : (s.setDom d v).pins = s.pins := rfl
@[simp] theorem State.setDom_test (d : Domain) (v : DomSt) : (s.setDom d v).test = s.test := rfl
@[simp] theorem State.setDom_free (d : Domain) (v : DomSt) : (s.setDom d v).free = s.free := rfl

@[simp] theorem State.setGran_pending (g : Nat) (v : GState) : (s.setGran g v).pending = s.pending := rfl
@[simp] theorem State.setGran_regs (g : Nat) (v : GState) : (s.setGran g v).regs = s.regs := rfl
@[simp] theorem State.setGran_evr (g : Nat) (v : GState) : (s.setGran g v).evr = s.evr := rfl
@[simp] theorem State.setGran_rails (g : Nat) (v : GState) : (s.setGran g v).rails = s.rails := rfl
@[simp] theorem State.setGran_broker (g : Nat) (v : GState) : (s.setGran g v).broker = s.broker := rfl
@[simp] theorem State.setGran_pwr (g : Nat) (v : GState) : (s.setGran g v).pwr = s.pwr := rfl
@[simp] theorem State.setGran_host (g : Nat) (v : GState) : (s.setGran g v).host = s.host := rfl
@[simp] theorem State.setGran_pmr (g : Nat) (v : GState) : (s.setGran g v).pmr = s.pmr := rfl
@[simp] theorem State.setGran_umb (g : Nat) (v : GState) : (s.setGran g v).umb = s.umb := rfl
@[simp] theorem State.setGran_vlt (g : Nat) (v : GState) : (s.setGran g v).vlt = s.vlt := rfl
@[simp] theorem State.setGran_grt (g : Nat) (v : GState) : (s.setGran g v).grt = s.grt := rfl
@[simp] theorem State.setGran_flc (g : Nat) (v : GState) : (s.setGran g v).flc = s.flc := rfl
@[simp] theorem State.setGran_dmc (g : Nat) (v : GState) : (s.setGran g v).dmc = s.dmc := rfl
@[simp] theorem State.setGran_ech (g : Nat) (v : GState) : (s.setGran g v).ech = s.ech := rfl
@[simp] theorem State.setGran_lan (g : Nat) (v : GState) : (s.setGran g v).lan = s.lan := rfl
@[simp] theorem State.setGran_boot (g : Nat) (v : GState) : (s.setGran g v).boot = s.boot := rfl
@[simp] theorem State.setGran_out (g : Nat) (v : GState) : (s.setGran g v).out = s.out := rfl
@[simp] theorem State.setGran_deferred (g : Nat) (v : GState) : (s.setGran g v).deferred = s.deferred := rfl
@[simp] theorem State.setGran_flow (g : Nat) (v : GState) : (s.setGran g v).flow = s.flow := rfl
@[simp] theorem State.setGran_pins (g : Nat) (v : GState) : (s.setGran g v).pins = s.pins := rfl
@[simp] theorem State.setGran_test (g : Nat) (v : GState) : (s.setGran g v).test = s.test := rfl
@[simp] theorem State.setGran_free (g : Nat) (v : GState) : (s.setGran g v).free = s.free := rfl

@[simp] theorem State.setEnt_pending (g : Nat) (e : MapEnt) : (s.setEnt g e).pending = s.pending := rfl
@[simp] theorem State.setEnt_regs (g : Nat) (e : MapEnt) : (s.setEnt g e).regs = s.regs := rfl
@[simp] theorem State.setEnt_evr (g : Nat) (e : MapEnt) : (s.setEnt g e).evr = s.evr := rfl
@[simp] theorem State.setEnt_rails (g : Nat) (e : MapEnt) : (s.setEnt g e).rails = s.rails := rfl
@[simp] theorem State.setEnt_broker (g : Nat) (e : MapEnt) : (s.setEnt g e).broker = s.broker := rfl
@[simp] theorem State.setEnt_pwr (g : Nat) (e : MapEnt) : (s.setEnt g e).pwr = s.pwr := rfl
@[simp] theorem State.setEnt_host (g : Nat) (e : MapEnt) : (s.setEnt g e).host = s.host := rfl
@[simp] theorem State.setEnt_pmr (g : Nat) (e : MapEnt) : (s.setEnt g e).pmr = s.pmr := rfl
@[simp] theorem State.setEnt_umb (g : Nat) (e : MapEnt) : (s.setEnt g e).umb = s.umb := rfl
@[simp] theorem State.setEnt_vlt (g : Nat) (e : MapEnt) : (s.setEnt g e).vlt = s.vlt := rfl
@[simp] theorem State.setEnt_grt (g : Nat) (e : MapEnt) : (s.setEnt g e).grt = s.grt := rfl
@[simp] theorem State.setEnt_flc (g : Nat) (e : MapEnt) : (s.setEnt g e).flc = s.flc := rfl
@[simp] theorem State.setEnt_dmc (g : Nat) (e : MapEnt) : (s.setEnt g e).dmc = s.dmc := rfl
@[simp] theorem State.setEnt_ech (g : Nat) (e : MapEnt) : (s.setEnt g e).ech = s.ech := rfl
@[simp] theorem State.setEnt_lan (g : Nat) (e : MapEnt) : (s.setEnt g e).lan = s.lan := rfl
@[simp] theorem State.setEnt_boot (g : Nat) (e : MapEnt) : (s.setEnt g e).boot = s.boot := rfl
@[simp] theorem State.setEnt_out (g : Nat) (e : MapEnt) : (s.setEnt g e).out = s.out := rfl
@[simp] theorem State.setEnt_deferred (g : Nat) (e : MapEnt) : (s.setEnt g e).deferred = s.deferred := rfl
@[simp] theorem State.setEnt_flow (g : Nat) (e : MapEnt) : (s.setEnt g e).flow = s.flow := rfl
@[simp] theorem State.setEnt_pins (g : Nat) (e : MapEnt) : (s.setEnt g e).pins = s.pins := rfl
@[simp] theorem State.setEnt_test (g : Nat) (e : MapEnt) : (s.setEnt g e).test = s.test := rfl
@[simp] theorem State.setEnt_free (g : Nat) (e : MapEnt) : (s.setEnt g e).free = s.free := rfl

@[simp] theorem State.setGranImage_pending (g : Nat) (i : List Host.Cell) : (s.setGranImage g i).pending = s.pending := rfl
@[simp] theorem State.setGranImage_regs (g : Nat) (i : List Host.Cell) : (s.setGranImage g i).regs = s.regs := rfl
@[simp] theorem State.setGranImage_evr (g : Nat) (i : List Host.Cell) : (s.setGranImage g i).evr = s.evr := rfl
@[simp] theorem State.setGranImage_rails (g : Nat) (i : List Host.Cell) : (s.setGranImage g i).rails = s.rails := rfl
@[simp] theorem State.setGranImage_broker (g : Nat) (i : List Host.Cell) : (s.setGranImage g i).broker = s.broker := rfl
@[simp] theorem State.setGranImage_pwr (g : Nat) (i : List Host.Cell) : (s.setGranImage g i).pwr = s.pwr := rfl
@[simp] theorem State.setGranImage_host (g : Nat) (i : List Host.Cell) : (s.setGranImage g i).host = s.host := rfl
@[simp] theorem State.setGranImage_pmr (g : Nat) (i : List Host.Cell) : (s.setGranImage g i).pmr = s.pmr := rfl
@[simp] theorem State.setGranImage_umb (g : Nat) (i : List Host.Cell) : (s.setGranImage g i).umb = s.umb := rfl
@[simp] theorem State.setGranImage_vlt (g : Nat) (i : List Host.Cell) : (s.setGranImage g i).vlt = s.vlt := rfl
@[simp] theorem State.setGranImage_grt (g : Nat) (i : List Host.Cell) : (s.setGranImage g i).grt = s.grt := rfl
@[simp] theorem State.setGranImage_flc (g : Nat) (i : List Host.Cell) : (s.setGranImage g i).flc = s.flc := rfl
@[simp] theorem State.setGranImage_dmc (g : Nat) (i : List Host.Cell) : (s.setGranImage g i).dmc = s.dmc := rfl
@[simp] theorem State.setGranImage_ech (g : Nat) (i : List Host.Cell) : (s.setGranImage g i).ech = s.ech := rfl
@[simp] theorem State.setGranImage_lan (g : Nat) (i : List Host.Cell) : (s.setGranImage g i).lan = s.lan := rfl
@[simp] theorem State.setGranImage_boot (g : Nat) (i : List Host.Cell) : (s.setGranImage g i).boot = s.boot := rfl
@[simp] theorem State.setGranImage_out (g : Nat) (i : List Host.Cell) : (s.setGranImage g i).out = s.out := rfl
@[simp] theorem State.setGranImage_deferred (g : Nat) (i : List Host.Cell) : (s.setGranImage g i).deferred = s.deferred := rfl
@[simp] theorem State.setGranImage_flow (g : Nat) (i : List Host.Cell) : (s.setGranImage g i).flow = s.flow := rfl
@[simp] theorem State.setGranImage_pins (g : Nat) (i : List Host.Cell) : (s.setGranImage g i).pins = s.pins := rfl
@[simp] theorem State.setGranImage_test (g : Nat) (i : List Host.Cell) : (s.setGranImage g i).test = s.test := rfl
@[simp] theorem State.setGranImage_free (g : Nat) (i : List Host.Cell) : (s.setGranImage g i).free = s.free := rfl

@[simp] theorem State.setLun_pending (n : Nat) (l : Lun) : (s.setLun n l).pending = s.pending := rfl
@[simp] theorem State.setLun_regs (n : Nat) (l : Lun) : (s.setLun n l).regs = s.regs := rfl
@[simp] theorem State.setLun_evr (n : Nat) (l : Lun) : (s.setLun n l).evr = s.evr := rfl
@[simp] theorem State.setLun_rails (n : Nat) (l : Lun) : (s.setLun n l).rails = s.rails := rfl
@[simp] theorem State.setLun_broker (n : Nat) (l : Lun) : (s.setLun n l).broker = s.broker := rfl
@[simp] theorem State.setLun_pwr (n : Nat) (l : Lun) : (s.setLun n l).pwr = s.pwr := rfl
@[simp] theorem State.setLun_host (n : Nat) (l : Lun) : (s.setLun n l).host = s.host := rfl
@[simp] theorem State.setLun_pmr (n : Nat) (l : Lun) : (s.setLun n l).pmr = s.pmr := rfl
@[simp] theorem State.setLun_cache (n : Nat) (l : Lun) : (s.setLun n l).cache = s.cache := rfl
@[simp] theorem State.setLun_umb (n : Nat) (l : Lun) : (s.setLun n l).umb = s.umb := rfl
@[simp] theorem State.setLun_vlt (n : Nat) (l : Lun) : (s.setLun n l).vlt = s.vlt := rfl
@[simp] theorem State.setLun_grt (n : Nat) (l : Lun) : (s.setLun n l).grt = s.grt := rfl
@[simp] theorem State.setLun_dmc (n : Nat) (l : Lun) : (s.setLun n l).dmc = s.dmc := rfl
@[simp] theorem State.setLun_ech (n : Nat) (l : Lun) : (s.setLun n l).ech = s.ech := rfl
@[simp] theorem State.setLun_lan (n : Nat) (l : Lun) : (s.setLun n l).lan = s.lan := rfl
@[simp] theorem State.setLun_boot (n : Nat) (l : Lun) : (s.setLun n l).boot = s.boot := rfl
@[simp] theorem State.setLun_out (n : Nat) (l : Lun) : (s.setLun n l).out = s.out := rfl
@[simp] theorem State.setLun_deferred (n : Nat) (l : Lun) : (s.setLun n l).deferred = s.deferred := rfl
@[simp] theorem State.setLun_flow (n : Nat) (l : Lun) : (s.setLun n l).flow = s.flow := rfl
@[simp] theorem State.setLun_pins (n : Nat) (l : Lun) : (s.setLun n l).pins = s.pins := rfl
@[simp] theorem State.setLun_test (n : Nat) (l : Lun) : (s.setLun n l).test = s.test := rfl
@[simp] theorem State.setLun_free (n : Nat) (l : Lun) : (s.setLun n l).free = s.free := rfl

@[simp] theorem State.putB_pending (f : Fld) (b : Bool) : (s.putB f b).pending = s.pending := rfl
@[simp] theorem State.putB_evr (f : Fld) (b : Bool) : (s.putB f b).evr = s.evr := rfl
@[simp] theorem State.putB_rails (f : Fld) (b : Bool) : (s.putB f b).rails = s.rails := rfl
@[simp] theorem State.putB_broker (f : Fld) (b : Bool) : (s.putB f b).broker = s.broker := rfl
@[simp] theorem State.putB_pwr (f : Fld) (b : Bool) : (s.putB f b).pwr = s.pwr := rfl
@[simp] theorem State.putB_host (f : Fld) (b : Bool) : (s.putB f b).host = s.host := rfl
@[simp] theorem State.putB_pmr (f : Fld) (b : Bool) : (s.putB f b).pmr = s.pmr := rfl
@[simp] theorem State.putB_cache (f : Fld) (b : Bool) : (s.putB f b).cache = s.cache := rfl
@[simp] theorem State.putB_umb (f : Fld) (b : Bool) : (s.putB f b).umb = s.umb := rfl
@[simp] theorem State.putB_vlt (f : Fld) (b : Bool) : (s.putB f b).vlt = s.vlt := rfl
@[simp] theorem State.putB_grt (f : Fld) (b : Bool) : (s.putB f b).grt = s.grt := rfl
@[simp] theorem State.putB_flc (f : Fld) (b : Bool) : (s.putB f b).flc = s.flc := rfl
@[simp] theorem State.putB_dmc (f : Fld) (b : Bool) : (s.putB f b).dmc = s.dmc := rfl
@[simp] theorem State.putB_ech (f : Fld) (b : Bool) : (s.putB f b).ech = s.ech := rfl
@[simp] theorem State.putB_lan (f : Fld) (b : Bool) : (s.putB f b).lan = s.lan := rfl
@[simp] theorem State.putB_boot (f : Fld) (b : Bool) : (s.putB f b).boot = s.boot := rfl
@[simp] theorem State.putB_out (f : Fld) (b : Bool) : (s.putB f b).out = s.out := rfl
@[simp] theorem State.putB_deferred (f : Fld) (b : Bool) : (s.putB f b).deferred = s.deferred := rfl
@[simp] theorem State.putB_flow (f : Fld) (b : Bool) : (s.putB f b).flow = s.flow := rfl
@[simp] theorem State.putB_pins (f : Fld) (b : Bool) : (s.putB f b).pins = s.pins := rfl
@[simp] theorem State.putB_test (f : Fld) (b : Bool) : (s.putB f b).test = s.test := rfl
@[simp] theorem State.putB_free (f : Fld) (b : Bool) : (s.putB f b).free = s.free := rfl

@[simp] theorem State.incSat_pending (f : Fld) (n : Nat) : (s.incSat f n).pending = s.pending := rfl
@[simp] theorem State.incSat_evr (f : Fld) (n : Nat) : (s.incSat f n).evr = s.evr := rfl
@[simp] theorem State.incSat_rails (f : Fld) (n : Nat) : (s.incSat f n).rails = s.rails := rfl
@[simp] theorem State.incSat_broker (f : Fld) (n : Nat) : (s.incSat f n).broker = s.broker := rfl
@[simp] theorem State.incSat_pwr (f : Fld) (n : Nat) : (s.incSat f n).pwr = s.pwr := rfl
@[simp] theorem State.incSat_host (f : Fld) (n : Nat) : (s.incSat f n).host = s.host := rfl
@[simp] theorem State.incSat_pmr (f : Fld) (n : Nat) : (s.incSat f n).pmr = s.pmr := rfl
@[simp] theorem State.incSat_cache (f : Fld) (n : Nat) : (s.incSat f n).cache = s.cache := rfl
@[simp] theorem State.incSat_umb (f : Fld) (n : Nat) : (s.incSat f n).umb = s.umb := rfl
@[simp] theorem State.incSat_vlt (f : Fld) (n : Nat) : (s.incSat f n).vlt = s.vlt := rfl
@[simp] theorem State.incSat_grt (f : Fld) (n : Nat) : (s.incSat f n).grt = s.grt := rfl
@[simp] theorem State.incSat_flc (f : Fld) (n : Nat) : (s.incSat f n).flc = s.flc := rfl
@[simp] theorem State.incSat_dmc (f : Fld) (n : Nat) : (s.incSat f n).dmc = s.dmc := rfl
@[simp] theorem State.incSat_ech (f : Fld) (n : Nat) : (s.incSat f n).ech = s.ech := rfl
@[simp] theorem State.incSat_lan (f : Fld) (n : Nat) : (s.incSat f n).lan = s.lan := rfl
@[simp] theorem State.incSat_boot (f : Fld) (n : Nat) : (s.incSat f n).boot = s.boot := rfl
@[simp] theorem State.incSat_out (f : Fld) (n : Nat) : (s.incSat f n).out = s.out := rfl
@[simp] theorem State.incSat_deferred (f : Fld) (n : Nat) : (s.incSat f n).deferred = s.deferred := rfl
@[simp] theorem State.incSat_flow (f : Fld) (n : Nat) : (s.incSat f n).flow = s.flow := rfl
@[simp] theorem State.incSat_pins (f : Fld) (n : Nat) : (s.incSat f n).pins = s.pins := rfl
@[simp] theorem State.incSat_test (f : Fld) (n : Nat) : (s.incSat f n).test = s.test := rfl
@[simp] theorem State.incSat_free (f : Fld) (n : Nat) : (s.incSat f n).free = s.free := rfl

@[simp] theorem State.incWrap_pending (f : Fld) (n : Nat) : (s.incWrap f n).pending = s.pending := rfl
@[simp] theorem State.incWrap_evr (f : Fld) (n : Nat) : (s.incWrap f n).evr = s.evr := rfl
@[simp] theorem State.incWrap_rails (f : Fld) (n : Nat) : (s.incWrap f n).rails = s.rails := rfl
@[simp] theorem State.incWrap_broker (f : Fld) (n : Nat) : (s.incWrap f n).broker = s.broker := rfl
@[simp] theorem State.incWrap_pwr (f : Fld) (n : Nat) : (s.incWrap f n).pwr = s.pwr := rfl
@[simp] theorem State.incWrap_host (f : Fld) (n : Nat) : (s.incWrap f n).host = s.host := rfl
@[simp] theorem State.incWrap_pmr (f : Fld) (n : Nat) : (s.incWrap f n).pmr = s.pmr := rfl
@[simp] theorem State.incWrap_cache (f : Fld) (n : Nat) : (s.incWrap f n).cache = s.cache := rfl
@[simp] theorem State.incWrap_umb (f : Fld) (n : Nat) : (s.incWrap f n).umb = s.umb := rfl
@[simp] theorem State.incWrap_vlt (f : Fld) (n : Nat) : (s.incWrap f n).vlt = s.vlt := rfl
@[simp] theorem State.incWrap_grt (f : Fld) (n : Nat) : (s.incWrap f n).grt = s.grt := rfl
@[simp] theorem State.incWrap_flc (f : Fld) (n : Nat) : (s.incWrap f n).flc = s.flc := rfl
@[simp] theorem State.incWrap_dmc (f : Fld) (n : Nat) : (s.incWrap f n).dmc = s.dmc := rfl
@[simp] theorem State.incWrap_ech (f : Fld) (n : Nat) : (s.incWrap f n).ech = s.ech := rfl
@[simp] theorem State.incWrap_lan (f : Fld) (n : Nat) : (s.incWrap f n).lan = s.lan := rfl
@[simp] theorem State.incWrap_boot (f : Fld) (n : Nat) : (s.incWrap f n).boot = s.boot := rfl
@[simp] theorem State.incWrap_out (f : Fld) (n : Nat) : (s.incWrap f n).out = s.out := rfl
@[simp] theorem State.incWrap_deferred (f : Fld) (n : Nat) : (s.incWrap f n).deferred = s.deferred := rfl
@[simp] theorem State.incWrap_flow (f : Fld) (n : Nat) : (s.incWrap f n).flow = s.flow := rfl
@[simp] theorem State.incWrap_pins (f : Fld) (n : Nat) : (s.incWrap f n).pins = s.pins := rfl
@[simp] theorem State.incWrap_test (f : Fld) (n : Nat) : (s.incWrap f n).test = s.test := rfl
@[simp] theorem State.incWrap_free (f : Fld) (n : Nat) : (s.incWrap f n).free = s.free := rfl

@[simp] theorem State.putI_pending (f : Fld) (v : Int) : (s.putI f v).pending = s.pending := rfl
@[simp] theorem State.putI_evr (f : Fld) (v : Int) : (s.putI f v).evr = s.evr := rfl
@[simp] theorem State.putI_rails (f : Fld) (v : Int) : (s.putI f v).rails = s.rails := rfl
@[simp] theorem State.putI_broker (f : Fld) (v : Int) : (s.putI f v).broker = s.broker := rfl
@[simp] theorem State.putI_pwr (f : Fld) (v : Int) : (s.putI f v).pwr = s.pwr := rfl
@[simp] theorem State.putI_host (f : Fld) (v : Int) : (s.putI f v).host = s.host := rfl
@[simp] theorem State.putI_pmr (f : Fld) (v : Int) : (s.putI f v).pmr = s.pmr := rfl
@[simp] theorem State.putI_cache (f : Fld) (v : Int) : (s.putI f v).cache = s.cache := rfl
@[simp] theorem State.putI_umb (f : Fld) (v : Int) : (s.putI f v).umb = s.umb := rfl
@[simp] theorem State.putI_vlt (f : Fld) (v : Int) : (s.putI f v).vlt = s.vlt := rfl
@[simp] theorem State.putI_grt (f : Fld) (v : Int) : (s.putI f v).grt = s.grt := rfl
@[simp] theorem State.putI_flc (f : Fld) (v : Int) : (s.putI f v).flc = s.flc := rfl
@[simp] theorem State.putI_dmc (f : Fld) (v : Int) : (s.putI f v).dmc = s.dmc := rfl
@[simp] theorem State.putI_ech (f : Fld) (v : Int) : (s.putI f v).ech = s.ech := rfl
@[simp] theorem State.putI_lan (f : Fld) (v : Int) : (s.putI f v).lan = s.lan := rfl
@[simp] theorem State.putI_boot (f : Fld) (v : Int) : (s.putI f v).boot = s.boot := rfl
@[simp] theorem State.putI_out (f : Fld) (v : Int) : (s.putI f v).out = s.out := rfl
@[simp] theorem State.putI_deferred (f : Fld) (v : Int) : (s.putI f v).deferred = s.deferred := rfl
@[simp] theorem State.putI_flow (f : Fld) (v : Int) : (s.putI f v).flow = s.flow := rfl
@[simp] theorem State.putI_pins (f : Fld) (v : Int) : (s.putI f v).pins = s.pins := rfl
@[simp] theorem State.putI_test (f : Fld) (v : Int) : (s.putI f v).test = s.test := rfl
@[simp] theorem State.putI_free (f : Fld) (v : Int) : (s.putI f v).free = s.free := rfl

@[simp] theorem State.clr_pending (f : Fld) : (s.clr f).pending = s.pending := rfl
@[simp] theorem State.clr_evr (f : Fld) : (s.clr f).evr = s.evr := rfl
@[simp] theorem State.clr_rails (f : Fld) : (s.clr f).rails = s.rails := rfl
@[simp] theorem State.clr_broker (f : Fld) : (s.clr f).broker = s.broker := rfl
@[simp] theorem State.clr_pwr (f : Fld) : (s.clr f).pwr = s.pwr := rfl
@[simp] theorem State.clr_host (f : Fld) : (s.clr f).host = s.host := rfl
@[simp] theorem State.clr_pmr (f : Fld) : (s.clr f).pmr = s.pmr := rfl
@[simp] theorem State.clr_cache (f : Fld) : (s.clr f).cache = s.cache := rfl
@[simp] theorem State.clr_umb (f : Fld) : (s.clr f).umb = s.umb := rfl
@[simp] theorem State.clr_vlt (f : Fld) : (s.clr f).vlt = s.vlt := rfl
@[simp] theorem State.clr_grt (f : Fld) : (s.clr f).grt = s.grt := rfl
@[simp] theorem State.clr_flc (f : Fld) : (s.clr f).flc = s.flc := rfl
@[simp] theorem State.clr_dmc (f : Fld) : (s.clr f).dmc = s.dmc := rfl
@[simp] theorem State.clr_ech (f : Fld) : (s.clr f).ech = s.ech := rfl
@[simp] theorem State.clr_lan (f : Fld) : (s.clr f).lan = s.lan := rfl
@[simp] theorem State.clr_boot (f : Fld) : (s.clr f).boot = s.boot := rfl
@[simp] theorem State.clr_out (f : Fld) : (s.clr f).out = s.out := rfl
@[simp] theorem State.clr_deferred (f : Fld) : (s.clr f).deferred = s.deferred := rfl
@[simp] theorem State.clr_flow (f : Fld) : (s.clr f).flow = s.flow := rfl
@[simp] theorem State.clr_pins (f : Fld) : (s.clr f).pins = s.pins := rfl
@[simp] theorem State.clr_test (f : Fld) : (s.clr f).test = s.test := rfl
@[simp] theorem State.clr_free (f : Fld) : (s.clr f).free = s.free := rfl

@[simp] theorem State.fresh_pending (w : Nat) : (s.fresh w).2.pending = s.pending := rfl
@[simp] theorem State.fresh_regs (w : Nat) : (s.fresh w).2.regs = s.regs := rfl
@[simp] theorem State.fresh_evr (w : Nat) : (s.fresh w).2.evr = s.evr := rfl
@[simp] theorem State.fresh_rails (w : Nat) : (s.fresh w).2.rails = s.rails := rfl
@[simp] theorem State.fresh_broker (w : Nat) : (s.fresh w).2.broker = s.broker := rfl
@[simp] theorem State.fresh_pwr (w : Nat) : (s.fresh w).2.pwr = s.pwr := rfl
@[simp] theorem State.fresh_host (w : Nat) : (s.fresh w).2.host = s.host := rfl
@[simp] theorem State.fresh_pmr (w : Nat) : (s.fresh w).2.pmr = s.pmr := rfl
@[simp] theorem State.fresh_cache (w : Nat) : (s.fresh w).2.cache = s.cache := rfl
@[simp] theorem State.fresh_umb (w : Nat) : (s.fresh w).2.umb = s.umb := rfl
@[simp] theorem State.fresh_vlt (w : Nat) : (s.fresh w).2.vlt = s.vlt := rfl
@[simp] theorem State.fresh_grt (w : Nat) : (s.fresh w).2.grt = s.grt := rfl
@[simp] theorem State.fresh_flc (w : Nat) : (s.fresh w).2.flc = s.flc := rfl
@[simp] theorem State.fresh_dmc (w : Nat) : (s.fresh w).2.dmc = s.dmc := rfl
@[simp] theorem State.fresh_ech (w : Nat) : (s.fresh w).2.ech = s.ech := rfl
@[simp] theorem State.fresh_lan (w : Nat) : (s.fresh w).2.lan = s.lan := rfl
@[simp] theorem State.fresh_boot (w : Nat) : (s.fresh w).2.boot = s.boot := rfl
@[simp] theorem State.fresh_out (w : Nat) : (s.fresh w).2.out = s.out := rfl
@[simp] theorem State.fresh_deferred (w : Nat) : (s.fresh w).2.deferred = s.deferred := rfl
@[simp] theorem State.fresh_flow (w : Nat) : (s.fresh w).2.flow = s.flow := rfl
@[simp] theorem State.fresh_pins (w : Nat) : (s.fresh w).2.pins = s.pins := rfl
@[simp] theorem State.fresh_test (w : Nat) : (s.fresh w).2.test = s.test := rfl
@[simp] theorem State.fresh_free (w : Nat) : (s.fresh w).2.free = s.free + 1 := rfl

@[simp] theorem State.setPort_pending (p : Port) (h : HostPort) : (s.setPort p h).pending = s.pending := by cases p <;> rfl
@[simp] theorem State.setPort_regs (p : Port) (h : HostPort) : (s.setPort p h).regs = s.regs := by cases p <;> rfl
@[simp] theorem State.setPort_evr (p : Port) (h : HostPort) : (s.setPort p h).evr = s.evr := by cases p <;> rfl
@[simp] theorem State.setPort_rails (p : Port) (h : HostPort) : (s.setPort p h).rails = s.rails := by cases p <;> rfl
@[simp] theorem State.setPort_broker (p : Port) (h : HostPort) : (s.setPort p h).broker = s.broker := by cases p <;> rfl
@[simp] theorem State.setPort_pwr (p : Port) (h : HostPort) : (s.setPort p h).pwr = s.pwr := by cases p <;> rfl
@[simp] theorem State.setPort_pmr (p : Port) (h : HostPort) : (s.setPort p h).pmr = s.pmr := by cases p <;> rfl
@[simp] theorem State.setPort_cache (p : Port) (h : HostPort) : (s.setPort p h).cache = s.cache := by cases p <;> rfl
@[simp] theorem State.setPort_umb (p : Port) (h : HostPort) : (s.setPort p h).umb = s.umb := by cases p <;> rfl
@[simp] theorem State.setPort_vlt (p : Port) (h : HostPort) : (s.setPort p h).vlt = s.vlt := by cases p <;> rfl
@[simp] theorem State.setPort_grt (p : Port) (h : HostPort) : (s.setPort p h).grt = s.grt := by cases p <;> rfl
@[simp] theorem State.setPort_flc (p : Port) (h : HostPort) : (s.setPort p h).flc = s.flc := by cases p <;> rfl
@[simp] theorem State.setPort_dmc (p : Port) (h : HostPort) : (s.setPort p h).dmc = s.dmc := by cases p <;> rfl
@[simp] theorem State.setPort_ech (p : Port) (h : HostPort) : (s.setPort p h).ech = s.ech := by cases p <;> rfl
@[simp] theorem State.setPort_lan (p : Port) (h : HostPort) : (s.setPort p h).lan = s.lan := by cases p <;> rfl
@[simp] theorem State.setPort_boot (p : Port) (h : HostPort) : (s.setPort p h).boot = s.boot := by cases p <;> rfl
@[simp] theorem State.setPort_out (p : Port) (h : HostPort) : (s.setPort p h).out = s.out := by cases p <;> rfl
@[simp] theorem State.setPort_deferred (p : Port) (h : HostPort) : (s.setPort p h).deferred = s.deferred := by cases p <;> rfl
@[simp] theorem State.setPort_flow (p : Port) (h : HostPort) : (s.setPort p h).flow = s.flow := by cases p <;> rfl
@[simp] theorem State.setPort_pins (p : Port) (h : HostPort) : (s.setPort p h).pins = s.pins := by cases p <;> rfl
@[simp] theorem State.setPort_test (p : Port) (h : HostPort) : (s.setPort p h).test = s.test := by cases p <;> rfl
@[simp] theorem State.setPort_free (p : Port) (h : HostPort) : (s.setPort p h).free = s.free := by cases p <;> rfl

@[simp] theorem State.setNvme_pending (p : Port) (n : Nvme) : (s.setNvme p n).pending = s.pending := by cases p <;> rfl
@[simp] theorem State.setNvme_regs (p : Port) (n : Nvme) : (s.setNvme p n).regs = s.regs := by cases p <;> rfl
@[simp] theorem State.setNvme_evr (p : Port) (n : Nvme) : (s.setNvme p n).evr = s.evr := by cases p <;> rfl
@[simp] theorem State.setNvme_rails (p : Port) (n : Nvme) : (s.setNvme p n).rails = s.rails := by cases p <;> rfl
@[simp] theorem State.setNvme_broker (p : Port) (n : Nvme) : (s.setNvme p n).broker = s.broker := by cases p <;> rfl
@[simp] theorem State.setNvme_pwr (p : Port) (n : Nvme) : (s.setNvme p n).pwr = s.pwr := by cases p <;> rfl
@[simp] theorem State.setNvme_pmr (p : Port) (n : Nvme) : (s.setNvme p n).pmr = s.pmr := by cases p <;> rfl
@[simp] theorem State.setNvme_cache (p : Port) (n : Nvme) : (s.setNvme p n).cache = s.cache := by cases p <;> rfl
@[simp] theorem State.setNvme_umb (p : Port) (n : Nvme) : (s.setNvme p n).umb = s.umb := by cases p <;> rfl
@[simp] theorem State.setNvme_vlt (p : Port) (n : Nvme) : (s.setNvme p n).vlt = s.vlt := by cases p <;> rfl
@[simp] theorem State.setNvme_grt (p : Port) (n : Nvme) : (s.setNvme p n).grt = s.grt := by cases p <;> rfl
@[simp] theorem State.setNvme_flc (p : Port) (n : Nvme) : (s.setNvme p n).flc = s.flc := by cases p <;> rfl
@[simp] theorem State.setNvme_dmc (p : Port) (n : Nvme) : (s.setNvme p n).dmc = s.dmc := by cases p <;> rfl
@[simp] theorem State.setNvme_ech (p : Port) (n : Nvme) : (s.setNvme p n).ech = s.ech := by cases p <;> rfl
@[simp] theorem State.setNvme_lan (p : Port) (n : Nvme) : (s.setNvme p n).lan = s.lan := by cases p <;> rfl
@[simp] theorem State.setNvme_boot (p : Port) (n : Nvme) : (s.setNvme p n).boot = s.boot := by cases p <;> rfl
@[simp] theorem State.setNvme_out (p : Port) (n : Nvme) : (s.setNvme p n).out = s.out := by cases p <;> rfl
@[simp] theorem State.setNvme_deferred (p : Port) (n : Nvme) : (s.setNvme p n).deferred = s.deferred := by cases p <;> rfl
@[simp] theorem State.setNvme_flow (p : Port) (n : Nvme) : (s.setNvme p n).flow = s.flow := by cases p <;> rfl
@[simp] theorem State.setNvme_pins (p : Port) (n : Nvme) : (s.setNvme p n).pins = s.pins := by cases p <;> rfl
@[simp] theorem State.setNvme_test (p : Port) (n : Nvme) : (s.setNvme p n).test = s.test := by cases p <;> rfl
@[simp] theorem State.setNvme_free (p : Port) (n : Nvme) : (s.setNvme p n).free = s.free := by cases p <;> rfl

@[simp] theorem State.drive_pending : s.drive.pending = s.pending := rfl
@[simp] theorem State.drive_regs : s.drive.regs = s.regs := rfl
@[simp] theorem State.drive_evr : s.drive.evr = s.evr := rfl
@[simp] theorem State.drive_rails : s.drive.rails = s.rails := rfl
@[simp] theorem State.drive_broker : s.drive.broker = s.broker := rfl
@[simp] theorem State.drive_pwr : s.drive.pwr = s.pwr := rfl
@[simp] theorem State.drive_host : s.drive.host = s.host := rfl
@[simp] theorem State.drive_pmr : s.drive.pmr = s.pmr := rfl
@[simp] theorem State.drive_cache : s.drive.cache = s.cache := rfl
@[simp] theorem State.drive_umb : s.drive.umb = s.umb := rfl
@[simp] theorem State.drive_vlt : s.drive.vlt = s.vlt := rfl
@[simp] theorem State.drive_grt : s.drive.grt = s.grt := rfl
@[simp] theorem State.drive_flc : s.drive.flc = s.flc := rfl
@[simp] theorem State.drive_dmc : s.drive.dmc = s.dmc := rfl
@[simp] theorem State.drive_ech : s.drive.ech = s.ech := rfl
@[simp] theorem State.drive_lan : s.drive.lan = s.lan := rfl
@[simp] theorem State.drive_boot : s.drive.boot = s.boot := rfl
@[simp] theorem State.drive_out : s.drive.out = s.out := rfl
@[simp] theorem State.drive_deferred : s.drive.deferred = s.deferred := rfl
@[simp] theorem State.drive_flow : s.drive.flow = s.flow := rfl
@[simp] theorem State.drive_test : s.drive.test = s.test := rfl
@[simp] theorem State.drive_free : s.drive.free = s.free := rfl
@[simp] theorem State.drive_pins : s.drive.pins = s.levels := rfl

/-! Register fields. -/

@[simp] theorem State.get_put_same (f : Fld) (v : Nat) : (s.put f v).get f = v % 2 ^ f.width := mgetD_mput_same _ _ _ _

theorem State.get_put_ne {f g : Fld} (v : Nat) (h : g.key ≠ f.key) : (s.put f v).get g = s.get g := mgetD_mput_ne' _ _ _ _ h

theorem State.get_of_regs {s t : State} (h : t.regs = s.regs) (f : Fld) : t.get f = s.get f := by simp only [State.get, h]

theorem State.flag_of_regs {s t : State} (h : t.regs = s.regs) (f : Fld) : t.flag f = s.flag f := by
  simp only [State.flag, State.get_of_regs h]

@[simp] theorem State.get_send (o : Out) (fd : Fld) : (s.send o).get fd = s.get fd := rfl
@[simp] theorem State.get_setDom (d : Domain) (v : DomSt) (fd : Fld) : (s.setDom d v).get fd = s.get fd := rfl
@[simp] theorem State.get_setGran (g : Nat) (v : GState) (fd : Fld) : (s.setGran g v).get fd = s.get fd := rfl
@[simp] theorem State.get_setEnt (g : Nat) (e : MapEnt) (fd : Fld) : (s.setEnt g e).get fd = s.get fd := rfl
@[simp] theorem State.get_setGranImage (g : Nat) (i : List Host.Cell) (fd : Fld) : (s.setGranImage g i).get fd = s.get fd := rfl
@[simp] theorem State.get_setLun (n : Nat) (l : Lun) (fd : Fld) : (s.setLun n l).get fd = s.get fd := rfl
@[simp] theorem State.get_fresh (w : Nat) (g : Fld) : (s.fresh w).2.get g = s.get g := rfl
@[simp] theorem State.get_setPort (p : Port) (h : HostPort) (g : Fld) : (s.setPort p h).get g = s.get g := by cases p <;> rfl
@[simp] theorem State.get_setNvme (p : Port) (n : Nvme) (g : Fld) : (s.setNvme p n).get g = s.get g := by cases p <;> rfl
@[simp] theorem State.get_drive (g : Fld) : s.drive.get g = s.get g := rfl

@[simp] theorem State.port_setPort (p : Port) (h : HostPort) : (s.setPort p h).port p = h := by cases p <;> rfl
@[simp] theorem State.nvme_setNvme (p : Port) (n : Nvme) : (s.setNvme p n).nvme p = n := by cases p <;> rfl

theorem State.port_setPort_ne {p q : Port} (h : HostPort) (hq : q ≠ p) : (s.setPort p h).port q = s.port q := by
  cases p <;> cases q <;> first | rfl | exact absurd rfl hq

@[simp] theorem State.gran_setGran (g : Nat) (v : GState) : (s.setGran g v).gran g = v := mgetD_mput_same _ _ _ _
@[simp] theorem State.ent_setEnt (g : Nat) (e : MapEnt) : (s.setEnt g e).ent g = e := mgetD_mput_same _ _ _ _
@[simp] theorem State.lun_setLun (n : Nat) (l : Lun) : (s.setLun n l).lun n = l := mgetD_mput_same _ _ _ _

/-! How a meaning answers. -/

/-- What the next state of a meaning is. -/
theorem done_eq : done s t = .next ({ t with pending := s.pending } : State).drive := rfl

/-- A meaning `done s t` runs with every property that the finished `t` has. -/
theorem runs_of_done {c : Instr} {s t : State} {P : State → Prop} (h : exec c s = done s t)
    (hp : P ({ t with pending := s.pending } : State).drive) : Runs c s P := ⟨_, h, hp⟩

/-- A field that a meaning's effect holds. -/
@[simp] theorem get_finish (q : List Instr) (g : Fld) : (({ t with pending := q } : State).drive).get g = t.get g := rfl

/-- The levels of the pins do not depend on the queue. -/
@[simp] theorem levels_pending (q : List Instr) : ({ t with pending := q } : State).levels = t.levels := rfl
@[simp] theorem levels_drive : s.drive.levels = s.levels := rfl

end Sys2Proof.Machine
end

