-- ==== Sys2Proof/Laws/Events.lean ====
section
/-! SUPPORT. What the shared operations that report leave alone: interrupts, asynchronous events, the recorder, the console and
AER change nothing but the recorder, its registers, a port's controller and interrupt state, and what is sent out. -/

namespace Sys2Proof.Machine

/-- A field outside the recorder's block. -/
def OffEvr (f : Fld) : Prop := f.key < 0x1B0000 * 4096 ∨ 0x1C0000 * 4096 ≤ f.key

/-- What a port keeps through a report. -/
def HostPort.core (h : HostPort) : Bool × Bool × Bool × Bool × Nat := (h.linkUp, h.mse, h.pmrEn, h.inL1, h.linkSt)

/-- Two states that agree but for the recorder and its registers, the ports' controllers and what is sent out. -/
structure Quiet (t s : State) : Prop where
  pending : t.pending = s.pending
  rails : t.rails = s.rails
  broker : t.broker = s.broker
  pwr : t.pwr = s.pwr
  pmr : t.pmr = s.pmr
  cache : t.cache = s.cache
  umb : t.umb = s.umb
  vlt : t.vlt = s.vlt
  grt : t.grt = s.grt
  flc : t.flc = s.flc
  dmc : t.dmc = s.dmc
  ech : t.ech = s.ech
  lan : t.lan = s.lan
  boot : t.boot = s.boot
  deferred : t.deferred = s.deferred
  flow : t.flow = s.flow
  pins : t.pins = s.pins
  test : t.test = s.test
  get : ∀ f, OffEvr f → t.get f = s.get f
  core : ∀ p, (t.port p).core = (s.port p).core

namespace Quiet

variable {s t u : State}

theorem refl (s : State) : Quiet s s :=
  ⟨rfl, rfl, rfl, rfl, rfl, rfl, rfl, rfl, rfl, rfl, rfl, rfl, rfl, rfl, rfl, rfl, rfl, rfl, fun _ _ => rfl,
  fun _ => rfl⟩

theorem trans (h : Quiet t s) (k : Quiet u t) : Quiet u s :=
  ⟨k.pending.trans h.pending, k.rails.trans h.rails, k.broker.trans h.broker, k.pwr.trans h.pwr, k.pmr.trans h.pmr, k.cache.trans h.cache,
    k.umb.trans h.umb, k.vlt.trans h.vlt, k.grt.trans h.grt, k.flc.trans h.flc, k.dmc.trans h.dmc,
    k.ech.trans h.ech, k.lan.trans h.lan, k.boot.trans h.boot, k.deferred.trans h.deferred, k.flow.trans h.flow, k.pins.trans h.pins, k.test.trans h.test,
    fun f hf => (k.get f hf).trans (h.get f hf), fun p => (k.core p).trans (h.core p)⟩

end Quiet

variable (s : State)

theorem quiet_send (o : Out) : Quiet (s.send o) s :=
  ⟨rfl, rfl, rfl, rfl, rfl, rfl, rfl, rfl, rfl, rfl, rfl, rfl, rfl, rfl, rfl, rfl, rfl, rfl, fun _ _ => rfl,
  fun p => by cases p <;> rfl⟩
theorem quiet_evr (r : Recorder) : Quiet ({ s with evr :=
  r } : State) s := ⟨rfl, rfl, rfl, rfl, rfl, rfl, rfl, rfl, rfl, rfl, rfl, rfl, rfl, rfl, rfl, rfl, rfl, rfl,
  fun _ _ => rfl, fun p => by cases p <;> rfl⟩
theorem quiet_free (n : Nat) : Quiet ({ s with free :=
  n } : State) s := ⟨rfl, rfl, rfl, rfl, rfl, rfl, rfl, rfl, rfl, rfl, rfl, rfl, rfl, rfl, rfl, rfl, rfl, rfl,
  fun _ _ => rfl, fun p => by cases p <;> rfl⟩
theorem quiet_smart (m : Smart) : Quiet ({ s with host := { s.host with smart := m } } : State) s :=
  ⟨rfl, rfl, rfl, rfl, rfl, rfl, rfl, rfl, rfl, rfl, rfl, rfl, rfl, rfl, rfl, rfl, rfl, rfl, fun _ _ => rfl, fun p => by cases p <;> rfl⟩
theorem quiet_warn (w : Nat) : Quiet ({ s with host := { s.host with warn := w } } : State) s :=
  ⟨rfl, rfl, rfl, rfl, rfl, rfl, rfl, rfl, rfl, rfl, rfl, rfl, rfl, rfl, rfl, rfl, rfl, rfl, fun _ _ => rfl, fun p => by cases p <;> rfl⟩
theorem quiet_setPort (p : Port) (h : HostPort) (hc : h.core = (s.port p).core) : Quiet (s.setPort p h) s := by
  refine ⟨by cases p <;> rfl, by cases p <;> rfl, by cases p <;> rfl, by cases p <;> rfl, by cases p <;> rfl, by cases p <;> rfl, by cases p <;> rfl, by cases p <;> rfl, by cases p <;> rfl, by cases p <;> rfl, by cases p <;> rfl, by cases p <;> rfl, by cases p <;> rfl, by cases p <;> rfl, by cases p <;> rfl, by cases p <;> rfl, by cases p <;> rfl, by cases p <;> rfl, fun _ _ => by simp, ?_⟩
  intro q
  by_cases hq : q = p
  · subst hq; simpa using hc
  · rw [State.port_setPort_ne s h hq]
theorem quiet_setNvme (p : Port) (n : Nvme) : Quiet (s.setNvme p n) s := quiet_setPort s p _ rfl
theorem quiet_put (f : Fld) (v : Nat) (hf : ¬ OffEvr f) : Quiet (s.put f v) s :=
  ⟨rfl, rfl, rfl, rfl, rfl, rfl, rfl, rfl, rfl, rfl, rfl, rfl, rfl, rfl, rfl, rfl, rfl, rfl, fun g hg => State.get_put_ne s v (fun h => hf (by unfold OffEvr at *; rw [← h]; exact hg)), fun p => by cases p <;> rfl⟩
theorem quiet_incSat (f : Fld) (v : Nat) (hf : ¬ OffEvr f) : Quiet (s.incSat f v) s := quiet_put s f _ hf

/-- Close a `Quiet` goal over the branches of an operation. -/
theorem quiet_ite {c : Prop} [Decidable c] {a b : State} (ha : Quiet a s) (hb : Quiet b s) : Quiet (if c then a else b) s := by
  split <;> assumption

theorem quiet_foldl {α : Type} (f : State → α → State) (hf : ∀ t x, Quiet (f t x) t) (l : List α) (t : State) :
    Quiet (l.foldl f t) t := by
  induction l generalizing t with
  | nil => exact Quiet.refl t
  | cons x xs ih => exact (hf t x).trans (ih (f t x))

theorem quiet_console (v : List Nat) : Quiet (s.console v) s := by
  unfold State.console; exact quiet_ite s (quiet_send _ _) (Quiet.refl _)
@[simp] theorem State.console_pending (v : List Nat) : (s.console v).pending = s.pending := (quiet_console s v).pending
@[simp] theorem State.console_rails (v : List Nat) : (s.console v).rails = s.rails := (quiet_console s v).rails
@[simp] theorem State.console_broker (v : List Nat) : (s.console v).broker = s.broker := (quiet_console s v).broker
@[simp] theorem State.console_pwr (v : List Nat) : (s.console v).pwr = s.pwr := (quiet_console s v).pwr
@[simp] theorem State.console_pmr (v : List Nat) : (s.console v).pmr = s.pmr := (quiet_console s v).pmr
@[simp] theorem State.console_cache (v : List Nat) : (s.console v).cache = s.cache := (quiet_console s v).cache
@[simp] theorem State.console_umb (v : List Nat) : (s.console v).umb = s.umb := (quiet_console s v).umb
@[simp] theorem State.console_vlt (v : List Nat) : (s.console v).vlt = s.vlt := (quiet_console s v).vlt
@[simp] theorem State.console_grt (v : List Nat) : (s.console v).grt = s.grt := (quiet_console s v).grt
@[simp] theorem State.console_flc (v : List Nat) : (s.console v).flc = s.flc := (quiet_console s v).flc
@[simp] theorem State.console_dmc (v : List Nat) : (s.console v).dmc = s.dmc := (quiet_console s v).dmc
@[simp] theorem State.console_ech (v : List Nat) : (s.console v).ech = s.ech := (quiet_console s v).ech
@[simp] theorem State.console_lan (v : List Nat) : (s.console v).lan = s.lan := (quiet_console s v).lan
@[simp] theorem State.console_boot (v : List Nat) : (s.console v).boot = s.boot := (quiet_console s v).boot
@[simp] theorem State.console_deferred (v : List Nat) : (s.console v).deferred = s.deferred := (quiet_console s v).deferred
@[simp] theorem State.console_flow (v : List Nat) : (s.console v).flow = s.flow := (quiet_console s v).flow
@[simp] theorem State.console_pins (v : List Nat) : (s.console v).pins = s.pins := (quiet_console s v).pins
@[simp] theorem State.console_test (v : List Nat) : (s.console v).test = s.test := (quiet_console s v).test
theorem State.get_console (v : List Nat) {fd : Fld} (h : OffEvr fd) : (s.console v).get fd = s.get fd :=
  (quiet_console s v).get fd h

theorem quiet_msixOn (p : Port) (v : Nat) : Quiet (s.msixOn p v) s := by
  unfold State.msixOn; exact quiet_ite s (quiet_ite s (quiet_send _ _) (quiet_setPort _ _ _ rfl)) (Quiet.refl _)
@[simp] theorem State.msixOn_pending (p : Port) (v : Nat) : (s.msixOn p v).pending = s.pending := (quiet_msixOn s p v).pending
@[simp] theorem State.msixOn_rails (p : Port) (v : Nat) : (s.msixOn p v).rails = s.rails := (quiet_msixOn s p v).rails
@[simp] theorem State.msixOn_broker (p : Port) (v : Nat) : (s.msixOn p v).broker = s.broker := (quiet_msixOn s p v).broker
@[simp] theorem State.msixOn_pwr (p : Port) (v : Nat) : (s.msixOn p v).pwr = s.pwr := (quiet_msixOn s p v).pwr
@[simp] theorem State.msixOn_pmr (p : Port) (v : Nat) : (s.msixOn p v).pmr = s.pmr := (quiet_msixOn s p v).pmr
@[simp] theorem State.msixOn_cache (p : Port) (v : Nat) : (s.msixOn p v).cache = s.cache := (quiet_msixOn s p v).cache
@[simp] theorem State.msixOn_umb (p : Port) (v : Nat) : (s.msixOn p v).umb = s.umb := (quiet_msixOn s p v).umb
@[simp] theorem State.msixOn_vlt (p : Port) (v : Nat) : (s.msixOn p v).vlt = s.vlt := (quiet_msixOn s p v).vlt
@[simp] theorem State.msixOn_grt (p : Port) (v : Nat) : (s.msixOn p v).grt = s.grt := (quiet_msixOn s p v).grt
@[simp] theorem State.msixOn_flc (p : Port) (v : Nat) : (s.msixOn p v).flc = s.flc := (quiet_msixOn s p v).flc
@[simp] theorem State.msixOn_dmc (p : Port) (v : Nat) : (s.msixOn p v).dmc = s.dmc := (quiet_msixOn s p v).dmc
@[simp] theorem State.msixOn_ech (p : Port) (v : Nat) : (s.msixOn p v).ech = s.ech := (quiet_msixOn s p v).ech
@[simp] theorem State.msixOn_lan (p : Port) (v : Nat) : (s.msixOn p v).lan = s.lan := (quiet_msixOn s p v).lan
@[simp] theorem State.msixOn_boot (p : Port) (v : Nat) : (s.msixOn p v).boot = s.boot := (quiet_msixOn s p v).boot
@[simp] theorem State.msixOn_deferred (p : Port) (v : Nat) : (s.msixOn p v).deferred = s.deferred := (quiet_msixOn s p v).deferred
@[simp] theorem State.msixOn_flow (p : Port) (v : Nat) : (s.msixOn p v).flow = s.flow := (quiet_msixOn s p v).flow
@[simp] theorem State.msixOn_pins (p : Port) (v : Nat) : (s.msixOn p v).pins = s.pins := (quiet_msixOn s p v).pins
@[simp] theorem State.msixOn_test (p : Port) (v : Nat) : (s.msixOn p v).test = s.test := (quiet_msixOn s p v).test
theorem State.get_msixOn (p : Port) (v : Nat) {fd : Fld} (h : OffEvr fd) : (s.msixOn p v).get fd = s.get fd :=
  (quiet_msixOn s p v).get fd h

theorem quiet_msix (v : Nat) : Quiet (s.msix v) s := by
  exact (quiet_msixOn s .a v).trans (quiet_msixOn _ .b v)
@[simp] theorem State.msix_pending (v : Nat) : (s.msix v).pending = s.pending := (quiet_msix s v).pending
@[simp] theorem State.msix_rails (v : Nat) : (s.msix v).rails = s.rails := (quiet_msix s v).rails
@[simp] theorem State.msix_broker (v : Nat) : (s.msix v).broker = s.broker := (quiet_msix s v).broker
@[simp] theorem State.msix_pwr (v : Nat) : (s.msix v).pwr = s.pwr := (quiet_msix s v).pwr
@[simp] theorem State.msix_pmr (v : Nat) : (s.msix v).pmr = s.pmr := (quiet_msix s v).pmr
@[simp] theorem State.msix_cache (v : Nat) : (s.msix v).cache = s.cache := (quiet_msix s v).cache
@[simp] theorem State.msix_umb (v : Nat) : (s.msix v).umb = s.umb := (quiet_msix s v).umb
@[simp] theorem State.msix_vlt (v : Nat) : (s.msix v).vlt = s.vlt := (quiet_msix s v).vlt
@[simp] theorem State.msix_grt (v : Nat) : (s.msix v).grt = s.grt := (quiet_msix s v).grt
@[simp] theorem State.msix_flc (v : Nat) : (s.msix v).flc = s.flc := (quiet_msix s v).flc
@[simp] theorem State.msix_dmc (v : Nat) : (s.msix v).dmc = s.dmc := (quiet_msix s v).dmc
@[simp] theorem State.msix_ech (v : Nat) : (s.msix v).ech = s.ech := (quiet_msix s v).ech
@[simp] theorem State.msix_lan (v : Nat) : (s.msix v).lan = s.lan := (quiet_msix s v).lan
@[simp] theorem State.msix_boot (v : Nat) : (s.msix v).boot = s.boot := (quiet_msix s v).boot
@[simp] theorem State.msix_deferred (v : Nat) : (s.msix v).deferred = s.deferred := (quiet_msix s v).deferred
@[simp] theorem State.msix_flow (v : Nat) : (s.msix v).flow = s.flow := (quiet_msix s v).flow
@[simp] theorem State.msix_pins (v : Nat) : (s.msix v).pins = s.pins := (quiet_msix s v).pins
@[simp] theorem State.msix_test (v : Nat) : (s.msix v).test = s.test := (quiet_msix s v).test
theorem State.get_msix (v : Nat) {fd : Fld} (h : OffEvr fd) : (s.msix v).get fd = s.get fd := (quiet_msix s v).get fd h

theorem quiet_raise (e i : Fld) (v : Nat) (h : ¬ OffEvr e) : Quiet (s.raise e i v) s := by
  unfold State.raise
  exact quiet_ite s (Quiet.refl _) (quiet_ite s ((quiet_put _ _ _ h).trans (quiet_msix _ _)) (quiet_put _ _ _ h))
@[simp] theorem State.raise_pending (e i : Fld) (v : Nat) : (s.raise e i v).pending = s.pending := by
  unfold State.raise; dsimp only; split
  · rfl
  · split <;> simp
@[simp] theorem State.raise_rails (e i : Fld) (v : Nat) : (s.raise e i v).rails = s.rails := by
  unfold State.raise; dsimp only; split
  · rfl
  · split <;> simp
@[simp] theorem State.raise_broker (e i : Fld) (v : Nat) : (s.raise e i v).broker = s.broker := by
  unfold State.raise; dsimp only; split
  · rfl
  · split <;> simp
@[simp] theorem State.raise_pwr (e i : Fld) (v : Nat) : (s.raise e i v).pwr = s.pwr := by
  unfold State.raise; dsimp only; split
  · rfl
  · split <;> simp
@[simp] theorem State.raise_pmr (e i : Fld) (v : Nat) : (s.raise e i v).pmr = s.pmr := by
  unfold State.raise; dsimp only; split
  · rfl
  · split <;> simp
@[simp] theorem State.raise_cache (e i : Fld) (v : Nat) : (s.raise e i v).cache = s.cache := by
  unfold State.raise; dsimp only; split
  · rfl
  · split <;> simp
@[simp] theorem State.raise_umb (e i : Fld) (v : Nat) : (s.raise e i v).umb = s.umb := by
  unfold State.raise; dsimp only; split
  · rfl
  · split <;> simp
@[simp] theorem State.raise_vlt (e i : Fld) (v : Nat) : (s.raise e i v).vlt = s.vlt := by
  unfold State.raise; dsimp only; split
  · rfl
  · split <;> simp
@[simp] theorem State.raise_grt (e i : Fld) (v : Nat) : (s.raise e i v).grt = s.grt := by
  unfold State.raise; dsimp only; split
  · rfl
  · split <;> simp
@[simp] theorem State.raise_flc (e i : Fld) (v : Nat) : (s.raise e i v).flc = s.flc := by
  unfold State.raise; dsimp only; split
  · rfl
  · split <;> simp
@[simp] theorem State.raise_dmc (e i : Fld) (v : Nat) : (s.raise e i v).dmc = s.dmc := by
  unfold State.raise; dsimp only; split
  · rfl
  · split <;> simp
@[simp] theorem State.raise_ech (e i : Fld) (v : Nat) : (s.raise e i v).ech = s.ech := by
  unfold State.raise; dsimp only; split
  · rfl
  · split <;> simp
@[simp] theorem State.raise_lan (e i : Fld) (v : Nat) : (s.raise e i v).lan = s.lan := by
  unfold State.raise; dsimp only; split
  · rfl
  · split <;> simp
@[simp] theorem State.raise_boot (e i : Fld) (v : Nat) : (s.raise e i v).boot = s.boot := by
  unfold State.raise; dsimp only; split
  · rfl
  · split <;> simp
@[simp] theorem State.raise_deferred (e i : Fld) (v : Nat) : (s.raise e i v).deferred = s.deferred := by
  unfold State.raise; dsimp only; split
  · rfl
  · split <;> simp
@[simp] theorem State.raise_flow (e i : Fld) (v : Nat) : (s.raise e i v).flow = s.flow := by
  unfold State.raise; dsimp only; split
  · rfl
  · split <;> simp
@[simp] theorem State.raise_pins (e i : Fld) (v : Nat) : (s.raise e i v).pins = s.pins := by
  unfold State.raise; dsimp only; split
  · rfl
  · split <;> simp
@[simp] theorem State.raise_test (e i : Fld) (v : Nat) : (s.raise e i v).test = s.test := by
  unfold State.raise; dsimp only; split
  · rfl
  · split <;> simp
theorem State.get_raise_ne {g e : Fld} (i : Fld) (v : Nat) (h : g.key ≠ e.key) : (s.raise e i v).get g = s.get g := by
  unfold State.raise; dsimp only; split
  · rfl
  · have hm (t : State) : (t.msix v).get g = t.get g := by
      unfold State.msix State.msixOn; dsimp only
      repeat' split
      all_goals simp
    split
    · rw [hm, State.get_put_ne s 1 h]
    · rw [State.get_put_ne s 1 h]

theorem core_raise (e i : Fld) (v : Nat) (p : Port) : ((s.raise e i v).port p).core = (s.port p).core := by
  unfold State.raise; dsimp only; split
  · rfl
  · split
    · rw [(quiet_msix _ v).core]; rfl
    · rfl

theorem quiet_aer (p : Port) (b : Nat) : Quiet (s.aer p b) s := by
  unfold State.aer
  refine quiet_ite s (quiet_setPort _ _ _ rfl) (Quiet.trans ?_ (quiet_send _ _))
  exact quiet_setPort _ _ _ rfl
@[simp] theorem State.aer_pending (p : Port) (b : Nat) : (s.aer p b).pending = s.pending := (quiet_aer s p b).pending
@[simp] theorem State.aer_rails (p : Port) (b : Nat) : (s.aer p b).rails = s.rails := (quiet_aer s p b).rails
@[simp] theorem State.aer_broker (p : Port) (b : Nat) : (s.aer p b).broker = s.broker := (quiet_aer s p b).broker
@[simp] theorem State.aer_pwr (p : Port) (b : Nat) : (s.aer p b).pwr = s.pwr := (quiet_aer s p b).pwr
@[simp] theorem State.aer_pmr (p : Port) (b : Nat) : (s.aer p b).pmr = s.pmr := (quiet_aer s p b).pmr
@[simp] theorem State.aer_cache (p : Port) (b : Nat) : (s.aer p b).cache = s.cache := (quiet_aer s p b).cache
@[simp] theorem State.aer_umb (p : Port) (b : Nat) : (s.aer p b).umb = s.umb := (quiet_aer s p b).umb
@[simp] theorem State.aer_vlt (p : Port) (b : Nat) : (s.aer p b).vlt = s.vlt := (quiet_aer s p b).vlt
@[simp] theorem State.aer_grt (p : Port) (b : Nat) : (s.aer p b).grt = s.grt := (quiet_aer s p b).grt
@[simp] theorem State.aer_flc (p : Port) (b : Nat) : (s.aer p b).flc = s.flc := (quiet_aer s p b).flc
@[simp] theorem State.aer_dmc (p : Port) (b : Nat) : (s.aer p b).dmc = s.dmc := (quiet_aer s p b).dmc
@[simp] theorem State.aer_ech (p : Port) (b : Nat) : (s.aer p b).ech = s.ech := (quiet_aer s p b).ech
@[simp] theorem State.aer_lan (p : Port) (b : Nat) : (s.aer p b).lan = s.lan := (quiet_aer s p b).lan
@[simp] theorem State.aer_boot (p : Port) (b : Nat) : (s.aer p b).boot = s.boot := (quiet_aer s p b).boot
@[simp] theorem State.aer_deferred (p : Port) (b : Nat) : (s.aer p b).deferred = s.deferred := (quiet_aer s p b).deferred
@[simp] theorem State.aer_flow (p : Port) (b : Nat) : (s.aer p b).flow = s.flow := (quiet_aer s p b).flow
@[simp] theorem State.aer_pins (p : Port) (b : Nat) : (s.aer p b).pins = s.pins := (quiet_aer s p b).pins
@[simp] theorem State.aer_test (p : Port) (b : Nat) : (s.aer p b).test = s.test := (quiet_aer s p b).test
theorem State.get_aer (p : Port) (b : Nat) {fd : Fld} (h : OffEvr fd) : (s.aer p b).get fd = s.get fd :=
  (quiet_aer s p b).get fd h

theorem quiet_cqePost (p : Port) (i : CmdId) (st : NStat) (d : Nat) : Quiet (s.cqePost p i st d) s := by
  unfold State.cqePost
  dsimp only
  split
  · exact quiet_setNvme _ _ _
  · refine quiet_ite s (Quiet.trans ?_ (quiet_msixOn _ _ _)) ?_ <;>
      refine Quiet.trans ?_ (quiet_send _ _) <;>
      exact quiet_ite s (quiet_setNvme _ _ _) ((quiet_setNvme _ _ _).trans (quiet_smart _ _))
@[simp] theorem State.cqePost_pending (p : Port) (i : CmdId) (st : NStat) (d : Nat) : (s.cqePost p i st d).pending = s.pending :=
  (quiet_cqePost s p i st d).pending
@[simp] theorem State.cqePost_rails (p : Port) (i : CmdId) (st : NStat) (d : Nat) : (s.cqePost p i st d).rails = s.rails :=
  (quiet_cqePost s p i st d).rails
@[simp] theorem State.cqePost_broker (p : Port) (i : CmdId) (st : NStat) (d : Nat) : (s.cqePost p i st d).broker = s.broker :=
  (quiet_cqePost s p i st d).broker
@[simp] theorem State.cqePost_pwr (p : Port) (i : CmdId) (st : NStat) (d : Nat) : (s.cqePost p i st d).pwr = s.pwr :=
  (quiet_cqePost s p i st d).pwr
@[simp] theorem State.cqePost_pmr (p : Port) (i : CmdId) (st : NStat) (d : Nat) : (s.cqePost p i st d).pmr = s.pmr :=
  (quiet_cqePost s p i st d).pmr
@[simp] theorem State.cqePost_cache (p : Port) (i : CmdId) (st : NStat) (d : Nat) : (s.cqePost p i st d).cache = s.cache :=
  (quiet_cqePost s p i st d).cache
@[simp] theorem State.cqePost_umb (p : Port) (i : CmdId) (st : NStat) (d : Nat) : (s.cqePost p i st d).umb = s.umb :=
  (quiet_cqePost s p i st d).umb
@[simp] theorem State.cqePost_vlt (p : Port) (i : CmdId) (st : NStat) (d : Nat) : (s.cqePost p i st d).vlt = s.vlt :=
  (quiet_cqePost s p i st d).vlt
@[simp] theorem State.cqePost_grt (p : Port) (i : CmdId) (st : NStat) (d : Nat) : (s.cqePost p i st d).grt = s.grt :=
  (quiet_cqePost s p i st d).grt
@[simp] theorem State.cqePost_flc (p : Port) (i : CmdId) (st : NStat) (d : Nat) : (s.cqePost p i st d).flc = s.flc :=
  (quiet_cqePost s p i st d).flc
@[simp] theorem State.cqePost_dmc (p : Port) (i : CmdId) (st : NStat) (d : Nat) : (s.cqePost p i st d).dmc = s.dmc :=
  (quiet_cqePost s p i st d).dmc
@[simp] theorem State.cqePost_ech (p : Port) (i : CmdId) (st : NStat) (d : Nat) : (s.cqePost p i st d).ech = s.ech :=
  (quiet_cqePost s p i st d).ech
@[simp] theorem State.cqePost_lan (p : Port) (i : CmdId) (st : NStat) (d : Nat) : (s.cqePost p i st d).lan = s.lan :=
  (quiet_cqePost s p i st d).lan
@[simp] theorem State.cqePost_boot (p : Port) (i : CmdId) (st : NStat) (d : Nat) : (s.cqePost p i st d).boot = s.boot :=
  (quiet_cqePost s p i st d).boot
@[simp] theorem State.cqePost_deferred (p : Port) (i : CmdId) (st : NStat) (d : Nat) : (s.cqePost p i st d).deferred = s.deferred :=
  (quiet_cqePost s p i st d).deferred
@[simp] theorem State.cqePost_flow (p : Port) (i : CmdId) (st : NStat) (d : Nat) : (s.cqePost p i st d).flow = s.flow :=
  (quiet_cqePost s p i st d).flow
@[simp] theorem State.cqePost_pins (p : Port) (i : CmdId) (st : NStat) (d : Nat) : (s.cqePost p i st d).pins = s.pins :=
  (quiet_cqePost s p i st d).pins
@[simp] theorem State.cqePost_test (p : Port) (i : CmdId) (st : NStat) (d : Nat) : (s.cqePost p i st d).test = s.test :=
  (quiet_cqePost s p i st d).test
theorem State.get_cqePost (p : Port) (i : CmdId) (st : NStat) (d : Nat) {fd : Fld} (h : OffEvr fd) : (s.cqePost p i st d).get fd = s.get fd :=
  (quiet_cqePost s p i st d).get fd h

theorem quiet_asyncOn (p : Port) (a b c : Nat) : Quiet (s.asyncOn p a b c) s := by
  unfold State.asyncOn
  dsimp only
  refine quiet_ite s (Quiet.refl _) ?_
  split
  · exact (quiet_setNvme _ _ _).trans (quiet_cqePost _ _ _ _ _)
  · exact quiet_setNvme _ _ _
@[simp] theorem State.asyncOn_pending (p : Port) (a b c : Nat) : (s.asyncOn p a b c).pending = s.pending :=
  (quiet_asyncOn s p a b c).pending
@[simp] theorem State.asyncOn_rails (p : Port) (a b c : Nat) : (s.asyncOn p a b c).rails = s.rails :=
  (quiet_asyncOn s p a b c).rails
@[simp] theorem State.asyncOn_broker (p : Port) (a b c : Nat) : (s.asyncOn p a b c).broker = s.broker :=
  (quiet_asyncOn s p a b c).broker
@[simp] theorem State.asyncOn_pwr (p : Port) (a b c : Nat) : (s.asyncOn p a b c).pwr = s.pwr := (quiet_asyncOn s p a b c).pwr
@[simp] theorem State.asyncOn_pmr (p : Port) (a b c : Nat) : (s.asyncOn p a b c).pmr = s.pmr := (quiet_asyncOn s p a b c).pmr
@[simp] theorem State.asyncOn_cache (p : Port) (a b c : Nat) : (s.asyncOn p a b c).cache = s.cache :=
  (quiet_asyncOn s p a b c).cache
@[simp] theorem State.asyncOn_umb (p : Port) (a b c : Nat) : (s.asyncOn p a b c).umb = s.umb := (quiet_asyncOn s p a b c).umb
@[simp] theorem State.asyncOn_vlt (p : Port) (a b c : Nat) : (s.asyncOn p a b c).vlt = s.vlt := (quiet_asyncOn s p a b c).vlt
@[simp] theorem State.asyncOn_grt (p : Port) (a b c : Nat) : (s.asyncOn p a b c).grt = s.grt := (quiet_asyncOn s p a b c).grt
@[simp] theorem State.asyncOn_flc (p : Port) (a b c : Nat) : (s.asyncOn p a b c).flc = s.flc := (quiet_asyncOn s p a b c).flc
@[simp] theorem State.asyncOn_dmc (p : Port) (a b c : Nat) : (s.asyncOn p a b c).dmc = s.dmc := (quiet_asyncOn s p a b c).dmc
@[simp] theorem State.asyncOn_ech (p : Port) (a b c : Nat) : (s.asyncOn p a b c).ech = s.ech := (quiet_asyncOn s p a b c).ech
@[simp] theorem State.asyncOn_lan (p : Port) (a b c : Nat) : (s.asyncOn p a b c).lan = s.lan := (quiet_asyncOn s p a b c).lan
@[simp] theorem State.asyncOn_boot (p : Port) (a b c : Nat) : (s.asyncOn p a b c).boot = s.boot := (quiet_asyncOn s p a b c).boot
@[simp] theorem State.asyncOn_deferred (p : Port) (a b c : Nat) : (s.asyncOn p a b c).deferred = s.deferred :=
  (quiet_asyncOn s p a b c).deferred
@[simp] theorem State.asyncOn_flow (p : Port) (a b c : Nat) : (s.asyncOn p a b c).flow = s.flow := (quiet_asyncOn s p a b c).flow
@[simp] theorem State.asyncOn_pins (p : Port) (a b c : Nat) : (s.asyncOn p a b c).pins = s.pins := (quiet_asyncOn s p a b c).pins
@[simp] theorem State.asyncOn_test (p : Port) (a b c : Nat) : (s.asyncOn p a b c).test = s.test := (quiet_asyncOn s p a b c).test
theorem State.get_asyncOn (p : Port) (a b c : Nat) {fd : Fld} (h : OffEvr fd) : (s.asyncOn p a b c).get fd = s.get fd :=
  (quiet_asyncOn s p a b c).get fd h

theorem quiet_async (a b c : Nat) : Quiet (s.async a b c) s := by
  exact (quiet_asyncOn s .a a b c).trans (quiet_asyncOn _ .b a b c)
@[simp] theorem State.async_pending (a b c : Nat) : (s.async a b c).pending = s.pending := (quiet_async s a b c).pending
@[simp] theorem State.async_rails (a b c : Nat) : (s.async a b c).rails = s.rails := (quiet_async s a b c).rails
@[simp] theorem State.async_broker (a b c : Nat) : (s.async a b c).broker = s.broker := (quiet_async s a b c).broker
@[simp] theorem State.async_pwr (a b c : Nat) : (s.async a b c).pwr = s.pwr := (quiet_async s a b c).pwr
@[simp] theorem State.async_pmr (a b c : Nat) : (s.async a b c).pmr = s.pmr := (quiet_async s a b c).pmr
@[simp] theorem State.async_cache (a b c : Nat) : (s.async a b c).cache = s.cache := (quiet_async s a b c).cache
@[simp] theorem State.async_umb (a b c : Nat) : (s.async a b c).umb = s.umb := (quiet_async s a b c).umb
@[simp] theorem State.async_vlt (a b c : Nat) : (s.async a b c).vlt = s.vlt := (quiet_async s a b c).vlt
@[simp] theorem State.async_grt (a b c : Nat) : (s.async a b c).grt = s.grt := (quiet_async s a b c).grt
@[simp] theorem State.async_flc (a b c : Nat) : (s.async a b c).flc = s.flc := (quiet_async s a b c).flc
@[simp] theorem State.async_dmc (a b c : Nat) : (s.async a b c).dmc = s.dmc := (quiet_async s a b c).dmc
@[simp] theorem State.async_ech (a b c : Nat) : (s.async a b c).ech = s.ech := (quiet_async s a b c).ech
@[simp] theorem State.async_lan (a b c : Nat) : (s.async a b c).lan = s.lan := (quiet_async s a b c).lan
@[simp] theorem State.async_boot (a b c : Nat) : (s.async a b c).boot = s.boot := (quiet_async s a b c).boot
@[simp] theorem State.async_deferred (a b c : Nat) : (s.async a b c).deferred = s.deferred := (quiet_async s a b c).deferred
@[simp] theorem State.async_flow (a b c : Nat) : (s.async a b c).flow = s.flow := (quiet_async s a b c).flow
@[simp] theorem State.async_pins (a b c : Nat) : (s.async a b c).pins = s.pins := (quiet_async s a b c).pins
@[simp] theorem State.async_test (a b c : Nat) : (s.async a b c).test = s.test := (quiet_async s a b c).test
theorem State.get_async (a b c : Nat) {fd : Fld} (h : OffEvr fd) : (s.async a b c).get fd = s.get fd :=
  (quiet_async s a b c).get fd h

theorem quiet_asyncVendor (a : Nat) : Quiet (s.asyncVendor a) s := by
  exact quiet_async s 7 0 a
@[simp] theorem State.asyncVendor_pending (a : Nat) : (s.asyncVendor a).pending = s.pending := (quiet_asyncVendor s a).pending
@[simp] theorem State.asyncVendor_rails (a : Nat) : (s.asyncVendor a).rails = s.rails := (quiet_asyncVendor s a).rails
@[simp] theorem State.asyncVendor_broker (a : Nat) : (s.asyncVendor a).broker = s.broker := (quiet_asyncVendor s a).broker
@[simp] theorem State.asyncVendor_pwr (a : Nat) : (s.asyncVendor a).pwr = s.pwr := (quiet_asyncVendor s a).pwr
@[simp] theorem State.asyncVendor_pmr (a : Nat) : (s.asyncVendor a).pmr = s.pmr := (quiet_asyncVendor s a).pmr
@[simp] theorem State.asyncVendor_cache (a : Nat) : (s.asyncVendor a).cache = s.cache := (quiet_asyncVendor s a).cache
@[simp] theorem State.asyncVendor_umb (a : Nat) : (s.asyncVendor a).umb = s.umb := (quiet_asyncVendor s a).umb
@[simp] theorem State.asyncVendor_vlt (a : Nat) : (s.asyncVendor a).vlt = s.vlt := (quiet_asyncVendor s a).vlt
@[simp] theorem State.asyncVendor_grt (a : Nat) : (s.asyncVendor a).grt = s.grt := (quiet_asyncVendor s a).grt
@[simp] theorem State.asyncVendor_flc (a : Nat) : (s.asyncVendor a).flc = s.flc := (quiet_asyncVendor s a).flc
@[simp] theorem State.asyncVendor_dmc (a : Nat) : (s.asyncVendor a).dmc = s.dmc := (quiet_asyncVendor s a).dmc
@[simp] theorem State.asyncVendor_ech (a : Nat) : (s.asyncVendor a).ech = s.ech := (quiet_asyncVendor s a).ech
@[simp] theorem State.asyncVendor_lan (a : Nat) : (s.asyncVendor a).lan = s.lan := (quiet_asyncVendor s a).lan
@[simp] theorem State.asyncVendor_boot (a : Nat) : (s.asyncVendor a).boot = s.boot := (quiet_asyncVendor s a).boot
@[simp] theorem State.asyncVendor_deferred (a : Nat) : (s.asyncVendor a).deferred = s.deferred := (quiet_asyncVendor s a).deferred
@[simp] theorem State.asyncVendor_flow (a : Nat) : (s.asyncVendor a).flow = s.flow := (quiet_asyncVendor s a).flow
@[simp] theorem State.asyncVendor_pins (a : Nat) : (s.asyncVendor a).pins = s.pins := (quiet_asyncVendor s a).pins
@[simp] theorem State.asyncVendor_test (a : Nat) : (s.asyncVendor a).test = s.test := (quiet_asyncVendor s a).test
theorem State.get_asyncVendor (a : Nat) {fd : Fld} (h : OffEvr fd) : (s.asyncVendor a).get fd = s.get fd :=
  (quiet_asyncVendor s a).get fd h

theorem quiet_warnEvent (p : Port) (b : Nat) : Quiet (s.warnEvent p b) s := by
  unfold State.warnEvent; exact quiet_ite s (quiet_asyncOn _ _ _ _ _) (Quiet.refl _)
@[simp] theorem State.warnEvent_pending (p : Port) (b : Nat) : (s.warnEvent p b).pending = s.pending :=
  (quiet_warnEvent s p b).pending
@[simp] theorem State.warnEvent_rails (p : Port) (b : Nat) : (s.warnEvent p b).rails = s.rails := (quiet_warnEvent s p b).rails
@[simp] theorem State.warnEvent_broker (p : Port) (b : Nat) : (s.warnEvent p b).broker = s.broker :=
  (quiet_warnEvent s p b).broker
@[simp] theorem State.warnEvent_pwr (p : Port) (b : Nat) : (s.warnEvent p b).pwr = s.pwr := (quiet_warnEvent s p b).pwr
@[simp] theorem State.warnEvent_pmr (p : Port) (b : Nat) : (s.warnEvent p b).pmr = s.pmr := (quiet_warnEvent s p b).pmr
@[simp] theorem State.warnEvent_cache (p : Port) (b : Nat) : (s.warnEvent p b).cache = s.cache := (quiet_warnEvent s p b).cache
@[simp] theorem State.warnEvent_umb (p : Port) (b : Nat) : (s.warnEvent p b).umb = s.umb := (quiet_warnEvent s p b).umb
@[simp] theorem State.warnEvent_vlt (p : Port) (b : Nat) : (s.warnEvent p b).vlt = s.vlt := (quiet_warnEvent s p b).vlt
@[simp] theorem State.warnEvent_grt (p : Port) (b : Nat) : (s.warnEvent p b).grt = s.grt := (quiet_warnEvent s p b).grt
@[simp] theorem State.warnEvent_flc (p : Port) (b : Nat) : (s.warnEvent p b).flc = s.flc := (quiet_warnEvent s p b).flc
@[simp] theorem State.warnEvent_dmc (p : Port) (b : Nat) : (s.warnEvent p b).dmc = s.dmc := (quiet_warnEvent s p b).dmc
@[simp] theorem State.warnEvent_ech (p : Port) (b : Nat) : (s.warnEvent p b).ech = s.ech := (quiet_warnEvent s p b).ech
@[simp] theorem State.warnEvent_lan (p : Port) (b : Nat) : (s.warnEvent p b).lan = s.lan := (quiet_warnEvent s p b).lan
@[simp] theorem State.warnEvent_boot (p : Port) (b : Nat) : (s.warnEvent p b).boot = s.boot := (quiet_warnEvent s p b).boot
@[simp] theorem State.warnEvent_deferred (p : Port) (b : Nat) : (s.warnEvent p b).deferred = s.deferred :=
  (quiet_warnEvent s p b).deferred
@[simp] theorem State.warnEvent_flow (p : Port) (b : Nat) : (s.warnEvent p b).flow = s.flow := (quiet_warnEvent s p b).flow
@[simp] theorem State.warnEvent_pins (p : Port) (b : Nat) : (s.warnEvent p b).pins = s.pins := (quiet_warnEvent s p b).pins
@[simp] theorem State.warnEvent_test (p : Port) (b : Nat) : (s.warnEvent p b).test = s.test := (quiet_warnEvent s p b).test
theorem State.get_warnEvent (p : Port) (b : Nat) {fd : Fld} (h : OffEvr fd) : (s.warnEvent p b).get fd = s.get fd :=
  (quiet_warnEvent s p b).get fd h

theorem quiet_syncWarn  : Quiet (s.syncWarn) s := by
  unfold State.syncWarn
  dsimp only
  refine Quiet.trans (quiet_foldl _ (fun t i => ?_) _ s) (quiet_warn _ _)
  exact quiet_ite t ((quiet_warnEvent _ _ _).trans (quiet_warnEvent _ _ _)) (Quiet.refl _)
@[simp] theorem State.syncWarn_pending  : (s.syncWarn).pending = s.pending := (quiet_syncWarn s).pending
@[simp] theorem State.syncWarn_rails  : (s.syncWarn).rails = s.rails := (quiet_syncWarn s).rails
@[simp] theorem State.syncWarn_broker  : (s.syncWarn).broker = s.broker := (quiet_syncWarn s).broker
@[simp] theorem State.syncWarn_pwr  : (s.syncWarn).pwr = s.pwr := (quiet_syncWarn s).pwr
@[simp] theorem State.syncWarn_pmr  : (s.syncWarn).pmr = s.pmr := (quiet_syncWarn s).pmr
@[simp] theorem State.syncWarn_cache  : (s.syncWarn).cache = s.cache := (quiet_syncWarn s).cache
@[simp] theorem State.syncWarn_umb  : (s.syncWarn).umb = s.umb := (quiet_syncWarn s).umb
@[simp] theorem State.syncWarn_vlt  : (s.syncWarn).vlt = s.vlt := (quiet_syncWarn s).vlt
@[simp] theorem State.syncWarn_grt  : (s.syncWarn).grt = s.grt := (quiet_syncWarn s).grt
@[simp] theorem State.syncWarn_flc  : (s.syncWarn).flc = s.flc := (quiet_syncWarn s).flc
@[simp] theorem State.syncWarn_dmc  : (s.syncWarn).dmc = s.dmc := (quiet_syncWarn s).dmc
@[simp] theorem State.syncWarn_ech  : (s.syncWarn).ech = s.ech := (quiet_syncWarn s).ech
@[simp] theorem State.syncWarn_lan  : (s.syncWarn).lan = s.lan := (quiet_syncWarn s).lan
@[simp] theorem State.syncWarn_boot  : (s.syncWarn).boot = s.boot := (quiet_syncWarn s).boot
@[simp] theorem State.syncWarn_deferred  : (s.syncWarn).deferred = s.deferred := (quiet_syncWarn s).deferred
@[simp] theorem State.syncWarn_flow  : (s.syncWarn).flow = s.flow := (quiet_syncWarn s).flow
@[simp] theorem State.syncWarn_pins  : (s.syncWarn).pins = s.pins := (quiet_syncWarn s).pins
@[simp] theorem State.syncWarn_test  : (s.syncWarn).test = s.test := (quiet_syncWarn s).test
theorem State.get_syncWarn  {fd : Fld} (h : OffEvr fd) : (s.syncWarn).get fd = s.get fd := (quiet_syncWarn s).get fd h

theorem quiet_raiseEvr (f : Fld) (h : ¬ OffEvr f) : Quiet (s.raiseEvr f) s := by
  unfold State.raiseEvr
  exact quiet_ite s ((quiet_raise _ _ _ _ h).trans (quiet_asyncVendor _ _)) (quiet_raise _ _ _ _ h)
theorem quiet_dropRec  : Quiet (s.dropRec) s := by
  unfold State.dropRec; exact (quiet_incSat _ _ _ (by unfold OffEvr; decide)).trans (quiet_raiseEvr _ _ (by unfold OffEvr; decide))
@[simp] theorem State.dropRec_pending  : (s.dropRec).pending = s.pending := (quiet_dropRec s).pending
@[simp] theorem State.dropRec_rails  : (s.dropRec).rails = s.rails := (quiet_dropRec s).rails
@[simp] theorem State.dropRec_broker  : (s.dropRec).broker = s.broker := (quiet_dropRec s).broker
@[simp] theorem State.dropRec_pwr  : (s.dropRec).pwr = s.pwr := (quiet_dropRec s).pwr
@[simp] theorem State.dropRec_pmr  : (s.dropRec).pmr = s.pmr := (quiet_dropRec s).pmr
@[simp] theorem State.dropRec_cache  : (s.dropRec).cache = s.cache := (quiet_dropRec s).cache
@[simp] theorem State.dropRec_umb  : (s.dropRec).umb = s.umb := (quiet_dropRec s).umb
@[simp] theorem State.dropRec_vlt  : (s.dropRec).vlt = s.vlt := (quiet_dropRec s).vlt
@[simp] theorem State.dropRec_grt  : (s.dropRec).grt = s.grt := (quiet_dropRec s).grt
@[simp] theorem State.dropRec_flc  : (s.dropRec).flc = s.flc := (quiet_dropRec s).flc
@[simp] theorem State.dropRec_dmc  : (s.dropRec).dmc = s.dmc := (quiet_dropRec s).dmc
@[simp] theorem State.dropRec_ech  : (s.dropRec).ech = s.ech := (quiet_dropRec s).ech
@[simp] theorem State.dropRec_lan  : (s.dropRec).lan = s.lan := (quiet_dropRec s).lan
@[simp] theorem State.dropRec_boot  : (s.dropRec).boot = s.boot := (quiet_dropRec s).boot
@[simp] theorem State.dropRec_deferred  : (s.dropRec).deferred = s.deferred := (quiet_dropRec s).deferred
@[simp] theorem State.dropRec_flow  : (s.dropRec).flow = s.flow := (quiet_dropRec s).flow
@[simp] theorem State.dropRec_pins  : (s.dropRec).pins = s.pins := (quiet_dropRec s).pins
@[simp] theorem State.dropRec_test  : (s.dropRec).test = s.test := (quiet_dropRec s).test
theorem State.get_dropRec  {fd : Fld} (h : OffEvr fd) : (s.dropRec).get fd = s.get fd := (quiet_dropRec s).get fd h

theorem quiet_ringPut (e : EvRecord) (b : Bool) : Quiet (s.ringPut e b) s := by
  unfold State.ringPut
  split
  · exact (quiet_evr _ _).trans (quiet_dropRec _)
  · exact quiet_evr _ _
  · split
    · exact Quiet.refl _
    · exact quiet_ite s (quiet_evr _ _) (((quiet_evr _ _).trans (quiet_incSat _ _ _ (by unfold OffEvr; decide))).trans (quiet_raiseEvr _ _ (by unfold OffEvr; decide)))
@[simp] theorem State.ringPut_pending (e : EvRecord) (b : Bool) : (s.ringPut e b).pending = s.pending :=
  (quiet_ringPut s e b).pending
@[simp] theorem State.ringPut_rails (e : EvRecord) (b : Bool) : (s.ringPut e b).rails = s.rails := (quiet_ringPut s e b).rails
@[simp] theorem State.ringPut_broker (e : EvRecord) (b : Bool) : (s.ringPut e b).broker = s.broker := (quiet_ringPut s e b).broker
@[simp] theorem State.ringPut_pwr (e : EvRecord) (b : Bool) : (s.ringPut e b).pwr = s.pwr := (quiet_ringPut s e b).pwr
@[simp] theorem State.ringPut_pmr (e : EvRecord) (b : Bool) : (s.ringPut e b).pmr = s.pmr := (quiet_ringPut s e b).pmr
@[simp] theorem State.ringPut_cache (e : EvRecord) (b : Bool) : (s.ringPut e b).cache = s.cache := (quiet_ringPut s e b).cache
@[simp] theorem State.ringPut_umb (e : EvRecord) (b : Bool) : (s.ringPut e b).umb = s.umb := (quiet_ringPut s e b).umb
@[simp] theorem State.ringPut_vlt (e : EvRecord) (b : Bool) : (s.ringPut e b).vlt = s.vlt := (quiet_ringPut s e b).vlt
@[simp] theorem State.ringPut_grt (e : EvRecord) (b : Bool) : (s.ringPut e b).grt = s.grt := (quiet_ringPut s e b).grt
@[simp] theorem State.ringPut_flc (e : EvRecord) (b : Bool) : (s.ringPut e b).flc = s.flc := (quiet_ringPut s e b).flc
@[simp] theorem State.ringPut_dmc (e : EvRecord) (b : Bool) : (s.ringPut e b).dmc = s.dmc := (quiet_ringPut s e b).dmc
@[simp] theorem State.ringPut_ech (e : EvRecord) (b : Bool) : (s.ringPut e b).ech = s.ech := (quiet_ringPut s e b).ech
@[simp] theorem State.ringPut_lan (e : EvRecord) (b : Bool) : (s.ringPut e b).lan = s.lan := (quiet_ringPut s e b).lan
@[simp] theorem State.ringPut_boot (e : EvRecord) (b : Bool) : (s.ringPut e b).boot = s.boot := (quiet_ringPut s e b).boot
@[simp] theorem State.ringPut_deferred (e : EvRecord) (b : Bool) : (s.ringPut e b).deferred = s.deferred :=
  (quiet_ringPut s e b).deferred
@[simp] theorem State.ringPut_flow (e : EvRecord) (b : Bool) : (s.ringPut e b).flow = s.flow := (quiet_ringPut s e b).flow
@[simp] theorem State.ringPut_pins (e : EvRecord) (b : Bool) : (s.ringPut e b).pins = s.pins := (quiet_ringPut s e b).pins
@[simp] theorem State.ringPut_test (e : EvRecord) (b : Bool) : (s.ringPut e b).test = s.test := (quiet_ringPut s e b).test
theorem State.get_ringPut (e : EvRecord) (b : Bool) {fd : Fld} (h : OffEvr fd) : (s.ringPut e b).get fd = s.get fd :=
  (quiet_ringPut s e b).get fd h

theorem quiet_storeRec (e : EvRecord) : Quiet (s.storeRec e) s := by
  unfold State.storeRec
  exact quiet_ite s (quiet_ite s (quiet_evr _ _) (quiet_dropRec _))
    (quiet_ite s (quiet_ite s (quiet_evr _ _) (quiet_dropRec _)) (quiet_ringPut _ _ _))
@[simp] theorem State.storeRec_pending (e : EvRecord) : (s.storeRec e).pending = s.pending := (quiet_storeRec s e).pending
@[simp] theorem State.storeRec_rails (e : EvRecord) : (s.storeRec e).rails = s.rails := (quiet_storeRec s e).rails
@[simp] theorem State.storeRec_broker (e : EvRecord) : (s.storeRec e).broker = s.broker := (quiet_storeRec s e).broker
@[simp] theorem State.storeRec_pwr (e : EvRecord) : (s.storeRec e).pwr = s.pwr := (quiet_storeRec s e).pwr
@[simp] theorem State.storeRec_pmr (e : EvRecord) : (s.storeRec e).pmr = s.pmr := (quiet_storeRec s e).pmr
@[simp] theorem State.storeRec_cache (e : EvRecord) : (s.storeRec e).cache = s.cache := (quiet_storeRec s e).cache
@[simp] theorem State.storeRec_umb (e : EvRecord) : (s.storeRec e).umb = s.umb := (quiet_storeRec s e).umb
@[simp] theorem State.storeRec_vlt (e : EvRecord) : (s.storeRec e).vlt = s.vlt := (quiet_storeRec s e).vlt
@[simp] theorem State.storeRec_grt (e : EvRecord) : (s.storeRec e).grt = s.grt := (quiet_storeRec s e).grt
@[simp] theorem State.storeRec_flc (e : EvRecord) : (s.storeRec e).flc = s.flc := (quiet_storeRec s e).flc
@[simp] theorem State.storeRec_dmc (e : EvRecord) : (s.storeRec e).dmc = s.dmc := (quiet_storeRec s e).dmc
@[simp] theorem State.storeRec_ech (e : EvRecord) : (s.storeRec e).ech = s.ech := (quiet_storeRec s e).ech
@[simp] theorem State.storeRec_lan (e : EvRecord) : (s.storeRec e).lan = s.lan := (quiet_storeRec s e).lan
@[simp] theorem State.storeRec_boot (e : EvRecord) : (s.storeRec e).boot = s.boot := (quiet_storeRec s e).boot
@[simp] theorem State.storeRec_deferred (e : EvRecord) : (s.storeRec e).deferred = s.deferred := (quiet_storeRec s e).deferred
@[simp] theorem State.storeRec_flow (e : EvRecord) : (s.storeRec e).flow = s.flow := (quiet_storeRec s e).flow
@[simp] theorem State.storeRec_pins (e : EvRecord) : (s.storeRec e).pins = s.pins := (quiet_storeRec s e).pins
@[simp] theorem State.storeRec_test (e : EvRecord) : (s.storeRec e).test = s.test := (quiet_storeRec s e).test
theorem State.get_storeRec (e : EvRecord) {fd : Fld} (h : OffEvr fd) : (s.storeRec e).get fd = s.get fd :=
  (quiet_storeRec s e).get fd h

theorem quiet_closeOpen (n : Nat) : Quiet (s.closeOpen n) s := by
  unfold State.closeOpen
  split
  · exact Quiet.refl _
  · dsimp only
    split
    · exact quiet_ite s ((quiet_evr _ _).trans (quiet_storeRec _ _)) (quiet_evr _ _)
    · exact quiet_evr _ _
@[simp] theorem State.closeOpen_pending (n : Nat) : (s.closeOpen n).pending = s.pending := (quiet_closeOpen s n).pending
@[simp] theorem State.closeOpen_rails (n : Nat) : (s.closeOpen n).rails = s.rails := (quiet_closeOpen s n).rails
@[simp] theorem State.closeOpen_broker (n : Nat) : (s.closeOpen n).broker = s.broker := (quiet_closeOpen s n).broker
@[simp] theorem State.closeOpen_pwr (n : Nat) : (s.closeOpen n).pwr = s.pwr := (quiet_closeOpen s n).pwr
@[simp] theorem State.closeOpen_pmr (n : Nat) : (s.closeOpen n).pmr = s.pmr := (quiet_closeOpen s n).pmr
@[simp] theorem State.closeOpen_cache (n : Nat) : (s.closeOpen n).cache = s.cache := (quiet_closeOpen s n).cache
@[simp] theorem State.closeOpen_umb (n : Nat) : (s.closeOpen n).umb = s.umb := (quiet_closeOpen s n).umb
@[simp] theorem State.closeOpen_vlt (n : Nat) : (s.closeOpen n).vlt = s.vlt := (quiet_closeOpen s n).vlt
@[simp] theorem State.closeOpen_grt (n : Nat) : (s.closeOpen n).grt = s.grt := (quiet_closeOpen s n).grt
@[simp] theorem State.closeOpen_flc (n : Nat) : (s.closeOpen n).flc = s.flc := (quiet_closeOpen s n).flc
@[simp] theorem State.closeOpen_dmc (n : Nat) : (s.closeOpen n).dmc = s.dmc := (quiet_closeOpen s n).dmc
@[simp] theorem State.closeOpen_ech (n : Nat) : (s.closeOpen n).ech = s.ech := (quiet_closeOpen s n).ech
@[simp] theorem State.closeOpen_lan (n : Nat) : (s.closeOpen n).lan = s.lan := (quiet_closeOpen s n).lan
@[simp] theorem State.closeOpen_boot (n : Nat) : (s.closeOpen n).boot = s.boot := (quiet_closeOpen s n).boot
@[simp] theorem State.closeOpen_deferred (n : Nat) : (s.closeOpen n).deferred = s.deferred := (quiet_closeOpen s n).deferred
@[simp] theorem State.closeOpen_flow (n : Nat) : (s.closeOpen n).flow = s.flow := (quiet_closeOpen s n).flow
@[simp] theorem State.closeOpen_pins (n : Nat) : (s.closeOpen n).pins = s.pins := (quiet_closeOpen s n).pins
@[simp] theorem State.closeOpen_test (n : Nat) : (s.closeOpen n).test = s.test := (quiet_closeOpen s n).test
theorem State.get_closeOpen (n : Nat) {fd : Fld} (h : OffEvr fd) : (s.closeOpen n).get fd = s.get fd :=
  (quiet_closeOpen s n).get fd h

theorem quiet_openRec (a b c d : Nat) (w : List Nat × Bool) : Quiet (s.openRec a b c d w) s := by
  unfold State.openRec
  refine quiet_ite s ((quiet_evr _ _).trans (quiet_dropRec _)) ?_
  dsimp only
  have h0 : Quiet (if s.evr.opens.length < 64 then s else match s.evr.opens with
      | o :: _ => s.closeOpen o.evt.seq
      | [] => s) s := by
    refine quiet_ite s (Quiet.refl _) ?_
    split
    · exact quiet_closeOpen _ _
    · exact Quiet.refl _
  generalize (if s.evr.opens.length < 64 then s else match s.evr.opens with
      | o :: _ => s.closeOpen o.evt.seq
      | [] => s) = s0 at h0
  refine quiet_ite s (Quiet.trans ?_ (quiet_raiseEvr _ _ (by unfold OffEvr; decide))) ?_ <;>
    refine Quiet.trans h0 ?_ <;>
    refine quiet_ite s0 (Quiet.trans ?_ (quiet_console _ _)) ?_ <;>
    exact (((((quiet_put _ _ _ (by unfold OffEvr; decide)).trans (quiet_storeRec _ _)).trans (quiet_evr _ _)).trans
      (quiet_put _ _ _ (by unfold OffEvr; decide))).trans (quiet_put _ _ _ (by unfold OffEvr; decide))).trans (quiet_put _ _ _ (by unfold OffEvr; decide))
@[simp] theorem State.openRec_pending (a b c d : Nat) (w : List Nat × Bool) : (s.openRec a b c d w).pending = s.pending :=
  (quiet_openRec s a b c d w).pending
@[simp] theorem State.openRec_rails (a b c d : Nat) (w : List Nat × Bool) : (s.openRec a b c d w).rails = s.rails :=
  (quiet_openRec s a b c d w).rails
@[simp] theorem State.openRec_broker (a b c d : Nat) (w : List Nat × Bool) : (s.openRec a b c d w).broker = s.broker :=
  (quiet_openRec s a b c d w).broker
@[simp] theorem State.openRec_pwr (a b c d : Nat) (w : List Nat × Bool) : (s.openRec a b c d w).pwr = s.pwr :=
  (quiet_openRec s a b c d w).pwr
@[simp] theorem State.openRec_pmr (a b c d : Nat) (w : List Nat × Bool) : (s.openRec a b c d w).pmr = s.pmr :=
  (quiet_openRec s a b c d w).pmr
@[simp] theorem State.openRec_cache (a b c d : Nat) (w : List Nat × Bool) : (s.openRec a b c d w).cache = s.cache :=
  (quiet_openRec s a b c d w).cache
@[simp] theorem State.openRec_umb (a b c d : Nat) (w : List Nat × Bool) : (s.openRec a b c d w).umb = s.umb :=
  (quiet_openRec s a b c d w).umb
@[simp] theorem State.openRec_vlt (a b c d : Nat) (w : List Nat × Bool) : (s.openRec a b c d w).vlt = s.vlt :=
  (quiet_openRec s a b c d w).vlt
@[simp] theorem State.openRec_grt (a b c d : Nat) (w : List Nat × Bool) : (s.openRec a b c d w).grt = s.grt :=
  (quiet_openRec s a b c d w).grt
@[simp] theorem State.openRec_flc (a b c d : Nat) (w : List Nat × Bool) : (s.openRec a b c d w).flc = s.flc :=
  (quiet_openRec s a b c d w).flc
@[simp] theorem State.openRec_dmc (a b c d : Nat) (w : List Nat × Bool) : (s.openRec a b c d w).dmc = s.dmc :=
  (quiet_openRec s a b c d w).dmc
@[simp] theorem State.openRec_ech (a b c d : Nat) (w : List Nat × Bool) : (s.openRec a b c d w).ech = s.ech :=
  (quiet_openRec s a b c d w).ech
@[simp] theorem State.openRec_lan (a b c d : Nat) (w : List Nat × Bool) : (s.openRec a b c d w).lan = s.lan :=
  (quiet_openRec s a b c d w).lan
@[simp] theorem State.openRec_boot (a b c d : Nat) (w : List Nat × Bool) : (s.openRec a b c d w).boot = s.boot :=
  (quiet_openRec s a b c d w).boot
@[simp] theorem State.openRec_deferred (a b c d : Nat) (w : List Nat × Bool) : (s.openRec a b c d w).deferred = s.deferred :=
  (quiet_openRec s a b c d w).deferred
@[simp] theorem State.openRec_flow (a b c d : Nat) (w : List Nat × Bool) : (s.openRec a b c d w).flow = s.flow :=
  (quiet_openRec s a b c d w).flow
@[simp] theorem State.openRec_pins (a b c d : Nat) (w : List Nat × Bool) : (s.openRec a b c d w).pins = s.pins :=
  (quiet_openRec s a b c d w).pins
@[simp] theorem State.openRec_test (a b c d : Nat) (w : List Nat × Bool) : (s.openRec a b c d w).test = s.test :=
  (quiet_openRec s a b c d w).test
theorem State.get_openRec (a b c d : Nat) (w : List Nat × Bool) {fd : Fld} (h : OffEvr fd) : (s.openRec a b c d w).get fd = s.get fd :=
  (quiet_openRec s a b c d w).get fd h

theorem quiet_coalesce (o : OpenRec) : Quiet (s.coalesce o) s := by
  exact quiet_evr _ _
@[simp] theorem State.coalesce_pending (o : OpenRec) : (s.coalesce o).pending = s.pending := (quiet_coalesce s o).pending
@[simp] theorem State.coalesce_rails (o : OpenRec) : (s.coalesce o).rails = s.rails := (quiet_coalesce s o).rails
@[simp] theorem State.coalesce_broker (o : OpenRec) : (s.coalesce o).broker = s.broker := (quiet_coalesce s o).broker
@[simp] theorem State.coalesce_pwr (o : OpenRec) : (s.coalesce o).pwr = s.pwr := (quiet_coalesce s o).pwr
@[simp] theorem State.coalesce_pmr (o : OpenRec) : (s.coalesce o).pmr = s.pmr := (quiet_coalesce s o).pmr
@[simp] theorem State.coalesce_cache (o : OpenRec) : (s.coalesce o).cache = s.cache := (quiet_coalesce s o).cache
@[simp] theorem State.coalesce_umb (o : OpenRec) : (s.coalesce o).umb = s.umb := (quiet_coalesce s o).umb
@[simp] theorem State.coalesce_vlt (o : OpenRec) : (s.coalesce o).vlt = s.vlt := (quiet_coalesce s o).vlt
@[simp] theorem State.coalesce_grt (o : OpenRec) : (s.coalesce o).grt = s.grt := (quiet_coalesce s o).grt
@[simp] theorem State.coalesce_flc (o : OpenRec) : (s.coalesce o).flc = s.flc := (quiet_coalesce s o).flc
@[simp] theorem State.coalesce_dmc (o : OpenRec) : (s.coalesce o).dmc = s.dmc := (quiet_coalesce s o).dmc
@[simp] theorem State.coalesce_ech (o : OpenRec) : (s.coalesce o).ech = s.ech := (quiet_coalesce s o).ech
@[simp] theorem State.coalesce_lan (o : OpenRec) : (s.coalesce o).lan = s.lan := (quiet_coalesce s o).lan
@[simp] theorem State.coalesce_boot (o : OpenRec) : (s.coalesce o).boot = s.boot := (quiet_coalesce s o).boot
@[simp] theorem State.coalesce_deferred (o : OpenRec) : (s.coalesce o).deferred = s.deferred := (quiet_coalesce s o).deferred
@[simp] theorem State.coalesce_flow (o : OpenRec) : (s.coalesce o).flow = s.flow := (quiet_coalesce s o).flow
@[simp] theorem State.coalesce_pins (o : OpenRec) : (s.coalesce o).pins = s.pins := (quiet_coalesce s o).pins
@[simp] theorem State.coalesce_test (o : OpenRec) : (s.coalesce o).test = s.test := (quiet_coalesce s o).test
theorem State.get_coalesce (o : OpenRec) {fd : Fld} (h : OffEvr fd) : (s.coalesce o).get fd = s.get fd :=
  (quiet_coalesce s o).get fd h

theorem quiet_submit (a b c d : Nat) (w : List Nat × Bool) : Quiet (s.submit a b c d w) s := by
  unfold State.submit
  refine quiet_ite s ?_ (Quiet.refl _)
  split
  · exact quiet_coalesce _ _
  · exact quiet_openRec _ _ _ _ _ _
@[simp] theorem State.submit_pending (a b c d : Nat) (w : List Nat × Bool) : (s.submit a b c d w).pending = s.pending :=
  (quiet_submit s a b c d w).pending
@[simp] theorem State.submit_rails (a b c d : Nat) (w : List Nat × Bool) : (s.submit a b c d w).rails = s.rails :=
  (quiet_submit s a b c d w).rails
@[simp] theorem State.submit_broker (a b c d : Nat) (w : List Nat × Bool) : (s.submit a b c d w).broker = s.broker :=
  (quiet_submit s a b c d w).broker
@[simp] theorem State.submit_pwr (a b c d : Nat) (w : List Nat × Bool) : (s.submit a b c d w).pwr = s.pwr :=
  (quiet_submit s a b c d w).pwr
@[simp] theorem State.submit_pmr (a b c d : Nat) (w : List Nat × Bool) : (s.submit a b c d w).pmr = s.pmr :=
  (quiet_submit s a b c d w).pmr
@[simp] theorem State.submit_cache (a b c d : Nat) (w : List Nat × Bool) : (s.submit a b c d w).cache = s.cache :=
  (quiet_submit s a b c d w).cache
@[simp] theorem State.submit_umb (a b c d : Nat) (w : List Nat × Bool) : (s.submit a b c d w).umb = s.umb :=
  (quiet_submit s a b c d w).umb
@[simp] theorem State.submit_vlt (a b c d : Nat) (w : List Nat × Bool) : (s.submit a b c d w).vlt = s.vlt :=
  (quiet_submit s a b c d w).vlt
@[simp] theorem State.submit_grt (a b c d : Nat) (w : List Nat × Bool) : (s.submit a b c d w).grt = s.grt :=
  (quiet_submit s a b c d w).grt
@[simp] theorem State.submit_flc (a b c d : Nat) (w : List Nat × Bool) : (s.submit a b c d w).flc = s.flc :=
  (quiet_submit s a b c d w).flc
@[simp] theorem State.submit_dmc (a b c d : Nat) (w : List Nat × Bool) : (s.submit a b c d w).dmc = s.dmc :=
  (quiet_submit s a b c d w).dmc
@[simp] theorem State.submit_ech (a b c d : Nat) (w : List Nat × Bool) : (s.submit a b c d w).ech = s.ech :=
  (quiet_submit s a b c d w).ech
@[simp] theorem State.submit_lan (a b c d : Nat) (w : List Nat × Bool) : (s.submit a b c d w).lan = s.lan :=
  (quiet_submit s a b c d w).lan
@[simp] theorem State.submit_boot (a b c d : Nat) (w : List Nat × Bool) : (s.submit a b c d w).boot = s.boot :=
  (quiet_submit s a b c d w).boot
@[simp] theorem State.submit_deferred (a b c d : Nat) (w : List Nat × Bool) : (s.submit a b c d w).deferred = s.deferred :=
  (quiet_submit s a b c d w).deferred
@[simp] theorem State.submit_flow (a b c d : Nat) (w : List Nat × Bool) : (s.submit a b c d w).flow = s.flow :=
  (quiet_submit s a b c d w).flow
@[simp] theorem State.submit_pins (a b c d : Nat) (w : List Nat × Bool) : (s.submit a b c d w).pins = s.pins :=
  (quiet_submit s a b c d w).pins
@[simp] theorem State.submit_test (a b c d : Nat) (w : List Nat × Bool) : (s.submit a b c d w).test = s.test :=
  (quiet_submit s a b c d w).test
theorem State.get_submit (a b c d : Nat) (w : List Nat × Bool) {fd : Fld} (h : OffEvr fd) : (s.submit a b c d w).get fd = s.get fd :=
  (quiet_submit s a b c d w).get fd h

theorem quiet_lostReport  : Quiet (s.lostReport) s := by
  unfold State.lostReport
  exact quiet_ite s ((quiet_evr _ _).trans (quiet_submit _ _ _ _ _ _)) (Quiet.refl _)
@[simp] theorem State.lostReport_pending  : (s.lostReport).pending = s.pending := (quiet_lostReport s).pending
@[simp] theorem State.lostReport_rails  : (s.lostReport).rails = s.rails := (quiet_lostReport s).rails
@[simp] theorem State.lostReport_broker  : (s.lostReport).broker = s.broker := (quiet_lostReport s).broker
@[simp] theorem State.lostReport_pwr  : (s.lostReport).pwr = s.pwr := (quiet_lostReport s).pwr
@[simp] theorem State.lostReport_pmr  : (s.lostReport).pmr = s.pmr := (quiet_lostReport s).pmr
@[simp] theorem State.lostReport_cache  : (s.lostReport).cache = s.cache := (quiet_lostReport s).cache
@[simp] theorem State.lostReport_umb  : (s.lostReport).umb = s.umb := (quiet_lostReport s).umb
@[simp] theorem State.lostReport_vlt  : (s.lostReport).vlt = s.vlt := (quiet_lostReport s).vlt
@[simp] theorem State.lostReport_grt  : (s.lostReport).grt = s.grt := (quiet_lostReport s).grt
@[simp] theorem State.lostReport_flc  : (s.lostReport).flc = s.flc := (quiet_lostReport s).flc
@[simp] theorem State.lostReport_dmc  : (s.lostReport).dmc = s.dmc := (quiet_lostReport s).dmc
@[simp] theorem State.lostReport_ech  : (s.lostReport).ech = s.ech := (quiet_lostReport s).ech
@[simp] theorem State.lostReport_lan  : (s.lostReport).lan = s.lan := (quiet_lostReport s).lan
@[simp] theorem State.lostReport_boot  : (s.lostReport).boot = s.boot := (quiet_lostReport s).boot
@[simp] theorem State.lostReport_deferred  : (s.lostReport).deferred = s.deferred := (quiet_lostReport s).deferred
@[simp] theorem State.lostReport_flow  : (s.lostReport).flow = s.flow := (quiet_lostReport s).flow
@[simp] theorem State.lostReport_pins  : (s.lostReport).pins = s.pins := (quiet_lostReport s).pins
@[simp] theorem State.lostReport_test  : (s.lostReport).test = s.test := (quiet_lostReport s).test
theorem State.get_lostReport  {fd : Fld} (h : OffEvr fd) : (s.lostReport).get fd = s.get fd := (quiet_lostReport s).get fd h

theorem quiet_eventWith (a b c d : Nat) (w : List Nat × Bool) : Quiet (s.eventWith a b c d w) s := by
  exact (quiet_submit s _ _ _ _ _).trans (quiet_lostReport _)
@[simp] theorem State.eventWith_pending (a b c d : Nat) (w : List Nat × Bool) : (s.eventWith a b c d w).pending = s.pending :=
  (quiet_eventWith s a b c d w).pending
@[simp] theorem State.eventWith_rails (a b c d : Nat) (w : List Nat × Bool) : (s.eventWith a b c d w).rails = s.rails :=
  (quiet_eventWith s a b c d w).rails
@[simp] theorem State.eventWith_broker (a b c d : Nat) (w : List Nat × Bool) : (s.eventWith a b c d w).broker = s.broker :=
  (quiet_eventWith s a b c d w).broker
@[simp] theorem State.eventWith_pwr (a b c d : Nat) (w : List Nat × Bool) : (s.eventWith a b c d w).pwr = s.pwr :=
  (quiet_eventWith s a b c d w).pwr
@[simp] theorem State.eventWith_pmr (a b c d : Nat) (w : List Nat × Bool) : (s.eventWith a b c d w).pmr = s.pmr :=
  (quiet_eventWith s a b c d w).pmr
@[simp] theorem State.eventWith_cache (a b c d : Nat) (w : List Nat × Bool) : (s.eventWith a b c d w).cache = s.cache :=
  (quiet_eventWith s a b c d w).cache
@[simp] theorem State.eventWith_umb (a b c d : Nat) (w : List Nat × Bool) : (s.eventWith a b c d w).umb = s.umb :=
  (quiet_eventWith s a b c d w).umb
@[simp] theorem State.eventWith_vlt (a b c d : Nat) (w : List Nat × Bool) : (s.eventWith a b c d w).vlt = s.vlt :=
  (quiet_eventWith s a b c d w).vlt
@[simp] theorem State.eventWith_grt (a b c d : Nat) (w : List Nat × Bool) : (s.eventWith a b c d w).grt = s.grt :=
  (quiet_eventWith s a b c d w).grt
@[simp] theorem State.eventWith_flc (a b c d : Nat) (w : List Nat × Bool) : (s.eventWith a b c d w).flc = s.flc :=
  (quiet_eventWith s a b c d w).flc
@[simp] theorem State.eventWith_dmc (a b c d : Nat) (w : List Nat × Bool) : (s.eventWith a b c d w).dmc = s.dmc :=
  (quiet_eventWith s a b c d w).dmc
@[simp] theorem State.eventWith_ech (a b c d : Nat) (w : List Nat × Bool) : (s.eventWith a b c d w).ech = s.ech :=
  (quiet_eventWith s a b c d w).ech
@[simp] theorem State.eventWith_lan (a b c d : Nat) (w : List Nat × Bool) : (s.eventWith a b c d w).lan = s.lan :=
  (quiet_eventWith s a b c d w).lan
@[simp] theorem State.eventWith_boot (a b c d : Nat) (w : List Nat × Bool) : (s.eventWith a b c d w).boot = s.boot :=
  (quiet_eventWith s a b c d w).boot
@[simp] theorem State.eventWith_deferred (a b c d : Nat) (w : List Nat × Bool) : (s.eventWith a b c d w).deferred = s.deferred :=
  (quiet_eventWith s a b c d w).deferred
@[simp] theorem State.eventWith_flow (a b c d : Nat) (w : List Nat × Bool) : (s.eventWith a b c d w).flow = s.flow :=
  (quiet_eventWith s a b c d w).flow
@[simp] theorem State.eventWith_pins (a b c d : Nat) (w : List Nat × Bool) : (s.eventWith a b c d w).pins = s.pins :=
  (quiet_eventWith s a b c d w).pins
@[simp] theorem State.eventWith_test (a b c d : Nat) (w : List Nat × Bool) : (s.eventWith a b c d w).test = s.test :=
  (quiet_eventWith s a b c d w).test
theorem State.get_eventWith (a b c d : Nat) (w : List Nat × Bool) {fd : Fld} (h : OffEvr fd) : (s.eventWith a b c d w).get fd = s.get fd :=
  (quiet_eventWith s a b c d w).get fd h

theorem quiet_event (a b c d : Nat) : Quiet (s.event a b c d) s := by
  exact quiet_eventWith s _ _ _ _ _
@[simp] theorem State.event_pending (a b c d : Nat) : (s.event a b c d).pending = s.pending := (quiet_event s a b c d).pending
@[simp] theorem State.event_rails (a b c d : Nat) : (s.event a b c d).rails = s.rails := (quiet_event s a b c d).rails
@[simp] theorem State.event_broker (a b c d : Nat) : (s.event a b c d).broker = s.broker := (quiet_event s a b c d).broker
@[simp] theorem State.event_pwr (a b c d : Nat) : (s.event a b c d).pwr = s.pwr := (quiet_event s a b c d).pwr
@[simp] theorem State.event_pmr (a b c d : Nat) : (s.event a b c d).pmr = s.pmr := (quiet_event s a b c d).pmr
@[simp] theorem State.event_cache (a b c d : Nat) : (s.event a b c d).cache = s.cache := (quiet_event s a b c d).cache
@[simp] theorem State.event_umb (a b c d : Nat) : (s.event a b c d).umb = s.umb := (quiet_event s a b c d).umb
@[simp] theorem State.event_vlt (a b c d : Nat) : (s.event a b c d).vlt = s.vlt := (quiet_event s a b c d).vlt
@[simp] theorem State.event_grt (a b c d : Nat) : (s.event a b c d).grt = s.grt := (quiet_event s a b c d).grt
@[simp] theorem State.event_flc (a b c d : Nat) : (s.event a b c d).flc = s.flc := (quiet_event s a b c d).flc
@[simp] theorem State.event_dmc (a b c d : Nat) : (s.event a b c d).dmc = s.dmc := (quiet_event s a b c d).dmc
@[simp] theorem State.event_ech (a b c d : Nat) : (s.event a b c d).ech = s.ech := (quiet_event s a b c d).ech
@[simp] theorem State.event_lan (a b c d : Nat) : (s.event a b c d).lan = s.lan := (quiet_event s a b c d).lan
@[simp] theorem State.event_boot (a b c d : Nat) : (s.event a b c d).boot = s.boot := (quiet_event s a b c d).boot
@[simp] theorem State.event_deferred (a b c d : Nat) : (s.event a b c d).deferred = s.deferred := (quiet_event s a b c d).deferred
@[simp] theorem State.event_flow (a b c d : Nat) : (s.event a b c d).flow = s.flow := (quiet_event s a b c d).flow
@[simp] theorem State.event_pins (a b c d : Nat) : (s.event a b c d).pins = s.pins := (quiet_event s a b c d).pins
@[simp] theorem State.event_test (a b c d : Nat) : (s.event a b c d).test = s.test := (quiet_event s a b c d).test
theorem State.get_event (a b c d : Nat) {fd : Fld} (h : OffEvr fd) : (s.event a b c d).get fd = s.get fd :=
  (quiet_event s a b c d).get fd h

theorem quiet_ev (b : Block) (c d e : Nat) : Quiet (s.ev b c d e) s := by
  exact quiet_event s _ _ _ _
@[simp] theorem State.ev_pending (b : Block) (c d e : Nat) : (s.ev b c d e).pending = s.pending := (quiet_ev s b c d e).pending
@[simp] theorem State.ev_rails (b : Block) (c d e : Nat) : (s.ev b c d e).rails = s.rails := (quiet_ev s b c d e).rails
@[simp] theorem State.ev_broker (b : Block) (c d e : Nat) : (s.ev b c d e).broker = s.broker := (quiet_ev s b c d e).broker
@[simp] theorem State.ev_pwr (b : Block) (c d e : Nat) : (s.ev b c d e).pwr = s.pwr := (quiet_ev s b c d e).pwr
@[simp] theorem State.ev_pmr (b : Block) (c d e : Nat) : (s.ev b c d e).pmr = s.pmr := (quiet_ev s b c d e).pmr
@[simp] theorem State.ev_cache (b : Block) (c d e : Nat) : (s.ev b c d e).cache = s.cache := (quiet_ev s b c d e).cache
@[simp] theorem State.ev_umb (b : Block) (c d e : Nat) : (s.ev b c d e).umb = s.umb := (quiet_ev s b c d e).umb
@[simp] theorem State.ev_vlt (b : Block) (c d e : Nat) : (s.ev b c d e).vlt = s.vlt := (quiet_ev s b c d e).vlt
@[simp] theorem State.ev_grt (b : Block) (c d e : Nat) : (s.ev b c d e).grt = s.grt := (quiet_ev s b c d e).grt
@[simp] theorem State.ev_flc (b : Block) (c d e : Nat) : (s.ev b c d e).flc = s.flc := (quiet_ev s b c d e).flc
@[simp] theorem State.ev_dmc (b : Block) (c d e : Nat) : (s.ev b c d e).dmc = s.dmc := (quiet_ev s b c d e).dmc
@[simp] theorem State.ev_ech (b : Block) (c d e : Nat) : (s.ev b c d e).ech = s.ech := (quiet_ev s b c d e).ech
@[simp] theorem State.ev_lan (b : Block) (c d e : Nat) : (s.ev b c d e).lan = s.lan := (quiet_ev s b c d e).lan
@[simp] theorem State.ev_boot (b : Block) (c d e : Nat) : (s.ev b c d e).boot = s.boot := (quiet_ev s b c d e).boot
@[simp] theorem State.ev_deferred (b : Block) (c d e : Nat) : (s.ev b c d e).deferred = s.deferred :=
  (quiet_ev s b c d e).deferred
@[simp] theorem State.ev_flow (b : Block) (c d e : Nat) : (s.ev b c d e).flow = s.flow := (quiet_ev s b c d e).flow
@[simp] theorem State.ev_pins (b : Block) (c d e : Nat) : (s.ev b c d e).pins = s.pins := (quiet_ev s b c d e).pins
@[simp] theorem State.ev_test (b : Block) (c d e : Nat) : (s.ev b c d e).test = s.test := (quiet_ev s b c d e).test
theorem State.get_ev (b : Block) (c d e : Nat) {fd : Fld} (h : OffEvr fd) : (s.ev b c d e).get fd = s.get fd :=
  (quiet_ev s b c d e).get fd h

theorem quiet_evHost (a b c : Nat) : Quiet (s.evHost a b c) s := by
  exact quiet_event s _ _ _ _
@[simp] theorem State.evHost_pending (a b c : Nat) : (s.evHost a b c).pending = s.pending := (quiet_evHost s a b c).pending
@[simp] theorem State.evHost_rails (a b c : Nat) : (s.evHost a b c).rails = s.rails := (quiet_evHost s a b c).rails
@[simp] theorem State.evHost_broker (a b c : Nat) : (s.evHost a b c).broker = s.broker := (quiet_evHost s a b c).broker
@[simp] theorem State.evHost_pwr (a b c : Nat) : (s.evHost a b c).pwr = s.pwr := (quiet_evHost s a b c).pwr
@[simp] theorem State.evHost_pmr (a b c : Nat) : (s.evHost a b c).pmr = s.pmr := (quiet_evHost s a b c).pmr
@[simp] theorem State.evHost_cache (a b c : Nat) : (s.evHost a b c).cache = s.cache := (quiet_evHost s a b c).cache
@[simp] theorem State.evHost_umb (a b c : Nat) : (s.evHost a b c).umb = s.umb := (quiet_evHost s a b c).umb
@[simp] theorem State.evHost_vlt (a b c : Nat) : (s.evHost a b c).vlt = s.vlt := (quiet_evHost s a b c).vlt
@[simp] theorem State.evHost_grt (a b c : Nat) : (s.evHost a b c).grt = s.grt := (quiet_evHost s a b c).grt
@[simp] theorem State.evHost_flc (a b c : Nat) : (s.evHost a b c).flc = s.flc := (quiet_evHost s a b c).flc
@[simp] theorem State.evHost_dmc (a b c : Nat) : (s.evHost a b c).dmc = s.dmc := (quiet_evHost s a b c).dmc
@[simp] theorem State.evHost_ech (a b c : Nat) : (s.evHost a b c).ech = s.ech := (quiet_evHost s a b c).ech
@[simp] theorem State.evHost_lan (a b c : Nat) : (s.evHost a b c).lan = s.lan := (quiet_evHost s a b c).lan
@[simp] theorem State.evHost_boot (a b c : Nat) : (s.evHost a b c).boot = s.boot := (quiet_evHost s a b c).boot
@[simp] theorem State.evHost_deferred (a b c : Nat) : (s.evHost a b c).deferred = s.deferred := (quiet_evHost s a b c).deferred
@[simp] theorem State.evHost_flow (a b c : Nat) : (s.evHost a b c).flow = s.flow := (quiet_evHost s a b c).flow
@[simp] theorem State.evHost_pins (a b c : Nat) : (s.evHost a b c).pins = s.pins := (quiet_evHost s a b c).pins
@[simp] theorem State.evHost_test (a b c : Nat) : (s.evHost a b c).test = s.test := (quiet_evHost s a b c).test
theorem State.get_evHost (a b c : Nat) {fd : Fld} (h : OffEvr fd) : (s.evHost a b c).get fd = s.get fd :=
  (quiet_evHost s a b c).get fd h

end Sys2Proof.Machine
end

