-- ==== Sys2Proof/Machine/NorBytes.lean ====
section
/-! DEFINITION. The NOR's structures to the byte: the image header and directory, commit records and the boot log (R409,
R410, R415, R422). -/

namespace Sys2Proof.Machine

/-- The TIME of a record: operating seconds below, power cycles above (R415). -/
def timeField (secs cycles : Nat) : List Byte := natLe (secs % 2 ^ 40 + cycles % 2 ^ 24 * 2 ^ 40) 8

/-- Bytes closed by their CRC-32C. -/
def withCrc (body : List Byte) : List Byte := body ++ natLe (crc32c body) 4

/-- A directory entry (R410): 16 bytes. -/
def ImgSection.bytes (x : ImgSection) : List Byte :=
  natLe x.type 1 ++ natLe x.cls 1 ++ natLe x.version 2 ++ natLe x.offset 4 ++ natLe x.length 4 ++ natLe x.crc 4

/-- IFLAGS (R409). -/
def Image.iflags (i : Image) : Nat := b2n i.holdUnlocked + 2 * b2n i.provision + 4 * b2n i.svnLock + 8 * b2n i.firstFormat

/-- The header of an image (R409): 512 bytes. -/
def Image.header (i : Image) : List Byte :=
  withCrc (natLe 0x50445250 4 ++ natLe 1 2 ++ natLe 0 2 ++ natLe i.part 4 ++ natLe i.stepping 1 ++ natLe i.orderMask 1 ++
    natLe i.sections.length 1 ++ natLe i.iflags 1 ++ natLe i.seq 8 ++ natLe i.svn 4 ++ natLe i.length 4 ++
    padTo 256 ((i.sections.map ImgSection.bytes).flatten) ++ natLe ((i.revoke.map (fun k => 2 ^ k)).foldl (· + ·) 0) 1 ++
    List.replicate 219 0)

/-- A commit record (R415): 128 bytes, the same in both sectors of its pair. -/
def CommitRec.bytes (r : CommitRec) : List Byte :=
  withCrc (natLe 0x43434D54 4 ++ natLe r.seq 4 ++ natLe r.bank 1 ++ natLe r.kind 1 ++
    natLe (b2n r.trial + 2 * b2n r.cold + 4 * b2n r.format) 2 ++ natLe r.length 4 ++ natLe r.svn 4 ++ natLe 0 4 ++
    timeField r.secs r.cycles ++ natLe r.hash 48 ++ List.replicate 44 0)

/-- A record of the boot log (R422): 32 bytes. -/
def BootRec.bytes (r : BootRec) : List Byte :=
  withCrc (natLe 0x47424C47 4 ++ natLe r.seq 4 ++ natLe r.kind 1 ++ natLe r.bank 1 ++ natLe r.path 1 ++ natLe r.reason 1 ++
    natLe r.count 1 ++ natLe (b2n r.safe + 2 * b2n r.trial) 1 ++ natLe 0 2 ++ timeField r.secs r.cycles ++ natLe 0 4)

/-- The header of a journal sector (R455): slot 0, 64 bytes. -/
def JSector.header (x : JSector) : List Byte :=
  withCrc (natLe 0x45564A53 4 ++ natLe 1 1 ++ natLe 0 3 ++ natLe x.sseq 8 ++ natLe x.nextSeq 8 ++ List.replicate 36 0)

/-- A journal sector as the NOR holds it (R455): 4 KiB, what no record has filled erased. -/
def JSector.bytes (x : JSector) : List Byte := padOnes 4096 (x.header ++ (x.recs.map EvRecord.bytes).flatten)

/-- A sector of the supervision log (R369). -/
def State.ffSector (s : State) (k : Nat) : List Byte := padOnes 4096 (((lget s.rails.ffNor k []).map FFRecord.bytes).flatten)

/-- The header codeword of a black-box page (R458): 256 bytes. -/
def BBPage.header (p : BBPage) : List Byte :=
  let seqs := p.recs.map (fun e => e.seq)
  withCrc (natLe 0x45564242 4 ++ natLe 1 1 ++ natLe (b2n p.tail + 2 * b2n p.buffer) 1 ++ natLe p.recs.length 2 ++ natLe p.pseq 8 ++
    natLe (seqs.foldl Nat.min (seqs.headD 0)) 8 ++ natLe (seqs.foldl Nat.max 0) 8 ++ natLe p.session 4 ++ List.replicate 216 0)

/-- The data area of a black-box page (R458): 256 record slots, unused ones all 0xFF; it is not encrypted. -/
def BBPage.data (p : BBPage) : List Byte := padOnes 16384 ((p.recs.map EvRecord.bytes).flatten)

/-- The sectors of the commit area's current pair (R415). -/
def State.commitSector (s : State) : List Byte := padOnes 4096 ((s.boot.commits.map CommitRec.bytes).flatten)

end Sys2Proof.Machine
end

