-- ==== Sys2Proof/Machine/PcieConfig.lean ====
section
/-! DEFINITION. What a host reads in a function's configuration space, where the spec states it (R6, R7, R475–R477). The
table has no row for a configuration read. -/

namespace Sys2Proof.Machine

/-- Features that PCI Express gives a capability or a capability bit (R6, R475). -/
inductive PcieCap where
  | aer | msix | ecrc | aspmL1 | aspmL0s | l1Substates | sriov | ats | flr
deriving DecidableEq, Repr

/-- The function reports a feature as present (R6, R475); each other one is absent (R7). -/
def PcieCap.present : PcieCap → Bool
  | .aer | .msix | .ecrc | .aspmL1 | .flr => true
  | .aspmL0s | .l1Substates | .sriov | .ats => false

/-- Entries of the MSI-X table (R475, R504). -/
def msixEntries : Nat := 64

/-- The largest payload and the largest read request in bytes (R6). -/
def maxPayload : Nat := 512
def maxReadRequest : Nat := 4096

/-- A dword of the type 0 header; none where the spec does not state it (R475, R476). -/
def State.cfgDword (s : State) (p : Port) (off : Nat) : Option Nat :=
  let h := s.port p
  if off = 0x00 then some (s.vendorIds % 2 ^ 16 + 0x9640 * 2 ^ 16)
  else if off = 0x04 then some (2 * b2n h.mse + 4 * b2n h.bme + 0x10 * 2 ^ 16)
  else if off = 0x08 then some (0xB0 + 0x010802 * 2 ^ 8)
  else if 0x10 ≤ off ∧ off < 0x28 ∧ off % 4 = 0 then some (s.barWord p ((off - 0x10) / 4))
  else if off = 0x2C then some (s.vendorIds / 2 ^ 16 % 2 ^ 32)
  else if off = 0x30 then some 0
  else none

end Sys2Proof.Machine
end

