-- ==== Sys2Proof/Machine/TestAccess.lean ====
section
/-! DEFINITION. The pins and the test access port (R8, R391, R522–R528, R542, R546): where each signal's ball lies, the levels of
clamped signals and of pads without power, and what the JTAG port answers. The table has no row for a JTAG access. -/

namespace Sys2Proof.Machine

/-! Balls (R3, R522–R528). -/

/-- The rows of the package in order (R3). -/
def ballRows : List String :=
  ["A", "B", "C", "D", "E", "F", "G", "H", "J", "K", "L", "M", "N", "P", "T", "U", "V", "W", "Y", "AA", "AB"] ++
    ["AC", "AD", "AE", "AF", "AG", "AH", "AJ", "AK", "AL", "AM", "AN", "AP", "AT", "AU", "AV", "AW", "AY", "BA", "BB", "BC", "BD"]

/-- The signals of one DDR5 channel (R522); `b` chooses subchannel B. -/
inductive DdrSig where
  | dq (b : Bool) (n : Nat)
  | dqsT (b : Bool) (n : Nat)
  | dqsC (b : Bool) (n : Nat)
  | ca (b : Bool) (n : Nat)
  | csN (b : Bool) (n : Nat)
  | ckT (b : Bool)
  | ckC (b : Bool)
  | resetN | alrtN
deriving DecidableEq, Repr

/-- The signals of one NAND channel (R522). -/
inductive NandSig where
  | dq (n : Nat)
  | ceN (n : Nat)
  | dqsT | dqsC | reT | reC | cle | ale | weN | wpN | rbN
deriving DecidableEq, Repr

/-- The signals of an energy-module port (R522). -/
inductive EmSig where
  | shp | shn | vs | th | id | chg | dis
deriving DecidableEq, Repr

/-- The single signals of the standby group (R522, R527). -/
inductive AonSig where
  | xin25 | xout25 | xin32 | xout32 | vinSense | pwrbtnN | mrstN | wakeN | holdEn | alertN | faultN
  | spiSck | spiCsN | spiIo (n : Nat) | smbScl | smbSda | uartTxd | uartRxd | tck | tms | tdi | tdo | trstN | testMode
deriving DecidableEq, Repr

/-- The signals of the package (R522): a lane's `neg` chooses the second ball of its pair. -/
inductive Sig where
  | htx (lane : Nat) (neg : Bool)
  | hrx (lane : Nat) (neg : Bool)
  | etx (lane : Nat) (neg : Bool)
  | erx (lane : Nat) (neg : Bool)
  | hrefclk (neg : Bool)
  | perst (p : Port)
  | ddr (ch : Nat) (g : DdrSig)
  | nand (ch : Nat) (g : NandSig)
  | railSns (n : Nat)
  | railEn (n : Nat)
  | em (port : Nat) (g : EmSig)
  | aon (g : AonSig)
deriving DecidableEq, Repr

/-- Row and column of a signal within its subchannel's template, or in the shared row, which is row 10 (R524). -/
def DdrSig.place : DdrSig → Nat × Nat
  | .dq _ n => (lget [1, 2, 5, 6] (n % 4) 0, n / 4)
  | .dqsT _ n => (3, n)
  | .dqsC _ n => (4, n)
  | .ca _ n => (7 + n / 10, n % 10)
  | .csN _ n => (8, 4 + n)
  | .ckT _ => (8, 6)
  | .ckC _ => (8, 7)
  | .resetN => (10, 0)
  | .alrtN => (10, 1)

/-- The signal belongs to subchannel B. -/
def DdrSig.inB : DdrSig → Bool
  | .dq b _ | .dqsT b _ | .dqsC b _ | .ca b _ | .csN b _ | .ckT b | .ckC b => b
  | .resetN | .alrtN => false

/-- Row and column of a signal within its channel's block (R525). -/
def NandSig.place : NandSig → Nat × Nat
  | .dq n => (n / 4, n % 4)
  | .ceN n => (2, n)
  | .dqsT => (0, 4) | .dqsC => (0, 5) | .cle => (0, 6)
  | .reT => (1, 4) | .reC => (1, 5) | .ale => (1, 6)
  | .weN => (2, 4) | .wpN => (2, 5) | .rbN => (2, 6)

/-- The place of a signal in a module port's row (R528). -/
def EmSig.place : EmSig → Nat
  | .shp => 0 | .shn => 1 | .vs => 2 | .th => 3 | .id => 4 | .chg => 5 | .dis => 6

/-- Row and column of a signal of the standby group (R527). -/
def AonSig.place : AonSig → Nat × Nat
  | .xin25 => (31, 20) | .xout25 => (31, 21) | .xin32 => (31, 23) | .xout32 => (31, 24)
  | .vinSense => (31, 26) | .pwrbtnN => (31, 27) | .mrstN => (31, 28) | .wakeN => (31, 29)
  | .holdEn => (31, 30) | .alertN => (31, 31) | .faultN => (31, 32)
  | .spiSck => (32, 11) | .spiCsN => (32, 12) | .spiIo n => (32, 13 + n) | .smbScl => (32, 18) | .smbSda => (32, 19)
  | .uartTxd => (32, 21) | .uartRxd => (32, 22) | .tck => (32, 24) | .tms => (32, 25) | .tdi => (32, 26) | .tdo => (32, 27)
  | .trstN => (32, 28) | .testMode => (32, 30)

/-- The column of a rail channel's two balls, and which row of three they take (R528). -/
def railPlace (n : Nat) : Nat × Nat :=
  if n < 22 then (0, 11 + n) else if n < 44 then (1, n - 11) else (2, n - 33)

/-- Row index and column of a signal's ball (R523–R528). -/
def Sig.ball : Sig → Nat × Nat
  | .htx l neg => (1, 1 + 2 * l + b2n neg)
  | .hrx l neg => (3, 1 + 2 * l + b2n neg)
  | .etx l neg => (1, 27 + 2 * l + b2n neg)
  | .erx l neg => (3, 27 + 2 * l + b2n neg)
  | .hrefclk neg => (1, 17 + b2n neg)
  | .perst p => (1, 20 + p.idx)
  | .ddr ch g =>
    let row := (if ch % 2 = 0 then 5 else 24) + (if g.inB then 10 else 0) + g.place.1 - 1
    (row, if ch < 2 then 1 + g.place.2 else 42 - g.place.2)
  | .nand ch g => (5 + 3 * (ch / 3) + g.place.1, 11 + 7 * (ch % 3) + g.place.2)
  | .railSns n => (42 - (railPlace n).1, (railPlace n).2)
  | .railEn n => (lget [39, 38, 37] (railPlace n).1 0, (railPlace n).2)
  | .em n g => (36 - n / 3, 11 + 7 * (n % 3) + g.place)
  | .aon g => g.place

/-- The name of a ball (R3). -/
def ballName (b : Nat × Nat) : String := lget ballRows (b.1 - 1) "" ++ toString b.2

/-! The JTAG port (R546). -/

/-- The value of IDCODE: version, part, manufacturer and bit 0. -/
def jtagIdcode : Nat := 0xB * 2 ^ 28 + 0x9640 * 2 ^ 12 + 0x271 * 2 + 1

/-- The data register that an instruction places between TDI and TDO. -/
inductive JtagData where
  | bypass
  | word (w : Nat)
  | boundary
deriving DecidableEq, Repr

/-- The data register that an instruction selects: BYPASS one bit of 0, IDCODE its 32 bits, the other two the boundary-scan
register. -/
def JtagIr.data : JtagIr → JtagData
  | .bypass => .bypass
  | .idcode => .word jtagIdcode
  | .samplePreload | .extest => .boundary

/-- An instruction is accepted: EXTEST and SAMPLE/PRELOAD only while TEST_MODE is high. -/
def TestPort.accepts (t : TestPort) (i : JtagIr) : Bool :=
  match i with
  | .bypass | .idcode => true
  | .samplePreload | .extest => t.mode

/-- An instruction is shifted in and updated; one that is not accepted leaves the instruction register as it was (DEDUCED: R546
says only that it is not accepted). -/
def State.jtagLoad (s : State) (i : JtagIr) : State :=
  if s.test.accepts i then { s with test := { s.test with ir := i } } else s

/-- The pin has a cell of the boundary-scan register: every digital pin but those that R546 takes out. The reference clock is
taken as no digital pin, and the JTAG pins themselves, TEST_MODE with them, as outside the register that they serve
(PRESUMED: IEEE 1149.1). -/
def Sig.scanned : Sig → Bool
  | .htx _ _ | .hrx _ _ | .etx _ _ | .erx _ _ | .hrefclk _ | .railSns _ => false
  | .em _ g => g == .chg || g == .dis
  | .aon g => !([.xin25, .xout25, .xin32, .xout32, .vinSense, .tck, .tms, .tdi, .tdo, .trstN, .testMode].contains g)
  | .perst _ | .ddr _ _ | .nand _ _ | .railEn _ => true

/-! Clamps and pads (R391, R530, R542, R544). -/

/-- The signals that a domain's clamps hold (R391). -/
inductive ClampSig where
  | dataOut | readyOut | activeLow | dramPad | nandCe | nandWp | lane
deriving DecidableEq, Repr

/-- The level that a clamp holds. -/
inductive ClampLevel where
  | low | high | selfRefresh | electricalIdle
deriving DecidableEq, Repr

/-- The clamped level of each signal (R391): the NAND pads have CE_n high and WP_n low. -/
def ClampSig.level : ClampSig → ClampLevel
  | .dataOut | .readyOut | .nandWp => .low
  | .activeLow | .nandCe => .high
  | .dramPad => .selfRefresh
  | .lane => .electricalIdle

/-- A domain's clamps are applied exactly while its LOGIC_OK is 0 (R391). -/
def State.clamped (s : State) (d : Domain) : Bool := !s.domBit d.idx 3

/-- A module port's EM_CHG runs, and its EM_DIS is high: with PD_SUP off the pull-downs hold both low (R542). -/
def State.emChg (s : State) (n : Nat) : Bool := s.domOn .sup && (s.mod n).chgOn
def State.emDis (s : State) (n : Nat) : Bool := s.domOn .sup && (s.mod n).disOn

end Sys2Proof.Machine
end

