-- ==== Sys2Proof/WellFormed.lean ====
section
/-! DEFINITION. Well-formed commands: the operands of a command lie in the ranges that the buses and the records give them. No
meaning rests on it: every meaning answers for every operand. -/

namespace Sys2Proof

open Sys2Proof.Machine

/-- One byte enable for every byte (R34, R288). -/
def bytesOk (data : List Byte) (be : List Bool) : Bool := data.length == be.length

/-- A memory request: 1 to 4,096 bytes of a 64-bit address, within one 4 KiB page (R477). -/
def tlpOk (addr len : Nat) : Bool := decide (0 < len) && decide (addr % 4096 + len ≤ 4096) && decide (addr < 2 ^ 64)

/-- A length of at least one byte. -/
def lenOk (n : Nat) : Bool := decide (0 < n)

/-- A global LUN number: 16 channels of up to 16 LUNs. -/
def lunOk (n : Nat) : Bool := decide (n < 256)

/-- A flash channel. -/
def chanOk (n : Nat) : Bool := decide (n < 16)

/-- An energy module port (R322). -/
def portOk (n : Nat) : Bool := decide (n < 8)

/-- A DRAM subchannel: two on each of eight channels. -/
def subOk (n : Nat) : Bool := decide (n < 16)

/-- A device position of the DRAM. -/
def posOk (n : Nat) : Bool := decide (n < 160)

/-- A rail channel and its 12-bit code (R349, R540). -/
def railOk (n code : Nat) : Bool := decide (n < 64) && decide (code < 4096)

/-- An event's source, code, severity and key (R448). -/
def eventOk (src code sev key : Nat) : Bool :=
  decide (src < 256) && decide (code < 65536) && decide (sev < 8) && decide (key < 65536)

/-- A two-bit code of a rate or a width, as the status registers show it (R281, R319). -/
def codeOk (n : Nat) : Bool := decide (n < 4)

/-- A 64-bit field of a frame (R287). -/
def wordOk (n : Nat) : Bool := decide (n < 2 ^ 64)

/-- The 512-byte part of a granule that a GDATA frame carries (R288, R306). -/
def partOk (n : Nat) : Bool := decide (n < 8)

/-- A command identifier and its queue: 16 bits each (R478). -/
def idOk (i : CmdId) : Bool := decide (i.sq < 65536) && decide (i.cid < 65536)

/-- A queue number or an index into a queue. -/
def qOk (n : Nat) : Bool := decide (n < 65536)

/-- A dword-aligned offset of a controller register. -/
def offOk (n : Nat) : Bool := n % 4 == 0

/-- A flash descriptor names a LUN. -/
def descOk (d : Desc) : Bool := lunOk d.lun

/-- A command's operands are in range. -/
def Instr.wf : Instr → Bool
  | .pmrWriteTlp _ addr data be _ _ => bytesOk data be && tlpOk addr data.length
  | .pmrWriteSequence _ _ => true
  | .pmrRead _ addr len => tlpOk addr len
  | .barrierRead _ _ => true
  | .barrierComplete _ => true
  | .pmrctlWrite _ _ => true
  | .portReset _ _ => true
  | .portLinkDown _ => true
  | .controllerDisable _ => true
  | .controllerEnable _ _ => true
  | .shutdownNotification _ _ => true
  | .umbraUpdate _ _ => true
  | .seepStripeProgrammed _ _ => true
  | .rehearsalRequest _ _ => true
  | .rehearsalWindowEnd _ => true
  | .vaultDrainComplete _ _ _ => true
  | .sealProgrammed _ _ => true
  | .openRecordProgrammed _ _ _ => true
  | .sealSearchComplete _ _ => true
  | .mapBuildComplete _ _ _ _ _ _ _ _ => true
  | .granuleFetchComplete _ _ _ => true
  | .vltStatClr _ _ => true
  | .grtFormatWrite _ _ => true
  | .jrnlFlush _ _ => true
  | .gcNow _ _ => true
  | .gcStripeProgrammed _ => true
  | .read d => descOk d
  | .readHeader d => descOk d
  | .program d => descOk d
  | .erase d => descOk d
  | .erasedCheck d => descOk d
  | .resetLun d => descOk d
  | .getFeature d => descOk d
  | .setFeature d => descOk d
  | .readRaw d => descOk d
  | .flashDescriptorIssue lun _ => lunOk lun
  | .flashSuspend lun => lunOk lun
  | .flashOpComplete lun _ _ _ _ _ _ _ _ => lunOk lun
  | .flashOpTimeout lun _ => lunOk lun
  | .foreignQueueWrite _ ch => chanOk ch
  | .channelFault ch _ => chanOk ch
  | .retrainGo _ _ _ => true
  | .flcCntClr _ _ => true
  | .flcEcSelWrite _ _ => true
  | .dramRequest _ _ _ _ _ => true
  | .dramCommandSlot sub _ _ _ _ _ => subOk sub
  | .rowIdleClose _ => true
  | .mr4Poll _ _ => true
  | .rankPowerDown sub _ => subOk sub
  | .dmcStatClr _ _ => true
  | .dmcXlate _ _ => true
  | .dmcEccCntClr _ _ => true
  | .dmcPosSelWrite _ _ => true
  | .dmcDiagRead _ _ => true
  | .positionLeak pos => posOk pos
  | .scrubStep _ => true
  | .trainingTrack sub _ => subOk sub
  | .dramClockChange rate => codeOk rate
  | .echoLinkUp rate width => codeOk rate && codeOk width
  | .hello _ _ _ _ _ _ _ _ _ _ => true
  | .proof _ _ => true
  | .mwr _ _ _ data be => bytesOk data be
  | .epoch _ _ => true
  | .mack _ _ _ _ _ _ _ => true
  | .allow _ _ => true
  | .state _ word => wordOk word
  | .frd _ _ _ _ _ => true
  | .fdata _ _ _ _ _ _ _ => true
  | .greq _ _ _ _ => true
  | .gdata _ _ _ _ part _ => partOk part
  | .gver _ _ _ _ _ _ _ _ _ _ => true
  | .rsync _ _ _ _ => true
  | .vinfo _ _ _ _ => true
  | .vtab _ _ _ => true
  | .lctl _ _ _ _ _ => true
  | .echoReplayTimeout _ => true
  | .mirrorViewRead _ addr len => tlpOk addr len
  | .pairStatus _ id => idOk id
  | .pairDetach _ id => idOk id
  | .pairRejoin _ id => idOk id
  | .pairReplace _ id => idOk id
  | .mirrorViewOn _ id => idOk id
  | .mirrorViewOff _ id => idOk id
  | .echCntClr _ _ => true
  | .lanternSample _ => true
  | .lowcurEntry port => portOk port
  | .lowcurUpdate port _ _ _ => portOk port
  | .lowcurExit port => portOk port
  | .converterSilent port => portOk port
  | .restWindowStart port => portOk port
  | .restWindowEnd _ _ => true
  | .learnReq _ _ => true
  | .learnCancel _ _ => true
  | .lanFaultClr _ _ => true
  | .learnStart port => portOk port
  | .learnDischargeEnd _ _ => true
  | .learnRelaxEnd _ _ => true
  | .learnGuard _ => true
  | .railScanSample n code => railOk n code
  | .offReq _ _ => true
  | .supFaultClr _ _ => true
  | .ffAck _ _ => true
  | .clockMonitorWindow _ => true
  | .clockRelockResult _ _ => true
  | .clkMonClr _ _ => true
  | .leaveRequest _ => true
  | .leaveReturn _ => true
  | .leaveAgeExpiry _ => true
  | .sleepReq _ _ => true
  | .deepReq _ _ => true
  | .pwrCancel _ _ => true
  | .domainVote _ => true
  | .wakeReq _ _ => true
  | .domainBoundMissed _ => true
  | .pwrCntClr _ _ => true
  | .powerOnReset _ => true
  | .coldStart _ => true
  | .warmStart _ => true
  | .safeClr _ _ => true
  | .provDataWrite _ _ => true
  | .provBurn _ _ => true
  | .cfgLock _ _ => true
  | .wdtHeartbeat _ => true
  | .wdtKick _ _ => true
  | .updateStage _ id _ data _ => idOk id && lenOk data.length
  | .updateVerifyDone _ _ => true
  | .updateCommitWarm _ id => idOk id
  | .updateCommitCold _ id => idOk id
  | .updateCommitFormat _ id => idOk id
  | .updateAbort _ id => idOk id
  | .updateCommitOther _ id => idOk id
  | .norOpComplete _ _ _ => true
  | .eventSubmit src code sev key _ queued => eventOk src code sev key && decide (queued ≤ 32)
  | .recordWindowClose _ => true
  | .norJournalFlush _ => true
  | .evrFlush _ _ => true
  | .blackBoxFlush _ => true
  | .ringEccError _ => true
  | .evrRdGo _ _ => true
  | .evrCntClr _ _ => true
  | .viewExpiry _ => true
  | .getChallenge _ id => idOk id
  | .clear _ id _ _ _ _ _ _ _ => idOk id
  | .createIoQueue _ id _ qid _ _ _ _ _ => idOk id && qOk qid
  | .deleteIoQueue _ id _ qid => idOk id && qOk qid
  | .getLogPage _ id _ _ _ len _ => idOk id && lenOk len
  | .identify _ id _ _ => idOk id
  | .abort _ id _ => idOk id
  | .asynchronousEventRequest _ id => idOk id
  | .keepAlive _ id => idOk id
  | .getFeatures _ id _ _ => idOk id
  | .setFeatures _ id _ _ _ => idOk id
  | .formatNvm _ id _ _ _ => idOk id
  | .invalidOpcode _ id => idOk id
  | .flush _ id _ => idOk id
  | .write _ id _ _ _ => idOk id
  | .readLba _ id _ _ _ _ => idOk id
  | .writeZeroes _ id _ _ _ => idOk id
  | .datasetManagement _ id _ _ _ => idOk id
  | .sqDoorbell _ qid tail => qOk qid && qOk tail
  | .cqDoorbell _ qid head => qOk qid && qOk head
  | .hostReadTimeout _ _ => true
  | .barrierQuery _ id => idOk id
  | .learnCycleRequest _ id _ _ => idOk id
  | .rehearsalVault _ id => idOk id
  | .registerAccessRead _ id _ => idOk id
  | .registerAccessWrite _ id _ _ => idOk id
  | .registerWrite _ _ data be => bytesOk data be
  | .mctpControl _ => true
  | .readNvmeMiDataStructure _ _ => true
  | .subsystemHealthStatusPoll _ => true
  | .controllerHealthStatusPoll _ => true
  | .configurationGet _ => true
  | .configurationSet _ _ => true
  | .smbusAddrWrite _ _ => true
  | .smbusWrite _ _ => true
  | .smbusCtrlWrite _ _ => true
  | .uartEvents _ => true
  | .uartRegRead _ => true
  | .uartRegWrite _ _ => true
  | .hostLinkUp _ _ => true
  | .learnDischargeStart _ => true
  | .junctionTempSample _ => true
  | .keepAliveTimeout _ => true
  | .registerRead _ _ len => lenOk len
  | .mirrorViewWrite _ => true
  | .nvmeRegisterWrite _ off _ => offOk off
  | .pcieConfigWrite _ _ => true
  | .hostMemoryReadCompletion _ _ id _ _ _ => idOk id
  | .barrierAckTimeout => true
  | .energyInsufficientEntry => true
  | .energyInsufficientExit => true
  | .deficitExit => true
  | .enduranceFillCompute => true
  | .zoneAgeSweep => true
  | .seepStripeIssue => true
  | .rehearsalAutoTrigger => true
  | .powerFailTrip => true
  | .vinSenseRise => true
  | .inputReturned => true
  | .vaultRelease => true
  | .postVaultDomainUp => true
  | .peerWaitExpiry => true
  | .copyPauseExpiry => true
  | .formatArmedExpiry => true
  | .journalFlushTimer => true
  | .gcEraseDone => true
  | .refreshDue => true
  | .refreshCatchup => true
  | .rhWindowEnd => true
  | .echoTrainRetry => true
  | .echoLinkLoss => true
  | .mackCoalesceTimer => true
  | .stateSendTimer => true
  | .lctlAckTimer => true
  | .echoSilence => true
  | .lapsedRejoin => true
  | .heldPenaltyEnd => true
  | .refusedRetry => true
  | .resyncGranuleRead => true
  | .replaceExpiry => true
  | .lanternNorCopy => true
  | .sigmaAging => true
  | .learnCharged => true
  | .learnChargeTimeout => true
  | .learnRechargeDone => true
  | .groupReadyTimeout => true
  | .delayUpExpiry => true
  | .offTimeout => true
  | .delayDownExpiry => true
  | .retryDelayExpiry => true
  | .shortPress => true
  | .longPress => true
  | .cutPress => true
  | .graceTimeout => true
  | .ffNorWrite => true
  | .mrstN => true
  | .wakeN => true
  | .pllLossOfLock => true
  | .idleTimeout => true
  | .autoSleepTimer => true
  | .domainVoteTimeout => true
  | .sleepRetryBackoff => true
  | .deepPrepDrained => true
  | .deepPrepTimeout => true
  | .deepWakeTimer => true
  | .sleepGuardTrip => true
  | .sleepCheck => true
  | .sleepExit => true
  | .domainReady => true
  | .aonBorWarning => true
  | .aonBorReset => true
  | .safeArmedExpiry => true
  | .wdtStage1Expiry => true
  | .wdtStage2Expiry => true
  | .aonCoreTimer => true
  | .trialWindowEnd => true
  | .opsecCopy => true
  | .aonPatchSwap => true
  | .thermalShutdown => true
  | .norUnresponsive => true
  | .challengeExpiry => true
  | .basicManagementCommand => true
  | .smbusAddrRead => true
  | .smbusRead => true
  | .smbusStatus => true
  | .smbusCtrlRead => true
  | .smbusStuckTimeout => true
  | .uartStatus => true
  | .uartFf => true
  | .uartHelp => true
  | .uartUnknown => true
  | .echoTrainingAttemptFailed => true
  | .norSupplyHoldExpiry => true
  | .journalSeverityScanDone => true

end Sys2Proof
end

