-- ==== Sys2Proof/Tests/Slice0.lean ====
section
/-! SUPPORT. Tests: each check of WellFormed refuses an ill-formed term, small tests of single steps, and for every statement a
state and operands that meet the hypotheses of each of its clauses. -/

namespace Sys2Proof.Tests

set_option linter.unusedVariables false
set_option Elab.async false

open Sys2Proof.Machine

/-! ## Small states -/

/-- A state with register fields set. -/
def sets (s : State) (l : List (Fld × Nat)) : State := l.foldl (fun t e => t.put e.1 e.2) s

/-- A host port whose link is up, with an enabled controller that has its admin queues and one I/O queue pair. -/
def livePort : HostPort :=
  { HostPort.init with
    linkUp := true, mse := true, bme := true, pmrEn := true,
    nvme := { Nvme.init with
      en := true, rdy := true, sqs := [(0, ⟨0, 4, 0, 0, 0, 0⟩), (1, ⟨0, 4, 1, 0, 0, 0⟩)],
      cqs := [(0, ⟨0, 4, 0, true, 0, 0, true⟩), (1, ⟨0, 4, 0, true, 0, 0, true⟩)] } }

/-- RUN: every domain on, both host links up, the SMBus endpoint with an endpoint ID. -/
def run : State :=
  { State.reset with
    pwr := { Power.init with dom := List.replicate 8 DomSt.on },
    host := { HostSide.init with portA := livePort, portB := livePort, smb := { Smbus.init with eid := 8 } } }

/-- The register at an offset. -/
def rowOf (o : Nat) : RegRow := ((regAt o).map (fun e => e.1)).getD ⟨0, false, []⟩

/-- What `State.Writes` asks, as a Bool. -/
def canWrite (s : State) (r : Requester) (o w : Nat) : Bool :=
  s.reaches r && (match r.port with
    | some p => s.get Reg.PWR_STATUS_STATE == pwrRun && !s.holdsPosted p
    | none => true) &&
    (match Block.ofOff o with
     | some b => s.domOn b.domain
     | none => false) && s.mayWrite r o w &&
    (match regAt o with
     | some (row, hi) => !hi && !row.wide && !strayBits row.mask w
     | none => false)

theorem writes_of {s : State} {r : Requester} {o w : Nat} (h : canWrite s r o w = true) : s.Writes r o w := by
  simp only [canWrite, Bool.and_eq_true] at h
  obtain ⟨⟨⟨⟨h1, h2⟩, h3⟩, h4⟩, h5⟩ := h
  refine ⟨h1, fun p hp => ?_, ?_, h4, ?_⟩
  · rw [hp] at h2
    simp only [Bool.and_eq_true, Bool.not_eq_true'] at h2
    exact ⟨beq_iff_eq.mp h2.1, h2.2⟩
  · split at h3
    · exact ⟨_, ‹_›, h3⟩
    · exact absurd h3 (by simp)
  · split at h5
    · rename_i row hi he
      simp only [Bool.and_eq_true, Bool.not_eq_true'] at h5
      obtain ⟨⟨rfl, h6⟩, h7⟩ := h5
      exact ⟨row, he, h6, h7⟩
    · exact absurd h5 (by simp)

/-- What `State.Asks` asks, as a Bool. -/
def canAsk (s : State) (r : Requester) (o : Nat) (f : Fld) (w : Word) : Bool :=
  canWrite s r o (Nat.lor w.toNat (2 ^ f.lo)) &&
    (fieldsAt o).all (fun g => decide (g.acc = .wo → g ≠ f → g.of (Nat.lor w.toNat (2 ^ f.lo)) = 0))

theorem asks_of {s : State} {r : Requester} {o : Nat} {f : Fld} {w : Word} (h : canAsk s r o f w = true) : s.Asks r o f w := by
  simp only [canAsk, Bool.and_eq_true, List.all_eq_true, decide_eq_true_eq] at h
  exact ⟨writes_of h.1, h.2⟩

/-- What `State.TakesAdmin` asks of a host port, as a Bool. -/
theorem takes_host {s : State} {p : Port} (h : (decide s.InRun && s.domOn .ctrl && !s.flag Reg.SYS_STATUS_NO_IMAGE &&
    s.host.waiting.isEmpty && s.deferred.isEmpty && s.portLive p && (s.nvme p).en && !(s.nvme p).cfs && (s.nvme p).hasCq 0) = true) :
    s.TakesAdmin (.host p) := by
  simp only [Bool.and_eq_true, Bool.not_eq_true', decide_eq_true_eq, List.isEmpty_iff] at h
  obtain ⟨⟨⟨⟨⟨⟨⟨⟨h1, h2⟩, h3⟩, h4⟩, h5⟩, h6⟩, h7⟩, h8⟩, h9⟩ := h
  exact ⟨h1, h2, h3, h4, h5, h6, h7, h8, h9⟩

/-- A read descriptor of class 2 for LUN 0, and a program of a vault ring. -/
def rdDesc : Desc :=
  { op := 1, cls := 2, int := false, dep := false, slc := true, noSusp := false, ring := 16, seq := 0, lun := 0, area := 0,
    cwMask := 0, planes := 0, block := 0, page := 0, grant := 0, buf := 0, hdrBuf := 0, depTag := 0, arg := 0, rsvd := 0 }

def wrDesc : Desc := { rdDesc with op := 3, ring := 0 }

/-- An image of the six mandatory sections, signed with the key whose hash is 9. -/
def img : Image :=
  { hdrOk := true, part := State.reset.get Reg.SYS_ID_PART, stepping := State.reset.get Reg.SYS_ID_STEPPING,
    orderMask := 1, length := 4096,
    sections := [1, 2, 3, 4, 5, 6].map (fun t => ⟨t, 0, 1, 512 * t, 512, 0, true⟩), keysOk := true, patchRom := true,
    seq := 1, svn := 1,
    fields := [], railCrc := true, lastGroup := 0, hostMode := 0, vendor := 0, console := 5, smbAddr := 0, revoke := [],
    winAddr := 0,
    spareThr := 0, model := [], owner := .a, pairKey := 0, pairId := 7, holdUnlocked := false, provision := false,
    svnLock := true,
    firstFormat := false, modules := [], profiles := [], devices := [], ledgerOp := 7, patches := 1, aonPatches := 0,
    hashModules := 0, hash := 0, keyHash := 9, sigOk := true }

/-- A capacitor module of 10 F. -/
def edlc : Profile :=
  { idCode := 1, chem := 0, cells := 1, capNp := 10, esrNp := 1, vFloat := 4, floatTc := 0, vMin := 1, vOvp := 5,
    kc := 0, kr := 0,
    leak := 0, etaChg := 1, ocv := [], ocvTc := 0, iChgFs := 1, iChgNorm := 1, iChgMax := 1, iTerm := 0, rechargeSoc := 0,
    iMax := 10, tOp := (-40, 80), tChg := (-40, 80), tLearn := (0, 50), rSh := 0, rPath := 0, vsRatio := 1, recharge := 0 }

/-- What a start finds when the NOR answers or does not. -/
def startIn (nor : Bool) : StartIn :=
  { norOk := nor, norSfdp := true, norErase4 := true, norSoft := true, norLog2 := 24, nor144 := true, nor114 := true,
    norEsusp := true,
    norFast := true, badCopies := [], norTest := true, ringTest := true, patchOk := true, badWords := [], badTable := false,
    mismatch := [], badTrain := [], margins := [], luns := [], chOut := [], rates := [], tested := [], saveOk := true, ms := 0 }


/-! ## WellFormed refuses an ill-formed term, check by check -/

theorem test_wf_bytes : (Instr.registerWrite .cp0 0x100000 [1, 2] [true]).wf = false := by decide
theorem test_wf_tlp : (Instr.pmrRead .a 4094 4).wf = false := by decide
theorem test_wf_len : (Instr.registerRead .cp0 0x100000 0).wf = false := by decide
theorem test_wf_lun : (Instr.flashSuspend 256).wf = false := by decide
theorem test_wf_channel : (Instr.channelFault 16 true).wf = false := by decide
theorem test_wf_port : (Instr.lowcurEntry 8).wf = false := by decide
theorem test_wf_subchannel : (Instr.rankPowerDown 16 0).wf = false := by decide
theorem test_wf_position : (Instr.positionLeak 160).wf = false := by decide
theorem test_wf_rail : (Instr.railScanSample 63 4096).wf = false ∧ (Instr.railScanSample 64 0).wf = false := by decide
theorem test_wf_event : (Instr.eventSubmit 0 0x1000 8 0 [] 0).wf = false := by decide
theorem test_wf_code : (Instr.echoLinkUp 4 0).wf = false := by decide
theorem test_wf_word : (Instr.state ⟨0, true, false⟩ (2 ^ 64)).wf = false := by decide
theorem test_wf_part : (Instr.gdata ⟨0, true, false⟩ 0 0 2 8 []).wf = false := by decide
theorem test_wf_id : (Instr.keepAlive .a ⟨0, 65536⟩).wf = false := by decide
theorem test_wf_queue : (Instr.sqDoorbell .a 65536 0).wf = false := by decide
theorem test_wf_offset : (Instr.nvmeRegisterWrite .a 0x15 0).wf = false := by decide
theorem test_wf_descriptor : (Instr.read { rdDesc with lun := 256 }).wf = false := by decide
theorem test_wf_accepts : (Instr.pmrRead .a 4092 4).wf = true ∧ (Instr.railScanSample 63 4095).wf = true := by decide

/-! ## The worked examples of the spec -/

/-- Chapter 1, after R16: a pair member of 384 GiB presents 50,282,496 granules. -/
theorem test_spec_pmr_size : (sets run [(Reg.DMC_GEOM_CAP_GIB, 384), (Reg.ECH_STATUS_PAIR_MODE, 1)]).ownGrans = 50282496 := by
  decide +kernel

/-- Chapter 3, after R72: p is 52 W, and 400 J give a horizon of 188,034,826,240 bytes. -/
theorem test_spec_horizon :
    (sets { run with
        umb := { run.umb with results := [⟨50000, 27200000000, 40, 1, 0⟩] },
        flc := { run.flc with luns := [(0, { Lun.none with st := .active })] },
        boot := { run.boot with fuses := [(Reg.SYS_ID_ORDER.key, 0)] } }
      [(Reg.SYS_TEMP_TJ, 60), (Reg.UMB_MODEL_CFG_ALPHA, 20), (Reg.UMB_MODEL_CFG_MARGIN, 20), (Reg.UMB_FIXED_CFG_T_TAIL, 3000),
        (Reg.UMB_FIXED_CFG_T_CARRY, 2000), (Reg.PWR_LEAVE_BUDGET_RUN_MW, 10000),
        (Reg.PWR_LEAVE_BUDGET_BASE_MW, 4000)]).horizonOf 400 = 188034826240 := by
  decide +kernel

/-- Chapter 5, after R159: data page 9 of stripe 7,340,037 lies at position 10; the XOR page at 5. -/
theorem test_spec_stripe_position : pagePos 7340037 9 = 10 ∧ posPage 7340037 5 = none := by decide

/-- Chapter 7, after R228: cache address 0x45_6789_AB40 of an unpaired Borod of 4 channels, 2 ranks and 32 Gb devices. -/
theorem test_spec_dram_address :
    (sets run [(Reg.DMC_GEOM_CHANNELS, 2), (Reg.DMC_GEOM_RANKS, 1), (Reg.DMC_GEOM_DENSITY, 2), (Reg.DMC_HASH_BG0_MASK, 0x8421),
      (Reg.DMC_HASH_BG1_MASK, 0x10842), (Reg.DMC_HASH_BG2_MASK, 0x1084), (Reg.DMC_HASH_BA0_MASK, 0x2108),
      (Reg.DMC_HASH_BA1_MASK, 0x4210)]).dramAddr 0x456789AB40 = ⟨2, 1, 0, 4, 3, 71070, 85⟩ := by
  decide +kernel

/-- Chapter 8, after R256: two devices fail together; the beats decode as corrections at positions 0 and 6, the burst does not. -/
theorem test_spec_symbol_code :
    decodeBeat (2 * 2 ^ 4 + 3 * 2 ^ 16) = .corrected 0 1 ∧ decodeBeat (3 * 2 ^ 4 + 8 * 2 ^ 16) = .corrected 6 0xB ∧
    decodeBurst [0, 0, 0, 2 * 2 ^ 4 + 3 * 2 ^ 16, 0, 0, 0, 3 * 2 ^ 4 + 8 * 2 ^ 16, 0, 0, 0, 0, 0, 0, 0, 0] = .uncorrectable true := by
  decide +kernel

/-- Chapter 5, after R159: the map entry of a granule in slot 1 of page 212 of block 700 on global LUN 58. -/
theorem test_spec_map_word : mapWordOf 1 58 (700 * 384 + 212) 1 = 0x27506B51 := by decide

/-- FIPS 197, appendix C.3: the AES-256 example. -/
theorem test_aes256 : aesBlock (aesKeys (List.range 32)) ((List.range 16).map (fun i => 17 * i)) =
    [0x8E, 0xA2, 0xB7, 0xCA, 0x51, 0x67, 0x45, 0xBF, 0xEA, 0xFC, 0x49, 0x90, 0x4B, 0x49, 0x60, 0x89] := by
  decide +kernel

/-- Chapter 17, examples of the ball map. -/
theorem test_spec_balls :
    ballName (Sig.nand 10 .dqsT).ball = "P22" ∧ ballName (Sig.ddr 2 (.dq true 37)).ball = "U33" ∧
    ballName (Sig.em 4 .dis).ball = "AU24" := by
  decide +kernel

/-- R546: the IDCODE. -/
theorem test_idcode : jtagIdcode = 0xB96404E3 := by decide

/-! ## Single steps -/

/-- The state after a command. -/
def after (c : Instr) (s : State) : State :=
  match step { s with pending := [c] } with
  | .next t => t
  | _ => s

/-- Chapter 16, after R520, steps 3 and 4: the low dword of the horizon, and the high one from the latch. -/
theorem test_spec_smbus_low :
    (after .smbusRead (sets { run with host := { run.host with smb := { run.host.smb with addr := 0x150008, autoInc := true } } }
      [(Reg.UMB_HORIZON_BYTES, 188034826240)])).out = [.smb [5, 1, 0x00, 0xC0, 0xBF, 0xC7]] := by
  decide +kernel
theorem test_spec_smbus_high :
    (after .smbusRead (after .smbusRead (sets { run with host := { run.host with
        smb := { run.host.smb with addr := 0x150008, autoInc := true } } }
      [(Reg.UMB_HORIZON_BYTES, 188034826240)]))).out.getLast? = some (.smb [5, 1, 0x2B, 0, 0, 0]) := by
  decide +kernel

theorem test_reset_mem : Memory.wf State.reset.cache.cells = true := by decide
theorem test_reset_pins : State.reset.PinsShown := by decide
/-- R361: a short press in OFF powers on. -/
theorem test_short_press : (after .shortPress State.reset).seqState = seqUp := by decide +kernel
/-- R25: 24,292 and 24,536 are good counts of a window; 24,291 is a bad one. -/
theorem test_clock_window : (after (.clockMonitorWindow 24291) run).pwr.badWindows = 1 ∧
    (after (.clockMonitorWindow 24292) run).pwr.badWindows = 0 := by decide +kernel
/-- R394: a block whose domain is off reads 0xDEAD0FFD. -/
theorem test_off_read : (after (.registerRead .aon 0x190000 4) State.reset).out = [.reg .aon 0xDEAD0FFD true] := by decide +kernel
/-- R518, R519: a write without its PEC sets PEC_ERR and nothing else. -/
theorem test_missing_pec : (after (.smbusCtrlWrite 3 false) run).host.smb = { run.host.smb with status := 8 } := by decide +kernel
/-- R73: with no horizon, a write that would dirty a granule waits. -/
theorem test_admission :
    (after (.pmrWriteTlp .a 0 [7] [true] false false)
      (sets { run with pmr := { run.pmr with st := .opened, ingestOpen := true, firstHorizon := true } }
        [(Reg.DMC_GEOM_CAP_GIB, 1)])).pmr.queueA = [.write 0 [7] [true]] := by
  decide +kernel

/-! ## What meets the hypotheses of each statement -/

/-- Each clause of StepRunsFront has states and operands that meet its hypotheses. -/
theorem wit_step_runs_front :
    (∃ (c : Instr) (rest : List Instr) (s : State), s.pending = c :: rest) :=
   ⟨.powerFailTrip, [], { run with pending := [.powerFailTrip] }, by decide +kernel⟩

/-- Each clause of IdleCountsSeconds has states and operands that meet its hypotheses. -/
theorem wit_idle_counts_seconds :
    (∃ (s : State), s.pending = [] ∧ s.deferred = [] ∧ s.domOn .sup = true ∧ s.pwr.ticks + 1 < 32768) ∧
    (∃ (s : State), s.pending = [] ∧ s.deferred = [] ∧ s.domOn .sup = true ∧ 32768 ≤ s.pwr.ticks + 1) ∧
    (∃ (s : State), s.pending = [] ∧ s.deferred = [] ∧ s.domOn .sup = false) :=
   ⟨⟨{ run with pwr := { run.pwr with ticks := 32766 } }, by decide +kernel⟩,
    ⟨{ run with pwr := { run.pwr with ticks := 32767 } }, by decide +kernel⟩,
    ⟨State.reset, by decide +kernel⟩⟩

/-- Each clause of PinsKept has states and operands that meet its hypotheses. -/
theorem wit_pins_kept :
    (∃ (s t : State), s.PinsShown ∧ step s = .next t) :=
   ⟨State.reset, State.reset, ⟨rfl, rfl⟩⟩

/-- Each clause of MemoryKept has states and operands that meet its hypotheses. -/
theorem wit_memory_kept :
    (∃ (s t : State), s.MemoryWf ∧ step s = .next t) :=
   ⟨State.reset, State.reset, ⟨rfl, rfl⟩⟩

/-- Each clause of PmrWrites has states and operands that meet its hypotheses. -/
theorem wit_pmr_writes :
    (∃ (p : Port) (addr : Nat) (data : List Byte) (be : List Bool) (s : State), s.Claims p ∧ queueBytes (s.portQueue p) +
      data.length ≤ s.portShare ∧ be.all (fun b => !b) = false ∧ s.writable p addr data.length = true) ∧
    (∃ (p : Port) (addr : Nat) (data : List Byte) (be : List Bool) (s : State), s.Claims p ∧ queueBytes (s.portQueue p) +
      data.length ≤ s.portShare) ∧
    (∃ (p : Port) (addr : Nat) (data : List Byte) (be : List Bool) (s : State), s.Claims p ∧ s.NoneWaiting p ∧ data.length ≤
      s.portShare ∧ be.all (fun b => !b) = false ∧ s.writable p addr data.length = false) ∧
    (∃ (p : Port) (addr : Nat) (data : List Byte) (be : List Bool) (ep ecrcErr : Bool) (s : State), s.portLive p = true ∧
      s.portShare < queueBytes (s.portQueue p) + data.length) ∧
    (∃ (p : Port) (addr ns : Nat) (data : List Byte) (be : List Bool) (s : State), s.asleep = false ∧ s.flow = [] ∧ (s.atTime
      ns).settlePorts.portQueue p = [.write addr data be] ∧ (s.atTime ns).settlePorts.headReady p = true ∧ (s.atTime
      ns).settlePorts.pair = false ∧ (s.atTime ns).settlePorts.Present (addr / 4096) ∧ (s.atTime ns).settlePorts.dramClean =
      true) :=
   ⟨⟨.a, 0, [1], [true], sets { run with pmr := { run.pmr with st := .opened, ingestOpen := true, firstHorizon := true } }
     [(Reg.DMC_GEOM_CAP_GIB, 1), (Reg.UMB_HORIZON_BYTES, 4096)], by decide +kernel⟩,
    ⟨.a, 4096, [1], [true], sets { run with pmr := { run.pmr with st := .opened, ingestOpen := true, firstHorizon := true } }
      [(Reg.DMC_GEOM_CAP_GIB, 1), (Reg.UMB_HORIZON_BYTES, 4096)], by decide +kernel⟩,
    ⟨.a, 2 ^ 30, [1], [true], sets
      { run with pmr := { run.pmr with st := .opened, ingestOpen := true, firstHorizon := true } } [(Reg.DMC_GEOM_CAP_GIB, 1),
      (Reg.UMB_HORIZON_BYTES, 4096)], by decide +kernel⟩,
    ⟨.a, 0, [], [], false, false,
      { run with pmr := { run.pmr with queueA := List.replicate 1025 (.write 0 (List.replicate 1024 7) []) } }, ⟨by
      decide +kernel, by decide +kernel⟩⟩,
    ⟨.a, 0, 7, [1], [true], sets
      { run with pmr := { run.pmr with st := .opened, ingestOpen := true, firstHorizon := true, queueA := [.write 0 [1] [true]]
                                         }, cache := { run.cache with map := [(0, ⟨.copied, none, false, false⟩)] } }
      [(Reg.DMC_GEOM_CAP_GIB, 1), (Reg.UMB_HORIZON_BYTES, 4096)], ⟨by decide +kernel, by decide +kernel, by decide +kernel, by
      decide +kernel, by decide +kernel, by decide +kernel, by decide +kernel⟩⟩⟩

/-- Each clause of PmrReads has states and operands that meet its hypotheses. -/
theorem wit_pmr_reads :
    (∃ (p : Port) (addr len : Nat) (s : State), s.Claims p ∧ s.NoneWaiting p ∧ (s.port p).pmrEn = true ∧ s.pmr.st ≠ .closed ∧
      addr + len ≤ s.pmrBytes ∧ s.Present (addr / 4096) ∧ s.errsIn addr len = []) ∧
    (∃ (p : Port) (addr len : Nat) (s : State), s.Claims p ∧ s.NoneWaiting p ∧ (s.port p).pmrEn = true ∧ s.pmr.st ≠ .closed ∧
      addr + len ≤ s.pmrBytes ∧ s.granFrozen (addr / 4096) = false ∧ (s.ent (addr / 4096)).st = .notCopied) ∧
    (∃ (p : Port) (addr len : Nat) (s : State), s.Claims p ∧ s.NoneWaiting p ∧ (s.port p).pmrEn = false) :=
   ⟨⟨.a, 0, 4, sets { run with cache := { run.cache with map := [(0, ⟨.copied, none, false, false⟩)] }, pmr :=
                                 { run.pmr with st := .opened, ingestOpen := true, firstHorizon := true } }
     [(Reg.DMC_GEOM_CAP_GIB, 1), (Reg.UMB_HORIZON_BYTES, 4096)], by decide +kernel⟩,
    ⟨.a, 0, 4, sets { run with cache := { run.cache with map := [(0, ⟨.notCopied, some (0, 0, 0), false, false⟩)] }, pmr :=
                                 { run.pmr with st := .opened, ingestOpen := true, firstHorizon := true } }
      [(Reg.DMC_GEOM_CAP_GIB, 1), (Reg.UMB_HORIZON_BYTES, 4096)], by decide +kernel⟩,
    ⟨.a, 0, 4, { run with host := { run.host with portA := { livePort with pmrEn := false } } }, by decide +kernel⟩⟩

/-- Each clause of Barriers has states and operands that meet its hypotheses. -/
theorem wit_barriers :
    (∃ (p : Port) (ns : Nat) (s : State), s.Claims p ∧ s.NoneWaiting p ∧ (s.port p).pmrEn = true) ∧
    (∃ (m : Pmr) (g t0 ns : Nat), m.group = some (g, t0) ∧ t0 ≤ ns ∧ ns < t0 + 1000) ∧
    (∃ (m : Pmr) (g t0 ns : Nat), m.group = some (g, t0) ∧ t0 + 1000 ≤ ns) ∧
    (∃ (b : Barrier) (ns : Nat) (s : State), s.pmr.barriers = [b] ∧ s.pair = false ∧ (s.atTime ns).pmr.windowOver b.group =
      true) ∧
    (∃ (b : Barrier) (ns : Nat) (s : State), s.pmr.barriers = [b] ∧ (s.atTime ns).pmr.windowOver b.group = false) ∧
    (∃ (b : Barrier) (ns : Nat) (s : State), s.pmr.barriers = [b] ∧ s.pair = true ∧ s.peerInService = true ∧ s.ech.nsSeqs = [] ∧
      s.get Reg.ECH_SEQ_ACKED_SEQ < b.point) ∧
    (∃ (b : Barrier) (s : State), s.pmr.barriers = [b] ∧ s.barrierRule b.point = .notMet ∧ s.streaming = true) :=
   ⟨⟨.b, 0, run, by decide +kernel⟩,
    ⟨{ Pmr.init with group := some (1, 5) }, 1, 5, 1004, by decide +kernel⟩,
    ⟨{ Pmr.init with group := some (1, 5) }, 1, 5, 1005, by decide +kernel⟩,
    ⟨⟨.a, 0, 0⟩, 7, { run with pmr := { run.pmr with barriers := [⟨.a, 0, 0⟩] } }, by decide +kernel⟩,
    ⟨⟨.a, 0, 0⟩, 1004, { run with pmr := { run.pmr with barriers := [⟨.a, 0, 0⟩], group := some (0, 5) } }, by decide +kernel⟩,
    ⟨⟨.a, 1, 0⟩, 7, sets { run with pmr := { run.pmr with barriers := [⟨.a, 1, 0⟩] } } [(Reg.ECH_STATUS_PAIR_MODE, 1),
      (Reg.ECH_STATUS_STATE, 3)], by decide +kernel⟩,
    ⟨⟨.a, 1, 0⟩, sets { run with pmr := { run.pmr with barriers := [⟨.a, 1, 0⟩] } } [(Reg.ECH_STATUS_PAIR_MODE, 1),
      (Reg.ECH_STATUS_STATE, 3)], by decide +kernel⟩⟩

/-- Each clause of PortsAndControllers has states and operands that meet its hypotheses. -/
theorem wit_ports_and_controllers :
    (∃ (p : Port) (w : Word) (s : State), s.Claims p ∧ bitOf w.toNat 0 = true) ∧
    (∃ (p : Port) (w : Word) (s : State), s.Claims p ∧ bitOf w.toNat 0 = false ∧ s.NoneWaiting .a ∧ s.NoneWaiting .b ∧
      s.seqState ≠ seqGrace) ∧
    (∃ (p : Port) (status : Nat) (s : State), s.portExists p = true ∧ s.domOn .host = true ∧ s.holdsOp (.phyHost p) = true) ∧
    (∃ (p : Port) (status : Nat) (s : State), s.portExists p = true ∧ s.domOn .host = true ∧ (s.phyRequest p).holdsOp (.phyHost
      p) = false) ∧
    (∃ (p : Port) (s : State), s.portLive p = true) ∧
    (∃ (p : Port) (flr : Bool) (s : State), s.portExists p = true) ∧
    (∃ (p : Port) (cc : Word) (s : State), s.Claims p ∧ (s.nvme p).en = false) ∧
    (∃ (p : Port) (s : State), s.Claims p) ∧
    (∃ (p : Port) (shn : Nat) (s : State), s.Claims p ∧ (s.nvme p).en = true ∧ shn % 4 ≠ 0 ∧ s.seqState ≠ seqGrace) :=
   ⟨⟨.a, 1, run, by decide +kernel⟩,
    ⟨.a, 0, run, by decide +kernel⟩,
    ⟨.b, 0, { run with broker := { run.broker with held := [⟨0, .phyHost .b, 0, false⟩] } }, by decide +kernel⟩,
    ⟨.a, 0, sets run [(Reg.PWR_LEAVE_COST0_PHY_MW, 1)], by decide +kernel⟩,
    ⟨.a, run, by decide +kernel⟩,
    ⟨.b, true, run, by decide +kernel⟩,
    ⟨.a, 0, { run with host := { run.host with portA := { livePort with nvme := Nvme.init } } }, by decide +kernel⟩,
    ⟨.b, run, by decide +kernel⟩,
    ⟨.a, 1, run, by decide +kernel⟩⟩

/-- Each clause of SeepOrder has states and operands that meet its hypotheses. -/
theorem wit_seep_order :
    (∃ (s : State) (l : List Nat) (g : Nat), s.zoneAge (zoneOf g) ≤ 3) :=
   ⟨sets run [], [0], 0, by decide +kernel⟩

/-- Each clause of UmbraRuns has states and operands that meet its hypotheses. -/
theorem wit_umbra_runs :
    (∃ (ageMs : Nat) (s : State), s.domOn .ctrl = true ∧ s.asleep = false ∧ s.boot.running.isSome = true ∧ s.umb.overruns < 2) ∧
    (∃ (ageMs : Nat) (s : State), s.domOn .ctrl = true ∧ s.asleep = false ∧ s.boot.running.isSome = true ∧ 2 ≤ s.umb.overruns ∧
      s.deficit = true) ∧
    (∃ (ageMs : Nat) (s : State), s.domOn .ctrl = true ∧ s.asleep = false ∧ s.boot.running.isSome = true ∧ s.grt.formatted =
      false ∧ s.grt.gc = none) ∧
    (∃ (s : State), s.deficit = true ∧ s.dirtyBytes ≤ s.get Reg.UMB_HORIZON_BYTES) ∧
    (∃ (s : State), s.domOn .ctrl = true ∧ s.asleep = false ∧ s.boot.running.isSome = true) ∧
    (∃ (s : State), s.domOn .ctrl = true ∧ s.asleep = false) ∧
    (∃ (s : State), s.get Reg.UMB_HORIZON_BYTES < s.floorBytes ∧ s.pmr.insuff = false) ∧
    (∃ (s : State), s.pmr.insuff = true ∧ 2 * s.floorBytes ≤ s.get Reg.UMB_HORIZON_BYTES) ∧
    (∃ (s : State), s.floorBytes ≤ s.get Reg.UMB_HORIZON_BYTES) :=
   ⟨⟨0, { run with boot := { run.boot with running := some img }, umb := { run.umb with overruns := 1 } }, by decide +kernel⟩,
    ⟨0, sets { run with boot := { run.boot with running := some img }, umb := { run.umb with overruns := 2 } }
      [(Reg.UMB_STATUS_DEFICIT, 1)], by decide +kernel⟩,
    ⟨0, { run with boot := { run.boot with running := some img } }, by decide +kernel⟩,
    ⟨sets run [(Reg.UMB_STATUS_DEFICIT, 1)], by decide +kernel⟩,
    ⟨{ run with boot := { run.boot with running := some img } }, by decide +kernel⟩,
    ⟨run, by decide +kernel⟩,
    ⟨sets run [(Reg.UMB_CAP_CFG_FLOOR, 1), (Reg.UMB_HORIZON_BYTES, 2 ^ 20 - 1)], by decide +kernel⟩,
    ⟨sets { run with pmr := { run.pmr with insuff := true } } [(Reg.UMB_CAP_CFG_FLOOR, 1), (Reg.UMB_HORIZON_BYTES, 2 ^ 21)], by
      decide +kernel⟩,
    ⟨sets run [(Reg.UMB_CAP_CFG_FLOOR, 1), (Reg.UMB_HORIZON_BYTES, 2 ^ 20)], by decide +kernel⟩⟩

/-- Each clause of SeepStripes has states and operands that meet its hypotheses. -/
theorem wit_seep_stripes :
    (∃ (s : State) (b : Band) (i : Nat), s.InRun ∧ s.vaulting = false ∧ s.grt.formatted = true ∧ s.flag Reg.SYS_STATUS_SAFE =
      false ∧ s.cache.inflight.length + 60 ≤ 4096 ∧ s.rehearsing = false ∧ 0 < s.umb.seepR ∧ s.stagingRoom = true ∧ s.dmc.errs =
      [] ∧ s.seepList ≠ [] ∧ s.targetOpen ≤ s.openBands.length ∧ s.nextBandFor = some b ∧ (s.grt.flights.filter (fun f =>
      f.writer == .seep)).length < s.nSeep ∧ s.freeGrant .seepStripe = some i) ∧
    (∃ (s : State) (serial pos d k : Nat) (f : Flight) (v : GVer) (e : InFlight), s.umb.rehearsal = none ∧ s.mapKnown (s.verGran
      v) = true ∧ s.flightOf serial = some f ∧ f.writer = .seep ∧ f.stripe.serial = serial ∧ f.waiting ≠ [] ∧ f.done.contains
      pos = true ∧ posPage serial pos = some d ∧ f.stripe.pageVers d = [(k, v)] ∧ s.cache.inflight.find? (fun x => x.gran ==
      s.verGran v && x.serial == serial) = some e) :=
   ⟨⟨sets { run with umb := { run.umb with seepR := 1 }, grt :=
                       { run.grt with formatted := true, bands := [⟨0, [some (0, 0)], 0, false, [], false⟩] }, cache :=
                       { run.cache with grans := [(0, ⟨true, false, 1, 0⟩)] }, broker :=
                       { run.broker with held := [⟨0, .seepStripe, 0, false⟩] } } [(Reg.PWR_LEAVE_BUDGET_RUN_MW, 1)], ⟨0, [some
     (0, 0)], 0, false, [], false⟩, 0, by decide +kernel⟩,
    ⟨{ run with grt := { run.grt with flights := [(⟨(⟨0, 0, 0, 0, 0, 0, 0, [], [], .data [some ⟨0, .a, 1, 0, false, 0, false, 0,
                                        []⟩]⟩ : Stripe), .seep, [1], [1], [], 1, false⟩ : Flight)] }, cache :=
                  { run.cache with inflight := [⟨0, false, 0⟩] } }, 0, 1, 0, 0, (⟨(⟨0, 0, 0, 0, 0, 0, 0, [], [], .data [some ⟨0,
      .a, 1, 0, false, 0, false, 0, []⟩]⟩ : Stripe), .seep, [1], [1], [], 1, false⟩ : Flight), (⟨0, .a, 1, 0, false, 0, false,
      0, []⟩ : GVer), ⟨0, false, 0⟩, by decide +kernel⟩⟩

/-- Each clause of Rehearsals has states and operands that meet its hypotheses. -/
theorem wit_rehearsals :
    (∃ (s : State), s.InRun ∧ s.umb.wanted = true ∧ s.rehMay = true) ∧
    (∃ (s : State), s.rehInterval = true ∧ s.rehMay = false) ∧
    (∃ (s : State) (h : Rehearsal) (c : Bool), s.umb.rehearsal = some h ∧ s.vaulting = false ∧ s.rehInFlight = true) ∧
    (∃ (s : State) (h : Rehearsal), s.umb.rehearsal = some h ∧ s.vaulting = false ∧ s.rehInFlight = false ∧ s.umb.lastRej = none
      ∧ h.failed = true) ∧
    (∃ (s : State) (h : Rehearsal), s.umb.rehearsal = some h ∧ s.vaulting = false ∧ s.rehInFlight = false ∧ s.umb.lastRej = none
      ∧ h.failed = false ∧ h.ending = none) :=
   ⟨⟨sets { run with umb := { run.umb with wanted := true }, vlt := { run.vlt with input := true }, grt :=
                       { run.grt with formatted := true }, pmr := { run.pmr with st := .opened } } [(Reg.SUP_SEQ_STATUS_STATE,
     2)], by decide +kernel⟩,
    ⟨run, by decide +kernel⟩,
    ⟨{ run with umb := { run.umb with rehearsal := some ⟨false, 0, true, none⟩ }, grt :=
                  { run.grt with flights := [(⟨(⟨0, 0, 0, 0, 0, 0, 0, [], [], .data [some ⟨0, .a, 1, 0, false, 0, false, 0,
                                   []⟩]⟩ : Stripe), .rehearsal, [], [], [], 1, false⟩ : Flight)] } }, ⟨false, 0, true, none⟩,
      true, by decide +kernel⟩,
    ⟨{ run with umb := { run.umb with rehearsal := some ⟨true, 0, true, none⟩ } }, ⟨true, 0, true, none⟩, by decide +kernel⟩,
    ⟨{ run with umb := { run.umb with rehearsal := some ⟨true, 0, false, none⟩ } }, ⟨true, 0, false, none⟩, by decide +kernel⟩⟩

/-- Each clause of FlashSubmits has states and operands that meet its hypotheses. -/
theorem wit_flash_submits :
    (∃ (d : Desc) (s : State), s.InRun ∧ s.takesDesc d ∧ (s.lun d.lun).slots < 16) ∧
    (∃ (d : Desc) (s : State), Desc.bad { d with op := 1 } = true) ∧
    (∃ (d : Desc) (s : State), Desc.bad d = false ∧ s.ringRight d = false) ∧
    (∃ (d : Desc) (s : State), Desc.bad d = false ∧ s.ringRight d = true ∧ s.slcRight d = true ∧ s.blockThere d = true ∧
      s.lunRefuses d = true) :=
   ⟨⟨rdDesc, sets { run with flc := { run.flc with luns := [(0, { Lun.none with st := .active })] } } [(Reg.GRT_GEOM_BLOCKS,
     1)], by decide +kernel⟩,
    ⟨{ rdDesc with cls := 9 }, run, by decide +kernel⟩,
    ⟨{ rdDesc with ring := 0 }, run, by decide +kernel⟩,
    ⟨rdDesc, sets run [(Reg.GRT_GEOM_BLOCKS, 1)], by decide +kernel⟩⟩

/-- Each clause of FlashIssues has states and operands that meet its hypotheses. -/
theorem wit_flash_issues :
    (∃ (lun : Nat) (aged : List Nat) (d : Desc) (s : State), (s.issueOrder (s.lun lun) aged).find? (fun e => s.lunTakes (s.lun
      lun) e && s.orderOk (s.lun lun) e) = some d ∧ d.lun = lun ∧ d.writes = false ∧ s.aboveWp d = false) ∧
    (∃ (lun : Nat) (aged : List Nat) (d : Desc) (s : State), (s.issueOrder (s.lun lun) aged).find? (fun e => s.lunTakes (s.lun
      lun) e && s.orderOk (s.lun lun) e) = some d ∧ s.waitsJournal d = true ∧ s.vaulting = false) ∧
    (∃ (lun : Nat) (r : FRun) (s : State), (s.lun lun).running = some r ∧ (s.lun lun).suspended = none ∧ r.desc.writes = true ∧
      6 ≤ r.desc.cls ∧ r.desc.noSusp = false ∧ ((s.lun lun).queue.filter Desc.suspender).any (fun d => d.cls == 2) = true) ∧
    (∃ (lun : Nat) (r : FRun) (s : State), (s.lun lun).running = some r ∧ r.desc.cls < 6) :=
   ⟨⟨0, [], rdDesc, { run with flc := { run.flc with luns := [(0, { Lun.none with st := .active, queue := [rdDesc] })] } }, by
     decide +kernel⟩,
    ⟨0, [], { wrDesc with op := 4, cls := 6, slc := true },
      { run with flc := { run.flc with luns := [(0, { Lun.none with st := .active, queue :=
                                                                      [{ wrDesc with op := 4, cls := 6, slc := true }] })] },
                   grt := { run.grt with staged := [⟨1, 0, 0, 0, 0, 0⟩] } }, by decide +kernel⟩,
    ⟨0, ⟨{ wrDesc with cls := 6 }, 0, 0, false, false, false⟩,
      { run with flc := { run.flc with luns := [(0, { Lun.none with st := .active, queue := [rdDesc], running := some
                                                                      ⟨{ wrDesc with cls := 6 }, 0, 0, false, false, false⟩ })]
                                         } }, by decide +kernel⟩,
    ⟨0, ⟨{ wrDesc with cls := 5 }, 0, 0, false, false, false⟩,
      { run with flc := { run.flc with luns := [(0, { Lun.none with st := .active, running := some ⟨{ wrDesc with cls := 5 }, 0,
                                                                      0, false, false, false⟩ })] } }, by decide +kernel⟩⟩

/-- Each clause of FlashEnds has states and operands that meet its hypotheses. -/
theorem wit_flash_ends :
    (∃ (lun best bits zeros us : Nat) (fail : Bool) (r : FRun) (s : State), (s.lun lun).running = some r ∧ r.desc.lun = lun ∧
      r.desc.op = opRead ∧ r.grant = 0 ∧ bits ≤ s.get Reg.FLC_LDPC_CFG_REFRESH_BITS) ∧
    (∃ (lun : Nat) (r : FRun) (s : State), (s.lun lun).running = some r ∧ (s.lun lun).suspended = none ∧ r.desc.reads = true ∧
      r.retried = false ∧ s.vaulting = false ∧ s.get Reg.FLC_IF_CFG_IFACE = 0 ∧ ((s.lun lun).timeouts.length + 1 < s.get
      Reg.FLC_TIMEOUT_CFG_LIMIT)) :=
   ⟨⟨0, 0, 0, 0, 0, false, ⟨rdDesc, 0, 0, false, false, false⟩,
     { run with flc := { run.flc with luns := [(0, { Lun.none with st := .active, running := some ⟨rdDesc, 0, 0, false, false,
                                                                     false⟩ })] } }, by decide +kernel⟩,
    ⟨0, ⟨rdDesc, 0, 0, false, false, false⟩, sets
      { run with flc := { run.flc with luns := [(0, { Lun.none with st := .active, running := some ⟨rdDesc, 0, 0, false, false,
                                                                      false⟩ })] } } [(Reg.FLC_TIMEOUT_CFG_LIMIT, 2)], by
      decide +kernel⟩⟩

/-- Each clause of FlashFaults has states and operands that meet its hypotheses. -/
theorem wit_flash_faults :
    (∃ (r : Requester) (ch : Nat) (s : State), r ≠ .cp3) ∧
    (∃ (ch : Nat) (s : State), ch < 16 ∧ s.get (Reg.FLC_CHn_STATUS_STATE ch) ≠ 0 ∧ s.get (Reg.FLC_CHn_STATUS_STATE ch) ≠ 3 ∧
      s.vaulting = false ∧ lget s.flc.lastFault ch none = none) :=
   ⟨⟨.cp0, 0, run, by decide +kernel⟩,
    ⟨15, sets run [(Reg.FLC_CHn_STATUS_STATE 15, 1)], by decide +kernel⟩⟩

/-- Each clause of StripeLayout has states and operands that meet its hypotheses. -/
theorem wit_stripe_layout :
    (∃ (n d : Nat), d < 15) ∧
    (∃ (n : Nat) (layout : List Nat) (vs : List GVer), vs.length ≤ 4 * (usablePages n layout).length) ∧
    (∃ (n : Nat) (layout : List Nat) (vs : List GVer) (slots : List (Option GVer)), dataPayload vs n layout = .data slots) :=
   ⟨⟨0, 14, by decide +kernel⟩,
    ⟨1, List.range 16, List.replicate 60 (⟨0, .a, 1, 0, false, 0, false, 0, []⟩ : GVer), by decide +kernel⟩,
    ⟨0, [], [], (fillPages (usablePages 0 []) (List.range 15) []), rfl⟩⟩

/-- Each clause of GrottoWork has states and operands that meet its hypotheses. -/
theorem wit_grotto_work :
    (∃ (s : State), s.grt.formatted = true ∧ s.grt.staged ≠ [] ∧ s.flag Reg.SYS_STATUS_SAFE = false ∧ s.grt.gc = none ∧
      s.takesJournal) ∧
    (∃ (serial d k : Nat) (f : Flight) (v w : GVer) (g : Gc) (l : Nat × Nat × Nat) (old : Stripe) (s : State), s.flightOf serial
      = some f ∧ f.writer = .gc ∧ f.waiting = [] ∧ f.failed = [] ∧ s.mapKnown (s.verGran v) = true ∧ s.vaulting = true ∧
      s.grt.gc = some g ∧ d < 15 ∧ (∀ e, e < 15 → e ≠ d → f.stripe.pageVers e = []) ∧ f.stripe.pageVers d = [(k, v)] ∧ (s.ent
      (s.verGran v)).loc = some l ∧ s.stripeOf l.1 = some old ∧ s.verAt l = some w) ∧
    (∃ (g : Gc) (s : State), s.grt.gc = some g ∧ g.stage = 2 ∧ s.erasePending g = false ∧ s.vaulting = true ∧ (∀ n, s.evacuating
      n = false)) :=
   ⟨⟨sets { run with grt := { run.grt with formatted := true, staged := [⟨1, 0, 0, 0, 0, 0⟩], recs := [⟨0, 0, 0, 1, [⟨1, 0,
                                             .head, false⟩]⟩], tbl := [(0, { Blk.fresh with st := .record })] }, flc :=
                       { run.flc with luns := [(0, { Lun.none with st := .active })] } } [(Reg.GRT_GEOM_PAGES, 64),
     (Reg.GRT_GEOM_BLOCKS, 512)], by decide +kernel⟩,
    ⟨1, 0, 0, (⟨(⟨1, 1, 0, 0, 0, 0, 0, [], [], .data [some ⟨0, .a, 1, 0, false, 0, false, 0, []⟩]⟩ : Stripe), .gc, [], [], [],
      1, false⟩ : Flight), (⟨0, .a, 1, 0, false, 0, false, 0, []⟩ : GVer), (⟨0, .a, 1, 0, false, 0, false, 0, []⟩ : GVer), ⟨0,
      [], 1⟩, (0, 0, 0), (⟨0, 0, 0, 0, 0, 0, 0, [], [], .data [some ⟨0, .a, 1, 0, false, 0, false, 0, []⟩]⟩ : Stripe),
      { run with vlt := { run.vlt with cur := some (Vault.start .trip true false) }, grt :=
                   { run.grt with gc := some ⟨0, [], 1⟩, flights := [(⟨(⟨1, 1, 0, 0, 0, 0, 0, [], [], .data [some ⟨0, .a,
                                    1, 0, false, 0, false, 0, []⟩]⟩ : Stripe), .gc, [], [], [], 1, false⟩ : Flight)], stripes :=
                                    [(⟨0, 0, 0, 0, 0, 0, 0, [], [], .data [some ⟨0, .a, 1, 0, false, 0, false, 0, []⟩]⟩ :
                                    Stripe)] }, cache :=
                   { run.cache with map := [(0, ⟨.copied, some (0, 0, 0), false, false⟩)] } }, by decide +kernel⟩,
    ⟨⟨0, [], 2⟩, { run with vlt := { run.vlt with cur := some (Vault.start .trip true false) }, grt :=
                                     { run.grt with gc := some ⟨0, [], 2⟩ } }, ⟨by decide +kernel, by decide +kernel, by
      decide +kernel, by decide +kernel, fun _ => rfl⟩⟩⟩

/-- Each clause of DramMapInjective has states and operands that meet its hypotheses. -/
theorem wit_dram_map_injective :
    (∃ (s : State) (a b : Nat), a < 2 ^ (19 + s.chWidth + s.rkWidth + s.rowWidth) ∧ b < 2 ^ (19 + s.chWidth + s.rkWidth +
      s.rowWidth) ∧ s.dramAddr a = s.dramAddr b) :=
   ⟨run, 2 ^ 35 - 1, 2 ^ 35 - 64, by decide +kernel⟩

/-- Each clause of MemoryLaws has states and operands that meet its hypotheses. -/
theorem wit_memory_laws :
    (∃ (m : List Host.Cell) (a i : Nat) (bs : List Byte) (be : List Bool) (v : Byte), bs[i]? = some v ∧ be[i]? = some true) ∧
    (∃ (m : List Host.Cell) (a x : Nat) (bs : List Byte) (be : List Bool), (x < a ∨ be.getD (x - a) false = false)) :=
   ⟨⟨[], 0, 0, [7], [true], 7, by decide +kernel⟩,
    ⟨[], 1, 1, [7], [false], by decide +kernel⟩⟩

/-- Each clause of DramRequests has states and operands that meet its hypotheses. -/
theorem wit_dram_requests :
    (∃ (p e : Nat), p < 10 ∧ 0 < e ∧ e < 16) ∧
    (∃ (p : DPort) (addr len ns : Nat) (s : State), addr + len ≤ s.capBytes ∧ 0 < len ∧ addr % 64 + len ≤ 64 ∧ s.domOn .dram =
      true ∧ s.submits p = true ∧ s.chFrozen (s.dramAddr (addr / 64 * 64)).ch = false ∧ s.dmc.waiting.any (fun w => w.port == p)
      = false ∧ s.poolRoom p = true) ∧
    (∃ (p : DPort) (addr len ns : Nat) (s : State), addr + len ≤ s.capBytes ∧ 0 < len ∧ addr % 64 + len ≤ 64 ∧ s.domOn .dram =
      true ∧ s.submits p = true ∧ s.chFrozen (s.dramAddr (addr / 64 * 64)).ch = false ∧ s.poolRoom p = false) ∧
    (∃ (p : DPort) (addr len ns : Nat) (s : State), addr % 64 + len ≤ 64 ∧ s.chFrozen (s.dramAddr (addr / 64 * 64)).ch = true) ∧
    (∃ (p : DPort) (write : Bool) (addr len ns : Nat) (s : State), (s.submits p = false ∨ s.capBytes < addr + len)) ∧
    (∃ (sub ns dump rest : Nat) (forbid : List Nat) (r : DReq) (s : State), s.domOn .dram = true ∧ s.dmc.panicDir = 0 ∧
      s.vaulting = false ∧ s.rehearsing = false ∧ s.pmr.st ≠ .restoring ∧ s.restRemain = 0 ∧ s.dmc.pool = [r] ∧ s.dmc.waiting =
      [] ∧ s.dmc.rewrites = [] ∧ r.kind = .read ∧ r.dst.subKey = sub ∧ 0 < s.get Reg.DMC_SCHED_CFG_WR_HI ∧ (s.bank
      r.dst.bankKey).openRow = some r.dst.row ∧ (s.bank r.dst.bankKey).inOrder = [] ∧ mget s.dmc.errs r.burst = none) :=
   ⟨⟨9, 15, by decide +kernel⟩,
    ⟨.host, 64, 64, 0, sets run [(Reg.DMC_GEOM_CAP_GIB, 1)], by decide +kernel⟩,
    ⟨.bg, 0, 1, 0, sets { run with dmc := { run.dmc with pool := List.replicate 1024 ⟨.bg, .read, 0, ⟨0, 0, 0, 0, 0, 0, 0⟩, 0,
                                                           0⟩ } } [(Reg.DMC_GEOM_CAP_GIB, 1)], by decide +kernel⟩,
    ⟨.bg, 0, 64, 0, sets run [(Reg.DMC_FRZ_STATUS_FROZEN, 1)], by decide +kernel⟩,
    ⟨.host, false, 2 ^ 30, 1, 0, sets run [(Reg.DMC_GEOM_CAP_GIB, 1)], by decide +kernel⟩,
    ⟨0, 0, 0, 0, [], ⟨.bg, .read, 0, ⟨0, 0, 0, 0, 0, 0, 0⟩, 0, 0⟩, sets
      { run with dmc := { run.dmc with pool := [⟨.bg, .read, 0, ⟨0, 0, 0, 0, 0, 0, 0⟩, 0, 0⟩], banks := [(0, ⟨some 0, 0, [], [],
                                         0, []⟩)] } } [(Reg.DMC_SCHED_CFG_WR_HI, 1)], by decide +kernel⟩⟩

/-- Each clause of DramUpkeep has states and operands that meet its hypotheses. -/
theorem wit_dram_upkeep :
    (∃ (k row : Nat) (s : State), (s.bank k).openRow = some row ∧ (s.dmc.bankReqs k).any (fun r => r.dst.row == row) = false) ∧
    (∃ (k row : Nat) (s : State), (s.bank k).openRow = some row ∧ (s.dmc.bankReqs k).any (fun r => r.dst.row == row) = true) ∧
    (∃ (s : State), s.domOn .dram = true ∧ s.dmc.panicDir = 0) ∧
    (∃ (s : State), s.domOn .dram = true ∧ s.dmc.panicDir ≠ 0 ∧ s.get Reg.DMC_REF_STATUS_OWED < 4) ∧
    (∃ (s : State), s.domOn .dram = true ∧ s.dmc.panicDir ≠ 0 ∧ 4 ≤ s.get Reg.DMC_REF_STATUS_OWED) ∧
    (∃ (s : State), s.domOn .dram = true ∧ s.dmc.panicDir = 0 ∧ 0 < s.get Reg.DMC_REF_STATUS_OWED ∧ s.get
      Reg.DMC_REF_STATUS_OWED < 8) ∧
    (∃ (sub rank : Nat) (s : State), s.get Reg.DMC_PWR_CFG_PD_IDLE ≠ 0 ∧ s.vaulting = false ∧ s.rehearsing = false ∧
      s.dmc.pool.any (fun r => r.dst.subKey == sub && r.dst.rk == rank) = false ∧ (s.sub sub).pdown.contains rank = false) ∧
    (∃ (above : Bool) (s : State), s.domOn .dram = true) ∧
    (∃ (s : State), s.domOn .dram = true ∧ 15 ≤ s.dmc.mr4Normal) :=
   ⟨⟨0, 0, { run with dmc := { run.dmc with banks := [(0, ⟨some 0, 0, [], [], 0, []⟩)] } }, by decide +kernel⟩,
    ⟨0, 0, { run with dmc := { run.dmc with banks := [(0, ⟨some 0, 0, [], [], 0, []⟩)], pool := [⟨.bg, .read, 0, ⟨0, 0, 0, 0, 0,
                                              0, 0⟩, 0, 0⟩] } }, by decide +kernel⟩,
    ⟨run, by decide +kernel⟩,
    ⟨sets { run with dmc := { run.dmc with panicDir := 1 } } [(Reg.DMC_REF_STATUS_OWED, 3)], by decide +kernel⟩,
    ⟨sets { run with dmc := { run.dmc with panicDir := 1 } } [(Reg.DMC_REF_STATUS_OWED, 4)], by decide +kernel⟩,
    ⟨sets run [(Reg.DMC_REF_STATUS_OWED, 7)], by decide +kernel⟩,
    ⟨0, 0, sets run [(Reg.DMC_PWR_CFG_PD_IDLE, 1)], by decide +kernel⟩,
    ⟨true, run, by decide +kernel⟩,
    ⟨{ run with dmc := { run.dmc with mr4Normal := 15 } }, by decide +kernel⟩⟩

/-- Each clause of DramBackground has states and operands that meet its hypotheses. -/
theorem wit_dram_background :
    (∃ (k : Nat) (q : Position) (s : State), mget s.dmc.pos k = some q) ∧
    (∃ (ns b : Nat) (s : State), s.flag Reg.DMC_SCRUB_CFG_EN = true ∧ s.vaulting = false ∧ s.rehearsing = false ∧ s.dmc.panicDir
      = 0 ∧ s.domOn .dram = true ∧ s.scrubNext s.dmc.scrubAt = some b) ∧
    (∃ (ns : Nat) (s : State), s.flag Reg.DMC_SCRUB_CFG_EN = true ∧ s.vaulting = false ∧ s.rehearsing = false ∧ s.dmc.panicDir =
      0 ∧ s.domOn .dram = true ∧ s.scrubNext s.dmc.scrubAt = none) ∧
    (∃ (sub drift : Nat) (s : State), s.domOn .dram = true ∧ s.dmc.clockWait = none ∧ s.vaulting = false ∧ s.chFrozen (sub / 2)
      = false ∧ s.setFor s.dmc.setsAon s.dramRate = none) ∧
    (∃ (sub drift : Nat) (s : State), s.domOn .dram = true ∧ s.dmc.clockWait = none ∧ s.vaulting = false ∧ s.chFrozen (sub / 2)
      = false ∧ (s.setFor s.dmc.setsAon s.dramRate).isSome = true ∧ drift ≤ 2) ∧
    (∃ (sub drift : Nat) (s : State), s.domOn .dram = true ∧ s.dmc.clockWait = none ∧ s.vaulting = false ∧ s.chFrozen (sub / 2)
      = false ∧ (s.setFor s.dmc.setsAon s.dramRate).isSome = true ∧ 2 < drift ∧ s.dmc.norAt = none) ∧
    (∃ (rate : Nat) (s : State), s.domOn .dram = true ∧ s.dmc.panicDir = 0 ∧ s.get Reg.DMC_REF_STATUS_OWED = 0 ∧ s.vaulting =
      false ∧ s.get Reg.DMC_TRN_STATUS_WINDOW = 0 ∧ rate % 4 ≤ 2 ∧ (s.setFor s.dmc.setsAon (rate % 4)).isSome = true) ∧
    (∃ (rate : Nat) (s : State), s.domOn .dram = true ∧ s.vaulting = true ∧ rate % 4 ≤ 2) :=
   ⟨⟨0, ⟨1, 1, false⟩, { run with dmc := { run.dmc with pos := [(0, ⟨1, 1, false⟩)] } }, by decide +kernel⟩,
    ⟨0, 0, sets { run with cache := { run.cache with map := [(0, ⟨.copied, none, false, false⟩)] } } [(Reg.DMC_SCRUB_CFG_EN,
      1)], by decide +kernel⟩,
    ⟨0, sets run [(Reg.DMC_SCRUB_CFG_EN, 1)], by decide +kernel⟩,
    ⟨0, 2, run, by decide +kernel⟩,
    ⟨0, 2, { run with dmc := { run.dmc with setsAon := [⟨0, run.dramGeom, 5⟩] } }, by decide +kernel⟩,
    ⟨0, 3, { run with dmc := { run.dmc with setsAon := [⟨0, run.dramGeom, 5⟩] } }, by decide +kernel⟩,
    ⟨1, { run with dmc := { run.dmc with setsAon := [⟨1, 0, 0⟩] } }, by decide +kernel⟩,
    ⟨1, { run with vlt := { run.vlt with cur := some (Vault.start .trip true false) } }, by decide +kernel⟩⟩

/-- Each clause of EchoLink has states and operands that meet its hypotheses. -/
theorem wit_echo_link :
    (∃ (rate width : Nat) (s : State), s.domOn .echo = true ∧ s.pair = true ∧ s.echoState = eDown ∧ s.echoRate (rate % 4) (width
      % 4) = true) ∧
    (∃ (rate width : Nat) (s : State), s.echoRate (rate % 4) (width % 4) = false) ∧
    (∃ (s : State), s.domOn .echo = true ∧ s.pair = true ∧ s.echoState = eDown ∧ s.askedOp .phyEcho = false ∧ s.leaveCost
      .phyEcho ≤ s.leaveBudget - s.get Reg.PWR_LEAVE_BUDGET_BASE_MW ∧ (∀ l ∈ s.broker.queue, l.id ≠ s.broker.nextId)) ∧
    (∃ (s : State), s.askedOp .phyEcho = true ∧ s.cache.map.any (fun e => e.2.st == .remote || (e.2.st == .fetching &&
      e.2.fromPeer)) = false) ∧
    (∃ (s : State), s.canRejoin = false ∧ s.flag Reg.ECH_LINK_UP = true) ∧
    (∃ (s : State), s.canRejoin = true) ∧
    (∃ (s : State) (rx : Rx) (ty flags arg len : Nat) (act : State → State), s.sessionUp = true ∧ (rx.lseq ≠ s.ech.expSeq % 2 ^
      32 ∨ rx.tagOk = false) ∧ (s.ech.discarding = false ∨ rx.lseq = s.ech.expSeq % 2 ^ 32)) ∧
    (∃ (s : State) (rx : Rx) (ty flags arg len : Nat) (act : State → State), s.ech.discarding = true ∧ rx.lseq ≠ s.ech.expSeq %
      2 ^ 32) ∧
    (∃ (s : State) (rx : Rx) (ty flags arg len : Nat) (act : State → State), s.sessionUp = true ∧ rx.lseq = s.ech.expSeq % 2 ^
      32 ∧ rx.tagOk = true ∧ rx.malformed = true) ∧
    (∃ (s : State) (rx : Rx) (ty flags arg len : Nat) (act : State → State), s.sessionUp = false) :=
   ⟨⟨2, 2, sets run [(Reg.ECH_STATUS_PAIR_MODE, 1), (Reg.ECH_STATUS_STATE, 0)], by decide +kernel⟩,
    ⟨0, 0, sets run [(Reg.ECH_STATUS_PAIR_MODE, 1), (Reg.ECH_STATUS_STATE, 0)], by decide +kernel⟩,
    ⟨sets run [(Reg.ECH_STATUS_PAIR_MODE, 1), (Reg.ECH_STATUS_STATE, 0)], by decide +kernel⟩,
    ⟨{ run with broker := { run.broker with held := [⟨0, .phyEcho, 0, false⟩] } }, by decide +kernel⟩,
    ⟨sets run [(Reg.ECH_LINK_UP, 1)], by decide +kernel⟩,
    ⟨sets run [(Reg.ECH_STATUS_PAIR_MODE, 1), (Reg.ECH_STATUS_STATE, 5)], by decide +kernel⟩,
    ⟨sets run [(Reg.ECH_STATUS_PAIR_MODE, 1), (Reg.ECH_STATUS_STATE, 3)], ⟨1, true, false⟩, 0, 0, 0, 0, id, by decide +kernel⟩,
    ⟨sets { run with ech := { run.ech with discarding := true } } [(Reg.ECH_STATUS_PAIR_MODE, 1), (Reg.ECH_STATUS_STATE, 3)],
      ⟨1, true, false⟩, 0, 0, 0, 0, id, by decide +kernel⟩,
    ⟨sets run [(Reg.ECH_STATUS_PAIR_MODE, 1), (Reg.ECH_STATUS_STATE, 3)], ⟨0, true, true⟩, 0, 0, 0, 0, id, by decide +kernel⟩,
    ⟨run, ⟨0, true, true⟩, 0, 0, 0, 0, id, by decide +kernel⟩⟩

/-- Each clause of EchoPairs has states and operands that meet its hypotheses. -/
theorem wit_echo_pairs :
    (∃ (nonce proto owner stepping cap uid pairId session : Nat) (resume : Bool) (s : State), s.Pairing ∧ s.ech.hello = none ∧
      s.ech.proofOk = false) ∧
    (∃ (nonce proto owner stepping cap uid pairId session : Nat) (resume : Bool) (s : State), s.Pairing ∧ s.ech.hello = none) ∧
    (∃ (s : State), s.Pairing) ∧
    (∃ (s : State), s.Pairing ∧ s.ech.hello = none) ∧
    (∃ (h : Hello) (i : Image) (s : State), s.Pairing ∧ s.ech.hello = some h ∧ s.boot.running = some i ∧ h.pairId = i.pairId ∧
      h.proto = 1 ∧ h.owner ≠ s.owner.idx ∧ h.cap = s.capGiB ∧ s.ech.peerId = some h.uid ∧ h.resume = false ∧ s.ech.resume =
      false ∧ s.ech.vinfoPeer = none) :=
   ⟨⟨0, 1, 1, 0, 1, 9, 7, 4, false, sets run [(Reg.ECH_STATUS_PAIR_MODE, 1), (Reg.ECH_STATUS_STATE, 1), (Reg.ECH_LINK_UP, 1)],
     by decide +kernel⟩,
    ⟨0, 1, 1, 0, 1, 9, 7, 4, false, sets run [(Reg.ECH_STATUS_PAIR_MODE, 1), (Reg.ECH_STATUS_STATE, 1), (Reg.ECH_LINK_UP, 1)],
      by decide +kernel⟩,
    ⟨sets run [(Reg.ECH_STATUS_PAIR_MODE, 1), (Reg.ECH_STATUS_STATE, 1), (Reg.ECH_LINK_UP, 1)], by decide +kernel⟩,
    ⟨sets run [(Reg.ECH_STATUS_PAIR_MODE, 1), (Reg.ECH_STATUS_STATE, 1), (Reg.ECH_LINK_UP, 1)], by decide +kernel⟩,
    ⟨⟨0, 1, 1, 0, false, 1, 9, 7, 4⟩, img, sets
      { run with ech := { run.ech with hello := some ⟨0, 1, 1, 0, false, 1, 9, 7, 4⟩, peerId := some 9 }, boot :=
                   { run.boot with running := some img } } [(Reg.ECH_STATUS_PAIR_MODE, 1), (Reg.ECH_STATUS_STATE, 1),
      (Reg.DMC_GEOM_CAP_GIB, 1), (Reg.ECH_LINK_UP, 1)], by decide +kernel⟩⟩

/-- Each clause of MirrorWrites has states and operands that meet its hypotheses. -/
theorem wit_mirror_writes :
    (∃ (rx : Rx) (off low epoch g : Nat) (data : List Byte) (be : List Bool) (s : State), s.Accepts rx ∧ s.streaming = true ∧
      s.vaulting = false ∧ s.ech.peerEpoch = some epoch ∧ s.ech.restart = false ∧ s.ech.expWrite < 2 ^ 64 ∧ inferSeq
      (s.ech.expWrite - 1) (low % 2 ^ 24) = s.ech.expWrite ∧ off + data.length ≤ s.ownGrans * 4096 ∧ off % 4096 + data.length ≤
      4096 ∧ g = s.granOf s.owner.other (off / 4096) ∧ s.granFrozen g = false ∧ (s.gran g).dirty = true ∧ (s.ent g).st = .copied
      ∧ mget s.pmr.poison g = none ∧ s.dramClean = true ∧ s.ech.mwrWait = [] ∧ s.ech.pendAck < 63 ∧ s.ech.fwdIn = []) ∧
    (∃ (rx : Rx) (off low epoch : Nat) (data : List Byte) (be : List Bool) (w : MirWrite) (ws : List MirWrite) (s : State),
      s.Accepts rx ∧ s.streaming = true ∧ s.vaulting = false ∧ s.ech.peerEpoch = some epoch ∧ s.ech.restart = false ∧ inferSeq
      (s.ech.expWrite - 1) (low % 2 ^ 24) = s.ech.expWrite ∧ off + data.length ≤ s.ownGrans * 4096 ∧ off % 4096 + data.length ≤
      4096 ∧ s.ech.mwrWait = w :: ws) ∧
    (∃ (rx : Rx) (off low epoch : Nat) (data : List Byte) (be : List Bool) (s : State), s.Accepts rx ∧ s.streaming = true ∧
      s.vaulting = false ∧ s.ech.peerEpoch = some epoch ∧ s.ech.restart = false ∧ inferSeq (s.ech.expWrite - 1) (low % 2 ^ 24) ≠
      s.ech.expWrite) ∧
    (∃ (rx : Rx) (off low epoch : Nat) (data : List Byte) (be : List Bool) (s : State), s.Accepts rx ∧ s.streaming = true ∧
      s.vaulting = false ∧ s.ech.peerEpoch = some epoch ∧ s.ech.restart = true ∧ s.ownGrans * 4096 < off + data.length) :=
   ⟨⟨⟨0, true, false⟩, 0, 1, 5, 130944, [7], [true], sets
     { run with ech := { run.ech with peerEpoch := some 5, restart := false, expWrite := 1 }, cache :=
                  { run.cache with grans := [(130944, ⟨true, false, 0, 0⟩)], map := [(130944, ⟨.copied, none, false, false⟩)] }
                  } [(Reg.ECH_STATUS_PAIR_MODE, 1), (Reg.ECH_STATUS_STATE, 3), (Reg.DMC_GEOM_CAP_GIB, 1)], by decide +kernel⟩,
    ⟨⟨0, true, false⟩, 0, 1, 5, [7], [true], ⟨1, 0, [7], [true], 1, 5, [], 0⟩, [], sets
      { run with ech := { run.ech with peerEpoch := some 5, restart := false, expWrite := 1, mwrWait := [⟨1, 0, [7], [true], 1,
                                         5, [], 0⟩] } } [(Reg.ECH_STATUS_PAIR_MODE, 1), (Reg.ECH_STATUS_STATE, 3),
      (Reg.DMC_GEOM_CAP_GIB, 1)], by decide +kernel⟩,
    ⟨⟨0, true, false⟩, 0, 2, 5, [7], [true], sets
      { run with ech := { run.ech with peerEpoch := some 5, restart := false, expWrite := 1 } } [(Reg.ECH_STATUS_PAIR_MODE, 1),
      (Reg.ECH_STATUS_STATE, 3), (Reg.DMC_GEOM_CAP_GIB, 1)], by decide +kernel⟩,
    ⟨⟨0, true, false⟩, 2 ^ 40, 2, 5, [7], [true], sets { run with ech := { run.ech with peerEpoch := some 5 } }
      [(Reg.ECH_STATUS_PAIR_MODE, 1), (Reg.ECH_STATUS_STATE, 3), (Reg.DMC_GEOM_CAP_GIB, 1)], by decide +kernel⟩⟩

/-- Each clause of EchoStreams has states and operands that meet its hypotheses. -/
theorem wit_echo_streams :
    (∃ (rx : Rx) (e : Nat) (s : State), s.Accepts rx ∧ s.ech.epochFree = true) ∧
    (∃ (rx : Rx) (e0 : Nat) (s : State), s.Accepts rx ∧ s.ech.epochFree = false ∧ s.ech.peerEpoch = some e0) ∧
    (∃ (rx : Rx) (e e0 : Nat) (s : State), s.Accepts rx ∧ s.ech.epochFree = false ∧ s.ech.peerEpoch = some e0 ∧ e ≠ (e0 + 1) % 2
      ^ 32) ∧
    (∃ (rx : Rx) (ns : Bool) (arg epoch dirtied rtt : Nat) (s : State), s.Accepts rx ∧ s.streaming = true ∧ arg < 2 ^ 64 ∧ s.get
      Reg.ECH_SEQ_ACKED_SEQ ≤ arg ∧ arg ≤ s.get Reg.ECH_SEQ_SENT_SEQ ∧ s.ech.epochAt arg = some epoch ∧ s.ech.dirtied ≤ dirtied
      ∧ dirtied ≤ s.ech.mwrSent - (s.ech.unacked.filter (fun w => decide (arg < w.seq))).length + s.ech.rsSent ∧ s.ech.rsEnd =
      none) ∧
    (∃ (rx : Rx) (ns : Bool) (arg epoch dirtied rtt : Nat) (s : State), s.Accepts rx ∧ s.streaming = true ∧ s.get
      Reg.ECH_SEQ_SENT_SEQ < arg) ∧
    (∃ (rx : Rx) (n : Nat) (s : State), s.Accepts rx ∧ s.ech.allowTotal ≤ n) ∧
    (∃ (rx : Rx) (n : Nat) (s : State), s.Accepts rx ∧ n < s.ech.allowTotal) ∧
    (∃ (rx : Rx) (w : Nat) (s : State), s.Accepts rx ∧ bitOf w 5 = false ∧ bitOf w 7 = false ∧ bitOf w 12 = false ∧ bitOf w 13 =
      false ∧ bitsOf w 0 3 < 3) ∧
    (∃ (rx : Rx) (w : Nat) (s : State), s.Accepts rx ∧ bitOf w 7 = true) :=
   ⟨⟨⟨0, true, false⟩, 5, sets run [(Reg.ECH_STATUS_PAIR_MODE, 1), (Reg.ECH_STATUS_STATE, 3), (Reg.DMC_GEOM_CAP_GIB, 1)], by
     decide +kernel⟩,
    ⟨⟨0, true, false⟩, 5, sets { run with ech := { run.ech with peerEpoch := some 5, epochFree := false } }
      [(Reg.ECH_STATUS_PAIR_MODE, 1), (Reg.ECH_STATUS_STATE, 3), (Reg.DMC_GEOM_CAP_GIB, 1)], by decide +kernel⟩,
    ⟨⟨0, true, false⟩, 5, 5, sets { run with ech := { run.ech with peerEpoch := some 5, epochFree := false } }
      [(Reg.ECH_STATUS_PAIR_MODE, 1), (Reg.ECH_STATUS_STATE, 3), (Reg.DMC_GEOM_CAP_GIB, 1)], by decide +kernel⟩,
    ⟨⟨0, true, false⟩, false, 2, 5, 1, 0, sets
      { run with ech := { run.ech with epochHist := [(1, 5)], mwrSent := 2, unacked := [⟨2, 0⟩] } } [(Reg.ECH_STATUS_PAIR_MODE,
      1), (Reg.ECH_STATUS_STATE, 3), (Reg.DMC_GEOM_CAP_GIB, 1), (Reg.ECH_SEQ_SENT_SEQ, 2), (Reg.ECH_SEQ_ACKED_SEQ, 1)], by
      decide +kernel⟩,
    ⟨⟨0, true, false⟩, false, 3, 5, 1, 0, sets run [(Reg.ECH_STATUS_PAIR_MODE, 1), (Reg.ECH_STATUS_STATE, 3),
      (Reg.DMC_GEOM_CAP_GIB, 1), (Reg.ECH_SEQ_SENT_SEQ, 2)], by decide +kernel⟩,
    ⟨⟨0, true, false⟩, 5, sets { run with ech := { run.ech with allowTotal := 5 } } [(Reg.ECH_STATUS_PAIR_MODE, 1),
      (Reg.ECH_STATUS_STATE, 3), (Reg.DMC_GEOM_CAP_GIB, 1)], by decide +kernel⟩,
    ⟨⟨0, true, false⟩, 4, sets { run with ech := { run.ech with allowTotal := 5 } } [(Reg.ECH_STATUS_PAIR_MODE, 1),
      (Reg.ECH_STATUS_STATE, 3), (Reg.DMC_GEOM_CAP_GIB, 1)], by decide +kernel⟩,
    ⟨⟨0, true, false⟩, 2, sets run [(Reg.ECH_STATUS_PAIR_MODE, 1), (Reg.ECH_STATUS_STATE, 3), (Reg.DMC_GEOM_CAP_GIB, 1)], by
      decide +kernel⟩,
    ⟨⟨0, true, false⟩, 128, sets run [(Reg.ECH_STATUS_PAIR_MODE, 1), (Reg.ECH_STATUS_STATE, 3), (Reg.DMC_GEOM_CAP_GIB, 1)], by
      decide +kernel⟩⟩

/-- Each clause of EchoReads has states and operands that meet its hypotheses. -/
theorem wit_echo_reads :
    (∃ (rx : Rx) (off tag len order : Nat) (s : State), s.Accepts rx ∧ s.ech.fwdIn = [] ∧ s.get Reg.ECH_SEQ_STORED_SEQ < order)
      ∧
    (∃ (rx : Rx) (off tag len order g : Nat) (s : State), s.Accepts rx ∧ s.ech.fwdIn = [] ∧ len ≤ 512 ∧ order ≤ s.get
      Reg.ECH_SEQ_STORED_SEQ ∧ g = s.granOf s.owner.other (off / 4096) ∧ s.granFrozen g = false ∧ (s.ent g).st = .copied ∧
      s.errsIn (g * 4096 + off % 4096) len = []) ∧
    (∃ (rx : Rx) (off tag : Nat) (data : List Byte) (f : Fwd) (s : State), s.Accepts rx ∧ s.ech.fwds.find? (fun x => x.tag ==
      tag && x.off + x.got.length == off) = some f ∧ s.ech.fwdWait = []) ∧
    (∃ (rx : Rx) (off tag : Nat) (last poison na : Bool) (data : List Byte) (s : State), s.Accepts rx ∧ s.ech.fwds.find? (fun x
      => x.tag == tag && x.off + x.got.length == off) = none) ∧
    (∃ (rx : Rx) (gran tag purpose g : Nat) (s : State), s.Accepts rx ∧ s.ech.greqIn = [] ∧ g = s.granOf s.owner.other gran ∧
      s.granFrozen g = false ∧ (s.ent g).st = .copied ∧ s.errsIn (g * 4096) 4096 = []) :=
   ⟨⟨⟨0, true, false⟩, 0, 1, 4, 2, sets run [(Reg.ECH_STATUS_PAIR_MODE, 1), (Reg.ECH_STATUS_STATE, 3), (Reg.DMC_GEOM_CAP_GIB,
     1), (Reg.ECH_SEQ_STORED_SEQ, 1)], by decide +kernel⟩,
    ⟨⟨0, true, false⟩, 0, 1, 4, 2, 130944, sets
      { run with cache := { run.cache with map := [(130944, ⟨.copied, none, false, false⟩)] } } [(Reg.ECH_STATUS_PAIR_MODE, 1),
      (Reg.ECH_STATUS_STATE, 3), (Reg.DMC_GEOM_CAP_GIB, 1), (Reg.ECH_SEQ_STORED_SEQ, 2)], by decide +kernel⟩,
    ⟨⟨0, true, false⟩, 3, 1, [7], ⟨1, .a, 0, 4, [1, 2, 3]⟩, sets
      { run with ech := { run.ech with fwds := [⟨1, .a, 0, 4, [1, 2, 3]⟩] } } [(Reg.ECH_STATUS_PAIR_MODE, 1),
      (Reg.ECH_STATUS_STATE, 3), (Reg.DMC_GEOM_CAP_GIB, 1)], by decide +kernel⟩,
    ⟨⟨0, true, false⟩, 0, 1, true, false, false, [7], sets run [(Reg.ECH_STATUS_PAIR_MODE, 1), (Reg.ECH_STATUS_STATE, 3),
      (Reg.DMC_GEOM_CAP_GIB, 1)], by decide +kernel⟩,
    ⟨⟨0, true, false⟩, 0, 1, 1, 130944, sets
      { run with cache := { run.cache with map := [(130944, ⟨.copied, none, false, false⟩)] } } [(Reg.ECH_STATUS_PAIR_MODE, 1),
      (Reg.ECH_STATUS_STATE, 3), (Reg.DMC_GEOM_CAP_GIB, 1)], by decide +kernel⟩⟩

/-- Each clause of EchoResync has states and operands that meet its hypotheses. -/
theorem wit_echo_resync :
    (∃ (rx : Rx) (gran tag part : Nat) (data : List Byte) (s : State), s.Accepts rx ∧ s.ech.peerRs = true) ∧
    (∃ (rx : Rx) (gran tag seq epoch sectors us g : Nat) (s : State), s.Accepts rx ∧ s.ech.peerRs = true ∧ s.vaulting = false ∧
      s.streaming = true ∧ g = s.granOf s.owner.other gran ∧ s.granFrozen g = false ∧ (s.gran g).dirty = true ∧ s.dramClean =
      true ∧ s.pmr.waitReads = [] ∧ s.ech.fwdIn = [] ∧ s.ech.mwrWait = [] ∧ s.ech.pendRs < 63) ∧
    (∃ (rx : Rx) (gran tag seq epoch fl sectors us g : Nat) (s : State), s.Accepts rx ∧ s.ech.peerRs = true ∧ s.vaulting = false
      ∧ s.streaming = true ∧ g = s.granOf s.owner.other gran ∧ s.granFrozen g = false ∧ s.dramClean = true ∧ s.pmr.waitReads =
      [] ∧ s.ech.fwdIn = [] ∧ s.ech.mwrWait = [] ∧ s.ech.pendRs < 63) ∧
    (∃ (rx : Rx) (sEnd count : Nat) (s : State), s.Accepts rx) ∧
    (∃ (rx : Rx) (sEnd count e : Nat) (s : State), s.Accepts rx ∧ s.ech.peerEpoch = some e ∧ s.ech.fwdIn = [] ∧ sEnd < 2 ^ 64 ∧
      s.get Reg.ECH_SEQ_STORED_SEQ ≤ sEnd) ∧
    (∃ (rx : Rx) (sEnd count : Nat) (s : State), s.Accepts rx) :=
   ⟨⟨⟨0, true, false⟩, 0, 1, 3, [7], sets { run with ech := { run.ech with peerRs := true } } [(Reg.ECH_STATUS_PAIR_MODE, 1),
     (Reg.ECH_STATUS_STATE, 2), (Reg.DMC_GEOM_CAP_GIB, 1)], by decide +kernel⟩,
    ⟨⟨0, true, false⟩, 0, 1, 3, 5, 255, 0, 130944, sets
      { run with ech := { run.ech with peerRs := true }, cache := { run.cache with grans := [(130944, ⟨true, false, 0, 0⟩)] } }
      [(Reg.ECH_STATUS_PAIR_MODE, 1), (Reg.ECH_STATUS_STATE, 2), (Reg.DMC_GEOM_CAP_GIB, 1)], by decide +kernel⟩,
    ⟨⟨0, true, false⟩, 0, 1, 3, 5, 0, 0, 0, 130944, sets { run with ech := { run.ech with peerRs := true } }
      [(Reg.ECH_STATUS_PAIR_MODE, 1), (Reg.ECH_STATUS_STATE, 2), (Reg.DMC_GEOM_CAP_GIB, 1)], by decide +kernel⟩,
    ⟨⟨0, true, false⟩, 0, 0, sets run [(Reg.ECH_STATUS_PAIR_MODE, 1), (Reg.ECH_STATUS_STATE, 2), (Reg.DMC_GEOM_CAP_GIB, 1)], by
      decide +kernel⟩,
    ⟨⟨0, true, false⟩, 7, 0, 5, sets { run with ech := { run.ech with peerRs := true, peerEpoch := some 5 } }
      [(Reg.ECH_STATUS_PAIR_MODE, 1), (Reg.ECH_STATUS_STATE, 2), (Reg.DMC_GEOM_CAP_GIB, 1), (Reg.ECH_SEQ_STORED_SEQ, 7)], by
      decide +kernel⟩,
    ⟨⟨0, true, false⟩, 0, 0, sets { run with ech := { run.ech with peerRs := true } } [(Reg.ECH_STATUS_PAIR_MODE, 1),
      (Reg.ECH_STATUS_STATE, 2), (Reg.DMC_GEOM_CAP_GIB, 1)], by decide +kernel⟩⟩

/-- Each clause of EchoTimers has states and operands that meet its hypotheses. -/
theorem wit_echo_timers :
    (∃ (ctl lseq freed : Nat) (s : State), s.sessionUp = true ∧ s.ech.ctlSeen < ctl) ∧
    (∃ (ctl lseq freed : Nat) (nak : Bool) (s : State), ctl ≤ s.ech.ctlSeen) ∧
    (∃ (s : State), s.sessionUp = true ∧ s.ech.pendRs = 0 ∧ 0 < s.ech.pendAck) ∧
    (∃ (s : State), s.sessionUp = true) ∧
    (∃ (s : State), s.sessionUp = true ∧ s.ech.ackDue = true) ∧
    (∃ (s : State), s.sessionUp = true) ∧
    (∃ (s : State), s.sessionUp = true) ∧
    (∃ (s : State), s.streaming = true) ∧
    (∃ (s : State), s.echoState = eLapsed ∧ s.ech.peerSteady = true ∧ s.lowestZone.isSome = true) ∧
    (∃ (s : State), s.echoState = eHeld ∧ s.ech.heldUntilRejoin = false) ∧
    (∃ (s : State), s.echoState = eHeld ∧ s.ech.heldUntilRejoin = true) ∧
    (∃ (s : State), s.echoState = eRefused) ∧
    (∃ (z : Nat) (s : State), s.ech.rsActive = true ∧ s.streaming = true ∧ s.domOn .echo = true ∧ s.lowestZone = some z ∧
      s.ech.rsNext < z * 256 ∧ s.granFrozen (z * 256) = false ∧ (s.ent (z * 256)).st = .copied ∧ 0 < s.peerIn ∧ s.ech.noRoom (8
      * 536 + 40) (8 * 9 + 1) = false ∧ s.errsIn (z * 256 * 4096) 4096 = [] ∧ z * 256 + 1 < s.ownGrans) :=
   ⟨⟨1, 0, 4, sets { run with ech := { run.ech with replay := [⟨0, 1, 0, 0, []⟩, ⟨1, 1, 0, 0, []⟩] } }
     [(Reg.ECH_STATUS_PAIR_MODE, 1), (Reg.ECH_STATUS_STATE, 3), (Reg.DMC_GEOM_CAP_GIB, 1)], by decide +kernel⟩,
    ⟨1, 0, 4, false, sets { run with ech := { run.ech with ctlSeen := 1 } } [(Reg.ECH_STATUS_PAIR_MODE, 1),
      (Reg.ECH_STATUS_STATE, 3), (Reg.DMC_GEOM_CAP_GIB, 1)], by decide +kernel⟩,
    ⟨sets { run with ech := { run.ech with pendAck := 1 } } [(Reg.ECH_STATUS_PAIR_MODE, 1), (Reg.ECH_STATUS_STATE, 3),
      (Reg.DMC_GEOM_CAP_GIB, 1)], by decide +kernel⟩,
    ⟨sets run [(Reg.ECH_STATUS_PAIR_MODE, 1), (Reg.ECH_STATUS_STATE, 3), (Reg.DMC_GEOM_CAP_GIB, 1)], by decide +kernel⟩,
    ⟨sets { run with ech := { run.ech with ackDue := true } } [(Reg.ECH_STATUS_PAIR_MODE, 1), (Reg.ECH_STATUS_STATE, 3),
      (Reg.DMC_GEOM_CAP_GIB, 1)], by decide +kernel⟩,
    ⟨sets run [(Reg.ECH_STATUS_PAIR_MODE, 1), (Reg.ECH_STATUS_STATE, 3), (Reg.DMC_GEOM_CAP_GIB, 1)], by decide +kernel⟩,
    ⟨sets run [(Reg.ECH_STATUS_PAIR_MODE, 1), (Reg.ECH_STATUS_STATE, 3), (Reg.DMC_GEOM_CAP_GIB, 1)], by decide +kernel⟩,
    ⟨sets run [(Reg.ECH_STATUS_PAIR_MODE, 1), (Reg.ECH_STATUS_STATE, 3), (Reg.DMC_GEOM_CAP_GIB, 1)], by decide +kernel⟩,
    ⟨sets { run with ech := { run.ech with allFrom := some 0 } } [(Reg.ECH_STATUS_PAIR_MODE, 1), (Reg.ECH_STATUS_STATE, 4),
      (Reg.DMC_GEOM_CAP_GIB, 1)], by decide +kernel⟩,
    ⟨sets run [(Reg.ECH_STATUS_PAIR_MODE, 1), (Reg.ECH_STATUS_STATE, 5), (Reg.DMC_GEOM_CAP_GIB, 1)], by decide +kernel⟩,
    ⟨sets { run with ech := { run.ech with heldUntilRejoin := true } } [(Reg.ECH_STATUS_PAIR_MODE, 1), (Reg.ECH_STATUS_STATE,
      5), (Reg.DMC_GEOM_CAP_GIB, 1)], by decide +kernel⟩,
    ⟨sets run [(Reg.ECH_STATUS_PAIR_MODE, 1), (Reg.ECH_STATUS_STATE, 6), (Reg.DMC_GEOM_CAP_GIB, 1)], by decide +kernel⟩,
    ⟨1, sets { run with ech := { run.ech with rsActive := true, allFrom := some 1, rsNext := 0, allowTotal := 1 }, cache :=
                          { run.cache with map := [(256, ⟨.copied, none, false, false⟩)] } } [(Reg.ECH_STATUS_PAIR_MODE, 1),
      (Reg.ECH_STATUS_STATE, 2), (Reg.DMC_GEOM_CAP_GIB, 1)], by decide +kernel⟩⟩

/-- Each clause of MirrorView has states and operands that meet its hypotheses. -/
theorem wit_mirror_view :
    (∃ (rx : Rx) (own mirror : VBlock) (s : State), s.Accepts rx ∧ s.ech.vinfoOwn = none ∧ s.echoState ≠ eSync) ∧
    (∃ (rx : Rx) (own mirror : VBlock) (s : State), s.Accepts rx ∧ s.ech.vinfoOwn = none ∧ s.echoState = eSync ∧ s.ech.vinfoSent
      = true ∧ s.pmr.st ≠ .closed ∧ s.ech.rsActive = false ∧ s.ech.rsEnd = none ∧ s.ech.newPeer = true ∧ 0 < s.ownZones) ∧
    (∃ (rx : Rx) (start : Nat) (b : VBlock × VBlock) (s : State), s.Accepts rx ∧ s.ech.vinfoPeer = some b ∧ s.ech.needVtab =
      true ∧ start = s.ech.vtabNext ∧ start < s.ownGrans) ∧
    (∃ (rx : Rx) (start : Nat) (es : List (Nat × Bool)) (b : VBlock × VBlock) (s : State), s.Accepts rx ∧ s.ech.vinfoPeer = some
      b ∧ start ≠ s.ech.vtabNext) ∧
    (∃ (p : Port) (addr len g : Nat) (s : State), s.Claims p ∧ s.pair = true ∧ s.flag Reg.ECH_CTRL_MVIEW_EN = true ∧ addr + len
      ≤ s.ownGrans * 4096 ∧ g = (s.ownGrans * 4096 + addr) / 4096 ∧ s.granFrozen g = false ∧ (s.ent g).st = .copied ∧ s.errsIn
      (s.ownGrans * 4096 + addr) len = []) ∧
    (∃ (p : Port) (s : State), s.Claims p) :=
   ⟨⟨⟨0, true, false⟩, VBlock.none, VBlock.none, sets run [(Reg.ECH_STATUS_PAIR_MODE, 1), (Reg.ECH_STATUS_STATE, 3),
     (Reg.DMC_GEOM_CAP_GIB, 1)], by decide +kernel⟩,
    ⟨⟨0, true, false⟩, VBlock.none, VBlock.none, sets
      { run with ech := { run.ech with vinfoSent := true, newPeer := true }, pmr := { run.pmr with st := .opened } }
      [(Reg.ECH_STATUS_PAIR_MODE, 1), (Reg.ECH_STATUS_STATE, 2), (Reg.DMC_GEOM_CAP_GIB, 1)], by decide +kernel⟩,
    ⟨⟨0, true, false⟩, 0, (VBlock.none, VBlock.none), sets
      { run with ech := { run.ech with vinfoPeer := some (VBlock.none, VBlock.none), needVtab := true } }
      [(Reg.ECH_STATUS_PAIR_MODE, 1), (Reg.ECH_STATUS_STATE, 2), (Reg.DMC_GEOM_CAP_GIB, 1)], by decide +kernel⟩,
    ⟨⟨0, true, false⟩, 1, [], (VBlock.none, VBlock.none), sets
      { run with ech := { run.ech with vinfoPeer := some (VBlock.none, VBlock.none) } } [(Reg.ECH_STATUS_PAIR_MODE, 1),
      (Reg.ECH_STATUS_STATE, 2), (Reg.DMC_GEOM_CAP_GIB, 1)], by decide +kernel⟩,
    ⟨.a, 0, 4, 130944, sets { run with cache := { run.cache with map := [(130944, ⟨.copied, none, false, false⟩)] } }
      [(Reg.ECH_STATUS_PAIR_MODE, 1), (Reg.ECH_STATUS_STATE, 3), (Reg.DMC_GEOM_CAP_GIB, 1), (Reg.ECH_CTRL_MVIEW_EN, 1)], by
      decide +kernel⟩,
    ⟨.a, run, by decide +kernel⟩⟩

/-- Each clause of RailScan has states and operands that meet its hypotheses. -/
theorem wit_rail_scan :
    (∃ (n code : Nat) (s : State), s.domOn .sup = true ∧ n < 64 ∧ 0 < n ∧ s.railUsed n = false) ∧
    (∃ (n code : Nat) (s : State), s.domOn .sup = true ∧ n < 64 ∧ 0 < n ∧ s.railUsed n = true ∧ s.rails.wait = .none ∧ s.uvOn n
      = true ∧ s.flag Reg.SUP_STATUS_VAULT_SUPPRESS = false ∧ code < s.get (Reg.SUP_CHn_THR_UV n) ∧ code ≤ s.get
      (Reg.SUP_CHn_THR_OV n) ∧ (s.chan n).uvConf = false ∧ (s.chan n).uvCnt + 1 < s.get Reg.SUP_SCAN_CFG_FILT) ∧
    (∃ (n code : Nat) (s : State), s.domOn .sup = true ∧ n < 64 ∧ 0 < n ∧ s.railUsed n = true ∧ s.rails.wait = .none ∧ s.uvOn n
      = true ∧ s.flag Reg.SUP_STATUS_VAULT_SUPPRESS = false ∧ code < s.get (Reg.SUP_CHn_THR_UV n) ∧ code ≤ s.get
      (Reg.SUP_CHn_THR_OV n) ∧ (s.chan n).uvConf = false ∧ (s.chan n).uvCnt + 1 = s.get Reg.SUP_SCAN_CFG_FILT ∧ s.get
      (Reg.SUP_CHn_CFG_UV_ACT n) = 1) :=
   ⟨⟨1, 5, run, by decide +kernel⟩,
    ⟨1, 9, sets run [((Reg.SUP_CHn_CFG_GROUP 1), 1), ((Reg.SUP_CHn_VAL_EN 1), 1), ((Reg.SUP_CHn_THR_UV 1), 10),
      ((Reg.SUP_CHn_THR_OV 1), 20), ((Reg.SUP_CHn_CFG_UV_ACT 1), 1), (Reg.SUP_SCAN_CFG_FILT, 2)], by decide +kernel⟩,
    ⟨1, 9, sets run [((Reg.SUP_CHn_CFG_GROUP 1), 1), ((Reg.SUP_CHn_VAL_EN 1), 1), ((Reg.SUP_CHn_THR_UV 1), 10),
      ((Reg.SUP_CHn_THR_OV 1), 20), ((Reg.SUP_CHn_CFG_UV_ACT 1), 1), (Reg.SUP_SCAN_CFG_FILT, 1)], by decide +kernel⟩⟩

/-- Each clause of RailGroups has states and operands that meet its hypotheses. -/
theorem wit_rail_groups :
    (∃ (s : State), s.rails.wait = .ready ∧ (s.walkRails s.rails.reached).all s.railReady = true ∧ s.rails.upLatched = false) ∧
    (∃ (n : Nat) (s : State), s.rails.wait = .ready ∧ s.seqState = seqUp ∧ n ∈ s.walkRails s.rails.reached ∧ s.railReady n =
      false ∧ 2 ≤ s.get (Reg.SUP_CHn_CFG_UV_ACT n)) ∧
    (∃ (s : State), s.rails.wait = .delayUp ∧ s.rails.inTransition = false ∧ s.boot.startStep ≠ 2 ∧ s.rails.reached <
      s.lastGroup) ∧
    (∃ (s : State), s.rails.wait = .off) ∧
    (∃ (s : State), s.rails.wait = .delayDown ∧ s.rails.inTransition = false ∧ 0 < s.rails.reached) ∧
    (∃ (s : State), s.seqState = seqRetryWait ∧ s.get Reg.SUP_SEQ_STATUS_ATTEMPT < 7) :=
   ⟨⟨{ run with rails := { run.rails with wait := .ready } }, by decide +kernel⟩,
    ⟨1, sets { run with rails := { run.rails with wait := .ready, reached := 1 } } [(Reg.SUP_SEQ_STATUS_STATE, 1),
      ((Reg.SUP_CHn_CFG_GROUP 1), 1), ((Reg.SUP_CHn_CFG_UV_ACT 1), 2)], by decide +kernel⟩,
    ⟨sets { run with rails := { run.rails with wait := .delayUp } } [((Reg.SUP_CHn_CFG_GROUP 1), 1)], by decide +kernel⟩,
    ⟨{ run with rails := { run.rails with wait := .off } }, by decide +kernel⟩,
    ⟨{ run with rails := { run.rails with wait := .delayDown, reached := 1 } }, by decide +kernel⟩,
    ⟨sets run [(Reg.SUP_SEQ_STATUS_STATE, 6), (Reg.SUP_SEQ_STATUS_ATTEMPT, 6)], by decide +kernel⟩⟩

/-- Each clause of Button has states and operands that meet its hypotheses. -/
theorem wit_button :
    (∃ (s : State), s.domOn .aon = true ∧ s.seqState = seqOff) ∧
    (∃ (s : State), s.domOn .aon = true ∧ s.seqState = seqGrace) ∧
    (∃ (s : State), s.domOn .aon = true ∧ s.seqState = seqDown) ∧
    (∃ (s : State), s.domOn .aon = true ∧ s.seqState = seqUp ∧ s.rails.wait = .ready) ∧
    (∃ (s : State), s.domOn .aon = true ∧ s.seqState = seqOn ∧ s.rails.openedThisStart = false) ∧
    (∃ (s : State), s.seqState ≠ seqOff ∧ s.seqState ≠ seqLockout ∧ s.flag Reg.SUP_STATUS_ON_PENDING = false) ∧
    (∃ (s : State), s.seqState = seqOff) ∧
    (∃ (s : State), s.seqState = seqGrace ∧ s.rails.openedThisStart = false) ∧
    (∃ (s : State), s.seqState ≠ seqGrace) :=
   ⟨⟨run, by decide +kernel⟩,
    ⟨sets run [(Reg.SUP_SEQ_STATUS_STATE, 3)], by decide +kernel⟩,
    ⟨sets run [(Reg.SUP_SEQ_STATUS_STATE, 5)], by decide +kernel⟩,
    ⟨sets { run with rails := { run.rails with wait := .ready } } [(Reg.SUP_SEQ_STATUS_STATE, 1)], by decide +kernel⟩,
    ⟨sets run [(Reg.SUP_SEQ_STATUS_STATE, 2)], by decide +kernel⟩,
    ⟨sets run [(Reg.SUP_SEQ_STATUS_STATE, 2)], by decide +kernel⟩,
    ⟨run, by decide +kernel⟩,
    ⟨sets run [(Reg.SUP_SEQ_STATUS_STATE, 3)], by decide +kernel⟩,
    ⟨run, by decide +kernel⟩⟩

/-- Each clause of RailPins has states and operands that meet its hypotheses. -/
theorem wit_rail_pins :
    (∃ (r q : FFRecord) (rest : List FFRecord) (s : State), s.rails.ffQueue = r :: q :: rest ∧ (lget s.rails.ffNor s.rails.ffCur
      []).length < 63) ∧
    (∃ (r q : FFRecord) (rest : List FFRecord) (s : State), s.rails.ffQueue = r :: q :: rest ∧ s.seqState = seqOn ∧
      s.rails.ffCur ≤ 1 ∧ s.rails.ffNor.length = 2 ∧ (lget s.rails.ffNor s.rails.ffCur []).length = 63) ∧
    (∃ (s : State), 64 ≤ (lget s.rails.ffNor s.rails.ffCur []).length ∧ (lget s.rails.ffNor (1 - s.rails.ffCur) []).isEmpty =
      false) ∧
    (∃ (s : State), s.rails.norHold = true ∧ s.rails.wait = .norHold ∧ s.rails.downWhy = .offReq ∧ s.flag
      Reg.SUP_STATUS_ON_PENDING = false) ∧
    (∃ (s : State), s.rails.norHold = true ∧ s.rails.wait ≠ .norHold) ∧
    (∃ (v : Vault) (s : State), s.seqState = seqVault ∧ s.vlt.cur = some v) ∧
    (∃ (s : State), s.seqState = seqUp) ∧
    (∃ (s : State), s.seqState = seqOn ∧ s.get Reg.PWR_STATUS_STATE ≠ pwrDeep) ∧
    (∃ (s : State), s.domOn .aon = true ∧ s.seqState = seqOff ∧ s.flag Reg.SUP_SEQ_CFG_WAKE_ON_OFF = true) ∧
    (∃ (s : State), s.domOn .aon = true ∧ s.seqState = seqDown ∧ s.flag Reg.SUP_SEQ_CFG_WAKE_ON_OFF = true) ∧
    (∃ (s : State), s.domOn .aon = true ∧ s.seqState = seqOff ∧ s.flag Reg.SUP_SEQ_CFG_WAKE_ON_OFF = false) :=
   ⟨⟨⟨0, 0, 0, 0, 0, 0, 0, false, false, 0, 0, []⟩, ⟨0, 0, 0, 0, 0, 0, 0, false, false, 0, 0, []⟩, [],
     { run with rails := { run.rails with ffQueue := [⟨0, 0, 0, 0, 0, 0, 0, false, false, 0, 0, []⟩, ⟨0, 0, 0, 0, 0, 0, 0,
                                            false, false, 0, 0, []⟩] } }, by decide +kernel⟩,
    ⟨⟨0, 0, 0, 0, 0, 0, 0, false, false, 0, 0, []⟩, ⟨0, 0, 0, 0, 0, 0, 0, false, false, 0, 0, []⟩, [], sets
      { run with rails := { run.rails with ffQueue := [⟨0, 0, 0, 0, 0, 0, 0, false, false, 0, 0, []⟩, ⟨0, 0, 0, 0, 0, 0, 0,
                                             false, false, 0, 0, []⟩], ffNor := [List.replicate 63 ⟨0, 0, 0, 0, 0, 0, 0, false,
                                             false, 0, 0, []⟩, []] } } [(Reg.SUP_SEQ_STATUS_STATE, 2)], by decide +kernel⟩,
    ⟨{ run with rails := { run.rails with ffNor := [List.replicate 64 ⟨0, 0, 0, 0, 0, 0, 0, false, false, 0, 0, []⟩, [⟨0, 0, 0,
                                            0, 0, 0, 0, false, false, 0, 0, []⟩]] } }, by decide +kernel⟩,
    ⟨{ run with rails := { run.rails with norHold := true, wait := .norHold, downWhy := .offReq } }, by decide +kernel⟩,
    ⟨{ run with rails := { run.rails with norHold := true } }, by decide +kernel⟩,
    ⟨Vault.start .trip true false, sets { run with vlt := { run.vlt with cur := some (Vault.start .trip true false) } }
      [(Reg.SUP_SEQ_STATUS_STATE, 4)], by decide +kernel⟩,
    ⟨sets run [(Reg.SUP_SEQ_STATUS_STATE, 1)], by decide +kernel⟩,
    ⟨sets run [(Reg.SUP_SEQ_STATUS_STATE, 2)], by decide +kernel⟩,
    ⟨sets run [(Reg.SUP_SEQ_STATUS_STATE, 0), (Reg.SUP_SEQ_CFG_WAKE_ON_OFF, 1)], by decide +kernel⟩,
    ⟨sets run [(Reg.SUP_SEQ_STATUS_STATE, 5), (Reg.SUP_SEQ_CFG_WAKE_ON_OFF, 1)], by decide +kernel⟩,
    ⟨run, by decide +kernel⟩⟩

/-- Each clause of SleepEntry has states and operands that meet its hypotheses. -/
theorem wit_sleep_entry :
    (∃ (s : State), s.InRun ∧ s.mayEnter = true ∧ s.quiet = true) ∧
    (∃ (s : State), s.InRun ∧ s.quiet = false) ∧
    (∃ (s : State), s.get Reg.PWR_STATUS_STATE = pwrIdle ∧ s.get Reg.PWR_CFG_AUTO_SLEEP_S ≠ 0 ∧ (s.port .a).linkUp = false ∧
      (s.port .b).linkUp = false ∧ s.flag Reg.SYS_STATUS_SAFE = false ∧ s.mayEnter = true) ∧
    (∃ (d n : Domain) (busy : Bool) (s : State), s.get Reg.PWR_STATUS_STATE = pwrEntering ∧ s.pwr.asking = some d ∧ s.voteReason
      d busy = 0 ∧ voteOrder.find? (fun e => s.domOn e && !(s.pwr.agreed ++ [d]).contains e) = some n) ∧
    (∃ (d : Domain) (busy : Bool) (s : State), s.get Reg.PWR_STATUS_STATE = pwrEntering ∧ s.pwr.asking = some d ∧ s.voteReason d
      busy ≠ 0) ∧
    (∃ (d : Domain) (s : State), s.get Reg.PWR_STATUS_STATE = pwrEntering ∧ s.pwr.asking = some d) ∧
    (∃ (s : State), s.mayEnter = true ∧ s.pwr.request = 2) ∧
    (∃ (s : State), (s.pwr.request = 0 ∨ s.mayEnter = false)) :=
   ⟨⟨sets run [(Reg.PWR_STATUS_STATE, 0), (Reg.SUP_SEQ_STATUS_STATE, 2)], by decide +kernel⟩,
    ⟨{ run with grt := { run.grt with gc := some ⟨0, [], 1⟩ } }, by decide +kernel⟩,
    ⟨sets { run with host := HostSide.init } [(Reg.PWR_STATUS_STATE, 1), (Reg.SUP_SEQ_STATUS_STATE, 2),
      (Reg.PWR_CFG_AUTO_SLEEP_S, 1)], by decide +kernel⟩,
    ⟨.echo, .nand, false, sets { run with pwr := { run.pwr with agreed := [.host], asking := some .echo } }
      [(Reg.PWR_STATUS_STATE, 5), (Reg.SUP_SEQ_STATUS_STATE, 2)], by decide +kernel⟩,
    ⟨.echo, true, sets { run with pwr := { run.pwr with agreed := [.host], asking := some .echo } } [(Reg.PWR_STATUS_STATE, 5),
      (Reg.SUP_SEQ_STATUS_STATE, 2)], by decide +kernel⟩,
    ⟨.echo, sets { run with pwr := { run.pwr with asking := some .echo } } [(Reg.PWR_STATUS_STATE, 5),
      (Reg.SUP_SEQ_STATUS_STATE, 2)], by decide +kernel⟩,
    ⟨sets { run with pwr := { run.pwr with request := 2 } } [(Reg.PWR_STATUS_STATE, 0), (Reg.SUP_SEQ_STATUS_STATE, 2),
      (Reg.PWR_STATUS_RETRY, 1)], by decide +kernel⟩,
    ⟨run, by decide +kernel⟩⟩

/-- Each clause of SleepExitAndDeep has states and operands that meet its hypotheses. -/
theorem wit_sleep_exit_and_deep :
    (∃ (s : State), s.pwr.prep = 2 ∧ s.dirtyBytes = 0) ∧
    (∃ (s : State), s.pwr.prep = 2 ∧ s.dirtyBytes ≠ 0) ∧
    (∃ (s : State), s.get Reg.PWR_STATUS_STATE = pwrEntering ∧ s.pwr.prep = 2) ∧
    (∃ (s : State), s.get Reg.PWR_STATUS_STATE = pwrDeep ∧ s.get Reg.PWR_CFG2_WAKE_TIMER_MIN ≠ 0) ∧
    (∃ (s : State), s.get Reg.PWR_STATUS_STATE = pwrSleep ∧ s.flag Reg.PWR_STATUS_GUARD = true) ∧
    (∃ (s : State), s.get Reg.PWR_STATUS_STATE = pwrSleep) ∧
    (∃ (s : State), s.get Reg.PWR_STATUS_STATE = pwrExiting ∧ s.get Reg.PWR_WAKE_FROM = pwrSleep) :=
   ⟨⟨{ run with pwr := { run.pwr with prep := 2 } }, by decide +kernel⟩,
    ⟨{ run with pwr := { run.pwr with prep := 2 }, cache := { run.cache with grans := [(0, ⟨true, false, 1, 0⟩)] } }, by
      decide +kernel⟩,
    ⟨sets { run with pwr := { run.pwr with prep := 2 } } [(Reg.PWR_STATUS_STATE, 5), (Reg.SUP_SEQ_STATUS_STATE, 2)], by
      decide +kernel⟩,
    ⟨sets run [(Reg.PWR_STATUS_STATE, 3), (Reg.SUP_SEQ_STATUS_STATE, 2), (Reg.PWR_CFG2_WAKE_TIMER_MIN, 1)], by decide +kernel⟩,
    ⟨sets run [(Reg.PWR_STATUS_STATE, 2), (Reg.SUP_SEQ_STATUS_STATE, 2), (Reg.PWR_STATUS_GUARD, 1)], by decide +kernel⟩,
    ⟨sets run [(Reg.PWR_STATUS_STATE, 2), (Reg.SUP_SEQ_STATUS_STATE, 2)], by decide +kernel⟩,
    ⟨sets run [(Reg.PWR_STATUS_STATE, 6), (Reg.SUP_SEQ_STATUS_STATE, 2), (Reg.PWR_WAKE_FROM, 2)], by decide +kernel⟩⟩

/-- Each clause of DomainsAndAon has states and operands that meet its hypotheses. -/
theorem wit_domains_and_aon :
    (∃ (d : Domain) (s : State), s.pwr.upDom = some d ∧ s.pwr.upStep < 3) ∧
    (∃ (d : Domain) (s : State), s.pwr.upDom = some d ∧ 3 ≤ s.pwr.upStep ∧ s.boot.starting = false ∧ s.testHolds d = false ∧ d ≠
      .host) ∧
    (∃ (s : State), s.pwr.upDom = some .host ∧ 3 ≤ s.pwr.upStep ∧ s.boot.starting = false ∧ s.testHolds .host = false) ∧
    (∃ (d : Domain) (s : State), s.pwr.upDom = some d ∧ 3 ≤ s.pwr.upStep ∧ s.testHolds d = true) ∧
    (∃ (d : Domain) (s : State), s.pwr.upDom = some d ∧ s.pwr.upRetry = false) ∧
    (∃ (d : Domain) (s : State), s.pwr.upDom = some d ∧ s.pwr.upRetry = true ∧ s.boot.starting = false ∧ s.get
      Reg.PWR_STATUS_STATE ≠ pwrExiting) ∧
    (∃ (s : State), s.domOn .aon = true) :=
   ⟨⟨.dram, { run with pwr := { run.pwr with upDom := some .dram, upStep := 2 } }, by decide +kernel⟩,
    ⟨.dram, { run with pwr := { run.pwr with upDom := some .dram, upStep := 3 } }, by decide +kernel⟩,
    ⟨{ run with pwr := { run.pwr with upDom := some .host, upStep := 3 } }, by decide +kernel⟩,
    ⟨.fab, { run with pwr := { run.pwr with upDom := some .fab, upStep := 3 }, test := { run.test with mode := true } }, by
      decide +kernel⟩,
    ⟨.dram, { run with pwr := { run.pwr with upDom := some .dram } }, by decide +kernel⟩,
    ⟨.dram, { run with pwr := { run.pwr with upDom := some .dram, upRetry := true } }, by decide +kernel⟩,
    ⟨run, by decide +kernel⟩⟩

/-- Each clause of RegisterClears has states and operands that meet its hypotheses. -/
theorem wit_register_clears :
    (∃ (r : Requester) (w : Word) (s : State) (l : List Fld), s.Asks r 0x160000 Reg.VLT_CTRL_STAT_CLR w ∧ l =
      [Reg.VLT_DEMAND_CNT_COUNT, Reg.VLT_DEMAND_MAX_MAX_US, Reg.VLT_MERGE_FULL_CNT]) ∧
    (∃ (r : Requester) (w : Word) (s : State) (l : List Fld), s.Asks r 0x180000 Reg.FLC_CTRL_CNT_CLR w ∧ l = ([0x180040,
      0x180044, 0x180048, 0x18004C, 0x180050, 0x180054, 0x180058].map fieldsAt).flatten) ∧
    (∃ (r : Requester) (w : Word) (s : State) (l : List Fld), s.Asks r 0x190000 Reg.DMC_CTRL_STAT_CLR w ∧ l =
      [Reg.DMC_REF_STATUS_FORCED, Reg.DMC_REF_STATUS_POSTPONED_MAX, Reg.DMC_INORDER_CNT_COUNT, Reg.DMC_PANIC_CNT_MAX_US,
      Reg.DMC_PANIC_CNT_COUNT]) ∧
    (∃ (r : Requester) (w : Word) (s : State) (l : List Fld), s.Asks r 0x190100 Reg.DMC_ECC_CTRL_CNT_CLR w ∧ l =
      [Reg.DMC_CE_CNT_COUNT, Reg.DMC_UE_CNT_VAULT, Reg.DMC_UE_CNT_TOTAL]) ∧
    (∃ (r : Requester) (w : Word) (s : State) (l : List Fld), s.Asks r 0x1A0000 Reg.ECH_CTRL_CNT_CLR w ∧ l =
      [Reg.ECH_CNT_NAK_COUNT, Reg.ECH_CNT_LAPSE_COUNT, Reg.ECH_CNT_FWD_COUNT]) ∧
    (∃ (r : Requester) (w : Word) (s : State) (l : List Fld), s.Asks r 0x130000 Reg.SUP_CTRL_FF_ACK w ∧ l =
      [Reg.SUP_FF_INFO_VALID]) ∧
    (∃ (r : Requester) (w : Word) (s : State) (l : List Fld), s.Asks r 0x120000 Reg.PWR_CTRL_CNT_CLR w ∧ l = ([0x12001C,
      0x120020, 0x120024].map fieldsAt).flatten) ∧
    (∃ (r : Requester) (w : Word) (s : State) (l : List Fld), s.Asks r 0x1B0000 Reg.EVR_CTRL_CNT_CLR w ∧ l =
      [Reg.EVR_LOST_OVERWRITTEN, Reg.EVR_LOST_DROPPED]) ∧
    (∃ (r : Requester) (w : Word) (s : State), s.Asks r 0x110000 Reg.CLK_CTRL_MON_CLR w) ∧
    (∃ (r : Requester) (w : Word) (s : State), s.Asks r 0x130000 Reg.SUP_CTRL_FAULT_CLR w) ∧
    (∃ (r : Requester) (w : Word) (s : State), s.Asks r 0x140000 Reg.LAN_CTRL_FAULT_CLR w) ∧
    (∃ (r : Requester) (w : Word) (s : State), s.Asks r 0x1C0000 Reg.CFG_CTRL_LOCK w) ∧
    (∃ (r : Requester) (w : Word) (s : State) (x : RingSlot), s.Asks r 0x1B0000 Reg.EVR_CTRL_FLUSH w ∧ r ≠ .uart ∧
      s.evr.provisional = false ∧ s.evrMode = 0 ∧ s.evr.ring = [x] ∧ x.flushed = false ∧ s.evr.norRoom = true ∧ s.norFlushes =
      true) ∧
    (∃ (r : Requester) (w : Word) (s : State), s.Asks r 0x1B0000 Reg.EVR_CTRL_RD_GO w ∧ r ≠ .uart ∧ s.evr.standing (s.get
      Reg.EVR_RD_SEQ_SEQ) = none) ∧
    (∃ (r : Requester) (w : Word) (s : State) (e : EvRecord) (src : Nat), s.Asks r 0x1B0000 Reg.EVR_CTRL_RD_GO w ∧ r ≠ .uart ∧
      s.evr.standing (s.get Reg.EVR_RD_SEQ_SEQ) = some (e, src)) :=
   ⟨⟨.cp0, 0, run, [Reg.VLT_DEMAND_CNT_COUNT, Reg.VLT_DEMAND_MAX_MAX_US, Reg.VLT_MERGE_FULL_CNT], ⟨asks_of (by decide +kernel),
     by decide +kernel⟩⟩,
    ⟨.cp0, 0, run, ([0x180040, 0x180044, 0x180048, 0x18004C, 0x180050, 0x180054, 0x180058].map fieldsAt).flatten, ⟨asks_of (by
      decide +kernel), by decide +kernel⟩⟩,
    ⟨.cp0, 0, run, [Reg.DMC_REF_STATUS_FORCED, Reg.DMC_REF_STATUS_POSTPONED_MAX, Reg.DMC_INORDER_CNT_COUNT,
      Reg.DMC_PANIC_CNT_MAX_US, Reg.DMC_PANIC_CNT_COUNT], ⟨asks_of (by decide +kernel), by decide +kernel⟩⟩,
    ⟨.cp0, 0, run, [Reg.DMC_CE_CNT_COUNT, Reg.DMC_UE_CNT_VAULT, Reg.DMC_UE_CNT_TOTAL], ⟨asks_of (by decide +kernel), by
      decide +kernel⟩⟩,
    ⟨.cp0, 0, run, [Reg.ECH_CNT_NAK_COUNT, Reg.ECH_CNT_LAPSE_COUNT, Reg.ECH_CNT_FWD_COUNT], ⟨asks_of (by decide +kernel), by
      decide +kernel⟩⟩,
    ⟨.cp0, 0, run, [Reg.SUP_FF_INFO_VALID], ⟨asks_of (by decide +kernel), by decide +kernel⟩⟩,
    ⟨.cp0, 0, run, ([0x12001C, 0x120020, 0x120024].map fieldsAt).flatten, ⟨asks_of (by decide +kernel), by decide +kernel⟩⟩,
    ⟨.cp0, 0, run, [Reg.EVR_LOST_OVERWRITTEN, Reg.EVR_LOST_DROPPED], ⟨asks_of (by decide +kernel), by decide +kernel⟩⟩,
    ⟨.cp0, 0, run, asks_of (by decide +kernel)⟩,
    ⟨.cp0, 0, run, asks_of (by decide +kernel)⟩,
    ⟨.cp0, 0, run, asks_of (by decide +kernel)⟩,
    ⟨.cp0, 0, run, asks_of (by decide +kernel)⟩,
    ⟨.cp0, 0, sets { run with evr := { run.evr with provisional := false, ring := [⟨⟨5, 3, false, false, false, false, 0,
                                                      0x3003, 0, 1, 0, 0, 0, 0, []⟩, false, false⟩] } }
      [(Reg.EVR_STATUS_SCAN_DONE, 1)], ⟨⟨5, 3, false, false, false, false, 0, 0x3003, 0, 1, 0, 0, 0, 0, []⟩, false, false⟩,
      ⟨asks_of (by decide +kernel), by decide +kernel, by decide +kernel, by decide +kernel, by decide +kernel, by
      decide +kernel, by decide +kernel, by decide +kernel⟩⟩,
    ⟨.cp0, 0, run, ⟨asks_of (by decide +kernel), by decide +kernel, by decide +kernel⟩⟩,
    ⟨.cp0, 0, sets { run with evr := { run.evr with ring := [⟨⟨5, 3, false, false, false, false, 0, 0x3003, 0, 1, 0, 0, 0, 0,
                                                      []⟩, false, false⟩] } } [(Reg.EVR_RD_SEQ_SEQ, 5)], ⟨5, 3, false, false,
      false, false, 0, 0x3003, 0, 1, 0, 0, 0, 0, []⟩, 0, ⟨asks_of (by decide +kernel), by decide +kernel, by decide +kernel⟩⟩⟩

/-- Each clause of RegisterRequests has states and operands that meet its hypotheses. -/
theorem wit_register_requests :
    (∃ (r : Requester) (w : Word) (s : State), s.Asks r 0x150000 Reg.UMB_CTRL_REH_START w ∧ Reg.UMB_CTRL_SEEP_HOLD.of w.toNat =
      s.get Reg.UMB_CTRL_SEEP_HOLD ∧ s.rehMay = true ∧ s.rehRecent = false) ∧
    (∃ (r : Requester) (w : Word) (s : State), s.Asks r 0x150000 Reg.UMB_CTRL_REH_START w ∧ Reg.UMB_CTRL_SEEP_HOLD.of w.toNat =
      s.get Reg.UMB_CTRL_SEEP_HOLD ∧ s.rehRecent = true) ∧
    (∃ (r : Requester) (w : Word) (s : State), s.Asks r 0x170000 Reg.GRT_CTRL_FORMAT w ∧ Reg.GRT_CTRL_GC_HOLD.of w.toNat = s.get
      Reg.GRT_CTRL_GC_HOLD ∧ s.flag Reg.GRT_STATUS_FORMAT_ARMED = false) ∧
    (∃ (r : Requester) (w : Word) (s : State), s.Asks r 0x170000 Reg.GRT_CTRL_FORMAT w ∧ Reg.GRT_CTRL_GC_HOLD.of w.toNat = s.get
      Reg.GRT_CTRL_GC_HOLD ∧ s.flag Reg.GRT_STATUS_FORMAT_ARMED = true ∧ s.pmr.st = .readOnly ∧ errCode s.pmr.conds = 0x11 ∧
      s.vaulting = false ∧ s.vlt.formatRun = false) ∧
    (∃ (r : Requester) (w : Word) (s : State), s.Asks r 0x170000 Reg.GRT_CTRL_JRNL_FLUSH w ∧ Reg.GRT_CTRL_GC_HOLD.of w.toNat =
      s.get Reg.GRT_CTRL_GC_HOLD ∧ s.grt.staged ≠ [] ∧ s.flag Reg.SYS_STATUS_SAFE = false ∧ s.grt.gc = none ∧ s.takesJournal) ∧
    (∃ (r : Requester) (w : Word) (s : State) (b : Band), s.Asks r 0x170000 Reg.GRT_CTRL_GC_NOW w ∧ Reg.GRT_CTRL_GC_HOLD.of
      w.toNat = s.get Reg.GRT_CTRL_GC_HOLD ∧ s.grt.formatted = true ∧ s.get Reg.GRT_GEOM_PAGES ≠ 0 ∧ s.vaulting = false ∧
      s.grt.gc = none ∧ s.flag Reg.SYS_STATUS_SAFE = false ∧ s.gcAllowed = true ∧ (s.gcWanted = true ∨ s.gcMore = true) ∧
      s.gcVictim = some b) ∧
    (∃ (r : Requester) (w : Word) (s : State) (n : Nat), s.Asks r 0x140000 Reg.LAN_CTRL_LEARN_REQ w ∧ n =
      Reg.LAN_CTRL_LEARN_PORT.of (Nat.lor w.toNat 32) ∧ s.modSt n = mService ∧ s.lan.learn = none) ∧
    (∃ (r : Requester) (w : Word) (s : State) (l : Learn), s.Asks r 0x140000 Reg.LAN_CTRL_LEARN_CANCEL w ∧ s.lan.learn = some l
      ∧ l.step ≠ 4) ∧
    (∃ (r : Requester) (w : Word) (s : State), s.Asks r 0x130000 Reg.SUP_CTRL_OFF_REQ w ∧ s.seqState = seqOn ∧ s.get
      Reg.SUP_BTN_CFG_ORDERLY_S ≠ 0 ∧ s.portsShut = false) ∧
    (∃ (r : Requester) (w : Word) (s : State) (v : Vault), s.Asks r 0x130000 Reg.SUP_CTRL_OFF_REQ w ∧ s.seqState = seqVault ∧
      s.vlt.cur = some v) ∧
    (∃ (r : Requester) (w : Word) (s : State), s.Asks r 0x120000 Reg.PWR_CTRL_SLEEP_REQ w ∧ s.flag Reg.SYS_STATUS_SAFE = false ∧
      s.mayEnter = true) ∧
    (∃ (r : Requester) (w : Word) (s : State), s.Asks r 0x120000 Reg.PWR_CTRL_DEEP_REQ w ∧ s.deepMay = true ∧ s.mayEnter = true)
      ∧
    (∃ (r : Requester) (w : Word) (s : State), s.Asks r 0x120000 Reg.PWR_CTRL_DEEP_REQ w ∧ s.deepMay = false) ∧
    (∃ (r : Requester) (w : Word) (s : State), s.Asks r 0x120000 Reg.PWR_CTRL_CANCEL w) ∧
    (∃ (r : Requester) (w : Word) (s : State), s.Asks r 0x120000 Reg.PWR_CTRL_WAKE_REQ w ∧ s.get Reg.PWR_STATUS_STATE =
      pwrSleep) ∧
    (∃ (r : Requester) (w : Word) (s : State), s.Asks r 0x100004 Reg.SYS_CTRL_SAFE_CLR w ∧ s.flag Reg.SYS_STATUS_SAFE_ARMED =
      false) ∧
    (∃ (r : Requester) (w : Word) (s : State), s.Asks r 0x100004 Reg.SYS_CTRL_SAFE_CLR w ∧ s.flag Reg.SYS_STATUS_SAFE_ARMED =
      true ∧ s.flag Reg.SYS_STATUS_SAFE = true ∧ s.seqState = seqOn ∧ s.rails.openedThisStart = false ∧ s.boot.bootLog.length <
      2048) ∧
    (∃ (r : Requester) (w : Word) (s : State) (n : Nat), s.Asks r 0x100028 Reg.SYS_PROV_CTRL_BURN w ∧ n =
      Reg.SYS_PROV_CTRL_SLOT.of (Nat.lor w.toNat 1) ∧ s.burnOk n = true) ∧
    (∃ (r : Requester) (w : Word) (s : State) (n : Nat), s.Asks r 0x100028 Reg.SYS_PROV_CTRL_BURN w ∧ n =
      Reg.SYS_PROV_CTRL_SLOT.of (Nat.lor w.toNat 1) ∧ s.burnOk n = false) ∧
    (∃ (r : Requester) (w : Word) (s : State) (n : Nat), s.Asks r 0x180000 Reg.FLC_CTRL_RETRAIN_GO w ∧ n =
      Reg.FLC_CTRL_RETRAIN_CH.of (Nat.lor w.toNat 4096) ∧ s.flag Reg.FLC_STATUS_TRIP = false ∧ s.get (Reg.FLC_CHn_STATUS_STATE
      n) = 1) ∧
    (∃ (r : Requester) (w : Word) (s : State) (n : Nat), s.Asks r 0x180000 Reg.FLC_CTRL_RETRAIN_GO w ∧ n =
      Reg.FLC_CTRL_RETRAIN_CH.of (Nat.lor w.toNat 4096) ∧ s.flag Reg.FLC_STATUS_TRIP = false ∧ s.get (Reg.FLC_CHn_STATUS_STATE
      n) = 1) :=
   ⟨⟨.cp0, 0, sets { run with vlt := { run.vlt with input := true }, grt := { run.grt with formatted := true }, pmr :=
                                { run.pmr with st := .opened } } [(Reg.SUP_SEQ_STATUS_STATE, 2)], ⟨asks_of (by decide +kernel),
     by decide +kernel, by decide +kernel, by decide +kernel⟩⟩,
    ⟨.cp0, 0, { run with umb := { run.umb with lastSw := some 0 } }, ⟨asks_of (by decide +kernel), by decide +kernel, by
      decide +kernel⟩⟩,
    ⟨.cp0, 0, run, ⟨asks_of (by decide +kernel), by decide +kernel, by decide +kernel⟩⟩,
    ⟨.cp0, 0, sets { run with pmr := { run.pmr with st := .readOnly, conds := [0x11] } } [(Reg.GRT_STATUS_FORMAT_ARMED, 1)],
      ⟨asks_of (by decide +kernel), by decide +kernel, by decide +kernel, by decide +kernel, by decide +kernel, by
      decide +kernel, by decide +kernel⟩⟩,
    ⟨.cp0, 0, sets { run with grt := { run.grt with staged := [⟨1, 0, 0, 0, 0, 0⟩], recs := [⟨0, 0, 0, 1, [⟨1, 0, .head,
                                                      false⟩]⟩], tbl := [(0, { Blk.fresh with st := .record })] }, flc :=
                                { run.flc with luns := [(0, { Lun.none with st := .active })] } } [(Reg.GRT_GEOM_PAGES, 64),
      (Reg.GRT_GEOM_BLOCKS, 512)], ⟨asks_of (by decide +kernel), by decide +kernel, by decide +kernel, by decide +kernel, by
      decide +kernel, by decide +kernel⟩⟩,
    ⟨.cp0, 0, sets { run with grt := { run.grt with formatted := true, bands := [⟨0, [some (0, 0)], 0, true, [], false⟩] } }
      [(Reg.GRT_GEOM_PAGES, 64), (Reg.GRT_GC_CFG_START, 1)], ⟨0, [some (0, 0)], 0, true, [], false⟩, ⟨asks_of (by
      decide +kernel), by decide +kernel, by decide +kernel, by decide +kernel, by decide +kernel, by decide +kernel, by
      decide +kernel, by decide +kernel, by decide +kernel, by decide +kernel⟩⟩,
    ⟨.cp0, 0, sets run [((Reg.LAN_Mn_STATUS_STATE 0), 3)], 0, ⟨asks_of (by decide +kernel), by decide +kernel, by
      decide +kernel, by decide +kernel⟩⟩,
    ⟨.cp0, 0, { run with lan := { run.lan with learn := some ⟨1, 2, false, 0, 0⟩ } }, ⟨1, 2, false, 0, 0⟩, ⟨asks_of (by
      decide +kernel), by decide +kernel, by decide +kernel⟩⟩,
    ⟨.cp0, 0, sets run [(Reg.SUP_SEQ_STATUS_STATE, 2), (Reg.SUP_BTN_CFG_ORDERLY_S, 1)], ⟨asks_of (by decide +kernel), by
      decide +kernel, by decide +kernel, by decide +kernel⟩⟩,
    ⟨.cp0, 0, sets { run with vlt := { run.vlt with cur := some (Vault.start .trip true false) } } [(Reg.SUP_SEQ_STATUS_STATE,
      4)], Vault.start .trip true false, ⟨asks_of (by decide +kernel), by decide +kernel, by decide +kernel⟩⟩,
    ⟨.cp0, 0, sets run [(Reg.PWR_STATUS_STATE, 1), (Reg.SUP_SEQ_STATUS_STATE, 2)], ⟨asks_of (by decide +kernel), by
      decide +kernel, by decide +kernel⟩⟩,
    ⟨.cp0, 0, sets { run with host := HostSide.init, pmr := { run.pmr with st := .opened } } [(Reg.PWR_CFG_DEEP_EN, 1),
      (Reg.SUP_SEQ_STATUS_STATE, 2)], ⟨asks_of (by decide +kernel), by decide +kernel, by decide +kernel⟩⟩,
    ⟨.cp0, 0, run, ⟨asks_of (by decide +kernel), by decide +kernel⟩⟩,
    ⟨.cp0, 0, run, asks_of (by decide +kernel)⟩,
    ⟨.cp0, 0, sets run [(Reg.PWR_STATUS_STATE, 2), (Reg.SUP_SEQ_STATUS_STATE, 2)], ⟨asks_of (by decide +kernel), by
      decide +kernel⟩⟩,
    ⟨.cp0, 0, run, ⟨asks_of (by decide +kernel), by decide +kernel⟩⟩,
    ⟨.cp0, 0, sets run [(Reg.SUP_SEQ_STATUS_STATE, 2), (Reg.SYS_STATUS_SAFE_ARMED, 1), (Reg.SYS_STATUS_SAFE, 1)], ⟨asks_of (by
      decide +kernel), by decide +kernel, by decide +kernel, by decide +kernel, by decide +kernel, by decide +kernel⟩⟩,
    ⟨.cp0, 0, { run with boot := { run.boot with prov := List.replicate 20 0 } }, 0, ⟨asks_of (by decide +kernel), by
      decide +kernel, by decide +kernel⟩⟩,
    ⟨.cp0, 0, run, 0, ⟨asks_of (by decide +kernel), by decide +kernel, by decide +kernel⟩⟩,
    ⟨.cp0, 0, sets run [((Reg.FLC_CHn_STATUS_STATE 0), 1)], 0, ⟨asks_of (by decide +kernel), by decide +kernel, by
      decide +kernel, by decide +kernel⟩⟩,
    ⟨.cp0, 0, sets run [((Reg.FLC_CHn_STATUS_STATE 0), 1)], 0, ⟨asks_of (by decide +kernel), by decide +kernel, by
      decide +kernel, by decide +kernel⟩⟩⟩

/-- Each clause of RegisterWords has states and operands that meet its hypotheses. -/
theorem wit_register_words :
    (∃ (r : Requester) (w : Word) (s : State) (lun b : Nat), s.Writes r 0x18002C w.toNat ∧ Reg.FLC_EC_SEL_AREA.of w.toNat = 0 ∧
      lun = Reg.FLC_EC_SEL_LUN.of w.toNat ∧ b = Reg.FLC_EC_SEL_BLOCK.of w.toNat ∧ (s.lun lun).st ≠ .absent ∧ b < s.get
      Reg.GRT_GEOM_BLOCKS) ∧
    (∃ (r : Requester) (w : Word) (s : State) (i key : Nat), s.Writes r 0x190114 w.toNat ∧ i = Reg.DMC_POS_SEL_POS.of w.toNat ∧
      key = ((Reg.DMC_POS_SEL_CH.of w.toNat * 2 + Reg.DMC_POS_SEL_SC.of w.toNat) * 2 + Reg.DMC_POS_SEL_RK.of w.toNat) * 10 + i ∧
      i < 10) ∧
    (∃ (r : Requester) (w : Word) (s : State) (low : Nat), s.reaches r = true ∧ r.port = none ∧ r ≠ .uart ∧ s.domOn .dram = true
      ∧ (s.regPort r).held = some (0x190050, low) ∧ low < 2 ^ 32 ∧ w.toNat < 2 ^ 7 ∧ s.capBytes ≤ w.toNat * 2 ^ 32 + low) ∧
    (∃ (r : Requester) (w : Word) (s : State) (low a : Nat), s.reaches r = true ∧ r.port = none ∧ r ≠ .uart ∧ s.domOn .dram =
      true ∧ (s.regPort r).held = some (0x190050, low) ∧ low < 2 ^ 32 ∧ w.toNat < 2 ^ 7 ∧ a = w.toNat * 2 ^ 32 + low ∧ a <
      s.capBytes) ∧
    (∃ (r : Requester) (w : Word) (s : State) (low a : Nat), s.reaches r = true ∧ r.port = none ∧ r ≠ .uart ∧ s.domOn .dram =
      true ∧ (s.regPort r).held = some (0x190160, low) ∧ low < 2 ^ 32 ∧ w.toNat < 2 ^ 7 ∧ a = w.toNat * 2 ^ 32 + low ∧ a <
      s.capBytes ∧ s.chFrozen (s.dramAddr a).ch = true) ∧
    (∃ (r : Requester) (w : Word) (s : State) (low a : Nat), s.reaches r = true ∧ r.port = none ∧ r ≠ .uart ∧ s.domOn .dram =
      true ∧ (s.regPort r).held = some (0x190160, low) ∧ low < 2 ^ 32 ∧ w.toNat < 2 ^ 7 ∧ a = w.toNat * 2 ^ 32 + low ∧
      s.chFrozen (s.dramAddr a).ch = false) ∧
    (∃ (r : Requester) (w : Word) (s : State), s.Writes r 0x10002C w.toNat ∧ s.boot.prov.length < 20) ∧
    (∃ (cp : Fin 4) (s : State), s.domOn .ctrl = true ∧ s.domOn .aon = true) ∧
    (∃ (cp : Fin 4) (s : State), s.domOn .ctrl = true ∧ s.domOn .aon = true) ∧
    (∃ (cp : Fin 4) (s : State), s.domOn .ctrl = true ∧ s.domOn .aon = true ∧ s.boot.kickHalf = true ∧ s.get Reg.WDT_HB_CP = 15)
      ∧
    (∃ (r : Requester) (o : Nat) (row : RegRow) (s : State), s.reaches r = true ∧ r.port = none ∧ inWindow o = true ∧ o % 4 = 0
      ∧ (∃ b, Block.ofOff o = some b ∧ s.domOn b.domain = true) ∧ regAt o = some (row, false) ∧ row.wide = false) ∧
    (∃ (r : Requester) (o : Nat) (row : RegRow) (s : State), s.reaches r = true ∧ r.port = none ∧ inWindow o = true ∧ o % 4 = 0
      ∧ (∃ b, Block.ofOff o = some b ∧ s.domOn b.domain = true) ∧ regAt o = some (row, true) ∧ (s.regPort r).lastLow = some
      row.off) ∧
    (∃ (p : Port) (o : Nat) (row : RegRow) (s : State), s.Claims p ∧ inWindow o = true ∧ o % 4 = 0 ∧ (∃ b, Block.ofOff o = some
      b ∧ s.domOn b.domain = true) ∧ regAt o = some (row, false) ∧ row.wide = false) ∧
    (∃ (r : Requester) (o : Nat) (b : Block) (s : State), s.reaches r = true ∧ r.port = none ∧ inWindow o = true ∧ o % 4 = 0 ∧
      Block.ofOff o = some b ∧ s.domAnswers b.domain = false) ∧
    (∃ (r : Requester) (o : Nat) (data : List Byte) (row : RegRow) (s : State), s.Writes r o (leNat data) ∧ inWindow o = true ∧
      o % 4 = 0 ∧ data.length = 4 ∧ regAt o = some (row, false) ∧ (row.flds.map Fld.key).Nodup ∧ (∀ f ∈ row.flds, f.OffRecorder)
      ∧ o ∉ actingOffsets) ∧
    (∃ (p : Port) (o : Nat) (data : List Byte) (be : List Bool) (s : State), s.Claims p ∧ inWindow o = true ∧ sizeOk o
      data.length = false) :=
   ⟨⟨.cp0, 0, sets { run with flc := { run.flc with luns := [(0, { Lun.none with st := .active })] } } [(Reg.GRT_GEOM_BLOCKS,
     1)], 0, 0, ⟨writes_of (by decide +kernel), by decide +kernel, by decide +kernel, by decide +kernel, by decide +kernel, by
     decide +kernel⟩⟩,
    ⟨.cp0, 0, run, 0, 0, ⟨writes_of (by decide +kernel), by decide +kernel, by decide +kernel, by decide +kernel⟩⟩,
    ⟨.cp0, 0, sets { run with host := { run.host with latches := lset run.host.latches 0
                                                        { RegPort.init with held := some (0x190050, 2 ^ 30) } } }
      [(Reg.DMC_GEOM_CAP_GIB, 1)], 2 ^ 30, by decide +kernel⟩,
    ⟨.cp0, 0, sets { run with host := { run.host with latches := lset run.host.latches 0
                                                        { RegPort.init with held := some (0x190050, 2 ^ 30 - 1) } } }
      [(Reg.DMC_GEOM_CAP_GIB, 1)], 2 ^ 30 - 1, 2 ^ 30 - 1, by decide +kernel⟩,
    ⟨.cp0, 0, sets { run with host := { run.host with latches := lset run.host.latches 0
                                                        { RegPort.init with held := some (0x190160, 0) } } }
      [(Reg.DMC_GEOM_CAP_GIB, 1), (Reg.DMC_FRZ_STATUS_FROZEN, 15)], 0, 0, by decide +kernel⟩,
    ⟨.cp0, 0, sets { run with host := { run.host with latches := lset run.host.latches 0
                                                        { RegPort.init with held := some (0x190160, 0) } } }
      [(Reg.DMC_GEOM_CAP_GIB, 1)], 0, 0, by decide +kernel⟩,
    ⟨.cp0, 0, run, ⟨writes_of (by decide +kernel), by decide +kernel⟩⟩,
    ⟨0, run, by decide +kernel⟩,
    ⟨0, run, by decide +kernel⟩,
    ⟨0, sets { run with boot := { run.boot with kickHalf := true } } [(Reg.WDT_HB_CP, 15)], by decide +kernel⟩,
    ⟨.cp0, 0x120000, rowOf 0x120000, run, ⟨by decide +kernel, by decide +kernel, by decide +kernel, by decide +kernel, ⟨.pwr, by
      decide +kernel⟩, by decide +kernel, by decide +kernel⟩⟩,
    ⟨.cp0, 0x190054, rowOf 0x190054,
      { run with host := { run.host with latches := lset run.host.latches 0 { RegPort.init with lastLow := some 0x190050 } } },
      ⟨by decide +kernel, by decide +kernel, by decide +kernel, by decide +kernel, ⟨.dmc, by decide +kernel⟩, by decide +kernel,
      by decide +kernel⟩⟩,
    ⟨.a, 0x120000, rowOf 0x120000, run, ⟨by decide +kernel, by decide +kernel, by decide +kernel, ⟨.pwr, by decide +kernel⟩, by
      decide +kernel, by decide +kernel⟩⟩,
    ⟨.aon, 0x190000, .dmc, State.reset, by decide +kernel⟩,
    ⟨.aon, 0x1C0020, [0, 0, 0, 0], rowOf 0x1C0020, run, ⟨writes_of (by decide +kernel), by decide +kernel, by decide +kernel, by
      decide +kernel, by decide +kernel, by decide +kernel, by decide +kernel, by decide +kernel⟩⟩,
    ⟨.a, 0x100000, [1], [true], run, by decide +kernel⟩⟩

/-- Each clause of HighDwordLatch has states and operands that meet its hypotheses. -/
theorem wit_high_dword_latch :
    (∃ (r : Requester) (o : Nat) (b : Block) (row : RegRow) (s : State), s.host.latches.length = 9 ∧ Block.ofOff o = some b ∧
      s.domOn b.domain = true ∧ regAt o = some (row, false) ∧ row.wide = true) ∧
    (∃ (r : Requester) (o : Nat) (b : Block) (row : RegRow) (s : State), Block.ofOff o = some b ∧ s.domOn b.domain = true ∧
      regAt o = some (row, true)) ∧
    (∃ (r : Requester) (o : Nat) (b : Block) (row : RegRow) (s : State), s.host.latches.length = 9 ∧ Block.ofOff o = some b ∧
      Block.ofOff (o + 4) = some b ∧ s.domOn b.domain = true ∧ regAt o = some (row, false) ∧ regAt (o + 4) = some (row, true) ∧
      row.wide = true) ∧
    (∃ (r : Requester) (o w : Nat) (b : Block) (row : RegRow) (s : State), s.host.latches.length = 9 ∧ r ≠ .uart ∧ Block.ofOff o
      = some b ∧ s.domOn b.domain = true ∧ s.mayWrite r o w = true ∧ regAt o = some (row, false) ∧ row.wide = true ∧
      row.writable = true) ∧
    (∃ (r : Requester) (w : Word) (low : Nat) (s : State), r ≠ .uart ∧ s.domOn .aon = true ∧ (s.regPort r).held = some
      (0x1B0040, low) ∧ low < 2 ^ 32) ∧
    (∃ (r : Requester) (o w : Nat) (hi : Bool) (b : Block) (row : RegRow) (h : Nat × Nat) (s : State), s.host.latches.length = 9
      ∧ Block.ofOff o = some b ∧ s.domOn b.domain = true ∧ regAt o = some (row, hi) ∧ (s.regPort r).held = some h ∧ h.1 ≠
      row.off) ∧
    (∃ (o : Nat) (row : RegRow), regAt o = some (row, false) ∧ row.wide = true) ∧
    (∃ (r : Requester) (w : Word) (low : Nat) (s : State), r ≠ .uart ∧ s.domOn .dram = true ∧ (s.regPort r).held = some
      (0x190050, low) ∧ low < 2 ^ 32 ∧ w.toNat < 2 ^ 7) ∧
    (∃ (r : Requester) (w : Word) (low : Nat) (s : State), r ≠ .uart ∧ s.domOn .dram = true ∧ (s.regPort r).held = some
      (0x190160, low) ∧ low < 2 ^ 32 ∧ w.toNat < 2 ^ 7) :=
   ⟨⟨.cp0, 0x190050, .dmc, rowOf 0x190050, run, by decide +kernel⟩,
    ⟨.cp0, 0x190054, .dmc, rowOf 0x190054, run, by decide +kernel⟩,
    ⟨.cp0, 0x190050, .dmc, rowOf 0x190050, run, by decide +kernel⟩,
    ⟨.cp0, 0x190050, 7, .dmc, rowOf 0x190050, run, by decide +kernel⟩,
    ⟨.cp0, 0, 0, { run with host := { run.host with latches := lset run.host.latches 0
                                                      { RegPort.init with held := some (0x1B0040, 0) } } }, by decide +kernel⟩,
    ⟨.cp0, 0x120000, 0, false, .pwr, rowOf 0x120000, (0x190050, 0),
      { run with host := { run.host with latches := lset run.host.latches 0 { RegPort.init with held := some (0x190050, 0) } }
                   }, by decide +kernel⟩,
    ⟨0x190050, rowOf 0x190050, by decide +kernel⟩,
    ⟨.cp0, 0, 0, { run with host := { run.host with latches := lset run.host.latches 0
                                                      { RegPort.init with held := some (0x190050, 0) } } }, by decide +kernel⟩,
    ⟨.cp0, 0, 0, { run with host := { run.host with latches := lset run.host.latches 0
                                                      { RegPort.init with held := some (0x190160, 0) } } }, by decide +kernel⟩⟩

/-- Each clause of WriteRights has states and operands that meet its hypotheses. -/
theorem wit_write_rights :
    (∃ (o w : Nat) (s : State), s.flag Reg.CFG_CTRL_LOCK = true) ∧
    (∃ (r : Requester) (o w : Nat) (s : State), (r ≠ .uart ∨ s.flag Reg.CFG_CTRL_LOCK = false)) ∧
    (∃ (r : Requester) (o w : Nat) (b : Block) (s : State), Block.ofOff o = some b ∧ s.domOn b.domain = true ∧ s.mayWrite r o w
      = false ∧ w < 2 ^ 32 ∧ s.domOn .aon = true ∧ s.openMatch b.source 0x3003 (o % 65536) = none ∧ s.evrMode = 0 ∧
      s.evr.opens.length < 64 ∧ s.evr.ring.length < 2048 ∧ s.evr.lostBySev.all (fun n => n == 0) = true) ∧
    (∃ (r : Requester) (o w : Nat) (b : Block) (s : State), Block.ofOff o = some b ∧ s.domOn b.domain = true ∧ s.mayWrite r o w
      = false) ∧
    (∃ (r q : Requester) (o : Nat) (s : State), (∀ row, regAt o ≠ some (row, true))) ∧
    (∃ (r q : Requester) (o w : Nat) (b : Block) (row : RegRow) (s : State), Block.ofOff o = some b ∧ s.domOn b.domain = true ∧
      s.mayWrite r o w = true ∧ s.mayWrite q o w = true ∧ regAt o = some (row, false) ∧ row.wide = false ∧ strayBits row.mask w
      = false ∧ (∀ f ∈ row.flds, f.OffRecorder) ∧ o ∉ actingOffsets) :=
   ⟨⟨0, 0, sets run [(Reg.CFG_CTRL_LOCK, 1)], by decide +kernel⟩,
    ⟨.cp0, 0, 0, run, by decide +kernel⟩,
    ⟨.smbus, 0x1D0008, 0, .wdt, run, by decide +kernel⟩,
    ⟨.smbus, 0x1D0008, 0, .wdt, run, by decide +kernel⟩,
    ⟨.cp0, .cp1, 0x120004, run, by
      intro row h
      rw [show regAt 0x120004 = some (rowOf 0x120004, false) by decide +kernel] at h
      simp at h⟩,
    ⟨.cp0, .cp1, 0x120004, 0, .pwr, rowOf 0x120004, run, by decide +kernel⟩⟩

/-- Each clause of PowerFailTrips has states and operands that meet its hypotheses. -/
theorem wit_power_fail_trips :
    (∃ (s : State), s.domOn .aon = true ∧ s.vlt.input = true ∧ s.vlt.cur = none ∧ (s.seqState = seqOn ∨ s.seqState = seqGrace) ∧
      s.flag Reg.CLK_STATUS_HOLD = false ∧ s.InRun ∧ s.rails.openedThisStart = true ∧ s.flag Reg.VLT_STATUS_ARMED = true) ∧
    (∃ (s : State), s.domOn .aon = true ∧ s.vlt.input = true ∧ s.vlt.cur = none ∧ s.seqState = seqOn ∧ s.flag
      Reg.CLK_STATUS_HOLD = false ∧ s.InRun ∧ s.rails.openedThisStart = true ∧ s.flag Reg.VLT_STATUS_ARMED = false) ∧
    (∃ (s : State), s.domOn .aon = true ∧ s.vlt.input = true ∧ s.vlt.cur = none ∧ s.seqState = seqUp ∧ s.flag
      Reg.SUP_STATUS_ON_PENDING = false) ∧
    (∃ (v : Vault) (s : State), s.domOn .aon = true ∧ s.vlt.input = true ∧ s.vlt.cur = some v ∧ v.sealed = false ∧ s.seqState =
      seqVault ∧ s.flag Reg.VLT_STATUS_ARMED = true) ∧
    (∃ (v : Vault) (s : State), s.domOn .aon = true ∧ s.vlt.input = true ∧ s.vlt.cur = some v ∧ v.sealed = true) ∧
    (∃ (s : State), s.domOn .aon = true ∧ s.vlt.input = false) ∧
    (∃ (v : Vault) (s : State), s.vlt.input = true ∧ s.vlt.counting = true ∧ s.vlt.cur = some v) ∧
    (∃ (s : State), s.vlt.input = true ∧ s.vlt.counting = true ∧ s.vlt.cur = none ∧ s.seqState = seqOff ∧ s.rails.autoOn = true
      ∧ s.flag Reg.SUP_SEQ_CFG_AUTO_ON = true) :=
   ⟨⟨sets { run with vlt := { run.vlt with input := true }, rails := { run.rails with openedThisStart := true } }
     [(Reg.SUP_SEQ_STATUS_STATE, 3), (Reg.VLT_STATUS_ARMED, 1)], by decide +kernel⟩,
    ⟨sets { run with vlt := { run.vlt with input := true }, rails := { run.rails with openedThisStart := true } }
      [(Reg.SUP_SEQ_STATUS_STATE, 2)], by decide +kernel⟩,
    ⟨sets { run with vlt := { run.vlt with input := true } } [(Reg.SUP_SEQ_STATUS_STATE, 1)], by decide +kernel⟩,
    ⟨Vault.start .trip true false, sets
      { run with vlt := { run.vlt with input := true, cur := some (Vault.start .trip true false) } } [(Reg.SUP_SEQ_STATUS_STATE,
      4), (Reg.VLT_STATUS_ARMED, 1)], by decide +kernel⟩,
    ⟨{ Vault.start .trip true false with sealed := true, tailPage := true }, sets
         { run with vlt := { run.vlt with input := true, cur := some
                                            ({ Vault.start .trip true false with sealed := true, tailPage := true }) } }
                      [(Reg.SUP_SEQ_STATUS_STATE, 4)], by decide +kernel⟩,
    ⟨run, by decide +kernel⟩,
    ⟨Vault.start .trip true false, sets
      { run with vlt := { run.vlt with input := true, counting := true, cur := some (Vault.start .trip true false) } }
      [(Reg.SUP_SEQ_STATUS_STATE, 4)], by decide +kernel⟩,
    ⟨sets { run with vlt := { run.vlt with input := true, counting := true }, rails := { run.rails with autoOn := true } }
      [(Reg.SUP_SEQ_STATUS_STATE, 0), (Reg.SUP_SEQ_CFG_AUTO_ON, 1)], by decide +kernel⟩⟩

/-- Each clause of VaultCourse has states and operands that meet its hypotheses. -/
theorem wit_vault_course :
    (∃ (v : Vault) (closeNs drainNs firstNs : Nat) (s : State), s.vlt.cur = some v ∧ v.taken = false ∧ s.pmr.merge = []) ∧
    (∃ (v : Vault) (fails : List Nat) (us : Nat) (s : State), s.vlt.cur = some v ∧ v.sealed = false ∧ v.tail = true ∧ v.cause ≠
      .deepPrep ∧ (s.sealCopies v fails).good ≠ []) ∧
    (∃ (v : Vault) (fails : List Nat) (us : Nat) (s : State), s.vlt.cur = some v ∧ v.sealed = false ∧ v.tail = true ∧ v.cause ≠
      .deepPrep ∧ (s.sealCopies v fails).good = []) ∧
    (∃ (v : Vault) (s : State), s.vlt.cur = some v ∧ ((v.sealed = true ∧ v.tailPage = true) ∨ v.failed = true) ∧ s.vlt.input =
      false ∧ s.flag Reg.SUP_STATUS_ON_PENDING = false) ∧
    (∃ (v : Vault) (s : State), s.vlt.cur = some v ∧ v.sealed = true ∧ v.tailPage = true ∧ s.vlt.input = true ∧ s.vlt.counting =
      false ∧ v.cause = .trip ∧ v.offReq = false ∧ v.mrst = false ∧ s.boot.wdtLatch = false) ∧
    (∃ (v : Vault) (s : State), s.vlt.cur = some v ∧ (v.sealed = false ∨ v.tailPage = false) ∧ v.failed = false) ∧
    (∃ (v : Vault) (s : State), s.vlt.cur = some v ∧ v.sealed = true ∧ v.tailPage = true ∧ s.vlt.input = true ∧ v.cause =
      .longPress) ∧
    (∃ (s : State), s.seqState = seqOn ∧ s.vlt.cur = none ∧ s.boot.starting = false ∧ s.vlt.input = true ∧ s.vlt.counting =
      false ∧ s.pmr.st = .closed ∧ s.domSt .host = .off ∧ s.unopened = true ∧ s.pair = false) ∧
    (∃ (k ms : Nat) (fails worn : List Nat) (s : State), s.vlt.openKind = some k ∧ s.vlt.input = true ∧ s.vlt.formatRun = false
      ∧ ((s.openReady k worn).openCopies fails).good ≠ []) ∧
    (∃ (k ms : Nat) (fails worn : List Nat) (s : State), s.vlt.openKind = some k ∧ s.vlt.input = true ∧ s.grt.openFails < 2 ∧
      ((s.openReady k worn).openCopies fails).good = []) ∧
    (∃ (k ms : Nat) (fails worn : List Nat) (s : State), s.vlt.openKind = some k ∧ s.vlt.input = true ∧ s.grt.openFails = 2 ∧
      ((s.openReady k worn).openCopies fails).good = []) :=
   ⟨⟨Vault.start .trip true false, 0, 65535, 65536, sets
     { run with vlt := { run.vlt with cur := some (Vault.start .trip true false) } } [(Reg.SUP_SEQ_STATUS_STATE, 4)], by
     decide +kernel⟩,
    ⟨{ Vault.start .trip true false with tail := true }, [], 7, sets
         { run with vlt := { run.vlt with cur := some ({ Vault.start .trip true false with tail := true }) }, flc :=
                                            { run.flc with luns := [(0, { Lun.none with st := .active })] }, grt :=
                                            { run.grt with recs := [⟨0, 0, 0, 1, [⟨1, 0, .head, false⟩]⟩], tbl := [(0,
                                                             { Blk.fresh with st := .record })] } } [(Reg.SUP_SEQ_STATUS_STATE,
                      4), (Reg.GRT_GEOM_PAGES, 64), (Reg.GRT_GEOM_BLOCKS, 512)], by decide +kernel⟩,
    ⟨{ Vault.start .trip true false with tail := true }, [0], 7, sets
         { run with vlt := { run.vlt with cur := some ({ Vault.start .trip true false with tail := true }) } }
                      [(Reg.SUP_SEQ_STATUS_STATE, 4)], by decide +kernel⟩,
    ⟨{ Vault.start .trip true false with sealed := true, tailPage := true }, sets
         { run with vlt := { run.vlt with cur := some ({ Vault.start .trip true false with sealed := true, tailPage := true }) }
                                            } [(Reg.SUP_SEQ_STATUS_STATE, 4)], by decide +kernel⟩,
    ⟨{ Vault.start .trip true false with sealed := true, tailPage := true }, sets
         { run with vlt := { run.vlt with input := true, cur := some
                                            ({ Vault.start .trip true false with sealed := true, tailPage := true }) } }
                      [(Reg.SUP_SEQ_STATUS_STATE, 4)], by decide +kernel⟩,
    ⟨Vault.start .trip true false, sets { run with vlt := { run.vlt with cur := some (Vault.start .trip true false) } }
      [(Reg.SUP_SEQ_STATUS_STATE, 4)], by decide +kernel⟩,
    ⟨{ Vault.start .longPress false false with sealed := true, tailPage := true }, sets
         { run with vlt := { run.vlt with input := true, cur := some
                                            ({ Vault.start .longPress false false with sealed := true, tailPage := true }) } }
                      [(Reg.SUP_SEQ_STATUS_STATE, 4)], by decide +kernel⟩,
    ⟨sets { run with vlt := { run.vlt with input := true }, pwr :=
                       { run.pwr with dom := lset run.pwr.dom Domain.host.idx .off }, flc :=
                       { run.flc with luns := [(0, { Lun.none with st := .active })] }, grt :=
                       { run.grt with opens := [⟨0, 0, 0, 0, 0, 0, 0, 0, 0, 0, 0, 0, 0, [], 0⟩], seals := [⟨1, 1, 0, 0, 0, 0, 0,
                                        0, 0, 0, 0, 0, 0, 0, 0, 0, 0, 0, 0, 0, 0, 0, 0, []⟩], recs := [⟨0, 0, 0, 1, [⟨0, 0,
                                        .head, false⟩, ⟨0, 0, .opened, false⟩]⟩], tbl := [(0,
                                        { Blk.fresh with st := .record })] } } [(Reg.SUP_SEQ_STATUS_STATE, 2),
      (Reg.GRT_GEOM_PAGES, 64), (Reg.GRT_GEOM_BLOCKS, 512)], by decide +kernel⟩,
    ⟨2, 5, [], [], sets { run with vlt := { run.vlt with input := true, openKind := some 2 }, flc :=
                                     { run.flc with luns := [(0, { Lun.none with st := .active })] }, grt :=
                                     { run.grt with recs := [⟨0, 0, 0, 1, [⟨1, 0, .head, false⟩]⟩], tbl := [(0,
                                                      { Blk.fresh with st := .record })] } } [(Reg.GRT_GEOM_PAGES, 64),
      (Reg.GRT_GEOM_BLOCKS, 512)], by decide +kernel⟩,
    ⟨2, 5, [0], [], { run with vlt := { run.vlt with input := true, openKind := some 2 }, grt :=
                                 { run.grt with openFails := 1 } }, by decide +kernel⟩,
    ⟨2, 5, [0], [], { run with vlt := { run.vlt with input := true, openKind := some 2 }, grt :=
                                 { run.grt with openFails := 2 } }, by decide +kernel⟩⟩

/-- Each clause of Restores has states and operands that meet its hypotheses. -/
theorem wit_restores :
    (∃ (bad : List (Nat × Nat × Nat)) (differ : Bool) (s : State), s.boot.starting = true ∧ s.boot.startStep = 6 ∧ s.get
      Reg.VLT_STATUS_PHASE = 7 ∧ s.vlt.openKind = none ∧ s.flag Reg.PWR_AON_AON_LOST = true ∧ s.ech.vinfoOwn = none ∧
      s.grt.formatted = true) ∧
    (∃ (bad : List (Nat × Nat × Nat)) (differ : Bool) (s : State), s.boot.starting = true ∧ s.boot.startStep = 6 ∧ s.get
      Reg.VLT_STATUS_PHASE = 7 ∧ s.vlt.openKind = none ∧ s.flag Reg.PWR_AON_AON_LOST = true ∧ s.ech.vinfoOwn = none ∧
      s.grt.formatted = false ∧ s.flag Reg.SYS_STATUS_SAFE = false ∧ (s.boot.running.map (fun i => i.firstFormat)).getD false =
      false) ∧
    (∃ (bad : List (Nat × Nat × Nat)) (differ : Bool) (s : State), (s.boot.starting = false ∨ s.flag Reg.PWR_AON_AON_LOST =
      false)) ∧
    (∃ (ms badSums far openMs : Nat) (lost : List (Nat × Nat)) (clash failed : List Nat) (differ : List JEnt) (s : State),
      s.boot.starting = true ∧ s.boot.startStep = 6 ∧ s.get Reg.VLT_STATUS_PHASE = 7 ∧ s.vlt.openKind = none ∧ s.ech.vinfoOwn =
      none ∧ s.vlt.basisOwn ≠ 0 ∧ s.pair = false ∧ s.flag Reg.SYS_STATUS_SAFE = false) ∧
    (∃ (ms badSums far openMs : Nat) (lost : List (Nat × Nat)) (clash failed : List Nat) (differ : List JEnt) (s : State),
      (s.boot.starting = false ∨ s.vlt.basisOwn = 0)) ∧
    (∃ (s : State), s.vlt.waitPeer = true ∧ s.flag Reg.SYS_STATUS_SAFE = false) ∧
    (∃ (s : State), s.vlt.waitPeer = false) ∧
    (∃ (g us : Nat) (v : GVer) (s : State), (s.ent g).st = .fetching ∧ (s.ent g).fromPeer = false ∧ s.verOf g = some v ∧ mget
      s.pmr.merge g = none ∧ s.pmr.waitReads = [] ∧ s.ech.greqIn = [] ∧ s.ech.fwdIn = [] ∧ s.ech.mwrWait = [] ∧ s.granFrozen g =
      false ∧ s.dramClean = true ∧ s.vaulting = false) ∧
    (∃ (g us : Nat) (v : GVer) (s : State), (s.ent g).st = .notCopied ∧ s.verOf g = some v ∧ s.copyTurn g = true ∧ s.flag
      Reg.VLT_CTRL_COPY_PAUSE = false ∧ s.pmr.st ≠ .closed ∧ mget s.pmr.merge g = none ∧ s.pmr.waitReads = [] ∧ s.ech.greqIn =
      [] ∧ s.ech.fwdIn = [] ∧ s.ech.mwrWait = [] ∧ s.granFrozen g = false ∧ s.dramClean = true ∧ s.vaulting = false) ∧
    (∃ (g us : Nat) (s : State), (s.ent g).st = .fetching ∧ (s.ent g).fromPeer = false ∧ s.peerHas = false ∧ s.granFrozen g =
      false ∧ mget s.pmr.merge g = none ∧ s.pmr.waitReads = [] ∧ s.ech.greqIn = [] ∧ s.ech.fwdIn = [] ∧ s.ech.mwrWait = []) ∧
    (∃ (g us : Nat) (ok : Bool) (s : State), (s.ent g).st = .noVersion ∧ s.flag Reg.VLT_CTRL_COPY_PAUSE = false ∧ s.vaulting =
      false ∧ s.pmr.st ≠ .closed ∧ s.copyTurn g = true ∧ g < s.cacheGrans) ∧
    (∃ (g us : Nat) (ok : Bool) (s : State), (s.ent g).st ≠ .fetching ∧ s.flag Reg.VLT_CTRL_COPY_PAUSE = true) ∧
    (∃ (s : State), s.flag Reg.VLT_CTRL_COPY_PAUSE = true) :=
   ⟨⟨[], false, sets { run with boot := { run.boot with starting := true, startStep := 6 }, grt :=
                                  { run.grt with formatted := true } } [(Reg.VLT_STATUS_PHASE, 7), (Reg.PWR_AON_AON_LOST, 1)],
     by decide +kernel⟩,
    ⟨[], false, sets { run with boot := { run.boot with starting := true, startStep := 6 } } [(Reg.VLT_STATUS_PHASE, 7),
      (Reg.PWR_AON_AON_LOST, 1)], by decide +kernel⟩,
    ⟨[], false, run, by decide +kernel⟩,
    ⟨5, 0, 0, 3, [], [], [], [], sets
      { run with boot := { run.boot with starting := true, startStep := 6 }, vlt := { run.vlt with basisOwn := 6 } }
      [(Reg.VLT_STATUS_PHASE, 7)], by decide +kernel⟩,
    ⟨5, 0, 0, 3, [], [], [], [], run, by decide +kernel⟩,
    ⟨{ run with vlt := { run.vlt with waitPeer := true } }, by decide +kernel⟩,
    ⟨run, by decide +kernel⟩,
    ⟨0, 5, ⟨0, .a, 1, 0, false, 0, false, 0, []⟩,
      { run with grt := { run.grt with stripes := [(⟨0, 0, 0, 0, 0, 0, 0, [], [], .data [some ⟨0, .a, 1, 0, false, 0, false, 0,
                                         []⟩]⟩ : Stripe)] }, cache :=
                   { run.cache with map := [(0, ⟨.fetching, some (0, 0, 0), false, false⟩)] } }, by decide +kernel⟩,
    ⟨0, 5, (⟨0, .a, 1, 0, false, 0, false, 0, []⟩ : GVer), sets
      { run with pmr := { run.pmr with st := .readOnly }, grt :=
                   { run.grt with stripes := [(⟨0, 0, 0, 0, 0, 0, 0, [], [], .data [some ⟨0, .a, 1, 0, false, 0, false, 0, []⟩]⟩
                                    : Stripe)] }, cache :=
                   { run.cache with map := [(0, ⟨.notCopied, some (0, 0, 0), false, false⟩)] } } [(Reg.DMC_GEOM_CAP_GIB, 1)], by
      decide +kernel⟩,
    ⟨0, 5, { run with cache := { run.cache with map := [(0, ⟨.fetching, some (0, 0, 0), false, false⟩)] } }, by decide +kernel⟩,
    ⟨0, 5, true, sets { run with pmr := { run.pmr with st := .readOnly } } [(Reg.DMC_GEOM_CAP_GIB, 1)], by decide +kernel⟩,
    ⟨0, 5, true, sets run [(Reg.VLT_CTRL_COPY_PAUSE, 1)], by decide +kernel⟩,
    ⟨sets run [(Reg.VLT_CTRL_COPY_PAUSE, 1)], by decide +kernel⟩⟩

/-- Each clause of Starts has states and operands that meet its hypotheses. -/
theorem wit_starts :
    (∃ (i : StartIn) (s : State), s.startReady = true ∧ s.boot.startStep = 1 ∧ s.get Reg.SUP_SEQ_STATUS_ATTEMPT = 0 ∧ i.norMeets
      = false) ∧
    (∃ (i : StartIn) (s : State), s.startReady = true ∧ s.boot.startStep = 1 ∧ s.get Reg.SUP_SEQ_STATUS_ATTEMPT = 0 ∧ i.norMeets
      = true ∧ s.boot.banks = [none, none] ∧ s.boot.wantsSafe = false) ∧
    (∃ (i : StartIn) (im : Image) (s : State), s.startReady = true ∧ s.boot.startStep = 1 ∧ s.get Reg.SUP_SEQ_STATUS_ATTEMPT = 0
      ∧ i.norMeets = true ∧ s.boot.powered = true ∧ s.boot.startRec = false ∧ s.boot.bootLog.length < 2048 ∧ s.boot.commits = []
      ∧ s.boot.banks = [some im, none] ∧ s.imgValid im = true ∧ s.boot.wantsSafe = false) ∧
    (∃ (i : StartIn) (im : Image) (s : State), s.startReady = true ∧ s.boot.startStep = 4 ∧ s.seqState = seqOn ∧ s.rails.wait =
      .none ∧ s.get Reg.SYS_STATUS_PATH = 1 ∧ i.norMeets = true ∧ s.boot.commits = [] ∧ s.boot.banks = [some im, none] ∧
      s.imgValid im = true ∧ s.boot.wantsSafe = false ∧ s.domOn .ctrl = false) ∧
    (∃ (i : StartIn) (s : State), s.startReady = true ∧ s.boot.startStep = 4 ∧ s.seqState = seqOn ∧ s.rails.wait = .none ∧ s.get
      Reg.SYS_STATUS_PATH = 1 ∧ i.norMeets = false) ∧
    (∃ (i : StartIn) (s : State), s.startReady = true ∧ s.boot.startStep = 5 ∧ s.domainsUp = true ∧ s.get Reg.SYS_STATUS_PATH =
      0 ∧ s.flag Reg.SYS_STATUS_NO_IMAGE = true) ∧
    (∃ (i : StartIn) (im : Image) (s : State), s.startReady = true ∧ s.boot.startStep = 5 ∧ s.domainsUp = true ∧ s.get
      Reg.SYS_STATUS_PATH = 1 ∧ s.flag Reg.SYS_STATUS_NO_IMAGE = false ∧ s.flag Reg.SYS_STATUS_SAFE = false ∧ s.boot.running =
      some im ∧ 0 < im.patches ∧ i.patchOk = false) ∧
    (∃ (i : StartIn) (s : State), s.boot.hotWait = true) ∧
    (∃ (i : StartIn) (s : State), s.boot.hotWait = true) :=
   ⟨⟨startIn false, { run with boot := { run.boot with starting := true, startStep := 1 } }, by decide +kernel⟩,
    ⟨startIn true, { run with boot := { run.boot with starting := true, startStep := 1 } }, by decide +kernel⟩,
    ⟨startIn true, img, { run with boot := { run.boot with starting := true, startStep := 1, powered := true, commits := [],
                                                             banks := [some img, none], otpSlots := [(true, false), (false,
                                                             false), (false, false), (false, false)], otpHash := [9, 0, 0, 0],
                                                             fuses := [(Reg.SYS_OTP_SVN_MIN.key, 0), (Reg.SYS_ID_ORDER.key, 0)]
                                                             } }, by decide +kernel⟩,
    ⟨startIn true, img, sets
      { run with boot := { run.boot with starting := true, startStep := 4, commits := [], banks := [some img, none], otpSlots :=
                                           [(true, false), (false, false), (false, false), (false, false)], otpHash := [9, 0, 0,
                                           0], fuses := [(Reg.SYS_OTP_SVN_MIN.key, 0), (Reg.SYS_ID_ORDER.key, 0)] }, pwr :=
                   { run.pwr with dom := lset run.pwr.dom Domain.ctrl.idx .off } } [(Reg.SUP_SEQ_STATUS_STATE, 2),
      (Reg.SYS_STATUS_PATH, 1)], by decide +kernel⟩,
    ⟨startIn false, sets { run with boot := { run.boot with starting := true, startStep := 4 } } [(Reg.SUP_SEQ_STATUS_STATE, 2),
      (Reg.SYS_STATUS_PATH, 1)], by decide +kernel⟩,
    ⟨startIn true, sets { run with boot := { run.boot with starting := true, startStep := 5 } } [(Reg.SYS_STATUS_NO_IMAGE, 1)],
      by decide +kernel⟩,
    ⟨{ startIn true with patchOk := false }, img, sets
         { run with boot := { run.boot with starting := true, startStep := 5, running := some img } } [(Reg.SYS_STATUS_PATH,
         1)], by decide +kernel⟩,
    ⟨startIn true, { run with boot := { run.boot with hotWait := true } }, by decide +kernel⟩,
    ⟨startIn true, { run with boot := { run.boot with hotWait := true } }, by decide +kernel⟩⟩

/-- Each clause of Watchdog has states and operands that meet its hypotheses. -/
theorem wit_watchdog :
    (∃ (s : State), s.wdtRuns = true ∧ s.boot.wdtStage = 1) ∧
    (∃ (v : Vault) (s : State), s.wdtRuns = true ∧ s.boot.wdtStage = 2 ∧ s.vlt.cur = some v) ∧
    (∃ (s : State), s.wdtRuns = true ∧ s.boot.wdtStage = 2 ∧ s.vlt.cur = none ∧ s.boot.starting = true) ∧
    (∃ (s : State), s.wdtRuns = true ∧ s.boot.wdtStage = 2 ∧ s.vlt.cur = none ∧ s.boot.starting = false ∧ s.boot.trial = false)
      ∧
    (∃ (s : State), s.wdtRuns = false) ∧
    (∃ (s : State), s.domOn .aon = true ∧ s.flag Reg.PWR_AON_LP_MODE = false) ∧
    (∃ (im : Image) (s : State), s.boot.trial = true ∧ s.boot.starting = false ∧ s.boot.running = some im ∧ im.svnLock = true ∧
      s.boot.commits.length < 32) ∧
    (∃ (journal : Bool) (fails : Nat) (s : State), s.domOn .aon = true ∧ 0 < fails) ∧
    (∃ (journal : Bool) (fails : Nat) (s : State), s.domOn .aon = true ∧ 0 < fails) ∧
    (∃ (s : State), s.domOn .sup = true ∧ s.evrMode ≠ 1 ∧ s.evrMode ≠ 3) ∧
    (∃ (im : Image) (s : State), s.boot.aonPatchWait = true ∧ s.seqState = seqOn ∧ s.boot.running = some im) ∧
    (∃ (s : State), 10 ≤ s.boot.tempHot ∧ s.vlt.cur = none ∧ s.seqState = seqOn ∧ s.InRun ∧ s.rails.openedThisStart = true) ∧
    (∃ (s : State), s.boot.tempHot < 10) ∧
    (∃ (c : Int) (s : State), s.domOn .sup = true) :=
   ⟨⟨sets { run with boot := { run.boot with wdtStage := 1 } } [(Reg.SUP_SEQ_STATUS_STATE, 2)], by decide +kernel⟩,
    ⟨Vault.start .trip true false, sets
      { run with vlt := { run.vlt with cur := some (Vault.start .trip true false) }, boot := { run.boot with wdtStage := 2 } }
      [(Reg.SUP_SEQ_STATUS_STATE, 4)], by decide +kernel⟩,
    ⟨sets { run with boot := { run.boot with wdtStage := 2, starting := true } } [(Reg.SUP_SEQ_STATUS_STATE, 1)], by
      decide +kernel⟩,
    ⟨sets { run with boot := { run.boot with wdtStage := 2 } } [(Reg.SUP_SEQ_STATUS_STATE, 2)], by decide +kernel⟩,
    ⟨run, by decide +kernel⟩,
    ⟨run, by decide +kernel⟩,
    ⟨img, { run with boot := { run.boot with trial := true, running := some img } }, by decide +kernel⟩,
    ⟨false, 1, run, by decide +kernel⟩,
    ⟨false, 1, run, by decide +kernel⟩,
    ⟨run, by decide +kernel⟩,
    ⟨img, sets { run with boot := { run.boot with aonPatchWait := true, running := some img } } [(Reg.SUP_SEQ_STATUS_STATE, 2)],
      by decide +kernel⟩,
    ⟨sets { run with boot := { run.boot with tempHot := 10 }, rails := { run.rails with openedThisStart := true } }
      [(Reg.SUP_SEQ_STATUS_STATE, 2)], by decide +kernel⟩,
    ⟨{ run with boot := { run.boot with tempHot := 9 } }, by decide +kernel⟩,
    ⟨125, run, by decide +kernel⟩⟩

/-- Each clause of ClockAndLeave has states and operands that meet its hypotheses. -/
theorem wit_clock_and_leave :
    (∃ (count : Nat) (s : State), s.domOn .aon = true ∧ 24292 ≤ count ∧ count ≤ 24536) ∧
    (∃ (count : Nat) (s : State), s.domOn .aon = true ∧ (count < 24292 ∨ 24536 < count) ∧ s.pwr.badWindows = 0) ∧
    (∃ (count : Nat) (s : State), s.domOn .aon = true ∧ (count < 24292 ∨ 24536 < count) ∧ s.pwr.badWindows = 1 ∧ s.flag
      Reg.CLK_STATUS_FAULT = false ∧ s.flag Reg.CLK_STATUS_LOCK = true) ∧
    (∃ (s : State), s.flag Reg.CLK_STATUS_FAULT = false ∧ s.flag Reg.CLK_STATUS_LOCK = true) ∧
    (∃ (s : State), s.flag Reg.CLK_STATUS_FAULT = true) ∧
    (∃ (margins : List (Nat × Nat)) (s : State), s.pwr.relocking = true ∧ s.mayReopen = true ∧ s.lowMargins margins = []) ∧
    (∃ (margins : List (Nat × Nat)) (s : State), s.pwr.relocking = true) ∧
    (∃ (op : LeaveOp) (s : State), s.leaveBudget - s.get Reg.PWR_LEAVE_BUDGET_BASE_MW < s.leaveCost op) ∧
    (∃ (op : LeaveOp) (s : State), s.leaveCost op ≤ s.leaveBudget - s.get Reg.PWR_LEAVE_BUDGET_BASE_MW ∧ (∀ l ∈ s.broker.queue,
      l.id ≠ s.broker.nextId)) ∧
    (∃ (l : Leave) (s : State), s.broker.queue.filter (fun x => x.id == l.id) = [l] ∧ (∀ x ∈ s.broker.queue, x.aged = false) ∧
      s.vaulting = false ∧ s.rehearsing = false ∧ s.broker.heldMw + l.cost ≤ s.leaveBudget - s.get Reg.PWR_LEAVE_BUDGET_BASE_MW)
      :=
   ⟨⟨24292, run, by decide +kernel⟩,
    ⟨24291, run, by decide +kernel⟩,
    ⟨24537, sets { run with pwr := { run.pwr with badWindows := 1 } } [(Reg.CLK_STATUS_LOCK, 1)], by decide +kernel⟩,
    ⟨sets run [(Reg.CLK_STATUS_LOCK, 1)], by decide +kernel⟩,
    ⟨sets run [(Reg.CLK_STATUS_FAULT, 1)], by decide +kernel⟩,
    ⟨[], sets { run with pwr := { run.pwr with relocking := true }, rails := { run.rails with openedThisStart := true } }
      [(Reg.SUP_SEQ_STATUS_STATE, 2)], by decide +kernel⟩,
    ⟨[], { run with pwr := { run.pwr with relocking := true } }, by decide +kernel⟩,
    ⟨.phyEcho, sets run [(Reg.PWR_LEAVE_COST0_PHY_MW, 1)], by decide +kernel⟩,
    ⟨.phyEcho, run, by decide +kernel⟩,
    ⟨⟨3, .seepStripe, 5, false⟩, sets
      { run with broker := { run.broker with queue := [⟨3, .seepStripe, 5, false⟩], nextId := 4 } }
      [(Reg.PWR_LEAVE_BUDGET_RUN_MW, 5)], by decide +kernel⟩⟩

/-- Each clause of LanternWork has states and operands that meet its hypotheses. -/
theorem wit_lantern_work :
    (∃ (s : State), s.domOn .sup = true ∧ s.domOn .ctrl = true ∧ s.asleep = false) ∧
    (∃ (a : Sample) (s : State), s.domOn .sup = true ∧ s.asleep = true ∧ a.port < 8 ∧ measured (s.modSt a.port) = true) ∧
    (∃ (n : Nat) (s : State), n < 8 ∧ measured (s.modSt n) = true) ∧
    (∃ (n : Nat) (ua uv temp : Int) (f : Profile) (s : State), n < 8 ∧ measured (s.modSt n) = true ∧ s.flag
      (Reg.LAN_Mn_STATUS_LOWCUR n) = true ∧ s.asleep = false ∧ s.profOf n = some f) ∧
    (∃ (n : Nat) (s : State), n < 8) ∧
    (∃ (n : Nat) (s : State), n < 8 ∧ measured (s.modSt n) = true ∧ s.lan.learn = none ∧ s.lan.rest = none) ∧
    (∃ (s : State), s.domOn .ctrl = true ∧ s.asleep = false ∧ s.vaulting = false) ∧
    (∃ (s : State), s.vaulting = true) ∧
    (∃ (n : Nat) (s : State), n < 8 ∧ s.restMay n = true) ∧
    (∃ (n : Nat) (s : State), s.restMay n = false) ∧
    (∃ (n : Nat) (uvPerS uv : Int) (f : Profile) (s : State), n < 8 ∧ s.lan.rest = some n ∧ s.profOf n = some f) ∧
    (∃ (n p since : Nat) (rest : List (Nat × Nat)) (s : State), s.lan.retry.contains n = false ∧ s.lan.learn = none ∧ s.lan.rest
      = none ∧ s.lan.due = (p, since) :: rest ∧ s.learnFirst since = true ∧ s.learnMay p = true ∧ s.holdsOp (.learnCycle p) =
      true) ∧
    (∃ (n p since : Nat) (rest : List (Nat × Nat)) (s : State), s.lan.retry.contains n = false ∧ s.lan.learn = none ∧ s.lan.rest
      = none ∧ s.lan.due = (p, since) :: rest ∧ s.learnFirst since = true ∧ s.learnMay p = false) ∧
    (∃ (l : Learn) (s : State), s.lan.learn = some l ∧ l.step = 1) ∧
    (∃ (l : Learn) (s : State), s.lan.learn = some l ∧ l.step = 1 ∧ l.paused = false) ∧
    (∃ (l : Learn) (f : Profile) (uv : Int) (s : State), s.lan.learn = some l ∧ l.step = 1 ∧ l.paused = true ∧ l.port < 8 ∧
      s.profOf l.port = some f ∧ s.learnMay l.port = true) ∧
    (∃ (l : Learn) (ua uv : Int) (s : State), s.lan.learn = some l ∧ l.step = 2 ∧ s.learnLow l ua uv = true ∧ l.port < 8 ∧
      s.vlt.cur = none ∧ s.rehearsing = false) ∧
    (∃ (l : Learn) (f : Profile) (uvPerS uv : Int) (s : State), s.lan.learn = some l ∧ l.step = 3 ∧ l.port < 8 ∧ s.profOf l.port
      = some f ∧ (s.learnResult l f (f.volts uv)).2 = true) ∧
    (∃ (l : Learn) (f : Profile) (uvPerS uv : Int) (s : State), s.lan.learn = some l ∧ l.step = 3 ∧ l.port < 8 ∧ s.profOf l.port
      = some f ∧ (s.learnResult l f (f.volts uv)).2 = false) ∧
    (∃ (l : Learn) (s : State), s.lan.learn = some l ∧ l.step = 4) ∧
    (∃ (l : Learn) (ua uv : Int) (s : State), s.lan.learn = some l ∧ s.learnLow l ua uv = false) ∧
    (∃ (l : Learn) (uv : Option Int) (s : State), s.lan.learn = some l ∧ s.guardFires l uv = false) ∧
    (∃ (l : Learn) (uv : Option Int) (s : State), s.lan.learn = some l ∧ l.step = 2 ∧ s.guardFires l uv = true ∧ s.vlt.cur =
      none ∧ s.rehearsing = false) :=
   ⟨⟨run, by decide +kernel⟩,
    ⟨⟨0, 1, 0, 0, 0, 0⟩, sets run [(Reg.PWR_STATUS_STATE, 2), (Reg.SUP_SEQ_STATUS_STATE, 2), ((Reg.LAN_Mn_STATUS_STATE 0), 3)],
      by decide +kernel⟩,
    ⟨7, sets run [((Reg.LAN_Mn_STATUS_STATE 7), 3)], by decide +kernel⟩,
    ⟨0, 1, 1, 20, edlc, sets
      { run with lan := { run.lan with mods := [(0, { Module.init with profile := some 0, valid := true, temp := 20 })],
                                         profiles := [(0, edlc)] } } [((Reg.LAN_Mn_STATUS_STATE 0), 3),
      ((Reg.LAN_Mn_STATUS_LOWCUR 0), 1)], by decide +kernel⟩,
    ⟨7, run, by decide +kernel⟩,
    ⟨7, sets run [((Reg.LAN_Mn_STATUS_STATE 7), 3)], by decide +kernel⟩,
    ⟨run, by decide +kernel⟩,
    ⟨{ run with vlt := { run.vlt with cur := some (Vault.start .trip true false) } }, by decide +kernel⟩,
    ⟨0, sets run [((Reg.LAN_Mn_STATUS_STATE 0), 3), (Reg.SYS_OPSEC_SECONDS, 10000000)], by decide +kernel⟩,
    ⟨0, run, by decide +kernel⟩,
    ⟨0, 1, 1, edlc, { run with lan := { run.lan with rest := some 0, mods := [(0,
                                                       { Module.init with profile := some 0, valid := true, temp := 20 })],
                                                       profiles := [(0, edlc)] } }, by decide +kernel⟩,
    ⟨0, 0, 0, [], sets { run with lan := { run.lan with due := [(0, 0)], mods := [(0,
                                                          { Module.init with profile := some 0, valid := true, temp := 20 })],
                                                          profiles := [(0, edlc)] }, broker :=
                                    { run.broker with held := [⟨0, .learnCycle 0, 0, false⟩] }, vlt :=
                                    { run.vlt with input := true }, pmr := { run.pmr with st := .opened } }
      [((Reg.LAN_Mn_STATUS_STATE 0), 3)], by decide +kernel⟩,
    ⟨0, 0, 0, [], { run with lan := { run.lan with due := [(0, 0)] } }, by decide +kernel⟩,
    ⟨⟨0, 1, false, 0, 0⟩, { run with lan := { run.lan with learn := some ⟨0, 1, false, 0, 0⟩ } }, by decide +kernel⟩,
    ⟨⟨0, 1, false, 0, 0⟩, { run with lan := { run.lan with learn := some ⟨0, 1, false, 0, 0⟩ } }, by decide +kernel⟩,
    ⟨⟨0, 1, true, 0, 0⟩, edlc, 1, sets
      { run with lan := { run.lan with learn := some ⟨0, 1, true, 0, 0⟩, mods := [(0,
                                         { Module.init with profile := some 0, valid := true, temp := 20 })], profiles := [(0,
                                         edlc)] }, vlt := { run.vlt with input := true }, pmr :=
                   { run.pmr with st := .opened } } [((Reg.LAN_Mn_STATUS_STATE 0), 3)], by decide +kernel⟩,
    ⟨⟨0, 2, false, 0, 0⟩, 0, 0,
      { run with lan := { run.lan with learn := some ⟨0, 2, false, 0, 0⟩, mods := [(0,
                                         { Module.init with profile := some 0, valid := true, temp := 20 })], profiles := [(0,
                                         edlc)] } }, by decide +kernel⟩,
    ⟨⟨0, 3, false, 4, 35⟩, edlc, 1, 500000,
      { run with lan := { run.lan with learn := some ⟨0, 3, false, 4, 35⟩, mods := [(0,
                                         { Module.init with profile := some 0, valid := true, temp := 20 })], profiles := [(0,
                                         edlc)] } }, by decide +kernel⟩,
    ⟨⟨0, 3, false, 4, 0⟩, edlc, 1, 500000,
      { run with lan := { run.lan with learn := some ⟨0, 3, false, 4, 0⟩, mods := [(0,
                                         { Module.init with profile := some 0, valid := true, temp := 20 })], profiles := [(0,
                                         edlc)] } }, by decide +kernel⟩,
    ⟨⟨0, 4, false, 0, 0⟩, { run with lan := { run.lan with learn := some ⟨0, 4, false, 0, 0⟩ } }, by decide +kernel⟩,
    ⟨⟨0, 3, false, 4, 0⟩, 0, 3900000,
      { run with lan := { run.lan with learn := some ⟨0, 3, false, 4, 0⟩, mods := [(0,
                                         { Module.init with profile := some 0, valid := true, temp := 20 })], profiles := [(0,
                                         edlc)] } }, by decide +kernel⟩,
    ⟨⟨0, 2, false, 0, 0⟩, some 3900000,
      { run with lan := { run.lan with learn := some ⟨0, 2, false, 0, 0⟩, mods := [(0,
                                         { Module.init with profile := some 0, valid := true, temp := 20 })], profiles := [(0,
                                         edlc)] } }, by decide +kernel⟩,
    ⟨⟨0, 2, false, 0, 0⟩, none, { run with lan := { run.lan with learn := some ⟨0, 2, false, 0, 0⟩ } }, by decide +kernel⟩⟩

/-- Each clause of RecorderWork has states and operands that meet its hypotheses. -/
theorem wit_recorder_work :
    (∃ (src code sev key w queued : Nat) (own : List Nat) (s : State), s.domOn .aon = true ∧ portEntry queued sev = true ∧
      s.openMatch src code (key % 65536) = none ∧ s.evrMode = 0 ∧ s.evr.opens.length < 64 ∧ s.evr.ring.length < 2048 ∧
      s.evr.lostBySev.all (fun n => n == 0) = true) ∧
    (∃ (src code sev key queued : Nat) (own : List Nat) (s : State), s.domOn .aon = true ∧ portEntry queued sev = false) ∧
    (∃ (src code sev key w queued : Nat) (own : List Nat) (o : OpenRec) (s : State), s.domOn .aon = true ∧ portEntry queued sev
      = true ∧ s.openMatch src code (key % 65536) = some o ∧ s.evr.lostBySev.all (fun n => n == 0) = true) ∧
    (∃ (seq : Nat) (o : OpenRec) (s : State), s.evr.opens.find? (fun x => x.evt.seq == seq) = some o ∧ o.written = none ∧
      (o.evt.time % 2 ^ 40) / s.repeatWindow ≠ s.secs / s.repeatWindow) ∧
    (∃ (x : RingSlot) (s : State), s.domOn .aon = true ∧ s.evrMode = 0 ∧ s.evr.provisional = false ∧ s.evr.ring = [x] ∧
      x.flushed = false ∧ s.norFlushes = true ∧ s.evr.norRoom = true ∧ s.evr.lostBySev.all (fun n => n == 0) = true) ∧
    (∃ (x : RingSlot) (s : State), s.domOn .aon = true ∧ s.evrMode = 0 ∧ s.evr.provisional = false ∧ s.evr.ring = [x] ∧
      x.flushed = false ∧ s.norFlushes = false) ∧
    (∃ (x : RingSlot) (s : State), s.domOn .aon = true ∧ s.evrMode = 0 ∧ s.evr.provisional = false ∧ s.evr.ring = [x] ∧
      x.flushed = false) ∧
    (∃ (x : RingSlot) (b : BBBlock) (s : State), s.domOn .ctrl = true ∧ s.domOn .nand = true ∧ s.evrMode = 1 ∧ s.evr.provisional
      = false ∧ s.evr.ring = [x] ∧ x.flushed = false ∧ s.evr.bb = [b] ∧ s.get Reg.EVR_BB_CURRENT = 0 ∧ b.pages.length < s.get
      Reg.GRT_GEOM_PAGES ∧ s.evr.lostBySev.all (fun n => n == 0) = true) ∧
    (∃ (s : State), s.domOn .aon = true ∧ s.evrMode = 0) ∧
    (∃ (s : State), s.domOn .aon = true ∧ s.evrMode = 2) ∧
    (∃ (lost : List Nat) (s : State), s.domOn .aon = true ∧ s.evrMode = 0) ∧
    (∃ (r : Requester) (v : Nat) (s : State), viewOf r = some v) ∧
    (∃ (s : State), s.domOn .ctrl = true ∧ s.evr.clears = []) :=
   ⟨⟨0, 1, 3, 0, 7, 0, [], run, by decide +kernel⟩,
    ⟨0, 1, 6, 0, 32, [], run, by decide +kernel⟩,
    ⟨0, 0x3003, 3, 0, 7, 0, [], ⟨⟨5, 3, false, false, false, false, 0, 0x3003, 0, 1, 0, 0, 0, 0, []⟩, none⟩,
      { run with evr := { run.evr with opens := [⟨⟨5, 3, false, false, false, false, 0, 0x3003, 0, 1, 0, 0, 0, 0, []⟩, none⟩] }
                   }, by decide +kernel⟩,
    ⟨5, ⟨⟨5, 3, false, false, false, false, 0, 0x3003, 0, 1, 0, 0, 0, 0, []⟩, none⟩, sets
      { run with evr := { run.evr with opens := [⟨⟨5, 3, false, false, false, false, 0, 0x3003, 0, 1, 0, 0, 0, 0, []⟩, none⟩] }
                   } [(Reg.SYS_OPSEC_SECONDS, 10000000)], by decide +kernel⟩,
    ⟨⟨⟨5, 3, false, false, false, false, 0, 0x3003, 0, 1, 0, 0, 0, 0, []⟩, false, false⟩, sets
      { run with evr := { run.evr with provisional := false, ring := [⟨⟨5, 3, false, false, false, false, 0, 0x3003, 0, 1, 0, 0,
                                         0, 0, []⟩, false, false⟩] } } [(Reg.EVR_STATUS_SCAN_DONE, 1)], by decide +kernel⟩,
    ⟨⟨⟨5, 3, false, false, false, false, 0, 0x3003, 0, 1, 0, 0, 0, 0, []⟩, false, false⟩,
      { run with evr := { run.evr with provisional := false, ring := [⟨⟨5, 3, false, false, false, false, 0, 0x3003, 0, 1, 0, 0,
                                         0, 0, []⟩, false, false⟩] } }, by decide +kernel⟩,
    ⟨⟨⟨5, 3, false, false, false, false, 0, 0x3003, 0, 1, 0, 0, 0, 0, []⟩, false, false⟩,
      { run with evr := { run.evr with provisional := false, ring := [⟨⟨5, 3, false, false, false, false, 0, 0x3003, 0, 1, 0, 0,
                                         0, 0, []⟩, false, false⟩] } }, by decide +kernel⟩,
    ⟨⟨⟨5, 3, false, false, false, false, 0, 0x3003, 0, 1, 0, 0, 0, 0, []⟩, false, false⟩, ⟨[], 0⟩, sets
      { run with evr := { run.evr with provisional := false, ring := [⟨⟨5, 3, false, false, false, false, 0, 0x3003, 0, 1, 0, 0,
                                         0, 0, []⟩, false, false⟩], bb := [⟨[], 0⟩] } } [(Reg.EVR_MEM_MODE, 1),
      (Reg.GRT_GEOM_PAGES, 1)], by decide +kernel⟩,
    ⟨run, by decide +kernel⟩,
    ⟨sets run [(Reg.EVR_MEM_MODE, 2)], by decide +kernel⟩,
    ⟨[], run, by decide +kernel⟩,
    ⟨.portA, 0, run, by decide +kernel⟩,
    ⟨run, by decide +kernel⟩⟩

/-- Each clause of NvmeIo has states and operands that meet its hypotheses. -/
theorem wit_nvme_io :
    (∃ (p : Port) (qid tail : Nat) (q : SubQ) (s : State), s.Claims p ∧ (s.nvme p).en = true ∧ (s.nvme p).cfs = false ∧ (s.nvme
      p).shn = 0 ∧ (s.port p).bme = true ∧ mget (s.nvme p).sqs qid = some q ∧ tail < q.size) ∧
    (∃ (p : Port) (qid head : Nat) (q : CompQ) (s : State), s.Claims p ∧ (s.nvme p).en = true ∧ mget (s.nvme p).cqs qid = some q
      ∧ head < q.size) ∧
    (∃ (p : Port) (qid slot : Nat) (s : State), s.portLive p = true ∧ (s.nvme p).fetches.contains (qid, slot) = true) ∧
    (∃ (p : Port) (id : CmdId) (s : State), s.portLive p = true ∧ s.fetchOpen p (.data id) = true ∧ (s.nvme p).hasCq id.sq =
      true) ∧
    (∃ (p : Port) (qid slot op prp len : Nat) (id : CmdId) (q : SubQ) (s : State), s.portLive p = true ∧ (s.nvme
      p).fetches.contains (qid, slot) = true ∧ mget (s.nvme p).sqs qid = some q) ∧
    (∃ (p : Port) (i id : CmdId) (op prp len : Nat) (s : State), s.portLive p = true ∧ s.fetchOpen p (.data i) = true) ∧
    (∃ (p : Port) (w : Word) (s : State), s.Claims p) ∧
    (∃ (p : Port) (w : Word) (s : State), s.Claims p) ∧
    (∃ (p : Port) (mse bme : Bool) (s : State), s.InRun ∧ s.portLive p = true) ∧
    (∃ (p : Port) (s : State), s.portLive p = true ∧ (s.nvme p).en = true ∧ (s.nvme p).cfs = false ∧ mgetD (s.nvme p).feats 0x0F
      0 ≠ 0) ∧
    (∃ (p : Port) (id : CmdId) (s : State), s.TakesIo p id ∧ s.nsBar 1 = none) ∧
    (∃ (p : Port) (id : CmdId) (slba : Nat) (data : List Byte) (s : State), s.TakesIo p id ∧ s.rangeBar 1 slba 1 true = none ∧
      data.length = s.grt.ledger.lbaBytes ∧ s.grt.ledger.blocks.length + 1 ≤ s.grt.ledger.ncap ∧ s.get
      Reg.PWR_LEAVE_COST1_PROG_MW ≤ s.leaveBudget - s.get Reg.PWR_LEAVE_BUDGET_BASE_MW) ∧
    (∃ (p : Port) (id : CmdId) (slba : Nat) (s : State), s.TakesIo p id ∧ s.rangeBar 1 slba 1 false = none ∧
      s.grt.ledger.lost.contains slba = false) ∧
    (∃ (p : Port) (id : CmdId) (slba : Nat) (s : State), s.TakesIo p id ∧ s.rangeBar 1 slba 1 false = none) ∧
    (∃ (p : Port) (id : CmdId) (slba nlb : Nat) (s : State), s.TakesIo p id ∧ s.rangeBar 1 slba nlb true = none) ∧
    (∃ (p : Port) (id : CmdId) (slba nlb : Nat) (s : State), s.TakesIo p id ∧ s.rangeBar 1 slba nlb true = none) ∧
    (∃ (p : Port) (id : CmdId) (slba nlb : Nat) (s : State), s.TakesIo p id ∧ s.nsBar 1 = none ∧ s.grt.ledger.nsze < slba + nlb)
      :=
   ⟨⟨.a, 1, 3, ⟨0, 4, 1, 0, 0, 0⟩, run, by decide +kernel⟩,
    ⟨.a, 1, 3, ⟨0, 4, 0, true, 0, 0, true⟩, run, by decide +kernel⟩,
    ⟨.a, 1, 0, { run with host := { run.host with portA := { livePort with nvme := { livePort.nvme with fetches := [(1, 0)] } }
                                                    } }, by decide +kernel⟩,
    ⟨.a, ⟨1, 9⟩, { run with host := { run.host with portA := { livePort with nvme := { livePort.nvme with outs := [⟨⟨1, 9⟩, 256,
                                                                                                            true⟩] } } } }, by
      decide +kernel⟩,
    ⟨.a, 1, 0, 0, 0, 1, ⟨1, 9⟩, ⟨0, 4, 1, 0, 0, 0⟩,
      { run with host := { run.host with portA := { livePort with nvme := { livePort.nvme with fetches := [(1, 0)] } } } }, by
      decide +kernel⟩,
    ⟨.a, ⟨1, 9⟩, ⟨1, 9⟩, 0, 0, 0,
      { run with host := { run.host with portA := { livePort with nvme := { livePort.nvme with outs := [⟨⟨1, 9⟩, 256, true⟩] } }
                                           } }, by decide +kernel⟩,
    ⟨.a, 1, run, by decide +kernel⟩,
    ⟨.a, 1, run, by decide +kernel⟩,
    ⟨.a, false, false, run, by decide +kernel⟩,
    ⟨.a, { run with host := { run.host with portA := { livePort with nvme := { livePort.nvme with feats := [(0x0F, 1)] } } } },
      by decide +kernel⟩,
    ⟨.a, ⟨1, 9⟩, sets { run with grt := { run.grt with ledger := { run.grt.ledger with nsze := 8, ncap := 8 } } }
      [(Reg.FLC_STATUS_READY, 1)], by decide +kernel⟩,
    ⟨.a, ⟨1, 9⟩, 7, List.replicate 4096 0, sets
      { run with grt := { run.grt with ledger := { run.grt.ledger with nsze := 8, ncap := 8 } } } [(Reg.FLC_STATUS_READY, 1)],
      by decide +kernel⟩,
    ⟨.a, ⟨1, 9⟩, 7, sets { run with grt := { run.grt with ledger := { run.grt.ledger with nsze := 8, ncap := 8 } } }
      [(Reg.FLC_STATUS_READY, 1)], by decide +kernel⟩,
    ⟨.a, ⟨1, 9⟩, 7, sets { run with grt := { run.grt with ledger := { run.grt.ledger with nsze := 8, ncap := 8 } } }
      [(Reg.FLC_STATUS_READY, 1)], by decide +kernel⟩,
    ⟨.a, ⟨1, 9⟩, 7, 1, sets { run with grt := { run.grt with ledger := { run.grt.ledger with nsze := 8, ncap := 8 } } }
      [(Reg.FLC_STATUS_READY, 1)], by decide +kernel⟩,
    ⟨.a, ⟨1, 9⟩, 7, 1, sets { run with grt := { run.grt with ledger := { run.grt.ledger with nsze := 8, ncap := 8 } } }
      [(Reg.FLC_STATUS_READY, 1)], by decide +kernel⟩,
    ⟨.a, ⟨1, 9⟩, 7, 2, sets { run with grt := { run.grt with ledger := { run.grt.ledger with nsze := 8, ncap := 8 } } }
      [(Reg.FLC_STATUS_READY, 1)], by decide +kernel⟩⟩

/-- Each clause of NvmeAdmin has states and operands that meet its hypotheses. -/
theorem wit_nvme_admin :
    (∃ (p : Port) (id : CmdId) (qid qsize base vec : Nat) (ien : Bool) (s : State), s.TakesAdmin (.host p) ∧ 1 ≤ qid ∧ qid ≤ 53
      ∧ mget (s.nvme p).cqs qid = none ∧ 1 ≤ qsize ∧ qsize ≤ 4095 ∧ vec ≤ 53) ∧
    (∃ (p : Port) (id : CmdId) (qsize base arg : Nat) (cq pc ien : Bool) (s : State), s.TakesAdmin (.host p)) ∧
    (∃ (p : Port) (id : CmdId) (qid : Nat) (q : SubQ) (s : State), s.TakesAdmin (.host p) ∧ 1 ≤ qid ∧ mget (s.nvme p).sqs qid =
      some q) ∧
    (∃ (req : AdminReq) (id : CmdId) (off len : Nat) (rae : Bool) (s : State), s.TakesAdmin req ∧ off % 4 = 0) ∧
    (∃ (req : AdminReq) (id : CmdId) (lsp off len : Nat) (rae : Bool) (s : State), s.TakesAdmin req ∧ off % 4 = 0) ∧
    (∃ (req : AdminReq) (id : CmdId) (nsid : Nat) (s : State), s.TakesAdmin req) ∧
    (∃ (p : Port) (id target : CmdId) (s : State), s.TakesAdmin (.host p) ∧ (s.nvme p).aers.contains target = true ∧ target.sq =
      0) ∧
    (∃ (p : Port) (id target : CmdId) (s : State), s.TakesAdmin (.host p) ∧ (s.nvme p).aers.contains { target with sq := 0 } =
      false) ∧
    (∃ (p : Port) (id : CmdId) (s : State), s.TakesAdmin (.host p) ∧ (s.nvme p).events = [] ∧ (s.nvme p).aers.length < 8) ∧
    (∃ (p : Port) (id : CmdId) (d : Nat) (rest : List Nat) (s : State), s.TakesAdmin (.host p) ∧ (s.nvme p).events = d :: rest)
      ∧
    (∃ (p : Port) (id : CmdId) (s : State), s.TakesAdmin (.host p)) ∧
    (∃ (req : AdminReq) (id : CmdId) (fid arg : Nat) (s : State), s.TakesAdmin req ∧ featOk fid arg = true) ∧
    (∃ (p : Port) (id : CmdId) (arg : Nat) (s : State), s.TakesAdmin (.host p)) ∧
    (∃ (p : Port) (id : CmdId) (fid arg : Nat) (s : State), s.TakesAdmin (.host p) ∧ featOk fid arg = true) ∧
    (∃ (p : Port) (id : CmdId) (lbaf ses : Nat) (s : State), s.TakesAdmin (.host p) ∧ s.formatBar 1 lbaf ses = none) ∧
    (∃ (p : Port) (id : CmdId) (lbaf ses : Nat) (st : NStat) (s : State), s.TakesAdmin (.host p) ∧ s.formatBar 1 lbaf ses = some
      st) ∧
    (∃ (req : AdminReq) (id : CmdId) (s : State), s.TakesAdmin req ∧ id.sq = 0) ∧
    (∃ (p : Port) (id : CmdId) (s : State), s.TakesIo p id ∧ id.sq ≠ 0) :=
   ⟨⟨.a, ⟨0, 9⟩, 53, 4095, 0, 53, true, run, ⟨takes_host (by decide +kernel), by decide +kernel, by decide +kernel, by
     decide +kernel, by decide +kernel, by decide +kernel, by decide +kernel⟩⟩,
    ⟨.a, ⟨0, 9⟩, 0, 0, 0, true, true, true, run, takes_host (by decide +kernel)⟩,
    ⟨.a, ⟨0, 9⟩, 1, ⟨0, 4, 1, 0, 0, 0⟩, run, ⟨takes_host (by decide +kernel), by decide +kernel, by decide +kernel⟩⟩,
    ⟨.host .a, ⟨0, 9⟩, 4, 4, false, run, ⟨takes_host (by decide +kernel), by decide +kernel⟩⟩,
    ⟨.host .a, ⟨0, 9⟩, 0, 4, 4, false, run, ⟨takes_host (by decide +kernel), by decide +kernel⟩⟩,
    ⟨.host .a, ⟨0, 9⟩, 0, run, takes_host (by decide +kernel)⟩,
    ⟨.a, ⟨0, 9⟩, ⟨0, 5⟩, { run with host := { run.host with portA := { livePort with nvme := { livePort.nvme with aers := [⟨0,
                                                                                                                    5⟩] } } } },
      ⟨takes_host (by decide +kernel), by decide +kernel, by decide +kernel⟩⟩,
    ⟨.a, ⟨0, 9⟩, ⟨0, 5⟩, run, ⟨takes_host (by decide +kernel), by decide +kernel⟩⟩,
    ⟨.a, ⟨0, 9⟩, run, ⟨takes_host (by decide +kernel), by decide +kernel, by decide +kernel⟩⟩,
    ⟨.a, ⟨0, 9⟩, 7, [], { run with host := { run.host with portA := { livePort with nvme := { livePort.nvme with events := [7] }
                                                                                      } } }, ⟨takes_host (by decide +kernel), by
      decide +kernel⟩⟩,
    ⟨.a, ⟨0, 9⟩, run, takes_host (by decide +kernel)⟩,
    ⟨.host .a, ⟨0, 9⟩, 11, 0, run, ⟨takes_host (by decide +kernel), by decide +kernel⟩⟩,
    ⟨.a, ⟨0, 9⟩, 7, run, takes_host (by decide +kernel)⟩,
    ⟨.a, ⟨0, 9⟩, 11, 0, run, ⟨takes_host (by decide +kernel), by decide +kernel⟩⟩,
    ⟨.a, ⟨0, 9⟩, 1, 2, sets run [(Reg.FLC_STATUS_READY, 1)], ⟨takes_host (by decide +kernel), by decide +kernel⟩⟩,
    ⟨.a, ⟨0, 9⟩, 2, 0, stInvalidFormat, run, ⟨takes_host (by decide +kernel), by decide +kernel⟩⟩,
    ⟨.host .a, ⟨0, 9⟩, run, ⟨takes_host (by decide +kernel), by decide +kernel⟩⟩,
    ⟨.a, ⟨1, 9⟩, run, by decide +kernel⟩⟩

/-- Each clause of VendorAdmin has states and operands that meet its hypotheses. -/
theorem wit_vendor_admin :
    (∃ (req : AdminReq) (id : CmdId) (s : State), s.TakesAdmin req) ∧
    (∃ (req : AdminReq) (id : CmdId) (s : State), s.TakesAdmin req ∧ s.pair = false) ∧
    (∃ (req : AdminReq) (id : CmdId) (s : State), s.TakesAdmin req ∧ s.pair = true) ∧
    (∃ (req : AdminReq) (id : CmdId) (s : State), s.TakesAdmin req ∧ s.pair = true ∧ s.canRejoin = true) ∧
    (∃ (req : AdminReq) (id : CmdId) (s : State), s.TakesAdmin req ∧ s.pair = true ∧ s.canRejoin = false) ∧
    (∃ (req : AdminReq) (id : CmdId) (s : State), s.TakesAdmin req ∧ s.pair = true ∧ s.streaming = false) ∧
    (∃ (req : AdminReq) (id : CmdId) (s : State), s.TakesAdmin req ∧ s.pair = true) ∧
    (∃ (req : AdminReq) (id : CmdId) (s : State), s.TakesAdmin req ∧ s.pair = true) ∧
    (∃ (req : AdminReq) (id : CmdId) (data : List Byte) (s : State), s.TakesAdmin req ∧ s.vaulting = false ∧ s.boot.staging =
      none ∧ chunkOk 0 data.length false = true) ∧
    (∃ (req : AdminReq) (id : CmdId) (ofst : Nat) (data : List Byte) (g : Staging) (s : State), s.TakesAdmin req ∧ s.vaulting =
      false ∧ s.boot.staging = some g ∧ g.owner = req.requester.port ∧ chunkOk (4 * ofst) data.length true = true ∧ g.last =
      false ∧ 4 * ofst = g.offset) ∧
    (∃ (found : Nat) (i : Image) (g : Staging) (s : State), s.domOn .ctrl = true ∧ s.boot.staging = some g ∧ g.last = true ∧
      s.verifyFail found i = 0) ∧
    (∃ (found : Nat) (i : Image) (g : Staging) (s : State), s.domOn .ctrl = true ∧ s.boot.staging = some g ∧ g.last = true ∧
      s.verifyFail found i ≠ 0) ∧
    (∃ (req : AdminReq) (id : CmdId) (s : State), s.TakesAdmin req ∧ s.commitBar = none ∧ s.boot.staged.isSome = true ∧ s.get
      Reg.CFG_UPD_STATUS_RESULT = 2 ∧ s.boot.commits.length < 32 ∧ s.flag Reg.SYS_STATUS_SAFE = false) ∧
    (∃ (req : AdminReq) (id : CmdId) (s : State), s.TakesAdmin req ∧ s.commitBar = none ∧ s.boot.staged.isSome = true ∧ s.get
      Reg.CFG_UPD_STATUS_RESULT = 3 ∧ s.boot.commits.length < 32 ∧ s.flag Reg.SYS_STATUS_SAFE = false ∧ s.rails.openedThisStart
      = true) ∧
    (∃ (req : AdminReq) (id : CmdId) (s : State), s.TakesAdmin req ∧ s.commitBar = none ∧ s.boot.staged.isSome = true ∧ s.get
      Reg.CFG_UPD_STATUS_RESULT = 4 ∧ s.boot.commits.length < 32 ∧ s.flag Reg.SYS_STATUS_SAFE = false ∧ s.rails.openedThisStart
      = false) ∧
    (∃ (req : AdminReq) (id : CmdId) (s : State), s.TakesAdmin req ∧ s.commitBar = none ∧ s.boot.staged = none) ∧
    (∃ (req : AdminReq) (id : CmdId) (g : Staging) (s : State), s.TakesAdmin req ∧ s.vaulting = false ∧ s.boot.staging = some g)
      ∧
    (∃ (req : AdminReq) (id : CmdId) (i : Image) (s : State), s.TakesAdmin req ∧ s.commitBar = none ∧ (s.bankImg
      s.otherBank).filter s.imgValid = some i ∧ s.classOf i = 2 ∧ s.flag Reg.SYS_STATUS_SAFE = false) ∧
    (∃ (req : AdminReq) (id : CmdId) (s : State), s.TakesAdmin req) ∧
    (∃ (req : AdminReq) (id : CmdId) (clearTo maxSev scope slot : Nat) (sigHash : List Nat) (c : Challenge) (s : State),
      s.TakesAdmin req ∧ s.flag Reg.EVR_STATUS_CLEAR_LOCK = false ∧ s.vaulting = false ∧ s.rehearsing = false ∧ s.boot.staging =
      none ∧ s.seqState = seqOn ∧ s.evr.challenge = some c ∧ s.boot.otpSlots.getD slot (false, false) = (true, false) ∧ clearTo
      ≤ c.endSeq) ∧
    (∃ (req : AdminReq) (id : CmdId) (clearTo maxSev scope slot : Nat) (keyOk sigOk : Bool) (sigHash : List Nat) (s : State),
      s.TakesAdmin req ∧ s.flag Reg.EVR_STATUS_CLEAR_LOCK = false ∧ s.vaulting = false ∧ s.rehearsing = false ∧ s.boot.staging =
      none ∧ s.seqState = seqOn ∧ s.evr.challenge = none) ∧
    (∃ (req : AdminReq) (id : CmdId) (s : State), s.TakesAdmin req) ∧
    (∃ (req : AdminReq) (id : CmdId) (port : Fin 8) (s : State), s.TakesAdmin req ∧ s.modSt port.val = mService ∧ s.lan.learn =
      none) ∧
    (∃ (req : AdminReq) (id : CmdId) (port : Fin 8) (s : State), s.TakesAdmin req ∧ s.modSt port.val ≠ mService) ∧
    (∃ (req : AdminReq) (id : CmdId) (s : State), s.TakesAdmin req ∧ s.rehMay = true ∧ s.rehRecent = false) ∧
    (∃ (req : AdminReq) (id : CmdId) (s : State), s.TakesAdmin req ∧ s.rehMay = false) ∧
    (∃ (req : AdminReq) (id : CmdId) (o : Nat) (row : RegRow) (s : State), s.TakesAdmin req ∧ inWindow o = true ∧ o % 4 = 0 ∧ (∃
      b, Block.ofOff o = some b ∧ s.domOn b.domain = true) ∧ regAt o = some (row, false) ∧ row.wide = false) ∧
    (∃ (req : AdminReq) (id : CmdId) (o : Nat) (w : Word) (row : RegRow) (s : State), s.TakesAdmin req ∧ s.Writes req.requester
      o w.toNat ∧ inWindow o = true ∧ o % 4 = 0 ∧ regAt o = some (row, false) ∧ (row.flds.map Fld.key).Nodup ∧ (∀ f ∈ row.flds,
      f.OffRecorder) ∧ o ∉ actingOffsets) :=
   ⟨⟨.host .a, ⟨0, 9⟩, run, takes_host (by decide +kernel)⟩,
    ⟨.host .a, ⟨0, 9⟩, run, ⟨takes_host (by decide +kernel), by decide +kernel⟩⟩,
    ⟨.host .a, ⟨0, 9⟩, sets run [(Reg.ECH_STATUS_PAIR_MODE, 1), (Reg.ECH_STATUS_STATE, 3), (Reg.DMC_GEOM_CAP_GIB, 1)],
      ⟨takes_host (by decide +kernel), by decide +kernel⟩⟩,
    ⟨.host .a, ⟨0, 9⟩, sets run [(Reg.ECH_STATUS_PAIR_MODE, 1), (Reg.ECH_STATUS_STATE, 5), (Reg.DMC_GEOM_CAP_GIB, 1)],
      ⟨takes_host (by decide +kernel), by decide +kernel, by decide +kernel⟩⟩,
    ⟨.host .a, ⟨0, 9⟩, sets run [(Reg.ECH_STATUS_PAIR_MODE, 1), (Reg.ECH_STATUS_STATE, 3), (Reg.DMC_GEOM_CAP_GIB, 1)],
      ⟨takes_host (by decide +kernel), by decide +kernel, by decide +kernel⟩⟩,
    ⟨.host .a, ⟨0, 9⟩, sets run [(Reg.ECH_STATUS_PAIR_MODE, 1), (Reg.ECH_STATUS_STATE, 0), (Reg.DMC_GEOM_CAP_GIB, 1)],
      ⟨takes_host (by decide +kernel), by decide +kernel, by decide +kernel⟩⟩,
    ⟨.host .a, ⟨0, 9⟩, sets run [(Reg.ECH_STATUS_PAIR_MODE, 1), (Reg.ECH_STATUS_STATE, 0), (Reg.DMC_GEOM_CAP_GIB, 1)],
      ⟨takes_host (by decide +kernel), by decide +kernel⟩⟩,
    ⟨.host .a, ⟨0, 9⟩, sets run [(Reg.ECH_STATUS_PAIR_MODE, 1), (Reg.ECH_STATUS_STATE, 0), (Reg.DMC_GEOM_CAP_GIB, 1)],
      ⟨takes_host (by decide +kernel), by decide +kernel⟩⟩,
    ⟨.host .a, ⟨0, 9⟩, List.replicate 4096 0, run, ⟨takes_host (by decide +kernel), by decide +kernel, by decide +kernel,
      by rw [List.length_replicate]; decide +kernel⟩⟩,
    ⟨.host .a, ⟨0, 9⟩, 1024, [0, 0, 0, 0], ⟨some .a, 4096, [], false⟩,
      { run with boot := { run.boot with staging := some ⟨some .a, 4096, [], false⟩ } }, ⟨takes_host (by
      decide +kernel), by decide +kernel, by decide +kernel, by decide +kernel, by decide +kernel, by decide +kernel, by
      decide +kernel⟩⟩,
    ⟨0, img, ⟨some .a, 4096, [], true⟩,
      { run with boot := { run.boot with staging := some ⟨some .a, 4096, [], true⟩, otpSlots := [(true, false),
                                           (false, false), (false, false), (false, false)], otpHash := [9, 0, 0, 0], fuses :=
                                           [(Reg.SYS_OTP_SVN_MIN.key, 0), (Reg.SYS_ID_ORDER.key, 0)] } }, by decide +kernel⟩,
    ⟨5, img, ⟨some .a, 4096, [], true⟩,
      { run with boot := { run.boot with staging := some ⟨some .a, 4096, [], true⟩ } }, by decide +kernel⟩,
    ⟨.host .a, ⟨0, 9⟩, sets { run with boot := { run.boot with staged := some img } } [(Reg.SUP_SEQ_STATUS_STATE, 2),
      (Reg.CFG_UPD_STATUS_RESULT, 2)], ⟨takes_host (by decide +kernel), by decide +kernel, by decide +kernel, by decide +kernel,
      by decide +kernel, by decide +kernel⟩⟩,
    ⟨.host .a, ⟨0, 9⟩, sets
      { run with boot := { run.boot with staged := some img }, rails := { run.rails with openedThisStart := true } }
      [(Reg.SUP_SEQ_STATUS_STATE, 2), (Reg.CFG_UPD_STATUS_RESULT, 3)], ⟨takes_host (by decide +kernel), by decide +kernel, by
      decide +kernel, by decide +kernel, by decide +kernel, by decide +kernel, by decide +kernel⟩⟩,
    ⟨.host .a, ⟨0, 9⟩, sets { run with boot := { run.boot with staged := some img } } [(Reg.SUP_SEQ_STATUS_STATE, 2),
      (Reg.CFG_UPD_STATUS_RESULT, 4)], ⟨takes_host (by decide +kernel), by decide +kernel, by decide +kernel, by decide +kernel,
      by decide +kernel, by decide +kernel, by decide +kernel⟩⟩,
    ⟨.host .a, ⟨0, 9⟩, sets { run with boot := { run.boot with staged := none } } [(Reg.SUP_SEQ_STATUS_STATE, 2),
      (Reg.CFG_UPD_STATUS_RESULT, 2)], ⟨takes_host (by decide +kernel), by decide +kernel, by decide +kernel⟩⟩,
    ⟨.host .a, ⟨0, 9⟩, ⟨some .a, 4096, [], false⟩,
      { run with boot := { run.boot with staging := some ⟨some .a, 4096, [], false⟩ } }, ⟨takes_host (by
      decide +kernel), by decide +kernel, by decide +kernel⟩⟩,
    ⟨.host .a, ⟨0, 9⟩, img, sets
      { run with boot := { run.boot with running := some img, banks := [none, some img], otpSlots := [(true, false), (false,
                                           false), (false, false), (false, false)], otpHash := [9, 0, 0, 0], fuses :=
                                           [(Reg.SYS_OTP_SVN_MIN.key, 0), (Reg.SYS_ID_ORDER.key, 0)] } }
      [(Reg.SUP_SEQ_STATUS_STATE, 2)], ⟨takes_host (by decide +kernel), by decide +kernel, by decide +kernel, by decide +kernel,
      by decide +kernel⟩⟩,
    ⟨.host .a, ⟨0, 9⟩, run, takes_host (by decide +kernel)⟩,
    ⟨.host .a, ⟨0, 9⟩, 9, 3, 0, 0, [], ⟨0, 9⟩, sets
      { run with boot := { run.boot with otpSlots := [(true, false), (false, false), (false, false), (false, false)], otpHash :=
                                           [9, 0, 0, 0], fuses := [(Reg.SYS_OTP_SVN_MIN.key, 0), (Reg.SYS_ID_ORDER.key, 0)] },
                   evr := { run.evr with challenge := some ⟨0, 9⟩ } } [(Reg.SUP_SEQ_STATUS_STATE, 2)], ⟨takes_host (by
      decide +kernel), by decide +kernel, by decide +kernel, by decide +kernel, by decide +kernel, by decide +kernel, by
      decide +kernel, by decide +kernel, by decide +kernel⟩⟩,
    ⟨.host .a, ⟨0, 9⟩, 9, 3, 0, 0, true, true, [], sets run [(Reg.SUP_SEQ_STATUS_STATE, 2)], ⟨takes_host (by decide +kernel), by
      decide +kernel, by decide +kernel, by decide +kernel, by decide +kernel, by decide +kernel, by decide +kernel⟩⟩,
    ⟨.host .a, ⟨0, 9⟩, run, takes_host (by decide +kernel)⟩,
    ⟨.host .a, ⟨0, 9⟩, 7, sets run [((Reg.LAN_Mn_STATUS_STATE 7), 3)], ⟨takes_host (by decide +kernel), by decide +kernel, by
      decide +kernel⟩⟩,
    ⟨.host .a, ⟨0, 9⟩, 7, run, ⟨takes_host (by decide +kernel), by decide +kernel⟩⟩,
    ⟨.host .a, ⟨0, 9⟩, sets
      { run with vlt := { run.vlt with input := true }, grt := { run.grt with formatted := true }, pmr :=
                   { run.pmr with st := .opened } } [(Reg.SUP_SEQ_STATUS_STATE, 2)], ⟨takes_host (by decide +kernel), by
      decide +kernel, by decide +kernel⟩⟩,
    ⟨.host .a, ⟨0, 9⟩, run, ⟨takes_host (by decide +kernel), by decide +kernel⟩⟩,
    ⟨.host .a, ⟨0, 9⟩, 0x120000, rowOf 0x120000, run, ⟨takes_host (by decide +kernel), by decide +kernel, by decide +kernel,
      ⟨.pwr, by decide +kernel⟩, by decide +kernel, by decide +kernel⟩⟩,
    ⟨.host .a, ⟨0, 9⟩, 0x1C0020, 0, rowOf 0x1C0020, run, ⟨takes_host (by decide +kernel), writes_of (by decide +kernel), by
      decide +kernel, by decide +kernel, by decide +kernel, by decide +kernel, by decide +kernel, by decide +kernel⟩⟩⟩

/-- Each clause of Management has states and operands that meet its hypotheses. -/
theorem wit_management :
    (∃ (eid : Nat) (s : State), s.InRun ∧ s.domOn .sup = true ∧ s.domOn .ctrl = true ∧ s.vaulting = false) ∧
    (∃ (dtyp ctrl : Nat) (s : State), s.TakesMi) ∧
    (∃ (clear : Bool) (s : State), s.TakesMi) ∧
    (∃ (p : Port) (s : State), s.TakesMi ∧ s.portExists p = true) ∧
    (∃ (cid v : Nat) (s : State), s.TakesMi ∧ s.miConfig cid = some v) ∧
    (∃ (cid : Nat) (s : State), s.TakesMi ∧ s.miConfig cid = none) ∧
    (∃ (v : Nat) (s : State), s.TakesMi ∧ 64 ≤ v ∧ v ≤ 250) ∧
    (∃ (v : Nat) (s : State), s.TakesMi ∧ (v < 64 ∨ 250 < v)) ∧
    (∃ (s : State), s.InRun ∧ s.domOn .sup = true ∧ s.domOn .ctrl = true ∧ s.vaulting = false) ∧
    (∃ (s : State), s.get Reg.PWR_STATUS_STATE = pwrDeep ∧ s.domOn .sup = true ∧ s.vaulting = false) ∧
    (∃ (s : State) (cid : Nat) (addr w : Word) (b : Byte) (pec : Bool), s.domOn .sup = true ∧ s.vaulting = true) ∧
    (∃ (addr : Word) (pec : Bool) (s : State), s.domOn .sup = true ∧ s.vaulting = false ∧ (pec = true ∨ s.host.smb.pecReq =
      false)) ∧
    (∃ (b : Byte) (pec : Bool) (s : State), s.domOn .sup = true ∧ s.vaulting = false ∧ (pec = true ∨ s.host.smb.pecReq = false))
      ∧
    (∃ (s : State), s.domOn .sup = true ∧ s.vaulting = false) ∧
    (∃ (s : State), s.domOn .sup = true ∧ s.vaulting = false) ∧
    (∃ (s : State), s.domOn .ctrl = true ∧ s.vaulting = false) ∧
    (∃ (n : Nat) (s : State), s.domOn .ctrl = true ∧ s.vaulting = false ∧ 1 ≤ n ∧ n ≤ 64) ∧
    (∃ (n : Nat) (s : State), s.domOn .ctrl = true ∧ s.vaulting = false ∧ (n = 0 ∨ 64 < n)) ∧
    (∃ (s : State), s.domOn .ctrl = true ∧ s.vaulting = false) ∧
    (∃ (s : State), s.domOn .ctrl = true ∧ s.vaulting = false) ∧
    (∃ (s : State), s.domOn .ctrl = true ∧ s.vaulting = false) ∧
    (∃ (o n : Nat) (w : Word) (s : State), s.vaulting = true) ∧
    (∃ (o : Nat) (row : RegRow) (b : Block) (s : State), s.domOn .ctrl = true ∧ s.vaulting = false ∧ smbRange o = false ∧
      Block.ofOff o = some b ∧ s.domOn b.domain = true ∧ regAt o = some (row, false) ∧ row.wide = false) ∧
    (∃ (o : Nat) (w : Word) (row : RegRow) (s : State), s.Writes .uart o w.toNat ∧ smbRange o = false ∧ regAt o = some (row,
      false) ∧ (row.flds.map Fld.key).Nodup ∧ (∀ f ∈ row.flds, f.OffRecorder) ∧ o ∉ actingOffsets) ∧
    (∃ (o : Nat) (w : Word) (b : Block) (s : State), s.domOn .ctrl = true ∧ s.vaulting = false ∧ smbRange o = false ∧
      Block.ofOff o = some b ∧ s.domOn b.domain = true ∧ s.flag Reg.CFG_CTRL_LOCK = true) :=
   ⟨⟨8, run, by decide +kernel⟩,
    ⟨0, 0, run, by decide +kernel⟩,
    ⟨false, run, by decide +kernel⟩,
    ⟨.a, run, by decide +kernel⟩,
    ⟨3, 64, run, by decide +kernel⟩,
    ⟨9, run, by decide +kernel⟩,
    ⟨250, run, by decide +kernel⟩,
    ⟨63, run, by decide +kernel⟩,
    ⟨run, by decide +kernel⟩,
    ⟨sets run [(Reg.PWR_STATUS_STATE, 3), (Reg.SUP_SEQ_STATUS_STATE, 2)], by decide +kernel⟩,
    ⟨{ run with vlt := { run.vlt with cur := some (Vault.start .trip true false) } }, 0, 0, 0, 0, true, by decide +kernel⟩,
    ⟨0, true, run, by decide +kernel⟩,
    ⟨0, true, run, by decide +kernel⟩,
    ⟨run, by decide +kernel⟩,
    ⟨run, by decide +kernel⟩,
    ⟨run, by decide +kernel⟩,
    ⟨64, run, by decide +kernel⟩,
    ⟨65, run, by decide +kernel⟩,
    ⟨run, by decide +kernel⟩,
    ⟨run, by decide +kernel⟩,
    ⟨run, by decide +kernel⟩,
    ⟨0, 0, 0, { run with vlt := { run.vlt with cur := some (Vault.start .trip true false) } }, by decide +kernel⟩,
    ⟨0x120000, rowOf 0x120000, .pwr, run, by decide +kernel⟩,
    ⟨0x1C0020, 0, rowOf 0x1C0020, run, ⟨writes_of (by decide +kernel), by decide +kernel, by decide +kernel, by decide +kernel,
      by decide +kernel, by decide +kernel⟩⟩,
    ⟨0x1C0020, 0, .cfg, sets run [(Reg.CFG_CTRL_LOCK, 1)], by decide +kernel⟩⟩

/-- Each clause of SmbusStatusByte has states and operands that meet its hypotheses. -/
theorem wit_smbus_status_byte :
    (∃ (s : State), s.domOn .sup = true ∧ s.vaulting = false) ∧
    (∃ (w : Word) (row : RegRow) (s : State), s.Writes .smbus s.host.smb.addr w.toNat ∧ smbRange s.host.smb.addr = false ∧ regAt
      s.host.smb.addr = some (row, false) ∧ (row.flds.map Fld.key).Nodup ∧ (∀ f ∈ row.flds, f.OffRecorder) ∧ s.host.smb.addr ∉
      actingOffsets) ∧
    (∃ (row : RegRow) (b : Block) (s : State), s.domOn .sup = true ∧ s.vaulting = false ∧ smbRange s.host.smb.addr = false ∧
      Block.ofOff s.host.smb.addr = some b ∧ s.domOn b.domain = true ∧ regAt s.host.smb.addr = some (row, false) ∧ row.wide =
      false) ∧
    (∃ (b : Block) (s : State), s.domOn .sup = true ∧ s.vaulting = false ∧ smbRange s.host.smb.addr = false ∧ Block.ofOff
      s.host.smb.addr = some b ∧ s.domAnswers b.domain = false) ∧
    (∃ (w : Word) (b : Block) (s : State), s.domOn .sup = true ∧ s.vaulting = false ∧ smbRange s.host.smb.addr = false ∧
      Block.ofOff s.host.smb.addr = some b ∧ s.domAnswers b.domain = false) ∧
    (∃ (w : Word) (s : State), s.domOn .sup = true ∧ s.vaulting = false ∧ smbRange s.host.smb.addr = true) ∧
    (∃ (s : State), s.domOn .sup = true ∧ s.vaulting = false ∧ smbRange s.host.smb.addr = true) ∧
    (∃ (addr w : Word) (b : Byte) (s : State), s.domOn .sup = true ∧ s.vaulting = false ∧ s.host.smb.pecReq = true) ∧
    (∃ (w : Word) (b : Block) (s : State), s.domOn .sup = true ∧ s.vaulting = false ∧ smbRange s.host.smb.addr = false ∧
      Block.ofOff s.host.smb.addr = some b ∧ s.domOn b.domain = true ∧ s.mayWrite .smbus s.host.smb.addr w.toNat = false) ∧
    (∃ (w : Word) (row : RegRow) (s : State), s.Writes .smbus s.host.smb.addr w.toNat ∧ smbRange s.host.smb.addr = false ∧ regAt
      s.host.smb.addr = some (row, false) ∧ (∀ f ∈ row.flds, f.acc = .rwl) ∧ (∀ f ∈ row.flds, f.OffRecorder) ∧ s.host.smb.addr ∉
      actingOffsets ∧ s.flag Reg.CFG_CTRL_LOCK = true) ∧
    (∃ (w : Word) (pec : Bool) (s : State), s.host.smb.status < 32) :=
   ⟨⟨run, by decide +kernel⟩,
    ⟨0, rowOf 0x1C0020, { run with host := { run.host with smb := { run.host.smb with addr := 0x1C0020 } } }, ⟨writes_of (by
      decide +kernel), by decide +kernel, by decide +kernel, by decide +kernel, by decide +kernel, by decide +kernel⟩⟩,
    ⟨rowOf 0x120000, .pwr, { run with host := { run.host with smb := { run.host.smb with addr := 0x120000 } } }, by
      decide +kernel⟩,
    ⟨.dmc, { run with host := { run.host with smb := { run.host.smb with addr := 0x190000 } }, pwr :=
                        { run.pwr with dom := lset run.pwr.dom Domain.dram.idx .off } }, by decide +kernel⟩,
    ⟨0, .dmc, { run with host := { run.host with smb := { run.host.smb with addr := 0x190000 } }, pwr :=
                           { run.pwr with dom := lset run.pwr.dom Domain.dram.idx .off } }, by decide +kernel⟩,
    ⟨0, { run with host := { run.host with smb := { run.host.smb with addr := 0x100001 } } }, by decide +kernel⟩,
    ⟨{ run with host := { run.host with smb := { run.host.smb with addr := 0x100001 } } }, by decide +kernel⟩,
    ⟨0, 0, 0, run, by decide +kernel⟩,
    ⟨0, .wdt, { run with host := { run.host with smb := { run.host.smb with addr := 0x1D0008 } } }, by decide +kernel⟩,
    ⟨0, rowOf 0x130008, sets { run with host := { run.host with smb := { run.host.smb with addr := 0x130008 } } }
      [(Reg.CFG_CTRL_LOCK, 1)], ⟨writes_of (by decide +kernel), by decide +kernel, by decide +kernel, by decide +kernel, by
      decide +kernel, by decide +kernel, by decide +kernel⟩⟩,
    ⟨0, true, run, by decide +kernel⟩⟩

end Sys2Proof.Tests
end

section
/-! SUPPORT. What an event leaves of the requesters' side: the latches of R513 and the SMBus window stay, and what was sent out
stands (the recorder only adds to it). -/

namespace Sys2Proof.Machine

/-- Two states that agree in the requesters' latches and in the SMBus window; the first sent out what the second did, and
perhaps more. -/
structure Reported (t s : State) : Prop where
  latches : t.host.latches = s.host.latches
  smb : t.host.smb = s.host.smb
  out : ∃ l, t.out = s.out ++ l

namespace Reported

theorem refl (s : State) : Reported s s := ⟨rfl, rfl, [], (List.append_nil _).symm⟩

theorem trans {s t u : State} (h : Reported t s) (k : Reported u t) : Reported u s :=
  ⟨k.latches.trans h.latches, k.smb.trans h.smb,
    let ⟨l, hl⟩ := h.out
    let ⟨m, hm⟩ := k.out
    ⟨l ++ m, by rw [hm, hl, List.append_assoc]⟩⟩

/-- An update that touches neither the host side nor the output. -/
theorem of_eq {s t : State} (hh : t.host = s.host) (ho : t.out = s.out) : Reported t s :=
  ⟨by rw [hh], by rw [hh], [], by rw [ho, List.append_nil]⟩

/-- A report from a state that an update of neither made. -/
theorem after {s t u : State} (k : Reported u t) (hh : t.host = s.host) (ho : t.out = s.out) : Reported u s :=
  (of_eq hh ho).trans k

theorem ite {c : Prop} [Decidable c] {s a b : State} (ha : Reported a s) (hb : Reported b s) :
    Reported (if c then a else b) s := by
  split <;> assumption

theorem send (s : State) (o : Out) : Reported (s.send o) s := ⟨rfl, rfl, [o], rfl⟩

theorem setPort (s : State) (p : Port) (h : HostPort) : Reported (s.setPort p h) s := by
  cases p <;> exact ⟨rfl, rfl, [], (List.append_nil _).symm⟩

theorem setNvme (s : State) (p : Port) (n : Nvme) : Reported (s.setNvme p n) s := setPort s p _

theorem console (s : State) (v : List Nat) : Reported (s.console v) s := ite (send s _) (refl s)

theorem msixOn (s : State) (p : Port) (v : Nat) : Reported (s.msixOn p v) s :=
  ite (ite (send s _) (setPort s p _)) (refl s)

theorem msix (s : State) (v : Nat) : Reported (s.msix v) s := (msixOn s .a v).trans (msixOn _ .b v)

theorem raise (s : State) (e i : Fld) (v : Nat) : Reported (s.raise e i v) s :=
  have hput : Reported (s.put e 1) s := of_eq rfl rfl
  ite (refl s) (ite (hput.trans (msix _ v)) hput)

theorem cqePost (s : State) (p : Port) (i : CmdId) (st : NStat) (d : Nat) : Reported (s.cqePost p i st d) s := by
  unfold State.cqePost
  dsimp only
  split
  · exact setNvme s p _
  · have hpost {q : CmdId} {k : Nat} {n : Nvme} {b : Bool} {m : Smart} :
        Reported ((if st = stOk then s.setNvme p n
          else { s.setNvme p n with host := { (s.setNvme p n).host with smart := m } }).send
            (.cqe p k q st.sct st.sc d b)) s :=
      .trans (t := if st = stOk then s.setNvme p n
          else { s.setNvme p n with host := { (s.setNvme p n).host with smart := m } })
        (ite (setNvme s p n) ((setNvme s p n).trans ⟨rfl, rfl, [], (List.append_nil _).symm⟩)) (send _ _)
    exact ite (hpost.trans (msixOn _ p _)) hpost

theorem asyncOn (s : State) (p : Port) (a b c : Nat) : Reported (s.asyncOn p a b c) s := by
  unfold State.asyncOn
  dsimp only
  refine ite (refl s) ?_
  split
  · exact (setNvme s p _).trans (cqePost _ p _ _ _)
  · exact setNvme s p _

theorem asyncVendor (s : State) (a : Nat) : Reported (s.asyncVendor a) s :=
  (asyncOn s .a 7 0 a).trans (asyncOn _ .b 7 0 a)

theorem raiseEvr (s : State) (f : Fld) : Reported (s.raiseEvr f) s :=
  ite ((raise s f _ 62).trans (asyncVendor _ _)) (raise s f _ 62)

theorem dropRec (s : State) : Reported s.dropRec s :=
  (raiseEvr _ _).after rfl rfl

theorem ringPut (s : State) (e : EvRecord) (b : Bool) : Reported (s.ringPut e b) s := by
  unfold State.ringPut
  split
  case h_1 => exact (dropRec _).after rfl rfl
  case h_2 => exact of_eq rfl rfl
  case h_3 =>
    split
    · exact refl s
    · exact ite (of_eq rfl rfl) ((raiseEvr _ _).after rfl rfl)

theorem storeRec (s : State) (e : EvRecord) : Reported (s.storeRec e) s :=
  ite (ite (of_eq rfl rfl) (dropRec s)) (ite (ite (of_eq rfl rfl) (dropRec s)) (ringPut s e _))

theorem closeOpen (s : State) (n : Nat) : Reported (s.closeOpen n) s := by
  unfold State.closeOpen
  dsimp only
  split
  · exact refl s
  · split
    · exact ite ((storeRec _ _).after rfl rfl) (of_eq rfl rfl)
    · exact of_eq rfl rfl

/-- Closing the oldest open record where 64 are open (R452). -/
theorem closeOldest (s : State) :
    Reported (if s.evr.opens.length < 64 then s else match s.evr.opens with
      | o :: _ => s.closeOpen o.evt.seq
      | [] => s) s := by
  refine ite (refl s) ?_
  split
  · exact closeOpen s _
  · exact refl s

theorem openRec (s : State) (a b c d : Nat) (w : List Nat × Bool) : Reported (s.openRec a b c d w) s := by
  unfold State.openRec
  refine ite ((dropRec _).after rfl rfl) ?_
  extract_lets s0 e s1 r s2 s3 s4
  have h1 : Reported s1 s := (closeOldest s).trans ((storeRec _ e).after rfl rfl)
  have h3 : Reported s3 s := h1.trans (of_eq (by simp [s3, s2]) (by simp [s3, s2]))
  have h4 : Reported s4 s := ite (h3.trans (console s3 _)) h3
  exact ite (h4.trans (raiseEvr s4 _)) h4

theorem submit (s : State) (a b c d : Nat) (w : List Nat × Bool) : Reported (s.submit a b c d w) s := by
  unfold State.submit
  refine ite ?_ (refl s)
  split
  · exact of_eq rfl rfl
  · exact openRec s a b c d w

theorem lostReport (s : State) : Reported s.lostReport s :=
  ite ((submit _ _ _ _ _ _).after rfl rfl) (refl s)

theorem eventWith (s : State) (a b c d : Nat) (w : List Nat × Bool) : Reported (s.eventWith a b c d w) s :=
  (submit s a b c d w).trans (lostReport _)

end Reported

end Sys2Proof.Machine
end

section
/-! SUPPORT. The rules of an access to the vendor window (R394, R513–R516): what each requester's latch and held dword are after
it, the equation of a read and of a write in each case, and what an access leaves unchanged. -/

namespace Sys2Proof.Machine

/-! ## Lists -/

theorem lget_lset {α : Type} (l : List α) (i j : Nat) (v d : α) :
    lget (lset l i v) j d = if i = j ∧ i < l.length then v else lget l j d := by
  induction l generalizing i j with
  | nil => simp [lset]
  | cons h t ih =>
    cases i with
    | zero => cases j <;> simp [lset, lget]
    | succ i =>
      cases j with
      | zero => simp [lset, lget]
      | succ j => simpa [lset, lget] using ih i j

theorem lget_of_length_le {α : Type} {l : List α} {i : Nat} {d : α} (h : l.length ≤ i) : lget l i d = d :=
  List.getD_eq_default _ _ h

/-! ## Requesters and what they left -/

variable (s : State) (r q : Requester)

theorem Requester.idx_injective : Function.Injective Requester.idx := by
  intro a b; cases a <;> cases b <;> decide

theorem Requester.idx_lt : r.idx < 9 := by cases r <;> decide

theorem State.regPort_of_latches {s t : State} (h : t.host.latches = s.host.latches) (r : Requester) :
    t.regPort r = s.regPort r := by simp only [State.regPort, h]

theorem State.regPort_setRegPort (v : RegPort) (h : r.idx < s.host.latches.length) : (s.setRegPort r v).regPort r = v := by
  simp [State.regPort, State.setRegPort, lget_lset, h]

theorem State.regPort_setRegPort_ne (v : RegPort) (h : q ≠ r) : (s.setRegPort r v).regPort q = s.regPort q := by
  have hidx : r.idx ≠ q.idx := fun e => h (Requester.idx_injective e).symm
  simp [State.regPort, State.setRegPort, lget_lset, hidx]

/-- A requester that holds a low dword has its place in the list. -/
theorem State.idx_lt_of_held {s : State} {r : Requester} {h : Nat × Nat} (hh : (s.regPort r).held = some h) :
    r.idx < s.host.latches.length := by
  by_contra hge
  rw [State.regPort, lget_of_length_le (Nat.le_of_not_lt hge)] at hh
  exact absurd hh (by simp [RegPort.init])

/-- An access ends the previous low-dword read, and keeps a held low dword of its own register alone. -/
theorem State.noteAccess_eq (base : Nat) : s.noteAccess r base =
    s.setRegPort r { s.regPort r with lastLow := none, held := (s.regPort r).held.filter (fun h => h.1 = base) } := by
  unfold State.noteAccess
  cases hh : (s.regPort r).held <;> simp [hh, Option.filter]

theorem State.regPort_noteAccess (base : Nat) : (s.noteAccess r base).regPort r =
    { s.regPort r with lastLow := none, held := (s.regPort r).held.filter (fun h => h.1 = base) } := by
  rw [State.noteAccess_eq]
  by_cases hlt : r.idx < s.host.latches.length
  · exact State.regPort_setRegPort s r _ hlt
  · have hinit : s.regPort r = RegPort.init := lget_of_length_le (Nat.le_of_not_lt hlt)
    have hkept (v : RegPort) : (s.setRegPort r v).regPort r = s.regPort r := by
      simp [State.regPort, State.setRegPort, lget_lset, hlt]
    rw [hkept, hinit]; rfl

theorem State.regPort_noteAccess_ne (base : Nat) (h : q ≠ r) : (s.noteAccess r base).regPort q = s.regPort q :=
  State.regPort_setRegPort_ne s r q _ h

theorem lset_length {α : Type} (l : List α) (i : Nat) (v : α) : (lset l i v).length = l.length := by
  induction l generalizing i with
  | nil => rfl
  | cons h t ih => cases i <;> simp [lset, ih]

@[simp] theorem State.noteAccess_latches_length (base : Nat) :
    (s.noteAccess r base).host.latches.length = s.host.latches.length := lset_length _ _ _

/-- What a requester leaves is no field, no event and no output. -/
theorem quiet_setRegPort (v : RegPort) : Quiet (s.setRegPort r v) s :=
  ⟨rfl, rfl, rfl, rfl, rfl, rfl, rfl, rfl, rfl, rfl, rfl, rfl, rfl, rfl, rfl, rfl, rfl, rfl, fun _ _ => rfl, fun p => by cases p <;> rfl⟩

theorem quiet_noteAccess (base : Nat) : Quiet (s.noteAccess r base) s := quiet_setRegPort s r _

theorem quiet_accEvent (a c e o w : Nat) : Quiet (s.accEvent a c e o w r) s := quiet_eventWith s _ _ _ _ _

theorem quiet_noteConsole (b : Block) (o w : Nat) : Quiet (s.noteConsole r b o w) s :=
  quiet_ite s (quiet_accEvent s r _ _ _ _ _) (Quiet.refl s)

theorem State.noteConsole_of_ne {r : Requester} (h : r ≠ .uart) (b : Block) (o w : Nat) : s.noteConsole r b o w = s := if_neg h

/-! ## The register at an offset -/

theorem regAt_iff {o : Nat} {row : RegRow} {hi : Bool} : regAt o = some (row, hi) ↔
    ∃ b, Block.ofOff o = some b ∧ b.rows.find? (fun r => r.off == o || (r.wide && r.off + 4 == o)) = some row ∧
      hi = (row.off != o) := by
  unfold regAt
  cases hb : Block.ofOff o with
  | none => simp
  | some b =>
    cases hf : b.rows.find? (fun r => r.off == o || (r.wide && r.off + 4 == o)) with
    | none => simp [hf]
    | some r =>
      simp only [hf, Option.some.injEq, Prod.mk.injEq, exists_eq_left']
      constructor
      · rintro ⟨rfl, rfl⟩; exact ⟨rfl, rfl⟩
      · rintro ⟨rfl, rfl⟩; exact ⟨rfl, rfl⟩

theorem off_of_regAt_low {o : Nat} {row : RegRow} (h : regAt o = some (row, false)) : row.off = o := by
  obtain ⟨_, _, _, hlow⟩ := regAt_iff.mp h
  simpa using hlow.symm

theorem wide_of_regAt_high {o : Nat} {row : RegRow} (h : regAt o = some (row, true)) : row.wide = true := by
  obtain ⟨_, _, hfind, hhi⟩ := regAt_iff.mp h
  have hcov := List.find?_some hfind
  have hne : row.off ≠ o := by simpa using hhi.symm
  simp [hne] at hcov
  exact hcov.1

theorem mem_rows_of_regAt {o : Nat} {row : RegRow} {hi : Bool} (h : regAt o = some (row, hi)) :
    ∃ b : Block, row ∈ b.rows := by
  obtain ⟨b, _, hfind, _⟩ := regAt_iff.mp h
  exact ⟨b, List.mem_of_find?_eq_some hfind⟩

theorem Block.mem_all (b : Block) : b ∈ Block.all := by cases b <;> decide

/-- The fields of a register lie at the register's offset. -/
theorem fld_off_of_mem_rows : ∀ b ∈ Block.all, ∀ row ∈ b.rows, ∀ f ∈ row.flds, f.off = row.off := by decide +kernel

theorem fld_off_of_regAt {o : Nat} {row : RegRow} (h : regAt o = some (row, false)) {f : Fld} (hf : f ∈ row.flds) : f.off = o := by
  obtain ⟨b, hrow⟩ := mem_rows_of_regAt h
  rw [fld_off_of_mem_rows b b.mem_all row hrow f hf, off_of_regAt_low h]

/-- The table's 64-bit registers: aligned to eight bytes, and the next dword is the register's high one (R513, R521). -/
theorem wide_row_dwords : ∀ b ∈ Block.all, ∀ row ∈ b.rows, row.wide = true →
    row.off % 8 = 0 ∧ regAt (row.off + 4) = some (row, true) := by decide +kernel

end Sys2Proof.Machine
end

section
/-! SUPPORT. The equation of a read and of a write of the window in each case (R394, R513, R515), and what a write's fields take. -/

namespace Sys2Proof.Machine

/-! ## Reads and writes by case -/

section Access
variable {s : State} {r : Requester} {o w : Nat} {b : Block} {row : RegRow}

theorem State.domAnswers_of_on {d : Domain} (h : s.domOn d = true) : s.domAnswers d = true := by
  simp only [State.domOn] at h
  simp [State.domAnswers, h]

theorem State.wakeDomain_of_on {d : Domain} (h : s.domOn d = true) : s.wakeDomain d = s := by
  have hon : s.domSt d = .on := by simpa [State.domOn] using h
  simp [State.wakeDomain, hon]

theorem State.regRead_of_on (hb : Block.ofOff o = some b) (hon : s.domOn b.domain = true) :
    s.regRead r o = accOk (s.readDword r o).1 (s.readDword r o).2 := by
  simp [State.regRead, hb, State.domAnswers_of_on hon, State.wakeDomain_of_on hon]

theorem State.regRead_of_off (hb : Block.ofOff o = some b) (hoff : s.domAnswers b.domain = false) :
    s.regRead r o = ⟨(s.noteAccess r o).offAccess r b.domain o, deadWord, true, false⟩ := by
  simp [State.regRead, hb, hoff]

theorem State.regWrite_of_off (hb : Block.ofOff o = some b) (hoff : s.domAnswers b.domain = false) :
    s.regWrite r o w = ⟨(s.noteAccess r o).offAccess r b.domain o, 0, true, false⟩ := by
  simp [State.regWrite, State.regWriteEnv, hb, hoff]

theorem State.regWrite_of_refused (hb : Block.ofOff o = some b) (hon : s.domOn b.domain = true)
    (hmay : s.mayWrite r o w = false) :
    s.regWrite r o w = ⟨(s.noteAccess r o).accEvent b.source 0x3003 3 o w r, 0, false, true⟩ := by
  simp [State.regWrite, State.regWriteEnv, hb, State.domAnswers_of_on hon, hmay]

theorem State.regWrite_of_on (hb : Block.ofOff o = some b) (hon : s.domOn b.domain = true)
    (hmay : s.mayWrite r o w = true) :
    s.regWrite r o w = accOk ((s.noteConsole r b o w).writeDword r b o w none) 0 := by
  simp [State.regWrite, State.regWriteEnv, hb, State.domAnswers_of_on hon, State.wakeDomain_of_on hon, hmay]

/-- RC fields clear when they are read (R9). -/
def State.clearRc (s : State) (row : RegRow) : State :=
  row.flds.foldl (fun t f => if f.acc = .rc then t.put f 0 else t) s

theorem foldl_clearRc_regs_only (fs : List Fld) (s : State) :
    ∃ m, fs.foldl (fun t f => if f.acc = .rc then t.put f 0 else t) s = { s with regs := m } := by
  induction fs generalizing s with
  | nil => exact ⟨s.regs, rfl⟩
  | cons f fs ih =>
    obtain ⟨m, hm⟩ := ih (if f.acc = .rc then s.put f 0 else s)
    refine ⟨m, ?_⟩
    rw [List.foldl_cons, hm]
    split <;> rfl

theorem clearRc_regs_only (s : State) (row : RegRow) : ∃ m, s.clearRc row = { s with regs := m } :=
  foldl_clearRc_regs_only row.flds s

theorem State.readDword_high (hrow : regAt o = some (row, true)) :
    s.readDword r o = (s.noteAccess r row.off,
      if (s.regPort r).lastLow = some row.off then (s.regPort r).latch else s.wordOf row / 2 ^ 32) := by
  simp [State.readDword, hrow]

theorem State.readDword_low (hrow : regAt o = some (row, false)) (hwide : row.wide = true) :
    s.readDword r o = (((s.noteAccess r row.off).clearRc row).setRegPort r
      { ((s.noteAccess r row.off).clearRc row).regPort r with
        lastLow := some row.off, latch := s.wordOf row / 2 ^ 32 }, s.wordOf row % 2 ^ 32) := by
  simp [State.readDword, hrow, hwide, State.clearRc]

theorem State.readDword_narrow (hrow : regAt o = some (row, false)) (hnarrow : row.wide = false) :
    s.readDword r o = ((s.noteAccess r row.off).clearRc row, s.wordOf row) := by
  simp [State.readDword, hrow, hnarrow, State.clearRc]

/-- The low dword that goes with a write of the high one: the one held, or the live one (R513). -/
def State.lowDword (s : State) (r : Requester) (row : RegRow) : Nat :=
  match (s.regPort r).held with
  | some h => if h.1 = row.off then h.2 else s.wordOf row % 2 ^ 32
  | none => s.wordOf row % 2 ^ 32

theorem State.lowDword_of_held {low : Nat} (h : (s.regPort r).held = some (row.off, low)) : s.lowDword r row = low := by
  simp [State.lowDword, h]

theorem State.writeDword_high (hrow : regAt o = some (row, true)) :
    s.writeDword r b o w none = ((s.noteAccess r row.off).setRegPort r
      { (s.noteAccess r row.off).regPort r with held := none }).fullWrite r b row o (w * 2 ^ 32 + s.lowDword r row) none := by
  unfold State.lowDword
  cases hh : (s.regPort r).held <;> simp [State.writeDword, hrow, wide_of_regAt_high hrow, hh]

theorem State.writeDword_held (hrow : regAt o = some (row, false)) (hwide : row.wide = true) (hwr : row.writable = true) :
    s.writeDword r b o w none = (s.noteAccess r row.off).setRegPort r
      { (s.noteAccess r row.off).regPort r with held := some (row.off, w) } := by
  simp [State.writeDword, hrow, hwide, hwr]

theorem State.writeDword_full (hrow : regAt o = some (row, false)) (hone : row.wide = false ∨ row.writable = false) :
    s.writeDword r b o w none = (s.noteAccess r row.off).fullWrite r b row o w none := by
  rcases hone with h | h <;> simp [State.writeDword, hrow, h]

theorem State.fullWrite_of_clean (hclean : strayBits row.mask w = false) (env : Option Bool) :
    s.fullWrite r b row o w env = s.rowWrite r b row w env := by
  simp [State.fullWrite, hclean]

end Access

/-! ## What an access to a domain that does not answer leaves -/

/-- What is quiet changes no part and no field outside the recorder. -/
theorem Part.same_of_quiet {t s : State} (h : Quiet t s) (p : Part) : p.Same t s := by
  cases p <;> simp only [Part.Same, h.rails, h.broker, h.pwr, h.pmr, h.cache, h.umb, h.vlt, h.grt, h.flc, h.dmc, h.ech, h.lan,
    h.boot, h.deferred, h.flow, h.test]
  case ports => exact fun p => by simpa [HostPort.core] using h.core p

theorem Part.same_trans {s t u : State} {p : Part} (h : p.Same t s) (k : p.Same u t) : p.Same u s := by
  cases p
  case ports => exact fun q => by simp_all only [Part.Same, and_self]
  all_goals exact Eq.trans k h

theorem State.Frame.trans {s t u : State} {ps : List Part} {fs : List Fld} (h : t.Frame s ps fs) (k : u.Frame t ps fs) :
    u.Frame s ps fs :=
  ⟨fun p hp => Part.same_trans (h.1 p hp) (k.1 p hp), fun f hf hn => (k.2 f hf hn).trans (h.2 f hf hn)⟩

theorem frame_of_quiet {t s : State} (h : Quiet t s) (ps : List Part) (fs : List Fld) : t.Frame s ps fs :=
  ⟨fun p _ => Part.same_of_quiet h p, fun f hf _ => h.get f hf⟩

/-- A change of the register file alone. -/
theorem frame_of_regs (s : State) (m : NMap Nat) (ps : List Part) (fs : List Fld)
    (hget : ∀ f : Fld, f.OffRecorder → f.key ∉ fs.map Fld.key → ({ s with regs := m } : State).get f = s.get f) :
    ({ s with regs := m } : State).Frame s ps fs := by
  refine ⟨fun p _ => ?_, hget⟩
  cases p
  case ports => rintro (_ | _) <;> exact ⟨rfl, rfl, rfl, rfl, rfl⟩
  all_goals rfl

theorem frame_put (s : State) (f : Fld) (v : Nat) (ps : List Part) {fs : List Fld} (hf : f.key ∈ fs.map Fld.key) :
    (s.put f v).Frame s ps fs :=
  frame_of_regs s _ ps fs fun _ _ hn => State.get_put_ne s v fun e => hn (by rw [e]; exact hf)

/-- The pins and the queue are no part of a frame. -/
theorem State.Frame.finish {t s : State} {ps : List Part} {fs : List Fld} (h : t.Frame s ps fs) (q : List Instr) :
    (({ t with pending := q } : State).drive).Frame s ps fs :=
  ⟨fun p hp => by cases p <;> exact h.1 _ hp, h.2⟩

/-- An access to a domain that does not answer writes PWR_OFFACC and is recorded (R394, R400). -/
theorem frame_offAccess (s : State) (r : Requester) (d : Domain) (o : Nat) :
    (s.offAccess r d o).Frame s []
      [Reg.PWR_OFFACC_COUNT, Reg.PWR_OFFACC_DOMAIN, Reg.PWR_OFFACC_REQUESTER, Reg.PWR_OFFACC_ADDR_ADDR] :=
  (((frame_put s _ _ [] (by decide)).trans (frame_put _ _ _ [] (by decide))).trans
    ((frame_put _ _ _ [] (by decide)).trans (frame_put _ _ _ [] (by decide)))).trans
    (frame_of_quiet (quiet_eventWith _ _ _ _ _ _) _ _)

theorem reported_offAccess (s : State) (r : Requester) (d : Domain) (o : Nat) : Reported (s.offAccess r d o) s :=
  (Reported.eventWith _ _ _ _ _ _).after rfl rfl

/-! ## What the fields take -/

/-- Two states with the same value in every field outside the recorder. -/
def SameFields (t s : State) : Prop := ∀ f : Fld, f.OffRecorder → t.get f = s.get f

theorem get_put_of_key {s : State} {f g : Fld} (v : Nat) (h : g.key = f.key) :
    (s.put f v).get g = if v % 2 ^ f.width = f.rst then g.rst else v % 2 ^ f.width := by
  simp only [State.get, State.put, mput, h, mgetD]
  split <;> simp

theorem SameFields.put {s t : State} (h : SameFields t s) (f : Fld) (v : Nat) : SameFields (t.put f v) (s.put f v) := by
  intro g hg
  by_cases hk : g.key = f.key
  · rw [get_put_of_key v hk, get_put_of_key v hk]
  · rw [State.get_put_ne t v hk, State.get_put_ne s v hk, h g hg]

theorem SameFields.flag {s t : State} (h : SameFields t s) {f : Fld} (hf : f.OffRecorder) : t.flag f = s.flag f := by
  simp only [State.flag, h f hf]

theorem SameFields.rwlTakes {s t : State} (h : SameFields t s) (f : Fld) (v w : Nat) :
    t.rwlTakes f v w = s.rwlTakes f v w := by
  simp only [State.rwlTakes, h.flag (f := Reg.DMC_STATUS_READY) (by decide)]

theorem SameFields.pair {s t : State} (h : SameFields t s) : t.pair = s.pair := h.flag (by decide)

theorem SameFields.ite {s t s' t' : State} {c : Prop} [Decidable c] (h : SameFields t s) (k : SameFields t' s') :
    SameFields (if c then t else t') (if c then s else s') := by
  split <;> assumption

/-- A field outside the recorder takes its part of a word alike in states with the same fields. -/
theorem SameFields.fldWrite {s t : State} (h : SameFields t s) {f : Fld} (hf : f.OffRecorder) (w : Nat) :
    SameFields (t.fldWrite w f) (s.fldWrite w f) := by
  unfold State.fldWrite
  dsimp only
  rw [h f hf, h.pair, h.flag (f := Reg.CFG_CTRL_LOCK) (by decide), h.rwlTakes]
  cases f.acc
  case ro | rc | wo => exact h
  case rw => exact h.ite (h.put f _)
  case w1c | w1s => exact h.put f _
  case rwl => exact (h.put f _).ite h

theorem SameFields.foldl_fldWrite {fs : List Fld} (hfs : ∀ f ∈ fs, f.OffRecorder) (w : Nat) {s t : State} (h : SameFields t s) :
    SameFields (fs.foldl (fun u f => u.fldWrite w f) t) (fs.foldl (fun u f => u.fldWrite w f) s) := by
  induction fs generalizing s t with
  | nil => exact h
  | cons f fs ih =>
    exact ih (fun g hg => hfs g (List.mem_cons_of_mem f hg)) (h.fldWrite (hfs f List.mem_cons_self) w)

/-- A field's write leaves the state or stores the field. -/
theorem fldWrite_eq_or_put (s : State) (w : Nat) (f : Fld) : s.fldWrite w f = s ∨ ∃ v, s.fldWrite w f = s.put f v := by
  have hite {c : Prop} [Decidable c] {a b : State} (ha : a = s ∨ ∃ v, a = s.put f v) (hb : b = s ∨ ∃ v, b = s.put f v) :
      (if c then a else b) = s ∨ ∃ v, (if c then a else b) = s.put f v := by split <;> assumption
  unfold State.fldWrite
  cases f.acc
  case ro | rc | wo => exact .inl rfl
  case rw => exact hite (.inl rfl) (.inr ⟨_, rfl⟩)
  case w1c | w1s => exact .inr ⟨_, rfl⟩
  case rwl => exact hite (.inr ⟨_, rfl⟩) (.inl rfl)

theorem get_fldWrite_ne (s : State) (w : Nat) {f g : Fld} (h : g.key ≠ f.key) : (s.fldWrite w f).get g = s.get g := by
  obtain heq | ⟨v, heq⟩ := fldWrite_eq_or_put s w f <;> rw [heq]
  exact State.get_put_ne s v h

theorem get_fldWrite_rw (s : State) (w : Nat) {f : Fld} (hacc : f.acc = .rw) (hf : f ≠ Reg.ECH_CTRL_MVIEW_EN) :
    (s.fldWrite w f).get f = f.of w := by
  simp [State.fldWrite, hacc, hf, Fld.of]

/-- After the lock an RWL field keeps its value (R516). -/
theorem fldWrite_of_locked {s : State} (w : Nat) {f : Fld} (hacc : f.acc = .rwl) (hlock : s.flag Reg.CFG_CTRL_LOCK = true) :
    s.fldWrite w f = s := by
  simp [State.fldWrite, hacc, hlock]

theorem foldl_fldWrite_regs_only (fs : List Fld) (w : Nat) (s : State) :
    ∃ m, fs.foldl (fun u f => u.fldWrite w f) s = { s with regs := m } := by
  induction fs generalizing s with
  | nil => exact ⟨s.regs, rfl⟩
  | cons f fs ih =>
    obtain ⟨m, hm⟩ := ih (s.fldWrite w f)
    rw [List.foldl_cons]
    obtain heq | ⟨v, heq⟩ := fldWrite_eq_or_put s w f <;> rw [heq] at hm ⊢ <;> exact ⟨m, hm⟩

theorem get_foldl_fldWrite_ne {fs : List Fld} (w : Nat) (s : State) {g : Fld} (h : g.key ∉ fs.map Fld.key) :
    (fs.foldl (fun u f => u.fldWrite w f) s).get g = s.get g := by
  induction fs generalizing s with
  | nil => rfl
  | cons f fs ih =>
    rw [List.map_cons, List.mem_cons, not_or] at h
    rw [List.foldl_cons, ih _ h.2, get_fldWrite_ne s w h.1]

theorem get_foldl_fldWrite_rw {fs : List Fld} (hnd : (fs.map Fld.key).Nodup) (w : Nat) (s : State) {f : Fld} (hf : f ∈ fs)
    (hacc : f.acc = .rw) (hne : f ≠ Reg.ECH_CTRL_MVIEW_EN) : (fs.foldl (fun u f => u.fldWrite w f) s).get f = f.of w := by
  induction fs generalizing s with
  | nil => exact absurd hf List.not_mem_nil
  | cons g fs ih =>
    rw [List.map_cons, List.nodup_cons] at hnd
    rw [List.foldl_cons]
    rcases List.mem_cons.mp hf with rfl | htail
    · rw [get_foldl_fldWrite_ne w _ hnd.1, get_fldWrite_rw s w hacc hne]
    · exact ih hnd.2 _ htail

theorem foldl_fldWrite_of_locked {fs : List Fld} (hacc : ∀ f ∈ fs, f.acc = .rwl) (w : Nat) {s : State}
    (hlock : s.flag Reg.CFG_CTRL_LOCK = true) : fs.foldl (fun u f => u.fldWrite w f) s = s := by
  induction fs with
  | nil => rfl
  | cons f fs ih =>
    rw [List.foldl_cons, fldWrite_of_locked w (hacc f List.mem_cons_self) hlock,
      ih fun g hg => hacc g (List.mem_cons_of_mem f hg)]

theorem frame_foldl_fldWrite (fs : List Fld) (w : Nat) (s : State) :
    (fs.foldl (fun u f => u.fldWrite w f) s).Frame s [] fs := by
  obtain ⟨m, hm⟩ := foldl_fldWrite_regs_only fs w s
  rw [hm]
  exact frame_of_regs s m [] fs fun f _ hn => hm ▸ get_foldl_fldWrite_ne w s hn

/-! ## A write that starts nothing -/

/-- A register that is not among the acting ones starts nothing (R9). -/
theorem regAct_of_inert (s : State) (b : Block) {o : Nat} (ow w : Nat) (env : Option Bool) (ho : o ∉ actingOffsets) :
    s.regAct b o ow w env = s := by
  simp only [actingOffsets, List.mem_cons, List.not_mem_nil, or_false, not_or] at ho
  cases b <;> simp [State.regAct, State.actSys, State.actPwr, State.actSup, State.actLan, State.actData, State.actMem,
    State.actRest, ho]

/-- The state in which a write of a 32-bit register finds its fields: the access noted, the console's write and the write of
an unlocked RWL register recorded (R435, R508). -/
def State.beforeFields (s : State) (r : Requester) (b : Block) (row : RegRow) (o w : Nat) : State :=
  let s1 := (s.noteConsole r b o w).noteAccess r row.off
  if row.hasRwl ∧ !s1.flag Reg.CFG_CTRL_LOCK then s1.accEvent 13 0x4001 3 row.off w r else s1

theorem quiet_beforeFields (s : State) (r : Requester) (b : Block) (row : RegRow) (o w : Nat) :
    Quiet (s.beforeFields r b row o w) s :=
  have hnoted := (quiet_noteConsole s r b o w).trans (quiet_noteAccess _ r row.off)
  quiet_ite s (hnoted.trans (quiet_accEvent _ r _ _ _ _ _)) hnoted

theorem beforeFields_smb (s : State) {r : Requester} (hr : r ≠ .uart) (b : Block) (row : RegRow) (o w : Nat) :
    (s.beforeFields r b row o w).host.smb = s.host.smb := by
  unfold State.beforeFields
  rw [State.noteConsole_of_ne s hr]
  dsimp only
  split
  · exact (Reported.eventWith _ _ _ _ _ _).smb
  · rfl

theorem State.regWrite_inert {s : State} {r : Requester} {o w : Nat} {b : Block} {row : RegRow}
    (hb : Block.ofOff o = some b) (hon : s.domOn b.domain = true) (hmay : s.mayWrite r o w = true)
    (hrow : regAt o = some (row, false)) (hnarrow : row.wide = false) (hclean : strayBits row.mask w = false)
    (ho : o ∉ actingOffsets) :
    s.regWrite r o w = accOk (row.flds.foldl (fun t f => t.fldWrite w f) (s.beforeFields r b row o w)) 0 := by
  rw [State.regWrite_of_on hb hon hmay, State.writeDword_full hrow (.inl hnarrow), State.fullWrite_of_clean hclean,
    State.rowWrite, regAct_of_inert _ _ _ _ _ (off_of_regAt_low hrow ▸ ho)]
  rfl

end Sys2Proof.Machine
end

section
/-! PROOF. Who may write which register, and what becomes of a write that R515 forbids. -/

namespace Sys2Proof.Machine

/-! ## One new record of an event -/

theorem State.four_le_alertSev (s : State) : 4 ≤ s.alertSev := by
  unfold State.alertSev
  split <;> omega

@[simp] theorem State.console_evr (s : State) (v : List Nat) : (s.console v).evr = s.evr := by
  obtain h | h : s.console v = s.send (.uart v) ∨ s.console v = s := ite_eq_or_eq _ _ _ <;> rw [h]
  rfl

/-- In normal mode, with room in the ring, a record is appended. -/
theorem State.storeRec_normal {s : State} (hmode : s.evrMode = 0) (hroom : s.evr.ring.length < 2048) (e : EvRecord) :
    s.storeRec e = { s with evr := { s.evr with ring := s.evr.ring ++
      [⟨e, decide (e.sev < s.get Reg.EVR_CFG_MIN_NOR_SEV), false⟩] } } := by
  simp [State.storeRec, hmode, State.ringPut, Recorder.victim, hroom]

/-- With no lost record to report, nothing follows. -/
theorem State.lostReport_of_none {s : State} (h : s.evr.lostBySev.all (fun n => n == 0) = true) : s.lostReport = s := by
  rw [State.lostReport, h]
  rfl

/-- In normal mode, with room, a new record of a severity that raises no alert joins the ring, and the count of lost records
stays. -/
theorem State.openRec_normal {s : State} {src code sev key : Nat} {snap : List Nat × Bool} (hmode : s.evrMode = 0)
    (hopens : s.evr.opens.length < 64) (hroom : s.evr.ring.length < 2048) (hsev : sev < 4) :
    (s.openRec src code sev key snap).evr.lostBySev = s.evr.lostBySev ∧
    ∃ e x, (s.openRec src code sev key snap).evr.ring = s.evr.ring ++ [⟨e, x, false⟩] ∧ e.code = code ∧ e.sev = sev ∧
      e.src = src ∧ e.snap = snap.1 := by
  have hstore : s.storeRoom sev = true := by simp [State.storeRoom, hmode, Recorder.victim, hroom]
  have hmode' (v : Nat) : (s.put Reg.EVR_SEQ_NEXT v).evrMode = 0 := (State.get_put_ne s v (by decide)).trans hmode
  unfold State.openRec
  rw [hstore, if_neg (by decide), if_pos hopens]
  extract_lets s0 e s1 r s2 s3 s4
  have h1 : s1.evr = { s.evr with ring := s.evr.ring ++ [⟨e, decide (e.sev < s.get Reg.EVR_CFG_MIN_NOR_SEV), false⟩] } := by
    simp only [s1, s0, State.storeRec_normal (hmode' _) hroom]
    simp [State.get_put_ne s (f := Reg.EVR_SEQ_NEXT) (g := Reg.EVR_CFG_MIN_NOR_SEV) _ (by decide)]
  have h4 : s4.evr = s2.evr := by
    simp only [s4, s3, apply_ite State.evr, State.console_evr, State.put_evr, ite_self]
  have halert : ¬ s4.alertSev ≤ sev := by have := s4.four_le_alertSev; omega
  rw [if_neg halert, h4]
  have hring : s2.evr.ring = s1.evr.ring := rfl
  have hlost : s2.evr.lostBySev = s1.evr.lostBySev := rfl
  rw [hlost, hring, h1]
  exact ⟨rfl, e, _, rfl, rfl, rfl, rfl, rfl⟩

/-- In normal mode, with room and no open record of its key, an event of a severity that raises no alert is one new record at
the end of the ring (R444, R448). -/
theorem ring_eventWith {s : State} {src code sev key : Nat} {snap : List Nat × Bool} (hon : s.domOn .aon = true)
    (hnew : s.openMatch src code (key % 65536) = none) (hmode : s.evrMode = 0) (hopens : s.evr.opens.length < 64)
    (hroom : s.evr.ring.length < 2048) (hlost : s.evr.lostBySev.all (fun n => n == 0) = true) (hsev : sev < 4) :
    ∃ e x, (s.eventWith src code sev key snap).evr.ring = s.evr.ring ++ [⟨e, x, false⟩] ∧ e.code = code ∧ e.sev = sev ∧
      e.src = src ∧ e.snap = snap.1 := by
  have hsubmit : s.submit src code sev key snap = s.openRec src code sev key snap := by simp [State.submit, hon, hnew]
  obtain ⟨hcount, hring⟩ := State.openRec_normal (src := src) (code := code) (key := key) (snap := snap) hmode hopens hroom hsev
  rwa [State.eventWith, hsubmit, State.lostReport_of_none (by rw [hcount]; exact hlost)]

/-! ## The rights of R515 -/

theorem mayWrite_uart_of_locked {s : State} (h : s.flag Reg.CFG_CTRL_LOCK = true) (o w : Nat) :
    s.mayWrite .uart o w = false := by simp [State.mayWrite, h]

/-- The number of a control processor among the requesters. -/
def Requester.cpNum : Requester → Option Nat
  | .cp0 => some 0 | .cp1 => some 1 | .cp2 => some 2 | .cp3 => some 3
  | _ => none

theorem Requester.cpNum_eq_some_iff (r : Requester) {i : Fin 4} : r.cpNum = some i.val ↔ r = cpReq i := by
  fin_cases i <;> cases r <;> simp [Requester.cpNum, cpReq]

section Rights
variable {s : State} {r : Requester} (hr : r ≠ .uart ∨ s.flag Reg.CFG_CTRL_LOCK = false)
include hr

theorem not_locked_console : ¬ (r = .uart ∧ s.flag Reg.CFG_CTRL_LOCK = true) := by
  rcases hr with h | h <;> simp [h]

theorem mayWrite_of_unlimited {o w : Nat} (ho : o ∉ [0x1D0008, 0x1D000C, 0x100028, 0x10002C]) : s.mayWrite r o w = true := by
  simp only [List.mem_cons, List.not_mem_nil, or_false, not_or] at ho
  have huart := not_locked_console hr
  simp [State.mayWrite, huart, ho]

theorem mayWrite_kick_iff {w : Nat} : s.mayWrite r 0x1D0008 w = true ↔ r ∈ [.cp0, .cp1, .cp2, .cp3] := by
  have huart := not_locked_console hr
  simp only [State.mayWrite, huart, if_false]
  cases r <;> simp

theorem mayWrite_prov_iff {o w : Nat} (ho : o = 0x100028 ∨ o = 0x10002C) :
    s.mayWrite r o w = true ↔ r = .cp0 ∨ r = .smbus := by
  have huart := not_locked_console hr
  rcases ho with rfl | rfl <;> simp [State.mayWrite, huart]

omit hr in
theorem mayWrite_heartbeat_eq (huart : ¬ (r = .uart ∧ s.flag Reg.CFG_CTRL_LOCK = true)) (w : Nat) :
    s.mayWrite r 0x1D000C w = (List.range 4).all (fun i => !bitOf w i || r.cpNum == some i) := by
  simp only [State.mayWrite, huart, if_false, if_true]
  cases r <;> rfl

/-- A heartbeat word is taken whole or not at all: every bit set must be the writer's own (log 12). -/
theorem mayWrite_heartbeat_iff {w : Nat} :
    s.mayWrite r 0x1D000C w = true ↔ ∀ i : Fin 4, bitOf w i.val = true → r = cpReq i := by
  have huart := not_locked_console hr
  simp only [mayWrite_heartbeat_eq huart, List.all_eq_true, List.mem_range, Bool.or_eq_true, Bool.not_eq_true', beq_iff_eq]
  constructor
  · intro h i hi
    exact r.cpNum_eq_some_iff.mp ((h i.val i.isLt).resolve_left (by simp [hi]))
  · intro h i hi
    cases hbit : bitOf w i
    · exact .inl rfl
    · exact .inr (r.cpNum_eq_some_iff.mpr (h ⟨i, hi⟩ hbit))

end Rights

/-! ## What depends on the requester -/

/-- What a read returns is the same for every requester, but for a high dword, which may come from the requester's latch. -/
theorem regRead_same (s : State) (r q : Requester) {o : Nat} (ho : ∀ row, regAt o ≠ some (row, true)) :
    (s.regRead r o).val = (s.regRead q o).val ∧ (s.regRead r o).off = (s.regRead q o).off := by
  have hval (t : State) : (t.readDword r o).2 = (t.readDword q o).2 := by
    unfold State.readDword
    match hrow : regAt o with
    | none => rfl
    | some (row, true) => exact absurd hrow (ho row)
    | some (row, false) => cases hwide : row.wide <;> simp [hwide]
  cases hb : Block.ofOff o with
  | none => simp [State.regRead, hb]
  | some b =>
    cases hans : s.domAnswers b.domain with
    | false => simp [State.regRead_of_off hb hans]
    | true => simp [State.regRead, hb, hans, accOk, hval]

end Sys2Proof.Machine

open Sys2Proof Sys2Proof.Machine

/-- Settles O47: the rights are read off `mayWrite`; a refused write is an event and nothing else; a performed one gives the
fields their values from states that agree in every field outside the recorder. -/
theorem writeRights : Obligations.WriteRights := by
  have hrefused (r : Requester) (o w : Nat) (b : Block) (s : State) (hb : Block.ofOff o = some b)
      (hon : s.domOn b.domain = true) (hmay : s.mayWrite r o w = false) :
      (s.regWrite r o w).off = false ∧ (s.regWrite r o w).refused = true ∧ (s.regWrite r o w).st.Frame s [] [] := by
    rw [State.regWrite_of_refused hb hon hmay]
    exact ⟨rfl, rfl, frame_of_quiet ((quiet_noteAccess s r o).trans (quiet_accEvent _ r _ _ _ _ _)) [] []⟩
  unfold Obligations.WriteRights
  refine ⟨fun o w s h => mayWrite_uart_of_locked h o w, fun r o w s hr => ⟨mayWrite_of_unlimited hr, ?_, mayWrite_prov_iff hr, ?_⟩,
    ?_, hrefused, fun r q o s ho => regRead_same s r q ho, ?_⟩
  · rintro rfl; exact mayWrite_kick_iff hr
  · rintro rfl; exact mayWrite_heartbeat_iff hr
  · intro r o w b s hb hon hmay hw haon hnew hmode hopens hroom hlost
    obtain ⟨hoff, href, hframe⟩ := hrefused r o w b s hb hon hmay
    refine ⟨hoff, href, hframe, ?_⟩
    have hsnap : [o, w % 2 ^ 32, r.code, 0] = [o, w, r.code, 0] := by rw [Nat.mod_eq_of_lt hw]
    rw [State.regWrite_of_refused hb hon hmay, ← hsnap]
    exact ring_eventWith haon (by rw [Nat.mod_mod]; exact hnew) hmode hopens hroom hlost (by decide)
  · intro r q o w b row s hb hon hr hq hrow hnarrow hclean hoffs ho f hf
    rw [State.regWrite_inert hb hon hr hrow hnarrow hclean ho, State.regWrite_inert hb hon hq hrow hnarrow hclean ho]
    have hsame : SameFields (s.beforeFields r b row o w) (s.beforeFields q b row o w) := fun g hg =>
      ((quiet_beforeFields s r b row o w).get g hg).trans ((quiet_beforeFields s q b row o w).get g hg).symm
    exact hsame.foldl_fldWrite hoffs w f (hoffs f hf)
end

section
/-! PROOF. The STATUS byte of the indirect window. -/

namespace Sys2Proof.Machine

/-! ## The commands -/

theorem exec_smbusStatus (s : State) : exec .smbusStatus s = execSmbusStatus s := rfl
theorem exec_smbusRead (s : State) : exec .smbusRead s = execSmbusRead s := rfl
theorem exec_smbusWrite (w : Word) (pec : Bool) (s : State) : exec (.smbusWrite w pec) s = execSmbusWrite w pec s := rfl
theorem exec_smbusAddrWrite (a : Word) (pec : Bool) (s : State) :
    exec (.smbusAddrWrite a pec) s = execSmbusAddrWrite a pec s := rfl
theorem exec_smbusCtrlWrite (b : Byte) (pec : Bool) (s : State) :
    exec (.smbusCtrlWrite b pec) s = execSmbusCtrlWrite b pec s := rfl

/-! ## The window's state -/

@[simp] theorem State.smbAfter_smb (s : State) (n : Nat) : (s.smbAfter n).host.smb =
    { s.host.smb with status := n, addr := if s.host.smb.autoInc then (s.host.smb.addr + 4) % 2 ^ 32 else s.host.smb.addr } := rfl

theorem quiet_setSmb (s : State) (f : Smbus → Smbus) : Quiet (s.setSmb f) s :=
  ⟨rfl, rfl, rfl, rfl, rfl, rfl, rfl, rfl, rfl, rfl, rfl, rfl, rfl, rfl, rfl, rfl, rfl, rfl, fun _ _ => rfl, fun p => by cases p <;> rfl⟩

theorem quiet_smbAfter (s : State) (n : Nat) : Quiet (s.smbAfter n) s := quiet_setSmb s _

/-- The window as a write command that is taken leaves it: PEC_ERR clears (R519). -/
def State.pecTaken (s : State) : State := s.setSmb (fun b => { b with status := if b.status = 8 then 0 else b.status })

theorem quiet_pecTaken (s : State) : Quiet s.pecTaken s := quiet_setSmb s _

theorem State.pecTaken_addr (s : State) : s.pecTaken.host.smb.addr = s.host.smb.addr := rfl

theorem State.smb_of_on {s : State} (hon : s.domOn .sup = true) (hv : s.vaulting = false) (k : State → State) :
    s.smb k = k s := by simp [State.smb, hon, hv]

theorem State.smbWrite_taken {s : State} (hon : s.domOn .sup = true) (hv : s.vaulting = false) (k : State → State) :
    s.smbWrite true k = k s.pecTaken := by
  rw [State.smbWrite, State.smb_of_on hon hv, if_neg (by simp)]
  rfl

/-- A write without its PEC, where one is required, sets PEC_ERR alone (R518). -/
theorem State.smbWrite_discarded {s : State} (hon : s.domOn .sup = true) (hv : s.vaulting = false)
    (hreq : s.host.smb.pecReq = true) (k : State → State) :
    s.smbWrite false k = s.setSmb (fun b => { b with status := 8 }) := by
  rw [State.smbWrite, State.smb_of_on hon hv, if_pos (by simp [hreq])]

theorem State.smbStore_of_range {s : State} (h : smbRange s.host.smb.addr = true) (w : Nat) : s.smbStore w = s.smbAfter 4 := by
  simp [State.smbStore, h]

theorem State.smbStore_of_reg {s : State} (h : smbRange s.host.smb.addr = false) (w : Nat) : s.smbStore w =
    (s.regWrite .smbus s.host.smb.addr w).st.smbAfter (s.regWrite .smbus s.host.smb.addr w).smbStatus := by
  simp [State.smbStore, h]

theorem State.smbLoad_of_range {s : State} (h : smbRange s.host.smb.addr = true) : s.smbLoad =
    ((s.fresh 32).2.smbAfter 4).send (.smb ((5 : Byte) :: (natLe 4 1 ++ natLe (s.fresh 32).1 4))) := by
  simp [State.smbLoad, h, accOk]

theorem State.smbLoad_of_reg {s : State} (h : smbRange s.host.smb.addr = false) : s.smbLoad =
    ((s.regRead .smbus s.host.smb.addr).st.smbAfter (s.regRead .smbus s.host.smb.addr).smbStatus).send
      (.smb ((5 : Byte) :: (natLe (s.regRead .smbus s.host.smb.addr).smbStatus 1 ++
        natLe (s.regRead .smbus s.host.smb.addr).val 4))) := by
  simp [State.smbLoad, h]

theorem Acc.smbStatus_lt (a : Acc) : a.smbStatus < 32 := by
  unfold Acc.smbStatus
  split
  · decide
  · split <;> decide

/-- The window's STATUS stays below 32 through any write: its reserved bits are 0. -/
theorem State.smbStore_status_lt (s : State) (w : Nat) : (s.smbStore w).host.smb.status < 32 := by
  cases h : smbRange s.host.smb.addr
  · rw [State.smbStore_of_reg h]; exact Acc.smbStatus_lt _
  · rw [State.smbStore_of_range h]; exact (by decide : 4 < 32)

theorem State.smbLoad_status_lt (s : State) : s.smbLoad.host.smb.status < 32 := by
  cases h : smbRange s.host.smb.addr
  · rw [State.smbLoad_of_reg h]; exact Acc.smbStatus_lt _
  · rw [State.smbLoad_of_range h]; exact (by decide : 4 < 32)

theorem State.smb_status_lt {s : State} {k : State → State} (h : s.host.smb.status < 32)
    (hk : (k s).host.smb.status < 32) : (s.smb k).host.smb.status < 32 := by
  unfold State.smb
  split
  · exact h
  · split
    · exact h
    · exact hk

theorem State.smbWrite_status_lt {s : State} (h : s.host.smb.status < 32) (pec : Bool) {k : State → State}
    (hk : ∀ t, (k t).host.smb.status < 32) : (s.smbWrite pec k).host.smb.status < 32 := by
  refine State.smb_status_lt h ?_
  split
  · exact (by decide : 8 < 32)
  · exact hk _

/-- A command that is such a write changes STATUS and nothing else. -/
theorem runs_discarded {s : State} {c : Instr} {k : State → State} (hon : s.domOn .sup = true) (hv : s.vaulting = false)
    (hreq : s.host.smb.pecReq = true) (hexec : exec c s = done s (s.smbWrite false k)) :
    Runs c s fun t => t.host.smb = { s.host.smb with status := 8 } ∧ t.out = s.out ∧ t.regs = s.regs ∧ t.Frame s [] [] := by
  refine runs_of_done hexec ?_
  rw [State.smbWrite_discarded hon hv hreq]
  exact ⟨rfl, rfl, rfl, (frame_of_quiet (quiet_setSmb s _) [] []).finish _⟩

/-! ## A write that the window performs -/

/-- What a performed write through the window leaves (R516, R519): its register's fields, and DONE alone. -/
theorem smbStore_inert {s : State} {w : Nat} {b : Block} {row : RegRow} (hb : Block.ofOff s.host.smb.addr = some b)
    (hon : s.domOn b.domain = true) (hmay : s.mayWrite .smbus s.host.smb.addr w = true)
    (hrange : smbRange s.host.smb.addr = false) (hrow : regAt s.host.smb.addr = some (row, false)) (hnarrow : row.wide = false)
    (hclean : strayBits row.mask w = false) (ho : s.host.smb.addr ∉ actingOffsets) :
    s.pecTaken.smbStore w = (row.flds.foldl (fun t f => t.fldWrite w f)
      (s.pecTaken.beforeFields .smbus b row s.host.smb.addr w)).smbAfter 1 := by
  have hwrite := State.regWrite_inert (s := s.pecTaken) (r := .smbus) (o := s.host.smb.addr) (w := w) hb hon hmay hrow hnarrow
    hclean ho
  rw [State.smbStore_of_reg (by rw [State.pecTaken_addr]; exact hrange), State.pecTaken_addr, hwrite]
  rfl

theorem frame_written (s : State) (b : Block) (row : RegRow) (o w : Nat) :
    ((row.flds.foldl (fun t f => t.fldWrite w f) (s.pecTaken.beforeFields .smbus b row o w)).smbAfter 1).Frame s [] row.flds :=
  ((frame_of_quiet ((quiet_pecTaken s).trans (quiet_beforeFields _ _ b row o w)) [] row.flds).trans
    (frame_foldl_fldWrite row.flds w _)).trans (frame_of_quiet (quiet_smbAfter _ 1) _ _)

theorem smb_written (s : State) (b : Block) (row : RegRow) (o w : Nat) :
    ((row.flds.foldl (fun t f => t.fldWrite w f) (s.pecTaken.beforeFields .smbus b row o w)).smbAfter 1).host.smb =
      { s.host.smb with
        status := 1, addr := if s.host.smb.autoInc then (s.host.smb.addr + 4) % 2 ^ 32 else s.host.smb.addr } := by
  obtain ⟨m, hm⟩ := foldl_fldWrite_regs_only row.flds w (s.pecTaken.beforeFields .smbus b row o w)
  rw [hm, State.smbAfter_smb]
  dsimp only
  rw [beforeFields_smb s.pecTaken (by decide) b row o w]
  rfl

/-- A register with RWL fields alone is left as it was after the lock, and nothing is recorded (R516). -/
theorem foldl_fldWrite_locked_register {s : State} {b : Block} {row : RegRow} {o w : Nat}
    (hacc : ∀ f ∈ row.flds, f.acc = .rwl) (hlock : s.flag Reg.CFG_CTRL_LOCK = true) :
    row.flds.foldl (fun t f => t.fldWrite w f) (s.pecTaken.beforeFields .smbus b row o w) =
      s.pecTaken.beforeFields .smbus b row o w :=
  foldl_fldWrite_of_locked hacc w
    ((SameFields.flag (quiet_beforeFields s.pecTaken .smbus b row o w).get (by decide)).trans hlock)

/-! ## A read that the window performs -/

/-- The read of a 32-bit register through the window. -/
theorem smbLoad_narrow {s : State} {b : Block} {row : RegRow} (hb : Block.ofOff s.host.smb.addr = some b)
    (hon : s.domOn b.domain = true) (hrange : smbRange s.host.smb.addr = false)
    (hrow : regAt s.host.smb.addr = some (row, false)) (hnarrow : row.wide = false) : s.smbLoad =
      (((s.noteAccess .smbus row.off).clearRc row).smbAfter 1).send
        (.smb ((5 : Byte) :: (natLe 1 1 ++ natLe (s.wordOf row) 4))) := by
  rw [State.smbLoad_of_reg hrange, State.regRead_of_on hb hon, State.readDword_narrow hrow hnarrow]
  rfl

end Sys2Proof.Machine

open Sys2Proof Sys2Proof.Machine

/-- Settles O60: each clause names the state that the window's command ends in, and what the access before it left. -/
theorem smbusStatusByte : Obligations.SmbusStatusByte := by
  unfold Obligations.SmbusStatusByte
  refine ⟨?status, ?performed, ?read, ?readOff, ?writeOff, ?writeRange, ?readRange, ?pec, ?refused, ?locked, ?reserved⟩
  case status =>
    intro s hon hv
    refine runs_of_done (exec_smbusStatus s) ?_
    rw [State.smb_of_on hon hv]
    exact ⟨rfl, (frame_of_quiet (quiet_send s _) [] []).finish _⟩
  case performed =>
    rintro w row s ⟨hreach, -, ⟨b, hb, hon⟩, hmay, row', hrow', hnarrow, hclean⟩ hrange hrow hnd - ho
    obtain ⟨hsup, hv⟩ : s.domOn .sup = true ∧ s.vaulting = false := by simpa [State.reaches] using hreach
    obtain rfl : row' = row := by simpa [hrow'] using hrow
    refine runs_of_done (exec_smbusWrite w true s) ?_
    rw [State.smbWrite_taken hsup hv, smbStore_inert hb hon hmay hrange hrow hnarrow hclean ho]
    refine ⟨(frame_written s b row' _ _).finish _, fun f hf hacc => ?_, smb_written s b row' _ _⟩
    have hne : f ≠ Reg.ECH_CTRL_MVIEW_EN := fun he => ho (by rw [← fld_off_of_regAt hrow hf, he]; decide)
    exact get_foldl_fldWrite_rw hnd _ _ hf hacc hne
  case read =>
    intro row b s hsup hv hrange hb hon hrow hnarrow
    refine runs_of_done (exec_smbusRead s) ?_
    obtain ⟨m, hm⟩ := clearRc_regs_only (s.noteAccess .smbus row.off) row
    rw [State.smb_of_on hsup hv, smbLoad_narrow hb hon hrange hrow hnarrow, hm]
    exact ⟨rfl, rfl⟩
  case readOff =>
    intro b s hsup hv hrange hb hoff
    refine runs_of_done (exec_smbusRead s) ?_
    rw [State.smb_of_on hsup hv, State.smbLoad_of_reg hrange, State.regRead_of_off hb hoff]
    obtain ⟨l, hl⟩ := (reported_offAccess (s.noteAccess .smbus s.host.smb.addr) .smbus b.domain s.host.smb.addr).out
    refine ⟨⟨l ++ [_], ?_, List.mem_append_right l List.mem_cons_self⟩, rfl⟩
    rw [← List.append_assoc, show s.out ++ l = _ from hl.symm]
    rfl
  case writeOff =>
    intro w b s hsup hv hrange hb hoff
    refine runs_of_done (exec_smbusWrite w true s) ?_
    rw [State.smbWrite_taken hsup hv, State.smbStore_of_reg (by rw [State.pecTaken_addr]; exact hrange), State.pecTaken_addr,
      State.regWrite_of_off (s := s.pecTaken) hb hoff]
    refine ⟨rfl, State.Frame.finish ?_ _⟩
    exact ((frame_of_quiet ((quiet_pecTaken s).trans (quiet_noteAccess _ _ _)) [] _).trans (frame_offAccess _ _ _ _)).trans
      (frame_of_quiet (quiet_smbAfter _ _) [] _)
  case writeRange =>
    intro w s hsup hv hrange
    refine runs_of_done (exec_smbusWrite w true s) ?_
    rw [State.smbWrite_taken hsup hv, State.smbStore_of_range (by rw [State.pecTaken_addr]; exact hrange)]
    exact ⟨rfl, rfl, (frame_of_quiet ((quiet_pecTaken s).trans (quiet_smbAfter _ _)) [] []).finish _⟩
  case readRange =>
    intro s hsup hv hrange
    refine runs_of_done (exec_smbusRead s) ?_
    rw [State.smb_of_on hsup hv, State.smbLoad_of_range hrange]
    refine ⟨rfl, rfl, State.Frame.finish ?_ _⟩
    exact frame_of_quiet (((quiet_free s _).trans (quiet_smbAfter _ _)).trans (quiet_send _ _)) [] []
  case pec =>
    intro addr w b s hsup hv hreq
    simp only [List.forall_mem_cons]
    exact ⟨runs_discarded hsup hv hreq (exec_smbusAddrWrite addr false s),
      runs_discarded hsup hv hreq (exec_smbusWrite w false s),
      runs_discarded hsup hv hreq (exec_smbusCtrlWrite b false s), fun _ hc => absurd hc List.not_mem_nil⟩
  case refused =>
    intro w b s hsup hv hrange hb hon hmay
    refine runs_of_done (exec_smbusWrite w true s) ?_
    rw [State.smbWrite_taken hsup hv, State.smbStore_of_reg (by rw [State.pecTaken_addr]; exact hrange), State.pecTaken_addr,
      State.regWrite_of_refused (s := s.pecTaken) hb hon hmay]
    refine ⟨rfl, State.Frame.finish ?_ _⟩
    exact frame_of_quiet ((((quiet_pecTaken s).trans (quiet_noteAccess _ _ _)).trans (quiet_accEvent _ _ _ _ _ _ _)).trans
      (quiet_smbAfter _ _)) [] []
  case locked =>
    rintro w row s ⟨hreach, -, ⟨b, hb, hon⟩, hmay, row', hrow', hnarrow, hclean⟩ hrange hrow hacc - ho hlock
    obtain ⟨hsup, hv⟩ : s.domOn .sup = true ∧ s.vaulting = false := by simpa [State.reaches] using hreach
    obtain rfl : row' = row := by simpa [hrow'] using hrow
    refine runs_of_done (exec_smbusWrite w true s) ?_
    rw [State.smbWrite_taken hsup hv, smbStore_inert hb hon hmay hrange hrow hnarrow hclean ho,
      foldl_fldWrite_locked_register hacc hlock]
    refine ⟨rfl, State.Frame.finish ?_ _⟩
    exact frame_of_quiet (((quiet_pecTaken s).trans (quiet_beforeFields _ _ _ _ _ _)).trans (quiet_smbAfter _ _)) [] []
  case reserved =>
    intro w pec s h
    exact ⟨runs_of_done (exec_smbusWrite w pec s) (State.smbWrite_status_lt h pec fun t => t.smbStore_status_lt _),
      runs_of_done (exec_smbusRead s) (State.smb_status_lt h s.smbLoad_status_lt)⟩
end

section
/-! SUPPORT. What the registers' actions leave of the requesters' latches (R513): every operation that a write can start leaves
them as they are, one lemma per operation in the model's order, but those that take the device down or reset it, which leave
every requester as if it had made no access. -/

namespace Sys2Proof.Machine

/-! ## Branches and folds -/

@[simp] theorem latches_ite (c : Prop) [Decidable c] (a b : State) :
    (if c then a else b).host.latches = if c then a.host.latches else b.host.latches :=
  apply_ite (fun t : State => t.host.latches) c a b

/-- What every step of a fold keeps, the fold keeps. -/
theorem foldl_keeps {α β γ : Type} (p : β → γ) {f : β → α → β} (h : ∀ t x, p (f t x) = p t) (l : List α) (s : β) :
    p (l.foldl f s) = p s := by
  induction l generalizing s with
  | nil => rfl
  | cons x xs ih => exact (ih (f s x)).trans (h s x)

@[simp] theorem latches_foldl {α : Type} {f : State → α → State} (h : ∀ t x, (f t x).host.latches = t.host.latches) (l : List α)
    (s : State) : (l.foldl f s).host.latches = s.host.latches :=
  foldl_keeps (fun t : State => t.host.latches) h l s

/-- A field's store, as a step of a proof: the model's `rfl` lemmas would leave a long chain of them to the kernel at once. -/
theorem State.put_latches (s : State) (f : Fld) (v : Nat) : (s.put f v).host.latches = s.host.latches :=
  congrArg HostSide.latches (State.put_host s f v)

theorem State.putB_latches (s : State) (f : Fld) (b : Bool) : (s.putB f b).host.latches = s.host.latches :=
  congrArg HostSide.latches (State.putB_host s f b)

/-- Fields of a register cleared one by one. -/
theorem latches_clearFields (fs : List Fld) (s : State) : (fs.foldl (fun u f => u.put f 0) s).host.latches = s.host.latches :=
  latches_foldl (fun t f => t.put_latches f 0) fs s

/-- Registers of a table cleared where `p` holds. -/
theorem latches_clearRows (p : RegRow → Prop) [DecidablePred p] (rows : List RegRow) (s : State) :
    (rows.foldl (fun t r => if p r then r.flds.foldl (fun u f => u.put f 0) t else t) s).host.latches = s.host.latches := by
  refine latches_foldl (fun t r => ?_) rows s
  split
  · exact latches_clearFields r.flds t
  · rfl

/-! ## Ops -/

@[simp] theorem State.setPort_latches (s : State) (p : Port) (h : HostPort) : (s.setPort p h).host.latches = s.host.latches := by
  cases p <;> rfl

@[simp] theorem State.msix_latches (s : State) (vec : Nat) : (s.msix vec).host.latches = s.host.latches :=
  (Reported.msix s vec).latches

@[simp] theorem State.raise_latches (s : State) (ev inten : Fld) (vec : Nat) :
    (s.raise ev inten vec).host.latches = s.host.latches := (Reported.raise s ev inten vec).latches

@[simp] theorem State.aer_latches (s : State) (p : Port) (bit : Nat) : (s.aer p bit).host.latches = s.host.latches := by
  simp [State.aer]

/-! ## NvmeBase -/

@[simp] theorem State.asyncOn_latches (s : State) (p : Port) (ty info page : Nat) :
    (s.asyncOn p ty info page).host.latches = s.host.latches := (Reported.asyncOn s p ty info page).latches

@[simp] theorem State.asyncVendor_latches (s : State) (page : Nat) : (s.asyncVendor page).host.latches = s.host.latches :=
  (Reported.asyncVendor s page).latches

@[simp] theorem State.warnEvent_latches (s : State) (p : Port) (bit : Nat) :
    (s.warnEvent p bit).host.latches = s.host.latches := by simp [State.warnEvent]

@[simp] theorem State.syncWarn_latches (s : State) : s.syncWarn.host.latches = s.host.latches := by simp [State.syncWarn]

/-! ## Events -/

@[simp] theorem State.setEvr_latches (s : State) (r : Recorder) : (s.setEvr r).host.latches = s.host.latches := by
  simp [State.setEvr]

@[simp] theorem State.eventWith_latches (s : State) (src code sev key : Nat) (snap : List Nat × Bool) :
    (s.eventWith src code sev key snap).host.latches = s.host.latches := (Reported.eventWith s src code sev key snap).latches

@[simp] theorem State.event_latches (s : State) (src code sev key : Nat) :
    (s.event src code sev key).host.latches = s.host.latches := by simp [State.event]

@[simp] theorem State.ev_latches (s : State) (b : Block) (code sev key : Nat) :
    (s.ev b code sev key).host.latches = s.host.latches := by simp [State.ev]

@[simp] theorem State.evHost_latches (s : State) (code sev key : Nat) : (s.evHost code sev key).host.latches = s.host.latches := by
  simp [State.evHost]

/-! ## LeaveOps -/

@[simp] theorem State.leaveGrant_latches (s : State) : s.leaveGrant.host.latches = s.host.latches := by simp [State.leaveGrant]

@[simp] theorem State.leaveRequest_latches (s : State) (op : LeaveOp) : (s.leaveRequest op).1.host.latches = s.host.latches := by
  unfold State.leaveRequest
  dsimp only
  split <;> simp

@[simp] theorem State.leaveReturn_latches (s : State) (id : Nat) : (s.leaveReturn id).host.latches = s.host.latches := by
  simp [State.leaveReturn]

@[simp] theorem State.leaveDropOp_latches (s : State) (op : LeaveOp) : (s.leaveDropOp op).host.latches = s.host.latches := by
  simp [State.leaveDropOp]

@[simp] theorem State.leaveTrip_latches (s : State) : s.leaveTrip.host.latches = s.host.latches := by simp [State.leaveTrip]

/-! ## PowerBase -/

@[simp] theorem State.rollback_latches (s : State) : s.rollback.host.latches = s.host.latches := by simp [State.rollback]

@[simp] theorem State.dropRequest_latches (s : State) : s.dropRequest.host.latches = s.host.latches := by
  simp [State.dropRequest]

@[simp] theorem State.wake_latches (s : State) (src : Nat) : (s.wake src).host.latches = s.host.latches := by simp [State.wake]

@[simp] theorem State.touch_latches (s : State) (src : Nat) : (s.touch src).host.latches = s.host.latches := by
  simp [State.touch]

@[simp] theorem State.updResult_latches (s : State) (v : Nat) : (s.updResult v).host.latches = s.host.latches := by
  simp [State.updResult]

@[simp] theorem State.stagingLost_latches (s : State) : s.stagingLost.host.latches = s.host.latches := by
  simp [State.stagingLost]

/-! ## EchoBase -/

@[simp] theorem State.frame_latches (s : State) (ty flags arg : Nat) (payload : List Byte) :
    (s.frame ty flags arg payload).host.latches = s.host.latches := by simp [State.frame]

@[simp] theorem State.markZone_latches (s : State) (z : Nat) : (s.markZone z).host.latches = s.host.latches := by
  simp [State.markZone]

@[simp] theorem State.echoEpoch_latches (s : State) (seq epoch : Nat) : (s.echoEpoch seq epoch).host.latches = s.host.latches := by
  simp [State.echoEpoch]

@[simp] theorem State.echoStateSend_latches (s : State) : s.echoStateSend.host.latches = s.host.latches := by
  simp [State.echoStateSend]

@[simp] theorem State.echoStateSync_latches (s : State) : s.echoStateSync.host.latches = s.host.latches := by
  simp [State.echoStateSync]

@[simp] theorem State.announceDown_latches (s : State) : s.announceDown.host.latches = s.host.latches := by
  simp [State.announceDown]

/-! ## PmrBase -/

@[simp] theorem State.syncHsts_latches (s : State) : s.syncHsts.host.latches = s.host.latches := by simp [State.syncHsts]

@[simp] theorem State.setPmr_latches (s : State) (st : PmrState) : (s.setPmr st).host.latches = s.host.latches := by
  simp [State.setPmr]

@[simp] theorem State.setCond_latches (s : State) (c : Nat) : (s.setCond c).host.latches = s.host.latches := by
  simp [State.setCond]

@[simp] theorem State.leaveReadOnly_latches (s : State) : s.leaveReadOnly.host.latches = s.host.latches := by
  simp [State.leaveReadOnly]

@[simp] theorem State.clearCond_latches (s : State) (c : Nat) : (s.clearCond c).host.latches = s.host.latches := by
  simp [State.clearCond]

/-! ## DramData -/

@[simp] theorem State.setErr_latches (s : State) (burst : Nat) (e : BurstErr) :
    (s.setErr burst e).host.latches = s.host.latches := by simp [State.setErr]

@[simp] theorem State.countPosition_latches (s : State) (key : Nat) : (s.countPosition key).host.latches = s.host.latches := by
  simp [State.countPosition]

@[simp] theorem State.queueRewrite_latches (s : State) (burst : Nat) : (s.queueRewrite burst).host.latches = s.host.latches := by
  simp [State.queueRewrite]

@[simp] theorem State.capture_latches (s : State) (port : DPort) (burst : Nat) (merge multi : Bool) (e : BurstErr) :
    (s.capture port burst merge multi e).host.latches = s.host.latches := by
  unfold State.capture
  extract_lets s1 s2 s3 syn
  have h3 : s3.host.latches = s.host.latches := by simp only [s3, s2, s1, State.put_latches, State.putB_latches]
  exact (State.put_latches _ _ _).trans ((latches_foldl (fun t n => State.put_latches t _ _) _ s3).trans h3)

@[simp] theorem State.uncovered_latches (s : State) : s.uncovered.host.latches = s.host.latches := by simp [State.uncovered]

@[simp] theorem State.freezeChan_latches (s : State) (ch : Nat) (snap : List Nat × Bool) :
    (s.freezeChan ch snap).host.latches = s.host.latches := by simp [State.freezeChan]

@[simp] theorem State.freeze_latches (s : State) (port : DPort) (burst : Nat) (merge multi : Bool) (e : BurstErr) :
    (s.freeze port burst merge multi e).host.latches = s.host.latches := by simp [State.freeze]

@[simp] theorem State.uncorrectable_latches (s : State) (port : DPort) (burst : Nat) (merge multi : Bool) (e : BurstErr) :
    (s.uncorrectable port burst merge multi e).host.latches = s.host.latches := by simp [State.uncorrectable]

@[simp] theorem State.scramble_latches (s : State) (burst : Nat) : (s.scramble burst).host.latches = s.host.latches := by
  simp [State.scramble]

@[simp] theorem State.decodeRead_latches (s : State) (port : DPort) (burst : Nat) (e : BurstErr) (merge : Bool) :
    (s.decodeRead port burst e merge).1.host.latches = s.host.latches := by
  unfold State.decodeRead
  split <;> simp

@[simp] theorem State.writeBurst_latches (s : State) (burst : Nat) : (s.writeBurst burst).host.latches = s.host.latches := by
  simp [State.writeBurst]

@[simp] theorem State.readData_latches (s : State) (port : DPort) (addr len : Nat) :
    (s.readData port addr len).1.host.latches = s.host.latches := by
  refine foldl_keeps (fun a : State × Bool => a.1.host.latches) (fun a e => ?_) _ (s, true)
  split <;> simp

@[simp] theorem State.storeBurst_latches (s : State) (port : DPort) (burst : Nat) (full : Bool) :
    (s.storeBurst port burst full).1.host.latches = s.host.latches := by
  unfold State.storeBurst
  split <;> simp

@[simp] theorem State.storeData_latches (s : State) (port : DPort) (addr : Nat) (data : List Byte) (be : List Bool) :
    (s.storeData port addr data be).1.host.latches = s.host.latches := by
  unfold State.storeData
  extract_lets r
  have hr : r.1.host.latches = s.host.latches := by
    simp only [r]
    split
    · rfl
    · refine foldl_keeps (fun a : State × Bool => a.1.host.latches) (fun a e => ?_) _ (s, true)
      split <;> simp
  split <;> exact hr

@[simp] theorem State.loseGran_latches (s : State) (g : Nat) : (s.loseGran g).host.latches = s.host.latches := by
  simp [State.loseGran]

/-! ## PmrOps -/

@[simp] theorem State.discardWrite_latches (s : State) (p : Port) : (s.discardWrite p).host.latches = s.host.latches := by
  simp [State.discardWrite]

@[simp] theorem State.setPortQueue_latches (s : State) (p : Port) (q : List PortItem) :
    (s.setPortQueue p q).host.latches = s.host.latches := by cases p <;> rfl

@[simp] theorem State.syncThr_latches (s : State) (p : Port) : (s.syncThr p).host.latches = s.host.latches := by
  simp [State.syncThr]

@[simp] theorem State.poison_latches (s : State) (g mask reason : Nat) :
    (s.poison g mask reason).host.latches = s.host.latches := by simp [State.poison]

@[simp] theorem State.unpoison_latches (s : State) (g : Nat) : (s.unpoison g).host.latches = s.host.latches := by
  simp [State.unpoison]

@[simp] theorem State.applyWrite_latches (s : State) (g off : Nat) (data : List Byte) (be : List Bool) :
    (s.applyWrite g off data be).host.latches = s.host.latches := by
  have hr := State.storeData_latches s (if g < s.ownGrans then .host else .echo) (g * 4096 + off) data be
  unfold State.applyWrite
  dsimp only
  generalize s.storeData _ _ _ _ = r at hr ⊢
  split
  · simp [hr]
  · split <;> simp [hr]

@[simp] theorem State.startFetch_latches (s : State) (g : Nat) (demand : Bool) :
    (s.startFetch g demand).host.latches = s.host.latches := by simp [State.startFetch]

@[simp] theorem State.answerPoison_latches (s : State) (p : Port) (len : Nat) :
    (s.answerPoison p len).host.latches = s.host.latches := by simp [State.answerPoison]

@[simp] theorem State.refuseRead_latches (s : State) (p : Port) : (s.refuseRead p).host.latches = s.host.latches := by
  simp [State.refuseRead]

@[simp] theorem State.forwardRead_latches (s : State) (p : Port) (addr len : Nat) :
    (s.forwardRead p addr len).host.latches = s.host.latches := by simp [State.forwardRead]

@[simp] theorem State.answerFrozen_latches (s : State) (p : Port) (addr len : Nat) :
    (s.answerFrozen p addr len).host.latches = s.host.latches := by simp [State.answerFrozen]

@[simp] theorem State.answerRead_latches (s : State) (p : Port) (addr len : Nat) :
    (s.answerRead p addr len).host.latches = s.host.latches := by simp [State.answerRead]

@[simp] theorem State.serveRead_latches (s : State) (p : Port) (addr len : Nat) :
    (s.serveRead p addr len).host.latches = s.host.latches := by simp [State.serveRead]

@[simp] theorem State.orderRead_latches (s : State) (p : Port) (addr len : Nat) :
    (s.orderRead p addr len).host.latches = s.host.latches := by simp [State.orderRead]

@[simp] theorem State.orderBarrier_latches (s : State) (p : Port) (ns : Nat) :
    (s.orderBarrier p ns).host.latches = s.host.latches := by simp [State.orderBarrier]

@[simp] theorem State.discardHeads_latches (s : State) (p : Port) (q : List PortItem) :
    (s.discardHeads p q).host.latches = s.host.latches := by
  induction q generalizing s with
  | nil => simp [State.discardHeads]
  | cons i rest ih => cases i <;> simp [State.discardHeads, ih]

@[simp] theorem State.settlePorts_latches (s : State) : s.settlePorts.host.latches = s.host.latches := by
  simp [State.settlePorts]

@[simp] theorem State.completeBarriers_latches (s : State) : s.completeBarriers.host.latches = s.host.latches := by
  unfold State.completeBarriers
  split
  · rfl
  · dsimp only
    split
    · rfl
    · refine Eq.trans (latches_foldl (fun _ _ => ?_) _ _) ?_
      · rw [State.send_host]
      · split <;> simp

@[simp] theorem State.completeAll_latches (n : Nat) (s : State) : (State.completeAll n s).host.latches = s.host.latches := by
  induction n generalizing s with
  | zero => rfl
  | succ n ih => simp [State.completeAll, ih]

@[simp] theorem State.applyHeld_latches (s : State) (g : Nat) : (s.applyHeld g).host.latches = s.host.latches := by
  simp [State.applyHeld]

@[simp] theorem State.answerFetched_latches (s : State) (r : WaitRead) : (s.answerFetched r).host.latches = s.host.latches := by
  simp [State.answerFetched]

@[simp] theorem State.answerWaiting_latches (s : State) (g : Nat) : (s.answerWaiting g).host.latches = s.host.latches := by
  simp [State.answerWaiting]

@[simp] theorem State.copyFinished_latches (s : State) : s.copyFinished.host.latches = s.host.latches := by
  simp [State.copyFinished]

/-! ## EchoOps -/

@[simp] theorem State.setEcho_latches (s : State) (st sev : Nat) : (s.setEcho st sev).host.latches = s.host.latches := by
  simp [State.setEcho]

@[simp] theorem State.uncover_latches (s : State) : s.uncover.host.latches = s.host.latches := by simp [State.uncover]

@[simp] theorem State.failForwards_latches (s : State) : s.failForwards.host.latches = s.host.latches := by
  simp [State.failForwards]

@[simp] theorem State.settleGran_latches (s : State) (g : Nat) : (s.settleGran g).host.latches = s.host.latches := by
  simp [State.settleGran]

@[simp] theorem State.loseRemote_latches (s : State) (g : Nat) : (s.loseRemote g).host.latches = s.host.latches := by
  unfold State.loseRemote
  split <;> simp

@[simp] theorem State.dropRemote_latches (s : State) : s.dropRemote.host.latches = s.host.latches := by simp [State.dropRemote]

@[simp] theorem State.peerLeaves_latches (s : State) : s.peerLeaves.host.latches = s.host.latches := by simp [State.peerLeaves]

@[simp] theorem State.judgeBarriers_latches (s : State) : s.judgeBarriers.host.latches = s.host.latches :=
  State.completeAll_latches _ s

@[simp] theorem State.endSession_latches (s : State) (next sev : Nat) : (s.endSession next sev).host.latches = s.host.latches := by
  simp [State.endSession]

@[simp] theorem State.echoTrain_latches (s : State) : s.echoTrain.host.latches = s.host.latches := by simp [State.echoTrain]

@[simp] theorem State.detach_latches (s : State) : s.detach.host.latches = s.host.latches := by simp [State.detach]

@[simp] theorem State.rejoin_latches (s : State) : s.rejoin.host.latches = s.host.latches := by simp [State.rejoin]

/-! ## GrottoBase -/

@[simp] theorem State.setBlk_latches (s : State) (lun b : Nat) (v : Blk) : (s.setBlk lun b v).host.latches = s.host.latches := by
  simp [State.setBlk]

@[simp] theorem State.grtSync_latches (s : State) : s.grtSync.host.latches = s.host.latches := by
  have hro (t : State) (c : Prop) [Decidable c] : (if c then
      (({ t with grt := { t.grt with capRo := true } } : State).put Reg.GRT_STATUS_CAP_RO 1).setCond 0x10 else t).host.latches =
        t.host.latches := by simp
  unfold State.grtSync
  split
  · rfl
  · extract_lets sp r s1 s2 s3 s4 s5 low s6 q s7
    have h6 : s6.host.latches = s.host.latches := by
      simp only [s6, s5, s4, s3, s2, s1, State.put_latches, State.putB_latches]
    exact (State.syncWarn_latches s7).trans ((hro s6 _).trans h6)

@[simp] theorem State.openBand_latches (s : State) (place : Nat) (prefer : List (Option Nat)) :
    (s.openBand place prefer).host.latches = s.host.latches := by
  unfold State.openBand
  dsimp only
  split
  · rfl
  · rw [State.grtSync_latches]
    refine (latches_foldl (fun t x => ?_) _ _).trans rfl
    split <;> simp

@[simp] theorem State.closeBand_latches (s : State) (num : Nat) (reopen : Bool) :
    (s.closeBand num reopen).host.latches = s.host.latches := by
  unfold State.closeBand
  split
  · rfl
  · split <;> simp

@[simp] theorem State.closeBandsOn_latches (s : State) (lun : Nat) : (s.closeBandsOn lun).host.latches = s.host.latches := by
  simp [State.closeBandsOn]

@[simp] theorem State.journalEntry_latches (s : State) (code lun info b ec : Nat) :
    (s.journalEntry code lun info b ec).host.latches = s.host.latches := by simp [State.journalEntry]

@[simp] theorem State.placeDesc_latches (s : State) (d : Desc) (slot : Bool) :
    (s.placeDesc d slot).host.latches = s.host.latches := by simp [State.placeDesc]

@[simp] theorem State.queueDesc_latches (s : State) (d : Desc) : (s.queueDesc d).host.latches = s.host.latches := by
  unfold State.queueDesc
  split <;> simp

@[simp] theorem State.useSpare_latches (s : State) (ch : Nat) (role : BlkSt) :
    (s.useSpare ch role).host.latches = s.host.latches := by
  unfold State.useSpare
  dsimp only
  split <;> simp

@[simp] theorem State.retireBlk_latches (s : State) (lun b reason : Nat) :
    (s.retireBlk lun b reason).host.latches = s.host.latches := by simp [State.retireBlk]

@[simp] theorem State.lunState_latches (s : State) (lun : Nat) (st : LunSt) (sev : Nat) :
    (s.lunState lun st sev).host.latches = s.host.latches := by simp [State.lunState]

@[simp] theorem State.retireLun_latches (s : State) (lun : Nat) : (s.retireLun lun).host.latches = s.host.latches := by
  simp [State.retireLun]

/-! ## GrottoOps -/

@[simp] theorem State.updStripe_latches (s : State) (serial : Nat) (f : Stripe → Stripe) :
    (s.updStripe serial f).host.latches = s.host.latches := by simp [State.updStripe]

@[simp] theorem State.updFlight_latches (s : State) (serial : Nat) (f : Flight → Flight) :
    (s.updFlight serial f).host.latches = s.host.latches := by simp [State.updFlight]

@[simp] theorem State.endFlight_latches (s : State) (serial : Nat) : (s.endFlight serial).host.latches = s.host.latches := by
  simp [State.endFlight]

@[simp] theorem State.gcCheck_latches (s : State) (now : Bool) : (s.gcCheck now).host.latches = s.host.latches := by
  unfold State.gcCheck
  split
  · rfl
  · split
    · rfl
    · split
      · rfl
      · split
        · rfl
        · split <;> rfl

@[simp] theorem State.gcErase_latches (s : State) : s.gcErase.host.latches = s.host.latches := by
  unfold State.gcErase
  split
  · rfl
  · split
    · rfl
    · exact (latches_foldl (fun t y => by simp) _ _).trans rfl

@[simp] theorem State.journalFlush_latches (s : State) : s.journalFlush.host.latches = s.host.latches := by
  simp [State.journalFlush]

@[simp] theorem State.eraseNow_latches (s : State) (lun b : Nat) (st : BlkSt) (ok : Bool) (reason : Nat) :
    (s.eraseNow lun b st ok reason).host.latches = s.host.latches := by simp [State.eraseNow]

@[simp] theorem State.dropFlight_latches (s : State) (f : Flight) : (s.dropFlight f).host.latches = s.host.latches := by
  simp [State.dropFlight]

/-! ## FlashBase -/

@[simp] theorem State.complete_latches (s : State) (c : FCompl) : (s.complete c).host.latches = s.host.latches := by
  simp [State.complete]

@[simp] theorem State.completePlain_latches (s : State) (d : Desc) (status : Nat) :
    (s.completePlain d status).host.latches = s.host.latches := by simp [State.completePlain]

@[simp] theorem State.cutPage_latches (s : State) (d : Desc) : (s.cutPage d).host.latches = s.host.latches := by
  unfold State.cutPage
  split <;> simp

@[simp] theorem State.gcCut_latches (s : State) (f : Flight) : (s.gcCut f).host.latches = s.host.latches := by
  simp [State.gcCut]

@[simp] theorem State.gcTrip_latches (s : State) : s.gcTrip.host.latches = s.host.latches := by simp [State.gcTrip]

@[simp] theorem State.flashTrip_latches (s : State) : s.flashTrip.host.latches = s.host.latches := by simp [State.flashTrip]

/-! ## LanternBase -/

@[simp] theorem State.setMod_latches (s : State) (n : Nat) (m : Module) : (s.setMod n m).host.latches = s.host.latches := by
  simp [State.setMod]

@[simp] theorem State.lanRaise_latches (s : State) (f : Fld) : (s.lanRaise f).host.latches = s.host.latches := by
  simp [State.lanRaise]

@[simp] theorem State.lanShow_latches (s : State) : s.lanShow.host.latches = s.host.latches := by simp [State.lanShow]

@[simp] theorem State.setModSt_latches (s : State) (n st : Nat) (dis chg : Bool) :
    (s.setModSt n st dis chg).host.latches = s.host.latches := by simp [State.setModSt]

@[simp] theorem State.modsBack_latches (s : State) : s.modsBack.host.latches = s.host.latches := by simp [State.modsBack]

@[simp] theorem State.learnHoldOff_latches (s : State) : s.learnHoldOff.host.latches = s.host.latches := by
  simp [State.learnHoldOff]

@[simp] theorem State.learnNote_latches (s : State) (port outcome sigma cap : Nat) :
    (s.learnNote port outcome sigma cap).host.latches = s.host.latches := by simp [State.learnNote]

@[simp] theorem State.lanCopy_latches (s : State) : s.lanCopy.host.latches = s.host.latches := by simp [State.lanCopy]

@[simp] theorem State.learnOver_latches (s : State) (port : Nat) : (s.learnOver port).host.latches = s.host.latches := by
  simp [State.learnOver]

@[simp] theorem State.learnEnd_latches (s : State) (l : Learn) (outcome sigma cap : Nat) :
    (s.learnEnd l outcome sigma cap).host.latches = s.host.latches := by simp [State.learnEnd]

@[simp] theorem State.learnRetry_latches (s : State) (port : Nat) : (s.learnRetry port).host.latches = s.host.latches := by
  simp [State.learnRetry]

@[simp] theorem State.learnAbort_latches (s : State) (outcome : Nat) : (s.learnAbort outcome).host.latches = s.host.latches := by
  unfold State.learnAbort
  split
  · rfl
  · simp

@[simp] theorem State.restCut_latches (s : State) : s.restCut.host.latches = s.host.latches := by
  unfold State.restCut
  split
  · rfl
  · rw [State.lanShow_latches, State.lanCopy_latches]
    split <;> simp

@[simp] theorem State.lanAbort_latches (s : State) (outcome : Nat) : (s.lanAbort outcome).host.latches = s.host.latches := by
  simp [State.lanAbort]

@[simp] theorem State.lanTrip_latches (s : State) : s.lanTrip.host.latches = s.host.latches := by
  unfold State.lanTrip
  refine Eq.trans (latches_foldl (fun _ _ => ?_) ports8 _) ?_
  · rw [State.setMod_latches]
  · rw [State.lanAbort_latches, State.put_latches]

/-! ## RecorderOps -/

@[simp] theorem State.norFlushOne_latches (s : State) (late : Bool) : (s.norFlushOne late).host.latches = s.host.latches := by
  unfold State.norFlushOne
  split
  · rfl
  · split
    · rfl
    · simp

@[simp] theorem State.norFlush_latches (late : Bool) (n : Nat) (s : State) :
    (State.norFlush late n s).host.latches = s.host.latches := by
  induction n generalizing s with
  | zero => rfl
  | succ n ih => simp [State.norFlush, ih]

@[simp] theorem State.bbErase_latches (s : State) (home : Nat) : (s.bbErase home).host.latches = s.host.latches := by
  simp [State.bbErase]

@[simp] theorem State.bbPage_latches (s : State) (tail buffer : Bool) (es : List EvRecord) :
    (s.bbPage tail buffer es).1.host.latches = s.host.latches := by
  unfold State.bbPage
  split
  · rfl
  · split
    · rfl
    · simp

@[simp] theorem State.bbFlush_latches (s : State) (late : Bool) : (s.bbFlush late).host.latches = s.host.latches := by
  simp [State.bbFlush]

@[simp] theorem State.flushAll_latches (s : State) (late : Bool) : (s.flushAll late).host.latches = s.host.latches := by
  simp [State.flushAll]

@[simp] theorem State.bbSync_latches (s : State) : s.bbSync.host.latches = s.host.latches := by simp [State.bbSync]

@[simp] theorem State.readRecord_latches (s : State) : s.readRecord.host.latches = s.host.latches := by
  unfold State.readRecord
  split
  · simp only [State.put_latches]
  · refine (latches_foldl (fun t w => State.put_latches t _ _) _ _).trans ?_
    simp only [State.put_latches]

/-! ## SeqBase -/

@[simp] theorem State.setChan_latches (s : State) (n : Nat) (c : Chan) : (s.setChan n c).host.latches = s.host.latches := by
  simp [State.setChan]

@[simp] theorem State.resumeRetained_latches (s : State) : s.resumeRetained.host.latches = s.host.latches := by
  simp [State.resumeRetained]

@[simp] theorem State.sleepExitNow_latches (s : State) : s.sleepExitNow.host.latches = s.host.latches := by
  simp [State.sleepExitNow]

@[simp] theorem State.leaveOn_latches (s : State) (src : Nat) : (s.leaveOn src).host.latches = s.host.latches := by
  simp [State.leaveOn]

@[simp] theorem State.ffErase_latches (s : State) : s.ffErase.host.latches = s.host.latches := by simp [State.ffErase]

@[simp] theorem State.setSeq_latches (s : State) (st : Nat) : (s.setSeq st).host.latches = s.host.latches := by
  simp [State.setSeq]

@[simp] theorem State.resetBlock_latches (s : State) (b : Block) (keep : List Fld) :
    (s.resetBlock b keep).host.latches = s.host.latches := by simp [State.resetBlock]

@[simp] theorem State.resetRw_latches (s : State) (b : Block) : (s.resetRw b).host.latches = s.host.latches := by
  simp [State.resetRw]

@[simp] theorem State.upBegin_latches (s : State) (attempt : Nat) : (s.upBegin attempt).host.latches = s.host.latches := by
  simp [State.upBegin]

@[simp] theorem State.powerOn_latches (s : State) (attempt : Nat) : (s.powerOn attempt).host.latches = s.host.latches := by
  simp [State.powerOn]

@[simp] theorem State.bootNote_latches (s : State) (kind reason : Nat) (cold : Bool) :
    (s.bootNote kind reason cold).host.latches = s.host.latches := by simp [State.bootNote]

@[simp] theorem State.disableGroup_latches (s : State) (g : Nat) : (s.disableGroup g).host.latches = s.host.latches := by
  simp [State.disableGroup]

/-! ## DramOps -/

@[simp] theorem State.dramTrip_latches (s : State) : s.dramTrip.host.latches = s.host.latches := by simp [State.dramTrip]

@[simp] theorem State.dmcStatClr_latches (s : State) : s.dmcStatClr.host.latches = s.host.latches := by simp [State.dmcStatClr]

@[simp] theorem State.dmcXlate_latches (s : State) : s.dmcXlate.host.latches = s.host.latches := by
  unfold State.dmcXlate
  extract_lets a bad d s1 s2 s3
  simp only [s3, s2, s1, State.put_latches, State.putB_latches]

@[simp] theorem State.eccCntClr_latches (s : State) : s.eccCntClr.host.latches = s.host.latches := by simp [State.eccCntClr]

@[simp] theorem State.posLoad_latches (s : State) : s.posLoad.host.latches = s.host.latches := by simp [State.posLoad]

@[simp] theorem State.diagRead_latches (s : State) : s.diagRead.host.latches = s.host.latches := by
  unfold State.diagRead
  extract_lets a refused e out posMask s1 s2
  simp only [s2, s1, State.put_latches, State.putB_latches]

/-! ## VaultOps -/

@[simp] theorem State.updVault_latches (s : State) (f : Vault → Vault) : (s.updVault f).host.latches = s.host.latches := by
  simp [State.updVault]

@[simp] theorem State.stopFetches_latches (s : State) : s.stopFetches.host.latches = s.host.latches := by
  simp [State.stopFetches]

@[simp] theorem State.cutRehearsal_latches (s : State) : s.cutRehearsal.host.latches = s.host.latches := by
  simp [State.cutRehearsal]

@[simp] theorem State.discardAll_latches (s : State) (p : Port) : (s.discardAll p).host.latches = s.host.latches := by
  refine latches_foldl (fun t i => ?_) _ s
  split <;> simp

@[simp] theorem State.closeIngest_latches (s : State) : s.closeIngest.host.latches = s.host.latches := by
  simp [State.closeIngest]

@[simp] theorem State.carryFlights_latches (s : State) : s.carryFlights.host.latches = s.host.latches := by
  simp [State.carryFlights]

@[simp] theorem State.startVault_latches (s : State) (cause : VaultCause) (tripped : Bool) :
    (s.startVault cause tripped).host.latches = s.host.latches := by simp [State.startVault]

/-! ## FlashOps -/

@[simp] theorem State.lunDead_latches (s : State) (lun : Nat) : (s.lunDead lun).host.latches = s.host.latches := by
  simp [State.lunDead]

@[simp] theorem State.channelOut_latches (s : State) (ch : Nat) : (s.channelOut ch).host.latches = s.host.latches := by
  simp [State.channelOut]

@[simp] theorem State.retrain_latches (s : State) (ch : Nat) (ok : Bool) : (s.retrain ch ok).host.latches = s.host.latches := by
  simp [State.retrain]

/-! ## RestoreOps -/

@[simp] theorem State.formatRecords_latches (s : State) : s.formatRecords.host.latches = s.host.latches := by
  refine latches_foldl (fun t c => ?_) _ s
  split
  · rfl
  · split
    · rfl
    · exact latches_foldl (fun u e => by simp) _ _

@[simp] theorem State.formatSpares_latches (s : State) (ch : Nat) : (s.formatSpares ch).host.latches = s.host.latches := by
  simp [State.formatSpares]

@[simp] theorem State.formatHeads_latches (s : State) : s.formatHeads.host.latches = s.host.latches := by
  simp [State.formatHeads]

@[simp] theorem State.formatLun_latches (s : State) (lun : Nat) : (s.formatLun lun).host.latches = s.host.latches := by
  simp [State.formatLun]

@[simp] theorem State.formatJournal_latches (s : State) (luns : List Nat) :
    (s.formatJournal luns).host.latches = s.host.latches := by simp [State.formatJournal]

@[simp] theorem State.takeBlocks_latches (s : State) : s.takeBlocks.host.latches = s.host.latches := by simp [State.takeBlocks]

@[simp] theorem State.fullBucket_latches (s : State) : s.fullBucket.host.latches = s.host.latches := State.put_latches s _ _

@[simp] theorem State.formatMedia_latches (s : State) : s.formatMedia.host.latches = s.host.latches := by
  simp [State.formatMedia]

@[simp] theorem State.formatGrotto_latches (s : State) : s.formatGrotto.host.latches = s.host.latches := by
  simp [State.formatGrotto]

/-! ## LanternOps -/

@[simp] theorem State.learnDue_latches (s : State) (n : Nat) (first : Bool) :
    (s.learnDue n first).host.latches = s.host.latches := by simp [State.learnDue]

@[simp] theorem State.learnReq_latches (s : State) (n : Nat) : (s.learnReq n).host.latches = s.host.latches := by
  simp [State.learnReq]

@[simp] theorem State.faultOver_latches (s : State) (n : Nat) : (s.faultOver n).host.latches = s.host.latches := by
  simp [State.faultOver]

@[simp] theorem State.lanFaultClr_latches (s : State) : s.lanFaultClr.host.latches = s.host.latches := by
  simp [State.lanFaultClr]

/-! ## UmbraOps -/

@[simp] theorem State.umbRaise_latches (s : State) (f : Fld) : (s.umbRaise f).host.latches = s.host.latches := by
  simp [State.umbRaise]

@[simp] theorem State.setSeepRate_latches (s : State) : s.setSeepRate.host.latches = s.host.latches := by
  simp [State.setSeepRate]

@[simp] theorem State.rehStart_latches (s : State) (software : Bool) : (s.rehStart software).host.latches = s.host.latches := by
  simp [State.rehStart]

@[simp] theorem State.rehRequest_latches (s : State) : s.rehRequest.1.host.latches = s.host.latches := by
  unfold State.rehRequest
  split <;> simp

/-! ## RailOps -/

@[simp] theorem State.button_latches (s : State) : s.button.host.latches = s.host.latches := by simp [State.button]

@[simp] theorem State.faultClr_latches (s : State) : s.faultClr.host.latches = s.host.latches := by simp [State.faultClr]

/-! ## PowerOps -/

@[simp] theorem State.beginHandshake_latches (s : State) (target : Nat) :
    (s.beginHandshake target).host.latches = s.host.latches := by simp [State.beginHandshake]

@[simp] theorem State.sleepRequest_latches (s : State) : s.sleepRequest.host.latches = s.host.latches := by
  simp [State.sleepRequest]

@[simp] theorem State.deepBegin_latches (s : State) : s.deepBegin.host.latches = s.host.latches := by simp [State.deepBegin]

@[simp] theorem State.deepRequest_latches (s : State) : s.deepRequest.host.latches = s.host.latches := by
  simp [State.deepRequest]

@[simp] theorem State.cancelRequest_latches (s : State) : s.cancelRequest.host.latches = s.host.latches := by
  simp [State.cancelRequest]

/-! ## RegActs -/

theorem onBit_latches (s : State) (f : Fld) (w : Nat) {k : State → State}
    (h : ∀ t : State, (k t).host.latches = t.host.latches) : (s.onBit f w k).host.latches = s.host.latches := by
  simp [State.onBit, h]

@[simp] theorem State.provWord_latches (s : State) (w : Nat) : (s.provWord w).host.latches = s.host.latches := by
  simp [State.provWord]

@[simp] theorem State.burn_latches (s : State) : s.burn.host.latches = s.host.latches := by simp [State.burn]

@[simp] theorem State.monClr_latches (s : State) : s.monClr.host.latches = s.host.latches := by simp [State.monClr]

@[simp] theorem State.pwrCntClr_latches (s : State) : s.pwrCntClr.host.latches = s.host.latches :=
  latches_clearRows (fun r => r.off = 0x12001C ∨ r.off = 0x120020 ∨ r.off = 0x120024) _ s

@[simp] theorem State.actPwr_latches (s : State) (o w : Nat) : (s.actPwr o w).host.latches = s.host.latches := by
  simp [State.actPwr, onBit_latches]

@[simp] theorem State.actLan_latches (s : State) (o w : Nat) : (s.actLan o w).host.latches = s.host.latches := by
  simp [State.actLan, onBit_latches]

@[simp] theorem State.holdEvent_latches (s : State) (b : Block) (f : Fld) (ow w : Nat) :
    (s.holdEvent b f ow w).host.latches = s.host.latches := by simp [State.holdEvent]

@[simp] theorem State.vltStatClr_latches (s : State) : s.vltStatClr.host.latches = s.host.latches :=
  latches_clearRows (fun r => r.off = 0x160038 ∨ r.off = 0x16003C) _ s

@[simp] theorem State.formatNow_latches (s : State) : s.formatNow.host.latches = s.host.latches := 
  have hkind (t : State) : ({ t with vlt := { t.vlt with openKind := some 0, formatRun := true } } : State).host.latches =
      t.host.latches := rfl
  (hkind _).trans ((State.formatGrotto_latches _).trans (State.closeIngest_latches s))

@[simp] theorem State.grtFormat_latches (s : State) : s.grtFormat.host.latches = s.host.latches := by simp [State.grtFormat]

@[simp] theorem State.actData_latches (s : State) (o ow w : Nat) : (s.actData o ow w).host.latches = s.host.latches := by
  simp [State.actData, onBit_latches]

@[simp] theorem State.retrainGo_latches (s : State) (env : Option Bool) : (s.retrainGo env).host.latches = s.host.latches := by
  unfold State.retrainGo
  dsimp only
  split
  · rfl
  · split <;> simp

@[simp] theorem State.flcCntClr_latches (s : State) : s.flcCntClr.host.latches = s.host.latches :=
  latches_clearRows (fun r => 0x180040 ≤ r.off ∧ r.off ≤ 0x180058) _ s

@[simp] theorem State.ecLoad_latches (s : State) : s.ecLoad.host.latches = s.host.latches := by simp [State.ecLoad]

@[simp] theorem State.actMem_latches (s : State) (o w : Nat) (env : Option Bool) :
    (s.actMem o w env).host.latches = s.host.latches := by
  simp [State.actMem, onBit_latches]

@[simp] theorem State.echCntClr_latches (s : State) : s.echCntClr.host.latches = s.host.latches :=
  latches_clearRows (fun r => 0x1A0044 ≤ r.off ∧ r.off ≤ 0x1A004C) _ s

@[simp] theorem State.evrCntClr_latches (s : State) : s.evrCntClr.host.latches = s.host.latches := by simp [State.evrCntClr]

@[simp] theorem State.kick_latches (s : State) (key : Nat) : (s.kick key).host.latches = s.host.latches := by simp [State.kick]

@[simp] theorem State.wdtEn_latches (s : State) (ow : Nat) : (s.wdtEn ow).host.latches = s.host.latches := by simp [State.wdtEn]

@[simp] theorem State.actRest_latches (s : State) (o ow w : Nat) : (s.actRest o ow w).host.latches = s.host.latches := by
  simp [State.actRest, onBit_latches]

end Sys2Proof.Machine
end

section
/-! SUPPORT. The actions that can take the device down or reset it: after any action of a register's write, each requester's latch
is as it was or as if the requester had made no access. -/

namespace Sys2Proof.Machine

/-- The latches are those of the earlier state, or all blank. -/
def LatchesKept (t s : State) : Prop :=
  t.host.latches = s.host.latches ∨ t.host.latches = HostSide.init.latches

namespace LatchesKept

variable {s t u : State}

theorem trans (h : LatchesKept t s) (k : LatchesKept u t) : LatchesKept u s :=
  k.elim (fun e => h.imp e.trans e.trans) .inr

theorem ite {c : Prop} [Decidable c] {a b : State} (ha : LatchesKept a s) (hb : LatchesKept b s) :
    LatchesKept (if c then a else b) s := by
  split <;> assumption

theorem onBit {k : State → State} (h : ∀ t, LatchesKept (k t) t) (s : State) (f : Fld) (w : Nat) :
    LatchesKept (s.onBit f w k) s := ite (h s) (.inl rfl)

/-- No requester holds a low dword that it did not hold before. -/
theorem held_ne (h : LatchesKept t s) {r : Requester} {d : Nat × Nat} (hs : (s.regPort r).held ≠ some d) :
    (t.regPort r).held ≠ some d := by
  rcases h with e | e
  · rwa [State.regPort_of_latches e r]
  · have hblank : t.regPort r = RegPort.init := by
      rw [State.regPort, e]
      cases r <;> rfl
    simp [hblank, RegPort.init]

theorem held_none (h : LatchesKept t s) {r : Requester} (hs : (s.regPort r).held = none) : (t.regPort r).held = none :=
  Option.eq_none_iff_forall_ne_some.mpr fun _ => h.held_ne (by simp [hs])

end LatchesKept

variable (s : State)

/-! ## Power-down -/

@[simp] theorem State.allOff_latches : s.allOff.host.latches = HostSide.init.latches := by
  simp only [State.allOff, State.put_latches]

@[simp] theorem State.enterOff_latches (auto : Bool) : (s.enterOff auto).host.latches = HostSide.init.latches := by
  simp [State.enterOff]

@[simp] theorem State.enterLockout_latches (attempt : Bool) : (s.enterLockout attempt).host.latches = HostSide.init.latches := by
  simp [State.enterLockout]

@[simp] theorem State.enterRetry_latches : s.enterRetry.host.latches = HostSide.init.latches := by
  simp [State.enterRetry]

/-- Whatever ends the power-down, the latches are blank. -/
theorem State.downFinish_latches : s.downFinish.host.latches = HostSide.init.latches := by
  simp [State.downFinish]

theorem kept_downBegin (why : DownWhy) (fast : Bool) : LatchesKept (s.downBegin why fast) s := by
  unfold State.downBegin
  dsimp only
  split
  · exact .inr (State.downFinish_latches _)
  · exact .inl (by simp)

theorem kept_vaultOrDown (cause : VaultCause) : LatchesKept (s.vaultOrDown cause) s := by
  have hannounced : ((s.leaveOn cause.wake).announceDown).host.latches = s.host.latches := by simp
  refine LatchesKept.trans (.inl hannounced) (LatchesKept.ite (.inl ?_) (kept_downBegin _ _ _))
  exact State.startVault_latches _ _ _

theorem kept_graceOver : LatchesKept s.graceOver s := LatchesKept.ite (kept_vaultOrDown s .grace) (.inl rfl)

theorem kept_graceTurn : LatchesKept s.graceTurn s := LatchesKept.ite (kept_graceOver s) (.inl rfl)

theorem kept_enterGrace : LatchesKept s.enterGrace s := by
  have hgrace : (((s.setSeq seqGrace).put Reg.SUP_STATUS_OFF_PENDING 1).button).host.latches = s.host.latches := by simp
  exact LatchesKept.trans (.inl hgrace) (LatchesKept.ite (kept_graceOver _) (kept_graceTurn _))

theorem kept_latchUp (why : DownWhy) : LatchesKept (s.latchUp why) s := by
  unfold State.latchUp
  exact LatchesKept.ite (.inl rfl) (LatchesKept.trans (.inl rfl) (kept_downBegin _ why false))

theorem kept_offRequest : LatchesKept s.offRequest s := by
  unfold State.offRequest
  exact .ite (kept_enterGrace s) (.ite (kept_latchUp s _) (.ite (.inl (by simp)) (.ite (.inr (by simp)) (.inl rfl))))

/-! ## Reset -/

@[simp] theorem State.warmReset_latches (path : Nat) : (s.warmReset path).host.latches = HostSide.init.latches := by
  simp only [State.warmReset, State.put_latches, State.setDom_host]

theorem kept_mrst : LatchesKept s.mrst s := by
  unfold State.mrst
  exact .ite (.inl (by simp)) (.ite (.inl rfl) (.ite (.inr (by simp)) (.inl rfl)))

theorem kept_warmRst : LatchesKept s.warmRst s :=
  .ite (LatchesKept.trans (.inl (State.announceDown_latches s)) (kept_mrst _)) (kept_mrst s)

theorem kept_leaveSafe : LatchesKept s.leaveSafe s :=
  .ite (LatchesKept.trans (.inl (State.bootNote_latches s _ _ _)) (kept_vaultOrDown _ _)) (.inl rfl)

theorem kept_safeClr : LatchesKept s.safeClr s :=
  .ite (LatchesKept.trans (.inl (State.put_latches s _ _)) (kept_leaveSafe _)) (.inl rfl)

/-! ## The actions of a block's registers -/

theorem kept_actSys (o w : Nat) : LatchesKept (s.actSys o w) s := by
  unfold State.actSys
  exact .ite ((LatchesKept.onBit kept_safeClr s _ w).trans (LatchesKept.onBit kept_warmRst _ _ w))
    (.ite (LatchesKept.onBit (fun t => .inl t.burn_latches) s _ w) (.ite (.inl (by simp)) (.inl rfl)))

theorem kept_actSup (o w : Nat) : LatchesKept (s.actSup o w) s := by
  unfold State.actSup
  exact .ite (((LatchesKept.onBit (fun t => .inl (t.put_latches _ _)) s _ w).trans
    (LatchesKept.onBit (fun t => .inl t.faultClr_latches) _ _ w)).trans (LatchesKept.onBit kept_offRequest _ _ w)) (.inl rfl)

theorem kept_regAct (b : Block) (o ow w : Nat) (env : Option Bool) : LatchesKept (s.regAct b o ow w env) s := by
  cases b
  case sys => exact kept_actSys s o w
  case sup => exact kept_actSup s o w
  case clk | pwr => exact .inl (State.actPwr_latches s o w)
  case lan => exact .inl (State.actLan_latches s o w)
  case umb | vlt | grt => exact .inl (State.actData_latches s o ow w)
  case flc | dmc => exact .inl (State.actMem_latches s o w env)
  case ech | evr | cfg | wdt => exact .inl (State.actRest_latches s o ow w)

/-! ## The write of a whole register -/

theorem kept_rowWrite (r : Requester) (b : Block) (row : RegRow) (w : Nat) (env : Option Bool) :
    LatchesKept (s.rowWrite r b row w env) s := by
  have hevent (t : State) : LatchesKept (t.accEvent 13 0x4001 3 row.off w r) t := .inl (State.eventWith_latches t _ _ _ _ _)
  have hfields (t : State) : LatchesKept (row.flds.foldl (fun t f => t.fldWrite w f) t) t := by
    obtain ⟨m, hm⟩ := foldl_fldWrite_regs_only row.flds w t
    exact .inl (by rw [hm])
  exact ((LatchesKept.ite (hevent s) (.inl rfl)).trans (hfields _)).trans (kept_regAct _ b row.off _ w env)

/-- Whether or not the word sets reserved bits (R10), a requester's latch is kept or blank. -/
theorem kept_fullWrite (r : Requester) (b : Block) (row : RegRow) (o w : Nat) (env : Option Bool) :
    LatchesKept (s.fullWrite r b row o w env) s := by
  have hevent : LatchesKept (s.accEvent b.source 0x3002 4 o w r) s := .inl (State.eventWith_latches s _ _ _ _ _)
  have hfresh (t : State) : LatchesKept (t.fresh 1).2 t := .inl rfl
  exact .ite (.ite ((hevent.trans (hfresh _)).trans (kept_rowWrite _ r b row w env)) (hevent.trans (hfresh _)))
    (kept_rowWrite s r b row w env)

end Sys2Proof.Machine
end

section
/-! PROOF. The high-dword latch and the held low dword of each requester. -/

namespace Sys2Proof.Machine

variable {s : State} {r : Requester} {o w : Nat} {b : Block} {row : RegRow}

theorem State.clearRc_latches (s : State) (row : RegRow) : (s.clearRc row).host.latches = s.host.latches := by
  obtain ⟨m, hm⟩ := clearRc_regs_only s row
  rw [hm]

/-! ## Reads -/

/-- What a read of a low dword leaves at its requester (R513). -/
theorem regPort_regRead_low (hlen : s.host.latches.length = 9) (hb : Block.ofOff o = some b) (hon : s.domOn b.domain = true)
    (hrow : regAt o = some (row, false)) (hwide : row.wide = true) : (s.regRead r o).st.regPort r =
      { s.regPort r with lastLow := some row.off, latch := s.wordOf row / 2 ^ 32,
                         held := ((s.noteAccess r row.off).regPort r).held } := by
  have hlt : r.idx < ((s.noteAccess r row.off).clearRc row).host.latches.length := by
    rw [State.clearRc_latches, State.noteAccess_latches_length, hlen]
    exact r.idx_lt
  rw [State.regRead_of_on hb hon, State.readDword_low hrow hwide]
  simp only [accOk, State.regPort_setRegPort _ r _ hlt]
  rw [State.regPort_of_latches (State.clearRc_latches (s.noteAccess r row.off) row), State.regPort_noteAccess]

theorem regPort_regRead_low_ne (hb : Block.ofOff o = some b) (hon : s.domOn b.domain = true)
    (hrow : regAt o = some (row, false)) (hwide : row.wide = true) {q : Requester} (hq : q ≠ r) :
    (s.regRead r o).st.regPort q = s.regPort q := by
  rw [State.regRead_of_on hb hon, State.readDword_low hrow hwide]
  simp only [accOk]
  rw [State.regPort_setRegPort_ne _ r q _ hq, State.regPort_of_latches (State.clearRc_latches (s.noteAccess r row.off) row),
    State.regPort_noteAccess_ne s r q _ hq]

theorem val_regRead_low (hb : Block.ofOff o = some b) (hon : s.domOn b.domain = true)
    (hrow : regAt o = some (row, false)) (hwide : row.wide = true) : (s.regRead r o).val = s.wordOf row % 2 ^ 32 := by
  rw [State.regRead_of_on hb hon, State.readDword_low hrow hwide]
  rfl

theorem val_regRead_high (hb : Block.ofOff o = some b) (hon : s.domOn b.domain = true) (hrow : regAt o = some (row, true)) :
    (s.regRead r o).val =
      if (s.regPort r).lastLow = some row.off then (s.regPort r).latch else s.wordOf row / 2 ^ 32 := by
  rw [State.regRead_of_on hb hon, State.readDword_high hrow]
  rfl

theorem domOn_regRead_low (hb : Block.ofOff o = some b) (hon : s.domOn b.domain = true)
    (hrow : regAt o = some (row, false)) (hwide : row.wide = true) : (s.regRead r o).st.domOn b.domain = true := by
  obtain ⟨m, hm⟩ := clearRc_regs_only (s.noteAccess r row.off) row
  rw [State.regRead_of_on hb hon, State.readDword_low hrow hwide, hm]
  exact hon

/-- Two dwords at once are one sample of the register (R513). -/
theorem val_regRead2 (hlen : s.host.latches.length = 9) (hb : Block.ofOff o = some b) (hb' : Block.ofOff (o + 4) = some b)
    (hon : s.domOn b.domain = true) (hlow : regAt o = some (row, false)) (hhigh : regAt (o + 4) = some (row, true))
    (hwide : row.wide = true) : (s.regRead2 r o).val = s.wordOf row := by
  have hoff : (s.regRead r o).off = false := by rw [State.regRead_of_on hb hon]; rfl
  have hhi : ((s.regRead r o).st.regRead r (o + 4)).val = s.wordOf row / 2 ^ 32 := by
    rw [val_regRead_high hb' (domOn_regRead_low hb hon hlow hwide) hhigh, regPort_regRead_low hlen hb hon hlow hwide, if_pos rfl]
  simp only [State.regRead2, hoff, hhi, val_regRead_low hb hon hlow hwide, Bool.false_eq_true, if_false]
  rw [Nat.mul_comm]
  exact Nat.mod_add_div _ _

/-- A read keeps a held low dword of its own register and discards every other (R513). -/
theorem held_regRead {hi : Bool} (hlen : s.host.latches.length = 9) (hb : Block.ofOff o = some b)
    (hon : s.domOn b.domain = true) (hrow : regAt o = some (row, hi)) :
    ((s.regRead r o).st.regPort r).held = (s.regPort r).held.filter (fun h => h.1 = row.off) := by
  have hnoted : ((s.noteAccess r row.off).regPort r).held = (s.regPort r).held.filter (fun h => h.1 = row.off) := by
    rw [State.regPort_noteAccess]
  cases hi with
  | true =>
    rw [State.regRead_of_on hb hon, State.readDword_high hrow]
    exact hnoted
  | false =>
    cases hwide : row.wide with
    | true => rw [regPort_regRead_low hlen hb hon hrow hwide]; exact hnoted
    | false =>
      rw [State.regRead_of_on hb hon, State.readDword_narrow hrow hwide]
      exact (congrArg RegPort.held (State.regPort_of_latches (State.clearRc_latches _ row) r)).trans hnoted

theorem held_filter_none {p : RegPort} {h : Nat × Nat} {base : Nat} (hh : p.held = some h) (hne : h.1 ≠ base) :
    p.held.filter (fun h => h.1 = base) = none := by simp [hh, Option.filter, hne]

/-! ## Writes -/

/-- A permitted write discards a low dword held for another register (R513). -/
theorem held_regWrite_ne {hi : Bool} {h : Nat × Nat} (hb : Block.ofOff o = some b) (hon : s.domOn b.domain = true)
    (hrow : regAt o = some (row, hi)) (hh : (s.regPort r).held = some h) (hne : h.1 ≠ row.off)
    (hmay : s.mayWrite r o w = true) : ((s.regWrite r o w).st.regPort r).held ≠ some h := by
  have hconsole : (s.noteConsole r b o w).host.latches = s.host.latches := by
    unfold State.noteConsole
    split
    · exact State.eventWith_latches s _ _ _ _ _
    · rfl
  have hnoted : (((s.noteConsole r b o w).noteAccess r row.off).regPort r).held = none := by
    rw [State.regPort_noteAccess, State.regPort_of_latches hconsole]
    exact held_filter_none hh hne
  have hlt : r.idx < ((s.noteConsole r b o w).noteAccess r row.off).host.latches.length := by
    rw [State.noteAccess_latches_length, hconsole]
    exact State.idx_lt_of_held hh
  rw [State.regWrite_of_on hb hon hmay]
  show (((s.noteConsole r b o w).writeDword r b o w none).regPort r).held ≠ some h
  cases hi with
  | true =>
    rw [State.writeDword_high hrow]
    refine (kept_fullWrite _ r b row o _ none).held_ne ?_
    rw [State.regPort_setRegPort _ r _ hlt]
    exact Option.some_ne_none h |>.symm
  | false =>
    by_cases hheld : row.wide = true ∧ row.writable = true
    · rw [State.writeDword_held hrow hheld.1 hheld.2, State.regPort_setRegPort _ r _ hlt]
      rintro ⟨⟩
      exact hne rfl
    · rw [State.writeDword_full hrow (by simpa [← Bool.not_eq_true, imp_iff_not_or] using hheld)]
      exact (kept_fullWrite _ r b row o w none).held_ne (by rw [hnoted]; exact Option.some_ne_none h |>.symm)

/-- The write of a low dword is held, and nothing else changes (R513). -/
theorem regWrite_low_held (hlen : s.host.latches.length = 9) (hr : r ≠ .uart) (hb : Block.ofOff o = some b)
    (hon : s.domOn b.domain = true) (hmay : s.mayWrite r o w = true) (hrow : regAt o = some (row, false))
    (hwide : row.wide = true) (hwr : row.writable = true) :
    (s.regWrite r o w).st.regs = s.regs ∧ (s.regWrite r o w).st.Frame s [] [] ∧
      ((s.regWrite r o w).st.regPort r).held = some (row.off, w) := by
  have hlt : r.idx < (s.noteAccess r row.off).host.latches.length := by
    rw [State.noteAccess_latches_length, hlen]
    exact r.idx_lt
  rw [State.regWrite_of_on hb hon hmay, State.noteConsole_of_ne s hr, State.writeDword_held hrow hwide hwr]
  refine ⟨rfl, frame_of_quiet ((quiet_noteAccess s r _).trans (quiet_setRegPort _ r _)) [] [], ?_⟩
  exact congrArg RegPort.held (State.regPort_setRegPort _ r _ hlt)

/-- The state in which the write of a high dword finds its register: the held low dword is taken. -/
def State.takeHeld (s : State) (r : Requester) (row : RegRow) : State :=
  (s.noteAccess r row.off).setRegPort r { (s.noteAccess r row.off).regPort r with held := none }

/-- The write of a high dword takes the low dword held for its register, and starts the register's action (R513). -/
theorem regWrite_high_taken {low : Nat} (hr : r ≠ .uart) (hb : Block.ofOff o = some b) (hon : s.domOn b.domain = true)
    (hmay : s.mayWrite r o w = true) (hrow : regAt o = some (row, true)) (hheld : (s.regPort r).held = some (row.off, low))
    (hclean : strayBits row.mask (w * 2 ^ 32 + low) = false) :
    (s.regWrite r o w).st = (s.takeHeld r row).rowWrite r b row (w * 2 ^ 32 + low) none ∧
      ((s.regWrite r o w).st.regPort r).held = none := by
  have hlt : r.idx < (s.noteAccess r row.off).host.latches.length := by
    rw [State.noteAccess_latches_length]
    exact State.idx_lt_of_held hheld
  have hst : (s.regWrite r o w).st = (s.takeHeld r row).rowWrite r b row (w * 2 ^ 32 + low) none := by
    rw [State.regWrite_of_on hb hon hmay, State.noteConsole_of_ne s hr, State.writeDword_high hrow,
      State.lowDword_of_held hheld, State.fullWrite_of_clean hclean]
    rfl
  refine ⟨hst, hst ▸ (kept_rowWrite _ r b row _ none).held_none ?_⟩
  exact congrArg RegPort.held (State.regPort_setRegPort _ r _ hlt)

/-- The word of a register with one RW field, which takes the whole word, and then starts the register's action. -/
theorem rowWrite_single (t : State) {f : Fld} (hacc : f.acc = .rw) (hne : f ≠ Reg.ECH_CTRL_MVIEW_EN) (b : Block) (off v : Nat)
    (wide : Bool) : t.rowWrite r b ⟨off, wide, [f]⟩ v none =
      (t.put f (f.of v)).regAct b off (t.wordOf ⟨off, wide, [f]⟩) v none := by
  simp [State.rowWrite, RegRow.hasRwl, hacc, State.fldWrite, hne]

theorem strayBits_of_lt {n v : Nat} (h : v < 2 ^ n) : strayBits (2 ^ n - 1) v = false := by
  simp [strayBits, Nat.mod_eq_of_lt h]

/-- A field at bit 0 takes a word that fits it as it is. -/
theorem of_put_of_lt (t : State) {f : Fld} {v : Nat} (hlo : f.lo = 0) (hv : v < 2 ^ f.width) : (t.put f (f.of v)).get f = v := by
  simp [Fld.of, hlo, Nat.mod_eq_of_lt hv]

/-! ## The registers of R253 and R283 -/

theorem dmcXlate_addr (t : State) : t.dmcXlate.get Reg.DMC_XLATE_ADDR_ADDR = t.get Reg.DMC_XLATE_ADDR_ADDR := by
  unfold State.dmcXlate
  extract_lets a bad d s1 s2 s3
  simp (disch := decide) only [s3, s2, s1, State.putB, State.get_put_ne]

theorem dmcXlate_valid (t : State) : t.dmcXlate.flag Reg.DMC_XLATE_RESULT0_VALID = true := by
  unfold State.dmcXlate State.flag
  extract_lets a bad d s1 s2 s3
  simp (disch := decide) only [s3, s2, s1, State.putB, State.get_put_ne, State.get_put_same]
  rfl

theorem diagRead_addr (t : State) : t.diagRead.get Reg.DMC_DIAG_ADDR_ADDR = t.get Reg.DMC_DIAG_ADDR_ADDR := by
  unfold State.diagRead
  extract_lets a refused e out posMask s1 s2
  simp (disch := decide) only [s2, s1, State.putB, State.get_put_ne]

/-- A diagnostic read answers, or says that it is refused. -/
theorem diagRead_valid (t : State) :
    t.diagRead.flag Reg.DMC_DIAG_RESULT_VALID = !t.diagRead.flag Reg.DMC_DIAG_RESULT_REFUSED := by
  unfold State.diagRead State.flag
  extract_lets a refused e out posMask s1 s2
  simp (disch := decide) only [s2, s1, State.putB, State.get_put_ne, State.get_put_same]
  cases refused <;> rfl

/-- The registers whose high dword takes the held low one. -/
def evrRdSeqRow : RegRow := ⟨0x1B0040, true, [Reg.EVR_RD_SEQ_SEQ]⟩
def dmcXlateRow : RegRow := ⟨0x190050, true, [Reg.DMC_XLATE_ADDR_ADDR]⟩
def dmcDiagRow : RegRow := ⟨0x190160, true, [Reg.DMC_DIAG_ADDR_ADDR]⟩

theorem mayWrite_wide (s : State) {r : Requester} (hr : r ≠ .uart) {o : Nat} (ho : o ∈ [0x1B0044, 0x190054, 0x190164])
    (w : Nat) : s.mayWrite r o w = true :=
  mayWrite_of_unlimited (.inl hr) (by
    simp only [List.mem_cons, List.not_mem_nil, or_false] at ho
    rcases ho with rfl | rfl | rfl <;> decide)

end Sys2Proof.Machine

open Sys2Proof Sys2Proof.Machine

/-- Settles O46: reads and held writes by the equation of their case; a write of another register by what its action leaves of
the latches; the table's 64-bit registers by the table. -/
theorem highDwordLatch : Obligations.HighDwordLatch := by
  unfold Obligations.HighDwordLatch
  refine ⟨?readLow, ?readHigh, ?readBoth, ?writeLow, ?evrRdSeq, ?discard, ?aligned, ?xlate, ?diag⟩
  case readLow =>
    intro r o b row s hlen hb hon hrow hwide
    exact ⟨val_regRead_low hb hon hrow hwide, regPort_regRead_low hlen hb hon hrow hwide,
      fun q hq => regPort_regRead_low_ne hb hon hrow hwide hq⟩
  case readHigh => exact fun r o b row s hb hon hrow => val_regRead_high hb hon hrow
  case readBoth => exact fun r o b row s hlen hb hb' hon hlow hhigh hwide => val_regRead2 hlen hb hb' hon hlow hhigh hwide
  case writeLow =>
    exact fun r o w b row s hlen hr hb hon hmay hrow hwide hwr => regWrite_low_held hlen hr hb hon hmay hrow hwide hwr
  case evrRdSeq =>
    intro r w low s hr hon hheld hlow
    have hv : w.toNat * 2 ^ 32 + low < 2 ^ 64 := by have := w.isLt; omega
    obtain ⟨hst, hnone⟩ := regWrite_high_taken (o := 0x1B0044) (row := evrRdSeqRow) (b := .evr) hr (by decide) hon
      (mayWrite_wide s hr (by decide) w.toNat) (by decide +kernel) hheld (strayBits_of_lt (n := 64) hv)
    refine ⟨?_, hnone⟩
    rw [hst, evrRdSeqRow, rowWrite_single _ rfl (by decide), regAct_of_inert _ _ _ _ _ (by decide)]
    exact of_put_of_lt _ rfl hv
  case discard =>
    intro r o w hi b row h s hlen hb hon hrow hh hne
    exact ⟨(held_regRead hlen hb hon hrow).trans (held_filter_none hh hne), held_regWrite_ne hb hon hrow hh hne⟩
  case aligned =>
    intro o row hrow hwide
    obtain ⟨b, hmem⟩ := mem_rows_of_regAt hrow
    obtain rfl := off_of_regAt_low hrow
    exact ⟨rfl, wide_row_dwords b b.mem_all row hmem hwide⟩
  case xlate =>
    intro r w low s hr hon hheld hlow hw
    have hv : w.toNat * 2 ^ 32 + low < 2 ^ 39 := by omega
    obtain ⟨hst, hnone⟩ := regWrite_high_taken (o := 0x190054) (row := dmcXlateRow) (b := .dmc) hr (by decide) hon
      (mayWrite_wide s hr (by decide) w.toNat) (by decide +kernel) hheld (strayBits_of_lt (n := 39) hv)
    have hact : (s.regWrite r 0x190054 w.toNat).st = ((s.takeHeld r dmcXlateRow).put Reg.DMC_XLATE_ADDR_ADDR
        (Reg.DMC_XLATE_ADDR_ADDR.of (w.toNat * 2 ^ 32 + low))).dmcXlate := by
      rw [hst, dmcXlateRow, rowWrite_single _ rfl (by decide)]; rfl
    refine ⟨?_, ?_, hnone⟩
    · rw [hact, dmcXlate_addr]
      exact of_put_of_lt _ rfl hv
    · rw [hact]
      exact dmcXlate_valid _
  case diag =>
    intro r w low s hr hon hheld hlow hw
    have hv : w.toNat * 2 ^ 32 + low < 2 ^ 39 := by omega
    obtain ⟨hst, hnone⟩ := regWrite_high_taken (o := 0x190164) (row := dmcDiagRow) (b := .dmc) hr (by decide) hon
      (mayWrite_wide s hr (by decide) w.toNat) (by decide +kernel) hheld (strayBits_of_lt (n := 39) hv)
    have hact : (s.regWrite r 0x190164 w.toNat).st = ((s.takeHeld r dmcDiagRow).put Reg.DMC_DIAG_ADDR_ADDR
        (Reg.DMC_DIAG_ADDR_ADDR.of (w.toNat * 2 ^ 32 + low))).diagRead := by
      rw [hst, dmcDiagRow, rowWrite_single _ rfl (by decide)]; rfl
    refine ⟨?_, ?_, hnone⟩
    · rw [hact, diagRead_addr]
      exact of_put_of_lt _ rfl hv
    · rw [hact]
      exact diagRead_valid _
end

section
/-! SUPPORT. How a command and a step answer: always with a next state, whose queue is the one left and whose pins are driven. -/

namespace Sys2Proof.Machine

/-- Every command's meaning ends by driving the pins and leaving the queue as it was. -/
theorem exec_eq_done (c : Instr) (s : State) : ∃ t, exec c s = done s t := by
  cases c <;> exact ⟨_, rfl⟩

theorem pending_of_done {s t u : State} (h : done s t = .next u) : u.pending = s.pending := by
  rw [done_eq] at h
  cases h
  rfl

/-- What drives the pins shows them. -/
theorem pinsShown_drive (s : State) : s.drive.PinsShown := rfl

theorem pinsShown_of_done {s t u : State} (h : done s t = .next u) : u.PinsShown := by
  rw [done_eq] at h
  cases h
  exact pinsShown_drive _

theorem pinsShown_of_exec {c : Instr} {s u : State} (h : exec c s = .next u) : u.PinsShown := by
  obtain ⟨t, ht⟩ := exec_eq_done c s
  exact pinsShown_of_done (ht ▸ h)

/-- A command that waits again is in no pin's cause. -/
theorem pinsShown_requeue {t : State} (ds : List Deferred) (h : t.PinsShown) : (t.requeue ds).PinsShown := by
  unfold State.requeue
  split
  · exact h
  · exact h

/-- What a step can do: run the command at the front, run one that waited and put the others back, or count a clock period. -/
theorem step_cases {s u : State} (h : step s = .next u) :
    (∃ c rest, s.pending = c :: rest ∧ exec c { s with pending := rest } = .next u) ∨
    (∃ d ds t, s.pending = [] ∧ s.deferred = d :: ds ∧ exec d.cmd { s with deferred := [] } = .next t ∧ u = t.requeue ds) ∨
    (s.pending = [] ∧ done s s.tick = .next u) := by
  unfold step at h
  split at h
  next hq =>
    unfold State.idle at h
    split at h
    next => exact .inr (.inr ⟨hq, h⟩)
    next d ds hd =>
      split at h
      next =>
        obtain ⟨t, ht⟩ := exec_eq_done d.cmd { s with deferred := [] }
        rw [ht, done_eq] at h
        exact .inr (.inl ⟨d, ds, _, hq, hd, ht.trans (done_eq _ _), by cases h; rfl⟩)
      next => exact .inr (.inr ⟨hq, h⟩)
  next c rest hq => exact .inl ⟨c, rest, hq, h⟩

theorem State.secs_incWrap (s : State) : (s.incWrap Reg.SYS_OPSEC_SECONDS 1).secs = (s.secs + 1) % 2 ^ 40 :=
  State.get_put_same s _ _

end Sys2Proof.Machine
end

section
/-! PROOF. The queue, the pins and the reset. -/

open Sys2Proof Sys2Proof.Machine

/-- Settles O1: the step takes the front record. -/
theorem stepRunsFront : Obligations.StepRunsFront := by
  intro c rest s h
  simp only [step, h]

/-- Settles O2: every meaning answers through `done`. -/
theorem everyCommandAnswers : Obligations.EveryCommandAnswers := by
  intro c s
  obtain ⟨t, ht⟩ := exec_eq_done c s
  exact ⟨_, ht.trans (done_eq s t), rfl⟩

/-- Settles O5: each pin is driven from its causes at the end of every meaning. -/
theorem pinsFollow : Obligations.PinsFollow := by
  intro c s
  obtain ⟨t, ht⟩ := exec_eq_done c s
  have hpins := pinsShown_of_exec (ht.trans (done_eq s t))
  refine ⟨_, ht.trans (done_eq s t), ?_⟩
  generalize ({ t with pending := s.pending } : State).drive = u at hpins
  rw [hpins]
  refine ⟨rfl, ?_, ?_⟩
  · simp [State.levels, State.faultPin, State.latchedAct, or_assoc]
  · simp [State.levels, State.alertPin, State.latchedAct, or_assoc]

/-- Settles O4: a command, a command that waited and a clock period each end by driving the pins. -/
theorem pinsKept : Obligations.PinsKept := by
  intro s t _ h
  obtain ⟨c, rest, _, hc⟩ | ⟨d, ds, u, _, _, hu, rfl⟩ | ⟨_, hd⟩ := step_cases h
  · exact pinsShown_of_exec hc
  · exact pinsShown_requeue ds (pinsShown_of_exec hu)
  · exact pinsShown_of_done hd

/-- Settles O3: the empty step is a clock period, in its three cases. -/
theorem idleCountsSeconds : Obligations.IdleCountsSeconds := by
  have hstep (s : State) (hp : s.pending = []) (hd : s.deferred = []) : step s = done s s.tick := by
    simp only [step, hp, State.idle, hd]
  refine ⟨fun s hp hd hon hlt => ⟨_, (hstep s hp hd).trans (done_eq _ _), ?_⟩,
    fun s hp hd hon hge => ⟨_, (hstep s hp hd).trans (done_eq _ _), ?_⟩,
    fun s hp hd hoff => ⟨_, (hstep s hp hd).trans (done_eq _ _), ?_⟩⟩
  · rw [State.tick, if_pos hon, if_pos hlt]
    exact ⟨rfl, rfl⟩
  · rw [State.tick, if_pos hon, if_neg (by omega)]
    exact ⟨rfl, State.secs_incWrap _⟩
  · simp [State.tick, hoff]

/-- Settles O7: reset is a state written out, and each part of the statement computes on it. -/
theorem resetState : Obligations.ResetState := by
  refine ⟨by decide, rfl, rfl, rfl, rfl, rfl, rfl, rfl, rfl, rfl, rfl⟩
end

section
/-! SUPPORT. The DRAM's bytes under each operation of the model, in the order of the model's files: an operation that does not
name them leaves them (`_cells`), one that stores, clears or loses some keeps their canonical form (`memoryWf_`). -/

namespace Sys2Proof.Machine

@[simp] theorem cells_ite (c : Prop) [Decidable c] (a b : State) :
    (if c then a else b).cache.cells = if c then a.cache.cells else b.cache.cells := apply_ite (fun t : State => t.cache.cells) c a b

@[simp] theorem cells_foldl {α : Type} {f : State → α → State} (h : ∀ t x, (f t x).cache.cells = t.cache.cells) (l : List α)
    (s : State) : (l.foldl f s).cache.cells = s.cache.cells := foldl_keeps (fun t : State => t.cache.cells) h l s

theorem memoryWf_foldl {α : Type} {f : State → α → State}
    (hf : ∀ t x, Memory.wf t.cache.cells = true → Memory.wf (f t x).cache.cells = true) (l : List α) (s : State)
    (h : Memory.wf s.cache.cells = true) : Memory.wf (l.foldl f s).cache.cells = true := by
  induction l generalizing s with
  | nil => exact h
  | cons x xs ih => exact ih _ (hf s x h)

/-- The same, for a state that carries a flag. -/
theorem memoryWf_foldl_fst {α β : Type} {f : State × β → α → State × β}
    (hf : ∀ t x, Memory.wf t.1.cache.cells = true → Memory.wf (f t x).1.cache.cells = true) (l : List α) (t : State × β)
    (h : Memory.wf t.1.cache.cells = true) : Memory.wf (l.foldl f t).1.cache.cells = true := by
  induction l generalizing t with
  | nil => exact h
  | cons x xs ih => exact ih _ (hf t x h)

theorem memoryWf_init : Memory.wf Cache.init.cells = true := by decide


/-! ## Sys2Proof/Machine/Ops.lean -/

/-- A field's store, as a step of a proof: the model's `rfl` lemmas would leave a long chain of them to the kernel at once. -/
@[simp] theorem State.put_cells (s : State) (f : Fld) (v : Nat) : (s.put f v).cache.cells = s.cache.cells :=
  congrArg Cache.cells (State.put_cache s f v)

@[simp] theorem State.putB_cells (s : State) (f : Fld) (b : Bool) : (s.putB f b).cache.cells = s.cache.cells :=
  congrArg Cache.cells (State.putB_cache s f b)

/-- Fields of a register cleared one by one. -/
theorem cells_clearFields (fs : List Fld) (s : State) : (fs.foldl (fun u f => u.put f 0) s).cache.cells = s.cache.cells :=
  cells_foldl (fun t f => t.put_cells f 0) fs s

/-- Registers of a table cleared where `p` holds. -/
theorem cells_clearRows (p : RegRow → Prop) [DecidablePred p] (rows : List RegRow) (s : State) :
    (rows.foldl (fun t r => if p r then r.flds.foldl (fun u f => u.put f 0) t else t) s).cache.cells = s.cache.cells := by
  refine cells_foldl (fun t r => ?_) rows s
  split
  · exact cells_clearFields r.flds t
  · rfl

@[simp] theorem State.incSat_cells (s : State) (f : Fld) (n : Nat) : (s.incSat f n).cache.cells = s.cache.cells :=
  by simp [State.incSat]

@[simp] theorem State.incWrap_cells (s : State) (f : Fld) (n : Nat) : (s.incWrap f n).cache.cells = s.cache.cells :=
  by simp [State.incWrap]

@[simp] theorem State.putI_cells (s : State) (f : Fld) (v : Int) : (s.putI f v).cache.cells = s.cache.cells :=
  by simp [State.putI]

@[simp] theorem State.clr_cells (s : State) (f : Fld) : (s.clr f).cache.cells = s.cache.cells := by simp [State.clr]

@[simp] theorem State.send_cells (s : State) (o : Out) : (s.send o).cache.cells = s.cache.cells := by simp [State.send]

@[simp] theorem State.fresh_cells (s : State) (w : Nat) : (s.fresh w).2.cache.cells = s.cache.cells := rfl

@[simp] theorem State.console_cells (s : State) (vals : List Nat) : (s.console vals).cache.cells = s.cache.cells :=
  by simp [State.console]

@[simp] theorem State.setDom_cells (s : State) (d : Domain) (v : DomSt) :
    (s.setDom d v).cache.cells = s.cache.cells := by simp [State.setDom]

@[simp] theorem State.setPort_cells (s : State) (p : Port) (h : HostPort) :
    (s.setPort p h).cache.cells = s.cache.cells := by
  unfold State.setPort
  split <;> simp

@[simp] theorem State.setNvme_cells (s : State) (p : Port) (n : Nvme) :
    (s.setNvme p n).cache.cells = s.cache.cells := by simp [State.setNvme]

@[simp] theorem State.msixOn_cells (s : State) (p : Port) (vec : Nat) :
    (s.msixOn p vec).cache.cells = s.cache.cells := by simp [State.msixOn]

@[simp] theorem State.msix_cells (s : State) (vec : Nat) : (s.msix vec).cache.cells = s.cache.cells :=
  by simp [State.msix]

@[simp] theorem State.raise_cells (s : State) (ev inten : Fld) (vec : Nat) :
    (s.raise ev inten vec).cache.cells = s.cache.cells := by simp [State.raise]

@[simp] theorem State.aer_cells (s : State) (p : Port) (bit : Nat) : (s.aer p bit).cache.cells = s.cache.cells :=
  by simp [State.aer]

@[simp] theorem State.setGran_cells (s : State) (g : Nat) (v : GState) :
    (s.setGran g v).cache.cells = s.cache.cells := by simp [State.setGran]

@[simp] theorem State.setEnt_cells (s : State) (g : Nat) (e : MapEnt) :
    (s.setEnt g e).cache.cells = s.cache.cells := by simp [State.setEnt]

@[simp] theorem memoryWf_setGranImage (s : State) (g : Nat) (img : List Host.Cell) (h : Memory.wf s.cache.cells = true) :
    Memory.wf (s.setGranImage g img).cache.cells = true := Memory.wf_replaceCells _ _ _ _ h

@[simp] theorem State.setLun_cells (s : State) (n : Nat) (l : Lun) : (s.setLun n l).cache.cells = s.cache.cells :=
  by simp [State.setLun]

theorem orHold_cells (s : State) (p : Port) (c : Instr) {k : State → State} (h : ∀ t : State, (k t).cache.cells = t.cache.cells) :
    (s.orHold p c k).cache.cells = s.cache.cells := by
  simp [State.orHold, h]

theorem memoryWf_orHold {s : State} (p : Port) (c : Instr) {k : State → State} (h : Memory.wf s.cache.cells = true)
    (hk : ∀ t : State, t.MemoryWf → (k t).MemoryWf) : (s.orHold p c k).MemoryWf := by
  unfold State.orHold
  split
  · exact h
  · exact hk s h

/-! ## Sys2Proof/Machine/Clock.lean -/

@[simp] theorem State.tick_cells (s : State) : s.tick.cache.cells = s.cache.cells := by simp [State.tick]

@[simp] theorem State.drive_cells (s : State) : s.drive.cache.cells = s.cache.cells := by simp [State.drive]

/-! ## Sys2Proof/Machine/NorCopies.lean -/

@[simp] theorem State.timeCopy_cells (s : State) : s.timeCopy.cache.cells = s.cache.cells := by simp [State.timeCopy]

@[simp] theorem State.spoilCopy_cells (s : State) (item k : Nat) :
    (s.spoilCopy item k).cache.cells = s.cache.cells := by
  unfold State.spoilCopy
  split <;> simp

/-! ## Sys2Proof/Machine/NvmeBase.lean -/

@[simp] theorem State.cqePost_cells (s : State) (p : Port) (id : CmdId) (st : NStat) (dw0 : Nat) :
    (s.cqePost p id st dw0).cache.cells = s.cache.cells := by
  unfold State.cqePost
  dsimp only
  repeat' split
  all_goals simp

@[simp] theorem State.adminDone_cells (s : State) (req : AdminReq) (id : CmdId) (st : NStat) (dw0 : Nat) :
    (s.adminDone req id st dw0).cache.cells = s.cache.cells := by
  unfold State.adminDone
  split <;> simp

@[simp] theorem State.adminData_cells (s : State) (req : AdminReq) (bytes : List Byte) :
    (s.adminData req bytes).cache.cells = s.cache.cells := by simp [State.adminData]

@[simp] theorem State.asyncOn_cells (s : State) (p : Port) (ty info page : Nat) :
    (s.asyncOn p ty info page).cache.cells = s.cache.cells := by
  unfold State.asyncOn
  dsimp only
  repeat' split
  all_goals simp

@[simp] theorem State.async_cells (s : State) (ty info page : Nat) :
    (s.async ty info page).cache.cells = s.cache.cells := by simp [State.async]

@[simp] theorem State.asyncVendor_cells (s : State) (page : Nat) :
    (s.asyncVendor page).cache.cells = s.cache.cells := by simp [State.asyncVendor]

@[simp] theorem State.warnEvent_cells (s : State) (p : Port) (bit : Nat) :
    (s.warnEvent p bit).cache.cells = s.cache.cells := by simp [State.warnEvent]

@[simp] theorem State.syncWarn_cells (s : State) : s.syncWarn.cache.cells = s.cache.cells := by simp [State.syncWarn]

/-! ## Sys2Proof/Machine/Events.lean -/

@[simp] theorem State.raiseEvr_cells (s : State) (f : Fld) : (s.raiseEvr f).cache.cells = s.cache.cells :=
  by simp [State.raiseEvr]

@[simp] theorem State.setEvr_cells (s : State) (r : Recorder) : (s.setEvr r).cache.cells = s.cache.cells :=
  by simp [State.setEvr]

@[simp] theorem State.dropRec_cells (s : State) : s.dropRec.cache.cells = s.cache.cells := by simp [State.dropRec]

@[simp] theorem State.ringPut_cells (s : State) (e : EvRecord) (flushed : Bool) :
    (s.ringPut e flushed).cache.cells = s.cache.cells := by
  unfold State.ringPut
  repeat' split
  all_goals simp

@[simp] theorem State.storeRec_cells (s : State) (e : EvRecord) : (s.storeRec e).cache.cells = s.cache.cells :=
  by simp [State.storeRec]

@[simp] theorem State.closeOpen_cells (s : State) (seq : Nat) : (s.closeOpen seq).cache.cells = s.cache.cells := by
  unfold State.closeOpen
  repeat' split
  all_goals simp

@[simp] theorem State.coalesce_cells (s : State) (o : OpenRec) : (s.coalesce o).cache.cells = s.cache.cells :=
  by simp [State.coalesce]

@[simp] theorem State.openRec_cells (s : State) (src code sev key : Nat) (snap : List Nat × Bool) :
    (s.openRec src code sev key snap).cache.cells = s.cache.cells := by
  unfold State.openRec
  repeat' split
  all_goals simp

@[simp] theorem State.submit_cells (s : State) (src code sev key : Nat) (snap : List Nat × Bool) :
    (s.submit src code sev key snap).cache.cells = s.cache.cells := by
  unfold State.submit
  repeat' split
  all_goals simp

@[simp] theorem State.lostReport_cells (s : State) : s.lostReport.cache.cells = s.cache.cells :=
  by simp [State.lostReport]

@[simp] theorem State.eventWith_cells (s : State) (src code sev key : Nat) (snap : List Nat × Bool) :
    (s.eventWith src code sev key snap).cache.cells = s.cache.cells := by simp [State.eventWith]

@[simp] theorem State.event_cells (s : State) (src code sev key : Nat) :
    (s.event src code sev key).cache.cells = s.cache.cells := by simp [State.event]

@[simp] theorem State.ev_cells (s : State) (b : Block) (code sev key : Nat) :
    (s.ev b code sev key).cache.cells = s.cache.cells := by simp [State.ev]

@[simp] theorem State.evHost_cells (s : State) (code sev key : Nat) :
    (s.evHost code sev key).cache.cells = s.cache.cells := by simp [State.evHost]

@[simp] theorem State.fallback_cells (s : State) (i : Nat) (on : Bool) :
    (s.fallback i on).cache.cells = s.cache.cells := by simp [State.fallback]

/-! ## Sys2Proof/Machine/LeaveOps.lean -/

@[simp] theorem State.leaveGrant_cells (s : State) : s.leaveGrant.cache.cells = s.cache.cells :=
  by simp [State.leaveGrant]

@[simp] theorem State.leaveRequest_cells (s : State) (op : LeaveOp) :
    (s.leaveRequest op).1.cache.cells = s.cache.cells := by
  unfold State.leaveRequest
  dsimp only
  repeat' split
  all_goals simp

@[simp] theorem State.leaveReturn_cells (s : State) (id : Nat) : (s.leaveReturn id).cache.cells = s.cache.cells :=
  by simp [State.leaveReturn]

@[simp] theorem State.leaveDropOp_cells (s : State) (op : LeaveOp) :
    (s.leaveDropOp op).cache.cells = s.cache.cells := by simp [State.leaveDropOp]

theorem underLeave_cells (s : State) (op : LeaveOp) {k : State → State} (h : ∀ t : State, (k t).cache.cells = t.cache.cells) :
    (s.underLeave op k).1.cache.cells = s.cache.cells := by
  unfold State.underLeave
  dsimp only
  split <;> simp [h]

theorem memoryWf_underLeave (s : State) (op : LeaveOp) (k : State → State)
    (hk : ∀ t : State, Memory.wf t.cache.cells = true → Memory.wf (k t).cache.cells = true) (h : Memory.wf s.cache.cells = true) :
    Memory.wf (s.underLeave op k).1.cache.cells = true := by
  have hr : Memory.wf (s.leaveRequest op).1.cache.cells = true := by simp [h]
  unfold State.underLeave
  dsimp only
  split
  · exact hr
  · simp [hk _ hr]

@[simp] theorem State.phyRequest_cells (s : State) (p : Port) : (s.phyRequest p).cache.cells = s.cache.cells :=
  by simp [State.phyRequest]

@[simp] theorem State.leaveTrip_cells (s : State) : s.leaveTrip.cache.cells = s.cache.cells := by simp [State.leaveTrip]

@[simp] theorem State.learnRevoke_cells (s : State) : s.learnRevoke.cache.cells = s.cache.cells :=
  by simp [State.learnRevoke]

@[simp] theorem State.leaveRun_cells (s : State) : s.leaveRun.cache.cells = s.cache.cells := by simp [State.leaveRun]

/-! ## Sys2Proof/Machine/PowerBase.lean -/

@[simp] theorem State.rollback_cells (s : State) : s.rollback.cache.cells = s.cache.cells := by simp [State.rollback]

@[simp] theorem State.dropRequest_cells (s : State) : s.dropRequest.cache.cells = s.cache.cells :=
  by simp [State.dropRequest]

@[simp] theorem State.wake_cells (s : State) (src : Nat) : (s.wake src).cache.cells = s.cache.cells :=
  by simp [State.wake]

@[simp] theorem State.touch_cells (s : State) (src : Nat) : (s.touch src).cache.cells = s.cache.cells :=
  by simp [State.touch]

@[simp] theorem State.updResult_cells (s : State) (v : Nat) : (s.updResult v).cache.cells = s.cache.cells :=
  by simp [State.updResult]

@[simp] theorem State.stagingLost_cells (s : State) : s.stagingLost.cache.cells = s.cache.cells :=
  by simp [State.stagingLost]

/-! ## Sys2Proof/Machine/EchoBase.lean -/

@[simp] theorem State.frame_cells (s : State) (ty flags arg : Nat) (payload : List Byte) :
    (s.frame ty flags arg payload).cache.cells = s.cache.cells := by simp [State.frame]

@[simp] theorem State.lctl_cells (s : State) (nak : Bool) : (s.lctl nak).cache.cells = s.cache.cells :=
  by simp [State.lctl]

@[simp] theorem State.markZone_cells (s : State) (z : Nat) : (s.markZone z).cache.cells = s.cache.cells :=
  by simp [State.markZone]

@[simp] theorem State.markAllZones_cells (s : State) : s.markAllZones.cache.cells = s.cache.cells :=
  by simp [State.markAllZones]

@[simp] theorem State.unmarkZone_cells (s : State) (z : Nat) : (s.unmarkZone z).cache.cells = s.cache.cells :=
  by simp [State.unmarkZone]

@[simp] theorem State.echoWrite_cells (s : State) (addr : Nat) (data : List Byte) (be : List Bool) (seq : Nat) :
    (s.echoWrite addr data be seq).cache.cells = s.cache.cells := by simp [State.echoWrite]

@[simp] theorem State.echoEpoch_cells (s : State) (seq epoch : Nat) :
    (s.echoEpoch seq epoch).cache.cells = s.cache.cells := by simp [State.echoEpoch]

@[simp] theorem State.echoStateSend_cells (s : State) : s.echoStateSend.cache.cells = s.cache.cells :=
  by simp [State.echoStateSend]

@[simp] theorem State.echoStateSync_cells (s : State) : s.echoStateSync.cache.cells = s.cache.cells :=
  by simp [State.echoStateSync]

@[simp] theorem State.announceDown_cells (s : State) : s.announceDown.cache.cells = s.cache.cells :=
  by simp [State.announceDown]

/-! ## Sys2Proof/Machine/PmrBase.lean -/

@[simp] theorem State.syncHsts_cells (s : State) : s.syncHsts.cache.cells = s.cache.cells := by simp [State.syncHsts]

@[simp] theorem State.setPmr_cells (s : State) (st : PmrState) : (s.setPmr st).cache.cells = s.cache.cells :=
  by simp [State.setPmr]

@[simp] theorem State.setCond_cells (s : State) (c : Nat) : (s.setCond c).cache.cells = s.cache.cells :=
  by simp [State.setCond]

@[simp] theorem State.leaveReadOnly_cells (s : State) : s.leaveReadOnly.cache.cells = s.cache.cells :=
  by simp [State.leaveReadOnly]

@[simp] theorem State.clearCond_cells (s : State) (c : Nat) : (s.clearCond c).cache.cells = s.cache.cells :=
  by simp [State.clearCond]

/-! ## Sys2Proof/Machine/DramData.lean -/

@[simp] theorem State.setErr_cells (s : State) (burst : Nat) (e : BurstErr) :
    (s.setErr burst e).cache.cells = s.cache.cells := by simp [State.setErr]

@[simp] theorem State.countPosition_cells (s : State) (key : Nat) :
    (s.countPosition key).cache.cells = s.cache.cells := by simp [State.countPosition]

@[simp] theorem State.queueRewrite_cells (s : State) (burst : Nat) :
    (s.queueRewrite burst).cache.cells = s.cache.cells := by simp [State.queueRewrite]

@[simp] theorem State.capture_cells (s : State) (port : DPort) (burst : Nat) (merge multi : Bool) (e : BurstErr) :
    (s.capture port burst merge multi e).cache.cells = s.cache.cells := by
  unfold State.capture
  extract_lets s1 s2 s3 syn
  have h3 : s3.cache.cells = s.cache.cells := by simp only [s3, s2, s1, State.put_cells, State.putB_cells]
  exact (State.put_cells _ _ _).trans ((cells_foldl (fun t n => State.put_cells t _ _) _ s3).trans h3)

@[simp] theorem State.uncovered_cells (s : State) : s.uncovered.cache.cells = s.cache.cells := by simp [State.uncovered]

@[simp] theorem State.freezeChan_cells (s : State) (ch : Nat) (snap : List Nat × Bool) :
    (s.freezeChan ch snap).cache.cells = s.cache.cells := by simp [State.freezeChan]

@[simp] theorem State.freeze_cells (s : State) (port : DPort) (burst : Nat) (merge multi : Bool) (e : BurstErr) :
    (s.freeze port burst merge multi e).cache.cells = s.cache.cells := by simp [State.freeze]

@[simp] theorem State.uncorrectable_cells (s : State) (port : DPort) (burst : Nat) (merge multi : Bool) (e : BurstErr) :
    (s.uncorrectable port burst merge multi e).cache.cells = s.cache.cells := by simp [State.uncorrectable]

@[simp] theorem memoryWf_scramble (s : State) (burst : Nat) (h : Memory.wf s.cache.cells = true) :
    Memory.wf (s.scramble burst).cache.cells = true := Memory.wf_storeBytes _ _ _ h

@[simp] theorem memoryWf_decodeRead (s : State) (port : DPort) (burst : Nat) (e : BurstErr) (merge : Bool)
    (h : Memory.wf s.cache.cells = true) :
    Memory.wf (s.decodeRead port burst e merge).1.cache.cells = true := by
  unfold State.decodeRead
  repeat' split
  all_goals simp [h]

@[simp] theorem State.writeBurst_cells (s : State) (burst : Nat) :
    (s.writeBurst burst).cache.cells = s.cache.cells := by simp [State.writeBurst]

@[simp] theorem memoryWf_readData (s : State) (port : DPort) (addr len : Nat)
    (h : Memory.wf s.cache.cells = true) :
    Memory.wf (State.readData s port addr len).1.cache.cells = true := by
  refine memoryWf_foldl_fst (fun t e ht => ?_) _ _ h
  split
  · exact memoryWf_decodeRead _ _ _ _ _ ht
  · exact ht

@[simp] theorem memoryWf_readGranule (s : State) (port : DPort) (g : Nat) (h : Memory.wf s.cache.cells = true) :
    Memory.wf (s.readGranule port g).1.cache.cells = true := by simp [State.readGranule, h]

@[simp] theorem memoryWf_storeBurst (s : State) (port : DPort) (burst : Nat) (full : Bool)
    (h : Memory.wf s.cache.cells = true) :
    Memory.wf (s.storeBurst port burst full).1.cache.cells = true := by
  unfold State.storeBurst
  split <;> simp [h]

@[simp] theorem memoryWf_storeData (s : State) (port : DPort) (addr : Nat) (data : List Byte) (be : List Bool)
    (h : Memory.wf s.cache.cells = true) :
    Memory.wf (State.storeData s port addr data be).1.cache.cells = true := by
  unfold State.storeData
  extract_lets r
  have hr : Memory.wf r.1.cache.cells = true := by
    unfold r
    split
    · exact h
    · refine memoryWf_foldl_fst (fun t b ht => ?_) _ _ h
      split
      · exact memoryWf_storeBurst _ _ _ _ ht
      · exact ht
  split
  · exact Memory.wf_storeEnabled data be r.1.cache.cells addr hr
  · exact hr

@[simp] theorem State.writeGranule_cells (s : State) (g : Nat) : (s.writeGranule g).cache.cells = s.cache.cells :=
  by simp [State.writeGranule]

@[simp] theorem State.loseGran_cells (s : State) (g : Nat) : (s.loseGran g).cache.cells = s.cache.cells :=
  by simp [State.loseGran]

/-! ## Sys2Proof/Machine/PmrOps.lean -/

@[simp] theorem State.discardWrite_cells (s : State) (p : Port) : (s.discardWrite p).cache.cells = s.cache.cells :=
  by simp [State.discardWrite]

@[simp] theorem State.setPortQueue_cells (s : State) (p : Port) (q : List PortItem) :
    (s.setPortQueue p q).cache.cells = s.cache.cells := by
  unfold State.setPortQueue
  split <;> simp

@[simp] theorem State.syncThr_cells (s : State) (p : Port) : (s.syncThr p).cache.cells = s.cache.cells :=
  by simp [State.syncThr]

@[simp] theorem State.markDirty_cells (s : State) (g seq epoch : Nat) :
    (s.markDirty g seq epoch).cache.cells = s.cache.cells := by simp [State.markDirty]

@[simp] theorem State.poison_cells (s : State) (g mask reason : Nat) :
    (s.poison g mask reason).cache.cells = s.cache.cells := by simp [State.poison]

@[simp] theorem State.unpoison_cells (s : State) (g : Nat) : (s.unpoison g).cache.cells = s.cache.cells :=
  by simp [State.unpoison]

@[simp] theorem memoryWf_applyWrite (s : State) (g off : Nat) (data : List Byte) (be : List Bool)
    (h : Memory.wf s.cache.cells = true) :
    Memory.wf (s.applyWrite g off data be).cache.cells = true := by
  unfold State.applyWrite
  dsimp only
  repeat' split
  all_goals simp [h]

@[simp] theorem State.startFetch_cells (s : State) (g : Nat) (demand : Bool) :
    (s.startFetch g demand).cache.cells = s.cache.cells := by simp [State.startFetch]

@[simp] theorem State.noteWait_cells (s : State) : s.noteWait.cache.cells = s.cache.cells := by simp [State.noteWait]

@[simp] theorem memoryWf_commitWrite (s : State) (g off : Nat) (data : List Byte) (be : List Bool) (seq epoch : Nat)
    (h : Memory.wf s.cache.cells = true) :
    Memory.wf (s.commitWrite g off data be seq epoch).cache.cells = true := by
  unfold State.commitWrite
  split <;> simp [h]

@[simp] theorem memoryWf_acceptWrite (s : State) (addr : Nat) (data : List Byte) (be : List Bool)
    (h : Memory.wf s.cache.cells = true) :
    Memory.wf (s.acceptWrite addr data be).cache.cells = true := by
  unfold State.acceptWrite
  dsimp only
  split <;> simp [h]

@[simp] theorem State.answerPoison_cells (s : State) (p : Port) (len : Nat) :
    (s.answerPoison p len).cache.cells = s.cache.cells := by simp [State.answerPoison]

@[simp] theorem State.refuseRead_cells (s : State) (p : Port) : (s.refuseRead p).cache.cells = s.cache.cells :=
  by simp [State.refuseRead]

@[simp] theorem State.forwardRead_cells (s : State) (p : Port) (addr len : Nat) :
    (s.forwardRead p addr len).cache.cells = s.cache.cells := by simp [State.forwardRead]

@[simp] theorem State.answerFrozen_cells (s : State) (p : Port) (addr len : Nat) :
    (s.answerFrozen p addr len).cache.cells = s.cache.cells := by simp [State.answerFrozen]

@[simp] theorem memoryWf_answerRead (s : State) (p : Port) (addr len : Nat) (h : Memory.wf s.cache.cells = true) :
    Memory.wf (s.answerRead p addr len).cache.cells = true := by
  unfold State.answerRead
  split <;> simp [h]

@[simp] theorem memoryWf_serveRead (s : State) (p : Port) (addr len : Nat) (h : Memory.wf s.cache.cells = true) :
    Memory.wf (s.serveRead p addr len).cache.cells = true := by
  unfold State.serveRead
  dsimp only
  repeat' split
  all_goals simp [h]

@[simp] theorem memoryWf_orderRead (s : State) (p : Port) (addr len : Nat) (h : Memory.wf s.cache.cells = true) :
    Memory.wf (s.orderRead p addr len).cache.cells = true := by
  unfold State.orderRead
  split <;> simp [h]

@[simp] theorem State.atTime_cells (s : State) (ns : Nat) : (s.atTime ns).cache.cells = s.cache.cells :=
  by simp [State.atTime]

@[simp] theorem State.orderBarrier_cells (s : State) (p : Port) (ns : Nat) :
    (s.orderBarrier p ns).cache.cells = s.cache.cells := by simp [State.orderBarrier]

@[simp] theorem memoryWf_drainReads (s : State) (p : Port) (q : List PortItem) (h : Memory.wf s.cache.cells = true) :
    Memory.wf (s.drainReads p q).cache.cells = true := by
  induction q generalizing s with
  | nil => simp [State.drainReads, h]
  | cons i rest ih => cases i <;> simp [State.drainReads, ih, h]

@[simp] theorem memoryWf_discardHeads (s : State) (p : Port) (q : List PortItem) (h : Memory.wf s.cache.cells = true) :
    Memory.wf (s.discardHeads p q).cache.cells = true := by
  induction q generalizing s with
  | nil => simp [State.discardHeads, h]
  | cons i rest ih =>
    cases i
    case write addr data be =>
      unfold State.discardHeads
      split
      · simp [h]
      · exact ih _ (by simp [h])
    all_goals simp [State.discardHeads, ih, h]

@[simp] theorem memoryWf_settlePorts (s : State) (h : Memory.wf s.cache.cells = true) :
    Memory.wf s.settlePorts.cache.cells = true := by simp [State.settlePorts, h]

@[simp] theorem State.dropCmds_cells (s : State) (p : Port) : (s.dropCmds p).cache.cells = s.cache.cells :=
  by simp [State.dropCmds]

@[simp] theorem State.dropPort_cells (s : State) (p : Port) : (s.dropPort p).cache.cells = s.cache.cells :=
  by simp [State.dropPort]

@[simp] theorem State.dropBarriers_cells (s : State) (p : Port) : (s.dropBarriers p).cache.cells = s.cache.cells :=
  by simp [State.dropBarriers]

@[simp] theorem State.completeBarriers_cells (s : State) : s.completeBarriers.cache.cells = s.cache.cells := by
  unfold State.completeBarriers
  split
  · rfl
  · dsimp only
    split
    · rfl
    · refine Eq.trans (cells_foldl (fun _ _ => by simp) _ _) ?_
      split <;> simp

@[simp] theorem State.completeAll_cells (n : Nat) (s : State) :
    (State.completeAll n s).cache.cells = s.cache.cells := by
  induction n generalizing s with
  | zero => rfl
  | succ n ih => simp [State.completeAll, ih]

@[simp] theorem memoryWf_applyHeld (s : State) (g : Nat)
    (h : Memory.wf s.cache.cells = true) :
    Memory.wf (State.applyHeld s g).cache.cells = true :=
  memoryWf_foldl (fun t x ht => memoryWf_applyWrite t g x.off x.data x.be ht) _ _ h

@[simp] theorem memoryWf_answerFetched (s : State) (r : WaitRead) (h : Memory.wf s.cache.cells = true) :
    Memory.wf (s.answerFetched r).cache.cells = true := by
  unfold State.answerFetched
  split <;> simp [h]

@[simp] theorem memoryWf_answerWaiting (s : State) (g : Nat)
    (h : Memory.wf s.cache.cells = true) :
    Memory.wf (State.answerWaiting s g).cache.cells = true :=
  memoryWf_foldl (fun t r ht => memoryWf_answerFetched t r ht) _ _ h

@[simp] theorem State.copyFinished_cells (s : State) : s.copyFinished.cache.cells = s.cache.cells :=
  by simp [State.copyFinished]

/-! ## Sys2Proof/Machine/EchoOps.lean -/

@[simp] theorem State.setEcho_cells (s : State) (st sev : Nat) : (s.setEcho st sev).cache.cells = s.cache.cells :=
  by simp [State.setEcho]

@[simp] theorem memoryWf_uncover (s : State) (h : Memory.wf s.cache.cells = true) :
    Memory.wf s.uncover.cache.cells = true := by
  unfold State.uncover
  split <;> simp [h]

@[simp] theorem State.failForwards_cells (s : State) : s.failForwards.cache.cells = s.cache.cells :=
  by simp [State.failForwards]

@[simp] theorem memoryWf_settleGran (s : State) (g : Nat) (h : Memory.wf s.cache.cells = true) :
    Memory.wf (s.settleGran g).cache.cells = true := by simp [State.settleGran, h]

@[simp] theorem memoryWf_loseRemote (s : State) (g : Nat) (h : Memory.wf s.cache.cells = true) :
    Memory.wf (s.loseRemote g).cache.cells = true := by
  unfold State.loseRemote
  dsimp only
  repeat' split
  all_goals simp [h]

@[simp] theorem memoryWf_dropRemote (s : State)
    (h : Memory.wf s.cache.cells = true) :
    Memory.wf (State.dropRemote s).cache.cells = true := by
  unfold State.dropRemote
  extract_lets gs s1
  have h1 : Memory.wf s1.cache.cells = true := by
    rw [show s1.cache.cells = _ from State.ev_cells _ _ _ _ _]
    exact memoryWf_foldl (fun t g ht => memoryWf_loseRemote t g ht) gs s h
  split
  · exact h
  · simp [h1]

@[simp] theorem memoryWf_peerLeaves (s : State) (h : Memory.wf s.cache.cells = true) :
    Memory.wf s.peerLeaves.cache.cells = true := by
  unfold State.peerLeaves
  dsimp only
  repeat' split
  all_goals simp [h]

@[simp] theorem State.judgeBarriers_cells (s : State) : s.judgeBarriers.cache.cells = s.cache.cells :=
  by simp [State.judgeBarriers]

@[simp] theorem memoryWf_endSession (s : State) (next sev : Nat) (h : Memory.wf s.cache.cells = true) :
    Memory.wf (s.endSession next sev).cache.cells = true := by simp [State.endSession, h]

@[simp] theorem memoryWf_lapse (s : State) (cause : Nat) (h : Memory.wf s.cache.cells = true) :
    Memory.wf (s.lapse cause).cache.cells = true := by
  unfold State.lapse
  dsimp only
  repeat' split
  all_goals simp [h]

@[simp] theorem memoryWf_misbehave (s : State) (code : Nat) (header : List Nat) (h : Memory.wf s.cache.cells = true) :
    Memory.wf (s.misbehave code header).cache.cells = true := by simp [State.misbehave, h]

theorem memoryWf_rxFrame (s : State) (rx : Rx) (ty flags arg len : Nat) (act : State → State)
    (hk : ∀ t : State, Memory.wf t.cache.cells = true → Memory.wf (act t).cache.cells = true) (h : Memory.wf s.cache.cells = true) :
    Memory.wf (s.rxFrame rx ty flags arg len act).cache.cells = true := by
  unfold State.rxFrame
  split
  · exact h
  · split
    · extract_lets n
      split
      · exact h
      · exact (congrArg Memory.wf (State.lctl_cells _ true)).trans h
    · extract_lets e0 s1
      have h1 : Memory.wf s1.cache.cells = true := h
      clear_value s1
      split
      · exact memoryWf_misbehave s1 9 _ h1
      · exact hk s1 h1

@[simp] theorem State.mack_cells (s : State) (flags arg epoch : Nat) :
    (s.mack flags arg epoch).cache.cells = s.cache.cells := by simp [State.mack]

@[simp] theorem State.sendMack_cells (s : State) : s.sendMack.cache.cells = s.cache.cells := by simp [State.sendMack]

@[simp] theorem State.spendPeer_cells (s : State) : s.spendPeer.cache.cells = s.cache.cells := by simp [State.spendPeer]

@[simp] theorem State.sendGranule_cells (s : State) (g idx tag purpose : Nat) :
    (s.sendGranule g idx tag purpose).cache.cells = s.cache.cells := by simp [State.sendGranule]

@[simp] theorem State.sendNoGranule_cells (s : State) (idx tag purpose status : Nat) :
    (s.sendNoGranule idx tag purpose status).cache.cells = s.cache.cells := by simp [State.sendNoGranule]

@[simp] theorem memoryWf_pumpGreqs (s : State)
    (h : Memory.wf s.cache.cells = true) :
    Memory.wf (State.pumpGreqs s).cache.cells = true := by
  refine memoryWf_foldl (fun t q ht => ?_) _ s h
  dsimp only
  split_ifs <;> simp [ht]

@[simp] theorem memoryWf_pumpForwards (s : State)
    (h : Memory.wf s.cache.cells = true) :
    Memory.wf (State.pumpForwards s).cache.cells = true := by
  refine memoryWf_foldl (fun t q ht => ?_) _ s h
  dsimp only
  split_ifs <;> simp [ht]

@[simp] theorem memoryWf_storeMwr (s : State) (w : MirWrite) (h : Memory.wf s.cache.cells = true) :
    Memory.wf (s.storeMwr w).cache.cells = true := by
  unfold State.storeMwr
  dsimp only
  repeat' split
  all_goals simp [h]

@[simp] theorem memoryWf_storeWaiting (s : State) (l : List MirWrite) (h : Memory.wf s.cache.cells = true) :
    Memory.wf (s.storeWaiting l).cache.cells = true := by
  induction l generalizing s with
  | nil => exact h
  | cons w rest ih =>
    unfold State.storeWaiting
    split
    · exact h
    · split
      · exact h
      · exact ih _ (memoryWf_storeMwr _ w h)

@[simp] theorem memoryWf_pumpMirror (s : State) (h : Memory.wf s.cache.cells = true) :
    Memory.wf s.pumpMirror.cache.cells = true := by simp [State.pumpMirror, h]

@[simp] theorem memoryWf_rxMwr (s : State) (off low : Nat) (data : List Byte) (be : List Bool) (hdr : List Nat)
    (h : Memory.wf s.cache.cells = true) :
    Memory.wf (s.rxMwr off low data be hdr).cache.cells = true := by
  unfold State.rxMwr
  dsimp only
  repeat' split
  all_goals simp [h]

@[simp] theorem memoryWf_rxEpoch (s : State) (epoch : Nat) (hdr : List Nat) (h : Memory.wf s.cache.cells = true) :
    Memory.wf (s.rxEpoch epoch hdr).cache.cells = true := by
  unfold State.rxEpoch
  dsimp only
  repeat' split
  all_goals simp [h]

@[simp] theorem State.resyncCheck_cells (s : State) : s.resyncCheck.cache.cells = s.cache.cells := by
  unfold State.resyncCheck
  split <;> simp

@[simp] theorem memoryWf_rxMack (s : State) (kind ns : Bool) (arg epoch dirtied rtt : Nat) (hdr : List Nat)
    (h : Memory.wf s.cache.cells = true) :
    Memory.wf (s.rxMack kind ns arg epoch dirtied rtt hdr).cache.cells = true := by
  unfold State.rxMack
  dsimp only
  repeat' split
  all_goals simp [h]

@[simp] theorem State.openStream_cells (s : State) : s.openStream.cache.cells = s.cache.cells :=
  by simp [State.openStream]

@[simp] theorem State.resyncEnd_cells (s : State) : s.resyncEnd.cache.cells = s.cache.cells := by
  unfold State.resyncEnd
  split <;> simp

@[simp] theorem State.beginResync_cells (s : State) (full : Bool) :
    (s.beginResync full).cache.cells = s.cache.cells := by simp [State.beginResync]

@[simp] theorem memoryWf_resyncStep (s : State) (h : Memory.wf s.cache.cells = true) :
    Memory.wf s.resyncStep.cache.cells = true := by
  unfold State.resyncStep
  dsimp only
  repeat' split
  all_goals simp [h]

@[simp] theorem memoryWf_resyncGot (s : State) (g idx : Nat) (h : Memory.wf s.cache.cells = true) :
    Memory.wf (s.resyncGot g idx).cache.cells = true := by simp [State.resyncGot, h]

@[simp] theorem memoryWf_emptyGranule (s : State) (g : Nat)
    (h : Memory.wf s.cache.cells = true) :
    Memory.wf (State.emptyGranule s g).cache.cells = true := by
  unfold State.emptyGranule
  simp [Memory.wf_clearCells, h]

@[simp] theorem memoryWf_storeResync (s : State) (idx seq epoch gflags mask status : Nat) (hdr : List Nat)
    (h : Memory.wf s.cache.cells = true) :
    Memory.wf (State.storeResync s idx seq epoch gflags mask status hdr).cache.cells = true := by
  unfold State.storeResync
  extract_lets g parts bytes s1 s0 c0 s2 p0 s3 e0 s4
  have h1 : Memory.wf s1.cache.cells = true := by unfold s1; split <;> simp [h]
  have h0 : Memory.wf s0.cache.cells = true := by simp [s0, h1]
  have h4 : Memory.wf s4.cache.cells = true := by
    simp [s4, s3, s2, Memory.wf_storeBytes, Memory.wf_clearCells, h0]
  split_ifs <;> simp [h, h4]

@[simp] theorem memoryWf_fetchFrozen (s : State) (g : Nat) (h : Memory.wf s.cache.cells = true) :
    Memory.wf (s.fetchFrozen g).cache.cells = true := by simp [State.fetchFrozen, h]

@[simp] theorem memoryWf_storeRemote (s : State) (q : GReq) (g seq epoch gflags mask : Nat)
    (h : Memory.wf s.cache.cells = true) :
    Memory.wf (State.storeRemote s q g seq epoch gflags mask).cache.cells = true := by
  unfold State.storeRemote
  extract_lets bytes held e0 ws p0 s1 e1 s2 s0 c0 s1' e2 s2' v s3 s4
  have h0 : Memory.wf s0.cache.cells = true := by simp [s0, h]
  have h3 : Memory.wf s3.cache.cells = true := by
    simp [s3, s2', s1', Memory.wf_storeBytes, Memory.wf_clearCells, h0]
  have h4 : Memory.wf s4.cache.cells = true := by unfold s4; split <;> simp [h3]
  split
  · simp [h]
  · split
    · exact memoryWf_foldl (fun t r ht => by simp [ht]) ws s2 (by simp [s2, s1, h])
    · simp [h4]

@[simp] theorem State.noteDemand_cells (s : State) (us : Nat) : (s.noteDemand us).cache.cells = s.cache.cells :=
  by simp [State.noteDemand]

@[simp] theorem memoryWf_rxRequested (s : State) (q : GReq) (seq epoch gflags mask status us : Nat) (hdr : List Nat)
    (h : Memory.wf s.cache.cells = true) :
    Memory.wf (s.rxRequested q seq epoch gflags mask status us hdr).cache.cells = true := by
  unfold State.rxRequested
  dsimp only
  repeat' split
  all_goals simp [h]

@[simp] theorem memoryWf_rxState (s : State) (w : Nat) (h : Memory.wf s.cache.cells = true) :
    Memory.wf (s.rxState w).cache.cells = true := by
  unfold State.rxState
  repeat' split
  all_goals simp [h]

@[simp] theorem State.sendHello_cells (s : State) : s.sendHello.cache.cells = s.cache.cells := by simp [State.sendHello]

@[simp] theorem State.sendVinfo_cells (s : State) (need : Bool) : (s.sendVinfo need).cache.cells = s.cache.cells :=
  by simp [State.sendVinfo]

@[simp] theorem State.vinfoTurn_cells (s : State) : s.vinfoTurn.cache.cells = s.cache.cells := by simp [State.vinfoTurn]

@[simp] theorem State.resyncTurn_cells (s : State) : s.resyncTurn.cache.cells = s.cache.cells := by
  unfold State.resyncTurn
  split <;> simp

@[simp] theorem State.syncTurn_cells (s : State) : s.syncTurn.cache.cells = s.cache.cells := by simp [State.syncTurn]

@[simp] theorem memoryWf_refusePeer (s : State) (sev cause : Nat) (h : Memory.wf s.cache.cells = true) :
    Memory.wf (s.refusePeer sev cause).cache.cells = true := by simp [State.refusePeer, h]

@[simp] theorem memoryWf_pairCheck (s : State)
    (h : Memory.wf s.cache.cells = true) :
    Memory.wf (State.pairCheck s).cache.cells = true := by
  unfold State.pairCheck
  split
  · exact h
  · extract_lets pairId known replace s1 fresh res e0 s2 s3 s4
    have h1 : Memory.wf s1.cache.cells = true := by unfold s1; split <;> simp [h]
    have h3 : Memory.wf s3.cache.cells = true := by simp [s3, s2, h1]
    have h4 : Memory.wf s4.cache.cells = true := by unfold s4; split <;> simp [h3]
    split_ifs <;> simp [h, h4]

@[simp] theorem State.echoUp_cells (s : State) (rate width : Nat) :
    (s.echoUp rate width).cache.cells = s.cache.cells := by simp [State.echoUp]

@[simp] theorem State.echoTrain_cells (s : State) : s.echoTrain.cache.cells = s.cache.cells := by simp [State.echoTrain]

@[simp] theorem memoryWf_detach (s : State) (h : Memory.wf s.cache.cells = true) :
    Memory.wf s.detach.cache.cells = true := by simp [State.detach, h]

@[simp] theorem State.rejoin_cells (s : State) : s.rejoin.cache.cells = s.cache.cells := by simp [State.rejoin]

/-! ## Sys2Proof/Machine/GrottoBase.lean -/

@[simp] theorem State.setBlk_cells (s : State) (lun b : Nat) (v : Blk) :
    (s.setBlk lun b v).cache.cells = s.cache.cells := by simp [State.setBlk]

@[simp] theorem State.grtSync_cells (s : State) : s.grtSync.cache.cells = s.cache.cells := by
  unfold State.grtSync
  dsimp only
  repeat' split
  all_goals simp

@[simp] theorem State.openBand_cells (s : State) (place : Nat) (prefer : List (Option Nat)) :
    (s.openBand place prefer).cache.cells = s.cache.cells := by
  unfold State.openBand
  dsimp only
  split
  · rfl
  · rw [State.grtSync_cells]
    refine (cells_foldl (fun t x => ?_) _ _).trans rfl
    split <;> simp

@[simp] theorem State.openBandsN_cells (n : Nat) (s : State) : (State.openBandsN n s).cache.cells = s.cache.cells := by
  induction n generalizing s with
  | zero => rfl
  | succ n ih => simp [State.openBandsN, ih]

@[simp] theorem State.closeBand_cells (s : State) (num : Nat) (reopen : Bool) :
    (s.closeBand num reopen).cache.cells = s.cache.cells := by
  unfold State.closeBand
  repeat' split
  all_goals simp

@[simp] theorem State.closeBandsOn_cells (s : State) (lun : Nat) :
    (s.closeBandsOn lun).cache.cells = s.cache.cells := by simp [State.closeBandsOn]

@[simp] theorem State.journalEntry_cells (s : State) (code lun info b ec : Nat) :
    (s.journalEntry code lun info b ec).cache.cells = s.cache.cells := by simp [State.journalEntry]

@[simp] theorem State.placeDesc_cells (s : State) (d : Desc) (slot : Bool) :
    (s.placeDesc d slot).cache.cells = s.cache.cells := by simp [State.placeDesc]

@[simp] theorem State.queueDesc_cells (s : State) (d : Desc) : (s.queueDesc d).cache.cells = s.cache.cells := by
  unfold State.queueDesc
  split <;> simp

@[simp] theorem State.spendTokens_cells (s : State) (n : Nat) : (s.spendTokens n).cache.cells = s.cache.cells :=
  by simp [State.spendTokens]

@[simp] theorem State.logStripe_cells (s : State) (b : Band) (x : Stripe) :
    (s.logStripe b x).cache.cells = s.cache.cells := by simp [State.logStripe]

@[simp] theorem State.closeFull_cells (s : State) (b : Band) : (s.closeFull b).cache.cells = s.cache.cells :=
  by simp [State.closeFull]

@[simp] theorem State.handStripe_cells (s : State) (b : Band) (w : Writer) (grant rewriteOf vault : Nat)
    (mk : Nat → List Nat → Payload) : (s.handStripe b w grant rewriteOf vault mk).cache.cells = s.cache.cells := by
  unfold State.handStripe
  dsimp only
  rw [State.closeFull_cells]
  refine (cells_foldl (fun t x => ?_) _ _).trans (by simp)
  split <;> simp

@[simp] theorem State.mapTo_cells (s : State) (g serial d slot : Nat) :
    (s.mapTo g serial d slot).cache.cells = s.cache.cells := by simp [State.mapTo]

@[simp] theorem State.clean_cells (s : State) (g : Nat) : (s.clean g).cache.cells = s.cache.cells :=
  by simp [State.clean]

@[simp] theorem State.useSpare_cells (s : State) (ch : Nat) (role : BlkSt) :
    (s.useSpare ch role).cache.cells = s.cache.cells := by
  unfold State.useSpare
  dsimp only
  repeat' split
  all_goals simp

@[simp] theorem State.retireBlk_cells (s : State) (lun b reason : Nat) :
    (s.retireBlk lun b reason).cache.cells = s.cache.cells := by simp [State.retireBlk]

@[simp] theorem State.lunState_cells (s : State) (lun : Nat) (st : LunSt) (sev : Nat) :
    (s.lunState lun st sev).cache.cells = s.cache.cells := by simp [State.lunState]

@[simp] theorem State.retireLun_cells (s : State) (lun : Nat) : (s.retireLun lun).cache.cells = s.cache.cells :=
  by simp [State.retireLun]

/-! ## Sys2Proof/Machine/GrottoOps.lean -/

@[simp] theorem State.updStripe_cells (s : State) (serial : Nat) (f : Stripe → Stripe) :
    (s.updStripe serial f).cache.cells = s.cache.cells := by simp [State.updStripe]

@[simp] theorem State.updFlight_cells (s : State) (serial : Nat) (f : Flight → Flight) :
    (s.updFlight serial f).cache.cells = s.cache.cells := by simp [State.updFlight]

@[simp] theorem State.endFlight_cells (s : State) (serial : Nat) :
    (s.endFlight serial).cache.cells = s.cache.cells := by simp [State.endFlight]

@[simp] theorem State.gcCheck_cells (s : State) (now : Bool) : (s.gcCheck now).cache.cells = s.cache.cells := by
  unfold State.gcCheck
  repeat' split
  all_goals simp

@[simp] theorem State.stripeGrant_cells (s : State) (op : LeaveOp) :
    (s.stripeGrant op).1.cache.cells = s.cache.cells := by
  unfold State.stripeGrant
  dsimp only
  repeat' split
  all_goals simp

@[simp] theorem State.gcErase_cells (s : State) : s.gcErase.cache.cells = s.cache.cells := by
  unfold State.gcErase
  split <;> simp

@[simp] theorem State.gcPump_cells (s : State) : s.gcPump.cache.cells = s.cache.cells := by
  unfold State.gcPump
  dsimp only
  repeat' split
  all_goals simp

@[simp] theorem State.journalFlush_cells (s : State) : s.journalFlush.cache.cells = s.cache.cells :=
  by simp [State.journalFlush]

@[simp] theorem State.journalFlushAll_cells (s : State) : s.journalFlushAll.cache.cells = s.cache.cells :=
  by simp [State.journalFlushAll]

@[simp] theorem State.eraseNow_cells (s : State) (lun b : Nat) (st : BlkSt) (ok : Bool) (reason : Nat) :
    (s.eraseNow lun b st ok reason).cache.cells = s.cache.cells := by simp [State.eraseNow]

@[simp] theorem State.recordClean_cells (s : State) : s.recordClean.cache.cells = s.cache.cells :=
  by simp [State.recordClean]

@[simp] theorem State.finishEvacuation_cells (s : State) : s.finishEvacuation.cache.cells = s.cache.cells :=
  by simp [State.finishEvacuation]

@[simp] theorem State.gcDone_cells (s : State) (g : Gc) : (s.gcDone g).cache.cells = s.cache.cells :=
  by simp [State.gcDone]

@[simp] theorem State.dropPages_cells (s : State) (lun b : Nat) : (s.dropPages lun b).cache.cells = s.cache.cells := by
  unfold State.dropPages
  dsimp only
  repeat' split
  all_goals simp

@[simp] theorem State.dropFlight_cells (s : State) (f : Flight) : (s.dropFlight f).cache.cells = s.cache.cells :=
  by simp [State.dropFlight]

@[simp] theorem State.gcRemap_cells (s : State) (f : Flight) : (s.gcRemap f).cache.cells = s.cache.cells := by
  refine cells_foldl (fun t d => cells_foldl (fun u e => ?_) _ t) _ s
  dsimp only
  split
  · split
    · split <;> simp
    · rfl
  · rfl

@[simp] theorem State.gcAccount_cells (s : State) (f : Flight) : (s.gcAccount f).cache.cells = s.cache.cells :=
  by simp [State.gcAccount]

@[simp] theorem State.rewriteStripe_cells (s : State) (f : Flight) :
    (s.rewriteStripe f).cache.cells = s.cache.cells := by
  unfold State.rewriteStripe
  dsimp only
  repeat' split
  all_goals simp

@[simp] theorem State.seepPage_cells (s : State) (x : Stripe) (d : Nat) : (s.seepPage x d).cache.cells = s.cache.cells := by
  refine cells_foldl (fun t e => ?_) _ s
  dsimp only
  split
  · rfl
  · split <;> simp

@[simp] theorem State.salvageCheck_cells (s : State) : s.salvageCheck.cache.cells = s.cache.cells :=
  by simp [State.salvageCheck]

@[simp] theorem State.seepEnd_cells (s : State) (f : Flight) : (s.seepEnd f).cache.cells = s.cache.cells :=
  by simp [State.seepEnd]

@[simp] theorem State.seepAccount_cells (s : State) (f : Flight) (pos : Nat) :
    (s.seepAccount f pos).cache.cells = s.cache.cells := by
  unfold State.seepAccount
  split <;> simp

@[simp] theorem memoryWf_grottoPowerLoss (s : State) (h : Memory.wf s.cache.cells = true) :
    Memory.wf s.grottoPowerLoss.cache.cells = true := by simp [State.grottoPowerLoss, h]

/-! ## Sys2Proof/Machine/FlashBase.lean -/

@[simp] theorem State.complete_cells (s : State) (c : FCompl) : (s.complete c).cache.cells = s.cache.cells :=
  by simp [State.complete]

@[simp] theorem State.completePlain_cells (s : State) (d : Desc) (status : Nat) :
    (s.completePlain d status).cache.cells = s.cache.cells := by simp [State.completePlain]

@[simp] theorem State.fillPark_cells (s : State) (lun n : Nat) : (s.fillPark lun n).cache.cells = s.cache.cells := by
  induction n generalizing s with
  | zero => rfl
  | succ n ih =>
    unfold State.fillPark
    dsimp only
    split
    · rfl
    · split <;> simp [ih]

@[simp] theorem State.drainRings_cells (n : Nat) (s : State) : (State.drainRings n s).cache.cells = s.cache.cells := by
  induction n generalizing s with
  | zero => rfl
  | succ n ih =>
    unfold State.drainRings
    split <;> simp [ih]

@[simp] theorem State.fillSlots_cells (s : State) (lun n : Nat) : (s.fillSlots lun n).cache.cells = s.cache.cells :=
  by simp [State.fillSlots]

@[simp] theorem State.cutPage_cells (s : State) (d : Desc) : (s.cutPage d).cache.cells = s.cache.cells := by
  unfold State.cutPage
  split <;> simp

@[simp] theorem State.gcCut_cells (s : State) (f : Flight) : (s.gcCut f).cache.cells = s.cache.cells :=
  by simp [State.gcCut]

@[simp] theorem State.gcTrip_cells (s : State) : s.gcTrip.cache.cells = s.cache.cells := by simp [State.gcTrip]

@[simp] theorem State.flashTrip_cells (s : State) : s.flashTrip.cache.cells = s.cache.cells := by simp [State.flashTrip]

/-! ## Sys2Proof/Machine/Rats.lean -/

@[simp] theorem State.putR_cells (s : State) (f : Fld) (a : Rat) : (s.putR f a).cache.cells = s.cache.cells :=
  by simp [State.putR]

/-! ## Sys2Proof/Machine/LanternBase.lean -/

@[simp] theorem State.setMod_cells (s : State) (n : Nat) (m : Module) :
    (s.setMod n m).cache.cells = s.cache.cells := by simp [State.setMod]

@[simp] theorem State.lanRaise_cells (s : State) (f : Fld) : (s.lanRaise f).cache.cells = s.cache.cells :=
  by simp [State.lanRaise]

@[simp] theorem State.lanShow_cells (s : State) : s.lanShow.cache.cells = s.cache.cells := by simp [State.lanShow]

@[simp] theorem State.setModSt_cells (s : State) (n st : Nat) (dis chg : Bool) :
    (s.setModSt n st dis chg).cache.cells = s.cache.cells := by simp [State.setModSt]

@[simp] theorem State.modsBack_cells (s : State) : s.modsBack.cache.cells = s.cache.cells := by simp [State.modsBack]

@[simp] theorem State.learnHoldOff_cells (s : State) : s.learnHoldOff.cache.cells = s.cache.cells :=
  by simp [State.learnHoldOff]

@[simp] theorem State.learnNote_cells (s : State) (port outcome sigma cap : Nat) :
    (s.learnNote port outcome sigma cap).cache.cells = s.cache.cells := by simp [State.learnNote]

@[simp] theorem State.lanCopy_cells (s : State) : s.lanCopy.cache.cells = s.cache.cells := by simp [State.lanCopy]

@[simp] theorem State.learnOver_cells (s : State) (port : Nat) : (s.learnOver port).cache.cells = s.cache.cells :=
  by simp [State.learnOver]

@[simp] theorem State.learnEnd_cells (s : State) (l : Learn) (outcome sigma cap : Nat) :
    (s.learnEnd l outcome sigma cap).cache.cells = s.cache.cells := by simp [State.learnEnd]

@[simp] theorem State.learnRetry_cells (s : State) (port : Nat) : (s.learnRetry port).cache.cells = s.cache.cells :=
  by simp [State.learnRetry]

@[simp] theorem State.learnAbort_cells (s : State) (outcome : Nat) :
    (s.learnAbort outcome).cache.cells = s.cache.cells := by
  unfold State.learnAbort
  split <;> simp

@[simp] theorem State.restCut_cells (s : State) : s.restCut.cache.cells = s.cache.cells := by
  unfold State.restCut
  dsimp only
  repeat' split
  all_goals simp

@[simp] theorem State.lanAbort_cells (s : State) (outcome : Nat) :
    (s.lanAbort outcome).cache.cells = s.cache.cells := by simp [State.lanAbort]

@[simp] theorem State.lanTrip_cells (s : State) : s.lanTrip.cache.cells = s.cache.cells := by simp [State.lanTrip]

/-! ## Sys2Proof/Machine/RecorderOps.lean -/

@[simp] theorem State.norFlushOne_cells (s : State) (late : Bool) :
    (s.norFlushOne late).cache.cells = s.cache.cells := by
  unfold State.norFlushOne
  repeat' split
  all_goals simp

@[simp] theorem State.norFlush_cells (late : Bool) (n : Nat) (s : State) :
    (State.norFlush late n s).cache.cells = s.cache.cells := by
  induction n generalizing s with
  | zero => rfl
  | succ n ih => simp [State.norFlush, ih]

@[simp] theorem State.bbErase_cells (s : State) (home : Nat) : (s.bbErase home).cache.cells = s.cache.cells :=
  by simp [State.bbErase]

@[simp] theorem State.bbPage_cells (s : State) (tail buffer : Bool) (es : List EvRecord) :
    (s.bbPage tail buffer es).1.cache.cells = s.cache.cells := by
  unfold State.bbPage
  repeat' split
  all_goals simp

@[simp] theorem State.bbFlush_cells (s : State) (late : Bool) : (s.bbFlush late).cache.cells = s.cache.cells :=
  by simp [State.bbFlush]

@[simp] theorem State.flushAll_cells (s : State) (late : Bool) : (s.flushAll late).cache.cells = s.cache.cells :=
  by simp [State.flushAll]

@[simp] theorem State.enterMode_cells (s : State) (mode code : Nat) :
    (s.enterMode mode code).cache.cells = s.cache.cells := by simp [State.enterMode]

@[simp] theorem State.norFailed_cells (s : State) : s.norFailed.cache.cells = s.cache.cells := by simp [State.norFailed]

@[simp] theorem State.ringFailed_cells (s : State) (lost : List Nat) :
    (s.ringFailed lost).cache.cells = s.cache.cells := by simp [State.ringFailed]

@[simp] theorem State.bbSync_cells (s : State) : s.bbSync.cache.cells = s.cache.cells := by simp [State.bbSync]

@[simp] theorem State.bbFailed_cells (s : State) : s.bbFailed.cache.cells = s.cache.cells := by
  unfold State.bbFailed
  repeat' split
  all_goals simp

@[simp] theorem State.bbTail_cells (s : State) : s.bbTail.cache.cells = s.cache.cells := by
  unfold State.bbTail
  split <;> simp

@[simp] theorem State.readRecord_cells (s : State) : s.readRecord.cache.cells = s.cache.cells := by
  unfold State.readRecord
  split
  · simp only [State.put_cells]
  · refine (cells_foldl (fun t w => State.put_cells t _ _) _ _).trans ?_
    simp only [State.put_cells]

@[simp] theorem State.openView_cells (s : State) (v : Nat) : (s.openView v).cache.cells = s.cache.cells :=
  by simp [State.openView]

@[simp] theorem State.closeView_cells (s : State) (v : Nat) : (s.closeView v).cache.cells = s.cache.cells :=
  by simp [State.closeView]

@[simp] theorem State.closeViews_cells (s : State) : s.closeViews.cache.cells = s.cache.cells :=
  by simp [State.closeViews]

@[simp] theorem State.getChallenge_cells (s : State) : s.getChallenge.1.cache.cells = s.cache.cells :=
  by simp [State.getChallenge]

@[simp] theorem State.clearErase_cells (s : State) : s.clearErase.cache.cells = s.cache.cells :=
  by simp [State.clearErase]

@[simp] theorem State.flushNow_cells (s : State) : s.flushNow.cache.cells = s.cache.cells := by simp [State.flushNow]

@[simp] theorem State.clearAccepted_cells (s : State) (r : Requester) (clearTo maxSev scope slot : Nat)
    (sigHash : List Nat) :
    (s.clearAccepted r clearTo maxSev scope slot sigHash).cache.cells = s.cache.cells := by simp [State.clearAccepted]

@[simp] theorem State.clearRefused_cells (s : State) (r : Requester) :
    (s.clearRefused r).cache.cells = s.cache.cells := by simp [State.clearRefused]

@[simp] theorem State.logClear_cells (s : State) (r : Requester) (clearTo maxSev scope slot : Nat) (keyOk sigOk : Bool)
    (sigHash : List Nat) :
    (s.logClear r clearTo maxSev scope slot keyOk sigOk sigHash).1.cache.cells = s.cache.cells := by
  unfold State.logClear
  dsimp only
  repeat' split
  all_goals simp

@[simp] theorem State.copyTails_cells (s : State) : s.copyTails.cache.cells = s.cache.cells := by simp [State.copyTails]

@[simp] theorem State.evrStart_cells (s : State) (norOk : Bool) : (s.evrStart norOk).cache.cells = s.cache.cells :=
  by simp [State.evrStart]

@[simp] theorem State.evrResume_cells (s : State) : s.evrResume.cache.cells = s.cache.cells := by simp [State.evrResume]

@[simp] theorem State.evrRebase_cells (s : State) (baseSecs baseCycles : Nat) :
    (s.evrRebase baseSecs baseCycles).cache.cells = s.cache.cells := by simp [State.evrRebase]

@[simp] theorem State.bufferLate_cells (s : State) : s.bufferLate.cache.cells = s.cache.cells :=
  by simp [State.bufferLate]

@[simp] theorem State.evrLate_cells (s : State) : s.evrLate.cache.cells = s.cache.cells := by simp [State.evrLate]

@[simp] theorem State.scanDone_cells (s : State) : s.scanDone.cache.cells = s.cache.cells := by simp [State.scanDone]

/-! ## Sys2Proof/Machine/SeqBase.lean -/

@[simp] theorem State.setChan_cells (s : State) (n : Nat) (c : Chan) :
    (s.setChan n c).cache.cells = s.cache.cells := by simp [State.setChan]

@[simp] theorem State.resumeRetained_cells (s : State) : s.resumeRetained.cache.cells = s.cache.cells :=
  by simp [State.resumeRetained]

@[simp] theorem State.sleepExitNow_cells (s : State) : s.sleepExitNow.cache.cells = s.cache.cells :=
  by simp [State.sleepExitNow]

@[simp] theorem State.leaveOn_cells (s : State) (src : Nat) : (s.leaveOn src).cache.cells = s.cache.cells :=
  by simp [State.leaveOn]

@[simp] theorem State.ffErase_cells (s : State) : s.ffErase.cache.cells = s.cache.cells := by simp [State.ffErase]

@[simp] theorem State.setSeq_cells (s : State) (st : Nat) : (s.setSeq st).cache.cells = s.cache.cells :=
  by simp [State.setSeq]

@[simp] theorem State.enableGroup_cells (s : State) (g : Nat) : (s.enableGroup g).cache.cells = s.cache.cells :=
  by simp [State.enableGroup]

@[simp] theorem State.resetBlock_cells (s : State) (b : Block) (keep : List Fld) :
    (s.resetBlock b keep).cache.cells = s.cache.cells := by simp [State.resetBlock]

@[simp] theorem State.resetRw_cells (s : State) (b : Block) : (s.resetRw b).cache.cells = s.cache.cells :=
  by simp [State.resetRw]

@[simp] theorem State.upBegin_cells (s : State) (attempt : Nat) : (s.upBegin attempt).cache.cells = s.cache.cells :=
  by simp [State.upBegin]

@[simp] theorem State.powerOn_cells (s : State) (attempt : Nat) : (s.powerOn attempt).cache.cells = s.cache.cells :=
  by simp [State.powerOn]

@[simp] theorem State.wakeOff_cells (s : State) (src : Nat) : (s.wakeOff src).cache.cells = s.cache.cells :=
  by simp [State.wakeOff]

@[simp] theorem memoryWf_allOff (s : State) (_h : Memory.wf s.cache.cells = true) : Memory.wf (State.allOff s).cache.cells = true := by
  simp only [State.allOff, State.put_cells]
  exact memoryWf_init

@[simp] theorem memoryWf_enterOff (s : State) (auto : Bool) (h : Memory.wf s.cache.cells = true) :
    Memory.wf (s.enterOff auto).cache.cells = true := by simp [State.enterOff, h]

@[simp] theorem State.bootNote_cells (s : State) (kind reason : Nat) (cold : Bool) :
    (s.bootNote kind reason cold).cache.cells = s.cache.cells := by simp [State.bootNote]

@[simp] theorem State.startSuccess_cells (s : State) : s.startSuccess.cache.cells = s.cache.cells :=
  by simp [State.startSuccess]

@[simp] theorem State.noteFail_cells (s : State) (reason : Nat) : (s.noteFail reason).cache.cells = s.cache.cells :=
  by simp [State.noteFail]

@[simp] theorem memoryWf_enterRetry (s : State) (h : Memory.wf s.cache.cells = true) :
    Memory.wf s.enterRetry.cache.cells = true := by simp [State.enterRetry, h]

@[simp] theorem memoryWf_enterLockout (s : State) (attempt : Bool) (h : Memory.wf s.cache.cells = true) :
    Memory.wf (s.enterLockout attempt).cache.cells = true := by simp [State.enterLockout, h]

@[simp] theorem memoryWf_downFinish (s : State) (h : Memory.wf s.cache.cells = true) :
    Memory.wf s.downFinish.cache.cells = true := by
  unfold State.downFinish
  repeat' split
  all_goals simp [h]

@[simp] theorem State.disableGroup_cells (s : State) (g : Nat) : (s.disableGroup g).cache.cells = s.cache.cells :=
  by simp [State.disableGroup]

@[simp] theorem State.transUp_cells (s : State) (from_ : Nat) : (s.transUp from_).cache.cells = s.cache.cells := by
  unfold State.transUp
  split <;> simp

@[simp] theorem State.transDown_cells (s : State) (below : Nat) : (s.transDown below).cache.cells = s.cache.cells := by
  unfold State.transDown
  split <;> simp

@[simp] theorem State.beginTrans_cells (s : State) (deep up : Bool) :
    (s.beginTrans deep up).cache.cells = s.cache.cells := by simp [State.beginTrans]

@[simp] theorem memoryWf_downBegin (s : State) (why : DownWhy) (fast : Bool) (h : Memory.wf s.cache.cells = true) :
    Memory.wf (s.downBegin why fast).cache.cells = true := by
  unfold State.downBegin
  dsimp only
  split <;> simp [h]

@[simp] theorem memoryWf_startFails (s : State) (reason : Nat) (h : Memory.wf s.cache.cells = true) :
    Memory.wf (s.startFails reason).cache.cells = true := by simp [State.startFails, h]

@[simp] theorem memoryWf_fastOff (s : State) (why : DownWhy) (h : Memory.wf s.cache.cells = true) :
    Memory.wf (s.fastOff why).cache.cells = true := by simp [State.fastOff, h]

@[simp] theorem State.ffQueueAdd_cells (s : State) (r : FFRecord) : (s.ffQueueAdd r).cache.cells = s.cache.cells :=
  by simp [State.ffQueueAdd]

@[simp] theorem State.takeFF_cells (s : State) (ch kind code : Nat) :
    (State.takeFF s ch kind code).cache.cells = s.cache.cells := by
  unfold State.takeFF
  extract_lets snap r src s1 s2 s3 s4
  have h3 : s3.cache.cells = s.cache.cells := by simp only [s3, s2, s1, State.put_cells]
  have h4 : s4.cache.cells = s.cache.cells := by simp only [s4, State.ffQueueAdd_cells, State.put_cells, h3]
  exact (State.eventWith_cells _ _ _ _ _ _).trans h4

/-! ## Sys2Proof/Machine/DramOps.lean -/

@[simp] theorem State.setBank_cells (s : State) (k : Nat) (b : Bank) :
    (s.setBank k b).cache.cells = s.cache.cells := by simp [State.setBank]

@[simp] theorem State.setSub_cells (s : State) (k : Nat) (c : SubCh) : (s.setSub k c).cache.cells = s.cache.cells :=
  by simp [State.setSub]

@[simp] theorem State.enterPool_cells (s : State) (r : DReq) : (s.enterPool r).cache.cells = s.cache.cells :=
  by simp [State.enterPool]

@[simp] theorem State.submitBurst_cells (s : State) (port : DPort) (kind : DKind) (burst ns : Nat) :
    (s.submitBurst port kind burst ns).cache.cells = s.cache.cells := by simp [State.submitBurst]

@[simp] theorem State.refillPool_cells (s : State) : s.refillPool.cache.cells = s.cache.cells :=
  by simp [State.refillPool]

@[simp] theorem State.rowHammer_cells (s : State) (d : DAddr) (e : ActEnt) (ns : Nat) :
    (s.rowHammer d e ns).cache.cells = s.cache.cells := by simp [State.rowHammer]

@[simp] theorem State.activate_cells (s : State) (sub i ns : Nat) :
    (s.activate sub i ns).cache.cells = s.cache.cells := by
  unfold State.activate
  dsimp only
  repeat' split
  all_goals simp

@[simp] theorem State.leavePool_cells (s : State) (r : DReq) : (s.leavePool r).cache.cells = s.cache.cells :=
  by simp [State.leavePool]

@[simp] theorem memoryWf_settleFreeze (old s : State) (h : Memory.wf s.cache.cells = true) :
    Memory.wf (old.settleFreeze s).cache.cells = true := by
  unfold State.settleFreeze
  split <;> simp [h]

@[simp] theorem memoryWf_column (s : State) (r : DReq) (dev : BurstErr) (h : Memory.wf s.cache.cells = true) :
    Memory.wf (s.column r dev).cache.cells = true := by
  unfold State.column
  dsimp only
  repeat' split
  all_goals simp [h]

@[simp] theorem State.syncPanic_cells (s : State) (ns dumpLevel restLevel : Nat) :
    (s.syncPanic ns dumpLevel restLevel).cache.cells = s.cache.cells := by simp [State.syncPanic]

@[simp] theorem State.pumpRewrite_cells (s : State) (ns : Nat) : (s.pumpRewrite ns).cache.cells = s.cache.cells := by
  unfold State.pumpRewrite
  split <;> simp

@[simp] theorem memoryWf_commandSlot (s : State) (sub ns dump rest : Nat) (forbid : List Nat) (dev : BurstErr)
    (h : Memory.wf s.cache.cells = true) :
    Memory.wf (s.commandSlot sub ns dump rest forbid dev).cache.cells = true := by
  unfold State.commandSlot
  dsimp only
  repeat' split
  all_goals simp [h]

@[simp] theorem State.refresh_cells (s : State) : s.refresh.cache.cells = s.cache.cells := by simp [State.refresh]

@[simp] theorem State.refreshDue_cells (s : State) : s.refreshDue.cache.cells = s.cache.cells :=
  by simp [State.refreshDue]

@[simp] theorem State.storeSet_cells (s : State) (rate : Nat) : (s.storeSet rate).cache.cells = s.cache.cells :=
  by simp [State.storeSet]

@[simp] theorem State.clockSwitch_cells (s : State) (rate : Nat) :
    (s.clockSwitch rate).cache.cells = s.cache.cells := by simp [State.clockSwitch]

@[simp] theorem State.clockTry_cells (s : State) (rate : Nat) : (s.clockTry rate).cache.cells = s.cache.cells :=
  by simp [State.clockTry]

@[simp] theorem State.clockChange_cells (s : State) (rate : Nat) :
    (s.clockChange rate).cache.cells = s.cache.cells := by simp [State.clockChange]

@[simp] theorem State.clockRetry_cells (s : State) : s.clockRetry.cache.cells = s.cache.cells := by
  unfold State.clockRetry
  split <;> simp

@[simp] theorem State.dramTrip_cells (s : State) : s.dramTrip.cache.cells = s.cache.cells := by simp [State.dramTrip]

@[simp] theorem State.dramDrained_cells (s : State) : s.dramDrained.cache.cells = s.cache.cells :=
  by simp [State.dramDrained]

@[simp] theorem State.dmcStatClr_cells (s : State) : s.dmcStatClr.cache.cells = s.cache.cells :=
  by simp [State.dmcStatClr]

@[simp] theorem State.dmcXlate_cells (s : State) : s.dmcXlate.cache.cells = s.cache.cells := by
  unfold State.dmcXlate
  extract_lets a bad d s1 s2 s3
  simp only [s3, s2, s1, State.put_cells, State.putB_cells]

@[simp] theorem State.eccCntClr_cells (s : State) : s.eccCntClr.cache.cells = s.cache.cells := by simp [State.eccCntClr]

@[simp] theorem State.posLoad_cells (s : State) : s.posLoad.cache.cells = s.cache.cells := by simp [State.posLoad]

@[simp] theorem State.diagRead_cells (s : State) : s.diagRead.cache.cells = s.cache.cells := by
  unfold State.diagRead
  extract_lets a refused e out posMask s1 s2
  simp only [s2, s1, State.put_cells, State.putB_cells]

/-! ## Sys2Proof/Machine/VaultOps.lean -/

@[simp] theorem State.updVault_cells (s : State) (f : Vault → Vault) : (s.updVault f).cache.cells = s.cache.cells :=
  by simp [State.updVault]

@[simp] theorem State.stopFetches_cells (s : State) : s.stopFetches.cache.cells = s.cache.cells :=
  by simp [State.stopFetches]

@[simp] theorem State.cutRehearsal_cells (s : State) : s.cutRehearsal.cache.cells = s.cache.cells :=
  by simp [State.cutRehearsal]

@[simp] theorem State.discardAll_cells (s : State) (p : Port) : (s.discardAll p).cache.cells = s.cache.cells := by
  refine cells_foldl (fun t i => ?_) _ s
  split <;> simp

@[simp] theorem State.closeIngest_cells (s : State) : s.closeIngest.cache.cells = s.cache.cells :=
  by simp [State.closeIngest]

@[simp] theorem State.clearCounts_cells (s : State) : s.clearCounts.cache.cells = s.cache.cells :=
  by simp [State.clearCounts]

@[simp] theorem State.carryFlights_cells (s : State) : s.carryFlights.cache.cells = s.cache.cells :=
  by simp [State.carryFlights]

@[simp] theorem State.startVault_cells (s : State) (cause : VaultCause) (tripped : Bool) :
    (s.startVault cause tripped).cache.cells = s.cache.cells := by simp [State.startVault]

@[simp] theorem State.takeManifest_cells (s : State) : s.takeManifest.cache.cells = s.cache.cells :=
  by simp [State.takeManifest]

@[simp] theorem memoryWf_completeFromOwn (s : State) (g : Nat) (h : Memory.wf s.cache.cells = true) :
    Memory.wf (s.completeFromOwn g).cache.cells = true := by simp [State.completeFromOwn, h]

@[simp] theorem memoryWf_completePeerHeld (s : State)
    (h : Memory.wf s.cache.cells = true) :
    Memory.wf (State.completePeerHeld s).cache.cells = true :=
  memoryWf_foldl (fun t e ht => memoryWf_completeFromOwn t e.1 ht) _ s h

@[simp] theorem State.positionEvents_cells (s : State) : s.positionEvents.cache.cells = s.cache.cells :=
  by simp [State.positionEvents]

@[simp] theorem memoryWf_linksOff (s : State) (h : Memory.wf s.cache.cells = true) :
    Memory.wf s.linksOff.cache.cells = true := by
  unfold State.linksOff
  split <;> simp [h]

@[simp] theorem memoryWf_dumpRead (s : State) (gs : List Nat)
    (h : Memory.wf s.cache.cells = true) :
    Memory.wf (State.dumpRead s gs).cache.cells = true := by
  unfold State.dumpRead
  rw [State.incSat_cells]
  exact memoryWf_foldl (fun t g ht => memoryWf_readGranule t .rt g ht) gs s h

@[simp] theorem memoryWf_vaultStripe (s : State) (rewriteOf : Nat) (manifest : Bool) (content : List Nat)
    (h : Memory.wf s.cache.cells = true) :
    Memory.wf (s.vaultStripe rewriteOf manifest content).cache.cells = true := by
  unfold State.vaultStripe
  dsimp only
  repeat' split
  all_goals simp [h]

@[simp] theorem State.vaultTail_cells (s : State) : s.vaultTail.cache.cells = s.cache.cells := by simp [State.vaultTail]

@[simp] theorem memoryWf_vaultPump (s : State) (h : Memory.wf s.cache.cells = true) :
    Memory.wf s.vaultPump.cache.cells = true := by
  unfold State.vaultPump
  dsimp only
  repeat' split
  all_goals simp [h]

@[simp] theorem memoryWf_drainComplete (s : State) (closeNs drainNs firstNs : Nat)
    (h : Memory.wf s.cache.cells = true) :
    Memory.wf (State.drainComplete s closeNs drainNs firstNs).cache.cells = true := by
  unfold State.drainComplete
  split
  · exact h
  · split
    · exact h
    · extract_lets s1 s2 s4
      have h2 : Memory.wf s2.cache.cells = true := by simp only [s2, s1, State.clearCounts_cells, State.put_cells, h]
      have h4 : Memory.wf s4.cache.cells = true := by
        rw [State.positionEvents_cells]
        refine memoryWf_linksOff _ ?_
        rw [State.dramDrained_cells, State.takeManifest_cells]
        exact memoryWf_completePeerHeld _ h2
      exact memoryWf_vaultPump s4 h4

@[simp] theorem State.vaultLunOut_cells (s : State) (lun : Nat) : (s.vaultLunOut lun).cache.cells = s.cache.cells :=
  by simp [State.vaultLunOut]

@[simp] theorem State.vaultPage_cells (s : State) (x : Stripe) (d : Nat) :
    (s.vaultPage x d).cache.cells = s.cache.cells := by simp [State.vaultPage]

@[simp] theorem State.savePointers_cells (s : State) : s.savePointers.cache.cells = s.cache.cells :=
  by simp [State.savePointers]

@[simp] theorem memoryWf_vaultStripeEnd (s : State) (f : Flight) (h : Memory.wf s.cache.cells = true) :
    Memory.wf (s.vaultStripeEnd f).cache.cells = true := by simp [State.vaultStripeEnd, h]

@[simp] theorem State.writeSeal_cells (s : State) (v : Vault) (r : RecRound) (us : Nat) :
    (s.writeSeal v r us).cache.cells = s.cache.cells := by simp [State.writeSeal]

@[simp] theorem State.sealBudget_cells (s : State) (v : Vault) : (s.sealBudget v).cache.cells = s.cache.cells :=
  by simp [State.sealBudget]

@[simp] theorem State.sealed_cells (s : State) (v : Vault) (r : RecRound) (us : Nat) :
    (s.sealed v r us).cache.cells = s.cache.cells := by simp [State.sealed]

@[simp] theorem State.sealRound_cells (s : State) (fails : List Nat) (us : Nat) :
    (s.sealRound fails us).cache.cells = s.cache.cells := by
  unfold State.sealRound
  split <;> simp

@[simp] theorem State.vaultOver_cells (s : State) : s.vaultOver.cache.cells = s.cache.cells := by simp [State.vaultOver]

@[simp] theorem State.vaultReturn_cells (s : State) : s.vaultReturn.cache.cells = s.cache.cells :=
  by simp [State.vaultReturn]

/-! ## Sys2Proof/Machine/FlashOps.lean -/

@[simp] theorem State.setLblk_cells (s : State) (lun b : Nat) (v : Blk) :
    (s.setLblk lun b v).cache.cells = s.cache.cells := by simp [State.setLblk]

@[simp] theorem State.ledgerSetup_cells (s : State) (lbaf : Nat) :
    (s.ledgerSetup lbaf).cache.cells = s.cache.cells := by simp [State.ledgerSetup]

@[simp] theorem State.ledgerErase_cells (s : State) : s.ledgerErase.cache.cells = s.cache.cells := by
  refine cells_foldl (fun t lun => underLeave_cells t _ fun w => cells_foldl (fun u b => ?_) _ w) _ s
  dsimp only
  split <;> simp

@[simp] theorem State.ledgerFormat_cells (s : State) (lbaf : Nat) :
    (s.ledgerFormat lbaf).cache.cells = s.cache.cells := by simp [State.ledgerFormat]

@[simp] theorem State.flashSubmit_cells (s : State) (d : Desc) : (s.flashSubmit d).cache.cells = s.cache.cells :=
  by simp [State.flashSubmit]

@[simp] theorem State.dequeue_cells (s : State) (d : Desc) : (s.dequeue d).cache.cells = s.cache.cells :=
  by simp [State.dequeue]

@[simp] theorem State.eraseIssued_cells (s : State) (d : Desc) : (s.eraseIssued d).cache.cells = s.cache.cells :=
  by simp [State.eraseIssued]

@[simp] theorem State.abortSuspended_cells (s : State) (lun : Nat) :
    (s.abortSuspended lun).cache.cells = s.cache.cells := by
  unfold State.abortSuspended
  dsimp only
  repeat' split
  all_goals simp

@[simp] theorem State.abortErase_cells (s : State) (d : Desc) : (s.abortErase d).cache.cells = s.cache.cells :=
  by simp [State.abortErase]

@[simp] theorem State.issueNow_cells (s : State) (d : Desc) (grant : Nat) :
    (State.issueNow s d grant).cache.cells = s.cache.cells := by
  unfold State.issueNow
  extract_lets s1 s2 e0 s3
  have h1 : s1.cache.cells = s.cache.cells := by simp [s1]
  have h2 : s2.cache.cells = s.cache.cells := by unfold s2; split <;> simp [h1]
  have h3 : s3.cache.cells = s.cache.cells := (State.setLun_cells _ _ _).trans h2
  split
  · simp [h1]
  · rw [State.send_cells, cells_foldl State.send_cells, h3]

@[simp] theorem State.tryIssue_cells (s : State) (d : Desc) : (s.tryIssue d).cache.cells = s.cache.cells := by
  unfold State.tryIssue
  dsimp only
  repeat' split
  all_goals simp

@[simp] theorem State.issueLun_cells (s : State) (lun : Nat) (aged : List Nat) :
    (s.issueLun lun aged).cache.cells = s.cache.cells := by
  unfold State.issueLun
  dsimp only
  repeat' split
  all_goals simp

@[simp] theorem State.suspendLun_cells (s : State) (lun : Nat) : (s.suspendLun lun).cache.cells = s.cache.cells := by
  unfold State.suspendLun
  dsimp only
  repeat' split
  all_goals simp

@[simp] theorem State.retireLedger_cells (s : State) (lun b : Nat) :
    (s.retireLedger lun b).cache.cells = s.cache.cells := by simp [State.retireLedger]

@[simp] theorem State.blockFail_cells (s : State) (d : Desc) : (s.blockFail d).cache.cells = s.cache.cells :=
  by simp [State.blockFail]

@[simp] theorem memoryWf_pageDone (s : State) (f : Flight) (p : Nat) (h : Memory.wf s.cache.cells = true) :
    Memory.wf (s.pageDone f p).cache.cells = true := by
  unfold State.pageDone
  dsimp only
  repeat' split
  all_goals simp [h]

@[simp] theorem memoryWf_dropEntries (s : State) (serial : Nat) (h : Memory.wf s.cache.cells = true) :
    Memory.wf (s.dropEntries serial).cache.cells = true := by simp [State.dropEntries, h]

@[simp] theorem memoryWf_pageFailed (s : State) (f : Flight) (p lun : Nat) (h : Memory.wf s.cache.cells = true) :
    Memory.wf (s.pageFailed f p lun).cache.cells = true := by
  unfold State.pageFailed
  dsimp only
  repeat' split
  all_goals simp [h]

@[simp] theorem memoryWf_programEnd (s : State) (d : Desc) (ok timed : Bool) (h : Memory.wf s.cache.cells = true) :
    Memory.wf (s.programEnd d ok timed).cache.cells = true := by
  unfold State.programEnd
  dsimp only
  repeat' split
  all_goals simp [h]

@[simp] theorem State.eraseEnd_cells (s : State) (d : Desc) (ok timed : Bool) :
    (s.eraseEnd d ok timed).cache.cells = s.cache.cells := by simp [State.eraseEnd]

@[simp] theorem memoryWf_opEnd (s : State) (r : FRun) (c : FCompl) (h : Memory.wf s.cache.cells = true) :
    Memory.wf (s.opEnd r c).cache.cells = true := by
  unfold State.opEnd
  dsimp only
  split <;> simp [h]

@[simp] theorem memoryWf_resetSuspended (s : State) (lun : Nat) (h : Memory.wf s.cache.cells = true) :
    Memory.wf (s.resetSuspended lun).cache.cells = true := by
  unfold State.resetSuspended
  dsimp only
  repeat' split
  all_goals simp [h]

@[simp] theorem memoryWf_resetPeer (s : State) (lun : Nat) (h : Memory.wf s.cache.cells = true) :
    Memory.wf (s.resetPeer lun).cache.cells = true := by
  unfold State.resetPeer
  dsimp only
  repeat' split
  all_goals simp [h]

@[simp] theorem memoryWf_resetDone (s : State) (lun : Nat)
    (h : Memory.wf s.cache.cells = true) :
    Memory.wf (State.resetDone s lun).cache.cells = true :=
  memoryWf_foldl (fun t n ht => memoryWf_resetPeer t n ht) _ s h

@[simp] theorem State.retrySets_cells (s : State) (lun : Nat) (offs : List Int) :
    (s.retrySets lun offs).cache.cells = s.cache.cells := by
  unfold State.retrySets
  split
  · rfl
  · split
    · rfl
    · exact cells_foldl (fun t o => State.send_cells t _) _ _

@[simp] theorem memoryWf_opComplete (s : State) (lun : Nat) (fail : Bool) (level best bits retried cwFail zeros us : Nat)
    (h : Memory.wf s.cache.cells = true) :
    Memory.wf (State.opComplete s lun fail level best bits retried cwFail zeros us).cache.cells = true := by
  unfold State.opComplete
  split
  · exact h
  · extract_lets d st rd refresh c s0 e0 s1 s2 t b0 s3 s4 s5
    have h0 : s0.cache.cells = s.cache.cells := by unfold s0; split <;> simp
    have h1 : s1.cache.cells = s.cache.cells := by unfold s1; split_ifs <;> simp [h0]
    have h2 : s2.cache.cells = s.cache.cells := by unfold s2; split <;> simp [h1]
    have h3 : s3.cache.cells = s.cache.cells := by unfold s3 t; split_ifs <;> simp [h2]
    have h4 : s4.cache.cells = s.cache.cells := by unfold s4; split <;> simp [h3]
    have h5 : s5.cache.cells = s.cache.cells := by
      unfold s5
      split
      · exact (cells_foldl State.send_cells _ _).trans h4
      · exact h4
    have h6 : Memory.wf s5.cache.cells = true := h5 ▸ h
    split <;> simp [h6]

@[simp] theorem State.lunDead_cells (s : State) (lun : Nat) : (s.lunDead lun).cache.cells = s.cache.cells :=
  by simp [State.lunDead]

@[simp] theorem memoryWf_opTimeout (s : State) (lun : Nat) (resetOk : Bool)
    (h : Memory.wf s.cache.cells = true) :
    Memory.wf (State.opTimeout s lun resetOk).cache.cells = true := by
  unfold State.opTimeout
  extract_lets l s1 s2 e0
  split
  · exact h
  · extract_lets c0 s3 e1 t t1
    have h2 : Memory.wf s2.cache.cells = true := by simp [s2, s1, h]
    have h3 : Memory.wf s3.cache.cells = true := by unfold s3; split <;> simp [h2]
    split
    · simp [h3]
    · split
      · simp [t1, t, h3]
      · exact h3

@[simp] theorem State.channelOut_cells (s : State) (ch : Nat) : (s.channelOut ch).cache.cells = s.cache.cells :=
  by simp [State.channelOut]

@[simp] theorem State.retrain_cells (s : State) (ch : Nat) (ok : Bool) :
    (s.retrain ch ok).cache.cells = s.cache.cells := by simp [State.retrain]

@[simp] theorem State.channelFault_cells (s : State) (ch : Nat) (ok : Bool) :
    (s.channelFault ch ok).cache.cells = s.cache.cells := by simp [State.channelFault]

/-! ## Sys2Proof/Machine/RestoreOps.lean -/

@[simp] theorem State.formatRecords_cells (s : State) : s.formatRecords.cache.cells = s.cache.cells := by
  refine cells_foldl (fun t c => ?_) _ s
  split
  · rfl
  · split
    · rfl
    · exact cells_foldl (fun u e => by simp) _ _

@[simp] theorem State.formatSpares_cells (s : State) (ch : Nat) : (s.formatSpares ch).cache.cells = s.cache.cells :=
  by simp [State.formatSpares]

@[simp] theorem State.formatHeads_cells (s : State) : s.formatHeads.cache.cells = s.cache.cells :=
  by simp [State.formatHeads]

@[simp] theorem State.formatLun_cells (s : State) (lun : Nat) : (s.formatLun lun).cache.cells = s.cache.cells :=
  by simp [State.formatLun]

@[simp] theorem State.formatJournal_cells (s : State) (luns : List Nat) :
    (s.formatJournal luns).cache.cells = s.cache.cells := by simp [State.formatJournal]

@[simp] theorem State.takeBlocks_cells (s : State) : s.takeBlocks.cache.cells = s.cache.cells :=
  by simp [State.takeBlocks]

@[simp] theorem State.fullBucket_cells (s : State) : s.fullBucket.cache.cells = s.cache.cells :=
  by simp [State.fullBucket]

@[simp] theorem State.formatMedia_cells (s : State) : s.formatMedia.cache.cells = s.cache.cells :=
  by simp [State.formatMedia]

@[simp] theorem State.formatGrotto_cells (s : State) : s.formatGrotto.cache.cells = s.cache.cells :=
  by simp [State.formatGrotto]

@[simp] theorem State.startFormat_cells (s : State) : s.startFormat.cache.cells = s.cache.cells :=
  by simp [State.startFormat]

@[simp] theorem memoryWf_enterMap (s : State) (best : NMap Placed)
    (h : Memory.wf s.cache.cells = true) :
    Memory.wf (State.enterMap s best).cache.cells = true := by
  unfold State.enterMap
  extract_lets marks st s1 cand s2
  have h1 : Memory.wf s1.cache.cells = true := memoryWf_foldl (fun t e ht => by simp [ht]) best _ memoryWf_init
  have h2 : Memory.wf s2.cache.cells = true := memoryWf_foldl (fun t g ht => by split <;> simp [ht]) cand s1 h1
  exact memoryWf_foldl (fun t e ht => by split <;> simp [ht]) _ s2 h2

@[simp] theorem State.ownConds_cells (s : State) (alone : Bool) : (s.ownConds alone).cache.cells = s.cache.cells :=
  by simp [State.ownConds]

@[simp] theorem State.restoreSettled_cells (s : State) : s.restoreSettled.cache.cells = s.cache.cells :=
  by simp [State.restoreSettled]

@[simp] theorem State.settleOwnWith_cells (s : State) (alone : Bool) :
    (s.settleOwnWith alone).cache.cells = s.cache.cells := by simp [State.settleOwnWith]

@[simp] theorem State.settleOwn_cells (s : State) : s.settleOwn.cache.cells = s.cache.cells := by simp [State.settleOwn]

@[simp] theorem State.askVtab_cells (s : State) : s.askVtab.cache.cells = s.cache.cells := by simp [State.askVtab]

@[simp] theorem memoryWf_settlePair (s : State) (own peer : VBlock) (h : Memory.wf s.cache.cells = true) :
    Memory.wf (s.settlePair own peer).cache.cells = true := by
  unfold State.settlePair
  split <;> simp [h]

@[simp] theorem State.vtabEntry_cells (s : State) (peer : VBlock) (g seq : Nat) (poisoned : Bool) :
    (s.vtabEntry peer g seq poisoned).cache.cells = s.cache.cells := by
  unfold State.vtabEntry
  split <;> simp

@[simp] theorem State.vtabDone_cells (s : State) (peer : VBlock) : (s.vtabDone peer).cache.cells = s.cache.cells :=
  by simp [State.vtabDone]

@[simp] theorem memoryWf_rxVtab (s : State) (start : Nat) (entries : List (Nat × Bool)) (hdr : List Nat)
    (h : Memory.wf s.cache.cells = true) :
    Memory.wf (s.rxVtab start entries hdr).cache.cells = true := by
  unfold State.rxVtab
  dsimp only
  repeat' split
  all_goals simp [h]

@[simp] theorem State.sendVtab_cells (s : State) : s.sendVtab.cache.cells = s.cache.cells := by simp [State.sendVtab]

@[simp] theorem memoryWf_settle (s : State) (h : Memory.wf s.cache.cells = true) :
    Memory.wf s.settle.cache.cells = true := by
  unfold State.settle
  repeat' split
  all_goals simp [h]

@[simp] theorem State.reErase_cells (s : State) (differ : List JEnt) (failed : List Nat) :
    (s.reErase differ failed).cache.cells = s.cache.cells := by simp [State.reErase]

@[simp] theorem State.scanned_cells (s : State) (ms : Nat) (lost : List (Nat × Nat)) (badSums far : Nat) (clash : List Nat) (differ : List JEnt)
    (failed : List Nat) :
    (s.scanned ms lost badSums far clash differ failed).cache.cells = s.cache.cells := by simp [State.scanned]

@[simp] theorem memoryWf_mapEntered (s : State) (h : Memory.wf s.cache.cells = true) :
    Memory.wf s.mapEntered.cache.cells = true := by simp [State.mapEntered, h]

@[simp] theorem memoryWf_mapBuilt (s : State) (ms : Nat) (lost : List (Nat × Nat)) (badSums far : Nat) (clash : List Nat) (differ : List JEnt) (failed : List Nat) (openMs : Nat)
    (h : Memory.wf s.cache.cells = true) :
    Memory.wf (s.mapBuilt ms lost badSums far clash differ failed openMs).cache.cells = true := by simp [State.mapBuilt, h]

@[simp] theorem State.sealTimes_cells (s : State) : s.sealTimes.cache.cells = s.cache.cells := by
  unfold State.sealTimes
  split <;> simp

@[simp] theorem State.searchRead_cells (s : State) (bad : List (Nat × Nat × Nat)) (differ : Bool) :
    (s.searchRead bad differ).cache.cells = s.cache.cells := by simp [State.searchRead]

@[simp] theorem memoryWf_sealSearch (s : State) (h : Memory.wf s.cache.cells = true) :
    Memory.wf s.sealSearch.cache.cells = true := by
  unfold State.sealSearch
  dsimp only
  repeat' split
  all_goals simp [h]

@[simp] theorem State.peerWaitOver_cells (s : State) : s.peerWaitOver.cache.cells = s.cache.cells :=
  by simp [State.peerWaitOver]

@[simp] theorem memoryWf_rxVinfo (s : State) (need : Bool) (own mirror : VBlock) (h : Memory.wf s.cache.cells = true) :
    Memory.wf (s.rxVinfo need own mirror).cache.cells = true := by
  unfold State.rxVinfo
  dsimp only
  repeat' split
  all_goals simp [h]

@[simp] theorem State.mediaLoss_cells (s : State) (g : Nat) : (s.mediaLoss g).cache.cells = s.cache.cells :=
  by simp [State.mediaLoss]

@[simp] theorem memoryWf_fetchFollows (s : State)
    (h : Memory.wf s.cache.cells = true) :
    Memory.wf (State.fetchFollows s).cache.cells = true := by
  unfold State.fetchFollows
  dsimp only
  have h1 : Memory.wf s.pumpGreqs.pumpForwards.pumpMirror.cache.cells = true :=
    memoryWf_pumpMirror _ (memoryWf_pumpForwards _ (memoryWf_pumpGreqs _ h))
  split <;> simp [h1]

@[simp] theorem memoryWf_fetchDone (s : State) (g : Nat) (ok : Bool)
    (h : Memory.wf s.cache.cells = true) :
    Memory.wf (State.fetchDone s g ok).cache.cells = true := by
  unfold State.fetchDone
  dsimp only
  split
  · exact memoryWf_fetchFollows _ (by simp [h])
  · split
    · exact memoryWf_fetchFollows _ (by simp [h])
    · split
      · simp [h]
      · exact memoryWf_fetchFollows _ (by simp [h])

@[simp] theorem memoryWf_granuleFetch (s : State) (g : Nat) (ok : Bool) (us : Nat)
    (h : Memory.wf s.cache.cells = true) :
    Memory.wf (s.granuleFetch g ok us).cache.cells = true := by
  unfold State.granuleFetch
  dsimp only
  repeat' split
  all_goals simp [h]

/-! ## Sys2Proof/Machine/LanternOps.lean -/

@[simp] theorem State.learnDue_cells (s : State) (n : Nat) (first : Bool) :
    (s.learnDue n first).cache.cells = s.cache.cells := by simp [State.learnDue]

@[simp] theorem State.wantRehearsal_cells (s : State) : s.wantRehearsal.cache.cells = s.cache.cells :=
  by simp [State.wantRehearsal]

@[simp] theorem State.modFound_cells (s : State) (n i : Nat) (f : Profile) (v : Rat) :
    (s.modFound n i f v).cache.cells = s.cache.cells := by simp [State.modFound]

@[simp] theorem State.modBlank_cells (s : State) (n : Nat) : (s.modBlank n).cache.cells = s.cache.cells :=
  by simp [State.modBlank]

@[simp] theorem State.modLost_cells (s : State) (n : Nat) : (s.modLost n).cache.cells = s.cache.cells :=
  by simp [State.modLost]

@[simp] theorem State.judgeAbsent_cells (s : State) (a : Sample) : (s.judgeAbsent a).cache.cells = s.cache.cells := by
  unfold State.judgeAbsent
  dsimp only
  repeat' split
  all_goals simp

@[simp] theorem State.judgePresent_cells (s : State) (a : Sample) :
    (s.judgePresent a).cache.cells = s.cache.cells := by simp [State.judgePresent]

@[simp] theorem State.judgeId_cells (s : State) (a : Sample) : (s.judgeId a).cache.cells = s.cache.cells :=
  by simp [State.judgeId]

@[simp] theorem State.modFault_cells (s : State) (n code : Nat) (openSwitch : Bool) :
    (s.modFault n code openSwitch).cache.cells = s.cache.cells := by simp [State.modFault]

@[simp] theorem State.protect_cells (s : State) (a : Sample) (f : Profile) :
    (s.protect a f).cache.cells = s.cache.cells := by simp [State.protect]

@[simp] theorem State.charge_cells (s : State) (n : Nat) (f : Profile) (i v : Rat) :
    (s.charge n f i v).cache.cells = s.cache.cells := by simp [State.charge]

@[simp] theorem State.judgeGauge_cells (s : State) (n : Nat) : (s.judgeGauge n).cache.cells = s.cache.cells :=
  by simp [State.judgeGauge]

@[simp] theorem State.filter_cells (s : State) (n : Nat) (f : Profile) (i0 v dt : Rat) (ms : Nat) :
    (s.filter n f i0 v dt ms).cache.cells = s.cache.cells := by simp [State.filter]

@[simp] theorem State.natural_cells (s : State) (n ms : Nat) (i : Rat) :
    (s.natural n ms i).cache.cells = s.cache.cells := by simp [State.natural]

@[simp] theorem State.dueCheck_cells (s : State) (n : Nat) : (s.dueCheck n).cache.cells = s.cache.cells :=
  by simp [State.dueCheck]

@[simp] theorem State.showMod_cells (s : State) (n : Nat) (f : Profile) (i v : Rat) :
    (s.showMod n f i v).cache.cells = s.cache.cells := by simp [State.showMod]

@[simp] theorem State.learnTemp_cells (s : State) (n : Nat) (f : Profile) (t : Int) :
    (s.learnTemp n f t).cache.cells = s.cache.cells := by simp [State.learnTemp]

@[simp] theorem State.accumulate_cells (s : State) (a : Sample) : (s.accumulate a).cache.cells = s.cache.cells :=
  by simp [State.accumulate]

@[simp] theorem State.learnCount_cells (s : State) (a : Sample) : (s.learnCount a).cache.cells = s.cache.cells :=
  by simp [State.learnCount]

@[simp] theorem State.sampleMod_cells (s : State) (a : Sample) (f : Profile) :
    (s.sampleMod a f).cache.cells = s.cache.cells := by simp [State.sampleMod]

@[simp] theorem State.sampleAway_cells (s : State) (a : Sample) : (s.sampleAway a).cache.cells = s.cache.cells := by
  unfold State.sampleAway
  dsimp only
  repeat' split
  all_goals simp

@[simp] theorem State.converterFall_cells (s : State) (n : Nat) (on : Bool) :
    (s.converterFall n on).cache.cells = s.cache.cells := by simp [State.converterFall]

@[simp] theorem State.sampleOne_cells (s : State) (a : Sample) : (s.sampleOne a).cache.cells = s.cache.cells := by
  unfold State.sampleOne
  dsimp only
  repeat' split
  all_goals simp

@[simp] theorem State.publishE_cells (s : State) : s.publishE.cache.cells = s.cache.cells := by
  unfold State.publishE
  dsimp only
  repeat' split
  all_goals simp

@[simp] theorem State.sumEnergy_cells (s : State) (l : List Sample) : (s.sumEnergy l).cache.cells = s.cache.cells :=
  by simp [State.sumEnergy]

@[simp] theorem State.lanternSample_cells (s : State) (l : List Sample) :
    (s.lanternSample l).cache.cells = s.cache.cells := by simp [State.lanternSample]

@[simp] theorem State.converterSilent_cells (s : State) (n : Nat) :
    (s.converterSilent n).cache.cells = s.cache.cells := by simp [State.converterSilent]

@[simp] theorem State.lowEntry_cells (s : State) (n : Nat) : (s.lowEntry n).cache.cells = s.cache.cells :=
  by simp [State.lowEntry]

@[simp] theorem State.lowUpdate_cells (s : State) (n : Nat) (ua uv temp : Int) :
    (s.lowUpdate n ua uv temp).cache.cells = s.cache.cells := by
  unfold State.lowUpdate
  split <;> simp

@[simp] theorem State.goRest_cells (s : State) (n : Nat) : (s.goRest n).cache.cells = s.cache.cells :=
  by simp [State.goRest]

@[simp] theorem State.restStart_cells (s : State) (n : Nat) : (s.restStart n).cache.cells = s.cache.cells :=
  by simp [State.restStart]

@[simp] theorem State.restFit_cells (s : State) (n : Nat) (f : Profile) (uvPerS uv : Int) :
    (s.restFit n f uvPerS uv).cache.cells = s.cache.cells := by simp [State.restFit]

@[simp] theorem State.restEnd_cells (s : State) (uvPerS uv : Int) :
    (s.restEnd uvPerS uv).cache.cells = s.cache.cells := by
  unfold State.restEnd
  repeat' split
  all_goals simp

@[simp] theorem State.learnRefuse_cells (s : State) (n : Nat) : (s.learnRefuse n).cache.cells = s.cache.cells :=
  by simp [State.learnRefuse]

@[simp] theorem State.learnStart_cells (s : State) (n : Nat) : (s.learnStart n).cache.cells = s.cache.cells := by
  unfold State.learnStart
  dsimp only
  repeat' split
  all_goals simp

@[simp] theorem State.learnCharged_cells (s : State) : s.learnCharged.cache.cells = s.cache.cells := by
  unfold State.learnCharged
  split <;> simp

@[simp] theorem State.learnTimeout_cells (s : State) : s.learnTimeout.cache.cells = s.cache.cells := by
  unfold State.learnTimeout
  split <;> simp

@[simp] theorem State.learnDischarge_cells (s : State) (uv : Int) :
    (s.learnDischarge uv).cache.cells = s.cache.cells := by
  unfold State.learnDischarge
  repeat' split
  all_goals simp

@[simp] theorem State.learnDischarged_cells (s : State) (ua uv : Int) :
    (s.learnDischarged ua uv).cache.cells = s.cache.cells := by
  unfold State.learnDischarged
  split <;> simp

@[simp] theorem State.learnRelaxed_cells (s : State) (uvPerS uv : Int) :
    (s.learnRelaxed uvPerS uv).cache.cells = s.cache.cells := by
  unfold State.learnRelaxed
  repeat' split
  all_goals simp

@[simp] theorem State.learnRecharged_cells (s : State) : s.learnRecharged.cache.cells = s.cache.cells := by
  unfold State.learnRecharged
  split <;> simp

@[simp] theorem State.learnGuard_cells (s : State) (uv : Option Int) :
    (s.learnGuard uv).cache.cells = s.cache.cells := by
  unfold State.learnGuard
  split <;> simp

@[simp] theorem State.learnReq_cells (s : State) (n : Nat) : (s.learnReq n).cache.cells = s.cache.cells :=
  by simp [State.learnReq]

@[simp] theorem State.faultOver_cells (s : State) (n : Nat) : (s.faultOver n).cache.cells = s.cache.cells :=
  by simp [State.faultOver]

@[simp] theorem State.lanFaultClr_cells (s : State) : s.lanFaultClr.cache.cells = s.cache.cells :=
  by simp [State.lanFaultClr]

@[simp] theorem State.learnAgain_cells (s : State) : s.learnAgain.cache.cells = s.cache.cells := by
  unfold State.learnAgain
  split <;> simp

@[simp] theorem State.lanCold_cells (s : State) (table : NMap (List Nat)) (profiles : NMap Profile) (hash : Nat) :
    (State.lanCold s table profiles hash).cache.cells = s.cache.cells := by
  unfold State.lanCold
  dsimp only
  rw [State.lanShow_cells]
  have h2 (f : Nat → Fld) (g : Nat → Nat) (t : State) :
      (ports8.foldl (fun u n => u.put (f n) (g n)) t).cache.cells = t.cache.cells :=
    cells_foldl (fun u n => State.put_cells u _ _) ports8 t
  split <;> simp only [State.put_cells, State.putB_cells, h2]

/-! ## Sys2Proof/Machine/UmbraOps.lean -/

@[simp] theorem State.umbRaise_cells (s : State) (f : Fld) : (s.umbRaise f).cache.cells = s.cache.cells :=
  by simp [State.umbRaise]

@[simp] theorem State.computeFill_cells (s : State) : s.computeFill.cache.cells = s.cache.cells := State.put_cells _ _ _

@[simp] theorem State.fillBucket_cells (s : State) : s.fillBucket.cache.cells = s.cache.cells :=
  by simp [State.fillBucket]

@[simp] theorem State.setStale_cells (s : State) (stale : Bool) : (s.setStale stale).cache.cells = s.cache.cells :=
  by simp [State.setStale]

@[simp] theorem State.coldCapCheck_cells (s : State) : s.coldCapCheck.cache.cells = s.cache.cells :=
  by simp [State.coldCapCheck]

theorem cells_withUmbPmr (t : State) (u : Umbra) (p : Pmr) : ({ t with umb := u, pmr := p } : State).cache.cells = t.cache.cells := rfl

@[simp] theorem State.publishHorizon_cells (s : State) (stale : Bool) :
    (State.publishHorizon s stale).cache.cells = s.cache.cells := by
  unfold State.publishHorizon
  extract_lets s0 e raw h3 h cl s1 s2 dfl s3 s4
  have h0 : s0.cache.cells = s.cache.cells := by simp [s0]
  clear_value s0
  have h1 : s1.cache.cells = s.cache.cells := by
    unfold s1
    rw [State.setStale_cells]
    split
    · exact h0
    · rw [State.ev_cells, h0]
  clear_value s1
  have h2 : s2.cache.cells = s.cache.cells := by simp only [s2, State.putR_cells, State.put_cells, h1]
  clear_value s2
  have h3 : s3.cache.cells = s.cache.cells := by simp only [s3, State.putB_cells, State.fallback_cells, h2]
  clear_value s3
  have h4 : s4.cache.cells = s.cache.cells := by simp only [s4, State.incWrap_cells, State.put_cells, h3]
  exact (cells_withUmbPmr s4 _ _).trans h4

@[simp] theorem State.deficitCheck_cells (s : State) : s.deficitCheck.cache.cells = s.cache.cells :=
  by simp [State.deficitCheck]

@[simp] theorem State.setSeepRate_cells (s : State) : s.setSeepRate.cache.cells = s.cache.cells :=
  by simp [State.setSeepRate]

@[simp] theorem State.topUp_cells (s : State) : s.topUp.cache.cells = s.cache.cells := by simp [State.topUp]

@[simp] theorem State.deficitExit_cells (s : State) : s.deficitExit.cache.cells = s.cache.cells :=
  by simp [State.deficitExit]

@[simp] theorem State.noteInflight_cells (s : State) (gs copies : List Nat) (serial : Nat) :
    (s.noteInflight gs copies serial).cache.cells = s.cache.cells := by simp [State.noteInflight]

@[simp] theorem memoryWf_readFor (s : State) (port : DPort) (gs : List Nat)
    (h : Memory.wf s.cache.cells = true) :
    Memory.wf (State.readFor s port gs).cache.cells = true :=
  memoryWf_foldl (fun t g ht => by split <;> simp [ht]) gs s h

@[simp] theorem memoryWf_rehearsalStripe (s : State) (h : Memory.wf s.cache.cells = true) :
    Memory.wf s.rehearsalStripe.cache.cells = true := by
  unfold State.rehearsalStripe
  dsimp only
  split <;> simp [h]

@[simp] theorem memoryWf_seepIssue (s : State) (h : Memory.wf s.cache.cells = true) :
    Memory.wf s.seepIssue.cache.cells = true := by
  unfold State.seepIssue
  dsimp only
  repeat' split
  all_goals simp [h]

@[simp] theorem State.seepProgrammed_cells (s : State) (serial pos : Nat) :
    (s.seepProgrammed serial pos).cache.cells = s.cache.cells := by
  unfold State.seepProgrammed
  split <;> simp

@[simp] theorem State.rehStart_cells (s : State) (software : Bool) :
    (s.rehStart software).cache.cells = s.cache.cells := by simp [State.rehStart]

@[simp] theorem State.rehRequest_cells (s : State) : s.rehRequest.1.cache.cells = s.cache.cells := by
  unfold State.rehRequest
  split <;> simp

@[simp] theorem State.rehAuto_cells (s : State) : s.rehAuto.cache.cells = s.cache.cells := by simp [State.rehAuto]

@[simp] theorem State.rehAnswer_cells (s : State) (accepted : Bool) :
    (s.rehAnswer accepted).cache.cells = s.cache.cells := by simp [State.rehAnswer]

@[simp] theorem State.rehClose_cells (s : State) (complete : Bool) :
    (s.rehClose complete).cache.cells = s.cache.cells := by
  unfold State.rehClose
  split <;> simp

@[simp] theorem State.rehSettle_cells (s : State) : s.rehSettle.cache.cells = s.cache.cells := by
  unfold State.rehSettle
  repeat' split
  all_goals simp

@[simp] theorem State.rehEnd_cells (s : State) (complete : Bool) :
    (s.rehEnd complete).cache.cells = s.cache.cells := by simp [State.rehEnd]

@[simp] theorem State.countWait_cells (s : State) : s.countWait.cache.cells = s.cache.cells := by simp [State.countWait]

@[simp] theorem State.rehAge_cells (s : State) : s.rehAge.cache.cells = s.cache.cells := by
  unfold State.rehAge
  split <;> simp

@[simp] theorem State.umbraUpdate_cells (s : State) (ageMs : Nat) (late : Bool) :
    (s.umbraUpdate ageMs late).cache.cells = s.cache.cells := by simp [State.umbraUpdate]

/-! ## Sys2Proof/Machine/StartOps.lean -/

@[simp] theorem State.commitNote_cells (s : State) (kind bank : Nat) (trial cold format : Bool) :
    (s.commitNote kind bank trial cold format).cache.cells = s.cache.cells := by simp [State.commitNote]

@[simp] theorem State.chooseBank_cells (s : State) : s.chooseBank.cache.cells = s.cache.cells := by
  unfold State.chooseBank
  split <;> simp

@[simp] theorem State.clearImg_cells (s : State) (p : Block → Bool) : (s.clearImg p).cache.cells = s.cache.cells :=
  by simp [State.clearImg]

@[simp] theorem State.loadImg_cells (s : State) (p : Block → Bool) (fields : NMap Nat) :
    (s.loadImg p fields).cache.cells = s.cache.cells := by
  have hput (t : State) (f : Fld) (v : Nat) : (if f.inBlocks p then t.put f v else t).cache.cells = t.cache.cells := by simp
  unfold State.loadImg
  extract_lets put s1 s2 s3
  have h1 : s1.cache.cells = s.cache.cells := (cells_foldl (fun t d => hput t _ _) _ _).trans (State.clearImg_cells s p)
  have h3 : s3.cache.cells = s1.cache.cells := by
    refine (cells_foldl (fun t e => ?_) fields s2).trans (hput _ _ _)
    split
    · split
      · exact hput _ _ _
      · rfl
    · rfl
  exact (hput _ _ _).trans ((hput _ _ _).trans (h3.trans h1))

@[simp] theorem State.loadRails_cells (s : State) : s.loadRails.cache.cells = s.cache.cells := by
  unfold State.loadRails
  dsimp only
  split
  · simp
  · simp
  · rw [State.put_cells, cells_foldl (fun t e => State.put_cells t _ _), State.loadImg_cells]

@[simp] theorem State.aonResume_cells (s : State) : s.aonResume.cache.cells = s.cache.cells := by simp [State.aonResume]

@[simp] theorem State.evrBegin_cells (s : State) (i : StartIn) (cold : Bool) :
    (s.evrBegin i cold).cache.cells = s.cache.cells := by simp [State.evrBegin]

@[simp] theorem State.norInfo_cells (s : State) (i : StartIn) : (s.norInfo i).cache.cells = s.cache.cells :=
  by simp [State.norInfo]

@[simp] theorem State.norCheck_cells (s : State) (i : StartIn) : (s.norCheck i).cache.cells = s.cache.cells :=
  by simp [State.norCheck]

@[simp] theorem memoryWf_norRefused (s : State) (h : Memory.wf s.cache.cells = true) :
    Memory.wf s.norRefused.cache.cells = true := by simp [State.norRefused, h]

@[simp] theorem State.startCommon_cells (s : State) (i : StartIn) (cold : Bool) :
    (s.startCommon i cold).cache.cells = s.cache.cells := by simp [State.startCommon]

@[simp] theorem State.imgTaken_cells (s : State) : s.imgTaken.cache.cells = s.cache.cells := by
  unfold State.imgTaken
  split <;> simp

@[simp] theorem memoryWf_startPower (s : State) (i : StartIn) (h : Memory.wf s.cache.cells = true) :
    Memory.wf (s.startPower i).cache.cells = true := by
  unfold State.startPower
  dsimp only
  repeat' split
  all_goals simp [h]

@[simp] theorem memoryWf_startWarm (s : State) (i : StartIn) (h : Memory.wf s.cache.cells = true) :
    Memory.wf (s.startWarm i).cache.cells = true := by
  unfold State.startWarm
  dsimp only
  repeat' split
  all_goals simp [h]

@[simp] theorem State.nextDomain_cells (s : State) : s.nextDomain.cache.cells = s.cache.cells := by
  unfold State.nextDomain
  split <;> simp

@[simp] theorem State.beginDomains_cells (s : State) : s.beginDomains.cache.cells = s.cache.cells :=
  by simp [State.beginDomains]

@[simp] theorem State.bootGroupReady_cells (s : State) : s.bootGroupReady.cache.cells = s.cache.cells :=
  by simp [State.bootGroupReady]

@[simp] theorem memoryWf_warmReset (s : State) (path : Nat)
    (h : Memory.wf s.cache.cells = true) :
    Memory.wf (State.warmReset s path).cache.cells = true := by
  unfold State.warmReset
  extract_lets s1 s2 s3 e0 e1 e2 e3 e4 e5 s4 s5 s6
  have h1 : Memory.wf s1.cache.cells = true := memoryWf_linksOff _ (by simp [h])
  have h2 : Memory.wf s2.cache.cells = true := by
    unfold s2
    exact memoryWf_foldl (f := fun t g => t.fetchDone g true) (fun t g ht => memoryWf_fetchDone t g true ht) _ s1 h1
  have h3 : Memory.wf s3.cache.cells = true := by
    simp only [s3, State.stagingLost_cells, State.restCut_cells, State.learnAgain_cells, State.cutRehearsal_cells]
    exact memoryWf_grottoPowerLoss s2 h2
  have h4 : Memory.wf s4.cache.cells = true := by
    dsimp only [s4]
    exact h3
  clear_value s4
  simp only [s6, s5, State.put_cells, State.setDom_cells, h4]

@[simp] theorem memoryWf_seqReady (s : State) (h : Memory.wf s.cache.cells = true) :
    Memory.wf s.seqReady.cache.cells = true := by
  unfold State.seqReady
  split <;> simp [h]

@[simp] theorem memoryWf_ctrlUp (s : State) (h : Memory.wf s.cache.cells = true) :
    Memory.wf s.ctrlUp.cache.cells = true := by
  unfold State.ctrlUp
  dsimp only
  repeat' split
  all_goals simp [h]

@[simp] theorem State.resetFabric_cells (s : State) : s.resetFabric.cache.cells = s.cache.cells :=
  by simp [State.resetFabric]

@[simp] theorem State.resetMedia_cells (s : State) : s.resetMedia.cache.cells = s.cache.cells :=
  by simp [State.resetMedia]

@[simp] theorem State.startValues_cells (s : State) : s.startValues.cache.cells = s.cache.cells :=
  by simp [State.startValues]

@[simp] theorem State.patch_cells (s : State) (ok : Bool) : (s.patch ok).1.cache.cells = s.cache.cells := by
  unfold State.patch
  dsimp only
  repeat' split
  all_goals simp

@[simp] theorem State.trainLeave_cells (s : State) (chs : List Nat) : (s.trainLeave chs).cache.cells = s.cache.cells :=
  cells_foldl (fun t _ => underLeave_cells t _ fun _ => rfl) chs s

@[simp] theorem State.dramStart_cells (s : State) (i : StartIn) : (s.dramStart i).1.cache.cells = s.cache.cells := by
  have hev (t : State) (c sev key : Nat) : (t.ev .dmc c sev key).cache.cells = t.cache.cells := State.ev_cells t _ _ _ _
  unfold State.dramStart
  extract_lets chs cold safe mis bad sets all low full s0 s1 s2 s3 s4 frozen s5 s6 s7 s8
  have h1 : s1.cache.cells = s.cache.cells := by
    simp only [s1, State.trainLeave_cells, s0]
    exact cells_foldl (fun t k => hev t _ _ _) _ s
  have h2 : s2.cache.cells = s1.cache.cells := by
    simp only [s2, cells_ite, cells_foldl (fun t c => hev t _ _ _), ite_self]
  have h4 : s4.cache.cells = s2.cache.cells := by
    simp only [s4, State.put_cells, s3]
    exact cells_foldl (fun t b => hev t _ _ _) _ s2
  have h8 : s8.cache.cells = s4.cache.cells := by
    simp only [s8, State.put_cells, s7, s6, s5, cells_ite, State.storeSet_cells, ite_self]
  split
  · exact h4.trans (h2.trans h1)
  · split
    · exact h4.trans (h2.trans h1)
    · simp only [cells_ite, State.clearCond_cells, State.setCond_cells, ite_self]
      exact h8.trans (h4.trans (h2.trans h1))

@[simp] theorem State.refuseLun_cells (s : State) (l : Lun) (lun : Nat) :
    (s.refuseLun l lun).cache.cells = s.cache.cells := by simp [State.refuseLun]

@[simp] theorem State.foundLun_cells (s : State) (geo : Option (List Nat)) (f : FoundLun) :
    (s.foundLun geo f).1.cache.cells = s.cache.cells := by
  unfold State.foundLun
  dsimp only
  repeat' split
  all_goals simp

@[simp] theorem State.testBlock_cells (s : State) (n : Nat) : (s.testBlock n).cache.cells = s.cache.cells := by
  unfold State.testBlock
  split <;> simp

@[simp] theorem State.lunTests_cells (s : State) (tested : List Nat) :
    (s.lunTests tested).cache.cells = s.cache.cells := by simp [State.lunTests]

@[simp] theorem State.chanFound_cells (s : State) (i : StartIn) (c : Nat) :
    (s.chanFound i c).cache.cells = s.cache.cells := by simp [State.chanFound]

theorem foldl_foundLun_cells (l : List FoundLun) (a : State × Option (List Nat)) :
    (l.foldl (fun acc f => acc.1.foundLun acc.2 f) a).1.cache.cells = a.1.cache.cells := by
  induction l generalizing a with
  | nil => rfl
  | cons x xs ih => exact (ih _).trans (State.foundLun_cells _ _ _)

@[simp] theorem State.discover_cells (s : State) (i : StartIn) : (State.discover s i).cache.cells = s.cache.cells := by
  unfold State.discover
  extract_lets found gone c0 s1 r g s2 s3
  have hr : r.1.cache.cells = s.cache.cells := foldl_foundLun_cells found _
  have h2 : s2.cache.cells = s.cache.cells := by
    unfold s2
    split <;> simp [hr]
  have h3 : s3.cache.cells = s.cache.cells := by
    unfold s3
    rw [cells_foldl (fun t c => State.chanFound_cells t i c), h2]
  exact (State.put_cells s3 _ _).trans h3

@[simp] theorem State.flashStart_cells (s : State) (i : StartIn) : (s.flashStart i).cache.cells = s.cache.cells :=
  by simp [State.flashStart]

@[simp] theorem State.scrubTable_cells (s : State) (i : StartIn) : (s.scrubTable i).cache.cells = s.cache.cells :=
  by simp [State.scrubTable]

@[simp] theorem memoryWf_unfreezeGran (s : State) (best : NMap Placed) (g : Nat)
    (h : Memory.wf s.cache.cells = true) :
    Memory.wf (State.unfreezeGran s best g).cache.cells = true := by
  unfold State.unfreezeGran
  extract_lets dirty v0 s1 loc c0
  have h1 : Memory.wf s1.cache.cells = true := by simp [s1, h]
  split
  · exact h1
  · split
    · simp [h1]
    · split_ifs <;> simp [h1, Memory.wf_clearCells]

@[simp] theorem memoryWf_unfreeze (s : State)
    (h : Memory.wf s.cache.cells = true) :
    Memory.wf (State.unfreeze s).cache.cells = true := by
  unfold State.unfreeze
  dsimp only
  exact memoryWf_foldl (fun t g ht => memoryWf_unfreezeGran t _ g ht) _ _ h

@[simp] theorem State.deepStates_cells (s : State) : s.deepStates.cache.cells = s.cache.cells :=
  by simp [State.deepStates]

@[simp] theorem State.openPmr_cells (s : State) : s.openPmr.cache.cells = s.cache.cells := by simp [State.openPmr]

@[simp] theorem memoryWf_openWarm (s : State) (i : StartIn) (h : Memory.wf s.cache.cells = true) :
    Memory.wf (s.openWarm i).cache.cells = true := by
  unfold State.openWarm
  dsimp only
  split <;> simp [h]

@[simp] theorem memoryWf_startRestore (s : State) (i : StartIn)
    (h : Memory.wf s.cache.cells = true) :
    Memory.wf (State.startRestore s i).cache.cells = true := by
  unfold State.startRestore
  extract_lets s1 lines src s2 s3 s4 src1 src2 src3 s5
  have h1 : s1.cache.cells = s.cache.cells := State.put_cells s _ _
  have h2 : s2.cache.cells = s.cache.cells := (cells_foldl (fun t n => State.console_cells t _) lines _).trans h1
  have h3 : Memory.wf s3.cache.cells = true := by unfold s3; split <;> simp [h2, h]
  have h5 : Memory.wf s5.cache.cells = true := memoryWf_init
  split
  · simp [h3]
  · split_ifs <;> simp [h5]

@[simp] theorem State.vaultPair_cells (s : State) : s.vaultPair.cache.cells = s.cache.cells := by
  unfold State.vaultPair
  split <;> simp

@[simp] theorem State.lanStart_cells (s : State) : (State.lanStart s).cache.cells = s.cache.cells := by
  unfold State.lanStart
  dsimp only
  split
  · have he (l : List Nat) (t : State) : (l.foldl (fun u n => u.ev .lan 0x0003 3 n) t).cache.cells = t.cache.cells :=
      cells_foldl (fun u n => State.ev_cells u _ _ _ _) l t
    have hp (f : Nat → Fld) (g : Nat → Nat) (t : State) :
        (ports8.foldl (fun u n => u.put (f n) (g n)) t).cache.cells = t.cache.cells :=
      cells_foldl (fun u n => State.put_cells u _ _) ports8 t
    split
    · rw [State.vaultPair_cells, State.lanCold_cells, he]
    · split
      · rw [State.lanShow_cells, hp]
        exact (State.put_cells _ Reg.LAN_STATUS_LOST 0).trans (he _ s)
      · rw [State.lanShow_cells, State.put_cells, cells_foldl State.faultOver_cells]
  · rfl

@[simp] theorem State.echoStart_cells (s : State) : s.echoStart.cache.cells = s.cache.cells := by simp [State.echoStart]

@[simp] theorem State.startBare_cells (s : State) : s.startBare.cache.cells = s.cache.cells := by simp [State.startBare]

@[simp] theorem memoryWf_startFinish (s : State) (i : StartIn) (h : Memory.wf s.cache.cells = true) :
    Memory.wf (s.startFinish i).cache.cells = true := by
  unfold State.startFinish
  dsimp only
  repeat' split
  all_goals simp [h]

@[simp] theorem memoryWf_startStepWith (s : State) (i : StartIn) (h : Memory.wf s.cache.cells = true) :
    Memory.wf (s.startStepWith i).cache.cells = true := by
  unfold State.startStepWith
  repeat' split
  all_goals simp [h]

/-! ## Sys2Proof/Machine/RailOps.lean -/

@[simp] theorem memoryWf_vaultOrDown (s : State) (cause : VaultCause) (h : Memory.wf s.cache.cells = true) :
    Memory.wf (s.vaultOrDown cause).cache.cells = true := by
  unfold State.vaultOrDown
  dsimp only
  split <;> simp [h]

@[simp] theorem State.button_cells (s : State) : s.button.cache.cells = s.cache.cells := by simp [State.button]

@[simp] theorem memoryWf_graceOver (s : State) (h : Memory.wf s.cache.cells = true) :
    Memory.wf s.graceOver.cache.cells = true := by
  unfold State.graceOver
  split <;> simp [h]

@[simp] theorem memoryWf_graceTurn (s : State) (h : Memory.wf s.cache.cells = true) :
    Memory.wf s.graceTurn.cache.cells = true := by
  unfold State.graceTurn
  split <;> simp [h]

@[simp] theorem memoryWf_enterGrace (s : State) (h : Memory.wf s.cache.cells = true) :
    Memory.wf s.enterGrace.cache.cells = true := by
  unfold State.enterGrace
  dsimp only
  split <;> simp [h]

@[simp] theorem memoryWf_latchUp (s : State) (why : DownWhy) (h : Memory.wf s.cache.cells = true) :
    Memory.wf (s.latchUp why).cache.cells = true := by
  unfold State.latchUp
  split <;> simp [h]

@[simp] theorem memoryWf_offRequest (s : State) (h : Memory.wf s.cache.cells = true) :
    Memory.wf s.offRequest.cache.cells = true := by
  unfold State.offRequest
  dsimp only
  repeat' split
  all_goals simp [h]

@[simp] theorem memoryWf_shortPress (s : State) (h : Memory.wf s.cache.cells = true) :
    Memory.wf s.shortPress.cache.cells = true := by
  unfold State.shortPress
  dsimp only
  repeat' split
  all_goals simp [h]

@[simp] theorem memoryWf_longPress (s : State) (h : Memory.wf s.cache.cells = true) :
    Memory.wf s.longPress.cache.cells = true := by
  unfold State.longPress
  dsimp only
  repeat' split
  all_goals simp [h]

@[simp] theorem memoryWf_cutPress (s : State) (h : Memory.wf s.cache.cells = true) :
    Memory.wf s.cutPress.cache.cells = true := by
  unfold State.cutPress
  split <;> simp [h]

@[simp] theorem State.wakePin_cells (s : State) : s.wakePin.cache.cells = s.cache.cells := by simp [State.wakePin]

@[simp] theorem memoryWf_mrst (s : State) (h : Memory.wf s.cache.cells = true) :
    Memory.wf s.mrst.cache.cells = true := by
  unfold State.mrst
  dsimp only
  repeat' split
  all_goals simp [h]

@[simp] theorem memoryWf_warmRst (s : State) (h : Memory.wf s.cache.cells = true) :
    Memory.wf s.warmRst.cache.cells = true := by
  unfold State.warmRst
  split <;> simp [h]

@[simp] theorem memoryWf_attemptFails (s : State) (h : Memory.wf s.cache.cells = true) :
    Memory.wf s.attemptFails.cache.cells = true := by
  unfold State.attemptFails
  split <;> simp [h]

@[simp] theorem memoryWf_groupReady (s : State) (h : Memory.wf s.cache.cells = true) :
    Memory.wf s.groupReady.cache.cells = true := by
  unfold State.groupReady
  split <;> simp [h]

@[simp] theorem State.latchFault_cells (s : State) (n act : Nat) :
    (s.latchFault n act).cache.cells = s.cache.cells := by simp [State.latchFault]

@[simp] theorem State.noteInScan_cells (s : State) (n : Nat) : (s.noteInScan n).cache.cells = s.cache.cells :=
  by simp [State.noteInScan]

@[simp] theorem State.firstFail_cells (s : State) (n kind code : Nat) :
    (s.firstFail n kind code).cache.cells = s.cache.cells := by simp [State.firstFail]

@[simp] theorem memoryWf_runFault (s : State) (n act : Nat) (h : Memory.wf s.cache.cells = true) :
    Memory.wf (s.runFault n act).cache.cells = true := by
  unfold State.runFault
  split <;> simp [h]

@[simp] theorem memoryWf_railFault (s : State) (n kind code : Nat) (h : Memory.wf s.cache.cells = true) :
    Memory.wf (s.railFault n kind code).cache.cells = true := by
  unfold State.railFault
  dsimp only
  repeat' split
  all_goals simp [h]

@[simp] theorem memoryWf_compareRail (s : State) (n code : Nat) (h : Memory.wf s.cache.cells = true) :
    Memory.wf (s.compareRail n code).cache.cells = true := by
  unfold State.compareRail
  dsimp only
  repeat' split
  all_goals simp [h]

@[simp] theorem memoryWf_seqProgress (s : State) (h : Memory.wf s.cache.cells = true) :
    Memory.wf s.seqProgress.cache.cells = true := by
  unfold State.seqProgress
  dsimp only
  split <;> simp [h]

@[simp] theorem memoryWf_railSample (s : State) (n code : Nat) (h : Memory.wf s.cache.cells = true) :
    Memory.wf (s.railSample n code).cache.cells = true := by
  unfold State.railSample
  dsimp only
  repeat' split
  all_goals simp [h]

@[simp] theorem State.missedReady_cells (s : State) (n : Nat) : (s.missedReady n).cache.cells = s.cache.cells :=
  by simp [State.missedReady]

@[simp] theorem memoryWf_readyTimeout (s : State) (h : Memory.wf s.cache.cells = true) :
    Memory.wf s.readyTimeout.cache.cells = true := by
  unfold State.readyTimeout
  dsimp only
  repeat' split
  all_goals simp [h]

@[simp] theorem memoryWf_delayUp (s : State) (h : Memory.wf s.cache.cells = true) :
    Memory.wf s.delayUp.cache.cells = true := by
  unfold State.delayUp
  dsimp only
  repeat' split
  all_goals simp [h]

@[simp] theorem State.offTimeout_cells (s : State) : s.offTimeout.cache.cells = s.cache.cells :=
  by simp [State.offTimeout]

@[simp] theorem memoryWf_delayDown (s : State) (h : Memory.wf s.cache.cells = true) :
    Memory.wf s.delayDown.cache.cells = true := by
  unfold State.delayDown
  dsimp only
  repeat' split
  all_goals simp [h]

@[simp] theorem State.retryOver_cells (s : State) : s.retryOver.cache.cells = s.cache.cells := by simp [State.retryOver]

@[simp] theorem State.faultClr_cells (s : State) : s.faultClr.cache.cells = s.cache.cells := by simp [State.faultClr]

@[simp] theorem memoryWf_norRelease (s : State) (h : Memory.wf s.cache.cells = true) :
    Memory.wf s.norRelease.cache.cells = true := by
  unfold State.norRelease
  dsimp only
  repeat' split
  all_goals simp [h]

@[simp] theorem memoryWf_ffWrite (s : State) (h : Memory.wf s.cache.cells = true) :
    Memory.wf s.ffWrite.cache.cells = true := by
  unfold State.ffWrite
  repeat' split
  all_goals simp [h]

/-! ## Sys2Proof/Machine/ReturnOps.lean -/

@[simp] theorem State.tripNoted_cells (s : State) : s.tripNoted.cache.cells = s.cache.cells := by simp [State.tripNoted]

@[simp] theorem memoryWf_tripInVault (s : State) (h : Memory.wf s.cache.cells = true) :
    Memory.wf s.tripInVault.cache.cells = true := by
  unfold State.tripInVault
  dsimp only
  repeat' split
  all_goals simp [h]

@[simp] theorem memoryWf_powerTrip (s : State)
    (h : Memory.wf s.cache.cells = true) :
    Memory.wf (State.powerTrip s).cache.cells = true := by
  unfold State.powerTrip
  split
  · exact h
  · extract_lets v0 r0 s0 st
    have h0 : Memory.wf s0.cache.cells = true := h
    clear_value s0
    split
    · split <;> simp [h0]
    · split
      · simp [h0]
      · split
        · exact memoryWf_downFinish _ ((congrArg Memory.wf (State.tripNoted_cells s0)).trans h0)
        · split_ifs <;> simp [h0]

@[simp] theorem State.inputReturned_cells (s : State) : s.inputReturned.cache.cells = s.cache.cells :=
  by simp [State.inputReturned]

@[simp] theorem State.poisonStripes_cells (n : Nat) (rs : List PRange) (s : State) :
    (State.poisonStripes n rs s).cache.cells = s.cache.cells := by
  induction n generalizing rs s with
  | zero => rfl
  | succ n ih =>
    unfold State.poisonStripes
    dsimp only
    split
    · rfl
    · split <;> simp [ih]

@[simp] theorem State.formatVault_cells (s : State) : s.formatVault.cache.cells = s.cache.cells :=
  by simp [State.formatVault]

@[simp] theorem State.openDone_cells (s : State) (kind : Nat) (o : OpenRecord) (ms : Nat) :
    (s.openDone kind o ms).cache.cells = s.cache.cells := by
  unfold State.openDone
  dsimp only
  repeat' split
  all_goals simp

@[simp] theorem State.openReady_cells (s : State) (kind : Nat) (worn : List Nat) :
    (s.openReady kind worn).cache.cells = s.cache.cells := by simp [State.openReady]

@[simp] theorem State.recFailed_cells (s : State) (y : Nat × Nat) : (s.recFailed y).cache.cells = s.cache.cells :=
  by simp [State.recFailed]

@[simp] theorem memoryWf_openRecord (s : State) (fails worn : List Nat) (ms : Nat)
    (h : Memory.wf s.cache.cells = true) :
    Memory.wf (s.openRecord fails worn ms).cache.cells = true := by
  unfold State.openRecord
  dsimp only
  repeat' split
  all_goals simp [h]

@[simp] theorem memoryWf_latchedReset (s : State) (v : Vault) (h : Memory.wf s.cache.cells = true) :
    Memory.wf (s.latchedReset v).cache.cells = true := by
  unfold State.latchedReset
  repeat' split
  all_goals simp [h]

@[simp] theorem memoryWf_vaultDown (s : State) (v : Vault) (h : Memory.wf s.cache.cells = true) :
    Memory.wf (s.vaultDown v).cache.cells = true := by simp [State.vaultDown, h]

@[simp] theorem memoryWf_vaultRelease (s : State) (h : Memory.wf s.cache.cells = true) :
    Memory.wf s.vaultRelease.cache.cells = true := by
  unfold State.vaultRelease
  repeat' split
  all_goals simp [h]

@[simp] theorem State.postVault_cells (s : State) : s.postVault.cache.cells = s.cache.cells := by simp [State.postVault]

@[simp] theorem memoryWf_cleanVault (s : State) (h : Memory.wf s.cache.cells = true) :
    Memory.wf s.cleanVault.cache.cells = true := by simp [State.cleanVault, h]

theorem memoryWf_sealDone (s : State) (fails : List Nat) (us : Nat) (begin_ : State → State)
    (hk : ∀ t : State, Memory.wf t.cache.cells = true → Memory.wf (begin_ t).cache.cells = true) (h : Memory.wf s.cache.cells = true) :
    Memory.wf (s.sealDone fails us begin_).cache.cells = true := by
  unfold State.sealDone
  extract_lets s1 s2
  have h1 : Memory.wf s1.cache.cells = true := (congrArg Memory.wf (State.sealRound_cells s fails us)).trans h
  have h2 : Memory.wf s2.cache.cells = true := by simp [s2, h1]
  split
  · split
    · split
      · exact hk _ h2
      · exact h2
    · exact h1
  · exact h1

/-! ## Sys2Proof/Machine/PowerOps.lean -/

@[simp] theorem State.beginHandshake_cells (s : State) (target : Nat) :
    (s.beginHandshake target).cache.cells = s.cache.cells := by simp [State.beginHandshake]

@[simp] theorem State.refuse_cells (s : State) (d : Domain) (reason : Nat) :
    (s.refuse d reason).cache.cells = s.cache.cells := by simp [State.refuse]

@[simp] theorem State.selfRefresh_cells (s : State) : s.selfRefresh.cache.cells = s.cache.cells :=
  by simp [State.selfRefresh]

@[simp] theorem State.commitSleep_cells (s : State) : s.commitSleep.cache.cells = s.cache.cells :=
  by simp [State.commitSleep]

@[simp] theorem memoryWf_commitDeep (s : State) (h : Memory.wf s.cache.cells = true) :
    Memory.wf s.commitDeep.cache.cells = true := by simp [State.commitDeep, h]

@[simp] theorem memoryWf_vote (s : State) (busy : Bool) (h : Memory.wf s.cache.cells = true) :
    Memory.wf (s.vote busy).cache.cells = true := by
  unfold State.vote
  dsimp only
  repeat' split
  all_goals simp [h]

@[simp] theorem State.sleepRequest_cells (s : State) : s.sleepRequest.cache.cells = s.cache.cells :=
  by simp [State.sleepRequest]

@[simp] theorem State.deepBegin_cells (s : State) : s.deepBegin.cache.cells = s.cache.cells := by simp [State.deepBegin]

@[simp] theorem State.deepRequest_cells (s : State) : s.deepRequest.cache.cells = s.cache.cells :=
  by simp [State.deepRequest]

@[simp] theorem State.retryRequest_cells (s : State) : s.retryRequest.cache.cells = s.cache.cells := by
  unfold State.retryRequest
  dsimp only
  repeat' split
  all_goals simp

@[simp] theorem State.cancelRequest_cells (s : State) : s.cancelRequest.cache.cells = s.cache.cells :=
  by simp [State.cancelRequest]

@[simp] theorem State.sleepExit_cells (s : State) : s.sleepExit.cache.cells = s.cache.cells := by simp [State.sleepExit]

@[simp] theorem memoryWf_domainReady (s : State) (h : Memory.wf s.cache.cells = true) :
    Memory.wf s.domainReady.cache.cells = true := by
  unfold State.domainReady
  dsimp only
  repeat' split
  all_goals simp [h]

@[simp] theorem State.domainHeld_cells (s : State) (d : Domain) : (s.domainHeld d).cache.cells = s.cache.cells :=
  by simp [State.domainHeld]

@[simp] theorem memoryWf_domainMissed (s : State) (d : Domain) (h : Memory.wf s.cache.cells = true) :
    Memory.wf (s.domainMissed d).cache.cells = true := by
  unfold State.domainMissed
  dsimp only
  repeat' split
  all_goals simp [h]

@[simp] theorem memoryWf_aonReset (s : State) (h : Memory.wf s.cache.cells = true) :
    Memory.wf s.aonReset.cache.cells = true := by simp [State.aonReset, h]

/-! ## Sys2Proof/Machine/ClockOps.lean -/

@[simp] theorem State.clockFault_cells (s : State) : s.clockFault.cache.cells = s.cache.cells :=
  by simp [State.clockFault]

@[simp] theorem State.clockWindow_cells (s : State) (count : Nat) :
    (s.clockWindow count).cache.cells = s.cache.cells := by
  unfold State.clockWindow
  dsimp only
  repeat' split
  all_goals simp

@[simp] theorem memoryWf_relocked (s : State) (margins : List (Nat × Nat))
    (h : Memory.wf s.cache.cells = true) :
    Memory.wf (State.relocked s margins).cache.cells = true := by
  unfold State.relocked
  extract_lets low e0 s1 s2 s3
  have h2 : Memory.wf s2.cache.cells = true := by simp only [s2, s1, State.incSat_cells, State.put_cells, h]
  have h3 : Memory.wf s3.cache.cells = true :=
    memoryWf_foldl (fun t c ht => memoryWf_underLeave t _ _ (fun u hu => by split <;> simp [hu]) ht) _ s2 h2
  split <;> simp [h3]

@[simp] theorem memoryWf_clockHold (s : State) (h : Memory.wf s.cache.cells = true) :
    Memory.wf s.clockHold.cache.cells = true := by simp [State.clockHold, h]

/-! ## Sys2Proof/Machine/RegActs.lean -/

theorem onBit_cells (s : State) (f : Fld) (w : Nat) {k : State → State} (h : ∀ t : State, (k t).cache.cells = t.cache.cells) :
    (s.onBit f w k).cache.cells = s.cache.cells := by
  simp [State.onBit, h]

theorem memoryWf_onBit (s : State) (f : Fld) (w : Nat) (k : State → State)
    (hk : ∀ t : State, Memory.wf t.cache.cells = true → Memory.wf (k t).cache.cells = true) (h : Memory.wf s.cache.cells = true) :
    Memory.wf (s.onBit f w k).cache.cells = true := by
  unfold State.onBit
  split
  · exact hk s h
  · exact h

@[simp] theorem memoryWf_leaveSafe (s : State) (h : Memory.wf s.cache.cells = true) :
    Memory.wf s.leaveSafe.cache.cells = true := by
  unfold State.leaveSafe
  split <;> simp [h]

@[simp] theorem memoryWf_safeClr (s : State) (h : Memory.wf s.cache.cells = true) :
    Memory.wf s.safeClr.cache.cells = true := by
  unfold State.safeClr
  split <;> simp [h]

@[simp] theorem State.provWord_cells (s : State) (w : Nat) : (s.provWord w).cache.cells = s.cache.cells :=
  by simp [State.provWord]

@[simp] theorem State.burn_cells (s : State) : s.burn.cache.cells = s.cache.cells := by simp [State.burn]

@[simp] theorem memoryWf_actSys (s : State) (o w : Nat)
    (h : Memory.wf s.cache.cells = true) :
    Memory.wf (State.actSys s o w).cache.cells = true := by
  unfold State.actSys
  split
  · exact memoryWf_onBit _ _ w _ memoryWf_warmRst (memoryWf_onBit s _ w _ memoryWf_safeClr h)
  · split
    · exact memoryWf_onBit s _ w _ (fun t ht => by simp [ht]) h
    · split <;> simp [h]

@[simp] theorem State.monClr_cells (s : State) : s.monClr.cache.cells = s.cache.cells := by simp [State.monClr]

@[simp] theorem State.pwrCntClr_cells (s : State) : s.pwrCntClr.cache.cells = s.cache.cells :=
  cells_clearRows (fun r => r.off = 0x12001C ∨ r.off = 0x120020 ∨ r.off = 0x120024) _ s

@[simp] theorem State.actPwr_cells (s : State) (o w : Nat) : (s.actPwr o w).cache.cells = s.cache.cells := by
  simp [State.actPwr, onBit_cells]

@[simp] theorem memoryWf_actSup (s : State) (o w : Nat)
    (h : Memory.wf s.cache.cells = true) :
    Memory.wf (State.actSup s o w).cache.cells = true := by
  unfold State.actSup
  split
  · refine memoryWf_onBit _ _ w _ memoryWf_offRequest (memoryWf_onBit _ _ w _ (fun t ht => ?_) (memoryWf_onBit s _ w _ (fun t ht => ?_) h))
    · rw [State.faultClr_cells, ht]
    · rw [State.put_cells, ht]
  · exact h

@[simp] theorem State.actLan_cells (s : State) (o w : Nat) : (s.actLan o w).cache.cells = s.cache.cells := by
  simp [State.actLan, onBit_cells]

@[simp] theorem State.holdEvent_cells (s : State) (b : Block) (f : Fld) (ow w : Nat) :
    (s.holdEvent b f ow w).cache.cells = s.cache.cells := by simp [State.holdEvent]

@[simp] theorem State.vltStatClr_cells (s : State) : s.vltStatClr.cache.cells = s.cache.cells :=
  cells_clearRows (fun r => r.off = 0x160038 ∨ r.off = 0x16003C) _ s

@[simp] theorem State.formatNow_cells (s : State) : s.formatNow.cache.cells = s.cache.cells := by simp [State.formatNow]

@[simp] theorem State.grtFormat_cells (s : State) : s.grtFormat.cache.cells = s.cache.cells := by simp [State.grtFormat]

@[simp] theorem State.actData_cells (s : State) (o ow w : Nat) : (s.actData o ow w).cache.cells = s.cache.cells := by
  simp [State.actData, onBit_cells]

@[simp] theorem State.retrainGo_cells (s : State) (env : Option Bool) :
    (s.retrainGo env).cache.cells = s.cache.cells := by
  unfold State.retrainGo
  split <;> simp

@[simp] theorem State.flcCntClr_cells (s : State) : s.flcCntClr.cache.cells = s.cache.cells :=
  cells_clearRows (fun r => 0x180040 ≤ r.off ∧ r.off ≤ 0x180058) _ s

@[simp] theorem State.ecLoad_cells (s : State) : s.ecLoad.cache.cells = s.cache.cells := by simp [State.ecLoad]

@[simp] theorem State.actMem_cells (s : State) (o w : Nat) (env : Option Bool) :
    (s.actMem o w env).cache.cells = s.cache.cells := by
  simp [State.actMem, onBit_cells]

@[simp] theorem State.echCntClr_cells (s : State) : s.echCntClr.cache.cells = s.cache.cells :=
  cells_clearRows (fun r => 0x1A0044 ≤ r.off ∧ r.off ≤ 0x1A004C) _ s

@[simp] theorem State.evrCntClr_cells (s : State) : s.evrCntClr.cache.cells = s.cache.cells := by simp [State.evrCntClr]

@[simp] theorem State.kick_cells (s : State) (key : Nat) : (s.kick key).cache.cells = s.cache.cells :=
  by simp [State.kick]

@[simp] theorem State.wdtEn_cells (s : State) (ow : Nat) : (s.wdtEn ow).cache.cells = s.cache.cells :=
  by simp [State.wdtEn]

@[simp] theorem memoryWf_actRest (s : State) (o ow w : Nat)
    (h : Memory.wf s.cache.cells = true) :
    Memory.wf (State.actRest s o ow w).cache.cells = true := by
  unfold State.actRest
  split
  · refine memoryWf_onBit _ _ w _ (fun t ht => ?_) (memoryWf_onBit _ _ w _ (fun t ht => ?_) (memoryWf_onBit s _ w _ (fun t ht => ?_) h))
    · split <;> simp [ht]
    · split <;> simp [ht]
    · simp [ht]
  · split
    · refine memoryWf_onBit _ _ w _ (fun t ht => ?_) (memoryWf_onBit _ _ w _ (fun t ht => ?_) (memoryWf_onBit s _ w _ (fun t ht => ?_) h))
      · simp [ht]
      · split <;> simp [ht]
      · simp [ht]
    · split_ifs <;> simp [h]

@[simp] theorem memoryWf_regAct (s : State) (b : Block) (o ow w : Nat) (env : Option Bool)
    (h : Memory.wf s.cache.cells = true) :
    Memory.wf (s.regAct b o ow w env).cache.cells = true := by
  unfold State.regAct
  split <;> simp [h]

/-! ## Sys2Proof/Machine/RegAccess.lean -/

@[simp] theorem State.setRegPort_cells (s : State) (r : Requester) (v : RegPort) :
    (s.setRegPort r v).cache.cells = s.cache.cells := by simp [State.setRegPort]

@[simp] theorem State.noteAccess_cells (s : State) (r : Requester) (base : Nat) :
    (s.noteAccess r base).cache.cells = s.cache.cells := by simp [State.noteAccess]

@[simp] theorem State.accEvent_cells (s : State) (src code sev o w : Nat) (r : Requester) :
    (s.accEvent src code sev o w r).cache.cells = s.cache.cells := by simp [State.accEvent]

@[simp] theorem State.offAccess_cells (s : State) (r : Requester) (d : Domain) (o : Nat) :
    (s.offAccess r d o).cache.cells = s.cache.cells := by simp [State.offAccess]

@[simp] theorem State.wakeDomain_cells (s : State) (d : Domain) : (s.wakeDomain d).cache.cells = s.cache.cells :=
  by simp [State.wakeDomain]

@[simp] theorem State.fldWrite_cells (s : State) (w : Nat) (f : Fld) :
    (s.fldWrite w f).cache.cells = s.cache.cells := by
  unfold State.fldWrite
  split <;> simp

@[simp] theorem memoryWf_rowWrite (s : State) (r : Requester) (b : Block) (row : RegRow) (w : Nat) (env : Option Bool)
    (h : Memory.wf s.cache.cells = true) :
    Memory.wf (s.rowWrite r b row w env).cache.cells = true := by simp [State.rowWrite, h]

theorem memoryWf_strayWrite (s : State) (src o w : Nat) (r : Requester) (k : State → State)
    (hk : ∀ t : State, Memory.wf t.cache.cells = true → Memory.wf (k t).cache.cells = true) (h : Memory.wf s.cache.cells = true) :
    Memory.wf (s.strayWrite src o w r k).cache.cells = true := by
  have hb : Memory.wf ((s.accEvent src 0x3002 4 o w r).fresh 1).2.cache.cells = true := by
    rw [State.fresh_cells, State.accEvent_cells, h]
  unfold State.strayWrite
  dsimp only
  split
  · exact hk _ hb
  · exact hb

@[simp] theorem memoryWf_fullWrite (s : State) (r : Requester) (b : Block) (row : RegRow) (o w : Nat) (env : Option Bool)
    (h : Memory.wf s.cache.cells = true) :
    Memory.wf (State.fullWrite s r b row o w env).cache.cells = true := by
  unfold State.fullWrite
  split
  · exact memoryWf_strayWrite s _ o w r _ (fun t ht => memoryWf_rowWrite t r b row w env ht) h
  · exact memoryWf_rowWrite s r b row w env h

@[simp] theorem State.readDword_cells (s : State) (r : Requester) (o : Nat) :
    (s.readDword r o).1.cache.cells = s.cache.cells := by
  unfold State.readDword
  repeat' split
  all_goals simp

@[simp] theorem memoryWf_writeDword (s : State) (r : Requester) (b : Block) (o w : Nat) (env : Option Bool)
    (h : Memory.wf s.cache.cells = true) :
    Memory.wf (s.writeDword r b o w env).cache.cells = true := by
  unfold State.writeDword
  repeat' split
  all_goals simp [h]

@[simp] theorem State.regRead_cells (s : State) (r : Requester) (o : Nat) :
    (State.regRead s r o).st.cache.cells = s.cache.cells := by
  unfold State.regRead
  split
  · rfl
  · split
    · exact (State.readDword_cells _ r o).trans (State.wakeDomain_cells s _)
    · exact (State.offAccess_cells _ r _ o).trans (State.noteAccess_cells s r o)

@[simp] theorem State.noteConsole_cells (s : State) (r : Requester) (b : Block) (o w : Nat) :
    (s.noteConsole r b o w).cache.cells = s.cache.cells := by simp [State.noteConsole]

@[simp] theorem memoryWf_regWriteEnv (s : State) (r : Requester) (o w : Nat) (env : Option Bool)
    (h : Memory.wf s.cache.cells = true) :
    Memory.wf (State.regWriteEnv s r o w env).st.cache.cells = true := by
  unfold State.regWriteEnv
  split
  · exact h
  · split
    · simp [h]
    · split
      · simp [h]
      · refine memoryWf_writeDword _ r _ o w env ?_
        rw [State.noteConsole_cells, State.wakeDomain_cells, h]

@[simp] theorem memoryWf_regWrite (s : State) (r : Requester) (o w : Nat) (h : Memory.wf s.cache.cells = true) :
    Memory.wf (s.regWrite r o w).st.cache.cells = true := by simp [State.regWrite, h]

@[simp] theorem State.regRead2_cells (s : State) (r : Requester) (o : Nat) :
    (s.regRead2 r o).st.cache.cells = s.cache.cells := by
  unfold State.regRead2
  dsimp only
  repeat' split
  all_goals simp

@[simp] theorem memoryWf_regWrite2 (s : State) (r : Requester) (o w : Nat) (h : Memory.wf s.cache.cells = true) :
    Memory.wf (s.regWrite2 r o w).st.cache.cells = true := by
  unfold State.regWrite2
  dsimp only
  split <;> simp [h]

@[simp] theorem State.arrive_cells (s : State) (r : Requester) : (s.arrive r).cache.cells = s.cache.cells :=
  by simp [State.arrive]

theorem memoryWf_windowPut (s : State) (r : Requester) (c : Instr) (k : State → State)
    (hk : ∀ t : State, Memory.wf t.cache.cells = true → Memory.wf (k t).cache.cells = true) (h : Memory.wf s.cache.cells = true) :
    Memory.wf (s.windowPut r c k).cache.cells = true := by
  unfold State.windowPut
  split
  · split
    · exact memoryWf_orHold _ c h (fun t ht => hk _ (by rw [State.arrive_cells]; exact ht))
    · exact hk s h
  · exact h

@[simp] theorem memoryWf_dwordPut (s : State) (r : Requester) (o w : Nat)
    (h : Memory.wf s.cache.cells = true) :
    Memory.wf (State.dwordPut s r o w).cache.cells = true :=
  memoryWf_windowPut s r _ _ (fun t ht => memoryWf_regWrite t r o w ht) h

@[simp] theorem memoryWf_bitWrite (s : State) (r : Requester) (o : Nat) (f : Fld) (w : Word)
    (h : Memory.wf s.cache.cells = true) :
    Memory.wf (s.bitWrite r o f w).cache.cells = true := by simp [State.bitWrite, h]

@[simp] theorem memoryWf_wordWrite (s : State) (r : Requester) (o : Nat) (w : Word)
    (h : Memory.wf s.cache.cells = true) :
    Memory.wf (s.wordWrite r o w).cache.cells = true := by simp [State.wordWrite, h]

/-! ## Sys2Proof/Machine/AdminOps.lean -/

@[simp] theorem State.defer_cells (s : State) (c : Instr) (req : AdminReq) (id : CmdId) :
    (s.defer c req id).cache.cells = s.cache.cells := by simp [State.defer]

@[simp] theorem State.bareRefuse_cells (s : State) (kind : AdmKind) (req : AdminReq) (id : CmdId) :
    (s.bareRefuse kind req id).cache.cells = s.cache.cells := by simp [State.bareRefuse]

theorem memoryWf_adminTake (s : State) (c : Instr) (req : AdminReq) (id : CmdId) (kind : AdmKind) (bare : Bool) (k : State → State)
    (hk : ∀ t : State, Memory.wf t.cache.cells = true → Memory.wf (k t).cache.cells = true) (h : Memory.wf s.cache.cells = true) :
    Memory.wf (s.adminTake c req id kind bare k).cache.cells = true := by
  have hks := hk s h
  unfold State.adminTake
  split_ifs <;> simp [h, hks]

theorem memoryWf_admin (s : State) (c : Instr) (req : AdminReq) (id : CmdId) (kind : AdmKind) (bare : Bool) (k : State → State)
    (hk : ∀ t : State, Memory.wf t.cache.cells = true → Memory.wf (k t).cache.cells = true) (h : Memory.wf s.cache.cells = true) :
    Memory.wf (s.admin c req id kind bare k).cache.cells = true := by
  have ht (n : Nat) : Memory.wf ((s.touch n).adminTake c req id kind bare k).cache.cells = true :=
    memoryWf_adminTake _ c req id kind bare k hk (by simp [h])
  unfold State.admin
  split
  · split_ifs <;> simp [h, ht]
  · split_ifs <;> simp [h, ht]

theorem memoryWf_pairAction (s : State) (req : AdminReq) (id : CmdId) (may : Bool) (k : State → State)
    (hk : ∀ t : State, Memory.wf t.cache.cells = true → Memory.wf (k t).cache.cells = true) (h : Memory.wf s.cache.cells = true) :
    Memory.wf (s.pairAction req id may k).cache.cells = true := by
  unfold State.pairAction
  split_ifs <;> simp [h, hk s h]

@[simp] theorem State.stageBegin_cells (s : State) (req : AdminReq) :
    (s.stageBegin req).cache.cells = s.cache.cells := by simp [State.stageBegin]

@[simp] theorem State.stageChunk_cells (s : State) (req : AdminReq) (id : CmdId) (data : List Byte) (last : Bool) :
    (s.stageChunk req id data last).cache.cells = s.cache.cells := by
  unfold State.stageChunk
  split <;> simp

@[simp] theorem State.stage_cells (s : State) (req : AdminReq) (id : CmdId) (ofst : Nat) (data : List Byte)
    (last : Bool) :
    (s.stage req id ofst data last).cache.cells = s.cache.cells := by
  unfold State.stage
  repeat' split
  all_goals simp

@[simp] theorem State.stageAnswer_cells (s : State) (st : NStat) : (s.stageAnswer st).cache.cells = s.cache.cells :=
  by simp [State.stageAnswer]

@[simp] theorem State.verifyDone_cells (s : State) (found : Nat) (i : Image) :
    (s.verifyDone found i).cache.cells = s.cache.cells := by
  unfold State.verifyDone
  split <;> simp

@[simp] theorem State.commitSteps_cells (s : State) (req : AdminReq) (id : CmdId) (cold format : Bool) :
    (s.commitSteps req id cold format).cache.cells = s.cache.cells := by simp [State.commitSteps]

@[simp] theorem memoryWf_commit (s : State) (req : AdminReq) (id : CmdId) (cold format : Bool)
    (h : Memory.wf s.cache.cells = true) :
    Memory.wf (s.commit req id cold format).cache.cells = true := by
  unfold State.commit
  dsimp only
  repeat' split
  all_goals simp [h]

@[simp] theorem memoryWf_commitStaged (s : State) (req : AdminReq) (id : CmdId) (cold format : Bool)
    (h : Memory.wf s.cache.cells = true) :
    Memory.wf (s.commitStaged req id cold format).cache.cells = true := by
  unfold State.commitStaged
  dsimp only
  repeat' split
  all_goals simp [h]

@[simp] theorem memoryWf_commitOther (s : State) (req : AdminReq) (id : CmdId) (h : Memory.wf s.cache.cells = true) :
    Memory.wf (s.commitOther req id).cache.cells = true := by
  unfold State.commitOther
  repeat' split
  all_goals simp [h]

@[simp] theorem State.stageAbort_cells (s : State) (req : AdminReq) (id : CmdId) :
    (s.stageAbort req id).cache.cells = s.cache.cells := by simp [State.stageAbort]

@[simp] theorem State.rehCommand_cells (s : State) (req : AdminReq) (id : CmdId) :
    (s.rehCommand req id).cache.cells = s.cache.cells := by simp [State.rehCommand]

@[simp] theorem State.learnCommand_cells (s : State) (req : AdminReq) (id : CmdId) (port : Nat) (cancel : Bool) :
    (s.learnCommand req id port cancel).cache.cells = s.cache.cells := by simp [State.learnCommand]

@[simp] theorem memoryWf_regAccess (s : State) (req : AdminReq) (id : CmdId) (off : Nat) (w : Option Nat)
    (h : Memory.wf s.cache.cells = true) :
    Memory.wf (s.regAccess req id off w).cache.cells = true := by
  unfold State.regAccess
  repeat' split
  all_goals simp [h]

/-! ## Sys2Proof/Machine/LogPages.lean -/

@[simp] theorem State.codePage_cells (s : State) : s.codePage.1.cache.cells = s.cache.cells :=
  foldl_keeps (fun r : State × List Byte => r.1.cache.cells) (fun _ _ => rfl) codeList (s, [])

@[simp] theorem State.eventPage_cells (s : State) (r : Requester) (lsp off len : Nat) :
    (s.eventPage r lsp off len).1.cache.cells = s.cache.cells := by
  unfold State.eventPage
  dsimp only
  repeat' split
  all_goals simp

@[simp] theorem State.snapPage_cells (s : State) (r : Requester) (key off len : Nat) (page : List Byte) :
    (s.snapPage r key off len page).1.cache.cells = s.cache.cells := by
  unfold State.snapPage
  dsimp only
  repeat' split
  all_goals simp

@[simp] theorem State.logPage_cells (s : State) (req : AdminReq) (lid lsp off len : Nat) :
    (State.logPage s req lid lsp off len).1.cache.cells = s.cache.cells := by
  unfold State.logPage
  extract_lets r ok two bare
  have htwo (x : State × List Byte) (hx : x.1.cache.cells = s.cache.cells) : (two x).1.cache.cells = s.cache.cells := hx
  have hok (b : List Byte) : (ok b).1.cache.cells = s.cache.cells := rfl
  have hsnap (key : Nat) (b : List Byte) : (two (s.snapPage r key off len b)).1.cache.cells = s.cache.cells :=
    htwo _ (State.snapPage_cells s r key off len b)
  have hevent : (two (s.eventPage r lsp off len)).1.cache.cells = s.cache.cells := htwo _ (State.eventPage_cells s r lsp off len)
  have rule {c : Prop} [Decidable c] {a b : State × Except NStat (List Byte)} (ha : a.1.cache.cells = s.cache.cells)
      (hb : b.1.cache.cells = s.cache.cells) : (if c then a else b).1.cache.cells = s.cache.cells := by
    split
    · exact ha
    · exact hb
  clear_value two ok bare
  exact rule rfl <| rule rfl <| rule (hok _) <| rule (hok _) <| rule (hok _) <| rule (hok _) <| rule (hsnap _ _) <|
    rule (hsnap _ _) <| rule (rule rfl hevent) <| rule (rule rfl (hsnap _ _)) <| rule (hsnap _ _) rfl

@[simp] theorem State.logRead_cells (s : State) (req : AdminReq) (lid off : Nat) (rae : Bool) :
    (s.logRead req lid off rae).cache.cells = s.cache.cells := by
  unfold State.logRead
  repeat' split
  all_goals simp

@[simp] theorem State.getLog_cells (s : State) (req : AdminReq) (id : CmdId) (lid lsp off len : Nat) (rae : Bool) :
    (s.getLog req id lid lsp off len rae).cache.cells = s.cache.cells := by
  unfold State.getLog
  dsimp only
  repeat' split
  all_goals simp

/-! ## Sys2Proof/Machine/NvmeOps.lean -/

@[simp] theorem State.pumpSq_cells (s : State) (p : Port) (qid : Nat) :
    (s.pumpSq p qid).cache.cells = s.cache.cells := by
  unfold State.pumpSq
  dsimp only
  repeat' split
  all_goals simp

@[simp] theorem State.pumpSqs_cells (s : State) (p : Port) : (s.pumpSqs p).cache.cells = s.cache.cells :=
  by simp [State.pumpSqs]

@[simp] theorem State.sqDoorbell_cells (s : State) (p : Port) (qid tail : Nat) :
    (s.sqDoorbell p qid tail).cache.cells = s.cache.cells := by
  unfold State.sqDoorbell
  dsimp only
  repeat' split
  all_goals simp

@[simp] theorem State.cqDoorbell_cells (s : State) (p : Port) (qid head : Nat) :
    (s.cqDoorbell p qid head).cache.cells = s.cache.cells := by
  unfold State.cqDoorbell
  dsimp only
  repeat' split
  all_goals simp

@[simp] theorem State.entryDone_cells (s : State) (p : Port) (qid slot : Nat) :
    (s.entryDone p qid slot).cache.cells = s.cache.cells := by simp [State.entryDone]

@[simp] theorem State.entryArrives_cells (s : State) (p : Port) (qid slot : Nat) (id : CmdId) (op prp len : Nat) :
    (s.entryArrives p qid slot id op prp len).cache.cells = s.cache.cells := by simp [State.entryArrives]

@[simp] theorem State.dataArrives_cells (s : State) (p : Port) (id : CmdId) :
    (s.dataArrives p id).cache.cells = s.cache.cells := by simp [State.dataArrives]

@[simp] theorem State.fetchLost_cells (s : State) (p : Port) (f : HostFetch) :
    (s.fetchLost p f).cache.cells = s.cache.cells := by
  unfold State.fetchLost
  split <;> simp

@[simp] theorem State.createQueue_cells (s : State) (p : Port) (cq : Bool) (qid qsize base arg : Nat) (pc ien : Bool) :
    (s.createQueue p cq qid qsize base arg pc ien).1.cache.cells = s.cache.cells := by
  unfold State.createQueue
  dsimp only
  repeat' split
  all_goals simp

@[simp] theorem State.deleteQueue_cells (s : State) (p : Port) (cq : Bool) (qid : Nat) :
    (s.deleteQueue p cq qid).1.cache.cells = s.cache.cells := by
  unfold State.deleteQueue
  dsimp only
  repeat' split
  all_goals simp

@[simp] theorem State.aerRequest_cells (s : State) (p : Port) (id : CmdId) :
    (s.aerRequest p id).cache.cells = s.cache.cells := by
  unfold State.aerRequest
  dsimp only
  repeat' split
  all_goals simp

@[simp] theorem State.abortCmd_cells (s : State) (p : Port) (id target : CmdId) :
    (s.abortCmd p id target).cache.cells = s.cache.cells := by simp [State.abortCmd]

@[simp] theorem State.setPs_cells (s : State) (p : Port) (ps : Nat) : (s.setPs p ps).1.cache.cells = s.cache.cells := by
  unfold State.setPs
  dsimp only
  repeat' split
  all_goals simp

@[simp] theorem State.setFeat_cells (s : State) (p : Port) (fid arg : Nat) :
    (s.setFeat p fid arg).1.cache.cells = s.cache.cells := by
  unfold State.setFeat
  repeat' split
  all_goals simp

@[simp] theorem State.identify_cells (s : State) (req : AdminReq) (id : CmdId) (cns nsid : Nat) :
    (s.identify req id cns nsid).cache.cells = s.cache.cells := by simp [State.identify]

@[simp] theorem State.setLedger_cells (s : State) (l : Ledger) : (s.setLedger l).cache.cells = s.cache.cells :=
  by simp [State.setLedger]

@[simp] theorem State.smartUpd_cells (s : State) (f : Smart → Smart) : (s.smartUpd f).cache.cells = s.cache.cells :=
  by simp [State.smartUpd]

@[simp] theorem State.ledgerWrite_cells (s : State) (nsid slba : Nat) (data : List Byte) :
    (s.ledgerWrite nsid slba data).1.cache.cells = s.cache.cells := by
  unfold State.ledgerWrite
  extract_lets l nlb l' w
  split
  · rfl
  · split
    · rfl
    · split
      · rfl
      · split
        · exact State.smartUpd_cells _ _
        · exact underLeave_cells s _ fun t => (State.smartUpd_cells _ _).trans (State.setLedger_cells t _)

@[simp] theorem State.ledgerRead_cells (s : State) (r : Requester) (nsid slba nlb : Nat) (bad : Bool) :
    (s.ledgerRead r nsid slba nlb bad).1.cache.cells = s.cache.cells := by
  unfold State.ledgerRead
  dsimp only
  repeat' split
  all_goals simp

@[simp] theorem State.ledgerTrim_cells (s : State) (nsid : Nat) (ranges : List (Nat × Nat)) :
    (s.ledgerTrim nsid ranges).1.cache.cells = s.cache.cells := by
  unfold State.ledgerTrim
  split <;> simp

theorem memoryWf_ioRun (s : State) (c : Instr) (p : Port) (id : CmdId) (k : State → State × NStat)
    (hk : ∀ t : State, Memory.wf t.cache.cells = true → Memory.wf (k t).1.cache.cells = true) (h : Memory.wf s.cache.cells = true) :
    Memory.wf (s.ioRun c p id k).cache.cells = true := by
  have ht : Memory.wf (s.touch 1).cache.cells = true := by simp [h]
  unfold State.ioRun
  dsimp only
  split_ifs <;> simp [h, hk _ ht]

@[simp] theorem State.msixDrain_cells (s : State) (p : Port) : (s.msixDrain p).cache.cells = s.cache.cells := by
  unfold State.msixDrain
  dsimp only
  split
  · rw [cells_foldl (fun t v => State.send_cells t _), State.setPort_cells]
  · rfl

@[simp] theorem State.cfgWrite_cells (s : State) (p : Port) (w : CfgWrite) :
    (s.cfgWrite p w).cache.cells = s.cache.cells := by
  unfold State.cfgWrite
  split <;> simp

@[simp] theorem State.nvmeRegWrite_cells (s : State) (p : Port) (off w : Nat) :
    (s.nvmeRegWrite p off w).cache.cells = s.cache.cells := by simp [State.nvmeRegWrite]

@[simp] theorem State.keepAliveLost_cells (s : State) (p : Port) :
    (s.keepAliveLost p).cache.cells = s.cache.cells := by simp [State.keepAliveLost]

/-! ## Sys2Proof/Machine/DramCmds.lean -/

@[simp] theorem State.trackSet_cells (s : State) (drift : Nat) : (s.trackSet drift).cache.cells = s.cache.cells := by
  unfold State.trackSet
  dsimp only
  repeat' split
  all_goals simp

/-! ## Sys2Proof/Machine/NvmeCmds.lean -/

@[simp] theorem State.sqTail_cells (s : State) (p : Port) (qid tail : Nat) :
    (s.sqTail p qid tail).cache.cells = s.cache.cells := by simp [State.sqTail]

@[simp] theorem State.cqHead_cells (s : State) (p : Port) (qid head : Nat) :
    (s.cqHead p qid head).cache.cells = s.cache.cells := by simp [State.cqHead]

/-! ## Sys2Proof/Machine/PmrCmds.lean -/

@[simp] theorem State.pushItem_cells (s : State) (p : Port) (i : PortItem) :
    (s.pushItem p i).cache.cells = s.cache.cells := by simp [State.pushItem]

@[simp] theorem State.writeArrives_cells (s : State) (p : Port) (addr : Nat) (data : List Byte) (be : List Bool)
    (ep ecrcErr : Bool) :
    (s.writeArrives p addr data be ep ecrcErr).cache.cells = s.cache.cells := by simp [State.writeArrives]

@[simp] theorem memoryWf_sequenceHead (s : State) (p : Port) (h : Memory.wf s.cache.cells = true) :
    Memory.wf (s.sequenceHead p).cache.cells = true := by
  unfold State.sequenceHead
  split <;> simp [h]

@[simp] theorem memoryWf_sequenceTurn (s : State) (ready : Option Port) (h : Memory.wf s.cache.cells = true) :
    Memory.wf (s.sequenceTurn ready).cache.cells = true := by
  unfold State.sequenceTurn
  dsimp only
  repeat' split
  all_goals simp [h]

@[simp] theorem memoryWf_readArrives (s : State) (p : Port) (addr len : Nat) (h : Memory.wf s.cache.cells = true) :
    Memory.wf (s.readArrives p addr len).cache.cells = true := by
  unfold State.readArrives
  dsimp only
  repeat' split
  all_goals simp [h]

@[simp] theorem State.barrierArrives_cells (s : State) (p : Port) (ns : Nat) :
    (s.barrierArrives p ns).cache.cells = s.cache.cells := by simp [State.barrierArrives]

@[simp] theorem State.barrierRead_cells (s : State) (p : Port) (ns : Nat) : (s.barrierRead p ns).cache.cells = s.cache.cells := by
  unfold State.barrierRead
  split
  · exact orHold_cells s p _ fun t => State.barrierArrives_cells t p ns
  · rfl

@[simp] theorem State.barrierTurn_cells (s : State) : s.barrierTurn.cache.cells = s.cache.cells := by
  unfold State.barrierTurn
  split <;> simp

@[simp] theorem memoryWf_pmrctl (s : State) (p : Port) (w : Word) (h : Memory.wf s.cache.cells = true) :
    Memory.wf (s.pmrctl p w).cache.cells = true := by
  unfold State.pmrctl
  dsimp only
  split <;> simp [h]

@[simp] theorem State.ctrlDisable_cells (s : State) (p : Port) : (s.ctrlDisable p).cache.cells = s.cache.cells :=
  by simp [State.ctrlDisable]

@[simp] theorem State.ctrlEnable_cells (s : State) (p : Port) (cc : Word) :
    (s.ctrlEnable p cc).cache.cells = s.cache.cells := by simp [State.ctrlEnable]

@[simp] theorem memoryWf_ctrlShutdown (s : State) (p : Port) (shn : Nat) (h : Memory.wf s.cache.cells = true) :
    Memory.wf (s.ctrlShutdown p shn).cache.cells = true := by
  unfold State.ctrlShutdown
  split <;> simp [h]

/-! ## Sys2Proof/Machine/RegCmds.lean -/

@[simp] theorem memoryWf_retrainWrite (s : State) (r : Requester) (w : Word) (ok : Bool)
    (h : Memory.wf s.cache.cells = true) :
    Memory.wf (s.retrainWrite r w ok).cache.cells = true := by simp [State.retrainWrite, h]

@[simp] theorem State.windowRead_cells (s : State) (r : Requester) (o len : Nat) :
    (s.windowRead r o len).cache.cells = s.cache.cells := by
  unfold State.windowRead
  dsimp only
  repeat' split
  all_goals simp

@[simp] theorem memoryWf_windowWrite (s : State) (r : Requester) (o : Nat) (data : List Byte) (be : List Bool)
    (h : Memory.wf s.cache.cells = true) :
    Memory.wf (s.windowWrite r o data be).cache.cells = true := by
  unfold State.windowWrite
  repeat' split
  all_goals simp [h]

@[simp] theorem memoryWf_regPut (s : State) (r : Requester) (off : Nat) (data : List Byte) (be : List Bool)
    (h : Memory.wf s.cache.cells = true) :
    Memory.wf (s.regPut r off data be).cache.cells = true := by
  unfold State.regPut
  split <;> simp [h]

/-! ## Sys2Proof/Machine/FlowCmds.lean -/

@[simp] theorem memoryWf_runHeld (s : State) (x1 : Instr) (h : Memory.wf s.cache.cells = true) :
    Memory.wf (s.runHeld x1).cache.cells = true := by
  unfold State.runHeld
  repeat' split
  all_goals simp [h]

@[simp] theorem memoryWf_flowOn (p : Port) (n : Nat) (s : State) (h : Memory.wf s.cache.cells = true) :
    Memory.wf (State.flowOn p n s).cache.cells = true := by
  induction n generalizing s with
  | zero => exact h
  | succ n ih =>
    unfold State.flowOn
    split
    · exact h
    · split
      · split
        · exact ih _ (memoryWf_runHeld _ _ h)
        · exact h
      · exact h

@[simp] theorem memoryWf_flowBoth (s : State) (h : Memory.wf s.cache.cells = true) :
    Memory.wf s.flowBoth.cache.cells = true := by simp [State.flowBoth, h]

/-! ## Sys2Proof/Machine/MgmtOps.lean -/

theorem memoryWf_mi (s : State) (c : Instr) (mctp held : Bool) (k : State → State)
    (hk : ∀ t : State, Memory.wf t.cache.cells = true → Memory.wf (k t).cache.cells = true) (h : Memory.wf s.cache.cells = true) :
    Memory.wf (s.mi c mctp held k).cache.cells = true := by
  have ht : Memory.wf (s.touch 2).cache.cells = true := by simp [h]
  unfold State.mi
  dsimp only
  split_ifs <;> simp [h, hk s h, hk _ ht]

@[simp] theorem State.miData_cells (s : State) (bytes : List Byte) : (s.miData bytes).cache.cells = s.cache.cells :=
  by simp [State.miData]

@[simp] theorem State.miRefuse_cells (s : State) : s.miRefuse.cache.cells = s.cache.cells := by simp [State.miRefuse]

@[simp] theorem State.setSmb_cells (s : State) (f : Smbus → Smbus) : (s.setSmb f).cache.cells = s.cache.cells :=
  by simp [State.setSmb]

@[simp] theorem State.miSet_cells (s : State) (cid v : Nat) : (s.miSet cid v).cache.cells = s.cache.cells :=
  by simp [State.miSet]

@[simp] theorem State.subsysHealth_cells (s : State) : s.subsysHealth.cache.cells = s.cache.cells :=
  by simp [State.subsysHealth]

@[simp] theorem State.ctrlHealth_cells (s : State) (p : Port) : (s.ctrlHealth p).cache.cells = s.cache.cells :=
  by simp [State.ctrlHealth]

@[simp] theorem State.basicHealth_cells (s : State) : s.basicHealth.cache.cells = s.cache.cells :=
  by simp [State.basicHealth]

theorem memoryWf_smb (s : State) (k : State → State)
    (hk : ∀ t : State, Memory.wf t.cache.cells = true → Memory.wf (k t).cache.cells = true) (h : Memory.wf s.cache.cells = true) :
    Memory.wf (s.smb k).cache.cells = true := by
  unfold State.smb
  split_ifs <;> simp [h, hk s h]

theorem memoryWf_smbWrite (s : State) (pec : Bool) (k : State → State)
    (hk : ∀ t : State, Memory.wf t.cache.cells = true → Memory.wf (k t).cache.cells = true) (h : Memory.wf s.cache.cells = true) :
    Memory.wf (s.smbWrite pec k).cache.cells = true := by
  refine memoryWf_smb s _ (fun t ht => ?_) h
  split
  · exact ht
  · exact hk _ ht

@[simp] theorem State.smbAfter_cells (s : State) (status : Nat) : (s.smbAfter status).cache.cells = s.cache.cells :=
  by simp [State.smbAfter]

@[simp] theorem memoryWf_smbStore (s : State) (w : Nat) (h : Memory.wf s.cache.cells = true) :
    Memory.wf (s.smbStore w).cache.cells = true := by
  unfold State.smbStore
  dsimp only
  split <;> simp [h]

@[simp] theorem State.smbLoad_cells (s : State) : (State.smbLoad s).cache.cells = s.cache.cells := by
  unfold State.smbLoad
  extract_lets o a st
  have ha : a.st.cache.cells = s.cache.cells := by
    unfold a
    split
    · exact State.fresh_cells s 32
    · exact State.regRead_cells s .smbus o
  rw [State.send_cells, State.smbAfter_cells, ha]

theorem memoryWf_uart (s : State) (k : State → State)
    (hk : ∀ t : State, Memory.wf t.cache.cells = true → Memory.wf (k t).cache.cells = true) (h : Memory.wf s.cache.cells = true) :
    Memory.wf (s.uart k).cache.cells = true := by
  unfold State.uart
  split_ifs <;> simp [h, hk s h]

@[simp] theorem State.uartError_cells (s : State) : s.uartError.cache.cells = s.cache.cells := by simp [State.uartError]

@[simp] theorem State.uartStatus_cells (s : State) : s.uartStatus.cache.cells = s.cache.cells :=
  by simp [State.uartStatus]

@[simp] theorem State.uartEvents_cells (s : State) (n : Nat) : (s.uartEvents n).cache.cells = s.cache.cells :=
  by simp [State.uartEvents]

@[simp] theorem State.uartFf_cells (s : State) : s.uartFf.cache.cells = s.cache.cells := by
  unfold State.uartFf
  split <;> simp

@[simp] theorem State.uartRead_cells (s : State) (o : Nat) : (s.uartRead o).cache.cells = s.cache.cells := by
  unfold State.uartRead
  dsimp only
  repeat' split
  all_goals simp

@[simp] theorem memoryWf_uartWrite (s : State) (o w : Nat) (h : Memory.wf s.cache.cells = true) :
    Memory.wf (s.uartWrite o w).cache.cells = true := by
  unfold State.uartWrite
  split <;> simp [h]

/-! ## Sys2Proof/Machine/StartCmds.lean -/

@[simp] theorem memoryWf_wdtReset (s : State) (h : Memory.wf s.cache.cells = true) :
    Memory.wf s.wdtReset.cache.cells = true := by
  unfold State.wdtReset
  dsimp only
  repeat' split
  all_goals simp [h]

@[simp] theorem State.confirm_cells (s : State) : (State.confirm s).cache.cells = s.cache.cells := by
  unfold State.confirm
  extract_lets s1 b0 s2
  have h2 : s2.cache.cells = s.cache.cells := by
    show s1.cache.cells = s.cache.cells
    rw [State.put_cells, State.commitNote_cells]
  clear_value s2
  split
  · split
    · exact h2
    · exact h2
  · exact h2

/-! ## Sys2Proof/Machine/Step.lean -/

@[simp] theorem State.requeue_cells (t : State) (ds : List Deferred) : (t.requeue ds).cache.cells = t.cache.cells :=
  by simp [State.requeue]

@[simp] theorem State.withFetchWord_cells (s : State) (nbits w : Nat) :
    (s.withFetchWord nbits w).cache.cells = s.cache.cells := by
  unfold State.withFetchWord
  split <;> simp

/-! ## The commands -/

theorem memoryWf_ite {c : Prop} [Decidable c] {a b : State} (ha : Memory.wf a.cache.cells = true)
    (hb : Memory.wf b.cache.cells = true) : Memory.wf (if c then a else b).cache.cells = true := by
  split
  · exact ha
  · exact hb

/-- What a frame received does comes after the link layer, which keeps memory. -/
theorem memoryWf_touchFrame (s : State) (rx : Rx) (ty flags arg len : Nat) (act : State → State)
    (hk : ∀ t : State, Memory.wf t.cache.cells = true → Memory.wf (act t).cache.cells = true) (h : Memory.wf s.cache.cells = true) :
    Memory.wf ((s.touch 3).rxFrame rx ty flags arg len act).cache.cells = true :=
  memoryWf_rxFrame _ rx ty flags arg len act hk (by simp [h])

theorem memoryWf_execGver (rx : Rx) (gran tag purpose seq epoch gflags sectors status us : Nat) (s : State)
    (h : Memory.wf s.cache.cells = true) :
    ∃ t, execGver rx gran tag purpose seq epoch gflags sectors status us s = done s t ∧ Memory.wf t.cache.cells = true := by
  refine ⟨_, rfl, memoryWf_touchFrame s rx _ _ _ _ _ (fun t ht => ?_) h⟩
  split
  · exact ht
  · split
    · split
      · exact memoryWf_pumpMirror _ (memoryWf_storeResync t _ _ _ _ _ _ _ ht)
      · exact memoryWf_misbehave t _ _ ht
    · split
      · exact memoryWf_pumpMirror _ (memoryWf_pumpGreqs _ (memoryWf_rxRequested t _ _ _ _ _ _ _ _ ht))
      · exact memoryWf_misbehave t _ _ ht

theorem memoryWf_execRsync (rx : Rx) (kind sEnd count : Nat) (s : State) (h : Memory.wf s.cache.cells = true) :
    ∃ t, execRsync rx kind sEnd count s = done s t ∧ Memory.wf t.cache.cells = true := by
  refine ⟨_, rfl, memoryWf_touchFrame s rx _ _ _ _ _ (fun t ht => ?_) h⟩
  dsimp only
  split
  · exact ht
  · split
    · split
      · exact memoryWf_misbehave t _ _ ht
      · exact memoryWf_pumpForwards _ (by rw [State.sendMack_cells, State.put_cells, ht])
    · exact ht

theorem memoryWf_execFdata (rx : Rx) (off tag : Nat) (last poison notAvail : Bool) (data : List Byte) (s : State)
    (h : Memory.wf s.cache.cells = true) :
    ∃ t, execFdata rx off tag last poison notAvail data s = done s t ∧ Memory.wf t.cache.cells = true := by
  refine ⟨_, rfl, memoryWf_touchFrame s rx _ _ _ _ _ (fun t ht => ?_) h⟩
  split
  · exact memoryWf_misbehave t _ _ ht
  · extract_lets rest free
    have hfree (u : State) (hu : Memory.wf u.cache.cells = true) : Memory.wf (free u).cache.cells = true := by
      unfold free
      split <;> simp [hu]
    clear_value free
    split
    · exact hfree _ (by simp [ht])
    · split
      · exact hfree _ (by simp [ht])
      · exact ht

theorem memoryWf_execHello (malformed : Bool) (nonce proto owner stepping : Nat) (resume : Bool) (cap uid pairId session : Nat)
    (s : State) (h : Memory.wf s.cache.cells = true) :
    ∃ t, execHello malformed nonce proto owner stepping resume cap uid pairId session s = done s t ∧
      Memory.wf t.cache.cells = true := by
  refine ⟨_, rfl, ?_⟩
  dsimp only
  refine memoryWf_ite h (memoryWf_ite (memoryWf_ite (memoryWf_misbehave s _ _ h) h)
    (memoryWf_ite (memoryWf_misbehave s _ _ h) (memoryWf_pairCheck _ ?_)))
  rw [State.send_cells, State.fresh_cells, State.put_cells, State.put_cells, State.put_cells, h]

theorem memoryWf_execThermalShutdown (s : State) (h : Memory.wf s.cache.cells = true) :
    ∃ t, execThermalShutdown s = done s t ∧ Memory.wf t.cache.cells = true := by
  refine ⟨_, rfl, ?_⟩
  split
  · exact h
  · extract_lets b0 s1 st
    have h1 : Memory.wf s1.cache.cells = true := by rw [State.ev_cells, h]
    split_ifs <;> simp [h1]

theorem memoryWf_execLctl (ctl : Nat) (tagOk nak : Bool) (lseq freed : Nat) (s : State) (h : Memory.wf s.cache.cells = true) :
    ∃ t, execLctl ctl tagOk nak lseq freed s = done s t ∧ Memory.wf t.cache.cells = true := by
  refine ⟨_, rfl, memoryWf_ite h (memoryWf_ite ?_ h)⟩
  rw [State.incSat_cells]
  exact memoryWf_foldl (fun t f ht => by simp [ht]) _ _ h

theorem memoryWf_execEchoReplayTimeout (ok : Bool) (s : State) (h : Memory.wf s.cache.cells = true) :
    ∃ t, execEchoReplayTimeout ok s = done s t ∧ Memory.wf t.cache.cells = true := by
  have h1 : Memory.wf (s.incSat Reg.ECH_LINK_RETRAINS 1).cache.cells = true := by rw [State.incSat_cells, h]
  exact ⟨_, rfl, memoryWf_ite h (memoryWf_ite (memoryWf_foldl (fun t f ht => by simp [ht]) _ _ h1) (by simp [h]))⟩

/-- Every command keeps the canonical form of the DRAM's bytes. -/
theorem memoryWf_exec (c : Instr) (s : State) (h : Memory.wf s.cache.cells = true) :
    ∃ t, exec c s = done s t ∧ Memory.wf t.cache.cells = true := by
  cases c
  case gver => exact memoryWf_execGver _ _ _ _ _ _ _ _ _ _ s h
  case rsync => exact memoryWf_execRsync _ _ _ _ s h
  case fdata => exact memoryWf_execFdata _ _ _ _ _ _ _ s h
  case hello => exact memoryWf_execHello _ _ _ _ _ _ _ _ _ _ s h
  case thermalShutdown => exact memoryWf_execThermalShutdown s h
  case pmrWriteTlp p addr data be ep ecrc =>
    exact ⟨_, rfl, memoryWf_ite h (memoryWf_ite (memoryWf_orHold p _ h fun t ht =>
      (congrArg Memory.wf (State.writeArrives_cells t p addr data be ep ecrc)).trans ht) h)⟩
  case pmrRead p addr len =>
    exact ⟨_, rfl, memoryWf_ite (memoryWf_orHold p _ h fun t ht => memoryWf_readArrives t p addr len ht) h⟩
  case pmrctlWrite p _ | controllerDisable p | controllerEnable p _ | shutdownNotification p _ | sqDoorbell p _ _ |
      cqDoorbell p _ _ | nvmeRegisterWrite p _ _ =>
    refine ⟨_, rfl, memoryWf_ite (memoryWf_orHold p _ h fun t ht => ?_) h⟩
    simp only [State.MemoryWf] at ht ⊢
    simp [ht]
  case retrainGo | registerWrite => exact ⟨_, rfl, memoryWf_windowPut s _ _ _ (fun t ht => by simp [ht]) h⟩
  case mwr | epoch | mack | vinfo | vtab | frd | greq =>
    exact ⟨_, rfl, memoryWf_touchFrame s _ _ _ _ _ _ (fun t ht => by simp [ht]) h⟩
  case allow | gdata =>
    refine ⟨_, rfl, memoryWf_touchFrame s _ _ _ _ _ _ (fun t ht => ?_) h⟩
    split_ifs <;> simp [ht]
  case state => exact ⟨_, rfl, memoryWf_rxFrame s _ _ _ _ _ _ (fun t ht => by simp [ht]) h⟩
  case sealProgrammed => exact ⟨_, rfl, memoryWf_sealDone s _ _ _ (fun t ht => by simp [ht]) h⟩
  case pairDetach | pairRejoin | pairReplace | mirrorViewOn =>
    exact ⟨_, rfl, memoryWf_admin s _ _ _ _ _ _ (fun t ht => memoryWf_pairAction t _ _ _ _ (fun u hu => by simp [hu]) ht) h⟩
  case pairStatus | mirrorViewOff | updateStage | updateCommitWarm | updateCommitCold | updateCommitFormat | updateAbort |
      updateCommitOther | getChallenge | clear | createIoQueue | deleteIoQueue | getLogPage | identify | abort |
      asynchronousEventRequest | keepAlive | barrierQuery | learnCycleRequest | rehearsalVault | registerAccessRead |
      registerAccessWrite =>
    exact ⟨_, rfl, memoryWf_admin s _ _ _ _ _ _ (fun t ht => by simp [ht]) h⟩
  case getFeatures | setFeatures =>
    refine ⟨_, rfl, memoryWf_admin s _ _ _ _ _ _ (fun t ht => ?_) h⟩
    split_ifs <;> simp [ht]
  case formatNvm =>
    refine ⟨_, rfl, memoryWf_admin s _ _ _ _ _ _ (fun t ht => ?_) h⟩
    split <;> simp [ht]
  case invalidOpcode =>
    refine ⟨_, rfl, ?_⟩
    split
    · exact memoryWf_ite (memoryWf_ioRun s _ _ _ _ (fun t ht => ht) h) (memoryWf_admin s _ _ _ _ _ _ (fun t ht => by simp [ht]) h)
    · exact memoryWf_admin s _ _ _ _ _ _ (fun t ht => by simp [ht]) h
  case flush | write | readLba | writeZeroes => exact ⟨_, rfl, memoryWf_ioRun s _ _ _ _ (fun t ht => by simp [ht]) h⟩
  case datasetManagement =>
    refine ⟨_, rfl, memoryWf_ioRun s _ _ _ _ (fun t ht => ?_) h⟩
    split <;> simp [ht]
  case mctpControl | readNvmeMiDataStructure | subsystemHealthStatusPoll | configurationSet | basicManagementCommand =>
    exact ⟨_, rfl, memoryWf_mi s _ _ _ _ (fun t ht => by simp [ht]) h⟩
  case controllerHealthStatusPoll | configurationGet =>
    refine ⟨_, rfl, memoryWf_mi s _ _ _ _ (fun t ht => ?_) h⟩
    split <;> simp [ht]
  case smbusAddrWrite | smbusWrite | smbusCtrlWrite =>
    exact ⟨_, rfl, memoryWf_smbWrite s _ _ (fun t ht => by simp [ht]) h⟩
  case smbusAddrRead | smbusRead | smbusStatus | smbusCtrlRead => exact ⟨_, rfl, memoryWf_smb s _ (fun t ht => by simp [ht]) h⟩
  case uartEvents | uartRegRead | uartRegWrite | uartStatus | uartFf | uartHelp | uartUnknown =>
    refine ⟨_, rfl, memoryWf_uart s _ (fun t ht => ?_) h⟩
    simp [ht]
  case gcStripeProgrammed | gcEraseDone | barrierAckTimeout | domainVoteTimeout | recordWindowClose | viewExpiry | rowIdleClose |
     positionLeak =>
    refine ⟨_, rfl, ?_⟩
    repeat' split
    all_goals simp [h]
  case registerRead =>
    refine ⟨_, rfl, ?_⟩
    repeat' split
    all_goals simp [h]
  case lctl => exact memoryWf_execLctl _ _ _ _ _ s h
  case echoReplayTimeout => exact memoryWf_execEchoReplayTimeout _ s h
  case mirrorViewRead => exact ⟨_, rfl, memoryWf_ite h (memoryWf_ite (by simp [h]) (by simp [h]))⟩
  case scrubStep =>
    refine ⟨_, rfl, memoryWf_ite h ?_⟩
    split
    · rw [State.put_cells, State.submitBurst_cells, h]
    · rw [State.put_cells, State.incSat_cells, h]
  case hostMemoryReadCompletion | clockRelockResult =>
    refine ⟨_, rfl, ?_⟩
    repeat' split
    all_goals simp [h]
  case coldStart | warmStart | resyncGranuleRead | shortPress | longPress | deepPrepDrained | wdtStage2Expiry |
      dramCommandSlot | sealSearchComplete | mapBuildComplete | pmrWriteSequence | echoLinkLoss | 
      echoTrainingAttemptFailed | energyInsufficientEntry | proof =>
    refine ⟨_, rfl, ?_⟩
    split_ifs <;> simp [h]
  all_goals exact ⟨_, rfl, by simp [h]⟩

theorem memoryWf_of_done {s t u : State} (h : done s t = .next u) (ht : Memory.wf t.cache.cells = true) : u.MemoryWf := by
  rw [done_eq] at h
  cases h
  exact (congrArg (fun c : Cache => Memory.wf c.cells) (State.drive_cache _)).trans ht

theorem memoryWf_of_exec {c : Instr} {s u : State} (h : exec c s = .next u) (hs : Memory.wf s.cache.cells = true) :
    u.MemoryWf := by
  obtain ⟨t, ht, hw⟩ := memoryWf_exec c s hs
  exact memoryWf_of_done (ht ▸ h) hw

end Sys2Proof.Machine
end

section
/-! PROOF. The DRAM's bytes keep their canonical form. -/

open Sys2Proof Sys2Proof.Machine

/-- Settles O6: each command keeps the form, and neither what waits again nor a clock period touches the bytes. -/
theorem memoryKept : Obligations.MemoryKept := by
  intro s t hs h
  obtain ⟨c, rest, _, hc⟩ | ⟨d, ds, u, _, _, hu, rfl⟩ | ⟨_, hd⟩ := step_cases h
  · exact memoryWf_of_exec hc hs
  · exact (congrArg Memory.wf (State.requeue_cells u ds)).trans (memoryWf_of_exec hu hs)
  · exact memoryWf_of_done hd ((congrArg Memory.wf (State.tick_cells s)).trans hs)
end

section
/-! SUPPORT. Bytes of the DRAM, fields of a cache address, the layout of a stripe, the order of Seep. -/

namespace Sys2Proof.Machine

/-! ## Bytes -/

theorem loadBytes_eq_of_loadByte (m : List Host.Cell) (bs : List Byte) (a : Nat)
    (h : ∀ i (hi : i < bs.length), loadByte m (a + i) = bs[i]) : loadBytes m a bs.length = bs := by
  induction bs generalizing a with
  | nil => rfl
  | cons b t ih =>
    have h0 : loadByte m a = b := h 0 (by simp)
    have ht : loadBytes m (a + 1) t.length = t := ih (a + 1) fun i hi => by
      have := h (i + 1) (by simpa using hi)
      simpa [Nat.add_assoc, Nat.add_comm 1] using this
    simp only [List.length_cons, loadBytes, h0, ht]

theorem loadByte_storeEnabled_before (bs : List Byte) (es : List Bool) (m : List Host.Cell) {a x : Nat} (h : x < a) :
    loadByte (storeEnabled m a bs es) x = loadByte m x := by
  induction bs generalizing es m a with
  | nil => simp [storeEnabled]
  | cons b t ih =>
    cases es with
    | nil => simp [storeEnabled]
    | cons e es =>
      rw [storeEnabled, ih es _ (by omega)]
      split
      · exact mgetD_mput_ne 0 m b (by omega)
      · rfl

theorem loadByte_storeEnabled_in (bs : List Byte) (es : List Bool) (m : List Host.Cell) (a i : Nat) (v : Byte)
    (hv : bs[i]? = some v) (he : es[i]? = some true) : loadByte (storeEnabled m a bs es) (a + i) = v := by
  induction bs generalizing es m a i with
  | nil => simp at hv
  | cons b t ih =>
    cases es with
    | nil => simp at he
    | cons e es =>
      cases i with
      | zero =>
        simp only [List.getElem?_cons_zero, Option.some.injEq] at hv he
        subst hv he
        rw [storeEnabled, loadByte_storeEnabled_before t es _ (by omega)]
        exact mgetD_mput_same 0 m a b
      | succ i =>
        rw [storeEnabled, show a + (i + 1) = a + 1 + i by omega]
        exact ih es _ _ i hv he

theorem loadByte_storeEnabled_out (bs : List Byte) (es : List Bool) (m : List Host.Cell) (a x : Nat)
    (h : x < a ∨ es.getD (x - a) false = false) : loadByte (storeEnabled m a bs es) x = loadByte m x := by
  induction bs generalizing es m a with
  | nil => simp [storeEnabled]
  | cons b t ih =>
    cases es with
    | nil => simp [storeEnabled]
    | cons e es =>
      rcases Nat.lt_trichotomy x a with hlt | heq | hgt
      · exact loadByte_storeEnabled_before _ _ m hlt
      · subst heq
        have he : e = false := by simpa using h
        rw [storeEnabled, loadByte_storeEnabled_before t es _ (by omega), he, if_neg Bool.false_ne_true]
      · have hes : es.getD (x - (a + 1)) false = false := by
          rw [show x - a = x - (a + 1) + 1 by omega] at h
          simpa [Nat.not_lt_of_gt hgt] using h
        rw [storeEnabled, ih es _ _ (.inr hes)]
        split
        · exact mgetD_mput_ne 0 m b (by omega)
        · rfl

theorem leNat_natLe (v n : Nat) : leNat (natLe v n) = v % 2 ^ (8 * n) := by
  induction n generalizing v with
  | zero => simp [natLe, leNat, Nat.mod_one]
  | succ n ih =>
    rw [natLe, leNat, ih, BitVec.toNat_ofNat, show 8 * (n + 1) = 8 + 8 * n by omega, Nat.pow_add, Nat.mod_mul]

/-! ## Bits of an address -/

/-- Two numbers agree in the bits `[lo, lo + w)`. -/
def AgreeAt (a b lo w : Nat) : Prop := bitsOf a lo w = bitsOf b lo w

theorem bitsOf_add (a lo v w : Nat) : bitsOf a lo (v + w) = bitsOf a lo v + 2 ^ v * bitsOf a (lo + v) w := by
  simp only [bitsOf, Nat.pow_add, Nat.mod_mul, Nat.div_div_eq_div_mul]

theorem AgreeAt.append {a b lo v w : Nat} (h : AgreeAt a b lo v) (k : AgreeAt a b (lo + v) w) : AgreeAt a b lo (v + w) := by
  simp only [AgreeAt] at *
  rw [bitsOf_add, bitsOf_add, h, k]

theorem agreeAt_zero (a b lo : Nat) : AgreeAt a b lo 0 := by simp [AgreeAt, bitsOf, Nat.mod_one]

theorem bitsOf_lt (a lo w : Nat) : bitsOf a lo w < 2 ^ w := Nat.mod_lt _ (Nat.two_pow_pos w)

theorem bitsOf_top {a lo w : Nat} (h : a < 2 ^ (lo + w)) : bitsOf a lo w = a / 2 ^ lo :=
  Nat.mod_eq_of_lt (Nat.div_lt_of_lt_mul (by rwa [← Nat.pow_add]))

theorem xbit_lt (a b : Nat) : xbit a b < 2 := Nat.mod_lt _ (by decide)

theorem agreeAt_of_xbit {a b lo p : Nat} (h : xbit (bitsOf a lo 1) p = xbit (bitsOf b lo 1) p) : AgreeAt a b lo 1 := by
  have ha := bitsOf_lt a lo 1
  have hb := bitsOf_lt b lo 1
  simp only [AgreeAt, xbit] at *
  omega

theorem xbit_pair {x y p q x' y' p' q' : Nat} (h : xbit x p + 2 * xbit y q = xbit x' p' + 2 * xbit y' q') :
    xbit x p = xbit x' p' ∧ xbit y q = xbit y' q' := by
  have := xbit_lt x p
  have := xbit_lt x' p'
  omega

theorem xbit_triple {x y z p q r x' y' z' p' q' r' : Nat}
    (h : xbit x p + 2 * xbit y q + 4 * xbit z r = xbit x' p' + 2 * xbit y' q' + 4 * xbit z' r') :
    xbit x p = xbit x' p' ∧ xbit y q = xbit y' q' ∧ xbit z r = xbit z' r' := by
  have := xbit_lt x p
  have := xbit_lt y q
  have := xbit_lt x' p'
  have := xbit_lt y' q'
  omega

/-- The channel bits of an address, which are folded with the row's parity. -/
theorem agreeAt_channel {a b w p q : Nat} (hw : w ≤ 2)
    (h : (if 0 < w then xbit (bitsOf a 12 1) p else 0) + (if 1 < w then 2 * xbit (bitsOf a 13 1) q else 0) =
      (if 0 < w then xbit (bitsOf b 12 1) p else 0) + (if 1 < w then 2 * xbit (bitsOf b 13 1) q else 0)) :
    AgreeAt a b 12 w := by
  match w with
  | 0 => exact agreeAt_zero a b 12
  | 1 => exact agreeAt_of_xbit (p := p) (by simpa using h)
  | 2 =>
    simp only [if_true, show 0 < 2 by omega, show 1 < 2 by omega] at h
    obtain ⟨h0, h1⟩ := xbit_pair h
    exact AgreeAt.append (agreeAt_of_xbit h0) (agreeAt_of_xbit h1)

/-- The rank bit of an address, where there is one. -/
theorem agreeAt_rank {a b lo p w : Nat} (hw : w ≤ 1)
    (h : (if 0 < w then xbit (bitsOf a lo 1) p else 0) = if 0 < w then xbit (bitsOf b lo 1) p else 0) : AgreeAt a b lo w := by
  match w with
  | 0 => exact agreeAt_zero a b lo
  | 1 => exact agreeAt_of_xbit (p := p) (by simpa using h)

theorem agreeAt_bank {a b lo p0 p1 p2 q0 q1 : Nat}
    (hg : xbit (bitsOf a lo 1) p0 + 2 * xbit (bitsOf a (lo + 1) 1) p1 + 4 * xbit (bitsOf a (lo + 2) 1) p2 =
      xbit (bitsOf b lo 1) p0 + 2 * xbit (bitsOf b (lo + 1) 1) p1 + 4 * xbit (bitsOf b (lo + 2) 1) p2)
    (hb : xbit (bitsOf a (lo + 3) 1) q0 + 2 * xbit (bitsOf a (lo + 3 + 1) 1) q1 =
      xbit (bitsOf b (lo + 3) 1) q0 + 2 * xbit (bitsOf b (lo + 3 + 1) 1) q1) : AgreeAt a b lo 5 := by
  obtain ⟨hg0, hg1, hg2⟩ := xbit_triple hg
  obtain ⟨hb0, hb1⟩ := xbit_pair hb
  exact (((AgreeAt.append (agreeAt_of_xbit hg0) (agreeAt_of_xbit hg1)).append (agreeAt_of_xbit hg2)).append
    (agreeAt_of_xbit hb0)).append (agreeAt_of_xbit hb1)

/-- The column bits of an address. -/
theorem agreeAt_column {a b m n k : Nat} (h : bitsOf a m 2 + 4 * bitsOf a n 3 + 32 * bitsOf a k 2 =
    bitsOf b m 2 + 4 * bitsOf b n 3 + 32 * bitsOf b k 2) : AgreeAt a b m 2 ∧ AgreeAt a b n 3 ∧ AgreeAt a b k 2 := by
  have := bitsOf_lt a m 2
  have := bitsOf_lt b m 2
  have := bitsOf_lt a n 3
  have := bitsOf_lt b n 3
  simp only [AgreeAt]
  omega

theorem State.chWidth_le (s : State) : s.chWidth ≤ 2 := Nat.min_le_left _ _

theorem State.rkWidth_le (s : State) : s.rkWidth ≤ 1 := by
  unfold State.rkWidth
  split <;> omega

/-- The fields of R226 and R227 give back the bits of the address above the burst's offset. -/
theorem agreeAt_of_dramAddr (s : State) {a b : Nat} (h : s.dramAddr a = s.dramAddr b) :
    AgreeAt a b 6 (13 + s.chWidth + s.rkWidth + s.rowWidth) := by
  have hc := s.chWidth_le
  have hr := s.rkWidth_le
  simp only [State.dramAddr, DAddr.mk.injEq] at h
  generalize s.chWidth = c at *
  generalize s.rkWidth = r at *
  generalize s.rowWidth = w at *
  obtain ⟨hch, hsc, hrk, hbg, hba, hrow, hcol⟩ := h
  rw [hrow] at hch hrk hbg hba
  obtain ⟨h6, h9, h14⟩ := agreeAt_column hcol
  have hlow : AgreeAt a b 6 6 := AgreeAt.append (AgreeAt.append h6 hsc) h9
  have hcol' : AgreeAt a b 6 (6 + c + 2) :=
    (hlow.append (agreeAt_channel hc hch)).append (by rwa [show 6 + (6 + c) = 12 + c by omega])
  have hbank : AgreeAt a b 6 (6 + c + 2 + 5) :=
    hcol'.append (by rw [show 6 + (6 + c + 2) = 14 + c by omega]; exact agreeAt_bank hbg hba)
  have hrank : AgreeAt a b 6 (6 + c + 2 + 5 + r) :=
    hbank.append (by rw [show 6 + (6 + c + 2 + 5) = 14 + c + 3 + 2 by omega]; exact agreeAt_rank hr hrk)
  have hall : AgreeAt a b 6 (6 + c + 2 + 5 + r + w) :=
    hrank.append (by rw [show 6 + (6 + c + 2 + 5 + r) = 19 + c + r by omega]; exact hrow)
  rwa [show 13 + c + r + w = 6 + c + 2 + 5 + r + w by omega]

/-! ## The layout of a stripe -/

theorem filterMap_fillPages (usable ds : List Nat) (vs : List GVer) (h : vs.length ≤ 4 * (ds.filter usable.contains).length) :
    (fillPages usable ds vs).filterMap id = vs := by
  induction ds generalizing vs with
  | nil =>
    have : vs = [] := by simpa using h
    simp [this, fillPages]
  | cons d ds ih =>
    rw [fillPages]
    split
    next hd =>
      have hrest : (vs.drop 4).length ≤ 4 * (ds.filter usable.contains).length := by
        rw [List.filter_cons_of_pos hd] at h
        simp only [List.length_cons, List.length_drop] at h ⊢
        omega
      rw [List.filterMap_append, List.filterMap_append, ih _ hrest]
      simp
    next hd =>
      rw [List.filter_cons_of_neg hd] at h
      rw [List.filterMap_append, ih vs h]
      simp

theorem length_fillPages (usable ds : List Nat) (vs : List GVer) : (fillPages usable ds vs).length = 4 * ds.length := by
  induction ds generalizing vs with
  | nil => rfl
  | cons d ds ih =>
    rw [fillPages]
    split
    · simp only [List.length_append, List.length_map, List.length_replicate, List.length_take, ih, List.length_cons]
      omega
    · simp only [List.length_append, List.length_replicate, ih, List.length_cons]
      omega

theorem filter_usablePages (n : Nat) (layout : List Nat) :
    (List.range 15).filter (usablePages n layout).contains = usablePages n layout := by
  unfold usablePages
  refine List.filter_congr fun d hd => ?_
  rw [Bool.eq_iff_iff, List.contains_iff_mem, List.mem_filter]
  exact and_iff_right hd

/-! ## The order of Seep -/

/-- The granules of one age, in the order of the pointer. -/
def State.seepCut (s : State) (l : List Nat) (a : Nat) : List Nat :=
  let m := l.filter (fun g => s.zoneAge (zoneOf g) == a)
  m.filter (fun g => decide (s.cache.seepPtr ≤ zoneOf g)) ++ m.filter (fun g => decide (zoneOf g < s.cache.seepPtr))

theorem State.seepOrder_eq (s : State) (l : List Nat) :
    s.seepOrder l = s.seepCut l 0 ++ s.seepCut l 1 ++ s.seepCut l 2 ++ s.seepCut l 3 := rfl

theorem State.zoneAge_of_mem_seepCut {s : State} {l : List Nat} {a g : Nat} (h : g ∈ s.seepCut l a) :
    s.zoneAge (zoneOf g) = a := by
  simp only [State.seepCut, List.mem_append, List.mem_filter, beq_iff_eq] at h
  obtain ⟨⟨-, h⟩, -⟩ | ⟨⟨-, h⟩, -⟩ := h <;> exact h

theorem State.seepCut_perm (s : State) (l : List Nat) (a : Nat) :
    (s.seepCut l a).Perm (l.filter (fun g => s.zoneAge (zoneOf g) == a)) := by
  have hnot : (fun g => decide (zoneOf g < s.cache.seepPtr)) = fun g => !decide (s.cache.seepPtr ≤ zoneOf g) := by
    funext g
    rw [← decide_not]
    exact decide_eq_decide.mpr Nat.not_le.symm
  rw [State.seepCut, hnot]
  exact List.filter_append_perm _ _

theorem State.count_seepCut (s : State) (l : List Nat) (a g : Nat) :
    (s.seepCut l a).count g = if s.zoneAge (zoneOf g) = a then l.count g else 0 := by
  split
  next h => rw [(s.seepCut_perm l a).count_eq, List.count_filter (by simpa using h)]
  next h => exact List.count_eq_zero_of_not_mem fun hm => h (State.zoneAge_of_mem_seepCut hm)

theorem State.pairwise_seepCut (s : State) (l : List Nat) (a : Nat) :
    (s.seepCut l a).Pairwise (fun g h => s.zoneAge (zoneOf g) ≤ s.zoneAge (zoneOf h)) :=
  List.pairwise_of_forall_mem_list fun g hg h hh => by
    rw [State.zoneAge_of_mem_seepCut hg, State.zoneAge_of_mem_seepCut hh]

end Sys2Proof.Machine
end

section
/-! PROOF. Bytes, places in the DRAM, stripes and the order of Seep. -/

open Sys2Proof Sys2Proof.Machine

/-- Settles O24: the bytes of a store, by induction on the bytes stored. -/
theorem memoryLaws : Obligations.MemoryLaws :=
  ⟨fun m a bs => loadBytes_eq_of_loadByte _ bs a fun i hi => loadByte_storeBytes_in bs m a i hi,
    fun m a i bs be v => loadByte_storeEnabled_in bs be m a i v,
    fun m a x bs be => loadByte_storeEnabled_out bs be m a x, leNat_natLe⟩

/-- Settles O23: the fields give back every bit above the burst's offset, and the addresses have no bit beyond them. -/
theorem dramMapInjective : Obligations.DramMapInjective := by
  intro s a b ha hb h
  have hag := agreeAt_of_dramAddr s h
  have htop (x : Nat) (hx : x < 2 ^ (19 + s.chWidth + s.rkWidth + s.rowWidth)) :
      bitsOf x 6 (13 + s.chWidth + s.rkWidth + s.rowWidth) = x / 2 ^ 6 :=
    bitsOf_top (by rwa [show 6 + (13 + s.chWidth + s.rkWidth + s.rowWidth) = 19 + s.chWidth + s.rkWidth + s.rowWidth by omega])
  rw [AgreeAt, htop a ha, htop b hb] at hag
  exact hag

/-- Settles O21: positions by arithmetic, slots by induction on the pages. -/
theorem stripeLayout : Obligations.StripeLayout := by
  refine ⟨fun n d hd => ?_, fun n layout vs h => ?_, fun n layout vs slots h => ?_⟩
  · unfold posPage pagePos
    split
    · exact ⟨by omega, by omega, by rw [if_neg (by omega)]⟩
    · exact ⟨by omega, by omega, by rw [if_neg (by omega), if_neg (by omega)]; rfl⟩
  · refine filterMap_fillPages _ _ vs ?_
    rwa [filter_usablePages]
  · obtain rfl := Payload.data.inj h
    exact length_fillPages _ _ vs

/-- Settles O13: the order is one cut for each age. -/
theorem seepOrder : Obligations.SeepOrder := by
  refine ⟨fun s l => ?_, fun s l g hg => ?_⟩
  · rw [State.seepOrder_eq]
    simp only [List.pairwise_append, State.pairwise_seepCut, true_and, List.mem_append]
    refine ⟨⟨fun g hg h hh => ?_, fun g hg h hh => ?_⟩, fun g hg h hh => ?_⟩
    all_goals rw [State.zoneAge_of_mem_seepCut hh]
    · rw [State.zoneAge_of_mem_seepCut hg]
      omega
    · obtain hg | hg := hg <;> rw [State.zoneAge_of_mem_seepCut hg] <;> omega
    · obtain (hg | hg) | hg := hg <;> rw [State.zoneAge_of_mem_seepCut hg] <;> omega
  · rw [State.seepOrder_eq]
    simp only [List.count_append, State.count_seepCut]
    split_ifs <;> omega
end

section
/-! SUPPORT. Frames built up along an operation: one rule for each kind of update, so that the frame of an operation is the
sequence of its updates. Side conditions default to `by decide`, through the library's constant for that tactic: one of this
text's own could be run only when every theorem before it is checked. -/

namespace Sys2Proof.Machine

namespace State.Frame

open Float.Model.Format

variable {s t u : State} {ps : List Part} {fs : List Fld}

theorem refl (s : State) (ps : List Part) (fs : List Fld) : s.Frame s ps fs := frame_of_quiet (Quiet.refl s) ps fs

/-- Reports, what is sent out and the recorder are in every frame. -/
theorem quiet (h : t.Frame s ps fs) (k : Quiet u t) : u.Frame s ps fs := h.trans (frame_of_quiet k ps fs)

theorem put {f : Fld} {v : Nat} (h : t.Frame s ps fs)
    (hf : autoParam (f.key ∈ fs.map Fld.key) he._autoParam) : (t.put f v).Frame s ps fs :=
  h.trans (frame_put t f v ps hf)

theorem putB {f : Fld} {b : Bool} (h : t.Frame s ps fs)
    (hf : autoParam (f.key ∈ fs.map Fld.key) he._autoParam) : (t.putB f b).Frame s ps fs :=
  h.put hf

theorem putR {f : Fld} {a : Rat} (h : t.Frame s ps fs)
    (hf : autoParam (f.key ∈ fs.map Fld.key) he._autoParam) : (t.putR f a).Frame s ps fs :=
  h.put hf

theorem putI {f : Fld} {a : Int} (h : t.Frame s ps fs)
    (hf : autoParam (f.key ∈ fs.map Fld.key) he._autoParam) : (t.putI f a).Frame s ps fs :=
  h.put hf

theorem clr {f : Fld} (h : t.Frame s ps fs)
    (hf : autoParam (f.key ∈ fs.map Fld.key) he._autoParam) : (t.clr f).Frame s ps fs := h.put hf

theorem incSat {f : Fld} {n : Nat} (h : t.Frame s ps fs) (hf : autoParam (f.key ∈ fs.map Fld.key) he._autoParam) :
    (t.incSat f n).Frame s ps fs := h.put hf

theorem incWrap {f : Fld} {n : Nat} (h : t.Frame s ps fs) (hf : autoParam (f.key ∈ fs.map Fld.key) he._autoParam) :
    (t.incWrap f n).Frame s ps fs := h.put hf

theorem ite {c : Prop} [Decidable c] {a b : State} (ha : a.Frame s ps fs) (hb : b.Frame s ps fs) :
    (if c then a else b).Frame s ps fs := by
  split
  · exact ha
  · exact hb

theorem foldl {α : Type} {f : State → α → State} (hf : ∀ v x, v.Frame s ps fs → (f v x).Frame s ps fs) (l : List α)
    (h : t.Frame s ps fs) : (l.foldl f t).Frame s ps fs := by
  induction l generalizing t with
  | nil => exact h
  | cons x xs ih => exact ih (hf t x h)

theorem foldlMem {α : Type} {f : State → α → State} (l : List α)
    (hf : ∀ v x, x ∈ l → v.Frame s ps fs → (f v x).Frame s ps fs) (h : t.Frame s ps fs) : (l.foldl f t).Frame s ps fs := by
  induction l generalizing t with
  | nil => exact h
  | cons x xs ih => exact ih (fun v y hy => hf v y (List.mem_cons_of_mem _ hy)) (hf t x List.mem_cons_self h)

theorem foldlFst {α β : Type} {f : State × β → α → State × β} (hf : ∀ a x, a.1.Frame s ps fs → (f a x).1.Frame s ps fs)
    (l : List α) {a : State × β} (h : a.1.Frame s ps fs) : (l.foldl f a).1.Frame s ps fs := by
  induction l generalizing a with
  | nil => exact h
  | cons x xs ih => exact ih (hf a x h)

/-- A larger frame. -/
theorem mono {qs : List Part} {gs : List Fld} (h : t.Frame s ps fs) (hp : autoParam (ps ⊆ qs) he._autoParam)
    (hf : autoParam (fs.map Fld.key ⊆ gs.map Fld.key) he._autoParam) : t.Frame s qs gs :=
  ⟨fun p hn => h.1 p fun hm => hn (hp hm), fun f ho hn => h.2 f ho fun hm => hn (hf hm)⟩

/-- A further operation with a frame of its own. -/
theorem next {qs : List Part} {gs : List Fld} (h : t.Frame s ps fs) (k : u.Frame t qs gs)
    (hp : autoParam (qs ⊆ ps) he._autoParam)
    (hf : autoParam (gs.map Fld.key ⊆ fs.map Fld.key) he._autoParam) : u.Frame s ps fs := h.trans (k.mono hp hf)

theorem fresh {w : Nat} (h : t.Frame s ps fs) : (t.fresh w).2.Frame s ps fs := h.quiet (quiet_free t _)

theorem iteFst {α : Type} {c : Prop} [Decidable c] {a b : State × α} (ha : a.1.Frame s ps fs) (hb : b.1.Frame s ps fs) :
    (if c then a else b).1.Frame s ps fs := by
  split
  · exact ha
  · exact hb

/-- A field outside the frame reads as before. -/
theorem get (h : t.Frame s ps fs) (f : Fld) (ho : autoParam f.OffRecorder he._autoParam)
    (hn : autoParam (f.key ∉ fs.map Fld.key) he._autoParam) :
    t.get f = s.get f := h.2 f ho hn

theorem flag (h : t.Frame s ps fs) (f : Fld) (ho : autoParam f.OffRecorder he._autoParam)
    (hn : autoParam (f.key ∉ fs.map Fld.key) he._autoParam) :
    t.flag f = s.flag f := congrArg (· == 1) (h.get f ho hn)

/-- The parts of the state outside the ports, where one of them changes. -/
theorem step (h : t.Frame s ps fs) (hr : u.regs = t.regs) (hp : ∀ p, p ∉ ps → p.Same u t) : u.Frame s ps fs :=
  h.trans ⟨hp, fun f _ _ => State.get_of_regs hr f⟩

/-- What the ports keep beside their controllers, where no port changes. -/
theorem ports_refl (p : Port) : (t.port p).linkUp = (t.port p).linkUp ∧ (t.port p).mse = (t.port p).mse ∧
    (t.port p).pmrEn = (t.port p).pmrEn ∧ (t.port p).inL1 = (t.port p).inL1 ∧ (t.port p).linkSt = (t.port p).linkSt :=
  ⟨rfl, rfl, rfl, rfl, rfl⟩

theorem withRails {x : Rails} (h : t.Frame s ps fs) (hp : autoParam (Part.rails ∈ ps) he._autoParam) :
    ({ t with rails := x } : State).Frame s ps fs := by
  refine h.step rfl fun q hq => ?_
  cases q
  case rails => exact absurd hp hq
  case ports => exact ports_refl
  all_goals rfl

theorem withBroker {x : Broker} (h : t.Frame s ps fs) (hp : autoParam (Part.broker ∈ ps) he._autoParam) :
    ({ t with broker := x } : State).Frame s ps fs := by
  refine h.step rfl fun q hq => ?_
  cases q
  case broker => exact absurd hp hq
  case ports => exact ports_refl
  all_goals rfl

theorem withPwr {x : Power} (h : t.Frame s ps fs) (hp : autoParam (Part.pwr ∈ ps) he._autoParam) :
    ({ t with pwr := x } : State).Frame s ps fs := by
  refine h.step rfl fun q hq => ?_
  cases q
  case pwr => exact absurd hp hq
  case ports => exact ports_refl
  all_goals rfl

theorem withPmr {x : Pmr} (h : t.Frame s ps fs) (hp : autoParam (Part.pmr ∈ ps) he._autoParam) :
    ({ t with pmr := x } : State).Frame s ps fs := by
  refine h.step rfl fun q hq => ?_
  cases q
  case pmr => exact absurd hp hq
  case ports => exact ports_refl
  all_goals rfl

theorem withCache {x : Cache} (h : t.Frame s ps fs) (hp : autoParam (Part.cache ∈ ps) he._autoParam) :
    ({ t with cache := x } : State).Frame s ps fs := by
  refine h.step rfl fun q hq => ?_
  cases q
  case cache => exact absurd hp hq
  case ports => exact ports_refl
  all_goals rfl

theorem withUmb {x : Umbra} (h : t.Frame s ps fs) (hp : autoParam (Part.umb ∈ ps) he._autoParam) :
    ({ t with umb := x } : State).Frame s ps fs := by
  refine h.step rfl fun q hq => ?_
  cases q
  case umb => exact absurd hp hq
  case ports => exact ports_refl
  all_goals rfl

theorem withVlt {x : VaultSide} (h : t.Frame s ps fs) (hp : autoParam (Part.vlt ∈ ps) he._autoParam) :
    ({ t with vlt := x } : State).Frame s ps fs := by
  refine h.step rfl fun q hq => ?_
  cases q
  case vlt => exact absurd hp hq
  case ports => exact ports_refl
  all_goals rfl

theorem withGrt {x : Grotto} (h : t.Frame s ps fs) (hp : autoParam (Part.grt ∈ ps) he._autoParam) :
    ({ t with grt := x } : State).Frame s ps fs := by
  refine h.step rfl fun q hq => ?_
  cases q
  case grt => exact absurd hp hq
  case ports => exact ports_refl
  all_goals rfl

theorem withFlc {x : Flash} (h : t.Frame s ps fs) (hp : autoParam (Part.flc ∈ ps) he._autoParam) :
    ({ t with flc := x } : State).Frame s ps fs := by
  refine h.step rfl fun q hq => ?_
  cases q
  case flc => exact absurd hp hq
  case ports => exact ports_refl
  all_goals rfl

theorem withDmc {x : Dram} (h : t.Frame s ps fs) (hp : autoParam (Part.dmc ∈ ps) he._autoParam) :
    ({ t with dmc := x } : State).Frame s ps fs := by
  refine h.step rfl fun q hq => ?_
  cases q
  case dmc => exact absurd hp hq
  case ports => exact ports_refl
  all_goals rfl

theorem withEch {x : Echo} (h : t.Frame s ps fs) (hp : autoParam (Part.ech ∈ ps) he._autoParam) :
    ({ t with ech := x } : State).Frame s ps fs := by
  refine h.step rfl fun q hq => ?_
  cases q
  case ech => exact absurd hp hq
  case ports => exact ports_refl
  all_goals rfl

theorem withLan {x : Lantern} (h : t.Frame s ps fs) (hp : autoParam (Part.lan ∈ ps) he._autoParam) :
    ({ t with lan := x } : State).Frame s ps fs := by
  refine h.step rfl fun q hq => ?_
  cases q
  case lan => exact absurd hp hq
  case ports => exact ports_refl
  all_goals rfl

theorem withBoot {x : Boot} (h : t.Frame s ps fs) (hp : autoParam (Part.boot ∈ ps) he._autoParam) :
    ({ t with boot := x } : State).Frame s ps fs := by
  refine h.step rfl fun q hq => ?_
  cases q
  case boot => exact absurd hp hq
  case ports => exact ports_refl
  all_goals rfl

theorem withDeferred {x : List Deferred} (h : t.Frame s ps fs) (hp : autoParam (Part.deferred ∈ ps) he._autoParam) :
    ({ t with deferred := x } : State).Frame s ps fs := by
  refine h.step rfl fun q hq => ?_
  cases q
  case deferred => exact absurd hp hq
  case ports => exact ports_refl
  all_goals rfl

theorem withFlow {x : List (Port × Instr)} (h : t.Frame s ps fs) (hp : autoParam (Part.flow ∈ ps) he._autoParam) :
    ({ t with flow := x } : State).Frame s ps fs := by
  refine h.step rfl fun q hq => ?_
  cases q
  case flow => exact absurd hp hq
  case ports => exact ports_refl
  all_goals rfl

theorem withTest {x : TestPort} (h : t.Frame s ps fs) (hp : autoParam (Part.test ∈ ps) he._autoParam) :
    ({ t with test := x } : State).Frame s ps fs := by
  refine h.step rfl fun q hq => ?_
  cases q
  case test => exact absurd hp hq
  case ports => exact ports_refl
  all_goals rfl

theorem withPortA {x : HostPort} (h : t.Frame s ps fs) (hp : autoParam (Part.ports ∈ ps) he._autoParam) :
    ({ t with host := { t.host with portA := x } } : State).Frame s ps fs := by
  refine h.step rfl fun q hq => ?_
  cases q
  case ports => exact absurd hp hq
  all_goals rfl

theorem setPort {p : Port} {x : HostPort} (h : t.Frame s ps fs) (hp : autoParam (Part.ports ∈ ps) he._autoParam) :
    (t.setPort p x).Frame s ps fs := by
  refine h.step (State.setPort_regs t p x) fun q hq => ?_
  cases q
  case ports => exact absurd hp hq
  all_goals cases p <;> rfl

/-- What the host side holds beside its ports is in no frame. -/
theorem withHost {x : HostSide} (h : t.Frame s ps fs) (ha : autoParam (x.portA = t.host.portA) CuspForm.copy._auto_1)
    (hb : autoParam (x.portB = t.host.portB) CuspForm.copy._auto_1) : ({ t with host := x } : State).Frame s ps fs := by
  refine h.step rfl fun q _ => ?_
  cases q
  case ports =>
    rintro (_ | _)
    · simp only [State.port, ha, and_self]
    · simp only [State.port, hb, and_self]
  all_goals rfl

theorem withHostPorts {x : HostSide} (h : t.Frame s ps fs) (hp : autoParam (Part.ports ∈ ps) he._autoParam) :
    ({ t with host := x } : State).Frame s ps fs := by
  refine h.step rfl fun q hq => ?_
  cases q
  case ports => exact absurd hp hq
  all_goals rfl

theorem withEvr {x : Recorder} (h : t.Frame s ps fs) : ({ t with evr := x } : State).Frame s ps fs := h.quiet (quiet_evr t x)

theorem send {o : Out} (h : t.Frame s ps fs) : (t.send o).Frame s ps fs := h.quiet (quiet_send t o)

theorem ev {b : Block} {c d e : Nat} (h : t.Frame s ps fs) : (t.ev b c d e).Frame s ps fs := h.quiet (quiet_ev t b c d e)

theorem sameRails (h : t.Frame s ps fs) (hp : autoParam (Part.rails ∉ ps) he._autoParam) : t.rails = s.rails := h.1 .rails hp

theorem sameBroker (h : t.Frame s ps fs)
    (hp : autoParam (Part.broker ∉ ps) he._autoParam) : t.broker = s.broker := h.1 .broker hp

theorem samePwr (h : t.Frame s ps fs) (hp : autoParam (Part.pwr ∉ ps) he._autoParam) : t.pwr = s.pwr := h.1 .pwr hp

theorem samePmr (h : t.Frame s ps fs) (hp : autoParam (Part.pmr ∉ ps) he._autoParam) : t.pmr = s.pmr := h.1 .pmr hp

theorem sameCache (h : t.Frame s ps fs) (hp : autoParam (Part.cache ∉ ps) he._autoParam) : t.cache = s.cache := h.1 .cache hp

theorem sameUmb (h : t.Frame s ps fs) (hp : autoParam (Part.umb ∉ ps) he._autoParam) : t.umb = s.umb := h.1 .umb hp

theorem sameVlt (h : t.Frame s ps fs) (hp : autoParam (Part.vlt ∉ ps) he._autoParam) : t.vlt = s.vlt := h.1 .vlt hp

theorem sameGrt (h : t.Frame s ps fs) (hp : autoParam (Part.grt ∉ ps) he._autoParam) : t.grt = s.grt := h.1 .grt hp

theorem sameFlc (h : t.Frame s ps fs) (hp : autoParam (Part.flc ∉ ps) he._autoParam) : t.flc = s.flc := h.1 .flc hp

theorem sameDmc (h : t.Frame s ps fs) (hp : autoParam (Part.dmc ∉ ps) he._autoParam) : t.dmc = s.dmc := h.1 .dmc hp

theorem sameEch (h : t.Frame s ps fs) (hp : autoParam (Part.ech ∉ ps) he._autoParam) : t.ech = s.ech := h.1 .ech hp

theorem sameLan (h : t.Frame s ps fs) (hp : autoParam (Part.lan ∉ ps) he._autoParam) : t.lan = s.lan := h.1 .lan hp

theorem sameBoot (h : t.Frame s ps fs) (hp : autoParam (Part.boot ∉ ps) he._autoParam) : t.boot = s.boot := h.1 .boot hp

theorem sameDeferred (h : t.Frame s ps fs)
    (hp : autoParam (Part.deferred ∉ ps) he._autoParam) : t.deferred = s.deferred := h.1 .deferred hp

theorem sameFlow (h : t.Frame s ps fs) (hp : autoParam (Part.flow ∉ ps) he._autoParam) : t.flow = s.flow := h.1 .flow hp

theorem sameTest (h : t.Frame s ps fs) (hp : autoParam (Part.test ∉ ps) he._autoParam) : t.test = s.test := h.1 .test hp

end State.Frame

end Sys2Proof.Machine
end

section
/-! SUPPORT. The frames of operations that many commands share. -/

namespace Sys2Proof.Machine

theorem frame_leaveGrant (s : State) : s.leaveGrant.Frame s [.broker] [] := by
  unfold State.leaveGrant
  exact .withBroker (.refl _ _ _)

theorem frame_fillBucket (s : State) : s.fillBucket.Frame s [.umb] [Reg.UMB_ENDUR_LEVEL_LEVEL] := by
  unfold State.fillBucket
  exact .ite (.withUmb (.refl _ _ _)) (.putI (.withUmb (.refl _ _ _)))

theorem frame_gcCheck (s : State) (now : Bool) : (s.gcCheck now).Frame s [.grt] [Reg.GRT_STATUS_GC_HELD,
    Reg.GRT_STATUS_GC_ACTIVE] := by
  unfold State.gcCheck
  extract_lets src0
  split
  · exact .refl _ _ _
  · split
    · exact .putB (.putB (.refl _ _ _))
    · split
      · exact .put (.refl _ _ _)
      · split
        · exact .put (.refl _ _ _)
        · split
          · exact .put (.refl _ _ _)
          · exact .put (.put (.withGrt (.refl _ _ _)))

theorem frame_scramble (s : State) (burst : Nat) : (s.scramble burst).Frame s [.cache] [] := by
  unfold State.scramble
  exact .withCache (.fresh (.refl _ _ _))

theorem frame_setSeepRate (s : State) : s.setSeepRate.Frame s [.umb] [Reg.UMB_SEEP_RATE_RATE, Reg.UMB_SEEP_RATE_MODE,
    Reg.UMB_STATUS_SEEP_BORROW] := by
  unfold State.setSeepRate
  exact .putB (.put (.put (.withUmb (.ite (.ev (.ite (.ev (.refl _ _ _)) (.refl _ _ _))) (.ite (.ev (.refl _ _ _)) (.refl _ _
      _))))))

theorem frame_countWait (s : State) : s.countWait.Frame s [.umb] [Reg.UMB_THROTTLE_MS_COUNT] := by
  unfold State.countWait
  exact .ite (.incSat (.withUmb (.refl _ _ _))) (.withUmb (.refl _ _ _))

theorem frame_rehAge (s : State) : s.rehAge.Frame s [] [Reg.UMB_REH_INFO_AGE_H] := by
  unfold State.rehAge
  split
  · exact .put (.refl _ _ _)
  · exact .refl _ _ _

theorem frame_computeFill (s : State) : s.computeFill.Frame s [.umb] [Reg.UMB_ENDUR_FILL_FILL] := by
  unfold State.computeFill
  exact .put (.withUmb (.refl _ _ _))

theorem frame_frame (s : State) (ty : Nat) (flags : Nat) (arg : Nat) (payload : List Byte) : (s.frame ty flags arg
    payload).Frame s [.ech] [] := by
  unfold State.frame
  exact .ite (.send (.withEch (.refl _ _ _))) (.refl _ _ _)

theorem frame_syncHsts (s : State) : s.syncHsts.Frame s [.pmr] [] := by
  unfold State.syncHsts
  extract_lets h src1 s1 note
  have hs1 : s1.Frame s [.pmr] [] := .withPmr (.refl _ _ _)
  exact .ite (.refl _ _ _) (.quiet (.quiet (.ite (.quiet (.ite (.quiet hs1 (quiet_asyncOn _ _ _ _ _)) hs1) (quiet_asyncOn _ _ _
      _ _)) (.ite (.quiet hs1 (quiet_asyncOn _ _ _ _ _)) hs1)) (quiet_evHost _ _ _ _)) (quiet_syncWarn _))

theorem frame_setBlk (s : State) (lun : Nat) (b : Nat) (v : Blk) : (s.setBlk lun b v).Frame s [.grt] [] := by
  unfold State.setBlk
  exact .withGrt (.refl _ _ _)

theorem frame_raise (s : State) (e i : Fld) (n : Nat) : (s.raise e i n).Frame s [] [e] := by
  have h : (s.put e 1).Frame s [] [e] := .put (hf := by simp) (.refl _ _ _)
  unfold State.raise
  exact .ite (.refl _ _ _) (.ite (h.quiet (quiet_msix _ _)) h)

theorem frame_fallback (s : State) (i : Nat) (on : Bool) : (s.fallback i on).Frame s [.umb] [] := by
  unfold State.fallback
  exact .ite (.refl _ _ _) (.ite (.ev (.withUmb (.refl _ _ _))) (.ev (.withUmb (.refl _ _ _))))

theorem frame_topUp (s : State) : s.topUp.Frame s [.umb, .ech] [Reg.UMB_PEER_OUT_GRANULES] := by
  unfold State.topUp
  exact .ite (.next (.put (.withUmb (.refl _ _ _))) (frame_frame _ _ _ _ _)) (.refl _ _ _)

theorem frame_umbRaise (s : State) (f : Fld) : (s.umbRaise f).Frame s [] [f] := by
  unfold State.umbRaise
  exact .next (.refl _ _ _) (frame_raise _ _ _ _) (hf := by simp)

theorem frame_leaveRun (s : State) : s.leaveRun.Frame s [.broker] [Reg.PWR_LEAVE_QUEUE_VAULT] := by
  unfold State.leaveRun
  exact .next (.put (.refl _ _ _)) (frame_leaveGrant _)

theorem frame_coldCapCheck (s : State) : s.coldCapCheck.Frame s [.umb] [Reg.UMB_STATUS_COLD_CAP] := by
  unfold State.coldCapCheck
  exact .next (.ite (.put (.refl _ _ _)) (.refl _ _ _)) (frame_fallback _ _ _)

theorem frame_setLun (s : State) (n : Nat) (l : Lun) : (s.setLun n l).Frame s [.flc] [] := by
  unfold State.setLun
  exact .withFlc (.refl _ _ _)

theorem frame_placeDesc (s : State) (d : Desc) (slot : Bool) : (s.placeDesc d slot).Frame s [.flc] [Reg.FLC_INFLIGHT_PEAK] := by
  unfold State.placeDesc
  exact .ite (.put (.next (.refl _ _ _) (frame_setLun _ _ _))) (.next (.refl _ _ _) (frame_setLun _ _ _))

theorem frame_echoStateSend (s : State) : s.echoStateSend.Frame s [.ech] [] := by
  unfold State.echoStateSend
  exact .ite (.next (.withEch (.refl _ _ _)) (frame_frame _ _ _ _ _)) (.refl _ _ _)

theorem frame_adminDone (s : State) (req : AdminReq) (id : CmdId) (st : NStat) (dw0 : Nat) : (s.adminDone req id st dw0).Frame
    s [] [] := by
  unfold State.adminDone
  split
  · exact .quiet (.refl _ _ _) (quiet_cqePost _ _ _ _ _)
  · exact .send (.refl _ _ _)

theorem frame_setStale (s : State) (stale : Bool) : (s.setStale stale).Frame s [] [Reg.UMB_STATUS_STALE] := by
  unfold State.setStale
  exact .ite (.ev (.put (.refl _ _ _))) (.ite (.ev (.put (.refl _ _ _))) (.refl _ _ _))

theorem frame_queueDesc (s : State) (d : Desc) : (s.queueDesc d).Frame s [.flc] [Reg.FLC_INFLIGHT_PEAK] := by
  unfold State.queueDesc
  extract_lets src0
  split
  · exact .next (.refl _ _ _) (frame_placeDesc _ _ _)
  · exact .withFlc (.refl _ _ _)

theorem frame_echoStateSync (s : State) : s.echoStateSync.Frame s [.ech] [] := by
  unfold State.echoStateSync
  exact .ite (.next (.refl _ _ _) (frame_echoStateSend _)) (.refl _ _ _)

theorem frame_rehAnswer (s : State) (accepted : Bool) : (s.rehAnswer accepted).Frame s [] [] := by
  unfold State.rehAnswer
  exact .foldl (fun _ _ ht => .next ht (frame_adminDone _ _ _ _ _)) _ (.withHost (.refl _ _ _))

theorem frame_gcErase (s : State) : s.gcErase.Frame s [.grt, .flc] [Reg.FLC_INFLIGHT_PEAK] := by
  unfold State.gcErase
  extract_lets src0
  split
  · exact .refl _ _ _
  · exact .ite (.refl _ _ _) (.foldl (fun _ _ ht => .ite (.next (.withFlc ht) (frame_queueDesc _ _)) ht) _ (.withGrt (.refl _ _
      _)))

theorem frame_lanCopy (s : State) : s.lanCopy.Frame s [.lan] [] := by
  unfold State.lanCopy
  exact .ite (.refl _ _ _) (.withLan (.refl _ _ _))

theorem frame_setPmr (s : State) (st : PmrState) : (s.setPmr st).Frame s [.pmr, .ech] [] := by
  unfold State.setPmr
  exact .ite (.refl _ _ _) (.next (.quiet (.withPmr (.refl _ _ _)) (quiet_evHost _ _ _ _)) (frame_echoStateSync _))

theorem frame_setCond (s : State) (c : Nat) : (s.setCond c).Frame s [.pmr, .ech] [] := by
  unfold State.setCond
  exact .ite (.refl _ _ _) (.ite (.next (.quiet (.next (.withPmr (.refl _ _ _)) (frame_syncHsts _)) (quiet_asyncVendor _ _))
      (frame_setPmr _ _)) (.quiet (.next (.withPmr (.refl _ _ _)) (frame_syncHsts _)) (quiet_asyncVendor _ _)))

theorem frame_leaveReadOnly (s : State) : s.leaveReadOnly.Frame s [.pmr, .ech] [] := by
  unfold State.leaveReadOnly
  exact .next (.withPmr (.refl _ _ _)) (frame_setPmr _ _)

theorem frame_journalEntry (s : State) (code : Nat) (lun : Nat) (info : Nat) (b : Nat) (ec : Nat) : (s.journalEntry code lun
    info b ec).Frame s [.grt] [] := by
  unfold State.journalEntry
  exact .withGrt (.refl _ _ _)

theorem frame_leaveDropOp (s : State) (op : LeaveOp) : (s.leaveDropOp op).Frame s [.broker] [] := by
  unfold State.leaveDropOp
  exact .next (.withBroker (.refl _ _ _)) (frame_leaveGrant _)

theorem frame_clearCond (s : State) (c : Nat) : (s.clearCond c).Frame s [.pmr, .ech] [] := by
  unfold State.clearCond
  exact .ite (.ite (.next (.quiet (.next (.withPmr (.refl _ _ _)) (frame_syncHsts _)) (quiet_asyncVendor _ _))
      (frame_leaveReadOnly _)) (.quiet (.next (.withPmr (.refl _ _ _)) (frame_syncHsts _)) (quiet_asyncVendor _ _))) (.refl _ _
      _)

theorem frame_grtSync (s : State) : s.grtSync.Frame s [.grt, .pmr, .ech] [Reg.GRT_SERVICE_LUNS_VAULT,
    Reg.GRT_SERVICE_LUNS_GROTTO, Reg.GRT_SERVICE_CHANNELS, Reg.GRT_VCAP_BYTES, Reg.GRT_ERASED_BYTES, Reg.GRT_BANDS_ERASED,
    Reg.GRT_BANDS_TOTAL, Reg.GRT_RETIRE_SPARES_MIN, Reg.GRT_STATUS_SPARES_LOW, Reg.FLC_STATUS_LUNS_ACTIVE,
    Reg.GRT_STATUS_CAP_RO] := by
  unfold State.grtSync
  exact .ite (.refl _ _ _) (.quiet (.ite (.next (.put (.withGrt (.put (.putB (.put (.put (.put (.put (.put (.put (.put (.put
      (.withGrt (.refl _ _ _)))))))))))))) (frame_setCond _ _)) (.put (.putB (.put (.put (.put (.put (.put (.put (.put (.put
      (.withGrt (.refl _ _ _))))))))))))) (quiet_syncWarn _))

theorem frame_learnOver (s : State) (port : Nat) : (s.learnOver port).Frame s [.lan, .broker] [] := by
  unfold State.learnOver
  exact .next (.next (.withLan (.refl _ _ _)) (frame_lanCopy _)) (frame_leaveDropOp _ _)

theorem frame_openBand (s : State) (place : Nat) (prefer : List (Option Nat)) : (s.openBand place prefer).Frame s [.grt, .pmr,
    .ech] [Reg.GRT_SERVICE_LUNS_VAULT, Reg.GRT_SERVICE_LUNS_GROTTO, Reg.GRT_SERVICE_CHANNELS, Reg.GRT_VCAP_BYTES,
    Reg.GRT_ERASED_BYTES, Reg.GRT_BANDS_ERASED, Reg.GRT_BANDS_TOTAL, Reg.GRT_RETIRE_SPARES_MIN, Reg.GRT_STATUS_SPARES_LOW,
    Reg.FLC_STATUS_LUNS_ACTIVE, Reg.GRT_STATUS_CAP_RO] := by
  unfold State.openBand
  extract_lets blocks b src2 s1
  have hs1 : s1.Frame s [.grt, .pmr, .ech] [Reg.GRT_SERVICE_LUNS_VAULT, Reg.GRT_SERVICE_LUNS_GROTTO, Reg.GRT_SERVICE_CHANNELS,
      Reg.GRT_VCAP_BYTES, Reg.GRT_ERASED_BYTES, Reg.GRT_BANDS_ERASED, Reg.GRT_BANDS_TOTAL, Reg.GRT_RETIRE_SPARES_MIN,
      Reg.GRT_STATUS_SPARES_LOW, Reg.FLC_STATUS_LUNS_ACTIVE, Reg.GRT_STATUS_CAP_RO] := .withGrt (.refl _ _ _)
  split
  · exact .refl _ _ _
  · exact .next (.foldl (fun _ _ ht => (by
      split
      · exact .next ht (frame_setBlk _ _ _ _)
      · exact ht)) _ hs1) (frame_grtSync _)

theorem frame_lanShow (s : State) : s.lanShow.Frame s [] [Reg.LAN_STATUS_OUT_VALID, Reg.LAN_STATUS_OUT_PORT,
    Reg.LAN_STATUS_REST_ACTIVE, Reg.LAN_STATUS_LEARN_ACTIVE, Reg.LAN_STATUS_ALL_LEARNED, Reg.LAN_STATUS_DISAGREE,
    Reg.LAN_LEARN_STATUS_DUE, Reg.LAN_LEARN_STATUS_STEP, Reg.LAN_LEARN_STATUS_PORT] := by
  unfold State.lanShow
  exact .put (.put (.put (.putB (.putB (.putB (.putB (.put (.putB (.refl _ _ _)))))))))

theorem frame_learnHoldOff (s : State) : s.learnHoldOff.Frame s [] [Reg.VLT_STATUS_HOLD] := by
  unfold State.learnHoldOff
  exact .ite (.refl _ _ _) (.put (.refl _ _ _))

theorem frame_setMod (s : State) (n : Nat) (m : Machine.Module) : (s.setMod n m).Frame s [.lan] [] := by
  unfold State.setMod
  exact .withLan (.refl _ _ _)

theorem frame_openBandsN (n : Nat) (s : State) : (State.openBandsN n s).Frame s [.grt, .pmr, .ech] [Reg.GRT_SERVICE_LUNS_VAULT,
    Reg.GRT_SERVICE_LUNS_GROTTO, Reg.GRT_SERVICE_CHANNELS, Reg.GRT_VCAP_BYTES, Reg.GRT_ERASED_BYTES, Reg.GRT_BANDS_ERASED,
    Reg.GRT_BANDS_TOTAL, Reg.GRT_RETIRE_SPARES_MIN, Reg.GRT_STATUS_SPARES_LOW, Reg.FLC_STATUS_LUNS_ACTIVE, Reg.GRT_STATUS_CAP_RO] := by
  induction n generalizing s with
  | zero => exact .refl _ _ _
  | succ n ih => exact .ite (.trans (frame_openBand _ _ _) (ih _)) (.refl _ _ _)

theorem frame_leaveRequest (s : State) (op : LeaveOp) : (s.leaveRequest op).1.Frame s [.broker] [Reg.PWR_LEAVE_QUEUE_REJECTS]
    := by
  unfold State.leaveRequest
  exact .iteFst (.ev (.incSat (.refl _ _ _))) (.next (.withBroker (.refl _ _ _)) (frame_leaveGrant _))

theorem frame_stripeGrant (s : State) (op : LeaveOp) : (s.stripeGrant op).1.Frame s [.broker] [Reg.PWR_LEAVE_QUEUE_REJECTS] :=
    by
  unfold State.stripeGrant
  extract_lets r
  split
  · exact .refl _ _ _
  · split
    · exact .refl _ _ _
    · split
      · exact .iteFst (.next (.refl _ _ _) (frame_leaveRequest _ _)) (.next (.refl _ _ _) (frame_leaveRequest _ _))
      · exact .next (.refl _ _ _) (frame_leaveRequest _ _)

theorem frame_setModSt (s : State) (n : Nat) (st : Nat) (dis : Bool) (chg : Bool) : (s.setModSt n st dis chg).Frame s [.lan]
    [Reg.LAN_Mn_STATUS_STATE n] := by
  unfold State.setModSt
  exact .next (.put (.refl _ _ _) (hf := by simp)) (frame_setMod _ _ _) (hf := by simp)

theorem frame_spendTokens (s : State) (n : Nat) : (s.spendTokens n).Frame s [] [Reg.UMB_ENDUR_LEVEL_LEVEL] := by
  unfold State.spendTokens
  exact .putI (.refl _ _ _)

theorem frame_logStripe (s : State) (b : Band) (x : Stripe) : (s.logStripe b x).Frame s [.grt] [Reg.GRT_SERIAL_NEXT,
    Reg.UMB_ENDUR_LEVEL_LEVEL] := by
  unfold State.logStripe
  exact .next (.put (.withGrt (.refl _ _ _))) (frame_spendTokens _ _)

theorem frame_closeBand (s : State) (num : Nat) (reopen : Bool) : (s.closeBand num reopen).Frame s [.grt, .pmr, .ech]
    [Reg.GRT_SERVICE_LUNS_VAULT, Reg.GRT_SERVICE_LUNS_GROTTO, Reg.GRT_SERVICE_CHANNELS, Reg.GRT_VCAP_BYTES,
    Reg.GRT_ERASED_BYTES, Reg.GRT_BANDS_ERASED, Reg.GRT_BANDS_TOTAL, Reg.GRT_RETIRE_SPARES_MIN, Reg.GRT_STATUS_SPARES_LOW,
    Reg.FLC_STATUS_LUNS_ACTIVE, Reg.GRT_STATUS_CAP_RO] := by
  unfold State.closeBand
  extract_lets src0
  split
  · exact .refl _ _ _
  · split
    · exact .refl _ _ _
    · exact .ite (.next (.withGrt (.refl _ _ _)) (frame_openBand _ _ _)) (.withGrt (.refl _ _ _))

theorem frame_closeFull (s : State) (b : Band) : (s.closeFull b).Frame s [.grt, .pmr, .ech] [Reg.GRT_SERVICE_LUNS_VAULT,
    Reg.GRT_SERVICE_LUNS_GROTTO, Reg.GRT_SERVICE_CHANNELS, Reg.GRT_VCAP_BYTES, Reg.GRT_ERASED_BYTES, Reg.GRT_BANDS_ERASED,
    Reg.GRT_BANDS_TOTAL, Reg.GRT_RETIRE_SPARES_MIN, Reg.GRT_STATUS_SPARES_LOW, Reg.FLC_STATUS_LUNS_ACTIVE,
    Reg.GRT_STATUS_CAP_RO] := by
  unfold State.closeFull
  exact .ite (.next (.refl _ _ _) (frame_closeBand _ _ _)) (.refl _ _ _)

theorem frame_handStripe (s : State) (b : Band) (w : Machine.Writer) (grant : Nat) (rewriteOf : Nat) (vault : Nat) (mk : Nat →
    List Nat → Payload) : (s.handStripe b w grant rewriteOf vault mk).Frame s [.grt, .flc, .pmr, .ech] [Reg.GRT_SERIAL_NEXT,
    Reg.UMB_ENDUR_LEVEL_LEVEL, Reg.FLC_INFLIGHT_PEAK, Reg.GRT_SERVICE_LUNS_VAULT, Reg.GRT_SERVICE_LUNS_GROTTO,
    Reg.GRT_SERVICE_CHANNELS, Reg.GRT_VCAP_BYTES, Reg.GRT_ERASED_BYTES, Reg.GRT_BANDS_ERASED, Reg.GRT_BANDS_TOTAL,
    Reg.GRT_RETIRE_SPARES_MIN, Reg.GRT_STATUS_SPARES_LOW, Reg.FLC_STATUS_LUNS_ACTIVE, Reg.GRT_STATUS_CAP_RO] := by
  unfold State.handStripe
  extract_lets x f s1 src3 s2 s3
  have hs1 : s1.Frame s [.grt, .flc, .pmr, .ech] [Reg.GRT_SERIAL_NEXT, Reg.UMB_ENDUR_LEVEL_LEVEL, Reg.FLC_INFLIGHT_PEAK,
      Reg.GRT_SERVICE_LUNS_VAULT, Reg.GRT_SERVICE_LUNS_GROTTO, Reg.GRT_SERVICE_CHANNELS, Reg.GRT_VCAP_BYTES,
      Reg.GRT_ERASED_BYTES, Reg.GRT_BANDS_ERASED, Reg.GRT_BANDS_TOTAL, Reg.GRT_RETIRE_SPARES_MIN, Reg.GRT_STATUS_SPARES_LOW,
      Reg.FLC_STATUS_LUNS_ACTIVE, Reg.GRT_STATUS_CAP_RO] := .next (.refl _ _ _) (frame_logStripe _ _ _)
  have hs2 : s2.Frame s [.grt, .flc, .pmr, .ech] [Reg.GRT_SERIAL_NEXT, Reg.UMB_ENDUR_LEVEL_LEVEL, Reg.FLC_INFLIGHT_PEAK,
      Reg.GRT_SERVICE_LUNS_VAULT, Reg.GRT_SERVICE_LUNS_GROTTO, Reg.GRT_SERVICE_CHANNELS, Reg.GRT_VCAP_BYTES,
      Reg.GRT_ERASED_BYTES, Reg.GRT_BANDS_ERASED, Reg.GRT_BANDS_TOTAL, Reg.GRT_RETIRE_SPARES_MIN, Reg.GRT_STATUS_SPARES_LOW,
      Reg.FLC_STATUS_LUNS_ACTIVE, Reg.GRT_STATUS_CAP_RO] := .withGrt hs1
  have hs3 : s3.Frame s [.grt, .flc, .pmr, .ech] [Reg.GRT_SERIAL_NEXT, Reg.UMB_ENDUR_LEVEL_LEVEL, Reg.FLC_INFLIGHT_PEAK,
      Reg.GRT_SERVICE_LUNS_VAULT, Reg.GRT_SERVICE_LUNS_GROTTO, Reg.GRT_SERVICE_CHANNELS, Reg.GRT_VCAP_BYTES,
      Reg.GRT_ERASED_BYTES, Reg.GRT_BANDS_ERASED, Reg.GRT_BANDS_TOTAL, Reg.GRT_RETIRE_SPARES_MIN, Reg.GRT_STATUS_SPARES_LOW,
      Reg.FLC_STATUS_LUNS_ACTIVE, Reg.GRT_STATUS_CAP_RO] := .foldl (fun _ _ ht => (by
    split
    · exact .next (.next (.withFlc ht) (frame_setLun _ _ _)) (frame_queueDesc _ _)
    · exact ht)) _ hs2
  exact .next hs3 (frame_closeFull _ _)

theorem frame_learnRetry (s : State) (port : Nat) : (s.learnRetry port).Frame s [.lan] [] := by
  unfold State.learnRetry
  exact .withLan (.refl _ _ _)

theorem frame_lanRaise (s : State) (f : Fld) : (s.lanRaise f).Frame s [] [f] := by
  unfold State.lanRaise
  exact .next (.refl _ _ _) (frame_raise _ _ _ _) (hf := by simp)

theorem frame_learnNote (s : State) (port : Nat) (outcome : Nat) (sigma : Nat) (cap : Nat) : (s.learnNote port outcome sigma
    cap).Frame s [.lan] [Reg.LAN_LEARN_STATUS_LAST_OUTCOME, Reg.LAN_STATUS_LEARN_DONE] := by
  unfold State.learnNote
  exact .next (.put (.next (.refl _ _ _) (frame_setMod _ _ _))) (frame_lanRaise _ _)

theorem frame_learnEnd (s : State) (l : Learn) (outcome : Nat) (sigma : Nat) (cap : Nat) : (s.learnEnd l outcome sigma
    cap).Frame s [.lan, .broker] [Reg.LAN_LEARN_STATUS_LAST_OUTCOME, Reg.LAN_STATUS_LEARN_DONE] := by
  unfold State.learnEnd
  exact .next (.next (.refl _ _ _) (frame_learnOver _ _)) (frame_learnNote _ _ _ _ _)

end Sys2Proof.Machine
end

section
/-! SUPPORT. The horizon that a publication shows. -/

open Sys2Proof

namespace Sys2Proof.Machine

theorem State.clampHorizon_le (s : State) (h : Nat) : s.clampHorizon h ≤ h ∧ s.clampHorizon h ≤ s.reserveClamp ∧
    s.clampHorizon h ≤ s.cacheGrans * 4096 ∧ (s.flag Reg.UMB_STATUS_COLD_CAP = true → s.clampHorizon h ≤ s.coldCap) := by
  simp only [State.clampHorizon, Nat.min_def]
  split
  next => exact ⟨by split_ifs <;> omega, by split_ifs <;> omega, by split_ifs <;> omega, fun _ => by split_ifs <;> omega⟩
  next hc => exact ⟨by split_ifs <;> omega, by split_ifs <;> omega, by split_ifs <;> omega, fun h => absurd h hc⟩

theorem State.riseLimit_le (s : State) (h : Nat) : s.riseLimit h ≤ h := by
  unfold State.riseLimit
  split
  · exact Nat.min_le_left _ _
  · exact Nat.le_refl _

theorem State.riseLimit_le_last {s : State} (h : Nat) (hp : s.umb.published = true) : s.riseLimit h ≤
    s.get Reg.UMB_HORIZON_BYTES + Nat.max (s.get Reg.UMB_HORIZON_BYTES * 2 / 100) (2 ^ 28) := by
  rw [State.riseLimit, if_pos hp]
  exact (Nat.min_le_right _ _).trans (Nat.div_mul_le_self _ _)

/-- What a publication starts from: the flags of the cold-start cap. -/
def State.pubBase (s : State) : State := s.coldCapCheck.fallback 2 false

theorem frame_pubBase (s : State) : s.pubBase.Frame s [.umb] [Reg.UMB_STATUS_COLD_CAP] :=
  .next (frame_coldCapCheck s) (frame_fallback _ _ _)

/-- The horizon that a publication shows: clamped, and under a stale input at or below the last one and the dirty bytes. -/
def State.newHorizon (s : State) (stale : Bool) : Nat :=
  let h := s.clampHorizon (s.horizonOf ((s.get Reg.LAN_ENERGY_E_MJ : Rat) / 1000))
  if stale then Nat.min h (Nat.min (s.get Reg.UMB_HORIZON_BYTES) s.dirtyBytes) else s.riseLimit h

theorem State.newHorizon_le (s : State) (stale : Bool) :
    ∃ raw, s.newHorizon stale ≤ s.clampHorizon raw := by
  refine ⟨s.horizonOf ((s.get Reg.LAN_ENERGY_E_MJ : Rat) / 1000), ?_⟩
  unfold State.newHorizon
  split
  · exact Nat.min_le_left _ _
  · exact s.riseLimit_le _

theorem State.newHorizon_stale_le (s : State) : s.newHorizon true ≤ s.get Reg.UMB_HORIZON_BYTES ∧ s.newHorizon true ≤ s.dirtyBytes := by
  rw [State.newHorizon, if_pos rfl]
  exact ⟨(Nat.min_le_right _ _).trans (Nat.min_le_left _ _), (Nat.min_le_right _ _).trans (Nat.min_le_right _ _)⟩

theorem State.get_withPmrUmb (t : State) (a : Pmr) (b : Umbra) (f : Fld) :
    ({ t with pmr := a, umb := b } : State).get f = t.get f := rfl

theorem State.get_publishHorizon (s : State) (stale : Bool) :
    (s.publishHorizon stale).get Reg.UMB_HORIZON_BYTES = s.pubBase.newHorizon stale % 2 ^ Reg.UMB_HORIZON_BYTES.width := by
  unfold State.publishHorizon State.newHorizon
  extract_lets s0 e raw h3 h cl s1 s2 dfl s3 s4
  have h4 : s4.get Reg.UMB_HORIZON_BYTES = h % 2 ^ Reg.UMB_HORIZON_BYTES.width :=
    (State.get_put_ne _ _ (by decide)).trans (State.get_put_same _ _ _)
  exact (State.get_withPmrUmb s4 _ _ _).trans h4

theorem State.get_publishHorizon_le (s : State) (stale : Bool) :
    (s.publishHorizon stale).get Reg.UMB_HORIZON_BYTES ≤ s.pubBase.newHorizon stale :=
  (s.get_publishHorizon stale).trans_le (Nat.mod_le _ _)

theorem State.flag_setStale (s : State) (stale : Bool) : (s.setStale stale).flag Reg.UMB_STATUS_STALE = stale := by
  have hev (t : State) (c d : Nat) : (t.ev .umb c d 0).flag Reg.UMB_STATUS_STALE = t.flag Reg.UMB_STATUS_STALE :=
    (State.Frame.ev (.refl t [] [])).flag _
  have h1 (t : State) : (t.put Reg.UMB_STATUS_STALE 1).flag Reg.UMB_STATUS_STALE = true :=
    congrArg (· == 1) (State.get_put_same t _ 1)
  have h0 (t : State) : (t.put Reg.UMB_STATUS_STALE 0).flag Reg.UMB_STATUS_STALE = false :=
    congrArg (· == 1) (State.get_put_same t _ 0)
  unfold State.setStale
  cases stale <;> cases h : s.flag Reg.UMB_STATUS_STALE
  · exact h
  · exact (hev _ _ _).trans (h0 s)
  · exact (hev _ _ _).trans (h1 s)
  · exact h

theorem State.publishHorizon_shows (s : State) (stale : Bool) : (s.publishHorizon stale).flag Reg.UMB_STATUS_STALE = stale ∧
    (s.publishHorizon stale).umb.published = true ∧ (s.publishHorizon stale).pmr.firstHorizon = true := by
  unfold State.publishHorizon
  extract_lets s0 e raw h3 h cl s1 s2 dfl s3 s4
  have h4 : s4.Frame s1 [.umb] [Reg.UMB_ENERGY_E_MJ, Reg.UMB_VPOWER_P_MW, Reg.UMB_VRATE_B_MBS, Reg.UMB_STATUS_DEFAULTS,
      Reg.UMB_STATUS_CLAMP_RESERVE, Reg.UMB_STATUS_CLAMP_CACHE, Reg.UMB_HORIZON_BYTES, Reg.UMB_GEN_GEN] :=
    .incWrap (.put (.putB (.putB (.next (.putB (.putR (.putR (.put (.refl _ _ _))))) (frame_fallback _ _ _)))))
  have hs : s4.flag Reg.UMB_STATUS_STALE = stale := (h4.flag _).trans (State.flag_setStale _ stale)
  exact ⟨(congrArg (· == 1) (State.get_withPmrUmb s4 _ _ _)).trans hs, rfl, rfl⟩

theorem State.dirtyBytes_congr {s t : State} (hc : t.cache = s.cache) (hcap : t.capGiB = s.capGiB) (hp : t.pair = s.pair) :
    t.dirtyBytes = s.dirtyBytes := by
  simp only [State.dirtyBytes, State.dirtyOwn, State.dirtyMirror, State.ownGrans, State.cacheGrans, hc, hcap, hp]
  rfl

theorem State.reserveClamp_congr {s t : State} (hf : t.flc = s.flc) (hg : t.grt = s.grt)
    (hb : t.get Reg.GRT_GEOM_BLOCKS = s.get Reg.GRT_GEOM_BLOCKS) (hp : t.get Reg.GRT_GEOM_PAGES = s.get Reg.GRT_GEOM_PAGES)
    (hs : t.get Reg.GRT_GEOM_SUM_PAGES = s.get Reg.GRT_GEOM_SUM_PAGES) : t.reserveClamp = s.reserveClamp := by
  have he : t.erasedOn = s.erasedOn := by
    funext n
    simp only [State.erasedOn, hg, State.blkCount, hb]
  simp only [State.reserveClamp, State.erasedBytes, State.erasedBands, State.vaultChannels, State.activeLuns, he,
    State.bandData, State.bandPages, hf, hp, hs]

end Sys2Proof.Machine
end

section
/-! PROOF. The horizon's clamps. -/

open Sys2Proof Sys2Proof.Machine

/-- Settles O12: the clamps bound the value published, and the flags of a publication are set after everything else. -/
theorem horizonClamps : Obligations.HorizonClamps := by
  refine ⟨State.clampHorizon_le, fun s h => ⟨s.riseLimit_le h, State.riseLimit_le_last h⟩, fun s => ?_, fun s stale => ?_,
    State.publishHorizon_shows⟩
  · have hb := frame_pubBase s
    obtain ⟨hh, hd⟩ := s.pubBase.newHorizon_stale_le
    rw [hb.get Reg.UMB_HORIZON_BYTES] at hh
    rw [State.dirtyBytes_congr hb.sameCache (hb.get Reg.DMC_GEOM_CAP_GIB) (hb.flag Reg.ECH_STATUS_PAIR_MODE)] at hd
    exact ⟨(s.get_publishHorizon_le true).trans hh, (s.get_publishHorizon_le true).trans hd⟩
  · have hb := frame_pubBase s
    obtain ⟨raw, hle⟩ := s.pubBase.newHorizon_le stale
    obtain ⟨-, hr, hc, -⟩ := s.pubBase.clampHorizon_le raw
    rw [State.reserveClamp_congr hb.sameFlc hb.sameGrt (hb.get _) (hb.get _) (hb.get _)] at hr
    rw [State.cacheGrans, State.capGiB, hb.get Reg.DMC_GEOM_CAP_GIB] at hc
    exact ⟨((s.get_publishHorizon_le stale).trans hle).trans hr, ((s.get_publishHorizon_le stale).trans hle).trans hc⟩

end

section
/-! SUPPORT. What a field reads after the update that sets it, and how a clause about a command is proved from its effect. -/

namespace Sys2Proof.Machine

@[simp] theorem State.flag_put_one (s : State) (f : Fld)
    (hw : autoParam (f.width ≠ 0) Float.Model.Format.he._autoParam) : (s.put f 1).flag f = true := by
  rw [State.flag, State.get_put_same, Nat.mod_eq_of_lt (Nat.one_lt_two_pow hw)]
  rfl

@[simp] theorem State.flag_put_zero (s : State) (f : Fld) : (s.put f 0).flag f = false := by
  rw [State.flag, State.get_put_same, Nat.zero_mod]
  rfl

@[simp] theorem State.flag_putB (s : State) (f : Fld) (b : Bool)
    (hw : autoParam (f.width ≠ 0) Float.Model.Format.he._autoParam) : (s.putB f b).flag f = b := by
  cases b
  · exact s.flag_put_zero f
  · exact s.flag_put_one f hw

@[simp] theorem State.get_put_zero (s : State) (f : Fld) : (s.put f 0).get f = 0 := (State.get_put_same s f 0).trans (Nat.zero_mod _)

theorem State.get_put_lt (s : State) (f : Fld) {v : Nat} (h : v < 2 ^ f.width) : (s.put f v).get f = v :=
  (State.get_put_same s f v).trans (Nat.mod_eq_of_lt h)

@[simp] theorem State.get_incSat (s : State) (f : Fld) (n : Nat) : (s.incSat f n).get f = satAdd (2 ^ f.width - 1) (s.get f) n :=
  State.get_put_lt s f ((Nat.min_le_left _ _).trans_lt (Nat.sub_one_lt (Nat.two_pow_pos _).ne'))

theorem Fld.key_fld (off hi lo : Nat) (acc : Access) (rst : Nat) :
    (fld off hi lo acc rst).key = off * 4096 + lo * 64 + (hi + 1 - lo - 1) := rfl

/-- A meaning runs with every property of its effect that finishing the step keeps. -/
theorem runs_of_effect {c : Instr} {s t : State} {P : State → Prop} (h : exec c s = done s t) (hp : P t)
    (hP : ∀ (u : State) (q : List Instr), P u → P ({ u with pending := q } : State).drive) : Runs c s P :=
  runs_of_done h (hP t _ hp)

@[simp] theorem State.flag_raise (s : State) (e i : Fld) (n : Nat)
    (he : autoParam e.OffRecorder Float.Model.Format.he._autoParam)
    (hw : autoParam (e.width ≠ 0) Float.Model.Format.he._autoParam) :
    (s.raise e i n).flag e = true := by
  unfold State.raise
  split
  next h => exact h
  next =>
    dsimp only
    split
    · exact (congrArg (· == 1) (State.get_msix _ n he)).trans (s.flag_put_one e hw)
    · exact s.flag_put_one e hw

/-! What a field reads after an update elsewhere: the rules that `simp (disch := decide)` reads a chain of updates by. -/

@[simp] theorem State.get_mk (t : State) {a b c d e g i j k l m n o p q r u v w x y z} (f : Fld) :
    (State.mk a t.regs b c d e g i j k l m n o p q r u v w x y z).get f = t.get f := rfl

@[simp] theorem State.flag_mk (t : State) {a b c d e g i j k l m n o p q r u v w x y z} (f : Fld) :
    (State.mk a t.regs b c d e g i j k l m n o p q r u v w x y z).flag f = t.flag f := rfl

theorem State.Frame.get_eq {s t : State} {ps : List Part} {fs : List Fld} (h : t.Frame s ps fs) {f : Fld} (ho : f.OffRecorder)
    (hn : f.key ∉ fs.map Fld.key) : t.get f = s.get f := h.2 f ho hn

theorem State.Frame.flag_eq {s t : State} {ps : List Part} {fs : List Fld} (h : t.Frame s ps fs) {f : Fld} (ho : f.OffRecorder)
    (hn : f.key ∉ fs.map Fld.key) : t.flag f = s.flag f := congrArg (· == 1) (h.get_eq ho hn)

section
variable {s : State} {f g : Fld}

@[simp] theorem State.get_put_other (v : Nat) (h : g.key ≠ f.key) : (s.put f v).get g = s.get g := State.get_put_ne s v h

@[simp] theorem State.flag_put_other (v : Nat) (h : g.key ≠ f.key) : (s.put f v).flag g = s.flag g :=
  congrArg (· == 1) (State.get_put_ne s v h)

@[simp] theorem State.get_putB_other (b : Bool) (h : g.key ≠ f.key) : (s.putB f b).get g = s.get g := State.get_put_ne s _ h

@[simp] theorem State.flag_putB_other (b : Bool) (h : g.key ≠ f.key) : (s.putB f b).flag g = s.flag g := s.flag_put_other _ h

@[simp] theorem State.get_putR_other (a : Rat) (h : g.key ≠ f.key) : (s.putR f a).get g = s.get g := State.get_put_ne s _ h

@[simp] theorem State.flag_putR_other (a : Rat) (h : g.key ≠ f.key) : (s.putR f a).flag g = s.flag g := s.flag_put_other _ h

@[simp] theorem State.get_clr_other (h : g.key ≠ f.key) : (s.clr f).get g = s.get g := State.get_put_ne s _ h

@[simp] theorem State.flag_clr_other (h : g.key ≠ f.key) : (s.clr f).flag g = s.flag g := s.flag_put_other _ h

@[simp] theorem State.get_incSat_other (n : Nat) (h : g.key ≠ f.key) : (s.incSat f n).get g = s.get g := State.get_put_ne s _ h

@[simp] theorem State.flag_incSat_other (n : Nat) (h : g.key ≠ f.key) : (s.incSat f n).flag g = s.flag g := s.flag_put_other _ h

@[simp] theorem State.get_incWrap_other (n : Nat) (h : g.key ≠ f.key) : (s.incWrap f n).get g = s.get g := State.get_put_ne s _ h

@[simp] theorem State.flag_incWrap_other (n : Nat) (h : g.key ≠ f.key) : (s.incWrap f n).flag g = s.flag g :=
  s.flag_put_other _ h

@[simp] theorem State.get_raise_other (i : Fld) (n : Nat) (h : g.key ≠ f.key) : (s.raise f i n).get g = s.get g :=
  State.get_raise_ne s i n h

@[simp] theorem State.flag_raise_other (i : Fld) (n : Nat) (h : g.key ≠ f.key) : (s.raise f i n).flag g = s.flag g :=
  congrArg (· == 1) (State.get_raise_ne s i n h)

@[simp] theorem State.get_ev_off {b : Block} {c d e : Nat} (h : f.OffRecorder) : (s.ev b c d e).get f = s.get f :=
  State.get_ev s b c d e h

@[simp] theorem State.flag_ev_off {b : Block} {c d e : Nat} (h : f.OffRecorder) : (s.ev b c d e).flag f = s.flag f :=
  congrArg (· == 1) (State.get_ev s b c d e h)

end

end Sys2Proof.Machine
end

section
/-! PROOF. Foreign queue writes and channel faults. -/

open Sys2Proof Sys2Proof.Machine

/-- A retraining that succeeds counts, and nothing else of the channel changes. -/
theorem State.channelFault_retrained {s : State} {ch : Nat} (h0 : s.get (Reg.FLC_CHn_STATUS_STATE ch) ≠ 0)
    (h3 : s.get (Reg.FLC_CHn_STATUS_STATE ch) ≠ 3) (hv : s.vaulting = false) (hl : lget s.flc.lastFault ch none = none) :
    ∃ x : State, x.Frame s [.flc] [Reg.FLC_STATUS_CH_EV] ∧ x.flag Reg.FLC_STATUS_CH_EV = true ∧ x.flc.luns = s.flc.luns ∧
      s.channelFault ch true = x.incSat (Reg.FLC_CHn_STATUS_RETRAINS ch) 1 := by
  have hf : ((s.ev .flc 0x0002 4 ch).raise Reg.FLC_STATUS_CH_EV Reg.FLC_CTRL_INT_EN 59).Frame s [] [Reg.FLC_STATUS_CH_EV] :=
    .next (.ev (.refl _ _ _)) (frame_raise _ _ _ _)
  have he := State.flag_raise (s.ev .flc 0x0002 4 ch) Reg.FLC_STATUS_CH_EV Reg.FLC_CTRL_INT_EN 59
  unfold State.channelFault
  rw [if_neg (by simp [h0, h3])]
  generalize (s.ev .flc 0x0002 4 ch).raise Reg.FLC_STATUS_CH_EV Reg.FLC_CTRL_INT_EN 59 = x at hf he
  have hv' : ¬ x.vaulting = true := by
    rw [State.vaulting, hf.sameVlt]
    exact Bool.eq_false_iff.1 hv
  dsimp only
  have hl' : lget x.flc.lastFault ch none = none := by rw [hf.sameFlc, hl]
  rw [if_neg hv', hl', if_neg Bool.false_ne_true, State.retrain, if_pos rfl]
  refine ⟨_, ?_, ?_, ?_, rfl⟩
  · exact .withFlc hf.mono
  · exact he
  · show x.flc.luns = s.flc.luns
    rw [hf.sameFlc]

/-- Settles O20: each effect is a few counted or raised fields, and a retraining that succeeds ends after its count. -/
theorem flashFaults : Obligations.FlashFaults := by
  refine ⟨fun r ch s hr => ?_, fun ch s => ?_, fun ch s _ h0 h3 hv hl => ?_⟩
  · refine runs_of_effect (t := ((s.incSat Reg.FLC_FOREIGN_COUNT 1).raise Reg.FLC_STATUS_FOREIGN_EV Reg.FLC_CTRL_INT_EN 59).ev
      .flc 0x0003 5 ch) (congrArg (done s) (if_neg hr)) ?_ fun u q ⟨hc, he, hf⟩ => ⟨hc, he, hf.finish q⟩
    have h1 : (s.incSat Reg.FLC_FOREIGN_COUNT 1).Frame s [] [Reg.FLC_FOREIGN_COUNT, Reg.FLC_STATUS_FOREIGN_EV] :=
      .incSat (.refl _ _ _)
    have h2 := frame_raise (s.incSat Reg.FLC_FOREIGN_COUNT 1) Reg.FLC_STATUS_FOREIGN_EV Reg.FLC_CTRL_INT_EN 59
    have he := State.flag_raise (s.incSat Reg.FLC_FOREIGN_COUNT 1) Reg.FLC_STATUS_FOREIGN_EV Reg.FLC_CTRL_INT_EN 59
    exact ⟨(h2.ev.get Reg.FLC_FOREIGN_COUNT).trans (State.get_incSat _ _ _),
      ((State.Frame.refl _ [] []).ev.flag Reg.FLC_STATUS_FOREIGN_EV).trans he, (h1.next h2).ev⟩
  · exact runs_of_done rfl ⟨(State.Frame.refl s _ _).finish _, rfl⟩
  · obtain ⟨x, hx, hev, hluns, he⟩ := State.channelFault_retrained h0 h3 hv hl
    have hk : (Reg.FLC_CHn_STATUS_RETRAINS ch).key ≠ Reg.FLC_STATUS_CH_EV.key := by
      simp only [Reg.FLC_STATUS_CH_EV, Reg.FLC_CHn_STATUS_RETRAINS, Fld.key_fld]
      omega
    have hk' : (Reg.FLC_CHn_STATUS_RETRAINS ch).OffRecorder := by
      simp only [Fld.OffRecorder, Reg.FLC_CHn_STATUS_RETRAINS, Fld.key_fld]
      omega
    refine runs_of_effect (congrArg (done s) he) ⟨(congrArg (· == 1) (State.get_put_ne _ _ hk.symm)).trans hev,
      (State.get_incSat x _ 1).trans ?_, hluns, (hx.mono (hf := by simp)).put (hf := by simp)⟩ fun u q ⟨ha, hb, hc, hf⟩ => ⟨ha, hb, hc, hf.finish q⟩
    rw [hx.get _ hk' (by simpa using hk)]
    rfl
end

section
/-! SUPPORT. Frames of the operations of a lapse. -/

namespace Sys2Proof.Machine

/-- What an error that a read of the DRAM finds may write: its counts, the capture of the first, and the freeze (R265, R267). -/
def errFields : List Fld := [Reg.DMC_CE_CNT_COUNT, Reg.DMC_ECC_STATUS_POS_EV, Reg.DMC_ECC_STATUS_REWRITE_DROP,
  Reg.DMC_UE_CNT_TOTAL, Reg.DMC_ECC_STATUS_UE_EV, Reg.DMC_FRZ_INFO_BEATS, Reg.DMC_FRZ_INFO_MULTI_POS,
  Reg.DMC_FRZ_INFO_BEAT_UE, Reg.DMC_FRZ_INFO_MERGE, Reg.DMC_FRZ_INFO_PORT, Reg.DMC_FRZ_ADDR_ADDR,
  Reg.DMC_FRZ_STATUS_CAPTURED, Reg.DMC_FRZ_SYNn_SYN 0, Reg.DMC_FRZ_SYNn_SYN 1, Reg.DMC_FRZ_SYNn_SYN 2,
  Reg.DMC_FRZ_SYNn_SYN 3, Reg.DMC_FRZ_STATUS_FROZEN, Reg.DMC_FRZ_STATUS_FREEZE_EV, Reg.DMC_FRZ_STATUS_COVERED,
  Reg.DMC_FRZ_LOSS_GRANULES, Reg.DMC_FRZ_STATUS_SALVAGE]

theorem frame_capture (s : State) (port : DPort) (burst : Nat) (merge : Bool) (multi : Bool) (e : BurstErr) : (s.capture port
    burst merge multi e).Frame s [] errFields := by
  unfold State.capture
  refine .put (.foldlMem _ (fun t n hn ht => ht.put ?_) (.put (.put (.putB (.putB (.putB (.put (.refl _ _ _))))))))
  have hn : n = 0 ∨ n = 1 ∨ n = 2 ∨ n = 3 := by
    have := List.mem_range.1 hn
    omega
  obtain rfl | rfl | rfl | rfl := hn <;> decide

theorem frame_copyFinished (s : State) : s.copyFinished.Frame s [.pmr, .ech] [Reg.VLT_STATUS_RESTORE_DONE,
    Reg.VLT_STATUS_PHASE] := by
  unfold State.copyFinished
  exact .ite (.refl _ _ _) (.ite (.next (.put (.next (.ev (.withPmr (.refl _ _ _))) (frame_raise _ _ _ _))) (frame_setPmr _ _))
      (.put (.next (.ev (.withPmr (.refl _ _ _))) (frame_raise _ _ _ _))))

theorem frame_setEnt (s : State) (g : Nat) (e : MapEnt) : (s.setEnt g e).Frame s [.cache] [] := by
  unfold State.setEnt
  exact .withCache (.refl _ _ _)

theorem frame_poison (s : State) (g : Nat) (mask : Nat) (reason : Nat) : (s.poison g mask reason).Frame s [.pmr, .cache] [] :=
    by
  unfold State.poison
  exact .ite (.withHost (.next (.withPmr (.refl _ _ _)) (frame_setEnt _ _ _))) (.next (.withPmr (.refl _ _ _)) (frame_setEnt _
      _ _))

theorem frame_answerPoison (s : State) (p : Port) (len : Nat) : (s.answerPoison p len).Frame s [] [] := by
  unfold State.answerPoison
  exact .quiet (.send (.refl _ _ _)) (quiet_aer _ _ _)

theorem frame_forwardRead (s : State) (p : Port) (addr : Nat) (len : Nat) : (s.forwardRead p addr len).Frame s [.ech]
    [Reg.ECH_CNT_FWD_COUNT] := by
  unfold State.forwardRead
  exact .ite (.incSat (.next (.withEch (.refl _ _ _)) (frame_frame _ _ _ _ _))) (.withEch (.refl _ _ _))

theorem frame_answerFrozen (s : State) (p : Port) (addr : Nat) (len : Nat) : (s.answerFrozen p addr len).Frame s [.ech]
    [Reg.ECH_CNT_FWD_COUNT] := by
  unfold State.answerFrozen
  exact .ite (.next (.refl _ _ _) (frame_forwardRead _ _ _ _)) (.next (.refl _ _ _) (frame_answerPoison _ _ _))

theorem frame_countPosition (s : State) (key : Nat) : (s.countPosition key).Frame s [.dmc] [Reg.DMC_ECC_STATUS_POS_EV] := by
  unfold State.countPosition
  exact .ite (.quiet (.quiet (.next (.ev (.withDmc (.refl _ _ _))) (frame_raise _ _ _ _)) (quiet_syncWarn _))
      (quiet_asyncVendor _ _)) (.withDmc (.refl _ _ _))

theorem frame_queueRewrite (s : State) (burst : Nat) : (s.queueRewrite burst).Frame s [.dmc] [Reg.DMC_ECC_STATUS_REWRITE_DROP]
    := by
  unfold State.queueRewrite
  exact .ite (.refl _ _ _) (.ite (.withDmc (.refl _ _ _)) (.put (.refl _ _ _)))

theorem frame_uncovered (s : State) : s.uncovered.Frame s [.dmc, .pmr, .ech] [Reg.DMC_FRZ_STATUS_COVERED,
    Reg.DMC_FRZ_LOSS_GRANULES, Reg.DMC_FRZ_STATUS_SALVAGE] := by
  unfold State.uncovered
  exact .ite (.refl _ _ _) (.next (.putB (.put (.put (.withDmc (.refl _ _ _))))) (frame_setCond _ _))

theorem frame_freezeChan (s : State) (ch : Nat) (snap : List Nat × Bool) : (s.freezeChan ch snap).Frame s [.dmc, .pmr, .ech]
    [Reg.DMC_FRZ_STATUS_FROZEN, Reg.DMC_FRZ_STATUS_FREEZE_EV, Reg.DMC_FRZ_STATUS_COVERED, Reg.DMC_FRZ_LOSS_GRANULES,
    Reg.DMC_FRZ_STATUS_SALVAGE] := by
  unfold State.freezeChan
  exact .ite (.refl _ _ _) (.ite (.put (.withDmc (.quiet (.next (.withDmc (.put (.refl _ _ _))) (frame_raise _ _ _ _))
      (quiet_eventWith _ _ _ _ _ _)))) (.next (.quiet (.next (.withDmc (.put (.refl _ _ _))) (frame_raise _ _ _ _))
      (quiet_eventWith _ _ _ _ _ _)) (frame_uncovered _)))

theorem frame_freeze (s : State) (port : DPort) (burst : Nat) (merge : Bool) (multi : Bool) (e : BurstErr) : (s.freeze port
    burst merge multi e).Frame s [.dmc, .pmr, .ech] errFields := by
  unfold State.freeze
  exact .ite (.refl _ _ _) (.next (.ite (.refl _ _ _) (.next (.refl _ _ _) (frame_capture _ _ _ _ _ _))) (frame_freezeChan _ _
      _))

theorem frame_uncorrectable (s : State) (port : DPort) (burst : Nat) (merge : Bool) (multi : Bool) (e : BurstErr) :
    (s.uncorrectable port burst merge multi e).Frame s [.dmc, .pmr, .ech] errFields := by
  unfold State.uncorrectable
  exact .ite (.next (.incSat (.refl _ _ _)) (frame_raise _ _ _ _)) (.next (.next (.incSat (.refl _ _ _)) (frame_raise _ _ _ _))
      (frame_freeze _ _ _ _ _ _))

theorem frame_decodeRead (s : State) (port : DPort) (burst : Nat) (e : BurstErr) (merge : Bool) : (s.decodeRead port burst e
    merge).1.Frame s [.cache, .dmc, .pmr, .ech] errFields := by
  unfold State.decodeRead
  split
  · exact .ite (.next (.refl _ _ _) (frame_scramble _ _)) (.refl _ _ _)
  · extract_lets s1 s2
    have hs1 : s1.Frame s [.cache, .dmc, .pmr, .ech] errFields := .next (.incSat (.refl _ _ _)) (frame_countPosition _ _)
    have hs2 : s2.Frame s [.cache, .dmc, .pmr, .ech] errFields := .ite (.next hs1 (frame_scramble _ _)) hs1
    exact .ite hs2 (.next hs2 (frame_queueRewrite _ _))
  · exact .next (.refl _ _ _) (frame_uncorrectable _ _ _ _ _ _)

theorem frame_readData (s : State) (port : DPort) (addr : Nat) (len : Nat) : (s.readData port addr len).1.Frame s [.cache,
    .dmc, .pmr, .ech] errFields := by
  unfold State.readData
  exact .foldlFst (fun _ _ ha => .iteFst (.next ha (frame_decodeRead _ _ _ _ _)) ha) _ (.refl _ _ _)

theorem frame_answerRead (s : State) (p : Port) (addr : Nat) (len : Nat) : (s.answerRead p addr len).Frame s [.cache, .dmc,
    .pmr, .ech] ([Reg.ECH_CNT_FWD_COUNT] ++ errFields) := by
  unfold State.answerRead
  exact .ite (.next (.refl _ _ _) (frame_answerPoison _ _ _)) (.ite (.send (.next (.refl _ _ _) (frame_readData _ _ _ _)))
      (.next (.next (.refl _ _ _) (frame_readData _ _ _ _)) (frame_answerFrozen _ _ _ _)))

theorem frame_answerFetched (s : State) (r : WaitRead) : (s.answerFetched r).Frame s [.ech, .cache, .dmc, .pmr]
    ([Reg.ECH_CNT_FWD_COUNT] ++ errFields) := by
  unfold State.answerFetched
  exact .ite (.next (.refl _ _ _) (frame_answerFrozen _ _ _ _)) (.next (.refl _ _ _) (frame_answerRead _ _ _ _))

theorem frame_answerWaiting (s : State) (g : Nat) : (s.answerWaiting g).Frame s [.pmr, .ech, .cache, .dmc]
    ([Reg.ECH_CNT_FWD_COUNT] ++ errFields) := by
  unfold State.answerWaiting
  exact .foldl (fun _ _ ht => .next ht (frame_answerFetched _ _)) _ (.withPmr (.refl _ _ _))

theorem frame_loseGran (s : State) (g : Nat) : (s.loseGran g).Frame s [.dmc] [Reg.DMC_FRZ_LOSS_GRANULES] := by
  unfold State.loseGran
  exact .ite (.refl _ _ _) (.ite (.withDmc (.refl _ _ _)) (.put (.withDmc (.refl _ _ _))))

theorem frame_setErr (s : State) (burst : Nat) (e : BurstErr) : (s.setErr burst e).Frame s [.dmc] [] := by
  unfold State.setErr
  exact .withDmc (.refl _ _ _)

theorem frame_writeBurst (s : State) (burst : Nat) : (s.writeBurst burst).Frame s [.dmc] [Reg.DMC_ECC_CTRL_INJ_MODE] := by
  unfold State.writeBurst
  exact .ite (.put (.next (.refl _ _ _) (frame_setErr _ _ _))) (.next (.refl _ _ _) (frame_setErr _ _ _))

theorem frame_storeBurst (s : State) (port : DPort) (burst : Nat) (full : Bool) : (s.storeBurst port burst full).1.Frame s
    [.dmc, .cache, .pmr, .ech] ([Reg.DMC_ECC_CTRL_INJ_MODE] ++ errFields) := by
  unfold State.storeBurst
  exact .iteFst (.next (.refl _ _ _) (frame_writeBurst _ _)) (.ite (.next (.next (.refl _ _ _) (frame_decodeRead _ _ _ _ _))
      (frame_writeBurst _ _)) (.next (.refl _ _ _) (frame_decodeRead _ _ _ _ _)))

theorem frame_storeData (s : State) (port : DPort) (addr : Nat) (data : List Byte) (be : List Bool) : (s.storeData port addr
    data be).1.Frame s [.dmc, .cache, .pmr, .ech] ([Reg.DMC_ECC_CTRL_INJ_MODE] ++ errFields) := by
  unfold State.storeData
  exact .iteFst (.withCache (.iteFst (.refl _ _ _) (.foldlFst (fun _ _ ha => .iteFst (.next ha (frame_storeBurst _ _ _ _)) ha)
      _ (.refl _ _ _)))) (.iteFst (.refl _ _ _) (.foldlFst (fun _ _ ha => .iteFst (.next ha (frame_storeBurst _ _ _ _)) ha) _
      (.refl _ _ _)))

theorem frame_unpoison (s : State) (g : Nat) : (s.unpoison g).Frame s [.pmr, .cache, .ech] [] := by
  unfold State.unpoison
  exact .ite (.quiet (.next (.withPmr (.refl _ _ _)) (frame_setEnt _ _ _)) (quiet_asyncVendor _ _)) (.next (.next (.quiet
      (.next (.withPmr (.refl _ _ _)) (frame_setEnt _ _ _)) (quiet_asyncVendor _ _)) (frame_clearCond _ _)) (frame_clearCond _
      _))

theorem frame_applyWrite (s : State) (g : Nat) (off : Nat) (data : List Byte) (be : List Bool) : (s.applyWrite g off data
    be).Frame s [.dmc, .cache, .pmr, .ech] ([Reg.DMC_ECC_CTRL_INJ_MODE] ++ errFields) := by
  unfold State.applyWrite
  extract_lets r src1 src2 src3
  have hsrc1 : src1.Frame s [.dmc, .cache, .pmr, .ech] ([Reg.DMC_ECC_CTRL_INJ_MODE] ++ errFields) := .next (.refl _ _ _)
      (frame_storeData _ _ _ _ _)
  split
  · exact .next (.next (.refl _ _ _) (frame_storeData _ _ _ _ _)) (frame_loseGran _ _)
  · split
    · exact .ite (.next (.next (.refl _ _ _) (frame_storeData _ _ _ _ _)) (frame_unpoison _ _)) (.withPmr hsrc1)
    · exact .ite (.next (.next (.refl _ _ _) (frame_storeData _ _ _ _ _)) (frame_setEnt _ _ _)) (.next (.refl _ _ _)
        (frame_storeData _ _ _ _ _))

theorem frame_applyHeld (s : State) (g : Nat) : (s.applyHeld g).Frame s [.pmr, .dmc, .cache, .ech] ([Reg.DMC_ECC_CTRL_INJ_MODE]
    ++ errFields) := by
  unfold State.applyHeld
  exact .foldl (fun _ _ ht => .next ht (frame_applyWrite _ _ _ _ _)) _ (.withPmr (.refl _ _ _))

theorem frame_settleGran (s : State) (g : Nat) : (s.settleGran g).Frame s [.pmr, .dmc, .cache, .ech]
    ([Reg.DMC_ECC_CTRL_INJ_MODE, Reg.ECH_CNT_FWD_COUNT] ++ errFields) := by
  unfold State.settleGran
  exact .next (.next (.refl _ _ _) (frame_applyHeld _ _)) (frame_answerWaiting _ _)

theorem frame_startFetch (s : State) (g : Nat) (demand : Bool) : (s.startFetch g demand).Frame s [.cache, .ech]
    [Reg.VLT_DEMAND_CNT_COUNT] := by
  unfold State.startFetch
  extract_lets e s1 s12 tag src4 s2 s3
  have hs1 : s1.Frame s [.cache, .ech] [Reg.VLT_DEMAND_CNT_COUNT] := .next (.refl _ _ _) (frame_setEnt _ _ _)
  have hs12 : s12.Frame s [.cache, .ech] [Reg.VLT_DEMAND_CNT_COUNT] := .next (.refl _ _ _) (frame_setEnt _ _ _)
  have hs2 : s2.Frame s [.cache, .ech] [Reg.VLT_DEMAND_CNT_COUNT] := .withEch hs12
  have hs3 : s3.Frame s [.cache, .ech] [Reg.VLT_DEMAND_CNT_COUNT] := .next hs2 (frame_frame _ _ _ _ _)
  exact .ite (.ite (.incSat hs1) hs1) (.ite (.ite (.incSat hs3) hs3) (.refl _ _ _))

theorem frame_loseRemote (s : State) (g : Nat) : (s.loseRemote g).Frame s [.pmr, .cache, .ech, .dmc]
    ([Reg.DMC_ECC_CTRL_INJ_MODE, Reg.ECH_CNT_FWD_COUNT, Reg.VLT_DEMAND_CNT_COUNT] ++ errFields) := by
  unfold State.loseRemote
  extract_lets e s1
  have hs1 : s1.Frame s [.pmr, .cache, .ech, .dmc] ([Reg.DMC_ECC_CTRL_INJ_MODE, Reg.ECH_CNT_FWD_COUNT,
      Reg.VLT_DEMAND_CNT_COUNT] ++ errFields) := .next (.refl _ _ _) (frame_setEnt _ _ _)
  split
  · exact .next (.next (.next (.refl _ _ _) (frame_poison _ _ _ _)) (frame_setCond _ _)) (frame_settleGran _ _)
  · exact .ite (.ite (.next hs1 (frame_startFetch _ _ _)) hs1) (.next (.next (.refl _ _ _) (frame_setEnt _ _ _))
      (frame_settleGran _ _))

theorem frame_dropRemote (s : State) : s.dropRemote.Frame s [.pmr, .cache, .ech, .dmc] ([Reg.DMC_ECC_CTRL_INJ_MODE,
    Reg.ECH_CNT_FWD_COUNT, Reg.VLT_DEMAND_CNT_COUNT, Reg.VLT_STATUS_RESTORE_DONE, Reg.VLT_STATUS_PHASE] ++ errFields) := by
  unfold State.dropRemote
  exact .ite (.refl _ _ _) (.next (.quiet (.ev (.foldl (fun _ _ ht => .next ht (frame_loseRemote _ _)) _ (.refl _ _ _)))
      (quiet_asyncVendor _ _)) (frame_copyFinished _))

theorem frame_dropRequest (s : State) : s.dropRequest.Frame s [.pwr] [Reg.PWR_STATUS_RETRY] := by
  unfold State.dropRequest
  exact .put (.withPwr (.refl _ _ _))

theorem frame_echoEpoch (s : State) (seq : Nat) (epoch : Nat) : (s.echoEpoch seq epoch).Frame s [.ech] [] := by
  unfold State.echoEpoch
  exact .ite (.next (.withEch (.refl _ _ _)) (frame_frame _ _ _ _ _)) (.refl _ _ _)

theorem State.Frame.withPmrEch {s t : State} {ps : List Part} {fs : List Fld} {a : Pmr} {b : Echo} (h : t.Frame s ps fs) (hpmr
    : autoParam (Part.pmr ∈ ps) Float.Model.Format.he._autoParam)
    (hech : autoParam (Part.ech ∈ ps) Float.Model.Format.he._autoParam) :
    ({ t with pmr := a, ech := b } : State).Frame s ps fs := (h.withPmr (x := a) hpmr).withEch (x := b) hech

theorem frame_completeBarriers (s : State) : s.completeBarriers.Frame s [.pmr, .ech] [] := by
  unfold State.completeBarriers
  extract_lets src0
  split
  · exact .refl _ _ _
  · exact .ite (.refl _ _ _) (.foldl (fun _ _ ht => .send ht) _ (.ite (.withPmr (.refl _ _ _)) (.next (.withPmrEch (.withPmr
      (.refl _ _ _))) (frame_echoEpoch _ _ _))))

theorem frame_completeAll (n : Nat) (s : State) : (State.completeAll n s).Frame s [.pmr, .ech] [] := by
  induction n generalizing s with
  | zero => exact .refl _ _ _
  | succ n ih => exact .trans (frame_completeBarriers s) (ih _)

theorem frame_judgeBarriers (s : State) : s.judgeBarriers.Frame s [.pmr, .ech] [] := by
  unfold State.judgeBarriers
  exact .next (.refl _ _ _) (frame_completeAll _ _)

end Sys2Proof.Machine
end

section
/-! SUPPORT. A command that counts as an activity, in RUN (R379, R380). -/

namespace Sys2Proof.Machine

theorem State.wake_run {s : State} {src : Nat} (h : s.InRun) (hs : src ≠ 0) : s.wake src = s.dropRequest := by
  unfold State.wake
  dsimp only
  rw [h, if_neg (by decide), if_neg (by decide), if_pos hs]

theorem State.touch_run {s : State} {src : Nat} (h : s.InRun) (hs : src ≠ 0) : s.touch src = s.dropRequest := by
  rw [State.touch, if_neg (by rw [h]; decide), if_neg fun k => hs k.1, s.wake_run h hs]

theorem State.wake_run_zero {s : State} (h : s.InRun) : s.wake 0 = s := by
  unfold State.wake
  dsimp only
  rw [h, if_neg (by decide), if_neg (by decide), if_neg (by decide)]

theorem State.touch_run_zero {s : State} (h : s.InRun) : s.touch 0 = s := by
  rw [State.touch, if_neg (by rw [h]; decide), s.wake_run_zero h, ite_self]

theorem State.asleep_of_run {s : State} (h : s.InRun) : s.asleep = false := by
  unfold State.asleep
  rw [h]
  rfl

theorem State.orHold_of {s : State} {p : Port} (h : s.holdsPosted p = false) (c : Instr) (k : State → State) : s.orHold p c k = k s := by
  rw [State.orHold, if_neg (by simp [h])]

theorem State.portLive_of_mem {s : State} {p : Port} (h : s.portMem p = true) : s.portLive p = true := by
  rw [State.portMem, Bool.and_eq_true] at h
  exact h.1

end Sys2Proof.Machine
end

section
/-! PROOF. Barriers. -/

namespace Sys2Proof.Machine

/-- A barrier read with nothing waiting before it is ordered at once. -/
theorem State.barrierRead_run {s : State} {p : Port} (ns : Nat) (hc : s.Claims p) (hn : s.NoneWaiting p) :
    s.barrierRead p ns = (s.atTime ns).dropRequest.orderBarrier p ns := by
  obtain ⟨hrun, hmem, hfc⟩ := hc
  have hrun' : (s.atTime ns).InRun := hrun
  have hq : ((s.atTime ns).dropRequest.portQueue p).isEmpty = true := by
    rw [List.isEmpty_iff]
    cases p <;> exact hn
  have ha : (s.atTime ns).dropRequest.asleep = false := by
    rw [State.asleep, (frame_dropRequest (s.atTime ns)).get Reg.PWR_STATUS_STATE]
    exact State.asleep_of_run hrun'
  have hm : (s.atTime ns).dropRequest.portMem p = true := by
    cases p <;> exact hmem
  rw [State.barrierRead, if_pos (State.portLive_of_mem hmem), State.orHold_of hfc]
  unfold State.barrierArrives
  dsimp only
  rw [State.touch_run hrun' one_ne_zero, hm, hq, ha, if_neg (by decide), if_neg (by decide)]

theorem Pmr.barrierGroup_in {m : Pmr} {g t0 ns : Nat} (hg : m.group = some (g, t0)) (h : t0 ≤ ns) (h' : ns < t0 + 1000) :
    (m.barrierGroup ns).1 = g := by
  simp only [Pmr.barrierGroup, hg]
  rw [if_pos ⟨by omega, h⟩]

theorem Pmr.barrierGroup_after {m : Pmr} {g t0 ns : Nat} (hg : m.group = some (g, t0)) (h : t0 + 1000 ≤ ns) :
    (m.barrierGroup ns).1 = m.nextGroup := by
  simp only [Pmr.barrierGroup, hg]
  rw [if_neg (by omega)]

/-- With one barrier waiting, its group is the barrier and its point the group's. -/
theorem Pmr.groupPoint_single {m : Pmr} {b : Barrier} (h : m.barriers = [b]) : m.groupPoint b.group = b.point := by
  simp [Pmr.groupPoint, h]

theorem State.flag_of_get {s t : State} {f : Fld} (h : t.get f = s.get f) : t.flag f = s.flag f := congrArg (· == 1) h

/-- Entering a state of the link. -/
theorem State.echoState_setEcho {s : State} (st sev : Nat) (h : st < 2 ^ Reg.ECH_STATUS_STATE.width) :
    (s.setEcho st sev).echoState = st := by
  unfold State.setEcho
  split
  next he => exact he
  next =>
    dsimp only
    have h1 : (((s.put Reg.ECH_STATUS_STATE st).ev .ech 0x0001 sev st).raise Reg.ECH_STATUS_STATE_EV Reg.ECH_CTRL_INT_EN
        57).Frame (s.put Reg.ECH_STATUS_STATE st) [.pmr, .ech] [Reg.ECH_STATUS_STATE_EV] :=
      .next (.ev (.refl _ _ _)) (frame_raise _ _ _ _)
    have h2 : (s.put Reg.ECH_STATUS_STATE st).get Reg.ECH_STATUS_STATE = st := State.get_put_lt s _ h
    split
    · exact (h1.get _).trans h2
    · split
      · exact ((h1.next (frame_clearCond _ _)).get _).trans h2
      · exact ((h1.next (frame_setCond _ _)).get _).trans h2

theorem State.echoEpoch_alone {s : State} {seq e : Nat} (h : s.pair = false) : s.echoEpoch seq e = s := by
  rw [State.echoEpoch, if_neg (by simp [State.streaming, h])]

/-- Without a peer a group of one barrier completes: the epoch rises and its point is covered (R41, R43). -/
theorem State.completeBarriers_alone {s : State} {b : Barrier} (hb : s.pmr.barriers = [b]) (hp : s.pair = false) :
    s.completeBarriers.pmr.barriers = [] ∧ s.completeBarriers.pmr.epoch = (s.pmr.epoch + 1) % 2 ^ 32 ∧
      s.completeBarriers.pmr.lastCovered = Nat.max s.pmr.lastCovered b.point ∧ s.completeBarriers.cache = s.cache := by
  have hr : s.barrierRule b.point = .durable := by simp [State.barrierRule, hp]
  unfold State.completeBarriers
  simp only [hb, hr, Pmr.groupPoint_single hb, reduceCtorEq, if_false, beq_self_eq_true, List.filter_cons, List.filter_nil,
    bne_self_eq_false, if_true, Bool.false_eq_true, List.foldl_cons, List.foldl_nil,
    show (BarRule.durable == BarRule.notDurable) = false from rfl]
  rw [State.echoEpoch_alone]
  · exact ⟨rfl, rfl, rfl, rfl⟩
  · exact hp

theorem State.completeBarriers_notMet {s : State} {b : Barrier} (hb : s.pmr.barriers = [b])
    (hr : s.barrierRule b.point = .notMet) : s.completeBarriers = s := by
  unfold State.completeBarriers
  simp only [hb, Pmr.groupPoint_single hb, hr, if_true]

theorem State.barrierRule_unacked {s : State} {n : Nat} (hp : s.pair = true) (hserv : s.peerInService = true)
    (hns : s.ech.nsSeqs = []) (hack : s.get Reg.ECH_SEQ_ACKED_SEQ < n) : s.barrierRule n = .notMet := by
  simp [State.barrierRule, hp, hserv, hns, hack]

theorem State.barrierTurn_over {s : State} {b : Barrier} (hb : s.pmr.barriers = [b]) (hw : s.pmr.windowOver b.group = true) :
    s.barrierTurn = s.completeBarriers := by
  unfold State.barrierTurn
  simp only [hb, hw, if_true]

theorem State.barrierTurn_early {s : State} {b : Barrier} (hb : s.pmr.barriers = [b]) (hw : s.pmr.windowOver b.group = false) :
    s.barrierTurn = s := by
  unfold State.barrierTurn
  simp only [hb, hw, Bool.false_eq_true, if_false]

theorem State.echoState_endSession (s : State) (st sev : Nat) (h : st < 2 ^ Reg.ECH_STATUS_STATE.width) :
    (s.endSession st sev).echoState = st := by
  unfold State.endSession
  dsimp only
  generalize ({ State.put _ Reg.ECH_STATUS_PEER_TRIP 0 with umb := _ } : State) = t
  have hf : (t.setEcho st sev).dropRemote.judgeBarriers.Frame (t.setEcho st sev) [.pmr, .cache, .ech, .dmc]
      ([Reg.DMC_ECC_CTRL_INJ_MODE, Reg.ECH_CNT_FWD_COUNT, Reg.VLT_DEMAND_CNT_COUNT, Reg.VLT_STATUS_RESTORE_DONE,
        Reg.VLT_STATUS_PHASE] ++ errFields) :=
    .next (.next (.refl _ _ _) (frame_dropRemote _)) (frame_judgeBarriers _)
  exact (hf.get _).trans (State.echoState_setEcho st sev h)

/-- A lapse while streaming ends the service (R299, R300). -/
theorem State.echoState_lapse {s : State} (cause : Nat) (h : s.streaming = true) :
    (s.lapse cause).echoState = eLapsed ∨ (s.lapse cause).echoState = eHeld := by
  rw [State.lapse, if_pos h]
  dsimp only
  split
  · exact .inr (State.echoState_endSession _ _ _ (by decide))
  · refine .inl (((frame_judgeBarriers _).get _).trans (State.echoState_setEcho _ _ (by decide)))

end Sys2Proof.Machine
end

section
/-! PROOF. Barriers. -/

open Sys2Proof Sys2Proof.Machine

/-- Settles O10: the group's rule decides whether the oldest group completes, and a lapse leaves the service. -/
theorem barriers : Obligations.Barriers := by
  refine ⟨fun p ns s hc hn he => ?_, fun m g t0 ns => Pmr.barrierGroup_in, fun m g t0 ns => Pmr.barrierGroup_after,
    fun b ns s hb hp hw => ?_, fun b ns s hb hw => ?_, fun b ns s hb hp hserv hns hack => ?_, fun b s hb hr hst => ?_⟩
  · refine runs_of_effect (congrArg (done s) (State.barrierRead_run ns hc hn)) ?_ fun u q h => h
    have he' : ((s.atTime ns).dropRequest.port p).pmrEn = true := by cases p <;> exact he
    have hnow : Nat.max (Nat.max s.pmr.now ns) ns = Nat.max s.pmr.now ns := by simp
    rw [State.orderBarrier, if_pos he']
    refine ⟨?_, rfl⟩
    show s.pmr.barriers ++ [⟨p, s.pmr.nextSeq - 1, (s.pmr.barrierGroup (Nat.max (Nat.max s.pmr.now ns) ns)).1⟩] = _
    rw [hnow]
  · exact runs_of_effect (congrArg (done s) (State.barrierTurn_over hb hw)) (State.completeBarriers_alone hb hp) fun u q h => h
  · exact runs_of_effect (congrArg (done s) (State.barrierTurn_early hb hw)) ⟨rfl, rfl⟩ fun u q h => h
  · refine runs_of_effect (congrArg (done s) ?_) ⟨rfl, rfl⟩ fun u q h => h
    have hr : (s.atTime ns).barrierRule b.point = .notMet :=
      State.barrierRule_unacked (s := s.atTime ns) hp hserv hns hack
    unfold State.barrierTurn
    rw [show (s.atTime ns).pmr.barriers = [b] from hb]
    dsimp only
    rw [State.completeBarriers_notMet (s := s.atTime ns) hb hr, ite_self]
  · refine runs_of_effect (congrArg (done s) ?_) (State.echoState_lapse 0 hst) fun u q h => h
    simp only [hb, Pmr.groupPoint_single hb, hr, if_true]
end

section
/-! SUPPORT. Frames of the root clock's operations and of the leave broker. -/

namespace Sys2Proof.Machine

theorem frame_discardWrite (s : State) (p : Port) : (s.discardWrite p).Frame s [] [] := by
  unfold State.discardWrite
  exact .quiet (.withHost (.refl _ _ _)) (quiet_aer _ _ _)

theorem frame_discardAll (s : State) (p : Port) : (s.discardAll p).Frame s [] [] := by
  unfold State.discardAll
  exact .foldl (fun _ _ ht => (by
    split
    · exact .next ht (frame_discardWrite _ _)
    · exact ht)) _ (.refl _ _ _)

theorem frame_syncThr (s : State) (p : Port) : (s.syncThr p).Frame s [] [Reg.UMB_STATUS_THR_A, Reg.UMB_STATUS_THR_B,
    Reg.UMB_STATUS_THR_EV] := by
  have hp : p.thr.key ∈ [Reg.UMB_STATUS_THR_A, Reg.UMB_STATUS_THR_B, Reg.UMB_STATUS_THR_EV].map Fld.key := by
    cases p <;> decide
  unfold State.syncThr
  exact .ite (.ite (.put (.refl _ _ _) hp) (.refl _ _ _)) (.ite (.next (.put (.refl _ _ _) hp) (frame_raise _ _ _ _)) (.refl _ _ _))

theorem frame_closeIngest (s : State) : s.closeIngest.Frame s [.flow, .pmr, .ech] [Reg.UMB_STATUS_THR_A, Reg.UMB_STATUS_THR_B,
    Reg.UMB_STATUS_THR_EV] := by
  unfold State.closeIngest
  exact .next (.next (.next (.withPmrEch (.next (.next (.withFlow (.refl _ _ _)) (frame_discardAll _ _)) (frame_discardAll _
      _))) (frame_syncThr _ _)) (frame_syncThr _ _)) (frame_setPmr _ _)

theorem frame_failForwards (s : State) : s.failForwards.Frame s [.ech] [] := by
  unfold State.failForwards
  exact .foldl (fun _ _ ht => .next ht (frame_answerPoison _ _ _)) _ (.withEch (.refl _ _ _))

theorem frame_markZone (s : State) (z : Nat) : (s.markZone z).Frame s [.ech] [] := by
  unfold State.markZone
  exact .withEch (.refl _ _ _)

theorem frame_orderBarrier (s : State) (p : Port) (ns : Nat) : (s.orderBarrier p ns).Frame s [.pmr] [] := by
  unfold State.orderBarrier
  exact .ite (.withPmr (.refl _ _ _)) (.send (.refl _ _ _))

theorem frame_refuseRead (s : State) (p : Port) : (s.refuseRead p).Frame s [] [] := by
  unfold State.refuseRead
  exact .quiet (.send (.refl _ _ _)) (quiet_aer _ _ _)

theorem frame_serveRead (s : State) (p : Port) (addr : Nat) (len : Nat) : (s.serveRead p addr len).Frame s [.ech, .cache, .pmr,
    .dmc] ([Reg.ECH_CNT_FWD_COUNT, Reg.VLT_DEMAND_CNT_COUNT] ++ errFields) := by
  unfold State.serveRead
  exact .ite (.next (.refl _ _ _) (frame_answerFrozen _ _ _ _)) (.ite (.withPmr (.next (.refl _ _ _) (frame_startFetch _ _ _)))
      (.ite (.next (.next (.refl _ _ _) (frame_setEnt _ _ _)) (frame_answerRead _ _ _ _)) (.next (.refl _ _ _)
      (frame_answerRead _ _ _ _))))

theorem frame_orderRead (s : State) (p : Port) (addr : Nat) (len : Nat) : (s.orderRead p addr len).Frame s [.ech, .cache, .pmr,
    .dmc] ([Reg.ECH_CNT_FWD_COUNT, Reg.VLT_DEMAND_CNT_COUNT] ++ errFields) := by
  unfold State.orderRead
  exact .ite (.next (.refl _ _ _) (frame_refuseRead _ _)) (.next (.refl _ _ _) (frame_serveRead _ _ _ _))

theorem frame_setPortQueue (s : State) (p : Port) (q : List PortItem) : (s.setPortQueue p q).Frame s [.pmr] [] := by
  cases p
  · exact .withPmr (.refl _ _ _)
  · exact .withPmr (.refl _ _ _)

theorem frame_discardHeads (s : State) (p : Port) (q : List PortItem) : (s.discardHeads p q).Frame s [.ech, .cache, .pmr, .dmc]
    ([Reg.ECH_CNT_FWD_COUNT, Reg.VLT_DEMAND_CNT_COUNT] ++ errFields) := by
  induction q generalizing s with
  | nil => exact (frame_setPortQueue s p []).mono
  | cons i rest ih =>
    cases i with
    | read addr len => exact (frame_orderRead s p addr len).trans (ih _)
    | barrier ns => exact (frame_orderBarrier s p ns).mono.trans (ih _)
    | write addr data be =>
      exact .ite (frame_setPortQueue _ _ _).mono ((frame_discardWrite s p).mono.trans (ih _))

theorem frame_settlePorts (s : State) : s.settlePorts.Frame s [.ech, .cache, .pmr, .dmc] ([Reg.ECH_CNT_FWD_COUNT,
    Reg.VLT_DEMAND_CNT_COUNT, Reg.UMB_STATUS_THR_A, Reg.UMB_STATUS_THR_B, Reg.UMB_STATUS_THR_EV] ++ errFields) := by
  unfold State.settlePorts
  exact .next (.next (.next (.next (.refl _ _ _) (frame_discardHeads _ _ _)) (frame_discardHeads _ _ _)) (frame_syncThr _ _))
      (frame_syncThr _ _)

theorem frame_uncover (s : State) : s.uncover.Frame s [.dmc, .pmr, .ech, .cache] ([Reg.ECH_CNT_FWD_COUNT,
    Reg.VLT_DEMAND_CNT_COUNT, Reg.UMB_STATUS_THR_A, Reg.UMB_STATUS_THR_B, Reg.UMB_STATUS_THR_EV] ++ errFields) := by
  unfold State.uncover
  exact .ite (.refl _ _ _) (.next (.next (.refl _ _ _) (frame_uncovered _)) (frame_settlePorts _))

theorem frame_peerLeaves (s : State) : s.peerLeaves.Frame s [.ech, .dmc, .pmr, .cache] ([Reg.ECH_RESYNC_MODE,
    Reg.ECH_CNT_FWD_COUNT, Reg.VLT_DEMAND_CNT_COUNT, Reg.UMB_STATUS_THR_A, Reg.UMB_STATUS_THR_B, Reg.UMB_STATUS_THR_EV] ++
    errFields) := by
  unfold State.peerLeaves
  exact .ite (.ite (.next (.put (.withEch (.foldl (fun _ _ ht => .next ht (frame_markZone _ _)) _ (.refl _ _ _))))
      (frame_failForwards _)) (.next (.next (.put (.withEch (.foldl (fun _ _ ht => .next ht (frame_markZone _ _)) _ (.refl _ _
      _)))) (frame_failForwards _)) (frame_uncover _))) (.refl _ _ _)

theorem frame_setEcho (s : State) (st : Nat) (sev : Nat) : (s.setEcho st sev).Frame s [.pmr, .ech] [Reg.ECH_STATUS_STATE,
    Reg.ECH_STATUS_STATE_EV] := by
  unfold State.setEcho
  exact .ite (.refl _ _ _) (.ite (.next (.ev (.put (.refl _ _ _))) (frame_raise _ _ _ _)) (.ite (.next (.next (.ev (.put (.refl
      _ _ _))) (frame_raise _ _ _ _)) (frame_clearCond _ _)) (.next (.next (.ev (.put (.refl _ _ _))) (frame_raise _ _ _ _))
      (frame_setCond _ _))))

theorem frame_endSession (s : State) (next : Nat) (sev : Nat) : (s.endSession next sev).Frame s [.ech, .dmc, .pmr, .cache,
    .umb] ([Reg.ECH_RESYNC_MODE, Reg.ECH_CNT_FWD_COUNT, Reg.VLT_DEMAND_CNT_COUNT, Reg.UMB_STATUS_THR_A, Reg.UMB_STATUS_THR_B,
    Reg.UMB_STATUS_THR_EV, Reg.ECH_LINK_UP, Reg.ECH_LINK_RATE, Reg.ECH_LINK_WIDTH, Reg.UMB_PEER_OUT_GRANULES,
    Reg.ECH_STATUS_PEER_TRIP, Reg.ECH_STATUS_STATE, Reg.ECH_STATUS_STATE_EV, Reg.DMC_ECC_CTRL_INJ_MODE,
    Reg.VLT_STATUS_RESTORE_DONE, Reg.VLT_STATUS_PHASE] ++ errFields) := by
  unfold State.endSession
  exact .next (.next (.next (.withUmb (.put (.put (.put (.put (.put (.withEch (.next (.refl _ _ _) (frame_peerLeaves _)))))))))
      (frame_setEcho _ _ _)) (frame_dropRemote _)) (frame_judgeBarriers _)

theorem frame_leaveReturn (s : State) (id : Nat) : (s.leaveReturn id).Frame s [.broker] [] := by
  unfold State.leaveReturn
  exact .next (.withBroker (.refl _ _ _)) (frame_leaveGrant _)

theorem frame_markAllZones (s : State) : s.markAllZones.Frame s [.ech] [] := by
  unfold State.markAllZones
  exact .withEch (.refl _ _ _)

theorem frame_openStream (s : State) : s.openStream.Frame s [.ech] [] := by
  unfold State.openStream
  exact .next (.withEch (.refl _ _ _)) (frame_frame _ _ _ _ _)

theorem frame_resyncCheck (s : State) : s.resyncCheck.Frame s [.ech, .pmr] [Reg.ECH_STATUS_STATE, Reg.ECH_STATUS_STATE_EV,
    Reg.ECH_RESYNC_MODE, Reg.ECH_STATUS_RESYNC_DONE] := by
  unfold State.resyncCheck
  extract_lets src0 s1
  have hs1 : s1.Frame s [.ech, .pmr] [Reg.ECH_STATUS_STATE, Reg.ECH_STATUS_STATE_EV, Reg.ECH_RESYNC_MODE,
      Reg.ECH_STATUS_RESYNC_DONE] := .withEch (.refl _ _ _)
  split
  · exact .ite (.next (.put (.next hs1 (frame_setEcho _ _ _))) (frame_raise _ _ _ _)) (.refl _ _ _)
  · exact .refl _ _ _

theorem frame_resyncEnd (s : State) : s.resyncEnd.Frame s [.ech, .pmr] [Reg.ECH_STATUS_STATE, Reg.ECH_STATUS_STATE_EV,
    Reg.ECH_RESYNC_MODE, Reg.ECH_STATUS_RESYNC_DONE] := by
  unfold State.resyncEnd
  extract_lets sEnd src1 s1
  have hs1 : s1.Frame s [.ech, .pmr] [Reg.ECH_STATUS_STATE, Reg.ECH_STATUS_STATE_EV, Reg.ECH_RESYNC_MODE,
      Reg.ECH_STATUS_RESYNC_DONE] := .withEch (.refl _ _ _)
  split
  · exact .refl _ _ _
  · exact .next (.next hs1 (frame_frame _ _ _ _ _)) (frame_resyncCheck _)

theorem frame_beginResync (s : State) (full : Bool) : (s.beginResync full).Frame s [.ech, .pmr] [Reg.ECH_STATUS_STATE,
    Reg.ECH_STATUS_STATE_EV, Reg.ECH_RESYNC_MODE, Reg.ECH_SEQ_SENT_SEQ, Reg.ECH_STATUS_RESYNC_DONE] := by
  unfold State.beginResync
  exact .next (.put (.next (.next (.withEch (.put (.next (.ite (.next (.refl _ _ _) (frame_markAllZones _)) (.refl _ _ _))
      (frame_setEcho _ _ _)))) (frame_frame _ _ _ _ _)) (frame_openStream _))) (frame_resyncEnd _)

theorem frame_resyncTurn (s : State) : s.resyncTurn.Frame s [.ech, .pmr] [Reg.ECH_STATUS_STATE, Reg.ECH_STATUS_STATE_EV,
    Reg.ECH_RESYNC_MODE, Reg.ECH_SEQ_SENT_SEQ, Reg.ECH_STATUS_RESYNC_DONE] := by
  unfold State.resyncTurn
  extract_lets src0
  split
  · exact .refl _ _ _
  · exact .ite (.next (.ite (.withEch (.refl _ _ _)) (.refl _ _ _)) (frame_beginResync _ _)) (.refl _ _ _)

theorem frame_sendVinfo (s : State) (need : Bool) : (s.sendVinfo need).Frame s [.ech] [] := by
  unfold State.sendVinfo
  exact .next (.withEch (.refl _ _ _)) (frame_frame _ _ _ _ _)

theorem frame_vinfoTurn (s : State) : s.vinfoTurn.Frame s [.ech] [] := by
  unfold State.vinfoTurn
  exact .ite (.next (.refl _ _ _) (frame_sendVinfo _ _)) (.refl _ _ _)

theorem frame_syncTurn (s : State) : s.syncTurn.Frame s [.ech, .pmr] [Reg.ECH_STATUS_STATE, Reg.ECH_STATUS_STATE_EV,
    Reg.ECH_RESYNC_MODE, Reg.ECH_SEQ_SENT_SEQ, Reg.ECH_STATUS_RESYNC_DONE] := by
  unfold State.syncTurn
  exact .next (.next (.refl _ _ _) (frame_vinfoTurn _)) (frame_resyncTurn _)

theorem frame_openPmr (s : State) : s.openPmr.Frame s [.pmr, .umb, .ech] [Reg.VLT_STATUS_RESTORE_DONE, Reg.VLT_STATUS_PHASE,
    Reg.ECH_STATUS_STATE, Reg.ECH_STATUS_STATE_EV, Reg.ECH_RESYNC_MODE, Reg.ECH_SEQ_SENT_SEQ, Reg.ECH_STATUS_RESYNC_DONE] := by
  unfold State.openPmr
  exact .next (.next (.next (.next (.withPmr (.refl _ _ _)) (frame_fallback _ _ _)) (frame_setPmr _ _)) (frame_copyFinished _))
      (frame_syncTurn _)

theorem frame_selfRefresh (s : State) : s.selfRefresh.Frame s [.dmc] [Reg.DMC_ECC_CTRL_INJ_MODE, Reg.SYS_STATUS_SR_VALID] := by
  unfold State.selfRefresh
  exact .put (.withDmc (.foldl (fun _ _ ht => .next ht (frame_writeBurst _ _)) _ (.refl _ _ _)))

theorem frame_setDom (s : State) (d : Domain) (v : DomSt) : (s.setDom d v).Frame s [.pwr] [] := by
  unfold State.setDom
  exact .withPwr (.refl _ _ _)

end Sys2Proof.Machine
end

section
/-! SUPPORT. The root clock and the leave broker. -/

namespace Sys2Proof.Machine

theorem State.pmr_st_setPmr (s : State) (st : PmrState) : (s.setPmr st).pmr.st = st := by
  unfold State.setPmr
  split
  next h => exact h
  next =>
    have hf (t : State) (n : Nat) : ((t.evHost 0x0001 2 n).echoStateSync).Frame t [.ech] [] :=
      .next (.quiet (.refl _ _ _) (quiet_evHost _ _ _ _)) (frame_echoStateSync _)
    exact congrArg Pmr.st (hf _ _).samePmr

@[simp] theorem State.closeIngest_closed (s : State) : s.closeIngest.pmr.st = .closed := State.pmr_st_setPmr _ _

/-- A first fault of the root clock closes the PMR and is shown and counted (R27). -/
theorem State.clockFault_first {s : State} (hf : s.flag Reg.CLK_STATUS_FAULT = false) (hl : s.flag Reg.CLK_STATUS_LOCK = true) :
    s.clockFault.flag Reg.CLK_STATUS_FAULT = true ∧ s.clockFault.flag Reg.CLK_STATUS_SUP_BACKUP = true ∧
      s.clockFault.flag Reg.CLK_STATUS_FAULT_EV = true ∧ s.clockFault.pmr.st = .closed ∧ s.clockFault.pwr.relocking = true ∧
      s.clockFault.get Reg.CLK_FAULT_CNT_FAULTS =
        satAdd (2 ^ Reg.CLK_FAULT_CNT_FAULTS.width - 1) (s.get Reg.CLK_FAULT_CNT_FAULTS) 1 := by
  unfold State.clockFault
  rw [if_neg (by simp [hf, hl])]
  simp (disch := decide) [(frame_closeIngest s).get_eq]

theorem State.faultPin_of_clock {s : State} (h : s.flag Reg.CLK_STATUS_FAULT = true ∨ s.flag Reg.CLK_STATUS_HOLD = true) :
    s.faultPin = true ∧ s.alertPin = true := by
  obtain h | h := h <;> simp [State.faultPin, State.alertPin, h]

/-- What a window of the clock monitor shows of its count. -/
def State.clockShown (s : State) (count : Nat) : State :=
  ((s.put Reg.CLK_MON_COUNT count).put Reg.CLK_MON_RANGE_MAX (Nat.max (s.get Reg.CLK_MON_RANGE_MAX) (count % 65536))).put
      Reg.CLK_MON_RANGE_MIN (Nat.min (s.get Reg.CLK_MON_RANGE_MIN) (count % 65536))

theorem State.clockWindow_eq {s : State} {count : Nat} (ha : s.domOn .aon = true) : s.clockWindow count =
    if 24292 ≤ count ∧ count ≤ 24536 then { s.clockShown count with pwr := { s.pwr with badWindows := 0 } }
    else if s.pwr.badWindows = 0 then { s.clockShown count with pwr := { s.pwr with badWindows := 1 } }
    else (s.clockShown count).clockFault := by
  rw [State.clockWindow, if_neg (by simp [ha])]
  rfl

theorem frame_clockShown (s : State) (count : Nat) :
    (s.clockShown count).Frame s [] [Reg.CLK_MON_COUNT, Reg.CLK_MON_RANGE_MAX, Reg.CLK_MON_RANGE_MIN] :=
  .put (.put (.put (.refl _ _ _)))

theorem State.clockWindow_good {s : State} {count : Nat} (ha : s.domOn .aon = true) (hlo : 24292 ≤ count) (hhi : count ≤ 24536) :
    (s.clockWindow count).get Reg.CLK_MON_COUNT = count ∧ (s.clockWindow count).pwr = { s.pwr with badWindows := 0 } ∧
      (s.clockWindow count).get Reg.CLK_MON_RANGE_MAX = Nat.max (s.get Reg.CLK_MON_RANGE_MAX) count % 65536 ∧
      (s.clockWindow count).get Reg.CLK_MON_RANGE_MIN = Nat.min (s.get Reg.CLK_MON_RANGE_MIN) count ∧
      (s.clockWindow count).Frame s [.pwr] [Reg.CLK_MON_COUNT, Reg.CLK_MON_RANGE_MAX, Reg.CLK_MON_RANGE_MIN] := by
  have hmod : count % 65536 = count := Nat.mod_eq_of_lt (by omega)
  rw [State.clockWindow_eq ha, if_pos ⟨hlo, hhi⟩]
  refine ⟨?_, rfl, ?_, ?_, .withPwr (frame_clockShown s count).mono⟩
  · simp (disch := decide) only [State.get_mk, State.clockShown, State.get_put_ne, State.get_put_same]
    exact hmod
  · simp (disch := decide) only [State.get_mk, State.clockShown, State.get_put_ne, State.get_put_same, hmod]
    rfl
  · simp (disch := decide) only [State.get_mk, State.clockShown, State.get_put_same, hmod]
    exact Nat.mod_eq_of_lt ((Nat.min_le_right _ _).trans_lt (by omega : count < 2 ^ 16))

theorem State.clockWindow_bad {s : State} {count : Nat} (ha : s.domOn .aon = true) (h : count < 24292 ∨ 24536 < count)
    (hb : s.pwr.badWindows = 0) : (s.clockWindow count).pwr = { s.pwr with badWindows := 1 } ∧ (s.clockWindow count).pmr = s.pmr ∧
      (s.clockWindow count).flag Reg.CLK_STATUS_FAULT = s.flag Reg.CLK_STATUS_FAULT := by
  rw [State.clockWindow_eq ha, if_neg (by omega), if_pos hb]
  exact ⟨rfl, rfl, (frame_clockShown s count).flag_eq (by decide) (by decide)⟩

/-- The second bad window in a row is a fault (R25). -/
theorem State.clockWindow_worse {s : State} {count : Nat} (ha : s.domOn .aon = true) (h : count < 24292 ∨ 24536 < count)
    (hb : s.pwr.badWindows = 1) : s.clockWindow count = (s.clockShown count).clockFault := by
  rw [State.clockWindow_eq ha, if_neg (by omega), if_neg (by omega)]

/-! The leave broker. -/

theorem grantLoop_sum (room held : Nat) (l : List Leave) :
    held + ((grantLoop room held l).map (fun x => x.cost)).sum ≤ Nat.max held room := by
  induction l generalizing held with
  | nil => simp [grantLoop]
  | cons x xs ih =>
    unfold grantLoop
    split
    next hx =>
      have := ih (held + x.cost)
      simp only [List.map_cons, List.sum_cons, Nat.max_def] at this ⊢
      split_ifs at this ⊢ <;> omega
    next => simp

theorem grantLoop_subset (room held : Nat) (l : List Leave) : grantLoop room held l ⊆ l := by
  induction l generalizing held with
  | nil => exact List.Subset.refl _
  | cons x xs ih =>
    unfold grantLoop
    split
    · exact List.cons_subset_cons x (ih _)
    · exact List.nil_subset _

theorem Broker.mem_order {b : Broker} {v : Bool} {l : Leave} (h : l ∈ b.order v) : l ∈ b.queue := by
  simp only [Broker.order, List.mem_append, List.mem_flatten, List.mem_map] at h
  obtain h | ⟨_, ⟨p, -, rfl⟩, h⟩ := h
  · split at h
    · exact absurd h List.not_mem_nil
    · exact (List.mem_filter.1 h).1
  · have h := (List.mem_filter.1 h).1
    split at h
    · exact h
    · exact (List.mem_filter.1 h).1

/-- What a grant takes out of the queue. -/
def State.grants (s : State) : List Leave :=
  grantLoop (s.leaveBudget - s.get Reg.PWR_LEAVE_BUDGET_BASE_MW) s.broker.heldMw
    ((s.broker.order s.vaulting).filter (fun l => !s.rehearsing || l.op.cls == .vault))

theorem State.leaveGrant_eq (s : State) : s.leaveGrant = { s with broker := { s.broker with
    held := s.broker.held ++ s.grants, queue := s.broker.queue.filter (fun l => !(s.grants.any (fun x => x.id == l.id))) } } := rfl

theorem State.grants_subset (s : State) : s.grants ⊆ s.broker.queue := fun _ h =>
  Broker.mem_order (List.mem_filter.1 (grantLoop_subset _ _ _ h)).1

theorem Broker.heldMw_eq (b : Broker) : b.heldMw = (b.held.map (fun l => l.cost)).sum := by
  rw [Broker.heldMw, List.sum_eq_foldl]

/-- Granting keeps the held power at or below the budget. -/
theorem State.heldMw_leaveGrant_le (s : State) : s.leaveGrant.broker.heldMw ≤
    Nat.max s.broker.heldMw (s.leaveBudget - s.get Reg.PWR_LEAVE_BUDGET_BASE_MW) := by
  rw [State.leaveGrant_eq, Broker.heldMw_eq, List.map_append, List.sum_append, ← Broker.heldMw_eq s.broker]
  exact grantLoop_sum _ _ _

/-- A request with an id of its own is held or stays queued. -/
theorem State.mem_leaveGrant {s : State} {l : Leave} (hl : l ∈ s.broker.queue) (hid : ∀ x ∈ s.broker.queue, x.id = l.id → x = l) :
    l ∈ s.leaveGrant.broker.held ++ s.leaveGrant.broker.queue := by
  rw [State.leaveGrant_eq, List.mem_append, List.mem_append, List.mem_filter]
  by_cases h : s.grants.any (fun x => x.id == l.id) = true
  · obtain ⟨x, hx, hxl⟩ := List.any_eq_true.1 h
    exact .inl (.inr (hid x (s.grants_subset hx) (eq_of_beq hxl) ▸ hx))
  · exact .inr ⟨hl, by simpa using h⟩

theorem State.of_mem_leaveGrant {s : State} {l : Leave} (h : l ∈ s.leaveGrant.broker.held ++ s.leaveGrant.broker.queue) :
    l ∈ s.broker.held ++ s.broker.queue := by
  rw [State.leaveGrant_eq, List.mem_append, List.mem_append, List.mem_filter] at h
  rw [List.mem_append]
  obtain (h | h) | h := h
  · exact .inl h
  · exact .inr (s.grants_subset h)
  · exact .inr h.1

/-- The state with a request for leave at the end of the queue. -/
def State.queued (s : State) (op : LeaveOp) : State :=
  { s with broker := { s.broker with
      queue := s.broker.queue ++ [⟨s.broker.nextId, op, s.leaveCost op, false⟩], nextId := s.broker.nextId + 1 } }

/-- A queued request marked as aged. -/
def Leave.age (id : Nat) (l : Leave) : Leave := if l.id = id then { l with aged := true } else l

theorem filter_aged {q : List Leave} {l : Leave} (hq : q.filter (fun x => x.id == l.id) = [l]) (ha : ∀ x ∈ q, x.aged = false) :
    (q.map (Leave.age l.id)).filter (fun x => x.aged) = [{ l with aged := true }] := by
  have hp : ∀ x ∈ q, ((fun x : Leave => x.aged) ∘ Leave.age l.id) x = (x.id == l.id) := by
    intro x hx
    by_cases h : x.id = l.id <;> simp [Leave.age, h, ha x hx]
  rw [List.filter_map, List.filter_congr hp, hq]
  simp [Leave.age]

/-- The first request in order is granted when it fits. -/
theorem State.mem_held_first {s : State} {l : Leave} {rest : List Leave} (ho : s.broker.order s.vaulting = l :: rest)
    (hr : s.rehearsing = false) (hfit : s.broker.heldMw + l.cost ≤ s.leaveBudget - s.get Reg.PWR_LEAVE_BUDGET_BASE_MW) :
    l ∈ s.leaveGrant.broker.held := by
  have hg : s.grants = l :: grantLoop (s.leaveBudget - s.get Reg.PWR_LEAVE_BUDGET_BASE_MW) (s.broker.heldMw + l.cost) rest := by
    simp [State.grants, ho, hr, grantLoop, hfit]
  rw [State.leaveGrant_eq, List.mem_append, hg]
  exact .inr List.mem_cons_self

/-- Outside a vault the one aged request comes first. -/
theorem Broker.order_aged {b : Broker} {l : Leave} (hq : b.queue.filter (fun x => x.id == l.id) = [l])
    (ha : ∀ x ∈ b.queue, x.aged = false) :
    ∃ rest, ({ b with queue := b.queue.map (Leave.age l.id) } : Broker).order false = { l with aged := true } :: rest :=
  ⟨_, by rw [Broker.order, if_neg Bool.false_ne_true, filter_aged hq ha]; rfl⟩

/-! Opening the PMR. -/

/-- The PMR is not CLOSED: a property that what follows an opening keeps. -/
abbrev State.PmrOpen (s : State) : Prop := s.pmr.st ≠ .closed

theorem State.PmrOpen.of_pmr {s t : State} (h : s.PmrOpen) (e : t.pmr = s.pmr) : t.PmrOpen := by
  rw [State.PmrOpen, e]
  exact h

theorem State.pmrOpen_setPmr (s : State) {st : PmrState} (h : st ≠ .closed) : (s.setPmr st).PmrOpen := by
  rw [State.PmrOpen, State.pmr_st_setPmr]
  exact h

theorem State.PmrOpen.copyFinished {s : State} (h : s.PmrOpen) : s.copyFinished.PmrOpen := by
  unfold State.copyFinished
  split
  · exact h
  · dsimp only
    split
    · exact State.pmrOpen_setPmr _ (by decide)
    · simpa [State.PmrOpen] using h

theorem State.PmrOpen.syncHsts {s : State} (h : s.PmrOpen) : s.syncHsts.PmrOpen := by
  have hn (t : State) (p : Port) : (if (t.port p).pmrEn && bitOf (mgetD (t.nvme p).feats 0x0B 0) 5 then t.asyncOn p 1 0 0x02
      else t).Frame t [] [] := .ite (.quiet (.refl _ _ _) (quiet_asyncOn _ _ _ _ _)) (.refl _ _ _)
  unfold State.syncHsts
  dsimp only
  split
  · exact h
  · refine State.PmrOpen.of_pmr (s := { s with pmr := { s.pmr with hsts := hstsOf s.pmr.conds } }) h ?_
    exact State.Frame.samePmr (((hn _ .a).trans (hn _ .b)).quiet (quiet_evHost _ _ _ _) |>.quiet (quiet_syncWarn _))

theorem State.PmrOpen.setCond {s : State} (h : s.PmrOpen) (c : Nat) : (s.setCond c).PmrOpen := by
  unfold State.setCond
  split
  · exact h
  · dsimp only
    split
    · exact State.pmrOpen_setPmr _ (by decide)
    · refine State.PmrOpen.of_pmr (State.PmrOpen.syncHsts (s := { s with pmr := { s.pmr with conds := s.pmr.conds ++ [c] } }) h) ?_
      exact (quiet_asyncVendor _ _).pmr

theorem State.PmrOpen.clearCond {s : State} (h : s.PmrOpen) (c : Nat) : (s.clearCond c).PmrOpen := by
  unfold State.clearCond
  split
  · dsimp only
    split
    · unfold State.leaveReadOnly
      split
      · exact State.pmrOpen_setPmr _ (by decide)
      · exact State.pmrOpen_setPmr _ (by decide)
    · refine State.PmrOpen.of_pmr (State.PmrOpen.syncHsts
        (s := { s with pmr := { s.pmr with conds := s.pmr.conds.filter (fun x => x != c) } }) h) ?_
      exact (quiet_asyncVendor _ _).pmr
  · exact h

theorem State.PmrOpen.setEcho {s : State} (h : s.PmrOpen) (st sev : Nat) : (s.setEcho st sev).PmrOpen := by
  unfold State.setEcho
  split
  · exact h
  · dsimp only
    have h1 : (((s.put Reg.ECH_STATUS_STATE st).ev .ech 0x0001 sev st).raise Reg.ECH_STATUS_STATE_EV Reg.ECH_CTRL_INT_EN
        57).PmrOpen := by simpa [State.PmrOpen] using h
    split
    · exact h1
    · split
      · exact h1.clearCond _
      · exact h1.setCond _

theorem State.PmrOpen.resyncEnd {s : State} (h : s.PmrOpen) : s.resyncEnd.PmrOpen := by
  unfold State.resyncEnd State.resyncCheck
  split
  · exact h
  · extract_lets e src s1
    have hf : (s1.frame fRsync 1 e (natLe s.ech.rsCount 8)).PmrOpen := h.of_pmr (frame_frame s1 _ _ _ _).samePmr
    split
    · split
      · have h2 (t : State) (ht : t.PmrOpen) : ((t.put Reg.ECH_RESYNC_MODE 0).raise Reg.ECH_STATUS_RESYNC_DONE Reg.ECH_CTRL_INT_EN
            57).PmrOpen := by simpa [State.PmrOpen] using ht
        refine h2 _ (State.PmrOpen.setEcho (State.PmrOpen.of_pmr hf ?_) _ _)
        rfl
      · exact hf
    · exact hf

theorem State.PmrOpen.beginResync {s : State} (h : s.PmrOpen) (full : Bool) : (s.beginResync full).PmrOpen := by
  have h0 : (if full then s.markAllZones else s).PmrOpen := by
    split
    · exact h
    · exact h
  have hf (t : State) (n : Nat) : ((t.frame fRsync 0 0 []).openStream.put Reg.ECH_SEQ_SENT_SEQ n).Frame t [.ech]
      [Reg.ECH_SEQ_SENT_SEQ] := .put (.next (.next (.refl _ _ _) (frame_frame _ _ _ _ _)) (frame_openStream _))
  unfold State.beginResync
  exact State.PmrOpen.resyncEnd ((h0.setEcho eSync 2).of_pmr (hf _ _).samePmr)

theorem State.PmrOpen.syncTurn {s : State} (h : s.PmrOpen) : s.syncTurn.PmrOpen := by
  have h1 : s.vinfoTurn.PmrOpen := h.of_pmr (frame_vinfoTurn s).samePmr
  unfold State.syncTurn State.resyncTurn
  split
  · exact h1
  · split
    · refine State.PmrOpen.beginResync (h1.of_pmr ?_) _
      split <;> rfl
    · exact h1

theorem State.pmrOpen_openPmr (s : State) : s.openPmr.PmrOpen := by
  unfold State.openPmr
  refine (State.pmrOpen_setPmr _ ?_).copyFinished.syncTurn
  split
  · decide
  · split <;> decide

/-- Leave that is given back at once, with nothing done under it. -/
theorem frame_underLeave_id (s : State) (op : LeaveOp) {k : State → State} (hk : ∀ t, k t = t) :
    (s.underLeave op k).1.Frame s [.broker] [Reg.PWR_LEAVE_QUEUE_REJECTS] := by
  unfold State.underLeave
  dsimp only
  split
  · exact frame_leaveRequest s op
  · rw [hk]
    exact (frame_leaveRequest s op).next (frame_leaveReturn _ _)

/-- A relock with good margins ends the fault and opens the PMR again (R27, R28). -/
theorem State.relocked_good {s : State} {margins : List (Nat × Nat)} (hm : s.mayReopen = true) (hl : s.lowMargins margins = []) :
    (s.relocked margins).flag Reg.CLK_STATUS_FAULT = false ∧ (s.relocked margins).pwr.relocking = false ∧
      (s.relocked margins).pmr.st ≠ .closed ∧ (s.relocked margins).cache = s.cache := by
  unfold State.relocked
  rw [hl]
  extract_lets low src s1 s2 s3
  have h3 : s3.Frame s2 [.broker] [Reg.PWR_LEAVE_QUEUE_REJECTS] := by
    refine .foldl (fun v c hv => hv.next (frame_underLeave_id v (.training c) fun t => ?_)) _ (.refl _ _ _)
    simp [low]
  have hm3 : s3.mayReopen = true := by
    rw [← hm]
    simp only [State.mayReopen, State.domOn, State.domSt, State.seqState, h3.sameRails, h3.sameVlt, h3.samePwr, h3.samePmr,
      h3.get Reg.SUP_SEQ_STATUS_STATE]
    simp (disch := decide) [s2, s1, src]
  have ho := frame_openPmr s3
  rw [if_pos hm3]
  refine ⟨?_, ?_, s3.pmrOpen_openPmr, ?_⟩
  · simp (disch := decide) [ho.flag_eq, h3.flag_eq, s2]
  · rw [ho.samePwr, h3.samePwr]
    rfl
  · rw [ho.sameCache, h3.sameCache]
    rfl

/-! Holding the domains after a relock that failed. -/

theorem getD_lset {α : Type} (l : List α) (i j : Nat) (x d : α) :
    (lset l i x).getD j d = if j = i ∧ i < l.length then x else l.getD j d := by
  induction l generalizing i j with
  | nil => simp [lset]
  | cons y ys ih => cases i with
    | zero => cases j <;> simp [lset]
    | succ i => cases j with
      | zero => simp [lset]
      | succ j => simpa [lset] using ih i j

theorem State.domSt_setDom (s : State) (d e : Domain) (v : DomSt) :
    (s.setDom d v).domSt e = if e.idx = d.idx ∧ d.idx < s.pwr.dom.length then v else s.domSt e := getD_lset _ _ _ _ _

theorem State.idx_lt_of_domSt {s : State} {d : Domain} (h : s.domSt d ≠ .off) : d.idx < s.pwr.dom.length := by
  by_contra hc
  exact h (by simp [State.domSt, List.getD_eq_getElem?_getD, List.getElem?_eq_none (Nat.le_of_not_lt hc)])

/-- A domain that stands and is named is held once all of them have been visited. -/
theorem State.domSt_hold {off : Domain → Prop} [DecidablePred off] {d : Domain} (ho : ¬off d) (l : List Domain) {t : State}
    (hlen : d.idx < t.pwr.dom.length) (hd : d ∈ l ∨ t.domSt d = .held) :
    (l.foldl (fun (t : State) e => if off e then t else t.setDom e .held) t).domSt d = .held := by
  induction l generalizing t with
  | nil => exact hd.resolve_left List.not_mem_nil
  | cons e l ih =>
    refine ih ?_ ?_
    · dsimp only
      split
      · exact hlen
      · simpa [State.setDom, lset_length] using hlen
    · by_cases he : d = e
      · subst he
        dsimp only
        rw [if_neg ho, State.domSt_setDom, if_pos ⟨rfl, hlen⟩]
        exact .inr rfl
      · refine hd.imp (fun h => (List.mem_cons.1 h).resolve_left he) fun h => ?_
        dsimp only
        split
        · exact h
        · rw [State.domSt_setDom]
          split
          · rfl
          · exact h

theorem State.selfRefresh_on (s : State) : s.selfRefresh.dmc.selfRefresh = true := rfl

theorem State.linksOff_dom_length (s : State) : s.linksOff.pwr.dom.length = s.pwr.dom.length := by
  have h : (if s.sessionUp then s.endSession eDown 2 else s).pwr = s.pwr := by
    split
    · exact (frame_endSession s _ _).samePwr
    · rfl
  simp only [State.linksOff, State.setDom, lset_length, h]

/-- A relock that failed holds the domains that stood, with the DRAM in self-refresh and the vault disarmed (R28). -/
theorem State.clockHold_holds (s : State) : s.clockHold.flag Reg.CLK_STATUS_HOLD = true ∧ s.clockHold.flag Reg.CLK_STATUS_LOCK = false ∧
    s.clockHold.flag Reg.VLT_STATUS_ARMED = false ∧ s.clockHold.dmc.selfRefresh = true ∧
      ∀ d ∈ [Domain.ctrl, .fab, .dram, .nand, .host, .echo], s.domSt d ≠ .off → s.clockHold.domSt d = .held := by
  unfold State.clockHold
  extract_lets s1 src s2
  have hf : s2.Frame { s1 with pwr := { src with relocking := false } } [.pwr] [] :=
    .foldl (fun t d ht => .ite ht (ht.trans (frame_setDom t d .held))) _ (.refl _ _ _)
  refine ⟨?_, ?_, ?_, ?_, fun d hd ho => ?_⟩
  · simp (disch := decide)
  · simp (disch := decide)
  · simp (disch := decide)
  · exact congrArg Dram.selfRefresh hf.sameDmc
  · refine State.domSt_hold ho _ ?_ (.inl hd)
    show d.idx < s.linksOff.selfRefresh.pwr.dom.length
    rw [(frame_selfRefresh s.linksOff).samePwr, State.linksOff_dom_length]
    exact State.idx_lt_of_domSt ho

end Sys2Proof.Machine
end

section
/-! PROOF. The clock monitor, the root clock and the leave broker. -/

open Sys2Proof Sys2Proof.Machine

/-- Settles O53: a fault of the root clock has one meaning, whichever command finds it, and a grant moves leaves from the queue to
those held. -/
theorem clockAndLeave : Obligations.ClockAndLeave := by
  refine ⟨fun count s ha hlo hhi => ?_, fun count s ha h hb => ?_, fun count s ha h hb hf hl => ?_, fun s hf hl => ?_, fun s hf => ?_,
    fun margins s hr hm hl => ?_, fun margins s hr => ?_, fun op s hc => ?_, fun op s hc hq => ?_, fun id s => ?_,
    fun l s hq ha hv hr hfit => ?_, State.heldMw_leaveGrant_le⟩
  · exact runs_of_effect rfl (State.clockWindow_good ha hlo hhi) fun u q ⟨h1, h2, h3, h4, hf⟩ => ⟨h1, h2, h3, h4, hf.finish q⟩
  · exact runs_of_effect rfl (State.clockWindow_bad ha h hb) fun u q h => h
  · refine runs_of_done rfl ?_
    rw [State.clockWindow_worse ha h hb]
    have hs := frame_clockShown s count
    obtain ⟨hfault, -, -, hst, hrel, -⟩ := State.clockFault_first (s := s.clockShown count)
      ((hs.flag_eq (by decide) (by decide)).trans hf) ((hs.flag_eq (by decide) (by decide)).trans hl)
    exact ⟨hfault, hst, hrel, (State.faultPin_of_clock (.inl hfault)).1, (State.faultPin_of_clock (.inl hfault)).2⟩
  · obtain ⟨hfault, hbak, hev, hst, hrel, hcnt⟩ := State.clockFault_first hf hl
    exact runs_of_done rfl ⟨hfault, hbak, hev, hst, hrel, (State.faultPin_of_clock (.inl hfault)).1, hcnt⟩
  · refine runs_of_done rfl ?_
    rw [State.clockFault, if_pos (.inl hf)]
    exact (State.Frame.refl s _ _).finish _
  · refine runs_of_effect (congrArg (done s) ?_) (State.relocked_good (margins := margins) hm hl) fun u q h => h
    simp [hr]
  · obtain ⟨hhold, hlock, harm, hsr, hdom⟩ := s.clockHold_holds
    refine runs_of_done (t := s.clockHold) (congrArg (done s) ?_) ⟨hhold, hlock, harm, hsr, (State.faultPin_of_clock (.inr hhold)).1,
      hdom⟩
    simp [hr]
  · refine runs_of_effect (t := (s.incSat Reg.PWR_LEAVE_QUEUE_REJECTS 1).ev .pwr 0x1001 4 op.cls.prio)
      (congrArg (done s) ?_) ⟨?_, .ev (.incSat (.refl _ _ _)), ?_⟩ fun u q ⟨h1, h2, h3⟩ => ⟨h1, h2.finish q, h3⟩
    · rw [State.leaveRequest, if_pos hc]
    · exact (quiet_ev _ _ _ _ _).broker
    · simp (disch := decide)
  · refine runs_of_effect (t := (s.queued op).leaveGrant) (congrArg (done s) ?_) ⟨?_, rfl, ?_⟩
      fun u q ⟨h1, h2, h3⟩ => ⟨h1, h2, h3.finish q⟩
    · rw [State.leaveRequest, if_neg (by omega)]
      rfl
    · refine State.mem_leaveGrant (List.mem_append_right _ (List.mem_singleton_self _)) fun x hx hid => ?_
      exact (List.mem_append.1 hx).elim (fun h => absurd hid (hq x h)) List.mem_singleton.1
    · exact .next (.withBroker (.refl _ _ _)) (frame_leaveGrant _)
  · refine runs_of_effect rfl ⟨fun l hl => ?_, frame_leaveReturn s id⟩ fun u q ⟨h1, h2⟩ => ⟨h1, h2.finish q⟩
    have hm := State.of_mem_leaveGrant hl
    simp only [List.mem_append, List.mem_filter, bne_iff_ne] at hm ⊢
    tauto
  · refine runs_of_effect rfl ⟨?_, .next (.withBroker (.refl _ _ _)) (frame_leaveGrant _)⟩ fun u q ⟨h1, h2⟩ => ⟨h1, h2.finish q⟩
    obtain ⟨rest, ho⟩ := Broker.order_aged hq ha
    refine State.mem_held_first (rest := rest) (Eq.trans ?_ ho) hr hfit
    exact congrArg (Broker.order _) hv
end

section
/-! SUPPORT. A write that reaches its register (R515), and the commands that set one bit of a control register. -/

namespace Sys2Proof.Machine

section
variable {s : State} {r : Requester} {o w : Nat}

/-- The arrival of a write at a port that answers is an activity in RUN (R379, R380). -/
theorem State.arrive_writes (h : s.Writes r o w) : s.arrive r = if r.port.isSome then s.dropRequest else s := by
  obtain ⟨-, hport, -⟩ := h
  unfold State.arrive
  cases hp : r.port with
  | none => rfl
  | some p => exact State.wake_run (hport p hp).1 one_ne_zero

theorem frame_arrive_writes (h : s.Writes r o w) : (s.arrive r).Frame s [.pwr] [Reg.PWR_STATUS_RETRY] := by
  rw [State.arrive_writes h]
  exact .ite (frame_dropRequest s) (.refl _ _ _)

theorem State.arrive_evr (h : s.Writes r o w) : (s.arrive r).evr = s.evr := by
  rw [State.arrive_writes h]
  split <;> rfl

theorem State.get_arrive (h : s.Writes r o w) {f : Fld} (hf : f.key ≠ Reg.PWR_STATUS_RETRY.key) : (s.arrive r).get f = s.get f := by
  rw [State.arrive_writes h]
  split
  · exact State.get_put_ne _ _ hf
  · rfl

theorem State.domSt_arrive (h : s.Writes r o w) (d : Domain) : (s.arrive r).domSt d = s.domSt d := by
  rw [State.arrive_writes h]
  split <;> rfl

theorem State.mayWrite_arrive (h : s.Writes r o w) (o' w' : Nat) : (s.arrive r).mayWrite r o' w' = s.mayWrite r o' w' := by
  simp only [State.mayWrite, (frame_arrive_writes h).flag Reg.CFG_CTRL_LOCK]

theorem State.windowPut_writes (h : s.Writes r o w) (c : Instr) (k : State → State) : s.windowPut r c k = k (s.arrive r) := by
  obtain ⟨hreach, hport, -⟩ := h
  rw [State.windowPut, if_pos hreach]
  cases hp : r.port with
  | none => simp [State.arrive, hp]
  | some p => exact State.orHold_of (hport p hp).2 c _

/-- What a write of a 32-bit register does that reaches it: its fields take the word, and the register's action follows. -/
theorem State.dwordPut_writes {b : Block} {row : RegRow} (h : s.Writes r o w) (hb : Block.ofOff o = some b)
    (hrow : regAt o = some (row, false)) : s.dwordPut r o w =
      (row.flds.foldl (fun t f => t.fldWrite w f) ((s.arrive r).beforeFields r b row o w)).regAct b o
        (((s.arrive r).noteConsole r b o w).noteAccess r row.off |>.wordOf row) w none := by
  obtain ⟨-, -, ⟨b', hb', hon⟩, hmay, row', hrow', hnarrow, hclean⟩ := id h
  obtain rfl : b = b' := Option.some.inj (hb.symm.trans hb')
  obtain rfl : row = row' := (Prod.mk.inj (Option.some.inj (hrow.symm.trans hrow'))).1
  have hon' : (s.arrive r).domOn b.domain = true := by
    simpa only [State.domOn, State.domSt_arrive h] using hon
  have hmay' : (s.arrive r).mayWrite r o w = true := (State.mayWrite_arrive h o w).trans hmay
  rw [State.dwordPut, State.windowPut_writes h, State.regWrite_of_on hb hon' hmay', State.writeDword_full hrow (.inl hnarrow),
    State.fullWrite_of_clean hclean, State.rowWrite, State.beforeFields, off_of_regAt_low hrow]
  rfl

end

/-! One bit of a control register. -/

theorem Fld.set_lor {f : Fld} (w : Nat) (h : f.hi = f.lo) : f.set (Nat.lor w (2 ^ f.lo)) = true := by
  have hbit : (w ||| 2 ^ f.lo).testBit f.lo = true := by simp
  rw [Nat.testBit_eq_decide_div_mod_eq, decide_eq_true_eq] at hbit
  have hwidth : f.width = 1 := by simp [Fld.width, h]
  rw [Fld.set, Fld.of, hwidth]
  exact beq_iff_eq.2 hbit

section
variable {s : State} {r : Requester} {o : Nat} {f : Fld} {w : Word}

/-- The word that such a command writes. -/
def askWord (f : Fld) (w : Word) : Nat := Nat.lor w.toNat (2 ^ f.lo)

theorem Fld.set_askWord (f : Fld) (w : Word)
    (h : autoParam (f.hi = f.lo) Float.Model.Format.he._autoParam) : f.set (askWord f w) = true := Fld.set_lor _ h

/-- Another command bit of the register is not set. -/
theorem State.Asks.unset (h : s.Asks r o f w) (g : Fld)
    (hg : autoParam (g ∈ fieldsAt o) Float.Model.Format.he._autoParam)
    (ha : autoParam (g.acc = .wo) Float.Model.Format.he._autoParam)
    (hne : autoParam (g ≠ f) Float.Model.Format.he._autoParam) : g.set (askWord f w) = false := by
  rw [Fld.set, askWord, h.2 g hg ha hne]
  rfl

/-- What a command that sets one bit of a control register comes to: the fields take the word, then the register acts. -/
theorem State.Asks.bitWrite_eq (h : s.Asks r o f w) {b : Block}
    (hb : autoParam (Block.ofOff o = some b) Float.Model.Format.he._autoParam) :
    ∃ (y : State) (ow : Nat), Quiet y (s.arrive r) ∧
      (r ≠ .uart → (∀ g ∈ fieldsAt o, g.acc ≠ .rwl) → y.evr = s.evr ∧ y.regs = (s.arrive r).regs) ∧
      s.bitWrite r o f w = ((fieldsAt o).foldl (fun t g => t.fldWrite (askWord f w) g) y).regAct b o ow (askWord f w) none := by
  obtain ⟨hw, -⟩ := h
  obtain ⟨-, -, -, -, row, hrow, -⟩ := id hw
  have hf : fieldsAt o = row.flds := by simp [fieldsAt, hrow]
  rw [hf]
  refine ⟨_, _, quiet_beforeFields _ _ _ _ _ _, fun hr hacc => ?_, State.dwordPut_writes hw hb hrow⟩
  have hrwl : ¬ row.hasRwl = true := by
    simpa [RegRow.hasRwl] using hacc
  unfold State.beforeFields
  dsimp only
  rw [State.noteConsole_of_ne _ hr, if_neg fun hc => hrwl hc.1]
  exact ⟨State.arrive_evr hw, rfl⟩

/-- Such a command's register acts on a state that differs from the one the write found in the register's fields alone. -/
theorem State.Asks.bitWrite (h : s.Asks r o f w) {b : Block}
    (hb : autoParam (Block.ofOff o = some b) Float.Model.Format.he._autoParam) :
    ∃ (x : State) (ow : Nat), x.Frame (s.arrive r) [] (fieldsAt o) ∧
      s.bitWrite r o f w = x.regAct b o ow (askWord f w) none := by
  obtain ⟨y, ow, hy, -, he⟩ := h.bitWrite_eq hb
  exact ⟨_, ow, (frame_of_quiet hy _ _).trans (frame_foldl_fldWrite _ _ _), he⟩

/-- Such a command of another requester than the console leaves the recorder as it was. -/
theorem State.Asks.bitWrite_recorder (h : s.Asks r o f w) (hr : r ≠ .uart) {b : Block}
    (hb : autoParam (Block.ofOff o = some b) Float.Model.Format.he._autoParam)
    (hacc : autoParam (∀ g ∈ fieldsAt o, g.acc ≠ .rwl) Float.Model.Format.he._autoParam) :
    ∃ (x : State) (ow : Nat), x.Frame (s.arrive r) [] (fieldsAt o) ∧ x.evr = s.evr ∧
      (∀ g : Fld, g.key ∉ (fieldsAt o).map Fld.key → g.key ≠ Reg.PWR_STATUS_RETRY.key → x.get g = s.get g) ∧
      s.bitWrite r o f w = x.regAct b o ow (askWord f w) none := by
  obtain ⟨y, ow, hy, hq, he⟩ := h.bitWrite_eq hb
  obtain ⟨hevr, hregs⟩ := hq hr hacc
  refine ⟨_, ow, (frame_of_quiet hy _ _).trans (frame_foldl_fldWrite _ _ _), ?_, fun g hg hk => ?_, he⟩
  · obtain ⟨m, hm⟩ := foldl_fldWrite_regs_only (fieldsAt o) (askWord f w) y
    rw [hm]
    exact hevr
  · rw [get_foldl_fldWrite_ne _ _ hg, State.get_of_regs hregs, State.get_arrive h.1 hk]

end

/-! Counts that a command clears. -/

/-- The state with these fields 0. -/
def State.zeroed (s : State) (l : List Fld) : State := l.foldl (fun t f => t.put f 0) s

theorem frame_zeroed (s : State) {l fs : List Fld} (h : l.map Fld.key ⊆ fs.map Fld.key) : (s.zeroed l).Frame s [] fs :=
  .foldlMem l (fun _ _ hf ht => ht.put (h (List.mem_map_of_mem hf))) (.refl _ _ _)

theorem State.get_zeroed_of_mem {l : List Fld} (hr : ∀ f ∈ l, f.rst = 0) {f : Fld} (hf : f ∈ l) (s : State) :
    (s.zeroed l).get f = 0 := by
  induction l using List.reverseRecOn with
  | nil => exact absurd hf List.not_mem_nil
  | append_singleton l g ih =>
    rw [State.zeroed, List.foldl_append]
    show ((s.zeroed l).put g 0).get f = 0
    by_cases hk : f.key = g.key
    · rw [get_put_of_key _ hk, hr f hf, Nat.zero_mod, ite_self]
    · rw [State.get_put_ne _ _ hk]
      exact ih (fun f hf => hr f (List.mem_append_left _ hf)) ((List.mem_append.1 hf).resolve_right fun h => hk (by rw [List.mem_singleton.1 h]))

theorem foldl_rows_eq_zeroed (p : RegRow → Prop) [DecidablePred p] (rows : List RegRow) (s : State) :
    rows.foldl (fun t r => if p r then r.flds.foldl (fun u f => u.put f 0) t else t) s =
      s.zeroed ((rows.filter p).flatMap RegRow.flds) := by
  induction rows generalizing s with
  | nil => rfl
  | cons r rows ih =>
    rw [List.foldl_cons, ih, List.filter_cons]
    by_cases h : p r
    · simp [h, State.zeroed, List.foldl_append]
    · simp [h]

/-- A command that clears counts leaves them 0 and every other field as the write left it. -/
theorem zeroed_asked {s x : State} {k l : List Fld} {g : List Fld} (hx : x.Frame s [] g) (hk : k.map Fld.key ⊆ l.map Fld.key)
    (hl : l ⊆ k) (hr : ∀ f ∈ k, f.rst = 0) :
    (∀ f ∈ l, (x.zeroed k).get f = 0) ∧ (x.zeroed k).Frame s [] (g ++ l) := by
  refine ⟨fun f hf => State.get_zeroed_of_mem hr (hl hf) x, (hx.mono (hf := ?_)).trans (frame_zeroed x ?_)⟩
  · simp
  · exact fun n hn => by rw [List.map_append]; exact List.mem_append_right _ (hk hn)

/-- A command whose meaning zeroes fields after the write of its register. -/
theorem runs_zeroed {c : Instr} {s a x : State} {g k l : List Fld} (hc : exec c s = done s (x.zeroed k)) (hx : x.Frame a [] g)
    (hk : k.map Fld.key ⊆ l.map Fld.key) (hl : l ⊆ k) (hr : ∀ f ∈ k, f.rst = 0) :
    Runs c s fun t => (∀ f ∈ l, t.get f = 0) ∧ t.Frame a [] (g ++ l) :=
  runs_of_effect hc (zeroed_asked hx hk hl hr) fun _ q h => ⟨h.1, h.2.finish q⟩

end Sys2Proof.Machine
end

section
/-! SUPPORT. The latches of the rails and the faults of the modules. -/

namespace Sys2Proof.Machine

theorem State.chan_setChan (s : State) (n m : Nat) (c : Chan) : (s.setChan m c).chan n = if n = m then c else s.chan n := by
  unfold State.chan State.setChan
  split
  next h => rw [h, mgetD_mput_same]
  next h => exact mgetD_mput_ne _ _ _ h

/-- A channel's latch after FAULT_CLR (R357). -/
def Chan.cleared (c : Chan) : Chan := if c.lat ≠ 0 ∧ !c.uvConf ∧ !c.ovConf then { c with lat := 0 } else c

theorem Chan.cleared_cleared (c : Chan) : c.cleared.cleared = c.cleared := by
  unfold Chan.cleared
  split <;> simp_all

/-- One rail of FAULT_CLR. -/
def State.latchClr (t : State) (n : Nat) : State :=
  let c := t.chan n
  if c.lat ≠ 0 ∧ !c.uvConf ∧ !c.ovConf then
    let m := t.get Reg.SUP_FAULT_LATCHED
    (t.setChan n { c with lat := 0 }).put Reg.SUP_FAULT_LATCHED (if bitOf m n then m - 2 ^ n else m)
  else t

theorem State.chan_latchClr (t : State) (n m : Nat) :
    (t.latchClr m).chan n = if n = m then (t.chan n).cleared else t.chan n := by
  unfold State.latchClr Chan.cleared
  dsimp only
  by_cases h : n = m
  · subst h
    rw [if_pos rfl]
    split
    · exact (State.chan_setChan _ _ _ _).trans (if_pos rfl)
    · rfl
  · rw [if_neg h]
    split
    · exact (State.chan_setChan _ _ _ _).trans (if_neg h)
    · rfl

theorem frame_latchClr (t : State) (n : Nat) : (t.latchClr n).Frame t [.rails] [Reg.SUP_FAULT_LATCHED] := by
  unfold State.latchClr
  exact .ite (.put (.withRails (.refl _ _ _))) (.refl _ _ _)

theorem State.chan_foldl_latchClr (l : List Nat) (t : State) (n : Nat) :
    (l.foldl State.latchClr t).chan n = if n ∈ l then (t.chan n).cleared else t.chan n := by
  induction l generalizing t with
  | nil => simp
  | cons m l ih =>
    rw [List.foldl_cons, ih, State.chan_latchClr]
    by_cases h : n = m
    · simp [h, Chan.cleared_cleared]
    · simp [h]

theorem State.faultClr_eq (s : State) : s.faultClr = (List.range 64).foldl State.latchClr s := rfl

/-- One module of FAULT_CLR (R327). -/
def State.modClr (t : State) (n : Nat) : State :=
  if t.modSt n = mFault ∧ (t.mod n).valid = true ∧ (t.mod n).causeAt + 60 ≤ t.secs then t.faultOver n else t

theorem State.mod_setMod (s : State) (n m : Nat) (x : Machine.Module) : (s.setMod m x).mod n = if n = m then x else s.mod n := by
  unfold State.mod State.setMod
  split
  next h => rw [h, mgetD_mput_same]
  next h => exact mgetD_mput_ne _ _ _ h

theorem Fld.key_fldI (off hi lo : Nat) (acc : Access) : (fldI off hi lo acc).key = off * 4096 + lo * 64 + (hi + 1 - lo - 1) := rfl

/-- The fields of a module's state and fault. -/
def modFaultFields (n : Nat) : List Fld := [Reg.LAN_Mn_STATUS_STATE n, Reg.LAN_Mn_STATUS_FAULT n]

theorem frame_modClr (t : State) (n : Nat) : (t.modClr n).Frame t [.lan] (modFaultFields n) := by
  have hk : (Reg.LAN_Mn_STATUS_STATE n).key ∈ (modFaultFields n).map Fld.key := by simp [modFaultFields]
  have hk' : (Reg.LAN_Mn_STATUS_FAULT n).key ∈ (modFaultFields n).map Fld.key := by simp [modFaultFields]
  unfold State.modClr State.faultOver State.setModSt
  exact .ite (.ev (.put (.withLan (.put (.withLan (.refl _ _ _)) hk)) hk')) (.refl _ _ _)

theorem State.mod_modClr_ne (t : State) {n m : Nat} (h : n ≠ m) : (t.modClr m).mod n = t.mod n := by
  unfold State.modClr
  split
  · have hl : (t.faultOver m).lan = _ := (quiet_ev _ _ _ _ _).lan
    unfold State.mod
    rw [hl]
    exact (State.mod_setMod _ _ _ _).trans ((if_neg h).trans ((State.mod_setMod _ _ _ _).trans (if_neg h)))
  · rfl

theorem State.modSt_modClr_ne (t : State) {n m : Nat} (hn : n < 8) (h : n ≠ m) : (t.modClr m).modSt n = t.modSt n ∧
    (t.modClr m).get (Reg.LAN_Mn_STATUS_FAULT n) = t.get (Reg.LAN_Mn_STATUS_FAULT n) := by
  constructor
  all_goals
    refine (frame_modClr t m).get_eq ?_ ?_
    · simp only [Fld.OffRecorder, Reg.LAN_Mn_STATUS_STATE, Reg.LAN_Mn_STATUS_FAULT, Fld.key_fldI, Fld.key_fld]
      omega
    · simp only [modFaultFields, Reg.LAN_Mn_STATUS_STATE, Reg.LAN_Mn_STATUS_FAULT, List.map_cons, List.map_nil, List.mem_cons,
        List.not_mem_nil, or_false, Fld.key_fldI, Fld.key_fld]
      omega

theorem State.secs_modClr (t : State) (m : Nat) (hm : m < 8) : (t.modClr m).secs = t.secs := by
  refine (frame_modClr t m).get_eq (by decide) ?_
  simp only [modFaultFields, Reg.LAN_Mn_STATUS_STATE, Reg.LAN_Mn_STATUS_FAULT, Reg.SYS_OPSEC_SECONDS, List.map_cons, List.map_nil,
    List.mem_cons, List.not_mem_nil, or_false, Fld.key_fldI, Fld.key_fld]
  omega

theorem offRecorder_modFields {n : Nat} (hn : n < 8) :
    (Reg.LAN_Mn_STATUS_STATE n).OffRecorder ∧ (Reg.LAN_Mn_STATUS_FAULT n).OffRecorder := by
  simp only [Fld.OffRecorder, Reg.LAN_Mn_STATUS_STATE, Reg.LAN_Mn_STATUS_FAULT, Fld.key_fldI, Fld.key_fld]
  omega

theorem State.modSt_setModSt (s : State) (n : Nat) {st : Nat} (d c : Bool) (h : st < 16) : (s.setModSt n st d c).modSt n = st :=
  State.get_put_lt s (Reg.LAN_Mn_STATUS_STATE n) h

/-- A module whose cause ended 60 s ago is in service again. -/
theorem State.modClr_service {t : State} {n : Nat} (hn : n < 8) (hf : t.modSt n = mFault) (hv : (t.mod n).valid = true)
    (hc : (t.mod n).causeAt + 60 ≤ t.secs) : (t.modClr n).modSt n = mService ∧ (t.modClr n).get (Reg.LAN_Mn_STATUS_FAULT n) = 0 := by
  obtain ⟨hos, hof⟩ := offRecorder_modFields hn
  have hne : (Reg.LAN_Mn_STATUS_STATE n).key ≠ (Reg.LAN_Mn_STATUS_FAULT n).key := by
    simp only [Reg.LAN_Mn_STATUS_STATE, Reg.LAN_Mn_STATUS_FAULT, Fld.key_fldI, Fld.key_fld]
    omega
  rw [State.modClr, if_pos ⟨hf, hv, hc⟩]
  exact ⟨(State.get_ev_off hos).trans ((State.get_put_ne _ _ hne).trans (State.modSt_setModSt _ n _ _ (by decide))),
    (State.get_ev_off hof).trans (State.get_put_zero _ _)⟩

/-- A module as FAULT_CLR finds it: what decides whether it returns to service. -/
structure State.Faulted (t : State) (n : Nat) (valid : Bool) (causeAt secs : Nat) : Prop where
  st : t.modSt n = mFault
  valid : (t.mod n).valid = valid
  causeAt : (t.mod n).causeAt = causeAt
  secs : t.secs = secs

theorem State.Faulted.modClr_ne {t : State} {n m : Nat} {v : Bool} {c x : Nat} (h : t.Faulted n v c x) (hn : n < 8) (hm : m < 8)
    (hne : n ≠ m) : (t.modClr m).Faulted n v c x where
  st := (State.modSt_modClr_ne t hn hne).1.trans h.st
  valid := by rw [State.mod_modClr_ne t hne, h.valid]
  causeAt := by rw [State.mod_modClr_ne t hne, h.causeAt]
  secs := (State.secs_modClr t m hm).trans h.secs

/-- A module whose cause ended later stays in FAULT. -/
theorem State.Faulted.foldl_early {n : Nat} {v : Bool} {c x : Nat} (hn : n < 8) (hx : x < c + 60) (l : List Nat)
    (hl : ∀ m ∈ l, m < 8) {t : State} (h : t.Faulted n v c x) : (l.foldl State.modClr t).modSt n = mFault := by
  induction l generalizing t with
  | nil => exact h.st
  | cons m l ih =>
    refine ih (fun k hk => hl k (List.mem_cons_of_mem _ hk)) ?_
    by_cases hne : n = m
    · subst hne
      rw [State.modClr, if_neg]
      · exact h
      · rw [h.causeAt, h.secs]
        omega
    · exact h.modClr_ne hn (hl m List.mem_cons_self) hne

theorem State.foldl_modClr_service {n : Nat} (hn : n < 8) (l : List Nat) {t : State} (hst : t.modSt n = mService)
    (hf : t.get (Reg.LAN_Mn_STATUS_FAULT n) = 0) :
    (l.foldl State.modClr t).modSt n = mService ∧ (l.foldl State.modClr t).get (Reg.LAN_Mn_STATUS_FAULT n) = 0 := by
  induction l generalizing t with
  | nil => exact ⟨hst, hf⟩
  | cons m l ih =>
    by_cases hne : n = m
    · subst hne
      have hkeep : t.modClr n = t := by
        rw [State.modClr, if_neg]
        rw [hst]
        exact fun h => absurd h.1 (by decide)
      rw [List.foldl_cons, hkeep]
      exact ih hst hf
    · obtain ⟨h1, h2⟩ := State.modSt_modClr_ne t hn hne
      exact ih (h1.trans hst) (h2.trans hf)

theorem State.Faulted.foldl_late {n : Nat} {c x : Nat} (hn : n < 8) (hx : c + 60 ≤ x) (l : List Nat)
    (hl : ∀ m ∈ l, m < 8) (hm : n ∈ l) {t : State} (h : t.Faulted n true c x) :
    (l.foldl State.modClr t).modSt n = mService ∧ (l.foldl State.modClr t).get (Reg.LAN_Mn_STATUS_FAULT n) = 0 := by
  induction l generalizing t with
  | nil => exact absurd hm List.not_mem_nil
  | cons m l ih =>
    by_cases hne : n = m
    · subst hne
      obtain ⟨h1, h2⟩ := State.modClr_service hn h.st h.valid (by rw [h.causeAt, h.secs]; exact hx)
      exact State.foldl_modClr_service hn l h1 h2
    · exact ih (fun k hk => hl k (List.mem_cons_of_mem _ hk)) ((List.mem_cons.1 hm).resolve_left hne)
        (h.modClr_ne hn (hl m List.mem_cons_self) hne)

theorem State.lanFaultClr_eq (s : State) : s.lanFaultClr = (ports8.foldl State.modClr s).lanShow := rfl

theorem State.lanShow_modFields (s : State) {n : Nat} (hn : n < 8) : s.lanShow.modSt n = s.modSt n ∧
    s.lanShow.get (Reg.LAN_Mn_STATUS_FAULT n) = s.get (Reg.LAN_Mn_STATUS_FAULT n) := by
  obtain ⟨hos, hof⟩ := offRecorder_modFields hn
  constructor
  · exact (frame_lanShow s).get_eq hos (by revert n; decide)
  · exact (frame_lanShow s).get_eq hof (by revert n; decide)

end Sys2Proof.Machine
end

section
/-! SUPPORT. The recorder's records: one written to the journal, one read. -/

namespace Sys2Proof.Machine

/-- The recorder's own registers are in every frame. -/
theorem State.Frame.recorder {s t : State} {ps : List Part} {fs : List Fld} (h : t.Frame s ps fs)
    (hr : autoParam (∀ k ∈ fs.map Fld.key, 0x1B0000 * 4096 ≤ k ∧ k < 0x1C0000 * 4096) Float.Model.Format.he._autoParam) :
    t.Frame s ps [] :=
  ⟨h.1, fun f ho _ => h.2 f ho fun hm => by
    obtain ⟨h1, h2⟩ := hr _ hm
    simp only [Fld.OffRecorder] at ho
    omega⟩

/-- A record that the journal has room for stands last in its last sector (R455). -/
theorem Recorder.norAppend_last {r : Recorder} (h : r.norRoom = true) (e : EvRecord) (n : Nat) :
    (r.norAppend e n).ring = r.ring ∧ ∃ c, (r.norAppend e n).sectors.getLast? = some c ∧ c.recs.getLast? = some e := by
  unfold Recorder.norRoom at h
  unfold Recorder.norAppend
  cases hs : r.sectors.getLast? with
  | none =>
    have hfree : r.freeSect ≠ 0 := by simpa [hs] using h
    simp [hfree]
  | some sec =>
    by_cases hlen : sec.recs.length < 63
    · simp [hlen]
    · have hfree : r.freeSect ≠ 0 := by simpa [hs, hlen] using h
      simp [hlen, hfree]

/-- The one record of the ring goes to the journal. -/
theorem State.flushAll_single {s : State} {x : RingSlot} (hp : s.evr.provisional = false) (hm : s.evrMode = 0)
    (hring : s.evr.ring = [x]) (hx : x.flushed = false) (hroom : s.evr.norRoom = true) :
    ∃ v : Recorder, s.flushAll false = { s with evr := v } ∧ v.ring = [{ x with flushed := true }] ∧
      ∃ c, v.sectors.getLast? = some c ∧ c.recs.getLast? = some x.evt := by
  obtain ⟨hr, c, hc, he⟩ := Recorder.norAppend_last hroom x.evt (s.get Reg.EVR_SEQ_NEXT)
  refine ⟨(s.evr.norAppend x.evt (s.get Reg.EVR_SEQ_NEXT)).markFlushed 0 x.evt, ?_, ?_, c, hc, he⟩
  · simp [State.flushAll, hp, hm, hring, State.norFlush, State.norFlushOne, findPlace, hx, State.norReady, hroom]
  · simp [Recorder.markFlushed, hr, hring, lupd]

theorem State.readRecord_none {s : State} (h : s.evr.standing (s.get Reg.EVR_RD_SEQ_SEQ) = none) : s.readRecord =
    ((s.put Reg.EVR_RD_STATUS_VALID 1).put Reg.EVR_RD_STATUS_NOT_HELD 1).put Reg.EVR_RD_STATUS_FROM 0 := by
  unfold State.readRecord
  rw [h]

theorem State.readRecord_some {s : State} {e : EvRecord} {src : Nat}
    (h : s.evr.standing (s.get Reg.EVR_RD_SEQ_SEQ) = some (e, src)) : s.readRecord =
    (List.range 16).foldl (fun t w => t.put (Reg.EVR_RD_DATAw_WORD w) (leNat ((e.bytes.drop (4 * w)).take 4)))
      (((s.put Reg.EVR_RD_STATUS_VALID 1).put Reg.EVR_RD_STATUS_NOT_HELD 0).put Reg.EVR_RD_STATUS_FROM src) := by
  unfold State.readRecord
  rw [h]

theorem State.get_foldl_put {F : Nat → Fld} (hF : ∀ a b, a ≠ b → (F a).key ≠ (F b).key) (v : Nat → Nat) (l : List Nat) (s : State)
    {n : Nat} (hn : n ∈ l) : (l.foldl (fun t w => t.put (F w) (v w)) s).get (F n) = v n % 2 ^ (F n).width := by
  induction l using List.reverseRecOn with
  | nil => exact absurd hn List.not_mem_nil
  | append_singleton l m ih =>
    rw [List.foldl_append, List.foldl_cons, List.foldl_nil]
    by_cases h : n = m
    · subst h
      exact State.get_put_same _ _ _
    · rw [State.get_put_ne _ _ (hF n m h)]
      exact ih ((List.mem_append.1 hn).resolve_right fun hm => h (List.mem_singleton.1 hm))

theorem State.foldl_put_evr (F : Nat → Fld) (v : Nat → Nat) (l : List Nat) (s : State) :
    (l.foldl (fun t w => t.put (F w) (v w)) s).evr = s.evr := by
  induction l generalizing s with
  | nil => rfl
  | cons m l ih => exact ih _

theorem rdData_key_ne (a b : Nat) (h : a ≠ b) : (Reg.EVR_RD_DATAw_WORD a).key ≠ (Reg.EVR_RD_DATAw_WORD b).key := by
  simp only [Reg.EVR_RD_DATAw_WORD, Fld.key_fld]
  omega

theorem leNat_lt (l : List Byte) : leNat l < 2 ^ (8 * l.length) := by
  induction l with
  | nil => decide
  | cons b l ih =>
    have hb := b.isLt
    rw [List.length_cons, Nat.mul_succ, Nat.pow_add, leNat]
    omega

/-- The NOR's supply is read off four fields of each rail. -/
theorem State.norSupplied_congr {s t : State} (h : ∀ f : Fld, f.key ∉ (fieldsAt 0x1B0000).map Fld.key →
    f.key ≠ Reg.PWR_STATUS_RETRY.key → t.get f = s.get f) : t.norSupplied = s.norSupplied := by
  unfold State.norSupplied
  rw [Bool.eq_iff_iff, List.all_eq_true, List.all_eq_true]
  refine forall₂_congr fun n hn => ?_
  have hn := List.mem_range.1 hn
  simp only [State.flag]
  rw [h (Reg.SUP_CHn_CFG_NOR_SUPPLY n), h (Reg.SUP_CHn_VAL_EN n), h (Reg.SUP_CHn_THR_UV n), h (Reg.SUP_CHn_VAL_CODE n),
    h (Reg.SUP_CHn_THR_OV n)]
  all_goals
    revert n
    decide

theorem State.get_foldl_put_other {F : Nat → Fld} (v : Nat → Nat) (l : List Nat) (s : State) {g : Fld}
    (hg : ∀ n ∈ l, g.key ≠ (F n).key) : (l.foldl (fun t w => t.put (F w) (v w)) s).get g = s.get g := by
  induction l generalizing s with
  | nil => rfl
  | cons m l ih =>
    rw [List.foldl_cons, ih _ fun n hn => hg n (List.mem_cons_of_mem _ hn), State.get_put_ne _ _ (hg m List.mem_cons_self)]

end Sys2Proof.Machine
end

section
/-! PROOF. The commands that clear. -/

open Sys2Proof Sys2Proof.Machine

/-- Settles O43: each command's register acts on a state that only the register's fields tell from the one the write found, and
the action zeroes, clears, locks, flushes or reads. -/
theorem registerClears : Obligations.RegisterClears := by
  refine ⟨fun r w s l ha hl => ?_, fun r w s l ha hl => ?_, fun r w s l ha hl => ?_, fun r w s l ha hl => ?_, fun r w s l ha hl => ?_,
    fun r w s l ha hl => ?_, fun r w s l ha hl => ?_, fun r w s l ha hl => ?_, fun r w s ha => ?_, fun r w s ha => ?_, fun r w s ha => ?_,
    fun r w s ha => ?_, fun r w s x ha hr hp hm hring hx hroom hnor => ?_, fun r w s ha hr hst => ?_, fun r w s e src ha hr hst => ?_⟩
  · obtain ⟨x, ow, hx, he⟩ := ha.bitWrite (b := .vlt)
    have hact : x.regAct .vlt 0x160000 ow (askWord Reg.VLT_CTRL_STAT_CLR w) none =
        (x.holdEvent .vlt Reg.VLT_CTRL_COPY_PAUSE ow (askWord Reg.VLT_CTRL_STAT_CLR w)).vltStatClr := by
      simp [State.regAct, State.actData, State.onBit, Fld.set_askWord Reg.VLT_CTRL_STAT_CLR]
    have hz (y : State) : y.vltStatClr = y.zeroed [Reg.VLT_DEMAND_CNT_COUNT, Reg.VLT_DEMAND_MAX_MAX_US, Reg.VLT_MERGE_FULL_CNT] := rfl
    subst hl
    exact runs_zeroed (congrArg (done s) (he.trans (hact.trans (hz _)))) (.ite hx (.ev hx)) (by decide) (by decide) (by decide)
  · obtain ⟨x, ow, hx, he⟩ := ha.bitWrite (b := .flc)
    have hact : x.regAct .flc 0x180000 ow (askWord Reg.FLC_CTRL_CNT_CLR w) none = x.flcCntClr := by
      simp [State.regAct, State.actMem, State.onBit, Fld.set_askWord Reg.FLC_CTRL_CNT_CLR, ha.unset Reg.FLC_CTRL_RETRAIN_GO]
    subst hl
    exact runs_zeroed (congrArg (done s) (he.trans (hact.trans (foldl_rows_eq_zeroed _ _ _)))) hx (by decide) (by decide) (by decide)
  · obtain ⟨x, ow, hx, he⟩ := ha.bitWrite (b := .dmc)
    have hact : x.regAct .dmc 0x190000 ow (askWord Reg.DMC_CTRL_STAT_CLR w) none = x.dmcStatClr := by
      simp [State.regAct, State.actMem, State.onBit, Fld.set_askWord Reg.DMC_CTRL_STAT_CLR]
    have hz (y : State) : y.dmcStatClr = y.zeroed [Reg.DMC_REF_STATUS_FORCED, Reg.DMC_REF_STATUS_POSTPONED_MAX,
      Reg.DMC_INORDER_CNT_COUNT, Reg.DMC_PANIC_CNT_MAX_US, Reg.DMC_PANIC_CNT_COUNT] := rfl
    subst hl
    exact runs_zeroed (congrArg (done s) (he.trans (hact.trans (hz _)))) hx (by decide) (by decide) (by decide)
  · obtain ⟨x, ow, hx, he⟩ := ha.bitWrite (b := .dmc)
    have hact : x.regAct .dmc 0x190100 ow (askWord Reg.DMC_ECC_CTRL_CNT_CLR w) none = x.eccCntClr := by
      simp [State.regAct, State.actMem, State.onBit, Fld.set_askWord Reg.DMC_ECC_CTRL_CNT_CLR]
    subst hl
    obtain ⟨hz, hf⟩ := zeroed_asked (k := [Reg.DMC_CE_CNT_COUNT, Reg.DMC_UE_CNT_VAULT, Reg.DMC_UE_CNT_TOTAL])
      (l := [Reg.DMC_CE_CNT_COUNT, Reg.DMC_UE_CNT_VAULT, Reg.DMC_UE_CNT_TOTAL]) hx (by decide) (by decide) (by decide)
    exact runs_of_effect (congrArg (done s) (he.trans hact)) ⟨hz, .withDmc hf.mono⟩ fun u q h => ⟨h.1, h.2.finish q⟩
  · obtain ⟨x, ow, hx, he⟩ := ha.bitWrite (b := .ech)
    have hact : x.regAct .ech 0x1A0000 ow (askWord Reg.ECH_CTRL_CNT_CLR w) none = x.echCntClr := by
      simp [State.regAct, State.actRest, State.onBit, Fld.set_askWord Reg.ECH_CTRL_CNT_CLR, ha.unset Reg.ECH_CTRL_DETACH,
        ha.unset Reg.ECH_CTRL_REJOIN]
    subst hl
    exact runs_zeroed (congrArg (done s) (he.trans (hact.trans (foldl_rows_eq_zeroed _ _ _)))) hx (by decide) (by decide) (by decide)
  · obtain ⟨x, ow, hx, he⟩ := ha.bitWrite (b := .sup)
    have hact : x.regAct .sup 0x130000 ow (askWord Reg.SUP_CTRL_FF_ACK w) none = x.zeroed [Reg.SUP_FF_INFO_VALID] := by
      simp [State.regAct, State.actSup, State.onBit, Fld.set_askWord Reg.SUP_CTRL_FF_ACK, ha.unset Reg.SUP_CTRL_FAULT_CLR,
        ha.unset Reg.SUP_CTRL_OFF_REQ, State.zeroed]
    subst hl
    exact runs_zeroed (congrArg (done s) (he.trans hact)) hx (by decide) (by decide) (by decide)
  · obtain ⟨x, ow, hx, he⟩ := ha.bitWrite (b := .pwr)
    have hact : x.regAct .pwr 0x120000 ow (askWord Reg.PWR_CTRL_CNT_CLR w) none = x.pwrCntClr := by
      simp [State.regAct, State.actPwr, State.onBit, Fld.set_askWord Reg.PWR_CTRL_CNT_CLR, ha.unset Reg.PWR_CTRL_CANCEL,
        ha.unset Reg.PWR_CTRL_SLEEP_REQ, ha.unset Reg.PWR_CTRL_DEEP_REQ, ha.unset Reg.PWR_CTRL_WAKE_REQ]
    subst hl
    exact runs_zeroed (congrArg (done s) (he.trans (hact.trans (foldl_rows_eq_zeroed _ _ _)))) hx (by decide) (by decide) (by decide)
  · obtain ⟨x, ow, hx, he⟩ := ha.bitWrite (b := .evr)
    have hact : x.regAct .evr 0x1B0000 ow (askWord Reg.EVR_CTRL_CNT_CLR w) none =
        x.zeroed [Reg.EVR_LOST_OVERWRITTEN, Reg.EVR_LOST_DROPPED] := by
      simp [State.regAct, State.actRest, State.onBit, Fld.set_askWord Reg.EVR_CTRL_CNT_CLR, ha.unset Reg.EVR_CTRL_FLUSH,
        ha.unset Reg.EVR_CTRL_RD_GO, State.zeroed, State.evrCntClr]
    subst hl
    exact runs_zeroed (congrArg (done s) (he.trans hact)) hx (by decide) (by decide) (by decide)
  · obtain ⟨x, ow, hx, he⟩ := ha.bitWrite (b := .clk)
    have hact : x.regAct .clk 0x110000 ow (askWord Reg.CLK_CTRL_MON_CLR w) none = x.monClr := by
      simp [State.regAct, State.actPwr, State.onBit, Fld.set_askWord Reg.CLK_CTRL_MON_CLR]
    refine runs_of_effect (congrArg (done s) (he.trans hact)) ⟨?_, ?_, .put (.put hx.mono)⟩ fun u q h => ⟨h.1, h.2.1, h.2.2.finish q⟩
    · simp (disch := decide) [State.monClr]
    · exact State.get_put_lt _ _ (by decide)
  · obtain ⟨x, ow, hx, he⟩ := ha.bitWrite (b := .sup)
    have hact : x.regAct .sup 0x130000 ow (askWord Reg.SUP_CTRL_FAULT_CLR w) none = x.faultClr := by
      simp [State.regAct, State.actSup, State.onBit, Fld.set_askWord Reg.SUP_CTRL_FAULT_CLR, ha.unset Reg.SUP_CTRL_FF_ACK,
        ha.unset Reg.SUP_CTRL_OFF_REQ]
    have hchan (n : Nat) (hn : n < 64) : x.faultClr.chan n = (s.chan n).cleared := by
      rw [State.faultClr_eq, State.chan_foldl_latchClr, if_pos (List.mem_range.2 hn), State.chan, State.chan, hx.sameRails,
        (frame_arrive_writes ha.1).sameRails]
    refine runs_of_effect (congrArg (done s) (he.trans hact)) ⟨fun n hn hu ho => ?_, fun n hn hc => ?_,
      .foldl (fun t n ht => ht.next (frame_latchClr t n)) _ hx.mono⟩ fun u q h => ⟨h.1, h.2.1, h.2.2.finish q⟩
    · rw [hchan n hn]
      by_cases h : (s.chan n).lat = 0 <;> simp [Chan.cleared, hu, ho, h]
    · rw [hchan n hn]
      obtain h | h := hc <;> simp [Chan.cleared, h]
  · obtain ⟨x, ow, hx, he⟩ := ha.bitWrite (b := .lan)
    have hact : x.regAct .lan 0x140000 ow (askWord Reg.LAN_CTRL_FAULT_CLR w) none = x.lanFaultClr := by
      simp [State.regAct, State.actLan, State.onBit, Fld.set_askWord Reg.LAN_CTRL_FAULT_CLR, ha.unset Reg.LAN_CTRL_LEARN_CANCEL,
        ha.unset Reg.LAN_CTRL_LEARN_REQ]
    have harr := frame_arrive_writes ha.1
    have hlan : x.lan = s.lan := hx.sameLan.trans harr.sameLan
    have hget (f : Fld) (ho : f.OffRecorder) (hf : f.key ∉ (fieldsAt 0x140000).map Fld.key) (hk : f.key ≠ Reg.PWR_STATUS_RETRY.key) :
        x.get f = s.get f := (hx.get_eq ho hf).trans (State.get_arrive ha.1 hk)
    have hfault (n : Nat) (hn : n < 8) (h : s.modSt n = mFault) :
        x.Faulted n (s.mod n).valid (s.mod n).causeAt s.secs := by
      refine ⟨(hget _ (offRecorder_modFields hn).1 ?_ ?_).trans h, ?_, ?_, hget _ (by decide) (by decide) (by decide)⟩
      · clear h
        revert n
        decide
      · clear h
        revert n
        decide
      · rw [State.mod, hlan]
        rfl
      · rw [State.mod, hlan]
        rfl
    refine runs_of_effect (congrArg (done s) (he.trans hact)) ⟨?_, fun n hn hf hv hc => ?_, fun n hn hf hc => ?_⟩ fun u q h => h
    · have hm : ∀ (l : List Nat) (t : State), (l.foldl State.modClr t).cache = t.cache := by
        intro l
        induction l with
        | nil => exact fun _ => rfl
        | cons n l ih => exact fun t => (ih _).trans (frame_modClr t n).sameCache
      exact (frame_lanShow _).sameCache.trans ((hm _ _).trans (hx.sameCache.trans harr.sameCache))
    · obtain ⟨h1, h2⟩ := State.lanShow_modFields (ports8.foldl State.modClr x) hn
      obtain ⟨h3, h4⟩ := (hv ▸ hfault n hn hf).foldl_late hn hc ports8 (by decide) (List.mem_range.2 hn)
      exact ⟨h1.trans h3, h2.trans h4⟩
    · exact (State.lanShow_modFields (ports8.foldl State.modClr x) hn).1.trans
        ((hfault n hn hf).foldl_early hn hc ports8 (by decide))
  · obtain ⟨y, ow, hy, -, he⟩ := ha.bitWrite_eq (b := .cfg)
    refine runs_of_effect (congrArg (done s) he) ⟨?_, (frame_of_quiet hy _ _).trans (frame_foldl_fldWrite _ _ _)⟩
      fun u q h => ⟨h.1, h.2.finish q⟩
    have hw : ((fieldsAt 0x1C0000).foldl (fun t g => t.fldWrite (askWord Reg.CFG_CTRL_LOCK w) g) y) =
        y.put Reg.CFG_CTRL_LOCK (Nat.lor (y.get Reg.CFG_CTRL_LOCK) 1) := by
      have h1 : Reg.CFG_CTRL_LOCK.of (askWord Reg.CFG_CTRL_LOCK w) = 1 := eq_of_beq (Fld.set_askWord Reg.CFG_CTRL_LOCK w)
      show y.put Reg.CFG_CTRL_LOCK (Nat.lor (y.get Reg.CFG_CTRL_LOCK) (Reg.CFG_CTRL_LOCK.of (askWord Reg.CFG_CTRL_LOCK w))) = _
      rw [h1]
    show State.flag ((fieldsAt 0x1C0000).foldl (fun t g => t.fldWrite (askWord Reg.CFG_CTRL_LOCK w) g) y) _ = true
    rw [hw, State.flag, State.get_put_same]
    have hodd : (y.get Reg.CFG_CTRL_LOCK ||| 1) % 2 = 1 := by simp
    exact beq_iff_eq.2 hodd
  · obtain ⟨y, ow, hy, hevr, hget, he⟩ := ha.bitWrite_recorder (b := .evr) hr
    have hmode : y.evrMode = 0 := (hget _ (by decide) (by decide)).trans hm
    obtain ⟨v, hv, hvr, hvs⟩ := State.flushAll_single (s := y) (x := x) (by rw [hevr, hp]) hmode (by rw [hevr, hring]) hx
      (by rw [hevr, hroom])
    have hflush : y.norFlushes = true := by
      have hv : y.vaulting = s.vaulting := by
        rw [State.vaulting, hy.sameVlt, (frame_arrive_writes ha.1).sameVlt]
        rfl
      rw [← hnor, State.norFlushes, State.norFlushes, hv, State.norSupplied_congr fun f hf hf' => hget f hf hf', State.flag,
        State.flag, hget _ (by decide) (by decide)]
    have hact : y.regAct .evr 0x1B0000 ow (askWord Reg.EVR_CTRL_FLUSH w) none = { y with evr := v } := by
      rw [← hv]
      simp [State.regAct, State.actRest, State.onBit, Fld.set_askWord Reg.EVR_CTRL_FLUSH, ha.unset Reg.EVR_CTRL_RD_GO,
        ha.unset Reg.EVR_CTRL_CNT_CLR, hflush]
    exact runs_of_effect (congrArg (done s) (he.trans hact)) ⟨hvr, hvs, .withEvr hy.recorder⟩
      fun u q h => ⟨h.1, h.2.1, h.2.2.finish q⟩
  · obtain ⟨y, ow, hy, hevr, hget, he⟩ := ha.bitWrite_recorder (b := .evr) hr
    have hact : y.regAct .evr 0x1B0000 ow (askWord Reg.EVR_CTRL_RD_GO w) none = y.readRecord := by
      simp [State.regAct, State.actRest, State.onBit, Fld.set_askWord Reg.EVR_CTRL_RD_GO, ha.unset Reg.EVR_CTRL_FLUSH,
        ha.unset Reg.EVR_CTRL_CNT_CLR]
    have hst' : y.evr.standing (y.get Reg.EVR_RD_SEQ_SEQ) = none := by rw [hevr, hget _ (by decide) (by decide), hst]
    refine runs_of_effect (congrArg (done s) (he.trans (hact.trans (State.readRecord_none hst')))) ⟨?_, ?_, hevr, ?_⟩
      fun u q h => ⟨h.1, h.2.1, h.2.2.1, h.2.2.2.finish q⟩
    · simp (disch := decide)
    · simp (disch := decide)
    · exact State.Frame.recorder (fs := fieldsAt 0x1B0000 ++ [Reg.EVR_RD_STATUS_VALID, Reg.EVR_RD_STATUS_NOT_HELD,
        Reg.EVR_RD_STATUS_FROM]) (.put (.put (.put hy.mono)))
  · obtain ⟨y, ow, hy, hevr, hget, he⟩ := ha.bitWrite_recorder (b := .evr) hr
    have hact : y.regAct .evr 0x1B0000 ow (askWord Reg.EVR_CTRL_RD_GO w) none = y.readRecord := by
      simp [State.regAct, State.actRest, State.onBit, Fld.set_askWord Reg.EVR_CTRL_RD_GO, ha.unset Reg.EVR_CTRL_FLUSH,
        ha.unset Reg.EVR_CTRL_CNT_CLR]
    have hst' : y.evr.standing (y.get Reg.EVR_RD_SEQ_SEQ) = some (e, src) := by
      rw [hevr, hget _ (by decide) (by decide), hst]
    refine runs_of_effect (congrArg (done s) (he.trans (hact.trans (State.readRecord_some hst')))) ⟨?_, ?_, ?_, fun n hn => ?_, ?_, ?_⟩
      fun u q h => ⟨h.1, h.2.1, h.2.2.1, h.2.2.2.1, h.2.2.2.2.1, h.2.2.2.2.2.finish q⟩
    · exact (congrArg (· == 1) (State.get_foldl_put_other _ _ _ (by decide))).trans (by simp (disch := decide))
    · exact (congrArg (· == 1) (State.get_foldl_put_other _ _ _ (by decide))).trans (by simp (disch := decide))
    · exact (State.get_foldl_put_other _ _ _ (by decide)).trans (State.get_put_same _ _ _)
    · refine (State.get_foldl_put rdData_key_ne _ _ _ (List.mem_range.2 hn)).trans (Nat.mod_eq_of_lt ?_)
      exact (leNat_lt _).trans_le (Nat.pow_le_pow_right (by decide) (Nat.mul_le_mul_left 8 (List.length_take_le _ _)))
    · exact (State.foldl_put_evr _ _ _ _).trans hevr
    · exact State.Frame.recorder (fs := fieldsAt 0x1B0000 ++ [Reg.EVR_RD_STATUS_VALID, Reg.EVR_RD_STATUS_NOT_HELD,
        Reg.EVR_RD_STATUS_FROM] ++ (List.range 16).map Reg.EVR_RD_DATAw_WORD)
        (.foldlMem _ (fun t n hn ht => ht.put (by
          rw [List.map_append, List.mem_append]
          exact .inr (List.mem_map_of_mem (List.mem_map_of_mem hn)))) (.put (.put (.put hy.mono))))
end

section
/-! SUPPORT. The frames of the sequencer's steps, and of switching every domain off. -/

namespace Sys2Proof.Machine

theorem frame_setChan (s : State) (n : Nat) (c : Chan) : (s.setChan n c).Frame s [.rails] [] := by
  unfold State.setChan
  exact .withRails (.refl _ _ _)

/-- The enables of the 64 rail channels. -/
def railVals : List Fld := (List.range 64).map Reg.SUP_CHn_VAL_EN

theorem railVal_mem {n : Nat} (hn : n < 64) : (Reg.SUP_CHn_VAL_EN n).key ∈ railVals.map Fld.key :=
  List.mem_map_of_mem (List.mem_map_of_mem (List.mem_range.2 hn))

theorem lt_of_mem_walkRails {s : State} {g n : Nat} (h : n ∈ s.walkRails g) : n < 64 := by
  have hof : n ∈ s.railsOf g := by
    unfold State.walkRails at h
    split at h
    · exact List.mem_of_mem_filter h
    · exact h
  exact List.mem_range.1 (List.mem_of_mem_filter hof)

theorem frame_disableGroup (s : State) (g : Nat) : (s.disableGroup g).Frame s [.rails] ([Reg.SUP_SEQ_STATUS_GROUP] ++ railVals) := by
  unfold State.disableGroup
  exact .withRails (.put (.foldlMem _ (fun t n hn ht => .ite (.withRails ht)
    (.next (.put ht (List.mem_cons_of_mem _ (railVal_mem (lt_of_mem_walkRails hn)))) (frame_setChan _ _ _))) (.refl _ _ _))
    List.mem_cons_self)

theorem frame_updStripe (s : State) (serial : Nat) (f : Stripe → Stripe) : (s.updStripe serial f).Frame s [.grt] [] := by
  unfold State.updStripe
  exact .withGrt (.refl _ _ _)

theorem State.Frame.withCacheGrtFlc {s t : State} {ps : List Part} {fs : List Fld} {a : Cache} {b : Grotto} {c : Flash} (h :
    t.Frame s ps fs) (hcache : autoParam (Part.cache ∈ ps) Float.Model.Format.he._autoParam)
    (hgrt : autoParam (Part.grt ∈ ps) Float.Model.Format.he._autoParam) (hflc : autoParam (Part.flc ∈ ps) Float.Model.Format.he._autoParam) :
    ({ t with cache := a, grt := b, flc := c } : State).Frame s ps fs := ((h.withCache (x := a) hcache).withGrt (x := b)
        hgrt).withFlc (x := c) hflc

theorem frame_grottoPowerLoss (s : State) : s.grottoPowerLoss.Frame s [.grt, .cache, .flc] [] := by
  unfold State.grottoPowerLoss
  exact .withCacheGrtFlc (.foldl (fun _ _ ht => .ite ht (.ite (.withGrt ht) (.next ht (frame_updStripe _ _ _)))) _ (.refl _ _
      _))

theorem frame_updResult (s : State) (v : Nat) : (s.updResult v).Frame s [] [Reg.CFG_UPD_STATUS_RESULT] := by
  unfold State.updResult
  exact .ite (.quiet (.put (.refl _ _ _)) (quiet_msix _ _)) (.put (.refl _ _ _))

theorem frame_stagingLost (s : State) : s.stagingLost.Frame s [.boot] [Reg.CFG_UPD_STATUS_RESULT, Reg.CFG_UPD_STATUS_BUSY] := by
  unfold State.stagingLost
  exact .ite (.put (.next (.withBoot (.refl _ _ _)) (frame_updResult _ _))) (.refl _ _ _)

/-- The register fields that switching every domain but AON off sets (R359, R401). -/
def offFields : List Fld := [Reg.CFG_UPD_STATUS_RESULT, Reg.CFG_UPD_STATUS_BUSY, Reg.PWR_AON_LP_MODE, Reg.SYS_STATUS_SR_VALID,
  Reg.VLT_STATUS_HOLD, Reg.VLT_STATUS_PHASE, Reg.PWR_STATUS_STATE, Reg.PWR_STATUS_TARGET, Reg.PWR_STATUS_RETRY,
  Reg.PWR_LEAVE_QUEUE_VAULT, Reg.SUP_STATUS_VAULT_SUPPRESS, Reg.SUP_STATUS_SEQ_DONE, Reg.WDT_STATUS_MASKED,
  Reg.SUP_STATUS_OFF_PENDING, Reg.WDT_STATUS_PAUSED, Reg.CLK_STATUS_LOCK, Reg.CLK_STATUS_XTAL_OK, Reg.CLK_STATUS_HOLD,
  Reg.CLK_STATUS_FAULT, Reg.CLK_STATUS_SUP_BACKUP] ++ railVals

/-- The parts that it replaces: all but Lantern and the test port. -/
def offParts : List Part := [.rails, .broker, .pwr, .ports, .pmr, .cache, .umb, .vlt, .grt, .flc, .dmc, .ech, .boot, .deferred,
  .flow]

theorem State.Frame.withOff {s t : State} {fs : List Fld} {pmr : Pmr} {cache : Cache} {umb : Umbra} {broker : Broker}
    {vlt : VaultSide} {host : HostSide} {deferred : List Deferred} {flow : List (Port × Instr)} {dmc : Dram} {ech : Echo}
    {pwr : Power} {boot : Boot} {rails : Rails} {evr : Recorder} (h : t.Frame s offParts fs) :
    ({ t with pmr := pmr, cache := cache, umb := umb, broker := broker, vlt := vlt, host := host, deferred := deferred,
              flow := flow, dmc := dmc, ech := ech, pwr := pwr, boot := boot, rails := rails, evr := evr } : State).Frame s
      offParts fs := by
  refine h.step rfl fun q hq => ?_
  cases q
  case lan => rfl
  case test => rfl
  all_goals exact absurd (by decide) hq

theorem frame_domainsOff (s : State) : (Domain.all.foldl (fun t d => if d = Domain.aon then t else t.setDom d .off)
    ((List.range 64).foldl (fun t n => t.put (Reg.SUP_CHn_VAL_EN n) 0) s.grottoPowerLoss.stagingLost)).Frame s
    [.pwr, .grt, .cache, .flc, .boot] offFields := by
  refine .foldl (fun t d ht => .ite ht (ht.next (frame_setDom _ _ _))) _ (.foldlMem _ (fun t n hn ht => ht.put ?_)
    (.next (.next (.refl _ _ _) (frame_grottoPowerLoss _)) (frame_stagingLost _)))
  rw [offFields, List.map_append]
  exact List.mem_append_right _ (railVal_mem (List.mem_range.1 hn))

theorem frame_allOff (s : State) : s.allOff.Frame s offParts offFields := by
  have h2 := (frame_domainsOff s).mono (qs := offParts) (gs := offFields) (hf := fun _ h => h)
  unfold State.allOff
  exact .put (.put (.put (.put (.put (.put (.put (.put (.put (.put (.put (.put (.put (.put (.put (.put (.put (.put
    (.withOff h2))))))))))))))))))

theorem frame_announceDown (s : State) : s.announceDown.Frame s [.ech] [] := by
  unfold State.announceDown
  exact .withEch (.next (.withEch (.refl _ _ _)) (frame_echoStateSync _))

theorem frame_button (s : State) : s.button.Frame s [] [Reg.SUP_STATUS_BTN_EV] := by
  unfold State.button
  exact .ite (.next (.refl _ _ _) (frame_raise _ _ _ _)) (.refl _ _ _)

theorem frame_ffErase (s : State) : s.ffErase.Frame s [.rails] [] := by
  unfold State.ffErase
  exact .ite (.withRails (.refl _ _ _)) (.refl _ _ _)

theorem frame_resumeRetained (s : State) : s.resumeRetained.Frame s [.pwr] [] := by
  unfold State.resumeRetained
  exact .withPwr (.refl _ _ _)

theorem State.Frame.withPwrDmc {s t : State} {ps : List Part} {fs : List Fld} {a : Power} {b : Dram} (h : t.Frame s ps fs)
    (hpwr : autoParam (Part.pwr ∈ ps) Float.Model.Format.he._autoParam)
    (hdmc : autoParam (Part.dmc ∈ ps) Float.Model.Format.he._autoParam) :
    ({ t with pwr := a, dmc := b } : State).Frame s ps fs := (h.withPwr (x := a) hpwr).withDmc (x := b) hdmc

theorem frame_sleepExitNow (s : State) : s.sleepExitNow.Frame s [.pwr, .dmc] [Reg.PWR_STATUS_STATE, Reg.PWR_STATUS_GUARD,
    Reg.WDT_STATUS_PAUSED] := by
  unfold State.sleepExitNow
  exact .ite (.put (.put (.put (.withPwrDmc (.next (.refl _ _ _) (frame_resumeRetained _)))))) (.refl _ _ _)

theorem State.Frame.withPwrVltEch {s t : State} {ps : List Part} {fs : List Fld} {a : Power} {b : VaultSide} {c : Echo} (h :
    t.Frame s ps fs) (hpwr : autoParam (Part.pwr ∈ ps) Float.Model.Format.he._autoParam)
    (hvlt : autoParam (Part.vlt ∈ ps) Float.Model.Format.he._autoParam) (hech : autoParam (Part.ech ∈ ps) Float.Model.Format.he._autoParam) :
    ({ t with pwr := a, vlt := b, ech := c } : State).Frame s ps fs := ((h.withPwr (x := a) hpwr).withVlt (x := b)
        hvlt).withEch (x := c) hech

theorem frame_rollback (s : State) : s.rollback.Frame s [.pwr, .vlt, .ech] [Reg.PWR_STATUS_STATE, Reg.PWR_STATUS_TARGET] := by
  unfold State.rollback
  exact .ite (.put (.put (.withPwrVltEch (.refl _ _ _)))) (.refl _ _ _)

theorem State.Frame.withRailsBoot {s t : State} {ps : List Part} {fs : List Fld} {a : Rails} {b : Boot} (h : t.Frame s ps fs)
    (hrails : autoParam (Part.rails ∈ ps) Float.Model.Format.he._autoParam)
    (hboot : autoParam (Part.boot ∈ ps) Float.Model.Format.he._autoParam) :
    ({ t with rails := a, boot := b } : State).Frame s ps fs := (h.withRails (x := a) hrails).withBoot (x := b) hboot

theorem frame_wake (s : State) (src : Nat) : (s.wake src).Frame s [.pwr, .rails, .boot, .vlt, .ech] [Reg.PWR_STATUS_STATE,
    Reg.PWR_WAKE_COUNT, Reg.PWR_WAKE_FROM, Reg.PWR_WAKE_SOURCE, Reg.PWR_STATUS_RETRY, Reg.SYS_STATUS_PATH,
    Reg.PWR_STATUS_WAKE_EV, Reg.PWR_STATUS_TARGET] := by
  unfold State.wake
  extract_lets st s1 s2 src3 src4 s3
  have hs1 : s1.Frame s [.pwr, .rails, .boot, .vlt, .ech] [Reg.PWR_STATUS_STATE, Reg.PWR_WAKE_COUNT, Reg.PWR_WAKE_FROM,
      Reg.PWR_WAKE_SOURCE, Reg.PWR_STATUS_RETRY, Reg.SYS_STATUS_PATH, Reg.PWR_STATUS_WAKE_EV, Reg.PWR_STATUS_TARGET] := .incSat
      (.put (.refl _ _ _))
  have hs2 : s2.Frame s [.pwr, .rails, .boot, .vlt, .ech] [Reg.PWR_STATUS_STATE, Reg.PWR_WAKE_COUNT, Reg.PWR_WAKE_FROM,
      Reg.PWR_WAKE_SOURCE, Reg.PWR_STATUS_RETRY, Reg.SYS_STATUS_PATH, Reg.PWR_STATUS_WAKE_EV, Reg.PWR_STATUS_TARGET] := .next
      (.put (.put hs1)) (frame_dropRequest _)
  have hs3 : s3.Frame s [.pwr, .rails, .boot, .vlt, .ech] [Reg.PWR_STATUS_STATE, Reg.PWR_WAKE_COUNT, Reg.PWR_WAKE_FROM,
      Reg.PWR_WAKE_SOURCE, Reg.PWR_STATUS_RETRY, Reg.SYS_STATUS_PATH, Reg.PWR_STATUS_WAKE_EV, Reg.PWR_STATUS_TARGET] := .ite
      (.put (.withRailsBoot hs2)) hs2
  exact .ite (.next hs3 (frame_raise _ _ _ _)) (.ite (.next (.next (.refl _ _ _) (frame_rollback _)) (frame_dropRequest _))
      (.ite (.next (.refl _ _ _) (frame_dropRequest _)) (.refl _ _ _)))

theorem frame_leaveOn (s : State) (src : Nat) : (s.leaveOn src).Frame s [.pwr, .rails, .boot, .vlt, .ech, .dmc]
    [Reg.PWR_STATUS_STATE, Reg.PWR_WAKE_COUNT, Reg.PWR_WAKE_FROM, Reg.PWR_WAKE_SOURCE, Reg.PWR_STATUS_RETRY,
    Reg.SYS_STATUS_PATH, Reg.PWR_STATUS_WAKE_EV, Reg.PWR_STATUS_TARGET, Reg.PWR_STATUS_GUARD, Reg.WDT_STATUS_PAUSED] := by
  unfold State.leaveOn
  exact .ite (.put (.refl _ _ _)) (.ite (.put (.withBoot (.next (.next (.refl _ _ _) (frame_wake _ _)) (frame_sleepExitNow
      _)))) (.next (.next (.refl _ _ _) (frame_wake _ _)) (frame_sleepExitNow _)))

theorem frame_setSeq (s : State) (st : Nat) : (s.setSeq st).Frame s [.pwr, .rails, .boot, .vlt, .ech, .dmc]
    [Reg.PWR_STATUS_STATE, Reg.PWR_WAKE_COUNT, Reg.PWR_WAKE_FROM, Reg.PWR_WAKE_SOURCE, Reg.PWR_STATUS_RETRY,
    Reg.SYS_STATUS_PATH, Reg.PWR_STATUS_WAKE_EV, Reg.PWR_STATUS_TARGET, Reg.PWR_STATUS_GUARD, Reg.WDT_STATUS_PAUSED,
    Reg.SUP_SEQ_STATUS_STATE, Reg.SUP_STATUS_SEQ_EV] := by
  unfold State.setSeq
  extract_lets s1 src1 s0
  have hs1 : s1.Frame s [.pwr, .rails, .boot, .vlt, .ech, .dmc] [Reg.PWR_STATUS_STATE, Reg.PWR_WAKE_COUNT, Reg.PWR_WAKE_FROM,
      Reg.PWR_WAKE_SOURCE, Reg.PWR_STATUS_RETRY, Reg.SYS_STATUS_PATH, Reg.PWR_STATUS_WAKE_EV, Reg.PWR_STATUS_TARGET,
      Reg.PWR_STATUS_GUARD, Reg.WDT_STATUS_PAUSED, Reg.SUP_SEQ_STATUS_STATE, Reg.SUP_STATUS_SEQ_EV] := .ite (.next (.refl _ _
      _) (frame_leaveOn _ _)) (.ite (.next (.refl _ _ _) (frame_leaveOn _ _)) (.refl _ _ _))
  have hs0 : s0.Frame s [.pwr, .rails, .boot, .vlt, .ech, .dmc] [Reg.PWR_STATUS_STATE, Reg.PWR_WAKE_COUNT, Reg.PWR_WAKE_FROM,
      Reg.PWR_WAKE_SOURCE, Reg.PWR_STATUS_RETRY, Reg.SYS_STATUS_PATH, Reg.PWR_STATUS_WAKE_EV, Reg.PWR_STATUS_TARGET,
      Reg.PWR_STATUS_GUARD, Reg.WDT_STATUS_PAUSED, Reg.SUP_SEQ_STATUS_STATE, Reg.SUP_STATUS_SEQ_EV] := .ite (.withRails hs1) hs1
  exact .ite (.refl _ _ _) (.next (.ev (.next (.put hs0) (frame_raise _ _ _ _))) (frame_ffErase _))

theorem frame_ffQueueAdd (s : State) (r : FFRecord) : (s.ffQueueAdd r).Frame s [.rails] [Reg.SUP_FF_STAT_DROPPED] := by
  unfold State.ffQueueAdd
  exact .ite (.incSat (.withRails (.refl _ _ _))) (.withRails (.refl _ _ _))

theorem frame_takeFF (s : State) (ch : Nat) (kind : Nat) (code : Nat) : (s.takeFF ch kind code).Frame s [.rails]
    [Reg.SUP_FF_INFO_CODE, Reg.SUP_FF_INFO_CHANNEL, Reg.SUP_FF_INFO_KIND, Reg.SUP_FF_INFO_PHASE, Reg.SUP_FF_INFO_GROUP,
    Reg.SUP_FF_INFO_ATTEMPT, Reg.SUP_FF_INFO_VALID, Reg.SUP_FF_TIME_TIME, Reg.SUP_FF_MASK_OUT_MASK, Reg.SUP_FF_STAT_DROPPED] :=
    by
  unfold State.takeFF
  exact .quiet (.next (.put (.put (.put (.put (.put (.put (.put (.put (.put (.withRails (.refl _ _ _)))))))))))
      (frame_ffQueueAdd _ _)) (quiet_eventWith _ _ _ _ _ _)

end Sys2Proof.Machine
end

section
/-! SUPPORT. The sequencer, the resets of a start, and the button. -/

namespace Sys2Proof.Machine

/-- The sequencer's state after it is set. -/
theorem State.seqState_setSeq (s : State) {st : Nat} (h : st < 8) : (s.setSeq st).seqState = st := by
  unfold State.setSeq
  split
  next h' => exact h'
  next =>
    extract_lets s1 src s0
    have hput : (s0.put Reg.SUP_SEQ_STATUS_STATE st).get Reg.SUP_SEQ_STATUS_STATE = st := State.get_put_lt _ _ h
    simp (disch := decide) [State.seqState, (frame_ffErase _).get_eq, hput]

theorem mget_filter_of {α : Type} {m : NMap α} {p : Nat × α → Bool} {k : Nat} (h : ∀ v, p (k, v) = true) :
    mget (m.filter p) k = mget m k := by
  induction m with
  | nil => rfl
  | cons e m ih =>
    obtain ⟨j, v⟩ := e
    by_cases hk : k = j
    · subst hk
      simp [mget, h v]
    · by_cases hp : p (j, v) = true
      · simp [hp, mget, hk, ih]
      · simp [hp, mget, hk, ih]

/-- A reset of another block, and of a block whose field is kept, leaves the field. -/
theorem State.get_resetBlock (s : State) {b : Block} {keep : List Fld} {f : Fld}
    (h : Block.ofOff (keyOff f.key) ≠ some b ∨ f.key ∈ keep.map Fld.key) : (s.resetBlock b keep).get f = s.get f := by
  refine congrArg (Option.getD · f.rst) (mget_filter_of fun v => ?_)
  obtain h | h := h
  · simp [h]
  · obtain ⟨g, hg, hk⟩ := List.mem_map.1 h
    simp only [Bool.or_eq_true, List.any_eq_true, beq_iff_eq]
    exact .inr ⟨g, hg, hk⟩

theorem State.get_resetRw (s : State) {b : Block} {f : Fld} (h : Block.ofOff (keyOff f.key) ≠ some b) :
    (s.resetRw b).get f = s.get f :=
  congrArg (Option.getD · f.rst) (mget_filter_of fun v => by simp [h])


theorem State.seqState_resets (s : State) : ((s.resetBlock .sup supKept).resetRw .lan).seqState = s.seqState :=
  (State.get_resetRw _ (by decide)).trans (State.get_resetBlock s (.inr (by decide)))

/-- A change of the sequencer's state that does not leave ON. -/
theorem frame_setSeq_away {s : State} (h : s.seqState ≠ seqOn) (st : Nat) : (s.setSeq st).Frame s [.rails]
    [Reg.SUP_SEQ_STATUS_STATE, Reg.SUP_STATUS_SEQ_EV] := by
  unfold State.setSeq
  extract_lets s1 src s0
  have h1 : s1 = s := (if_neg fun hc => h hc.1).trans (if_neg h)
  have h0 : s0.Frame s [.rails] [Reg.SUP_SEQ_STATUS_STATE, Reg.SUP_STATUS_SEQ_EV] := by
    refine .ite (.withRails ?_) ?_ <;> exact h1 ▸ .refl _ _ _
  exact .ite (.refl _ _ _) (.next (.ev (.next (.put h0) (frame_raise _ _ _ _))) (frame_ffErase _))

theorem frame_upBegin_away {s : State} (h : s.seqState ≠ seqOn) (n : Nat) : (s.upBegin n).Frame s [.rails]
    [Reg.SUP_SEQ_STATUS_STATE, Reg.SUP_STATUS_SEQ_EV, Reg.SUP_SEQ_STATUS_ATTEMPT] := by
  unfold State.upBegin
  exact .withRails (.put (.next (.refl _ _ _) (frame_setSeq_away h _)))

theorem State.seqState_upBegin (s : State) (n : Nat) : (s.upBegin n).seqState = seqUp :=
  (State.get_put_ne _ _ (by decide)).trans (s.seqState_setSeq (by decide))

theorem State.seqState_powerOn (s : State) (n : Nat) : (s.powerOn n).seqState = seqUp := State.seqState_upBegin _ _

/-- What a power-up changes before its sequencer's step (R358). -/
def State.powerReady (s : State) : State :=
  let s0 := (s.resetBlock .sup supKept).resetRw .lan
  let s1 := (s0.put Reg.PWR_AON_LP_MODE 0).incWrap Reg.SYS_OPSEC_PWR_CYCLES 1
  { s1 with
    pwr := { s1.pwr with upDom := some Domain.sup, upStep := 0, upRetry := false }
    boot := { s1.boot with starting := true, startStep := 1, hotWait := decide (115 < s1.tjunction) } }

theorem State.powerOn_eq (s : State) (n : Nat) : s.powerOn n = s.powerReady.upBegin n := rfl

theorem State.get_powerReady (s : State) {f : Fld} (hr : ((s.resetBlock .sup supKept).resetRw .lan).get f = s.get f)
    (hlp : f.key ≠ Reg.PWR_AON_LP_MODE.key) (hpc : f.key ≠ Reg.SYS_OPSEC_PWR_CYCLES.key) : s.powerReady.get f = s.get f :=
  (State.get_put_ne _ _ hpc).trans ((State.get_put_ne _ _ hlp).trans hr)

theorem State.seqState_powerReady (s : State) : s.powerReady.seqState = s.seqState :=
  s.get_powerReady s.seqState_resets (by decide) (by decide)

/-- A field of no block that a power-on resets, outside what it sets. -/
theorem State.get_powerOn {s : State} (h : s.seqState ≠ seqOn) (n : Nat) {f : Fld} (ho : f.OffRecorder)
    (hs : Block.ofOff (keyOff f.key) ≠ some .sup) (hl : Block.ofOff (keyOff f.key) ≠ some .lan)
    (hn : f.key ∉ [Reg.SUP_SEQ_STATUS_STATE, Reg.SUP_STATUS_SEQ_EV, Reg.SUP_SEQ_STATUS_ATTEMPT].map Fld.key)
    (hlp : f.key ≠ Reg.PWR_AON_LP_MODE.key) (hpc : f.key ≠ Reg.SYS_OPSEC_PWR_CYCLES.key) : (s.powerOn n).get f = s.get f :=
  ((frame_upBegin_away (s.seqState_powerReady ▸ h) n).get_eq ho hn).trans
    (s.get_powerReady ((State.get_resetRw _ hl).trans (State.get_resetBlock s (.inl hs))) hlp hpc)

theorem State.starting_powerOn {s : State} (h : s.seqState ≠ seqOn) (n : Nat) : (s.powerOn n).boot.starting = true :=
  congrArg Boot.starting (frame_upBegin_away (s.seqState_powerReady ▸ h) n).sameBoot

/-! The way down. -/

/-- The fields that a power-down writes at its start, which switches the highest group off. -/
def downFields : List Fld := [Reg.PWR_STATUS_STATE, Reg.PWR_WAKE_COUNT, Reg.PWR_WAKE_FROM, Reg.PWR_WAKE_SOURCE,
  Reg.PWR_STATUS_RETRY, Reg.SYS_STATUS_PATH, Reg.PWR_STATUS_WAKE_EV, Reg.PWR_STATUS_TARGET, Reg.PWR_STATUS_GUARD,
  Reg.WDT_STATUS_PAUSED, Reg.SUP_SEQ_STATUS_STATE, Reg.SUP_STATUS_SEQ_EV, Reg.VLT_STATUS_ARMED, Reg.SUP_STATUS_SEQ_DONE,
  Reg.SUP_SEQ_STATUS_GROUP] ++ railVals

theorem frame_downBegin_slow (s : State) (why : DownWhy) : (s.downBegin why false).Frame s [.pwr, .rails, .boot, .vlt, .ech, .dmc]
    downFields := by
  unfold State.downBegin
  exact .next (.withRailsBoot (.next (.put (.put (.ite (.next (.refl _ _ _) (frame_leaveOn _ _)) (.refl _ _ _))))
    (frame_setSeq _ _))) (frame_disableGroup _ _)

theorem State.downBegin_slow (s : State) (why : DownWhy) : (s.downBegin why false).seqState = seqDown ∧
    (s.downBegin why false).flag Reg.VLT_STATUS_ARMED = false := by
  unfold State.downBegin
  extract_lets s0 s1 times src1 src2 s2
  have hseq : s2.seqState = seqDown := State.seqState_setSeq _ (by decide)
  have harm : s2.flag Reg.VLT_STATUS_ARMED = false := by
    refine ((frame_setSeq _ seqDown).flag_eq (by decide) (by decide)).trans ?_
    simp (disch := decide)
  have hdis := frame_disableGroup s2 s2.rails.reached
  exact ⟨(hdis.get_eq (by decide) (by decide)).trans hseq, (hdis.flag_eq (by decide) (by decide)).trans harm⟩

/-- Of the rails' side, leaving SLEEP or DEEP writes the transition and what the sequencer waits for. -/
theorem State.rails_leaveOn (s : State) (src : Nat) : ∃ w x y, (s.leaveOn src).rails =
    { s.rails with wait := w, inTransition := x, transDeep := y } := by
  have hwake : ∃ w x y, (s.wake src).sleepExitNow.rails = { s.rails with wait := w, inTransition := x, transDeep := y } := by
    rw [(frame_sleepExitNow _).sameRails]
    unfold State.wake
    extract_lets st s1 s2 sb sr s3
    have hs3 : ∃ w x y, s3.rails = { s.rails with wait := w, inTransition := x, transDeep := y } := by
      unfold s3
      split <;> exact ⟨_, _, _, rfl⟩
    split
    · rw [(frame_raise _ _ _ _).sameRails]
      exact hs3
    · split
      · rw [(frame_dropRequest _).sameRails, (frame_rollback _).sameRails]
        exact ⟨_, _, _, rfl⟩
      · split <;> exact ⟨_, _, _, rfl⟩
  unfold State.leaveOn
  extract_lets st s1
  split
  · exact ⟨_, _, _, rfl⟩
  · split <;> exact hwake

theorem State.opened_leaveOn (s : State) (src : Nat) : (s.leaveOn src).rails.openedThisStart = s.rails.openedThisStart := by
  obtain ⟨w, x, y, h⟩ := s.rails_leaveOn src
  rw [h]

theorem State.cache_allOff (s : State) : s.allOff.cache = Cache.init := by simp only [State.allOff, State.put_cache]

theorem State.hold_allOff (s : State) : s.allOff.flag Reg.VLT_STATUS_HOLD = false := by
  simp (disch := decide) only [State.allOff, State.flag_put_other, State.flag_put_zero]

theorem State.ffTaken_leaveOn (s : State) (src : Nat) : (s.leaveOn src).rails.ffTaken = s.rails.ffTaken := by
  obtain ⟨w, x, y, h⟩ := s.rails_leaveOn src
  rw [h]

/-- A request to go down before the PMR opened needs no vault (R361). -/
theorem State.vaultOrDown_unopened {s : State} (h : s.rails.openedThisStart = false) (cause : VaultCause) :
    (s.vaultOrDown cause).seqState = seqDown ∧ (s.vaultOrDown cause).flag Reg.VLT_STATUS_ARMED = false := by
  unfold State.vaultOrDown
  extract_lets s1
  have hs1 : s1.rails.openedThisStart = false := by
    rw [(frame_announceDown _).sameRails, s.opened_leaveOn, h]
  rw [if_neg (by simp [hs1])]
  exact s1.downBegin_slow _

/-! Everything off. -/

theorem State.domSt_setDom_off (s : State) (e : Domain) {d : Domain} (h : d = e ∨ s.domSt d = .off) :
    (s.setDom e .off).domSt d = .off := by
  rw [State.domSt_setDom]
  by_cases hd : s.domSt d = .off
  · rw [hd, ite_self]
  · obtain rfl := h.resolve_right hd
    exact if_pos ⟨rfl, State.idx_lt_of_domSt hd⟩

theorem State.domSt_foldl_off {d : Domain} (hd : d ≠ .aon) (l : List Domain) {t : State} (h : d ∈ l ∨ t.domSt d = .off) :
    (l.foldl (fun t e => if e = .aon then t else t.setDom e .off) t).domSt d = .off := by
  induction l generalizing t with
  | nil => exact h.resolve_left List.not_mem_nil
  | cons e l ih =>
    refine ih ?_
    dsimp only
    split
    next he => exact h.imp_left fun hm => (List.mem_cons.1 hm).resolve_left fun hde => hd (hde.trans he)
    next =>
      by_cases hde : d = e
      · exact .inr (t.domSt_setDom_off e (.inl hde))
      · exact h.imp (fun hm => (List.mem_cons.1 hm).resolve_left hde) fun ht => t.domSt_setDom_off e (.inr ht)

/-- Every domain but AON is off (R401). -/
theorem State.domSt_allOff (s : State) {d : Domain} (h : d ≠ .aon) : s.allOff.domSt d = .off := by
  have hfold := State.domSt_foldl_off h Domain.all (t := (List.range 64).foldl (fun t n => t.put (Reg.SUP_CHn_VAL_EN n) 0)
    s.grottoPowerLoss.stagingLost) (.inl (by cases d <;> decide))
  simpa only [State.allOff, State.domSt, State.put_pwr] using hfold

theorem State.ffTaken_takeFF (s : State) (ch kind code : Nat) : (s.takeFF ch kind code).rails.ffTaken = true := by
  have hadd : ∀ (u : State) (r : FFRecord), (u.ffQueueAdd r).rails.ffTaken = u.rails.ffTaken := fun u r => by
    unfold State.ffQueueAdd
    extract_lets full q v
    split <;> rfl
  unfold State.takeFF
  extract_lets snap r src s1 s2 s3 s4
  rw [(frame_of_quiet (quiet_eventWith s4 4 0x7001 6 ch (r.words, false)) [] []).sameRails, hadd]
  rfl

theorem State.ffTaken_allOff (s : State) : s.allOff.rails.ffTaken = s.rails.ffTaken := by
  have hrails := congrArg Rails.ffTaken (frame_domainsOff s).sameRails
  simpa only [State.allOff, State.put_rails] using hrails

theorem State.ffTaken_setSeq (s : State) (st : Nat) : (s.setSeq st).rails.ffTaken = s.rails.ffTaken := by
  have herase : ∀ u : State, u.ffErase.rails.ffTaken = u.rails.ffTaken := fun u => by
    unfold State.ffErase
    split <;> rfl
  have hon : (if s.seqState = seqOn ∧ st ≠ seqGrace then s.leaveOn 10 else if s.seqState = seqOn then s.leaveOn 4
      else s).rails.ffTaken = s.rails.ffTaken := by
    split
    · exact s.ffTaken_leaveOn _
    · split
      · exact s.ffTaken_leaveOn _
      · rfl
  unfold State.setSeq
  extract_lets s1 src s0
  have h0 : s0.rails.ffTaken = s.rails.ffTaken := by
    unfold s0
    split <;> exact hon
  split
  · rfl
  · rw [herase, (frame_of_quiet (quiet_ev _ _ _ _ _) [] []).sameRails, (frame_raise _ _ _ _).sameRails]
    exact h0

/-- With no power-on latched, everything is off in OFF (R359). -/
theorem State.enterOff_stays {s : State} (h : s.flag Reg.SUP_STATUS_ON_PENDING = false) (auto : Bool) :
    s.enterOff auto = { (s.setSeq seqOff).allOff with
      rails := { (s.setSeq seqOff).allOff.rails with autoOn := auto, mrstWait := false } } := by
  have hpend : (s.setSeq seqOff).flag Reg.SUP_STATUS_ON_PENDING = false :=
    ((frame_setSeq s seqOff).flag_eq (by decide) (by decide)).trans h
  unfold State.enterOff
  simp only [hpend, Bool.and_false, Bool.false_eq_true, if_false]

/-! The presses by the sequencer's state they find. -/

section
variable {s : State}

theorem exec_shortPress (h : s.domOn .aon = true) : exec .shortPress s = done s s.shortPress := congrArg (done s) (if_pos h)

theorem exec_longPress (h : s.domOn .aon = true) : exec .longPress s = done s s.longPress := congrArg (done s) (if_pos h)

theorem exec_cutPress_off (h : s.seqState = seqOff) : exec .cutPress s = done s s := congrArg (done s) (if_pos (.inl h))

/-- The cut before everything goes off: the button shows, and the first fault record names it (R361, R365). -/
def State.cutNoted (s : State) : State :=
  let s1 := s.button.ev .sup 0x2002 7 0
  let s2 := if s1.rails.ffTaken then s1 else s1.takeFF 0 5 0
  let s3 := (((s2.put Reg.VLT_STATUS_HOLD 0).put Reg.VLT_STATUS_ARMED 0).put Reg.SUP_STATUS_SEQ_DONE 0)
  { s3 with rails := { s3.rails with downWhy := .cutPress, fast := true } }

theorem exec_cutPress (hoff : s.seqState ≠ seqOff) (hlock : s.seqState ≠ seqLockout) :
    exec .cutPress s = done s (s.cutNoted.enterOff false) := congrArg (done s) (if_neg (not_or_intro hoff hlock))

theorem State.ffTaken_cutNoted (s : State) : s.cutNoted.rails.ffTaken = true := by
  unfold State.cutNoted
  extract_lets s1 s2 s3
  show s2.rails.ffTaken = true
  unfold s2
  split
  next h => exact h
  next => exact s1.ffTaken_takeFF _ _ _

theorem frame_cutNoted (s : State) : s.cutNoted.Frame s [.rails] [Reg.SUP_STATUS_BTN_EV, Reg.SUP_FF_INFO_CODE, Reg.SUP_FF_INFO_CHANNEL,
    Reg.SUP_FF_INFO_KIND, Reg.SUP_FF_INFO_PHASE, Reg.SUP_FF_INFO_GROUP, Reg.SUP_FF_INFO_ATTEMPT, Reg.SUP_FF_INFO_VALID,
    Reg.SUP_FF_TIME_TIME, Reg.SUP_FF_MASK_OUT_MASK, Reg.SUP_FF_STAT_DROPPED, Reg.VLT_STATUS_HOLD, Reg.VLT_STATUS_ARMED,
    Reg.SUP_STATUS_SEQ_DONE] := by
  unfold State.cutNoted
  extract_lets s1 s2 s3
  have hs1 : s1.Frame s [] [Reg.SUP_STATUS_BTN_EV] := .ev (frame_button s)
  exact .withRails (.put (.put (.put (.ite hs1.mono (.next hs1.mono (frame_takeFF _ _ _ _))))))

theorem exec_graceTimeout (s : State) : exec .graceTimeout s = done s s.graceOver := rfl

/-- A wake in OFF powers up and shows its source (R361, R401). -/
theorem State.wakeOff_up (h : s.seqState = seqOff) (src : Nat) (hsrc : src < 2 ^ Reg.PWR_WAKE_SOURCE.width) :
    (s.wakeOff src).seqState = seqUp ∧ (s.wakeOff src).boot.starting = true ∧ (s.wakeOff src).get Reg.PWR_WAKE_SOURCE = src := by
  have hoff : (((((s.incSat Reg.PWR_WAKE_COUNT 1).put Reg.PWR_WAKE_FROM 4).put Reg.PWR_WAKE_SOURCE src).raise
      Reg.PWR_STATUS_WAKE_EV Reg.PWR_CTRL_INT_EN 61)).seqState ≠ seqOn := by
    rw [State.seqState] at h
    simp (disch := decide) [State.seqState, h, seqOff, seqOn]
  refine ⟨State.seqState_powerOn _ _, State.starting_powerOn hoff _, ?_⟩
  refine (State.get_powerOn hoff 0 (by decide) (by decide) (by decide) (by decide) (by decide) (by decide)).trans ?_
  exact (State.get_raise_other _ _ (by decide)).trans (State.get_put_lt _ _ hsrc)

theorem State.shortPress_off (h : s.seqState = seqOff) : s.shortPress = s.wakeOff 4 := if_pos h

theorem State.shortPress_grace (h : s.seqState = seqGrace) :
    s.shortPress = ((s.button.setSeq seqOn).put Reg.SUP_STATUS_OFF_PENDING 0).ev .sup 0x0003 3 0 := by
  simp [State.shortPress, h, seqGrace, seqOff, seqLockout]

theorem State.shortPress_down (h : s.seqState = seqDown) : s.shortPress = s.button.put Reg.SUP_STATUS_ON_PENDING 1 := by
  simp [State.shortPress, h, seqDown, seqGrace, seqOff, seqLockout]

theorem State.longPress_up (h : s.seqState = seqUp) : s.longPress = s.button.latchUp .longPress := if_pos h

theorem State.longPress_on (h : s.seqState = seqOn) : s.longPress = s.button.vaultOrDown .longPress := by
  simp [State.longPress, h, seqOn, seqUp]

end

end Sys2Proof.Machine
end

section
/-! PROOF. Presses and the grace period. -/

open Sys2Proof Sys2Proof.Machine

/-- Settles O38: each press and the end of the grace period by the sequencer's state it finds. -/
theorem button : Obligations.Button := by
  unfold Obligations.Button
  refine ⟨fun s haon hseq => ?_, fun s haon hseq => ?_, fun s haon hseq => ?_, fun s haon hseq hwait => ?_,
    fun s haon hseq hopen => ?_, fun s hoff hlock hpend => ?_, fun s hseq => ?_, fun s hseq hopen => ?_, fun s hseq => ?_⟩
  · refine runs_of_effect (exec_shortPress haon) ?_ (fun u q h => h)
    rw [State.shortPress_off hseq]
    exact State.wakeOff_up hseq 4 (by decide)
  · refine runs_of_effect (exec_shortPress haon) ?_ (fun u q h => h)
    rw [State.shortPress_grace hseq]
    have hcache : (s.button.setSeq seqOn).cache = s.cache :=
      ((frame_setSeq _ _).sameCache).trans (frame_button s).sameCache
    have hon : (s.button.setSeq seqOn).seqState = seqOn := State.seqState_setSeq _ (by decide)
    rw [State.seqState] at hon
    refine ⟨?_, ?_, ?_⟩
    · simp (disch := decide) [State.seqState, hon]
    · exact (State.flag_ev_off (by decide)).trans (State.flag_put_zero _ _)
    · exact (frame_of_quiet (quiet_ev _ _ _ _ _) [] []).sameCache.trans hcache
  · refine runs_of_effect (exec_shortPress haon) ?_ (fun u q ⟨hf, hr⟩ => ⟨hf, hr.finish q⟩)
    rw [State.shortPress_down hseq]
    exact ⟨State.flag_put_one _ _, .put (.next (.refl _ _ _) (frame_button s))⟩
  · refine runs_of_effect (exec_longPress haon) ?_ (fun u q h => h)
    rw [State.longPress_up hseq, State.latchUp, if_pos ((congrArg Rails.wait (frame_button s).sameRails).trans hwait)]
    have hup : s.button.seqState = seqUp := ((frame_button s).get_eq (by decide) (by decide)).trans hseq
    exact ⟨rfl, rfl, State.flag_put_one _ _, (State.get_put_ne _ _ (by decide)).trans hup, (frame_button s).sameCache⟩
  · refine runs_of_effect (exec_longPress haon) ?_ (fun u q h => h)
    rw [State.longPress_on hseq]
    exact State.vaultOrDown_unopened (by rw [(frame_button s).sameRails, hopen]) _
  · refine runs_of_done (exec_cutPress hoff hlock) ?_
    rw [State.enterOff_stays (((frame_cutNoted s).flag_eq (by decide) (by decide)).trans hpend)]
    have hdom := fun d hd => (s.cutNoted.setSeq seqOff).domSt_allOff (d := d) hd
    have hhold := (s.cutNoted.setSeq seqOff).hold_allOff
    have hcache := (s.cutNoted.setSeq seqOff).cache_allOff
    have hseq := ((frame_allOff (s.cutNoted.setSeq seqOff)).get_eq (f := Reg.SUP_SEQ_STATUS_STATE) (by decide) (by decide)).trans
      (s.cutNoted.seqState_setSeq (by decide))
    have htaken := (s.cutNoted.setSeq seqOff).ffTaken_allOff.trans ((State.ffTaken_setSeq _ _).trans s.ffTaken_cutNoted)
    generalize (s.cutNoted.setSeq seqOff).allOff = t at *
    exact ⟨hseq, hdom, hhold, hcache, htaken⟩
  · refine runs_of_effect (exec_cutPress_off hseq) (.refl _ _ _) (fun u q h => h.finish q)
  · refine runs_of_effect (exec_graceTimeout s) ?_ (fun u q h => h)
    rw [State.graceOver, if_pos hseq]
    exact (State.vaultOrDown_unopened hopen _).1
  · refine runs_of_effect (exec_graceTimeout s) ?_ (fun u q h => h.finish q)
    rw [State.graceOver, if_neg hseq]
    exact .refl _ _ _

end

section
/-! SUPPORT. The frames of what a vault's start, a warm reset and the watchdog do. -/

namespace Sys2Proof.Machine

theorem frame_bootNote (s : State) (kind : Nat) (reason : Nat) (cold : Bool) : (s.bootNote kind reason cold).Frame s [.boot]
    [Reg.SYS_STATUS_FAILED_STARTS] := by
  unfold State.bootNote
  exact .put (.withBoot (.refl _ _ _))

theorem frame_updVault (s : State) (f : Vault → Vault) : (s.updVault f).Frame s [.vlt] [] := by
  unfold State.updVault
  exact .withVlt (.refl _ _ _)

theorem frame_carryFlights (s : State) : s.carryFlights.Frame s [.grt, .vlt] [] := by
  unfold State.carryFlights
  exact .next (.withGrt (.refl _ _ _)) (frame_updVault _ _)

theorem frame_commitNote (s : State) (kind : Nat) (bank : Nat) (trial : Bool) (cold : Bool) (format : Bool) : (s.commitNote
    kind bank trial cold format).Frame s [.boot] [Reg.CFG_COMMIT_SEQ_SEQ] := by
  unfold State.commitNote
  exact .put (.withBoot (.refl _ _ _))

theorem frame_confirm (s : State) : s.confirm.Frame s [.boot] [Reg.CFG_COMMIT_SEQ_SEQ, Reg.CFG_STATUS_TRIAL] := by
  unfold State.confirm
  extract_lets s1 src1 s2 src3
  have hs1 : s1.Frame s [.boot] [Reg.CFG_COMMIT_SEQ_SEQ, Reg.CFG_STATUS_TRIAL] := .put (.next (.refl _ _ _) (frame_commitNote _
      _ _ _ _ _))
  have hs2 : s2.Frame s [.boot] [Reg.CFG_COMMIT_SEQ_SEQ, Reg.CFG_STATUS_TRIAL] := .withBoot hs1
  split
  · exact .ite (.withBoot hs2) hs2
  · exact hs2

theorem frame_cutRehearsal (s : State) : s.cutRehearsal.Frame s [.umb] [Reg.UMB_REH_INFO_OUTCOME] := by
  unfold State.cutRehearsal
  exact .ite (.put (.withUmb (.refl _ _ _))) (.refl _ _ _)

theorem frame_dramTrip (s : State) : s.dramTrip.Frame s [.dmc] [Reg.DMC_TRN_STATUS_WINDOW, Reg.DMC_TRN_STATUS_ABORTS] := by
  unfold State.dramTrip
  exact .withDmc (.ite (.refl _ _ _) (.incSat (.put (.refl _ _ _))))

theorem frame_pumpForwards (s : State) : s.pumpForwards.Frame s [.ech, .cache, .dmc, .pmr] ([Reg.VLT_DEMAND_CNT_COUNT] ++
    errFields) := by
  unfold State.pumpForwards
  exact .foldl (fun _ _ ht => .ite ht (.ite (.withEch (.next ht (frame_frame _ _ _ _ _))) (.ite (.next ht (frame_startFetch _ _
      _)) (.ite (.withEch (.next ht (frame_frame _ _ _ _ _))) (.ite (.withEch (.foldl (fun _ _ ht => .next ht (frame_frame _ _
      _ _ _)) _ (.next ht (frame_readData _ _ _ _)))) (.withEch (.next (.next ht (frame_readData _ _ _ _)) (frame_frame _ _ _ _
      _)))))))) _ (.refl _ _ _)

theorem frame_readGranule (s : State) (port : DPort) (g : Nat) : (s.readGranule port g).1.Frame s [.cache, .dmc, .pmr, .ech]
    errFields := by
  unfold State.readGranule
  exact .next (.refl _ _ _) (frame_readData _ _ _ _)

theorem frame_sendGranule (s : State) (g : Nat) (idx : Nat) (tag : Nat) (purpose : Nat) : (s.sendGranule g idx tag
    purpose).Frame s [.ech] [] := by
  unfold State.sendGranule
  exact .next (.foldl (fun _ _ ht => .next ht (frame_frame _ _ _ _ _)) _ (.refl _ _ _)) (frame_frame _ _ _ _ _)

theorem frame_sendNoGranule (s : State) (idx : Nat) (tag : Nat) (purpose : Nat) (status : Nat) : (s.sendNoGranule idx tag
    purpose status).Frame s [.ech] [] := by
  unfold State.sendNoGranule
  exact .next (.refl _ _ _) (frame_frame _ _ _ _ _)

theorem frame_pumpGreqs (s : State) : s.pumpGreqs.Frame s [.ech, .cache, .dmc, .pmr] ([Reg.VLT_DEMAND_CNT_COUNT] ++ errFields)
    := by
  unfold State.pumpGreqs
  exact .foldl (fun _ _ ht => .ite (.withEch (.next ht (frame_sendNoGranule _ _ _ _ _))) (.ite (.next ht (frame_startFetch _ _
      _)) (.ite (.withEch (.next ht (frame_sendNoGranule _ _ _ _ _))) (.withEch (.ite (.next (.next ht (frame_readGranule _ _
      _)) (frame_sendGranule _ _ _ _ _)) (.next (.next ht (frame_readGranule _ _ _)) (frame_sendNoGranule _ _ _ _ _))))))) _
      (.refl _ _ _)

theorem frame_markDirty (s : State) (g : Nat) (seq : Nat) (epoch : Nat) : (s.markDirty g seq epoch).Frame s [.cache] [] := by
  unfold State.markDirty
  exact .withCache (.refl _ _ _)

theorem frame_commitWrite (s : State) (g : Nat) (off : Nat) (data : List Byte) (be : List Bool) (seq : Nat) (epoch : Nat) :
    (s.commitWrite g off data be seq epoch).Frame s [.pmr, .cache, .ech, .dmc] ([Reg.VLT_MERGE_FULL_CNT,
    Reg.VLT_DEMAND_CNT_COUNT, Reg.DMC_ECC_CTRL_INJ_MODE] ++ errFields) := by
  unfold State.commitWrite
  exact .next (.ite (.next (.ite (.incSat (.withPmr (.refl _ _ _))) (.withPmr (.refl _ _ _))) (frame_startFetch _ _ _)) (.next
      (.refl _ _ _) (frame_applyWrite _ _ _ _ _))) (frame_markDirty _ _ _ _)

theorem frame_mack (s : State) (flags : Nat) (arg : Nat) (epoch : Nat) : (s.mack flags arg epoch).Frame s [.ech] [] := by
  unfold State.mack
  exact .next (.refl _ _ _) (frame_frame _ _ _ _ _)

theorem frame_misbehave (s : State) (code : Nat) (header : List Nat) : (s.misbehave code header).Frame s [.ech, .dmc, .pmr,
    .cache, .umb] ([Reg.ECH_MISB_LAST_CODE, Reg.ECH_STATUS_MISB_EV, Reg.ECH_RESYNC_MODE, Reg.ECH_CNT_FWD_COUNT,
    Reg.VLT_DEMAND_CNT_COUNT, Reg.UMB_STATUS_THR_A, Reg.UMB_STATUS_THR_B, Reg.UMB_STATUS_THR_EV, Reg.ECH_LINK_UP,
    Reg.ECH_LINK_RATE, Reg.ECH_LINK_WIDTH, Reg.UMB_PEER_OUT_GRANULES, Reg.ECH_STATUS_PEER_TRIP, Reg.ECH_STATUS_STATE,
    Reg.ECH_STATUS_STATE_EV, Reg.DMC_ECC_CTRL_INJ_MODE, Reg.VLT_STATUS_RESTORE_DONE, Reg.VLT_STATUS_PHASE] ++ errFields) := by
  unfold State.misbehave
  exact .next (.next (.put (.withEch (.quiet (.refl _ _ _) (quiet_eventWith _ _ _ _ _ _)))) (frame_raise _ _ _ _))
      (frame_endSession _ _ _)

theorem frame_sendMack (s : State) : s.sendMack.Frame s [.ech] [] := by
  unfold State.sendMack
  exact .ite (.ite (.withEch (.refl _ _ _)) (.next (.withEch (.refl _ _ _)) (frame_mack _ _ _ _))) (.next (.ite (.withEch
      (.refl _ _ _)) (.next (.withEch (.refl _ _ _)) (frame_mack _ _ _ _))) (frame_mack _ _ _ _))

theorem frame_spendPeer (s : State) : s.spendPeer.Frame s [.ech] [Reg.UMB_PEER_OUT_GRANULES] := by
  unfold State.spendPeer
  exact .put (.withEch (.refl _ _ _))

theorem frame_storeMwr (s : State) (w : MirWrite) : (s.storeMwr w).Frame s [.ech, .dmc, .pmr, .cache, .umb]
    ([Reg.ECH_MISB_LAST_CODE, Reg.ECH_STATUS_MISB_EV, Reg.ECH_RESYNC_MODE, Reg.ECH_CNT_FWD_COUNT, Reg.VLT_DEMAND_CNT_COUNT,
    Reg.UMB_STATUS_THR_A, Reg.UMB_STATUS_THR_B, Reg.UMB_STATUS_THR_EV, Reg.ECH_LINK_UP, Reg.ECH_LINK_RATE, Reg.ECH_LINK_WIDTH,
    Reg.UMB_PEER_OUT_GRANULES, Reg.ECH_STATUS_PEER_TRIP, Reg.ECH_STATUS_STATE, Reg.ECH_STATUS_STATE_EV,
    Reg.DMC_ECC_CTRL_INJ_MODE, Reg.VLT_STATUS_RESTORE_DONE, Reg.VLT_STATUS_PHASE, Reg.VLT_MERGE_FULL_CNT,
    Reg.ECH_SEQ_STORED_SEQ] ++ errFields) := by
  unfold State.storeMwr
  extract_lets notStored s1 s0 s2 src4 src5 s3
  have hs1 : s1.Frame s [.ech, .dmc, .pmr, .cache, .umb] ([Reg.ECH_MISB_LAST_CODE, Reg.ECH_STATUS_MISB_EV, Reg.ECH_RESYNC_MODE,
      Reg.ECH_CNT_FWD_COUNT, Reg.VLT_DEMAND_CNT_COUNT, Reg.UMB_STATUS_THR_A, Reg.UMB_STATUS_THR_B, Reg.UMB_STATUS_THR_EV,
      Reg.ECH_LINK_UP, Reg.ECH_LINK_RATE, Reg.ECH_LINK_WIDTH, Reg.UMB_PEER_OUT_GRANULES, Reg.ECH_STATUS_PEER_TRIP,
      Reg.ECH_STATUS_STATE, Reg.ECH_STATUS_STATE_EV, Reg.DMC_ECC_CTRL_INJ_MODE, Reg.VLT_STATUS_RESTORE_DONE,
      Reg.VLT_STATUS_PHASE, Reg.VLT_MERGE_FULL_CNT, Reg.ECH_SEQ_STORED_SEQ] ++ errFields) := .ite (.refl _ _ _) (.next (.refl _
      _ _) (frame_spendPeer _))
  have hs0 : s0.Frame s [.ech, .dmc, .pmr, .cache, .umb] ([Reg.ECH_MISB_LAST_CODE, Reg.ECH_STATUS_MISB_EV, Reg.ECH_RESYNC_MODE,
      Reg.ECH_CNT_FWD_COUNT, Reg.VLT_DEMAND_CNT_COUNT, Reg.UMB_STATUS_THR_A, Reg.UMB_STATUS_THR_B, Reg.UMB_STATUS_THR_EV,
      Reg.ECH_LINK_UP, Reg.ECH_LINK_RATE, Reg.ECH_LINK_WIDTH, Reg.UMB_PEER_OUT_GRANULES, Reg.ECH_STATUS_PEER_TRIP,
      Reg.ECH_STATUS_STATE, Reg.ECH_STATUS_STATE_EV, Reg.DMC_ECC_CTRL_INJ_MODE, Reg.VLT_STATUS_RESTORE_DONE,
      Reg.VLT_STATUS_PHASE, Reg.VLT_MERGE_FULL_CNT, Reg.ECH_SEQ_STORED_SEQ] ++ errFields) := .next hs1 (frame_commitWrite _ _ _
      _ _ _ _)
  have hs2 : s2.Frame s [.ech, .dmc, .pmr, .cache, .umb] ([Reg.ECH_MISB_LAST_CODE, Reg.ECH_STATUS_MISB_EV, Reg.ECH_RESYNC_MODE,
      Reg.ECH_CNT_FWD_COUNT, Reg.VLT_DEMAND_CNT_COUNT, Reg.UMB_STATUS_THR_A, Reg.UMB_STATUS_THR_B, Reg.UMB_STATUS_THR_EV,
      Reg.ECH_LINK_UP, Reg.ECH_LINK_RATE, Reg.ECH_LINK_WIDTH, Reg.UMB_PEER_OUT_GRANULES, Reg.ECH_STATUS_PEER_TRIP,
      Reg.ECH_STATUS_STATE, Reg.ECH_STATUS_STATE_EV, Reg.DMC_ECC_CTRL_INJ_MODE, Reg.VLT_STATUS_RESTORE_DONE,
      Reg.VLT_STATUS_PHASE, Reg.VLT_MERGE_FULL_CNT, Reg.ECH_SEQ_STORED_SEQ] ++ errFields) := .put hs0
  have hs3 : s3.Frame s [.ech, .dmc, .pmr, .cache, .umb] ([Reg.ECH_MISB_LAST_CODE, Reg.ECH_STATUS_MISB_EV, Reg.ECH_RESYNC_MODE,
      Reg.ECH_CNT_FWD_COUNT, Reg.VLT_DEMAND_CNT_COUNT, Reg.UMB_STATUS_THR_A, Reg.UMB_STATUS_THR_B, Reg.UMB_STATUS_THR_EV,
      Reg.ECH_LINK_UP, Reg.ECH_LINK_RATE, Reg.ECH_LINK_WIDTH, Reg.UMB_PEER_OUT_GRANULES, Reg.ECH_STATUS_PEER_TRIP,
      Reg.ECH_STATUS_STATE, Reg.ECH_STATUS_STATE_EV, Reg.DMC_ECC_CTRL_INJ_MODE, Reg.VLT_STATUS_RESTORE_DONE,
      Reg.VLT_STATUS_PHASE, Reg.VLT_MERGE_FULL_CNT, Reg.ECH_SEQ_STORED_SEQ] ++ errFields) := .withPmrEch hs2
  exact .ite (.next (.withEch (.refl _ _ _)) (frame_mack _ _ _ _)) (.ite (.next (.refl _ _ _) (frame_misbehave _ _ _)) (.ite
      (.next (.withEch hs0) (frame_mack _ _ _ _)) (.next (.ite (.next hs3 (frame_sendMack _)) hs3) (frame_pumpForwards _))))

theorem frame_storeWaiting (s : State) (ws : List MirWrite) : (s.storeWaiting ws).Frame s [.ech, .dmc, .pmr, .cache, .umb]
    ([Reg.ECH_MISB_LAST_CODE, Reg.ECH_STATUS_MISB_EV, Reg.ECH_RESYNC_MODE, Reg.ECH_CNT_FWD_COUNT, Reg.VLT_DEMAND_CNT_COUNT,
    Reg.UMB_STATUS_THR_A, Reg.UMB_STATUS_THR_B, Reg.UMB_STATUS_THR_EV, Reg.ECH_LINK_UP, Reg.ECH_LINK_RATE, Reg.ECH_LINK_WIDTH,
    Reg.UMB_PEER_OUT_GRANULES, Reg.ECH_STATUS_PEER_TRIP, Reg.ECH_STATUS_STATE, Reg.ECH_STATUS_STATE_EV,
    Reg.DMC_ECC_CTRL_INJ_MODE, Reg.VLT_STATUS_RESTORE_DONE, Reg.VLT_STATUS_PHASE, Reg.VLT_MERGE_FULL_CNT,
    Reg.ECH_SEQ_STORED_SEQ] ++ errFields) := by
  induction ws generalizing s with
  | nil => exact .withEch (.refl _ _ _)
  | cons w rest ih =>
    exact .ite (.withEch (.refl _ _ _)) (.ite (.withEch (.refl _ _ _))
      ((State.Frame.next (.withEch (.refl _ _ _)) (frame_storeMwr _ _)).trans (ih _)))

theorem frame_pumpMirror (s : State) : s.pumpMirror.Frame s [.ech, .dmc, .pmr, .cache, .umb] ([Reg.ECH_MISB_LAST_CODE,
    Reg.ECH_STATUS_MISB_EV, Reg.ECH_RESYNC_MODE, Reg.ECH_CNT_FWD_COUNT, Reg.VLT_DEMAND_CNT_COUNT, Reg.UMB_STATUS_THR_A,
    Reg.UMB_STATUS_THR_B, Reg.UMB_STATUS_THR_EV, Reg.ECH_LINK_UP, Reg.ECH_LINK_RATE, Reg.ECH_LINK_WIDTH,
    Reg.UMB_PEER_OUT_GRANULES, Reg.ECH_STATUS_PEER_TRIP, Reg.ECH_STATUS_STATE, Reg.ECH_STATUS_STATE_EV,
    Reg.DMC_ECC_CTRL_INJ_MODE, Reg.VLT_STATUS_RESTORE_DONE, Reg.VLT_STATUS_PHASE, Reg.VLT_MERGE_FULL_CNT,
    Reg.ECH_SEQ_STORED_SEQ] ++ errFields) := by
  unfold State.pumpMirror
  exact .next (.refl _ _ _) (frame_storeWaiting _ _)

theorem frame_dumpRead (s : State) (gs : List Nat) : (s.dumpRead gs).Frame s [.cache, .dmc, .pmr, .ech] ([Reg.DMC_UE_CNT_VAULT]
    ++ errFields) := by
  unfold State.dumpRead
  exact .incSat (.foldl (fun _ _ ht => .next ht (frame_readGranule _ _ _)) _ (.refl _ _ _))

theorem frame_vaultStripe (s : State) (rewriteOf : Nat) (manifest : Bool) (content : List Nat) : (s.vaultStripe rewriteOf
    manifest content).Frame s [.grt, .pmr, .ech, .vlt, .flc, .cache, .dmc] ([Reg.GRT_SERVICE_LUNS_VAULT,
    Reg.GRT_SERVICE_LUNS_GROTTO, Reg.GRT_SERVICE_CHANNELS, Reg.GRT_VCAP_BYTES, Reg.GRT_ERASED_BYTES, Reg.GRT_BANDS_ERASED,
    Reg.GRT_BANDS_TOTAL, Reg.GRT_RETIRE_SPARES_MIN, Reg.GRT_STATUS_SPARES_LOW, Reg.FLC_STATUS_LUNS_ACTIVE,
    Reg.GRT_STATUS_CAP_RO, Reg.GRT_SERIAL_NEXT, Reg.UMB_ENDUR_LEVEL_LEVEL, Reg.FLC_INFLIGHT_PEAK, Reg.DMC_UE_CNT_VAULT,
    Reg.VLT_STRIPES_COUNT] ++ errFields) := by
  unfold State.vaultStripe
  extract_lets s0 n info carried r
  have hs0 : s0.Frame s [.grt, .pmr, .ech, .vlt, .flc, .cache, .dmc] ([Reg.GRT_SERVICE_LUNS_VAULT, Reg.GRT_SERVICE_LUNS_GROTTO,
      Reg.GRT_SERVICE_CHANNELS, Reg.GRT_VCAP_BYTES, Reg.GRT_ERASED_BYTES, Reg.GRT_BANDS_ERASED, Reg.GRT_BANDS_TOTAL,
      Reg.GRT_RETIRE_SPARES_MIN, Reg.GRT_STATUS_SPARES_LOW, Reg.FLC_STATUS_LUNS_ACTIVE, Reg.GRT_STATUS_CAP_RO,
      Reg.GRT_SERIAL_NEXT, Reg.UMB_ENDUR_LEVEL_LEVEL, Reg.FLC_INFLIGHT_PEAK, Reg.DMC_UE_CNT_VAULT, Reg.VLT_STRIPES_COUNT] ++
      errFields) := .next (.refl _ _ _) (frame_openBandsN _ _)
  have hr : r.Frame s [.grt, .pmr, .ech, .vlt, .flc, .cache, .dmc] ([Reg.GRT_SERVICE_LUNS_VAULT, Reg.GRT_SERVICE_LUNS_GROTTO,
      Reg.GRT_SERVICE_CHANNELS, Reg.GRT_VCAP_BYTES, Reg.GRT_ERASED_BYTES, Reg.GRT_BANDS_ERASED, Reg.GRT_BANDS_TOTAL,
      Reg.GRT_RETIRE_SPARES_MIN, Reg.GRT_STATUS_SPARES_LOW, Reg.FLC_STATUS_LUNS_ACTIVE, Reg.GRT_STATUS_CAP_RO,
      Reg.GRT_SERIAL_NEXT, Reg.UMB_ENDUR_LEVEL_LEVEL, Reg.FLC_INFLIGHT_PEAK, Reg.DMC_UE_CNT_VAULT, Reg.VLT_STRIPES_COUNT] ++
      errFields) := .next hs0 (frame_dumpRead _ _)
  split
  · exact .next hs0 (frame_updVault _ _)
  · exact .incSat (.next (.ite (.next hs0 (frame_handStripe _ _ _ _ _ _ _)) (.next hr (frame_handStripe _ _ _ _ _ _ _)))
      (frame_updVault _ _))

theorem frame_journalFlushAll (s : State) : s.journalFlushAll.Frame s [.grt, .flc] [Reg.FLC_INFLIGHT_PEAK] := by
  unfold State.journalFlushAll
  exact .ite (.refl _ _ _) (.next (.withGrt (.refl _ _ _)) (frame_gcErase _))

theorem frame_vaultTail (s : State) : s.vaultTail.Frame s [.grt, .pmr, .ech, .flc, .vlt] [Reg.GRT_SERVICE_LUNS_VAULT,
    Reg.GRT_SERVICE_LUNS_GROTTO, Reg.GRT_SERVICE_CHANNELS, Reg.GRT_VCAP_BYTES, Reg.GRT_ERASED_BYTES, Reg.GRT_BANDS_ERASED,
    Reg.GRT_BANDS_TOTAL, Reg.GRT_RETIRE_SPARES_MIN, Reg.GRT_STATUS_SPARES_LOW, Reg.FLC_STATUS_LUNS_ACTIVE,
    Reg.GRT_STATUS_CAP_RO, Reg.FLC_INFLIGHT_PEAK, Reg.VLT_STATUS_PHASE] := by
  unfold State.vaultTail
  exact .put (.next (.next (.foldl (fun _ _ ht => .next ht (frame_closeBand _ _ _)) _ (.refl _ _ _)) (frame_journalFlushAll _))
      (frame_updVault _ _))

theorem frame_vaultPump (s : State) : s.vaultPump.Frame s [.vlt, .grt, .pmr, .ech, .flc, .cache, .dmc]
    ([Reg.VLT_FAULTS_REWRITTEN, Reg.GRT_SERVICE_LUNS_VAULT, Reg.GRT_SERVICE_LUNS_GROTTO, Reg.GRT_SERVICE_CHANNELS,
    Reg.GRT_VCAP_BYTES, Reg.GRT_ERASED_BYTES, Reg.GRT_BANDS_ERASED, Reg.GRT_BANDS_TOTAL, Reg.GRT_RETIRE_SPARES_MIN,
    Reg.GRT_STATUS_SPARES_LOW, Reg.FLC_STATUS_LUNS_ACTIVE, Reg.GRT_STATUS_CAP_RO, Reg.GRT_SERIAL_NEXT,
    Reg.UMB_ENDUR_LEVEL_LEVEL, Reg.FLC_INFLIGHT_PEAK, Reg.DMC_UE_CNT_VAULT, Reg.VLT_STRIPES_COUNT, Reg.VLT_STATUS_PHASE] ++
    errFields) := by
  unfold State.vaultPump
  extract_lets room
  split
  · exact .refl _ _ _
  · extract_lets need left s1 ready take left6 s17
    have hs1 : s1.Frame s [.vlt, .grt, .pmr, .ech, .flc, .cache, .dmc] ([Reg.VLT_FAULTS_REWRITTEN, Reg.GRT_SERVICE_LUNS_VAULT,
        Reg.GRT_SERVICE_LUNS_GROTTO, Reg.GRT_SERVICE_CHANNELS, Reg.GRT_VCAP_BYTES, Reg.GRT_ERASED_BYTES, Reg.GRT_BANDS_ERASED,
        Reg.GRT_BANDS_TOTAL, Reg.GRT_RETIRE_SPARES_MIN, Reg.GRT_STATUS_SPARES_LOW, Reg.FLC_STATUS_LUNS_ACTIVE,
        Reg.GRT_STATUS_CAP_RO, Reg.GRT_SERIAL_NEXT, Reg.UMB_ENDUR_LEVEL_LEVEL, Reg.FLC_INFLIGHT_PEAK, Reg.DMC_UE_CNT_VAULT,
        Reg.VLT_STRIPES_COUNT, Reg.VLT_STATUS_PHASE] ++ errFields) := .put (.next (.refl _ _ _) (frame_updVault _ _))
    have hs17 : s17.Frame s [.vlt, .grt, .pmr, .ech, .flc, .cache, .dmc] ([Reg.VLT_FAULTS_REWRITTEN,
        Reg.GRT_SERVICE_LUNS_VAULT, Reg.GRT_SERVICE_LUNS_GROTTO, Reg.GRT_SERVICE_CHANNELS, Reg.GRT_VCAP_BYTES,
        Reg.GRT_ERASED_BYTES, Reg.GRT_BANDS_ERASED, Reg.GRT_BANDS_TOTAL, Reg.GRT_RETIRE_SPARES_MIN, Reg.GRT_STATUS_SPARES_LOW,
        Reg.FLC_STATUS_LUNS_ACTIVE, Reg.GRT_STATUS_CAP_RO, Reg.GRT_SERIAL_NEXT, Reg.UMB_ENDUR_LEVEL_LEVEL,
        Reg.FLC_INFLIGHT_PEAK, Reg.DMC_UE_CNT_VAULT, Reg.VLT_STRIPES_COUNT, Reg.VLT_STATUS_PHASE] ++ errFields) := .put (.next
        (.refl _ _ _) (frame_updVault _ _))
    split
    · exact .refl _ _ _
    · split
      · exact .next (.incSat (.next (.refl _ _ _) (frame_updVault _ _))) (frame_vaultStripe _ _ _ _)
      · exact .ite (.next hs1 (frame_vaultStripe _ _ _ _)) (.ite (.next hs17 (frame_vaultStripe _ _ _ _)) (.ite (.refl _ _ _)
          (.next (.refl _ _ _) (frame_vaultTail _))))

theorem frame_fetchFollows (s : State) : s.fetchFollows.Frame s [.ech, .cache, .dmc, .pmr, .umb, .vlt, .grt, .flc]
    ([Reg.VLT_DEMAND_CNT_COUNT, Reg.ECH_MISB_LAST_CODE, Reg.ECH_STATUS_MISB_EV, Reg.ECH_RESYNC_MODE, Reg.ECH_CNT_FWD_COUNT,
    Reg.UMB_STATUS_THR_A, Reg.UMB_STATUS_THR_B, Reg.UMB_STATUS_THR_EV, Reg.ECH_LINK_UP, Reg.ECH_LINK_RATE, Reg.ECH_LINK_WIDTH,
    Reg.UMB_PEER_OUT_GRANULES, Reg.ECH_STATUS_PEER_TRIP, Reg.ECH_STATUS_STATE, Reg.ECH_STATUS_STATE_EV,
    Reg.DMC_ECC_CTRL_INJ_MODE, Reg.VLT_STATUS_RESTORE_DONE, Reg.VLT_STATUS_PHASE, Reg.VLT_MERGE_FULL_CNT,
    Reg.ECH_SEQ_STORED_SEQ, Reg.VLT_FAULTS_REWRITTEN, Reg.GRT_SERVICE_LUNS_VAULT, Reg.GRT_SERVICE_LUNS_GROTTO,
    Reg.GRT_SERVICE_CHANNELS, Reg.GRT_VCAP_BYTES, Reg.GRT_ERASED_BYTES, Reg.GRT_BANDS_ERASED, Reg.GRT_BANDS_TOTAL,
    Reg.GRT_RETIRE_SPARES_MIN, Reg.GRT_STATUS_SPARES_LOW, Reg.FLC_STATUS_LUNS_ACTIVE, Reg.GRT_STATUS_CAP_RO,
    Reg.GRT_SERIAL_NEXT, Reg.UMB_ENDUR_LEVEL_LEVEL, Reg.FLC_INFLIGHT_PEAK, Reg.DMC_UE_CNT_VAULT, Reg.VLT_STRIPES_COUNT] ++
    errFields) := by
  unfold State.fetchFollows
  exact .next (.ite (.next (.next (.next (.next (.refl _ _ _) (frame_pumpGreqs _)) (frame_pumpForwards _)) (frame_pumpMirror
      _)) (frame_vaultPump _)) (.next (.next (.next (.refl _ _ _) (frame_pumpGreqs _)) (frame_pumpForwards _))
      (frame_pumpMirror _))) (frame_copyFinished _)

theorem frame_fetchFrozen (s : State) (g : Nat) : (s.fetchFrozen g).Frame s [.pmr, .dmc, .ech, .cache] ([Reg.ECH_CNT_FWD_COUNT]
    ++ errFields) := by
  unfold State.fetchFrozen
  exact .next (.ite (.next (.withPmr (.refl _ _ _)) (frame_loseGran _ _)) (.withPmr (.refl _ _ _))) (frame_answerWaiting _ _)

theorem frame_mediaLoss (s : State) (g : Nat) : (s.mediaLoss g).Frame s [.pmr, .ech] [Reg.VLT_OUTCOME_OWN, Reg.VLT_OUTCOME_MIRROR]
    := by
  unfold State.mediaLoss
  extract_lets own f s1
  have hs1 : s1.Frame s [.pmr, .ech] [Reg.VLT_OUTCOME_OWN, Reg.VLT_OUTCOME_MIRROR] := by
    refine .ite (.refl _ _ _) (.put (.refl _ _ _) ?_)
    unfold f
    split <;> decide
  exact .ite (.next hs1 (frame_setCond _ _)) hs1

theorem frame_setGranImage (s : State) (g : Nat) (img : List Host.Cell) : (s.setGranImage g img).Frame s [.cache] [] := by
  unfold State.setGranImage
  exact .withCache (.refl _ _ _)

theorem frame_writeGranule (s : State) (g : Nat) : (s.writeGranule g).Frame s [.dmc] [Reg.DMC_ECC_CTRL_INJ_MODE] := by
  unfold State.writeGranule
  exact .ite (.refl _ _ _) (.foldl (fun _ _ ht => .next ht (frame_writeBurst _ _)) _ (.refl _ _ _))

theorem frame_fetchDone (s : State) (g : Nat) (ok : Bool) : (s.fetchDone g ok).Frame s [.cache, .pmr, .dmc, .ech, .umb, .vlt,
    .grt, .flc] ([Reg.ECH_CNT_FWD_COUNT, Reg.VLT_DEMAND_CNT_COUNT, Reg.ECH_MISB_LAST_CODE, Reg.ECH_STATUS_MISB_EV,
    Reg.ECH_RESYNC_MODE, Reg.UMB_STATUS_THR_A, Reg.UMB_STATUS_THR_B, Reg.UMB_STATUS_THR_EV, Reg.ECH_LINK_UP, Reg.ECH_LINK_RATE,
    Reg.ECH_LINK_WIDTH, Reg.UMB_PEER_OUT_GRANULES, Reg.ECH_STATUS_PEER_TRIP, Reg.ECH_STATUS_STATE, Reg.ECH_STATUS_STATE_EV,
    Reg.DMC_ECC_CTRL_INJ_MODE, Reg.VLT_STATUS_RESTORE_DONE, Reg.VLT_STATUS_PHASE, Reg.VLT_MERGE_FULL_CNT,
    Reg.ECH_SEQ_STORED_SEQ, Reg.VLT_FAULTS_REWRITTEN, Reg.GRT_SERVICE_LUNS_VAULT, Reg.GRT_SERVICE_LUNS_GROTTO,
    Reg.GRT_SERVICE_CHANNELS, Reg.GRT_VCAP_BYTES, Reg.GRT_ERASED_BYTES, Reg.GRT_BANDS_ERASED, Reg.GRT_BANDS_TOTAL,
    Reg.GRT_RETIRE_SPARES_MIN, Reg.GRT_STATUS_SPARES_LOW, Reg.FLC_STATUS_LUNS_ACTIVE, Reg.GRT_STATUS_CAP_RO,
    Reg.GRT_SERIAL_NEXT, Reg.UMB_ENDUR_LEVEL_LEVEL, Reg.FLC_INFLIGHT_PEAK, Reg.DMC_UE_CNT_VAULT, Reg.VLT_STRIPES_COUNT,
    Reg.VLT_OUTCOME_OWN, Reg.VLT_OUTCOME_MIRROR] ++ errFields) := by
  unfold State.fetchDone
  extract_lets e
  split
  · exact .next (.next (.next (.refl _ _ _) (frame_setEnt _ _ _)) (frame_fetchFrozen _ _)) (frame_fetchFollows _)
  · split
    · exact .next (.next (.next (.next (.next (.refl _ _ _) (frame_writeGranule _ _)) (frame_setGranImage _ _ _)) (frame_setEnt
        _ _ _)) (frame_settleGran _ _)) (frame_fetchFollows _)
    · exact .ite (.next (.next (.refl _ _ _) (frame_setEnt _ _ _)) (frame_startFetch _ _ _)) (.next (.next (.next (.next (.refl
        _ _ _) (frame_poison _ _ _ _)) (frame_settleGran _ _)) (frame_mediaLoss _ _)) (frame_fetchFollows _))

theorem frame_complete (s : State) (c : FCompl) : (s.complete c).Frame s [.flc] [] := by
  unfold State.complete
  exact .withFlc (.refl _ _ _)

theorem frame_completePlain (s : State) (d : Desc) (status : Nat) : (s.completePlain d status).Frame s [.flc] [] := by
  unfold State.completePlain
  exact .next (.refl _ _ _) (frame_complete _ _)

theorem frame_updFlight (s : State) (serial : Nat) (f : Flight → Flight) : (s.updFlight serial f).Frame s [.grt] [] := by
  unfold State.updFlight
  exact .withGrt (.refl _ _ _)

theorem frame_cutPage (s : State) (d : Desc) : (s.cutPage d).Frame s [.grt] [] := by
  unfold State.cutPage
  split
  · exact .next (frame_updFlight _ _ _) (frame_updStripe _ _ _)
  · exact .refl _ _ _

theorem frame_endFlight (s : State) (serial : Nat) : (s.endFlight serial).Frame s [.grt] [] := by
  unfold State.endFlight
  exact .withGrt (.refl _ _ _)

theorem frame_dropFlight (s : State) (f : Flight) : (s.dropFlight f).Frame s [.grt, .broker] [] := by
  unfold State.dropFlight
  exact .ite (.next (.refl _ _ _) (frame_endFlight _ _)) (.next (.next (.refl _ _ _) (frame_endFlight _ _)) (frame_leaveReturn
      _ _))

theorem frame_gcCut (s : State) (f : Flight) : (s.gcCut f).Frame s [.grt, .broker] [] := by
  unfold State.gcCut
  exact .ite (.next (.refl _ _ _) (frame_dropFlight _ _)) (.refl _ _ _)

theorem frame_gcTrip (s : State) : s.gcTrip.Frame s [.grt, .broker] [] := by
  unfold State.gcTrip
  exact .withGrt (.foldl (fun _ _ ht => .next ht (frame_gcCut _ _)) _ (.refl _ _ _))

theorem frame_flashTrip (s : State) : s.flashTrip.Frame s [.flc, .grt, .broker] [Reg.FLC_STATUS_TRIP] := by
  unfold State.flashTrip
  extract_lets s1 keep drop gone src s2
  have hs2 : s2.Frame s [.flc, .grt, .broker] [Reg.FLC_STATUS_TRIP] := .withFlc (.put (.refl _ _ _))
  exact .next (.foldl (fun _ _ ht => .next (.next ht (frame_completePlain _ _ _)) (frame_cutPage _ _)) gone hs2) (frame_gcTrip _)

/-- The state fields of the modules' registers. -/
def modStates : List Fld := ports8.map Reg.LAN_Mn_STATUS_STATE

theorem modState_mem {n : Nat} (hn : n ∈ ports8) : [Reg.LAN_Mn_STATUS_STATE n].map Fld.key ⊆ modStates.map Fld.key := by
  simp only [List.map_cons, List.map_nil, List.cons_subset, List.nil_subset, and_true]
  exact List.mem_map_of_mem (List.mem_map_of_mem hn)

theorem setModSt_frame (n : Nat) (st : Nat) (dis chg : Bool) (hn : n ∈ ports8) (s : State) :
    (s.setModSt n st dis chg).Frame s [.lan] modStates :=
  (frame_setModSt s n st dis chg).mono (hf := modState_mem hn)

theorem frame_modsBack (s : State) : s.modsBack.Frame s [.lan] modStates := by
  unfold State.modsBack
  exact State.Frame.foldlMem ports8 (fun t n hn ht => .ite (ht.trans (setModSt_frame n _ _ _ hn t)) ht) (.refl _ _ _)

theorem frame_learnAbort (s : State) (outcome : Nat) : (s.learnAbort outcome).Frame s [.lan, .broker]
    ([Reg.LAN_STATUS_OUT_VALID, Reg.LAN_STATUS_OUT_PORT, Reg.LAN_STATUS_REST_ACTIVE, Reg.LAN_STATUS_LEARN_ACTIVE,
    Reg.LAN_STATUS_ALL_LEARNED, Reg.LAN_STATUS_DISAGREE, Reg.LAN_LEARN_STATUS_DUE, Reg.LAN_LEARN_STATUS_STEP,
    Reg.LAN_LEARN_STATUS_PORT, Reg.VLT_STATUS_HOLD, Reg.LAN_LEARN_STATUS_LAST_OUTCOME, Reg.LAN_STATUS_LEARN_DONE] ++ modStates)
    := by
  unfold State.learnAbort
  split
  · exact .refl _ _ _
  · exact .ite (.next (.next (.refl _ _ _) (frame_learnOver _ _)) (frame_lanShow _)) (.next (.next (.next (.next (.ite (.next
      (.refl _ _ _) (frame_learnHoldOff _)) (.refl _ _ _)) (frame_modsBack _)) (frame_learnEnd _ _ _ _ _)) (frame_learnRetry _
      _)) (frame_lanShow _))

theorem frame_learnDue (s : State) (n : Nat) (first : Bool) : (s.learnDue n first).Frame s [.lan] [Reg.LAN_STATUS_OUT_VALID,
    Reg.LAN_STATUS_OUT_PORT, Reg.LAN_STATUS_REST_ACTIVE, Reg.LAN_STATUS_LEARN_ACTIVE, Reg.LAN_STATUS_ALL_LEARNED,
    Reg.LAN_STATUS_DISAGREE, Reg.LAN_LEARN_STATUS_DUE, Reg.LAN_LEARN_STATUS_STEP, Reg.LAN_LEARN_STATUS_PORT] := by
  unfold State.learnDue
  exact .ite (.refl _ _ _) (.next (.withLan (.refl _ _ _)) (frame_lanShow _))

theorem frame_learnAgain (s : State) : s.learnAgain.Frame s [.lan, .broker] ([Reg.LAN_STATUS_OUT_VALID,
    Reg.LAN_STATUS_OUT_PORT, Reg.LAN_STATUS_REST_ACTIVE, Reg.LAN_STATUS_LEARN_ACTIVE, Reg.LAN_STATUS_ALL_LEARNED,
    Reg.LAN_STATUS_DISAGREE, Reg.LAN_LEARN_STATUS_DUE, Reg.LAN_LEARN_STATUS_STEP, Reg.LAN_LEARN_STATUS_PORT,
    Reg.VLT_STATUS_HOLD, Reg.LAN_LEARN_STATUS_LAST_OUTCOME, Reg.LAN_STATUS_LEARN_DONE] ++ modStates) := by
  unfold State.learnAgain
  split
  · exact .ite (.next (.refl _ _ _) (frame_learnAbort _ _)) (.next (.next (.refl _ _ _) (frame_learnAbort _ _)) (frame_learnDue
      _ _ _))
  · exact .refl _ _ _

theorem frame_leaveTrip (s : State) : s.leaveTrip.Frame s [.broker] [Reg.PWR_LEAVE_QUEUE_VAULT] := by
  unfold State.leaveTrip
  exact .next (.withBroker (.put (.refl _ _ _))) (frame_leaveGrant _)

theorem State.Frame.withHostPortsFlow {s t : State} {ps : List Part} {fs : List Fld} {a : HostSide} {b : List (Port × Instr)}
    (h : t.Frame s ps fs) (hports : autoParam (Part.ports ∈ ps) Float.Model.Format.he._autoParam)
    (hflow : autoParam (Part.flow ∈ ps) Float.Model.Format.he._autoParam) :
    ({ t with host := a, flow := b } : State).Frame s ps fs := (h.withHostPorts (x := a) hports).withFlow (x := b) hflow

theorem frame_linksOff (s : State) : s.linksOff.Frame s [.ports, .flow, .pwr, .ech, .dmc, .pmr, .cache, .umb]
    ([Reg.ECH_RESYNC_MODE, Reg.ECH_CNT_FWD_COUNT, Reg.VLT_DEMAND_CNT_COUNT, Reg.UMB_STATUS_THR_A, Reg.UMB_STATUS_THR_B,
    Reg.UMB_STATUS_THR_EV, Reg.ECH_LINK_UP, Reg.ECH_LINK_RATE, Reg.ECH_LINK_WIDTH, Reg.UMB_PEER_OUT_GRANULES,
    Reg.ECH_STATUS_PEER_TRIP, Reg.ECH_STATUS_STATE, Reg.ECH_STATUS_STATE_EV, Reg.DMC_ECC_CTRL_INJ_MODE,
    Reg.VLT_STATUS_RESTORE_DONE, Reg.VLT_STATUS_PHASE] ++ errFields) := by
  unfold State.linksOff
  exact .next (.next (.withHostPortsFlow (.ite (.next (.refl _ _ _) (frame_endSession _ _ _)) (.refl _ _ _)))
    (frame_setDom _ _ _)) (frame_setDom _ _ _)

theorem frame_raiseEvr (s : State) (f : Fld) : (s.raiseEvr f).Frame s [] [f] := by
  unfold State.raiseEvr
  exact .ite (.quiet (.next (.refl _ _ _) (frame_raise _ _ _ _) (hf := by simp)) (quiet_asyncVendor _ _)) (.next (.refl _ _ _)
      (frame_raise _ _ _ _) (hf := by simp))

theorem frame_enterMode (s : State) (mode : Nat) (code : Nat) : (s.enterMode mode code).Frame s [] [Reg.EVR_MEM_MODE,
    Reg.EVR_MEM_CRIT, Reg.GRT_STATUS_BB_ACTIVE, Reg.EVR_STATUS_MEM_EV] := by
  unfold State.enterMode
  exact .quiet (.ev (.next (.putB (.putB (.put (.refl _ _ _)))) (frame_raiseEvr _ _))) (quiet_syncWarn _)

theorem frame_norFailed (s : State) : s.norFailed.Frame s [] [Reg.EVR_MEM_MODE, Reg.EVR_MEM_CRIT, Reg.GRT_STATUS_BB_ACTIVE,
    Reg.EVR_STATUS_MEM_EV] := by
  unfold State.norFailed
  exact .ite (.next (.refl _ _ _) (frame_enterMode _ _ _)) (.ite (.next (.refl _ _ _) (frame_enterMode _ _ _)) (.refl _ _ _))

theorem State.Frame.withCacheEch {s t : State} {ps : List Part} {fs : List Fld} {a : Cache} {b : Echo} (h : t.Frame s ps fs)
    (hcache : autoParam (Part.cache ∈ ps) Float.Model.Format.he._autoParam) (hech : autoParam (Part.ech ∈ ps)
    Float.Model.Format.he._autoParam) :
    ({ t with cache := a, ech := b } : State).Frame s ps fs := (h.withCache (x := a) hcache).withEch (x := b) hech

theorem frame_stopFetches (s : State) : s.stopFetches.Frame s [.cache, .ech] [] := by
  unfold State.stopFetches
  exact .withCacheEch (.refl _ _ _)

theorem State.Frame.withHostBoot {s t : State} {ps : List Part} {fs : List Fld} {a : HostSide} {b : Boot} (h : t.Frame s ps fs)
    (hA : autoParam (a.portA = t.host.portA) CuspForm.copy._auto_1) (hB : autoParam (a.portB = t.host.portB)
    CuspForm.copy._auto_1) (hboot : autoParam (Part.boot ∈ ps) Float.Model.Format.he._autoParam) :
    ({ t with host := a, boot := b } : State).Frame s ps fs := (h.withHost (x := a) hA hB).withBoot (x := b) hboot

end Sys2Proof.Machine
end

section
/-! SUPPORT. What a vault's start and a warm reset stop (R104, R376): Lantern's rest window among it, whose module any number may
name. -/

namespace Sys2Proof.Machine

/-- The fields by which Lantern shows its windows and cycles. -/
def lanShowFields : List Fld := [Reg.LAN_STATUS_OUT_VALID, Reg.LAN_STATUS_OUT_PORT, Reg.LAN_STATUS_REST_ACTIVE,
  Reg.LAN_STATUS_LEARN_ACTIVE, Reg.LAN_STATUS_ALL_LEARNED, Reg.LAN_STATUS_DISAGREE, Reg.LAN_LEARN_STATUS_DUE,
  Reg.LAN_LEARN_STATUS_STEP, Reg.LAN_LEARN_STATUS_PORT]

/-- No field outside Lantern's block, and none of another width or place, is a module's state. -/
theorem modState_key_ne {f : Fld} (n : Nat) (h : f.key % 4096 ≠ 3 ∨ f.key < 0x140000 * 4096) :
    f.key ≠ (Reg.LAN_Mn_STATUS_STATE n).key := by
  have hkey : (Reg.LAN_Mn_STATUS_STATE n).key = (0x140100 + 64 * n) * 4096 + 3 := by
    show (0x140100 + 64 * n) * 4096 + 0 * 64 + 3 = _
    omega
  omega

/-- A rest window that is cut writes its module's state and what Lantern shows. -/
theorem frame_restCut (s : State) : ∃ n, s.restCut.Frame s [.lan] (Reg.LAN_Mn_STATUS_STATE n :: lanShowFields) := by
  unfold State.restCut
  split
  next => exact ⟨0, .refl _ _ _⟩
  next n hn =>
    extract_lets m r t src s1
    refine ⟨n, ?_⟩
    have hs1 : s1.Frame s [.lan] (Reg.LAN_Mn_STATUS_STATE n :: lanShowFields) := .withLan ((frame_setMod _ _ _).mono (hf := by simp))
    exact .next (.next (.ite (.next hs1 (frame_setModSt _ _ _ _ _) (hf := by simp)) hs1) (frame_lanCopy _) (hf := by simp))
      (frame_lanShow _) (hf := fun _ h => List.mem_cons_of_mem _ h)

theorem State.get_restCut (s : State) {f : Fld} (ho : f.OffRecorder) (h : f.key % 4096 ≠ 3 ∨ f.key < 0x140000 * 4096)
    (hn : f.key ∉ lanShowFields.map Fld.key) : s.restCut.get f = s.get f := by
  obtain ⟨n, hf⟩ := frame_restCut s
  refine hf.get_eq ho ?_
  simp only [List.map_cons, List.mem_cons, not_or]
  exact ⟨modState_key_ne n h, hn⟩

theorem State.Frame.nextCons {s t u : State} {ps qs : List Part} {fs gs : List Fld} {g : Fld} (h : t.Frame s ps (g :: fs))
    (k : u.Frame t qs gs) (hp : autoParam (qs ⊆ ps) Float.Model.Format.he._autoParam)
    (hf : autoParam (gs.map Fld.key ⊆ fs.map Fld.key) Float.Model.Format.he._autoParam) : u.Frame s ps (g :: fs) :=
  h.next k hp fun _ hk => List.mem_cons_of_mem _ (hf hk)

/-- What a vault stops as it starts (R104). -/
def State.vaultStops (s : State) : State := ((s.closeIngest.leaveTrip.lanTrip).cutRehearsal.flashTrip.dramTrip).stopFetches

/-- The fields that it writes, beside the state of the module at rest. -/
def stopFields : List Fld := [Reg.UMB_STATUS_THR_A, Reg.UMB_STATUS_THR_B, Reg.UMB_STATUS_THR_EV, Reg.PWR_LEAVE_QUEUE_VAULT,
  Reg.LAN_VAULT_GUAR_E_MJ, Reg.VLT_STATUS_HOLD, Reg.LAN_LEARN_STATUS_LAST_OUTCOME, Reg.LAN_STATUS_LEARN_DONE,
  Reg.UMB_REH_INFO_OUTCOME, Reg.FLC_STATUS_TRIP, Reg.DMC_TRN_STATUS_WINDOW, Reg.DMC_TRN_STATUS_ABORTS] ++ lanShowFields ++ modStates

/-- The parts that it changes after ingest has closed. -/
def vaultStopParts : List Part := [.ech, .broker, .lan, .umb, .flc, .grt, .dmc, .cache]

theorem frame_vaultStops (s : State) : ∃ n, s.vaultStops.Frame s.closeIngest vaultStopParts (Reg.LAN_Mn_STATUS_STATE n ::
    stopFields) := by
  obtain ⟨n, hrest⟩ := frame_restCut ((s.closeIngest.leaveTrip.put Reg.LAN_VAULT_GUAR_E_MJ
    (s.closeIngest.leaveTrip.get Reg.LAN_ENERGY_E_MJ)).learnAbort 3)
  have hstart := (State.Frame.refl s.closeIngest vaultStopParts (Reg.LAN_Mn_STATUS_STATE n :: stopFields)).nextCons
      (frame_leaveTrip _) |>.nextCons (State.Frame.put (f := Reg.LAN_VAULT_GUAR_E_MJ)
      (v := s.closeIngest.leaveTrip.get Reg.LAN_ENERGY_E_MJ) (fs := [Reg.LAN_VAULT_GUAR_E_MJ]) (.refl _ [] _))
    |>.nextCons (frame_learnAbort _ 3)
  have hlan : s.closeIngest.leaveTrip.lanTrip.Frame s.closeIngest vaultStopParts (Reg.LAN_Mn_STATUS_STATE n :: stopFields) :=
    .withLan (.foldl (fun t k ht => ht.nextCons (frame_setMod _ _ _)) ports8
      (hstart.next hrest (hf := List.cons_subset_cons _ (by decide))))
  exact ⟨n, hlan.nextCons (frame_cutRehearsal _) |>.nextCons (frame_flashTrip _) |>.nextCons (frame_dramTrip _)
    |>.nextCons (frame_stopFetches _)⟩

theorem State.get_vaultStops (s : State) {f : Fld} (ho : f.OffRecorder) (h : f.key % 4096 ≠ 3 ∨ f.key < 0x140000 * 4096)
    (hn : f.key ∉ stopFields.map Fld.key) : s.vaultStops.get f = s.get f := by
  obtain ⟨n, hf⟩ := frame_vaultStops s
  refine (hf.get_eq ho ?_).trans ((frame_closeIngest s).get_eq ho fun hc => hn ?_)
  · simp only [List.map_cons, List.mem_cons, not_or]
    exact ⟨modState_key_ne n h, hn⟩
  · exact (by decide : [Reg.UMB_STATUS_THR_A, Reg.UMB_STATUS_THR_B, Reg.UMB_STATUS_THR_EV].map Fld.key ⊆ stopFields.map Fld.key) hc

/-! The start of a vault (R103, R104). -/

/-- The state that a vault's start makes before it stops what runs. -/
def State.vaultEntered (s : State) (cause : VaultCause) (tripped : Bool) : State :=
  let cut := s.rehearsing
  let p := s.stagingLost
  let s0 := (({ p with evr := { p.evr with tripSeq := some (p.get Reg.EVR_SEQ_NEXT) } } : State).leaveOn cause.wake).setSeq
    seqVault
  let s1 := (s0.put Reg.VLT_STATUS_PHASE 1).eventWith 7 0x0001 4 cause.key (s0.snapOf vaultStartSnap)
  let s2 := (s1.put Reg.VLT_STATUS_INPUT_RET 0).put Reg.VLT_STATUS_DEGRADED 0
  let s3 := ((if tripped then s2.put Reg.VLT_STATUS_HOLD 1 else s2).put Reg.SUP_STATUS_VAULT_SUPPRESS 1).put
    Reg.WDT_STATUS_MASKED 1
  { s3 with
    vlt := { s3.vlt with cur := some (Vault.start cause tripped cut), counting := false },
    host := { s3.host with waiting := [] },
    deferred := [] }

theorem State.startVault_eq (s : State) (cause : VaultCause) (tripped : Bool) :
    s.startVault cause tripped = (s.vaultEntered cause tripped).vaultStops.carryFlights.echoStateSync := rfl

/-- A field that neither the stops nor Lantern's windows write has the value given at the entry. -/
theorem State.get_startVault (s : State) (cause : VaultCause) (tripped : Bool) {f : Fld} (ho : f.OffRecorder)
    (h : f.key % 4096 ≠ 3 ∨ f.key < 0x140000 * 4096) (hn : f.key ∉ stopFields.map Fld.key) :
    (s.startVault cause tripped).get f = (s.vaultEntered cause tripped).get f := by
  rw [State.startVault_eq, (frame_echoStateSync _).get_eq ho List.not_mem_nil, (frame_carryFlights _).get_eq ho List.not_mem_nil,
    State.get_vaultStops _ ho h hn]

theorem State.seqState_startVault (s : State) (cause : VaultCause) (tripped : Bool) :
    (s.startVault cause tripped).seqState = seqVault := by
  refine (s.get_startVault cause tripped (by decide) (by decide) (by decide)).trans ?_
  have hev : ∀ (t : State) n k sn, (t.eventWith 7 n 4 k sn).get Reg.SUP_SEQ_STATUS_STATE = t.get Reg.SUP_SEQ_STATUS_STATE :=
    fun t n k sn => (frame_of_quiet (quiet_eventWith t 7 n 4 k sn) [] []).get_eq (by decide) (by decide)
  have hseq : ∀ t : State, (t.setSeq seqVault).get Reg.SUP_SEQ_STATUS_STATE = seqVault := fun t => t.seqState_setSeq (by decide)
  cases tripped <;> simp (disch := decide) [State.vaultEntered, hev, hseq]

theorem State.pmr_startVault (s : State) (cause : VaultCause) (tripped : Bool) :
    (s.startVault cause tripped).pmr = (s.vaultEntered cause tripped).closeIngest.pmr := by
  obtain ⟨n, hf⟩ := frame_vaultStops (s.vaultEntered cause tripped)
  rw [State.startVault_eq, (frame_echoStateSync _).samePmr, (frame_carryFlights _).samePmr, hf.samePmr]

theorem State.cur_carryFlights {s : State} {v : Vault} (h : s.vlt.cur = some v) :
    ∃ w, s.carryFlights.vlt.cur = some w ∧ w = { v with carried := w.carried, carriedSer := w.carriedSer } ∧
      w.carriedSer = s.carryFlights.carriedFlights.map (fun f => f.stripe.serial) := by
  simp only [State.carryFlights, State.updVault, State.carriedFlights, h, Option.map_some, Option.some.injEq]
  exact ⟨_, rfl, rfl, rfl⟩

/-- The vault that runs: of what Seep and rehearsals had in flight, it carries every flight (R111). -/
theorem State.cur_startVault (s : State) (cause : VaultCause) (tripped : Bool) :
    ∃ v, (s.startVault cause tripped).vlt.cur = some v ∧
      v = { Vault.start cause tripped s.rehearsing with carried := v.carried, carriedSer := v.carriedSer } ∧
      v.carriedSer = (s.startVault cause tripped).carriedFlights.map (fun f => f.stripe.serial) := by
  obtain ⟨n, hf⟩ := frame_vaultStops (s.vaultEntered cause tripped)
  have hcur : (s.vaultEntered cause tripped).vaultStops.vlt.cur = some (Vault.start cause tripped s.rehearsing) := by
    rw [hf.sameVlt, (frame_closeIngest _).sameVlt]
    simp only [State.vaultEntered]
  rw [State.startVault_eq]
  generalize (s.vaultEntered cause tripped).vaultStops = t at hcur
  obtain ⟨w, hw, hv, hser⟩ := State.cur_carryFlights hcur
  have hsync := frame_echoStateSync t.carryFlights
  refine ⟨w, (congrArg VaultSide.cur hsync.sameVlt).trans hw, hv, hser.trans ?_⟩
  rw [State.carriedFlights, State.carriedFlights, hsync.sameGrt]

/-! A request to vault (R361), and what it leaves of the start's state. -/

theorem State.vaultOrDown_opened {s : State} (h : s.rails.openedThisStart = true) (cause : VaultCause) :
    s.vaultOrDown cause = ((s.leaveOn cause.wake).announceDown).startVault cause false := by
  have ho : ((s.leaveOn cause.wake).announceDown).rails.openedThisStart = true := by
    rw [(frame_announceDown _).sameRails, s.opened_leaveOn, h]
  simp only [State.vaultOrDown, ho, if_true]

theorem State.tempHot_leaveOn (s : State) (src : Nat) : (s.leaveOn src).boot.tempHot = s.boot.tempHot := by
  have hwake : (s.wake src).sleepExitNow.boot.tempHot = s.boot.tempHot := by
    rw [(frame_sleepExitNow _).sameBoot]
    unfold State.wake
    extract_lets st s1 s2 sb sr s3
    split
    · rw [(frame_raise _ _ _ _).sameBoot]
      unfold s3
      split <;> rfl
    · split
      · rw [(frame_dropRequest _).sameBoot, (frame_rollback _).sameBoot]
      · split <;> rfl
  unfold State.leaveOn
  extract_lets st s1
  split
  · rfl
  · split <;> exact hwake

theorem State.tempHot_setSeq (s : State) (st : Nat) : (s.setSeq st).boot.tempHot = s.boot.tempHot := by
  unfold State.setSeq
  extract_lets s1 src s0
  have h1 : s1.boot.tempHot = s.boot.tempHot := by
    unfold s1
    split
    · exact s.tempHot_leaveOn _
    · split
      · exact s.tempHot_leaveOn _
      · rfl
  have h0 : s0.boot.tempHot = s.boot.tempHot := by
    unfold s0
    split <;> exact h1
  split
  · rfl
  · rw [(frame_ffErase _).sameBoot, (frame_of_quiet (quiet_ev _ _ _ _ _) [] []).sameBoot, (frame_raise _ _ _ _).sameBoot]
    exact h0

theorem State.tempHot_startVault (s : State) (cause : VaultCause) (tripped : Bool) :
    (s.startVault cause tripped).boot.tempHot = s.boot.tempHot := by
  obtain ⟨n, hf⟩ := frame_vaultStops (s.vaultEntered cause tripped)
  have hst : s.stagingLost.boot.tempHot = s.boot.tempHot := by
    unfold State.stagingLost
    split
    · rw [State.put_boot, (frame_updResult _ _).sameBoot]
    · rfl
  rw [State.startVault_eq, (frame_echoStateSync _).sameBoot, (frame_carryFlights _).sameBoot, hf.sameBoot,
    (frame_closeIngest _).sameBoot]
  cases tripped <;> simp [State.vaultEntered, State.tempHot_setSeq, State.tempHot_leaveOn, hst]

/-! The warm reset (R376, R440). -/

theorem State.get_foldl {α : Type} {g : State → α → State} {f : Fld} (h : ∀ t x, (g t x).get f = t.get f) (l : List α) (s : State) :
    (l.foldl g s).get f = s.get f := by
  induction l generalizing s with
  | nil => rfl
  | cons x xs ih => exact (ih _).trans (h s x)

/-- What a warm reset stops before it sets the start's state. -/
def State.warmStops (s : State) : State :=
  let s1 := (s.leaveOn 10).closeIngest.dropRequest.linksOff
  let s2 := (s1.pmr.merge.map (fun e => e.1)).foldl (fun (t : State) g => t.fetchDone g true) s1
  (((s2.grottoPowerLoss).cutRehearsal).learnAgain.restCut).stagingLost

theorem State.resets_warmStops (s : State) : s.warmStops.get Reg.WDT_COUNT_RESETS = s.get Reg.WDT_COUNT_RESETS := by
  unfold State.warmStops
  extract_lets s1 s2
  have h1 : s1.get Reg.WDT_COUNT_RESETS = s.get Reg.WDT_COUNT_RESETS := by
    simp (disch := decide) only [s1, (frame_linksOff _).get_eq, (frame_dropRequest _).get_eq, (frame_closeIngest _).get_eq,
      (frame_leaveOn _ _).get_eq]
  have h2 : s2.get Reg.WDT_COUNT_RESETS = s1.get Reg.WDT_COUNT_RESETS :=
    State.get_foldl (fun t g => (frame_fetchDone t g true).get_eq (by decide) (by decide)) _ s1
  rw [(frame_stagingLost _).get_eq (by decide) (by decide), State.get_restCut _ (by decide) (by decide) (by decide),
    (frame_learnAgain _).get_eq (by decide) (by decide), (frame_cutRehearsal _).get_eq (by decide) (by decide),
    (frame_grottoPowerLoss _).get_eq (by decide) (by decide), h2, h1]

/-- The start's state that a warm reset of `s` sets on what its stops left. -/
def State.warmReady (s3 s : State) (path : Nat) : State :=
  let s4 : State := { s3 with
    dmc := { s3.dmc with selfRefresh := true, pool := [], waiting := [], panicDir := 0 },
    broker := { s3.broker with held := [], queue := [] },
    boot := { s3.boot with starting := true, startStep := 4, wdtStage := 1, hotWait := decide (115 < s.tjunction) },
    pwr := { s3.pwr with upDom := none, upStep := 0, relocking := false, badWindows := 0 },
    host := { s3.host with waiting := [], latches := HostSide.init.latches, snaps := [] },
    deferred := [],
    vlt := { s3.vlt with waitPeer := false, openKind := none } }
  let s5 := ((s4.setDom .ctrl .off).setDom .fab .off).put Reg.SYS_STATUS_SR_VALID
    (if s.dmc.selfRefresh then s.get Reg.SYS_STATUS_SR_VALID else b2n (s.domSt .dram != .off))
  let s6 := ((s5.put Reg.CLK_STATUS_HOLD 0).put Reg.CLK_STATUS_FAULT 0).put Reg.CLK_STATUS_SUP_BACKUP 0
  (s6.put Reg.SYS_STATUS_PATH path).put Reg.VLT_STATUS_PHASE 0

theorem State.warmReset_eq (s : State) (path : Nat) : s.warmReset path = s.warmStops.warmReady s path := by
  simp only [State.warmReset, State.warmReady, State.warmStops]

theorem State.path_warmReset (s : State) {path : Nat} (hp : path < 2 ^ Reg.SYS_STATUS_PATH.width) :
    (s.warmReset path).get Reg.SYS_STATUS_PATH = path := by
  rw [State.warmReset_eq, State.warmReady]
  exact (State.get_put_ne _ _ (by decide)).trans (State.get_put_lt _ _ hp)

theorem State.starts_warmReset (s : State) (path : Nat) : (s.warmReset path).boot.starting = true ∧
    (s.warmReset path).boot.startStep = 4 := by
  rw [State.warmReset_eq]
  exact ⟨rfl, rfl⟩

theorem State.ctrl_warmReset (s : State) (path : Nat) : (s.warmReset path).domSt .ctrl = .off := by
  rw [State.warmReset_eq]
  generalize s.warmStops = t
  simp only [State.warmReady, State.domSt, State.put_pwr]
  exact State.domSt_setDom_off _ .fab (.inr (State.domSt_setDom_off _ .ctrl (.inl rfl)))

theorem State.resets_warmReset (s : State) (path : Nat) :
    (s.warmReset path).get Reg.WDT_COUNT_RESETS = s.get Reg.WDT_COUNT_RESETS := by
  rw [State.warmReset_eq, ← s.resets_warmStops]
  generalize s.warmStops = t
  simp (disch := decide) only [State.warmReady, State.get_put_other]
  rfl

theorem State.Frame.offRecorder {s t : State} {ps : List Part} {fs gs : List Fld} (h : t.Frame s ps fs)
    (hr : autoParam (∀ k ∈ fs.map Fld.key, k ∈ gs.map Fld.key ∨ 0x1B0000 * 4096 ≤ k ∧ k < 0x1C0000 * 4096)
      Float.Model.Format.he._autoParam) : t.Frame s ps gs :=
  ⟨h.1, fun f ho hn => h.2 f ho fun hm => (hr _ hm).elim hn fun ⟨hlo, hhi⟩ => by
    unfold Fld.OffRecorder at ho
    omega⟩

/-! The watchdog's second stage (R440). -/

section
variable {s : State}

theorem exec_wdtStage2Expiry (hr : s.wdtRuns = true) (hst : s.boot.wdtStage = 2) : exec .wdtStage2Expiry s = done s s.wdtReset :=
  congrArg (done s) (if_pos (by simp [hr, hst]))

/-- The second expiry is recorded and counted. -/
def State.wdtCounted (s : State) : State :=
  ((s.ev .wdt 0x2001 6 0).incSat Reg.WDT_COUNT_RESETS 1).put Reg.WDT_STATUS_STAGE 0

theorem frame_wdtCounted (s : State) : s.wdtCounted.Frame s [] [Reg.WDT_STATUS_STAGE, Reg.WDT_COUNT_RESETS] :=
  .put (.incSat (.ev (.refl _ _ _)))

theorem State.resets_wdtCounted (s : State) :
    s.wdtCounted.get Reg.WDT_COUNT_RESETS = satAdd 65535 (s.get Reg.WDT_COUNT_RESETS) 1 := by
  simp (disch := decide) only [State.wdtCounted, State.get_put_other, State.get_incSat, State.get_ev_off]
  rfl

theorem State.wdtReset_eq (s : State) : s.wdtReset =
    if s.wdtCounted.vlt.cur.isSome then { s.wdtCounted with boot := { s.wdtCounted.boot with wdtLatch := true, wdtStage := 0 } }
    else if s.wdtCounted.boot.starting then s.wdtCounted.startFails 9
    else ((if s.wdtCounted.boot.trial then
        ({ s.wdtCounted with boot := { s.wdtCounted.boot with trial := false } } : State).bootNote 3 9 false
      else s.wdtCounted).announceDown).warmReset 2 := rfl

theorem State.view_svnMin (s : State) : s.view Reg.SYS_OTP_SVN_MIN =
    mgetD s.boot.fuses Reg.SYS_OTP_SVN_MIN.key (Config.fused Reg.SYS_OTP_SVN_MIN.key) % 2 ^ Reg.SYS_OTP_SVN_MIN.width := by
  have h : s.computed Reg.SYS_OTP_SVN_MIN =
      some (mgetD s.boot.fuses Reg.SYS_OTP_SVN_MIN.key (Config.fused Reg.SYS_OTP_SVN_MIN.key)) := by
    rw [State.computed]
    simp +decide [State.portBlank]
  rw [State.view, h]

theorem State.commits_commitNote (kind bank : Nat) (trial cold format : Bool) (h : s.boot.commits.length < 32) :
    ∃ r, (s.commitNote kind bank trial cold format).boot.commits = s.boot.commits ++ [r] ∧ r.kind = kind ∧ r.bank = bank := by
  simp only [State.commitNote, decide_eq_false h.not_ge, State.put_boot, Bool.false_eq_true, if_false]
  exact ⟨_, rfl, rfl, rfl⟩

/-- A trial bank whose image locks its security version is committed, and the fuses take its version (R425). -/
theorem State.confirm_locked {s : State} {im : Image} (hrun : s.boot.running = some im) (hlock : im.svnLock = true) :
    s.confirm.boot.trial = false ∧ s.confirm.flag Reg.CFG_STATUS_TRIAL = false ∧ s.confirm.boot.commits = (s.commitNote 2 (s.get Reg.CFG_STATUS_BANK) false false false).boot.commits ∧
      mget s.confirm.boot.fuses Reg.SYS_OTP_SVN_MIN.key = some (Nat.max (s.view Reg.SYS_OTP_SVN_MIN) im.svn) := by
  unfold State.confirm
  extract_lets s1 src s2
  have hr : s2.boot.running = some im := hrun
  have hf : s2.boot.fuses = s.boot.fuses := rfl
  have hflag : s1.flag Reg.CFG_STATUS_TRIAL = false := State.flag_put_zero _ _
  simp only [hr, hlock, if_true]
  refine ⟨rfl, hflag, rfl, ?_⟩
  rw [mget_mset_same, State.view_svnMin, State.view_svnMin, hf]

/-- The counted failure of an erase, with the intent dropped. -/
def State.eraseCounted (s : State) : State :=
  ({ s with boot := { s.boot with intents := s.boot.intents.drop 1 } } : State).incSat Reg.CFG_NOR_ERR_ERASE_RETRY 1

theorem exec_norErase {journal : Bool} {fails : Nat} (haon : s.domOn .aon = true) (hf : 0 < fails) :
    exec (.norOpComplete true fails journal) s = done s (if fails = 1 then s.eraseCounted else
      let s2 : State := if journal then { s.eraseCounted with evr := { s.eraseCounted.evr with
        freeSect := s.eraseCounted.evr.freeSect - 1 } } else s.eraseCounted
      let s3 := s2.ev .cfg 0x1003 6 0
      if s3.evr.usableSect < 16 then s3.norFailed else s3) :=
  congrArg (done s) ((if_neg (by simp [haon])).trans ((if_neg hf.ne').trans (if_pos rfl)))

theorem exec_thermalShutdown (hhot : 10 ≤ s.boot.tempHot) (hcur : s.vlt.cur = none) (hseq : s.seqState = seqOn) :
    exec .thermalShutdown s = done s
      ((({ s with boot := { s.boot with tempHot := 0 } } : State).ev .sys 0x2001 7 0).vaultOrDown .thermal) := by
  have hon : (({ s with boot := { s.boot with tempHot := 0 } } : State).ev .sys 0x2001 7 0).seqState = seqOn :=
    (State.get_ev_off (by decide)).trans hseq
  refine congrArg (done s) ((if_neg ?_).trans (if_pos (.inl hon)))
  simp [hcur, hhot]

theorem exec_wdtStage1Expiry (hr : s.wdtRuns = true) (hst : s.boot.wdtStage = 1) : exec .wdtStage1Expiry s =
    done s { ((((s.ev .wdt 0x1001 4 0).raise Reg.WDT_STATUS_STAGE1_EV Reg.SYS_CTRL_INT_EN 63).incSat
        Reg.WDT_COUNT_STAGE1 1).put Reg.WDT_STATUS_STAGE 1) with
      boot := { ((((s.ev .wdt 0x1001 4 0).raise Reg.WDT_STATUS_STAGE1_EV Reg.SYS_CTRL_INT_EN 63).incSat
        Reg.WDT_COUNT_STAGE1 1).put Reg.WDT_STATUS_STAGE 1).boot with wdtStage := 2 } } :=
  congrArg (done s) (if_pos (by simp [hr, hst]))

theorem State.lastFail_noteFail (s : State) {reason : Nat} (h : reason < 2 ^ Reg.SYS_STATUS_LAST_FAIL.width) :
    (s.noteFail reason).get Reg.SYS_STATUS_LAST_FAIL = reason := by
  simp (disch := decide) only [State.noteFail, State.get_mk, (frame_bootNote _ _ _ _).get_eq, State.get_ev_off]
  exact State.get_put_lt _ _ h

end

end Sys2Proof.Machine
end

section
/-! PROOF. The watchdog, the trial window, NOR errors, the time copies, patches and the temperature. -/

open Sys2Proof Sys2Proof.Machine

/-- Settles O52: each timer by the state it finds; the second stage goes by the vault, the start, or a warm reset. -/
theorem watchdog : Obligations.Watchdog := by
  unfold Obligations.Watchdog
  refine ⟨fun s => ?_, fun s hr hst => ?_, fun v s hr hst hcur => ?_, fun s hr hst hcur hs => ?_, fun s hr hst hcur hs ht => ?_,
    fun s hr => ?_, fun s haon hlp => ?_, fun im s ht hs hrun hlock hlen => ?_, fun j fails s haon hf => ?_,
    fun j fails s haon hf => ?_, fun s hsup h1 h3 => ?_, fun im s hw hseq hrun => ?_, fun s hhot hcur hseq hrun hopen => ?_,
    fun s hcool => ?_, fun c s hsup => ?_⟩
  · exact runs_of_effect (t := s.put Reg.SYS_STATUS_SAFE_ARMED 0) rfl ⟨State.flag_put_zero _ _, .put (.refl _ _ _)⟩
      (fun u q ⟨h, hf⟩ => ⟨h, hf.finish q⟩)
  · refine runs_of_effect (exec_wdtStage1Expiry hr hst) ?_ (fun u q ⟨h1, h2, h3, h4, hf⟩ => ⟨h1, h2, h3, h4, hf.finish q⟩)
    refine ⟨?_, ?_, ?_, ?_, .withBoot (.put (.incSat (.next (.ev (.refl _ _ _)) (frame_raise _ _ _ _))))⟩
    · simp
    · simp (disch := decide)
    · simp (disch := decide)
    · simp (disch := decide)
      rfl
  · refine runs_of_effect (exec_wdtStage2Expiry hr hst) ?_ (fun u q ⟨h, hf⟩ => ⟨h, hf.finish q⟩)
    rw [State.wdtReset_eq, if_pos (by rw [(frame_wdtCounted s).sameVlt, hcur]; rfl)]
    exact ⟨by rw [(frame_wdtCounted s).sameBoot], .withBoot (frame_wdtCounted s).mono⟩
  · refine runs_of_effect (exec_wdtStage2Expiry hr hst) ?_ (fun u q h => h)
    rw [State.wdtReset_eq, if_neg (by rw [(frame_wdtCounted s).sameVlt, hcur]; simp),
      if_pos (by rw [(frame_wdtCounted s).sameBoot, hs])]
    refine ⟨(State.downBegin_slow _ _).1, ((frame_downBegin_slow _ _).get_eq (by decide) (by decide)).trans ?_⟩
    exact State.lastFail_noteFail _ (by decide)
  · refine runs_of_effect (exec_wdtStage2Expiry hr hst) ?_ (fun u q h => h)
    rw [State.wdtReset_eq, if_neg (by rw [(frame_wdtCounted s).sameVlt, hcur]; simp),
      if_neg (by rw [(frame_wdtCounted s).sameBoot, hs]; simp), if_neg (by rw [(frame_wdtCounted s).sameBoot, ht]; simp)]
    refine ⟨State.path_warmReset _ (by decide), (State.starts_warmReset _ _).1, (State.starts_warmReset _ _).2, ?_,
      State.ctrl_warmReset _ _⟩
    rw [State.resets_warmReset, (frame_announceDown _).get_eq (by decide) (by decide), s.resets_wdtCounted]
  · exact runs_of_effect (t := s) (congrArg (done s) (if_neg (by simp [hr]))) (.refl _ _ _) (fun u q h => h.finish q)
  · refine runs_of_effect (t := s.ev .wdt 0x1002 6 0) (congrArg (done s) (if_pos (by simp [haon, hlp])))
      ⟨rfl, .ev (.refl _ _ _)⟩ (fun u q ⟨h, hf⟩ => ⟨h, hf.finish q⟩)
  · refine runs_of_effect (t := s.confirm) (congrArg (done s) (if_pos (by simp [ht, hs]))) ?_
      (fun u q ⟨h1, h2, h3, h4, hf⟩ => ⟨h1, h2, h3, h4, hf.finish q⟩)
    obtain ⟨htrial, hflag, hcommits, hfuse⟩ := State.confirm_locked hrun hlock
    obtain ⟨r, hr, hkind, hbank⟩ := State.commits_commitNote (s := s) 2 (s.get Reg.CFG_STATUS_BANK) false false false hlen
    exact ⟨htrial, hflag, hfuse, ⟨r, hcommits.trans hr, hkind, hbank⟩, (frame_confirm s).mono⟩
  · refine runs_of_effect (t := s.incSat Reg.CFG_NOR_ERR_PROG_RETRY 1) ?_ ?_ (fun u q ⟨h1, h2, hf⟩ => ⟨h1, h2, hf.finish q⟩)
    · exact congrArg (done s) ((if_neg (by simp [haon])).trans ((if_neg hf.ne').trans (if_neg Bool.false_ne_true)))
    · exact ⟨State.get_incSat _ _ _, rfl, .incSat (.refl _ _ _)⟩
  · refine runs_of_effect (exec_norErase haon hf) ?_ (fun u q ⟨h1, h2, h3, hf⟩ => ⟨h1, h2, h3, hf.finish q⟩)
    have hfr : s.eraseCounted.Frame s [.boot] [Reg.CFG_NOR_ERR_ERASE_RETRY, Reg.GRT_STATUS_BB_ACTIVE] := .incSat (.withBoot (.refl _ _ _))
    split
    next h1 => exact ⟨State.get_incSat _ _ _, rfl, fun _ => rfl, hfr⟩
    next h1 =>
      extract_lets sc ec s2 s3
      have hs2 : s2.Frame s [.boot] [Reg.CFG_NOR_ERR_ERASE_RETRY, Reg.GRT_STATUS_BB_ACTIVE] := by
        unfold s2
        split
        · exact .withEvr hfr
        · exact hfr
      have hs3 : s3.Frame s [.boot] [Reg.CFG_NOR_ERR_ERASE_RETRY, Reg.GRT_STATUS_BB_ACTIVE] := .ev hs2
      have hget : s3.get Reg.CFG_NOR_ERR_ERASE_RETRY = satAdd 65535 (s.get Reg.CFG_NOR_ERR_ERASE_RETRY) 1 := by
        refine (State.get_ev_off (by decide)).trans ?_
        unfold s2
        split <;> exact State.get_incSat _ _ _
      have hboot : s3.boot = { s.boot with intents := s.boot.intents.drop 1 } := by
        refine (frame_of_quiet (quiet_ev _ _ _ _ _) [] []).sameBoot.trans ?_
        unfold s2
        split <;> rfl
      have hnor := frame_norFailed s3
      split
      · exact ⟨(hnor.get_eq (by decide) (by decide)).trans hget, hnor.sameBoot.trans hboot, fun h => absurd h h1,
          hs3.trans (hnor.offRecorder (gs := [Reg.CFG_NOR_ERR_ERASE_RETRY, Reg.GRT_STATUS_BB_ACTIVE]) (by decide)).mono⟩
      · exact ⟨hget, hboot, fun h => absurd h h1, hs3⟩
  · refine runs_of_effect (t := s.lanCopy.timeCopy) (congrArg (done s) (if_pos ⟨hsup, h1, h3⟩)) ?_
      (fun u q ⟨h1, h2, hf⟩ => ⟨h1, h2, hf.finish q⟩)
    have hlan := frame_lanCopy s
    refine ⟨?_, ?_, .withBoot hlan.mono⟩
    · unfold State.lanCopy
      split <;> rfl
    · exact apply_ite State.lan _ _ _
  · refine runs_of_effect (congrArg (done s) (if_pos ⟨hw, hseq⟩)) ?_ (fun u q ⟨h1, h2, hf⟩ => ⟨h1, h2, hf.finish q⟩)
    rw [hrun]
    exact ⟨rfl, State.get_put_same _ _ _, .put (.withBoot (.refl _ _ _))⟩
  · refine runs_of_effect (exec_thermalShutdown hhot hcur hseq) ?_ (fun u q h => h)
    have hev := frame_of_quiet (quiet_ev ({ s with boot := { s.boot with tempHot := 0 } } : State) .sys 0x2001 7 0) [] []
    have hopen' := (congrArg Rails.openedThisStart hev.sameRails).trans hopen
    rw [State.vaultOrDown_opened hopen']
    have hreh : (((({ s with boot := { s.boot with tempHot := 0 } } : State).ev .sys 0x2001 7 0).leaveOn
        VaultCause.thermal.wake).announceDown).rehearsing = s.rehearsing := by
      rw [State.rehearsing, (frame_announceDown _).sameUmb, (frame_leaveOn _ _).sameUmb, hev.sameUmb]
      rfl
    refine ⟨State.seqState_startVault _ _ _, ?_, ?_, ?_⟩
    · rw [← hreh]
      exact State.cur_startVault _ _ _
    · rw [State.tempHot_startVault, (frame_announceDown _).sameBoot, State.tempHot_leaveOn, hev.sameBoot]
    · rw [State.pmr_startVault]
      exact State.closeIngest_closed _
  · exact runs_of_effect (t := s) (congrArg (done s) (if_pos (.inl hcool))) (.refl _ _ _) (fun u q h => h.finish q)
  · refine runs_of_effect (congrArg (done s) (if_neg (by simp [hsup]))) ?_
      (fun u q ⟨h1, h2, h3, hf⟩ => ⟨h1, h2, h3, hf.finish q⟩)
    dsimp only
    have hq := fun t => frame_of_quiet (quiet_syncWarn t) [] []
    have hput : (s.putI Reg.SYS_TEMP_TJ c).Frame s [.boot] [Reg.SYS_TEMP_TJ] := .putI (.refl _ _ _)
    refine ⟨?_, ?_, ?_, State.Frame.quiet ?_ (quiet_syncWarn _)⟩
    · refine ((hq _).get_eq (by decide) (by decide)).trans ((State.get_put_same _ _ _).trans (Nat.mod_eq_of_lt ?_))
      have hnn := Int.emod_nonneg c (by decide : (256 : Int) ≠ 0)
      have hlt := Int.emod_lt_of_pos c (by decide : (0 : Int) < 256)
      show (c % 256).toNat < 256
      omega
    · exact congrArg Boot.tempHot (hq _).sameBoot
    · exact congrArg Boot.hotWait (hq _).sameBoot
    · exact .withHostBoot hput

end

section
/-! SUPPORT. Frames of the domains' commands. -/

namespace Sys2Proof.Machine

theorem frame_domainHeld (s : State) (d : Domain) : (s.domainHeld d).Frame s [.pwr] [Reg.PWR_STATUS_DOM_FAIL] := by
  unfold State.domainHeld
  exact .next (.withPwr (.ev (.put (.refl _ _ _)))) (frame_setDom _ _ _)

theorem frame_phyRequest (s : State) (p : Port) : (s.phyRequest p).Frame s [.broker] [Reg.PWR_LEAVE_QUEUE_REJECTS] := by
  unfold State.phyRequest
  exact .ite (.next (.refl _ _ _) (frame_leaveRequest _ _)) (.refl _ _ _)

end Sys2Proof.Machine
end

section
/-! SUPPORT. A domain that does not come up, and the AON supply's reset. -/

namespace Sys2Proof.Machine

theorem bitOf_eq_testBit (v i : Nat) : bitOf v i = v.testBit i := by
  rw [bitOf, Nat.testBit_eq_decide_div_mod_eq]
  rfl

/-- Setting a bit of a number that has it not is adding its place. -/
theorem testBit_setBit (m i : Nat) : (if bitOf m i then m else m + 2 ^ i).testBit i = true := by
  rw [bitOf_eq_testBit]
  split
  next h => exact h
  next h =>
    rw [Nat.add_comm, Nat.testBit_two_pow_add_eq]
    simp [h]

theorem State.domFail_domainHeld (s : State) (d : Domain) : bitOf ((s.domainHeld d).get Reg.PWR_STATUS_DOM_FAIL) d.idx = true := by
  have hd : d.idx < Reg.PWR_STATUS_DOM_FAIL.width := by cases d <;> decide
  have hget : (s.domainHeld d).get Reg.PWR_STATUS_DOM_FAIL = (if bitOf (s.get Reg.PWR_STATUS_DOM_FAIL) d.idx then
      s.get Reg.PWR_STATUS_DOM_FAIL else s.get Reg.PWR_STATUS_DOM_FAIL + 2 ^ d.idx) % 2 ^ Reg.PWR_STATUS_DOM_FAIL.width :=
    (State.get_ev_off (by decide)).trans (State.get_put_same _ _ _)
  rw [bitOf_eq_testBit, hget, Nat.testBit_mod_two_pow, testBit_setBit, decide_eq_true hd, Bool.true_and]

theorem State.dom_domainHeld (s : State) (d : Domain) : (s.domainHeld d).pwr.dom = lset s.pwr.dom d.idx .held := by
  unfold State.domainHeld
  extract_lets m s1
  have hpwr : s1.pwr = s.pwr := (frame_of_quiet (quiet_ev (s.put _ _) .pwr 0x1005 6 d.idx) [] []).samePwr
  show lset s1.pwr.dom d.idx .held = _
  rw [hpwr]

theorem mget_filter_none {α : Type} {m : NMap α} {p : Nat × α → Bool} {k : Nat} (h : ∀ v, p (k, v) = false) :
    mget (m.filter p) k = none := by
  induction m with
  | nil => rfl
  | cons e m ih =>
    obtain ⟨j, v⟩ := e
    by_cases hp : p (j, v) = true
    · have hk : k ≠ j := fun hk => by simp [← hk, h] at hp
      simp [hp, mget, hk, ih]
    · simp [hp, ih]

/-- What an AON reset makes of a state in which every other domain is off. -/
def State.aonLost (s1 : State) : State :=
  let keep (k : Nat) : Bool :=
    Block.ofOff (keyOff k) == some .grt || k == Reg.UMB_STATUS_COLD_CAP.key || k == Reg.ECH_SEQ_STORED_SEQ.key
  { s1 with
    regs := s1.regs.filter (fun e => keep e.1)
    evr := { s1.evr with
      ring := [], opens := [], buffer := [], lostBySev := Recorder.init.lostBySev, lostLo := 0, lostHi := 0,
      views := Recorder.init.views, holes := [], challenge := none, refusals := [], provisional := true, tripSeq := none }
    rails := { Rails.init with ffNor := s1.rails.ffNor, ffCur := s1.rails.ffCur, ffNext := s1.rails.ffNext }
    broker := Broker.init
    pwr := Power.init
    dmc := { Dram.init with trainNor := s1.dmc.trainNor, norAt := s1.dmc.norAt, freezeNor := s1.dmc.freezeNor }
    flc := { s1.flc with ids := [] }
    ech := { Echo.init with session := s1.ech.session, peerNor := s1.ech.peerNor }
    grt := { s1.grt with staged := [], aonSeal := none, aonWps := [] }
    boot := { s1.boot with powered := false, startRec := false, trial := false, wdtStage := 0, wdtLatch := false, running := none,
                            staging := none, staged := none, hashCache := [none, none], intents := [] } }

theorem State.aonReset_eq (s : State) : s.aonReset = s.allOff.aonLost := by
  simp only [State.aonReset, State.aonLost]

/-- The registers that an AON reset does not keep read their reset values (R402). -/
theorem State.get_aonLost (t : State) {f : Fld} (hg : (Block.ofOff (keyOff f.key) == some .grt) = false)
    (hu : f.key ≠ Reg.UMB_STATUS_COLD_CAP.key) (he : f.key ≠ Reg.ECH_SEQ_STORED_SEQ.key) : t.aonLost.get f = f.rst := by
  have hnone : mget t.aonLost.regs f.key = none := mget_filter_none fun v => by simp [hg, hu, he]
  rw [State.get, mgetD, hnone, Option.getD_none]

theorem State.flag_aonLost (t : State) {f : Fld} (hg : (Block.ofOff (keyOff f.key) == some .grt) = false)
    (hu : f.key ≠ Reg.UMB_STATUS_COLD_CAP.key) (he : f.key ≠ Reg.ECH_SEQ_STORED_SEQ.key) : t.aonLost.flag f = (f.rst == 1) :=
  congrArg (· == 1) (t.get_aonLost hg hu he)

theorem State.faultPin_aonLost (t : State) : t.aonLost.faultPin = false := by
  have hlock : t.aonLost.flag Reg.SUP_STATUS_LOCKOUT = false := t.flag_aonLost (by decide) (by decide) (by decide)
  have hclk : t.aonLost.flag Reg.CLK_STATUS_FAULT = false := t.flag_aonLost (by decide) (by decide) (by decide)
  have hhold : t.aonLost.flag Reg.CLK_STATUS_HOLD = false := t.flag_aonLost (by decide) (by decide) (by decide)
  have hlat : t.aonLost.latchedAct 2 = false := rfl
  simp [State.faultPin, hlock, hclk, hhold, hlat]

end Sys2Proof.Machine
end

section
/-! PROOF. Domains coming up and failing to, and the AON supply. -/

open Sys2Proof Sys2Proof.Machine

/-- Settles O42: each command by the domain that comes up, and the reset's values. -/
theorem domainsAndAon : Obligations.DomainsAndAon := by
  unfold Obligations.DomainsAndAon
  refine ⟨fun d s hup hst => ?_, fun d s hup hst hs ht hd => ?_, fun s hup hst hs ht => ?_, fun d s hup hst ht => ?_,
    fun d s hup hr => ?_, fun d s hup hr hs hx => ?_, fun s haon => ?_, fun s => ?_⟩
  · refine runs_of_effect (t := { s with pwr := { s.pwr with upStep := s.pwr.upStep + 1, upRetry := false } })
      (congrArg (done s) ?_) ⟨rfl, .withPwr (.refl _ _ _)⟩ fun u q ⟨h, hf⟩ => ⟨h, hf.finish q⟩
    simp only [State.domainReady, hup, if_pos hst]
  · refine runs_of_effect (t := ({ s with pwr := { s.pwr with upDom := none, upStep := 0, upRetry := false } } : State).setDom d .on)
      (congrArg (done s) ?_) ⟨rfl, rfl, .next (.withPwr (.refl _ _ _)) (frame_setDom _ _ _)⟩
      fun u q ⟨h1, h2, hf⟩ => ⟨h1, h2, hf.finish q⟩
    simp only [State.domainReady, hup, if_neg (Nat.not_lt.2 hst), ht, Bool.false_eq_true, if_false, if_neg hd]
    rw [if_neg, if_neg] <;> simp [State.setDom, hs]
  · refine runs_of_effect (t := (((({ s with pwr := { s.pwr with upDom := none, upStep := 0, upRetry := false } } : State).setDom
      .host .on).phyRequest .a).phyRequest .b)) (congrArg (done s) ?_) ?_ fun u q h => h
    · have hphy := fun t : State => ((frame_phyRequest (t.phyRequest .a) .b).sameBoot.trans (frame_phyRequest t .a).sameBoot)
      simp only [State.domainReady, hup, if_neg (Nat.not_lt.2 hst), ht, Bool.false_eq_true, if_false, if_true]
      rw [if_neg, if_neg] <;> simp [hphy, State.setDom, hs]
    · rw [(frame_phyRequest _ _).samePwr, (frame_phyRequest _ _).samePwr]
      exact ⟨rfl, rfl⟩
  · refine runs_of_effect (t := ({ s with pwr := { s.pwr with upDom := none, upStep := 0, upRetry := false } } : State).setDom d .held)
      (congrArg (done s) ?_) ⟨rfl, rfl, .next (.withPwr (.refl _ _ _)) (frame_setDom _ _ _)⟩
      fun u q ⟨h1, h2, hf⟩ => ⟨h1, h2, hf.finish q⟩
    simp only [State.domainReady, hup, if_neg (Nat.not_lt.2 hst), ht, if_true]
  · refine runs_of_effect (t := { s with pwr := { s.pwr with upRetry := true } })
      (congrArg (done s) ?_) ⟨rfl, .withPwr (.refl _ _ _)⟩ fun u q ⟨h, hf⟩ => ⟨h, hf.finish q⟩
    simp [State.domainMissed, hup, hr]
  · refine runs_of_effect (t := s.domainHeld d) (congrArg (done s) ?_)
      ⟨s.dom_domainHeld d, s.domFail_domainHeld d, (frame_domainHeld s d).sameCache⟩ fun u q h => h
    have hb : (s.domainHeld d).boot.starting = false := (congrArg Boot.starting (frame_domainHeld s d).sameBoot).trans hs
    have hsleep : (s.get Reg.PWR_STATUS_STATE == pwrExiting) = false := beq_eq_false_iff_ne.2 hx
    simp [State.domainMissed, hup, hr, hb, hsleep]
  · refine runs_of_effect (t := (s.put Reg.PWR_AON_BOR_WARN 1).ev .pwr 0x1004 6 0) (congrArg (done s) (if_pos haon))
      ⟨?_, .ev (.put (.refl _ _ _))⟩ fun u q ⟨h, hf⟩ => ⟨h, hf.finish q⟩
    exact (State.flag_ev_off (by decide)).trans (State.flag_put_one _ _)
  · refine runs_of_done (congrArg (done s) s.aonReset_eq) ?_
    have hcache := s.cache_allOff
    generalize s.allOff = t at hcache
    exact ⟨rfl, rfl, hcache, t.get_aonLost (by decide) (by decide) (by decide),
      t.flag_aonLost (by decide) (by decide) (by decide), t.faultPin_aonLost, rfl, rfl⟩

end

section
/-! SUPPORT. Frames of the sleep handshake's steps. -/

namespace Sys2Proof.Machine

theorem frame_beginHandshake (s : State) (target : Nat) : (s.beginHandshake target).Frame s [.pwr, .ech] [Reg.PWR_STATUS_STATE,
    Reg.PWR_STATUS_TARGET] := by
  unfold State.beginHandshake
  exact .next (.withPwr (.withPwr (.put (.put (.refl _ _ _))))) (frame_echoStateSync _)

theorem frame_enableGroup (s : State) (g : Nat) : (s.enableGroup g).Frame s [.rails] ([Reg.SUP_SEQ_STATUS_GROUP] ++ railVals) := by
  unfold State.enableGroup
  exact .withRails (.put (.foldlMem _ (fun t n hn ht =>
    .next (.put ht (List.mem_cons_of_mem _ (railVal_mem (lt_of_mem_walkRails hn)))) (frame_setChan _ _ _)) (.refl _ _ _))
    List.mem_cons_self)

theorem frame_takeManifest (s : State) : s.takeManifest.Frame s [.vlt] [Reg.VLT_GRANULES_COUNT] := by
  unfold State.takeManifest
  exact .put (.next (.refl _ _ _) (frame_updVault _ _))

end Sys2Proof.Machine
end

section
/-! SUPPORT. The sleep handshake: its begin, a refusal, and the wakes (R379–R390). -/

namespace Sys2Proof.Machine

section
variable {s : State}

theorem State.mayEnter_retry (s : State) {v a b : Nat} :
    (({ s with pwr := { s.pwr with request := a, k := b } } : State).put Reg.PWR_STATUS_RETRY v).mayEnter = s.mayEnter := by
  simp (disch := decide) [State.mayEnter, State.seqState]

/-- The begin of a handshake (R381). -/
theorem State.beginHandshake_facts (s : State) {target : Nat} (h : target < 2 ^ Reg.PWR_STATUS_TARGET.width) :
    (s.beginHandshake target).get Reg.PWR_STATUS_STATE = pwrEntering ∧
      (s.beginHandshake target).get Reg.PWR_STATUS_TARGET = target ∧
      (s.beginHandshake target).pwr.request = s.pwr.request ∧ (s.beginHandshake target).pwr.agreed = [] := by
  unfold State.beginHandshake
  extract_lets s1 src s2 src'
  have hsync := fun t => frame_echoStateSync t
  refine ⟨((hsync _).get_eq (by decide) (by decide)).trans ?_, ((hsync _).get_eq (by decide) (by decide)).trans ?_,
    (congrArg Power.request (hsync _).samePwr).trans rfl, (congrArg Power.agreed (hsync _).samePwr).trans rfl⟩
  · exact (State.get_put_ne _ _ (by decide)).trans (State.get_put_lt _ _ (by decide))
  · exact State.get_put_lt _ _ h

theorem refuseCnt_key_ne (d : Domain) {f : Fld} (h : f.key ∉ [Reg.PWR_REFUSE_CNT0_CTRL, Reg.PWR_REFUSE_CNT0_FAB,
    Reg.PWR_REFUSE_CNT0_DRAM, Reg.PWR_REFUSE_CNT1_NAND, Reg.PWR_REFUSE_CNT1_HOST, Reg.PWR_REFUSE_CNT1_ECHO,
    Reg.PWR_REFUSE_CNT0_SUP].map Fld.key) : f.key ≠ (refuseCnt d).key := by
  simp only [List.map_cons, List.map_nil, List.mem_cons, List.not_mem_nil, or_false, not_or] at h
  cases d <;> simp [refuseCnt, h]

theorem State.rollback_entering (h : s.get Reg.PWR_STATUS_STATE = pwrEntering) :
    s.rollback.get Reg.PWR_STATUS_STATE = pwrRun ∧ s.rollback.pwr = { s.pwr with agreed := [], asking := none, prep := 0 } := by
  unfold State.rollback
  rw [if_pos h]
  exact ⟨(State.get_put_ne _ _ (by decide)).trans (State.get_put_lt _ _ (by decide)), rfl⟩

/-- A refusal: back in RUN, counted, with its reason and domain (R382). -/
theorem State.refuse_facts (h : s.get Reg.PWR_STATUS_STATE = pwrEntering) (d : Domain) {reason : Nat} (hr : reason < 32) :
    (s.refuse d reason).get Reg.PWR_STATUS_STATE = pwrRun ∧
      (s.refuse d reason).pwr = { s.pwr with agreed := [], asking := none, prep := 0, k := s.pwr.k + 1 } ∧
      (s.refuse d reason).get Reg.PWR_REFUSE_LAST_REASON = reason ∧ (s.refuse d reason).get Reg.PWR_REFUSE_LAST_DOMAIN = d.idx ∧
      (s.refuse d reason).flag Reg.PWR_STATUS_REFUSE_EV = true ∧ (s.refuse d reason).cache = s.cache := by
  obtain ⟨hst, hpwr⟩ := State.rollback_entering h
  unfold State.refuse
  extract_lets target s1 k src s2 s3 s4
  have hd : d.idx < 2 ^ Reg.PWR_REFUSE_LAST_DOMAIN.width := by cases d <;> decide
  have hst2 : s2.get Reg.PWR_STATUS_STATE = pwrRun :=
    (State.get_put_ne _ _ (by decide)).trans ((State.get_put_ne _ _ (refuseCnt_key_ne d (by decide))).trans hst)
  have hdom2 : s2.get Reg.PWR_REFUSE_LAST_DOMAIN = d.idx := State.get_put_lt _ _ hd
  have hpwr2 : s2.pwr = { s.pwr with agreed := [], asking := none, prep := 0, k := s.pwr.k + 1 } := by
    show { s.rollback.pwr with k := s.rollback.pwr.k + 1 } = _
    rw [hpwr]
  have h4 : s4.Frame s2 [] [Reg.PWR_REFUSE_LAST_REASON, Reg.PWR_REFUSE_LAST_K, Reg.PWR_REFUSE_LAST_TARGET,
      Reg.PWR_STATUS_REFUSE_EV] := .ev (.next (.put (.put (.put (.refl _ _ _)))) (frame_raise _ _ _ _))
  have hlast : (if s4.pwr.request ≠ 0 then s4.put Reg.PWR_STATUS_RETRY 1 else s4).echoStateSync.Frame s4 [.ech]
      [Reg.PWR_STATUS_RETRY] := .next (.ite (.put (.refl _ _ _)) (.refl _ _ _)) (frame_echoStateSync _)
  refine ⟨?_, ?_, ?_, ?_, ?_, ?_⟩
  · rw [hlast.get_eq (by decide) (by decide), h4.get_eq (by decide) (by decide), hst2]
  · rw [hlast.samePwr, h4.samePwr, hpwr2]
  · rw [hlast.get_eq (by decide) (by decide)]
    have hreason : (s2.put Reg.PWR_REFUSE_LAST_REASON reason).get Reg.PWR_REFUSE_LAST_REASON = reason := State.get_put_lt _ _ hr
    simp (disch := decide) [s4, s3, hreason]
  · rw [hlast.get_eq (by decide) (by decide), h4.get_eq (by decide) (by decide), hdom2]
  · rw [hlast.flag_eq (by decide) (by decide)]
    simp (disch := decide) [s4]
  · rw [hlast.sameCache, h4.sameCache]
    exact (frame_rollback s).sameCache

theorem State.voteReason_le (s : State) (d : Domain) (busy : Bool) : s.voteReason d busy < 32 := by
  have hone : ∀ (p : Prop) [Decidable p] (a b : Nat), a < 32 → b < 32 → (if p then a else b) < 32 := fun p _ a b ha hb => by
    split
    · exact ha
    · exact hb
  cases d
  case aon => exact Nat.zero_lt_succ _
  case ctrl => exact hone _ _ _ (by decide) (hone _ _ _ (by decide) (hone _ _ _ (by decide) (by decide)))
  all_goals exact hone _ _ _ (by decide) (by decide)

/-! A clean vault (R388), and the exit from SLEEP (R385). -/

theorem State.vaultRuns_vaultStripe (s : State) (n : Nat) (man : Bool) (l : List Nat) :
    (s.vaultStripe n man l).vlt.cur.isSome = s.vlt.cur.isSome := by
  have h0 : (State.openBandsN 16 s).vlt = s.vlt := (frame_openBandsN 16 s).sameVlt
  unfold State.vaultStripe
  extract_lets s0 num info carried r
  split
  · rw [State.updVault, Option.isSome_map, h0]
  · extract_lets s1 s2
    have h1 : s1.vlt = s.vlt := by
      unfold s1
      split
      · rw [(frame_handStripe _ _ _ _ _ _ _).sameVlt, h0]
      · rw [(frame_handStripe _ _ _ _ _ _ _).sameVlt, (frame_dumpRead _ _).sameVlt, h0]
    show (Option.map _ s1.vlt.cur).isSome = _
    rw [Option.isSome_map, h1]

theorem State.vaultRuns_vaultTail (s : State) : s.vaultTail.vlt.cur.isSome = s.vlt.cur.isSome := by
  have hfold : ∀ l : List Band, (l.foldl (fun t b => t.closeBand b.num false) s).vlt = s.vlt := fun l =>
    (State.Frame.foldl (fun t b ht => ht.next (frame_closeBand t b.num false)) l (.refl s [.grt, .pmr, .ech]
      [Reg.GRT_SERVICE_LUNS_VAULT, Reg.GRT_SERVICE_LUNS_GROTTO, Reg.GRT_SERVICE_CHANNELS, Reg.GRT_VCAP_BYTES,
        Reg.GRT_ERASED_BYTES, Reg.GRT_BANDS_ERASED, Reg.GRT_BANDS_TOTAL, Reg.GRT_RETIRE_SPARES_MIN, Reg.GRT_STATUS_SPARES_LOW,
        Reg.FLC_STATUS_LUNS_ACTIVE, Reg.GRT_STATUS_CAP_RO])).sameVlt
  unfold State.vaultTail
  extract_lets s1
  rw [State.put_vlt, State.updVault, Option.isSome_map, (frame_journalFlushAll _).sameVlt, hfold]

theorem State.vaultRuns_vaultPump (s : State) : s.vaultPump.vlt.cur.isSome = s.vlt.cur.isSome := by
  unfold State.vaultPump
  split
  · rfl
  · split
    · rfl
    · split
      · extract_lets room left s1
        rw [State.vaultRuns_vaultStripe]
        exact Option.isSome_map
      · extract_lets need room left s1 ready take left' s1'
        split
        · rw [State.vaultRuns_vaultStripe]
          exact Option.isSome_map
        · split
          · rw [State.vaultRuns_vaultStripe]
            exact Option.isSome_map
          · split
            · rfl
            · exact s.vaultRuns_vaultTail

theorem State.cleanVault_starts (s : State) : s.cleanVault.pwr.prep = 3 ∧ s.cleanVault.vlt.cur.isSome = true := by
  unfold State.cleanVault
  extract_lets s0 s1 src s2
  constructor
  · rw [(frame_vaultPump _).samePwr, (frame_takeManifest _).samePwr]
  · rw [State.vaultRuns_vaultPump, State.takeManifest, State.put_vlt, State.updVault, Option.isSome_map]
    rfl

theorem frame_transUp (s : State) (g : Nat) : (s.transUp g).Frame s [.rails] ([Reg.SUP_SEQ_STATUS_GROUP] ++ railVals) := by
  unfold State.transUp
  split
  · exact frame_enableGroup _ _
  · exact .withRails (.refl _ _ _)

theorem State.domSt_resumeRetained (s : State) (d : Domain) : s.resumeRetained.domSt d ≠ .retained := by
  show (s.pwr.dom.map fun d => if d = DomSt.retained then DomSt.on else d).getD d.idx .off ≠ .retained
  rw [List.getD_eq_getElem?_getD, List.getElem?_map]
  cases s.pwr.dom[d.idx]? with
  | none => decide
  | some v => cases v <;> decide

theorem State.sleepExitNow_exiting (hst : s.get Reg.PWR_STATUS_STATE = pwrExiting) (hfrom : s.get Reg.PWR_WAKE_FROM = pwrSleep) :
    s.sleepExitNow.InRun ∧ (∀ d, s.sleepExitNow.domSt d ≠ .retained) ∧ s.sleepExitNow.dmc.selfRefresh = false ∧
      s.sleepExitNow.flag Reg.PWR_STATUS_GUARD = false := by
  unfold State.sleepExitNow
  extract_lets st s1 src1 src2 s2
  rw [if_pos (.inr ⟨hst, hfrom⟩)]
  refine ⟨?_, s.domSt_resumeRetained, rfl, ?_⟩
  · have hrun : (s2.put Reg.PWR_STATUS_STATE pwrRun).get Reg.PWR_STATUS_STATE = pwrRun := State.get_put_lt _ _ (by decide)
    simp (disch := decide) [State.InRun, hrun]
  · simp (disch := decide)

/-- What a wake from SLEEP or DEEP counts and shows before DEEP's restart (R385). -/
def State.wakeNoted (s : State) (src : Nat) : State :=
  ((((s.put Reg.PWR_STATUS_STATE pwrExiting).incSat Reg.PWR_WAKE_COUNT 1).put Reg.PWR_WAKE_FROM
    (s.get Reg.PWR_STATUS_STATE)).put Reg.PWR_WAKE_SOURCE src).dropRequest

theorem State.wakeNoted_facts (s : State) {src : Nat} (h : s.get Reg.PWR_STATUS_STATE < 8) (hsrc : src < 32) :
    (s.wakeNoted src).get Reg.PWR_STATUS_STATE = pwrExiting ∧ (s.wakeNoted src).get Reg.PWR_WAKE_SOURCE = src ∧
      (s.wakeNoted src).get Reg.PWR_WAKE_FROM = s.get Reg.PWR_STATUS_STATE := by
  have hst : (s.put Reg.PWR_STATUS_STATE pwrExiting).get Reg.PWR_STATUS_STATE = pwrExiting := State.get_put_lt _ _ (by decide)
  have hs : ∀ t : State, (t.put Reg.PWR_WAKE_SOURCE src).get Reg.PWR_WAKE_SOURCE = src := fun t => State.get_put_lt _ _ hsrc
  have hf : ∀ t : State, (t.put Reg.PWR_WAKE_FROM (s.get Reg.PWR_STATUS_STATE)).get Reg.PWR_WAKE_FROM =
      s.get Reg.PWR_STATUS_STATE := fun t => State.get_put_lt _ _ h
  simp (disch := decide) [State.wakeNoted, (frame_dropRequest _).get_eq, hst, hs, hf]

theorem State.wake_sleep (h : s.get Reg.PWR_STATUS_STATE = pwrSleep) (src : Nat) :
    s.wake src = (s.wakeNoted src).raise Reg.PWR_STATUS_WAKE_EV Reg.PWR_CTRL_INT_EN 61 := by
  unfold State.wake State.wakeNoted
  simp only [h, true_or, if_true]
  rw [if_neg (by decide)]

theorem State.wake_deep (h : s.get Reg.PWR_STATUS_STATE = pwrDeep) (src : Nat) :
    s.wake src = (({ s.wakeNoted src with
      boot := { (s.wakeNoted src).boot with starting := true, startStep := 4 },
      rails := { (s.wakeNoted src).rails with inTransition := true, transDeep := true, wait := SeqWait.boot } } : State).put
        Reg.SYS_STATUS_PATH 3).raise Reg.PWR_STATUS_WAKE_EV Reg.PWR_CTRL_INT_EN 61 := by
  unfold State.wake State.wakeNoted
  simp only [h, or_true, if_true]

end

end Sys2Proof.Machine
end

section
/-! PROOF. IDLE and the way into SLEEP. -/

open Sys2Proof Sys2Proof.Machine

/-- Settles O40: each command where its conditions hold and where they do not. -/
theorem sleepEntry : Obligations.SleepEntry := by
  unfold Obligations.SleepEntry
  refine ⟨fun s hrun hmay hq => ?_, fun s hrun hq => ?_, fun s hst hauto ha hb hsafe hmay => ?_,
    fun d n busy s hst hask hvote hnext => ?_, fun d busy s hst hask hvote => ?_, fun d s hst hask => ?_,
    fun s hmay hreq => ?_, fun s hno => ?_⟩
  · exact runs_of_effect (t := s.put Reg.PWR_STATUS_STATE pwrIdle) (congrArg (done s) (if_pos ⟨hrun, hmay, hq⟩))
      ⟨State.get_put_lt _ _ (by decide), .put (.refl _ _ _)⟩ fun u q ⟨h, hf⟩ => ⟨h, hf.finish q⟩
  · exact runs_of_effect (t := s) (congrArg (done s) (if_neg fun h => by simp [hq] at h)) (.refl _ _ _) fun u q h => h.finish q
  · refine runs_of_effect (t := s.sleepRequest) (congrArg (done s) (if_pos ⟨hst, hauto, by simp [ha], by simp [hb]⟩)) ?_
      fun u q h => h
    have hmay' : (({ s with pwr := { s.pwr with request := 2, k := 0 } } : State).put Reg.PWR_STATUS_RETRY 0).mayEnter = true :=
      (State.mayEnter_retry _).trans hmay
    have heq : s.sleepRequest = (({ s with pwr := { s.pwr with request := 2, k := 0 } } : State).put
        Reg.PWR_STATUS_RETRY 0).beginHandshake pwrSleep := by
      simp only [State.sleepRequest, hsafe, hmay', Bool.false_eq_true, if_false, if_true]
    rw [heq]
    obtain ⟨hent, htgt, hreq, hagr⟩ := State.beginHandshake_facts (({ s with pwr := { s.pwr with request := 2, k := 0 } } : State).put
      Reg.PWR_STATUS_RETRY 0) (target := pwrSleep) (by decide)
    exact ⟨hent, htgt, hreq, hagr, (frame_beginHandshake _ _).sameCache⟩
  · refine runs_of_effect (t := { s with pwr := { s.pwr with agreed := s.pwr.agreed ++ [d], asking := some n } })
      (congrArg (done s) ?_) ⟨rfl, .withPwr (.refl _ _ _)⟩ fun u q ⟨h, hf⟩ => ⟨h, hf.finish q⟩
    simp only [State.vote, hst, ne_eq, not_true, if_false, hask, hvote]
    rw [show ({ s with pwr := { s.pwr with agreed := s.pwr.agreed ++ [d], asking := some d } } : State).nextVote = some n from hnext]
  · refine runs_of_effect (t := s.refuse d (s.voteReason d busy)) (congrArg (done s) ?_) ?_ fun u q h => h
    · simp only [State.vote, hst, ne_eq, not_true, if_false, hask, hvote, not_false_eq_true, if_true]
    · obtain ⟨hrun, hpwr, hreason, hdom, -, hcache⟩ := State.refuse_facts hst d (s.voteReason_le d busy)
      exact ⟨hrun, by rw [hpwr], by rw [hpwr], hreason, hdom, hcache⟩
  · refine runs_of_effect (t := s.refuse d 31) (congrArg (done s) ?_) ?_ fun u q h => h
    · simp only [hask, hst, if_true]
    · obtain ⟨hrun, -, hreason, -, hev, hcache⟩ := State.refuse_facts hst d (reason := 31) (by decide)
      exact ⟨hrun, hreason, hev, hcache⟩
  · refine runs_of_effect (t := (s.put Reg.PWR_STATUS_RETRY 0).beginHandshake pwrSleep) (congrArg (done s) ?_) ?_ fun u q h => h
    · simp [State.retryRequest, hreq, hmay]
    · obtain ⟨hent, -, -, -⟩ := State.beginHandshake_facts (s.put Reg.PWR_STATUS_RETRY 0) (target := pwrSleep) (by decide)
      refine ⟨hent, ?_, (frame_beginHandshake _ _).sameCache⟩
      simp (disch := decide) [(frame_beginHandshake _ _).flag_eq]
  · refine runs_of_effect (t := s) (congrArg (done s) (if_neg fun h => ?_)) (.refl _ _ _) fun u q h => h.finish q
    obtain ⟨hreq, hmay⟩ := h
    exact hno.elim hreq fun hm => by simp [hm] at hmay

end

section
/-! PROOF. DEEP's preparation, the wakes, and the exit from SLEEP. -/

open Sys2Proof Sys2Proof.Machine

/-- Settles O41: each command by the power state it finds. -/
theorem sleepExitAndDeep : Obligations.SleepExitAndDeep := by
  unfold Obligations.SleepExitAndDeep
  refine ⟨fun s hprep hd => ?_, fun s hprep hd => ?_, fun s hst hprep => ?_, fun s hst ht => ?_, fun s hst hg => ?_,
    fun s hst => ?_, fun s hst hfrom => ?_⟩
  · exact runs_of_effect (t := s.cleanVault) (congrArg (done s) (if_pos ⟨hprep, hd⟩)) s.cleanVault_starts fun u q h => h
  · exact runs_of_effect (t := s) (congrArg (done s) (if_neg fun h => hd h.2)) (.refl _ _ _) fun u q h => h.finish q
  · refine runs_of_effect (t := s.refuse .ctrl 10) (congrArg (done s) (if_pos hprep)) ?_ fun u q h => h
    obtain ⟨hrun, hpwr, hreason, -, -, hcache⟩ := State.refuse_facts hst .ctrl (reason := 10) (by decide)
    exact ⟨by rw [hpwr], hrun, hreason, hcache⟩
  · refine runs_of_effect (t := s.wake 6) (congrArg (done s) (if_pos ⟨hst, ht⟩)) ?_ fun u q h => h
    obtain ⟨hex, hsrc, hfrom⟩ := s.wakeNoted_facts (src := 6) (by rw [hst]; decide) (by decide)
    rw [State.wake_deep hst]
    have hr := frame_raise
    refine ⟨?_, ?_, ?_, ?_, ?_⟩
    · simp (disch := decide) [hex]
    · simp (disch := decide) [hsrc]
    · simp (disch := decide) [hfrom, hst]
    · exact congrArg Boot.starting (frame_raise _ _ _ _).sameBoot
    · exact (frame_raise _ _ _ _).sameCache
  · refine runs_of_effect (t := s.wake 8) (congrArg (done s) (if_pos ⟨hst, hg⟩)) ?_ fun u q h => h
    obtain ⟨hex, hsrc, hfrom⟩ := s.wakeNoted_facts (src := 8) (by rw [hst]; decide) (by decide)
    rw [State.wake_sleep hst]
    refine ⟨?_, ?_, ?_, ?_, (frame_raise _ _ _ _).sameBoot, (frame_raise _ _ _ _).sameCache⟩
    · simp (disch := decide) [hex]
    · simp (disch := decide) [hsrc]
    · simp (disch := decide) [hfrom, hst]
    · exact State.flag_raise _ _ _ _
  · refine runs_of_effect (congrArg (done s) (if_pos hst)) ?_ fun u q h => h
    dsimp only
    obtain ⟨hex, hsrc, hfrom⟩ := s.wakeNoted_facts (src := 7) (by rw [hst]; decide) (by decide)
    rw [State.wake_sleep hst]
    refine ⟨?_, ?_, rfl, ?_, (frame_raise _ _ _ _).sameCache⟩
    · simp (disch := decide) [hex]
    · simp (disch := decide) [hsrc]
    · exact State.flag_put_one _ _
  · refine runs_of_effect (t := (s.sleepExitNow.beginTrans false true).echoStateSync) (congrArg (done s) (if_pos ⟨hst, hfrom⟩)) ?_
      fun u q h => h
    obtain ⟨hrun, hdom, hself, hguard⟩ := State.sleepExitNow_exiting hst hfrom
    have hf : (s.sleepExitNow.beginTrans false true).echoStateSync.Frame s.sleepExitNow [.rails, .ech]
        ([Reg.SUP_SEQ_STATUS_GROUP] ++ railVals) :=
      .next ((State.Frame.withRails (.refl _ _ _)).next (frame_transUp _ 0)) (frame_echoStateSync _)
    exact ⟨(hf.get_eq (by decide) (by decide)).trans hrun, fun d => by rw [State.domSt, hf.samePwr]; exact hdom d,
      (congrArg Dram.selfRefresh hf.sameDmc).trans hself, (hf.flag_eq (by decide) (by decide)).trans hguard,
      hf.sameCache.trans (frame_sleepExitNow s).sameCache⟩

end

section
/-! SUPPORT. Frames of what a rail's sample does. -/

namespace Sys2Proof.Machine

theorem frame_latchFault (s : State) (n : Nat) (act : Nat) : (s.latchFault n act).Frame s [.rails] [Reg.SUP_FAULT_LATCHED] := by
  unfold State.latchFault
  exact .ite (.refl _ _ _) (.ite (.next (.refl _ _ _) (frame_setChan _ _ _)) (.put (.next (.refl _ _ _) (frame_setChan _ _ _))))

theorem frame_noteInScan (s : State) (n : Nat) : (s.noteInScan n).Frame s [.rails] [Reg.SUP_FF_MASK_OUT_MASK] := by
  unfold State.noteInScan
  exact .ite (.put (.withRails (.withRails (.refl _ _ _)))) (.withRails (.refl _ _ _))

end Sys2Proof.Machine
end

section
/-! SUPPORT. A sample of a rail: what it shows, what the filter makes of it, and a confirmed undervoltage (R351–R355). -/

namespace Sys2Proof.Machine

theorem Fld.key_fldR (off hi lo min max : Nat) : (fldR off hi lo min max).key = off * 4096 + lo * 64 + (hi + 1 - lo - 1) := rfl

theorem Fld.key_fldIR (off hi lo : Nat) (acc : Access) (rst : Nat) :
    (fldIR off hi lo acc rst).key = off * 4096 + lo * 64 + (hi + 1 - lo - 1) := rfl

section
variable {s : State} {n code : Nat}

/-- The code and the readiness that a sample shows. -/
def State.railShown (s : State) (n code : Nat) : State :=
  (s.put (Reg.SUP_CHn_VAL_CODE n) code).putB (Reg.SUP_CHn_VAL_READY n)
    (decide ((s.put (Reg.SUP_CHn_VAL_CODE n) code).get (Reg.SUP_CHn_LVL_PG n) ≤ code))

theorem frame_railShown (s : State) (n code : Nat) : (s.railShown n code).Frame s []
    [Reg.SUP_CHn_VAL_CODE n, Reg.SUP_CHn_VAL_READY n] := .putB (.put (.refl _ _ _) (by simp)) (by simp)

theorem State.get_railShown {f : Fld} (hc : f.key ≠ (Reg.SUP_CHn_VAL_CODE n).key) (hr : f.key ≠ (Reg.SUP_CHn_VAL_READY n).key) :
    (s.railShown n code).get f = s.get f := (State.get_put_ne _ _ hr).trans (State.get_put_ne _ _ hc)

theorem State.flag_railShown {f : Fld} (hc : f.key ≠ (Reg.SUP_CHn_VAL_CODE n).key) (hr : f.key ≠ (Reg.SUP_CHn_VAL_READY n).key) :
    (s.railShown n code).flag f = s.flag f := congrArg (· == 1) (State.get_railShown hc hr)

theorem State.railSample_used (hsup : s.domOn .sup = true) (hn : n < 64) (h0 : 0 < n) (hu : s.railUsed n = true) :
    s.railSample n code = ((s.railShown n code).compareRail n code).seqProgress := by
  have hg : (s.put (Reg.SUP_CHn_VAL_CODE n) code).railUsed n = true := by
    rw [State.railUsed, State.railGroup, State.get_put_ne _ _ (by
      simp only [Reg.SUP_CHn_CFG_GROUP, Reg.SUP_CHn_VAL_CODE, Fld.key_fld, Fld.key_fldIR]
      omega)]
    exact hu
  simp only [State.railSample, hsup, Bool.not_true, decide_eq_false hn.not_ge, Bool.or_false, Bool.false_eq_true, if_false,
    if_neg h0.ne', hg, State.railShown]

theorem State.railSample_unused (hsup : s.domOn .sup = true) (hn : n < 64) (h0 : 0 < n) (hu : s.railUsed n = false) :
    s.railSample n code = s.put (Reg.SUP_CHn_VAL_CODE n) code := by
  have hg : (s.put (Reg.SUP_CHn_VAL_CODE n) code).railUsed n = false := by
    rw [State.railUsed, State.railGroup, State.get_put_ne _ _ (by
      simp only [Reg.SUP_CHn_CFG_GROUP, Reg.SUP_CHn_VAL_CODE, Fld.key_fld, Fld.key_fldIR]
      omega)]
    exact hu
  simp only [State.railSample, hsup, Bool.not_true, decide_eq_false hn.not_ge, Bool.or_false, Bool.false_eq_true, if_false,
    if_neg h0.ne', hg, Bool.not_false, if_true]

/-- With the sequencer waiting for nothing, a sample takes it nowhere. -/
theorem State.seqProgress_idle (h : s.rails.wait = .none) : s.seqProgress = s := by
  simp [State.seqProgress, h]

theorem State.vaultSuppress_railShown (s : State) (n code : Nat) :
    (s.railShown n code).flag Reg.SUP_STATUS_VAULT_SUPPRESS = s.flag Reg.SUP_STATUS_VAULT_SUPPRESS := State.flag_railShown
  (by simp only [Reg.SUP_STATUS_VAULT_SUPPRESS, Reg.SUP_CHn_VAL_CODE, Fld.key_fld]; omega)
  (by simp only [Reg.SUP_STATUS_VAULT_SUPPRESS, Reg.SUP_CHn_VAL_READY, Fld.key_fld]; omega)

theorem State.uvAct_railShown (s : State) (n code : Nat) :
    (s.railShown n code).get (Reg.SUP_CHn_CFG_UV_ACT n) = s.get (Reg.SUP_CHn_CFG_UV_ACT n) := State.get_railShown
  (by simp only [Reg.SUP_CHn_CFG_UV_ACT, Reg.SUP_CHn_VAL_CODE, Fld.key_fld, Fld.key_fldI]; omega)
  (by simp only [Reg.SUP_CHn_CFG_UV_ACT, Reg.SUP_CHn_VAL_READY, Fld.key_fld, Fld.key_fldI]; omega)

theorem State.seqState_railShown (s : State) (n code : Nat) : (s.railShown n code).seqState = s.seqState := State.get_railShown
  (by simp only [Reg.SUP_SEQ_STATUS_STATE, Reg.SUP_CHn_VAL_CODE, Fld.key_fld]; omega)
  (by simp only [Reg.SUP_SEQ_STATUS_STATE, Reg.SUP_CHn_VAL_READY, Fld.key_fld]; omega)

theorem State.uvOn_railShown (h : s.rails.wait = .none) : (s.railShown n code).uvOn n = s.uvOn n := by
  have hg : (s.railShown n code).railGroup n = s.railGroup n := State.get_railShown
    (by simp only [Reg.SUP_CHn_CFG_GROUP, Reg.SUP_CHn_VAL_CODE, Fld.key_fld, Fld.key_fldIR]; omega)
    (by simp only [Reg.SUP_CHn_CFG_GROUP, Reg.SUP_CHn_VAL_READY, Fld.key_fld, Fld.key_fldIR]; omega)
  have hen : (s.railShown n code).flag (Reg.SUP_CHn_VAL_EN n) = s.flag (Reg.SUP_CHn_VAL_EN n) := State.flag_railShown
    (by simp only [Reg.SUP_CHn_VAL_EN, Reg.SUP_CHn_VAL_CODE, Fld.key_fld]; omega)
    (by simp only [Reg.SUP_CHn_VAL_EN, Reg.SUP_CHn_VAL_READY, Fld.key_fld]; omega)
  have hst : (s.railShown n code).seqState = s.seqState := State.seqState_railShown s n code
  have hr : (s.railShown n code).rails = s.rails := rfl
  have hw : (SeqWait.none == SeqWait.ready) = false := rfl
  simp only [State.uvOn, State.walkRails, hg, hen, hst, hr, h, hw, Bool.and_false, Bool.false_and]

/-- The channel that a sample below its limit leaves while the filter counts `m`. -/
def State.lowChan (s : State) (n code m : Nat) (conf : Bool) : Chan :=
  { s.chan n with uvCnt := m, ovCnt := 0, uvConf := conf,
                  ovConf := (s.chan n).ovConf && decide (s.get (Reg.SUP_CHn_THR_OV n) < code + s.get Reg.SUP_SCAN_CFG_HYST),
                  pgCnt := if s.get (Reg.SUP_CHn_LVL_PG n) ≤ code then Nat.min 8 ((s.chan n).pgCnt + 1) else 0,
                  offOk := decide (code ≤ s.get (Reg.SUP_CHn_LVL_OFF n)) }

/-- A code below the undervoltage limit: the filter counts, and the fault is confirmed when it is full. -/
theorem State.compareRail_low (huv : s.uvOn n = true) (hsup : s.flag Reg.SUP_STATUS_VAULT_SUPPRESS = false)
    (hlo : code < s.get (Reg.SUP_CHn_THR_UV n)) (hhi : code ≤ s.get (Reg.SUP_CHn_THR_OV n)) (hc : (s.chan n).uvConf = false)
    (hf : (s.chan n).uvCnt + 1 ≤ s.get Reg.SUP_SCAN_CFG_FILT) :
    s.compareRail n code = if (s.chan n).uvCnt + 1 = s.get Reg.SUP_SCAN_CFG_FILT then
        (s.setChan n (s.lowChan n code ((s.chan n).uvCnt + 1) true)).railFault n 1 code
      else s.setChan n (s.lowChan n code ((s.chan n).uvCnt + 1) false) := by
  have hns : s.suppressed n = false := by rw [State.suppressed, hsup, Bool.false_and]
  have hfilt : Nat.max 1 (s.get Reg.SUP_SCAN_CFG_FILT) = s.get Reg.SUP_SCAN_CFG_FILT := Nat.max_eq_right (by omega)
  have hmin : Nat.min (s.get Reg.SUP_SCAN_CFG_FILT) ((s.chan n).uvCnt + 1) = (s.chan n).uvCnt + 1 := Nat.min_eq_right hf
  have h0 : (0 == s.get Reg.SUP_SCAN_CFG_FILT) = false := beq_eq_false_iff_ne.2 (by omega)
  simp only [State.compareRail, huv, hns, hfilt, hlo, hhi.not_gt, h0, hc, State.lowChan, Bool.not_false, Bool.and_true,
    Bool.true_and, Bool.false_and, and_true, and_false, if_true, if_false, Bool.or_false, Bool.false_or, Bool.false_eq_true, hmin]
  by_cases h : (s.chan n).uvCnt + 1 = s.get Reg.SUP_SCAN_CFG_FILT
  · simp [h]
  · simp [h, beq_false_of_ne h]

theorem State.noteInScan_same : (s.noteInScan n).chan n = s.chan n ∧ (s.noteInScan n).rails.wait = s.rails.wait := by
  unfold State.noteInScan
  dsimp only
  split <;> exact ⟨rfl, rfl⟩

/-- The fields that a latched fault writes beside the channel's own latch. -/
def latchFields : List Fld :=
  [Reg.SUP_FF_MASK_OUT_MASK, Reg.SYS_STATUS_SR_VALID, Reg.SUP_FAULT_LATCHED, Reg.SUP_STATUS_FAULT_EV]

/-- The state at a confirmed undervoltage before it is latched. -/
def State.lowNoted (s : State) (n : Nat) : State :=
  if s.flag (Reg.SUP_CHn_CFG_DRAM_SR n) then ((s.put (Reg.SUP_CHn_VAL_UV_LATCH n) 1).noteInScan n).put Reg.SYS_STATUS_SR_VALID 0
  else (s.put (Reg.SUP_CHn_VAL_UV_LATCH n) 1).noteInScan n

theorem lowNoted_same : (s.lowNoted n).chan n = s.chan n ∧ (s.lowNoted n).rails.wait = s.rails.wait ∧
    (s.lowNoted n).Frame (s.put (Reg.SUP_CHn_VAL_UV_LATCH n) 1) [.rails] latchFields := by
  have h := State.noteInScan_same (s := s.put (Reg.SUP_CHn_VAL_UV_LATCH n) 1) (n := n)
  have hf : ((s.put (Reg.SUP_CHn_VAL_UV_LATCH n) 1).noteInScan n).Frame (s.put (Reg.SUP_CHn_VAL_UV_LATCH n) 1) [.rails]
      latchFields := (frame_noteInScan _ n).mono (by simp) (by simp [latchFields])
  unfold State.lowNoted
  split
  · exact ⟨h.1, h.2, .put hf (by simp [latchFields])⟩
  · exact ⟨h.1, h.2, hf⟩

theorem State.latchFault_same {act : Nat} (ha : act ≠ 0) :
    (s.latchFault n act).chan n = { s.chan n with lat := Nat.max act (s.chan n).lat } ∧
      (s.latchFault n act).rails.wait = s.rails.wait := by
  have hc := State.chan_setChan s n n { s.chan n with lat := Nat.max act (s.chan n).lat }
  rw [if_pos rfl] at hc
  simp only [State.latchFault, if_neg ha]
  split
  · exact ⟨hc, rfl⟩
  · exact ⟨hc, rfl⟩

/-- A confirmed undervoltage under action 1 is latched and shown, and goes no further. -/
theorem State.railFault_latched (hn : n < 64) (hsup : s.flag Reg.SUP_STATUS_VAULT_SUPPRESS = false)
    (hact : s.get (Reg.SUP_CHn_CFG_UV_ACT n) = 1) :
    (s.railFault n 1 code).chan n = { s.chan n with lat := Nat.max 1 (s.chan n).lat } ∧
      (s.railFault n 1 code).rails.wait = s.rails.wait ∧
      (s.railFault n 1 code).flag Reg.SUP_STATUS_FAULT_EV = true ∧
      (s.railFault n 1 code).flag (Reg.SUP_CHn_VAL_UV_LATCH n) = true ∧
      (s.railFault n 1 code).seqState = s.seqState := by
  have he : s.railFault n 1 code = (((s.lowNoted n).latchFault n 1).ev .sup 0x2001 (actSev 1) (n + 256 * 1)).raise
      Reg.SUP_STATUS_FAULT_EV Reg.SUP_CTRL_INT_EN 60 := by
    simp only [State.railFault, State.lowNoted, hsup, hact, if_true, true_and, Bool.false_eq_true, if_false, Nat.one_lt_ofNat]
  obtain ⟨hchan, hwait, hframe⟩ := lowNoted_same (s := s) (n := n)
  obtain ⟨hlchan, hlwait⟩ := State.latchFault_same (s := s.lowNoted n) (n := n) one_ne_zero
  have hlate := State.Frame.next (State.Frame.ev (b := .sup) (c := 0x2001) (d := actSev 1) (e := n + 256 * 1)
    (.refl ((s.lowNoted n).latchFault n 1) [] [Reg.SUP_STATUS_FAULT_EV])) (frame_raise _ Reg.SUP_STATUS_FAULT_EV
      Reg.SUP_CTRL_INT_EN 60)
  have hall := (hframe.next (frame_latchFault _ n 1) (by simp) (by simp [latchFields])).trans
    (hlate.mono (by simp) (by simp [latchFields]))
  rw [← he] at hlate hall
  refine ⟨?_, ?_, ?_, ?_, ?_⟩
  · rw [State.chan, hlate.sameRails, ← State.chan, hlchan, hchan]
  · rw [hlate.sameRails, hlwait, hwait]
  · rw [he]
    exact State.flag_raise _ _ _ _
  · refine (hall.flag_eq ?_ ?_).trans (State.flag_put_one _ _ one_ne_zero)
    · simp only [Fld.OffRecorder, Reg.SUP_CHn_VAL_UV_LATCH, Fld.key_fld]
      omega
    · simp only [latchFields, Reg.SUP_CHn_VAL_UV_LATCH, Reg.SUP_FF_MASK_OUT_MASK, Reg.SYS_STATUS_SR_VALID, Reg.SUP_FAULT_LATCHED,
        Reg.SUP_STATUS_FAULT_EV, List.map_cons, List.map_nil, List.mem_cons, List.not_mem_nil, or_false, Fld.key_fld]
      omega
  · exact (hall.get_eq (by decide) (by decide)).trans (State.get_put_other 1 (by
      simp only [Reg.SUP_SEQ_STATUS_STATE, Reg.SUP_CHn_VAL_UV_LATCH, Fld.key_fld]; omega))

/-- A listed channel with a latch asserts ALERT_N. -/
theorem State.alertPin_of_lat (h : 1 ≤ (s.chan n).lat) : s.alertPin = true := by
  have hmem (m : NMap Chan) (hl : 1 ≤ (mgetD m n Chan.init).lat) : m.any (fun e => decide (1 ≤ e.2.lat)) = true := by
    induction m with
    | nil => exact absurd hl (Nat.not_succ_le_zero 0)
    | cons e m ih =>
      by_cases he : n = e.1
      · simp_all [mgetD, mget]
      · have : mgetD (e :: m) n Chan.init = mgetD m n Chan.init := by simp [mgetD, mget, he]
        rw [List.any_cons, ih (this ▸ hl), Bool.or_true]
  simp [State.alertPin, State.latchedAct, hmem _ h]

/-- What a low sample on a supervised rail with no vault and no confirmed fault leaves, while the sequencer waits for nothing. -/
theorem State.railSample_low (hsup : s.domOn .sup = true) (hn : n < 64) (h0 : 0 < n) (hu : s.railUsed n = true)
    (hw : s.rails.wait = .none) (huv : s.uvOn n = true) (hvs : s.flag Reg.SUP_STATUS_VAULT_SUPPRESS = false)
    (hlo : code < s.get (Reg.SUP_CHn_THR_UV n)) (hhi : code ≤ s.get (Reg.SUP_CHn_THR_OV n)) (hc : (s.chan n).uvConf = false)
    (hf : (s.chan n).uvCnt + 1 ≤ s.get Reg.SUP_SCAN_CFG_FILT) :
    s.railSample n code = (if (s.chan n).uvCnt + 1 = s.get Reg.SUP_SCAN_CFG_FILT then
        ((s.railShown n code).setChan n ((s.railShown n code).lowChan n code ((s.chan n).uvCnt + 1) true)).railFault n 1 code
      else (s.railShown n code).setChan n ((s.railShown n code).lowChan n code ((s.chan n).uvCnt + 1) false)).seqProgress := by
  have hfilt : (s.railShown n code).get Reg.SUP_SCAN_CFG_FILT = s.get Reg.SUP_SCAN_CFG_FILT := State.get_railShown
    (by simp only [Reg.SUP_SCAN_CFG_FILT, Reg.SUP_CHn_VAL_CODE, Fld.key_fld, Fld.key_fldR]; omega)
    (by simp only [Reg.SUP_SCAN_CFG_FILT, Reg.SUP_CHn_VAL_READY, Fld.key_fld, Fld.key_fldR]; omega)
  have huvT : (s.railShown n code).get (Reg.SUP_CHn_THR_UV n) = s.get (Reg.SUP_CHn_THR_UV n) := State.get_railShown
    (by simp only [Reg.SUP_CHn_THR_UV, Reg.SUP_CHn_VAL_CODE, Fld.key_fld, Fld.key_fldI]; omega)
    (by simp only [Reg.SUP_CHn_THR_UV, Reg.SUP_CHn_VAL_READY, Fld.key_fld, Fld.key_fldI]; omega)
  have hovT : (s.railShown n code).get (Reg.SUP_CHn_THR_OV n) = s.get (Reg.SUP_CHn_THR_OV n) := State.get_railShown
    (by simp only [Reg.SUP_CHn_THR_OV, Reg.SUP_CHn_VAL_CODE, Fld.key_fld, Fld.key_fldI]; omega)
    (by simp only [Reg.SUP_CHn_THR_OV, Reg.SUP_CHn_VAL_READY, Fld.key_fld, Fld.key_fldI]; omega)
  have hchan : (s.railShown n code).chan n = s.chan n := rfl
  rw [State.railSample_used hsup hn h0 hu, State.compareRail_low ((State.uvOn_railShown hw).trans huv)
    ((State.vaultSuppress_railShown s n code).trans hvs) (huvT ▸ hlo)
    (hovT ▸ hhi) hc (hfilt ▸ hf), hfilt, hchan]

end

end Sys2Proof.Machine
end

section
/-! PROOF. -/

open Sys2Proof Sys2Proof.Machine

/-- Settles O36: a sample shows its code; on a supervised rail it counts, and the count that fills the filter latches the fault. -/
theorem railScan : Obligations.RailScan := by
  refine ⟨fun n code s hsup hn h0 hu => ?_, fun n code s hsup hn h0 hu hw huv hvs hlo hhi hc hf => ?_,
    fun n code s hsup hn h0 hu hw huv hvs hlo hhi hc hf hact => ?_⟩
  · exact runs_of_effect (congrArg (done s) (State.railSample_unused hsup hn h0 hu))
      ⟨State.get_put_same s _ _, .put (.refl _ _ _) (by simp)⟩ fun u q ⟨h1, hfr⟩ => ⟨h1, hfr.finish q⟩
  · have he := State.railSample_low hsup hn h0 hu hw huv hvs hlo hhi hc hf.le
    rw [if_neg hf.ne] at he
    generalize hch : (s.railShown n code).lowChan n code ((s.chan n).uvCnt + 1) false = ch at he
    have hcu : ch.uvCnt = (s.chan n).uvCnt + 1 ∧ ch.uvConf = false ∧ ch.lat = (s.chan n).lat := hch ▸ ⟨rfl, rfl, rfl⟩
    have hset : ((s.railShown n code).setChan n ch).chan n = ch := (State.chan_setChan _ n n ch).trans (if_pos rfl)
    rw [State.seqProgress_idle (s := (s.railShown n code).setChan n ch) hw] at he
    refine runs_of_effect (congrArg (done s) he) ⟨?_, ?_, ?_, .next ((frame_railShown s n code).mono (by simp) (by simp))
      (frame_setChan _ n ch) (by simp) (by simp)⟩
      fun u q ⟨h1, h2, h3, hfr⟩ => ⟨h1, h2, h3, hfr.finish q⟩
    · rw [hset, hcu.1]
    · rw [hset, hcu.2.1]
    · rw [hset, hcu.2.2]
  · have he := State.railSample_low hsup hn h0 hu hw huv hvs hlo hhi hc hf.le
    rw [if_pos hf] at he
    generalize hch : (s.railShown n code).lowChan n code ((s.chan n).uvCnt + 1) true = ch at he
    have hcu : ch.uvConf = true ∧ ch.lat = (s.chan n).lat := hch ▸ ⟨rfl, rfl⟩
    have hset : ((s.railShown n code).setChan n ch).chan n = ch := (State.chan_setChan _ n n ch).trans (if_pos rfl)
    obtain ⟨hchan, hwait, hev, hlatch, hseq⟩ := State.railFault_latched (s := (s.railShown n code).setChan n ch) (code := code) hn
      ((State.vaultSuppress_railShown s n code).trans hvs) ((State.uvAct_railShown s n code).trans hact)
    rw [State.seqProgress_idle (hwait.trans hw)] at he
    rw [hset, hcu.2] at hchan
    refine runs_of_done (congrArg (done s) he) ⟨?_, ?_, hev, hlatch, ?_, hseq.trans (State.seqState_railShown s n code)⟩
    · exact (congrArg Chan.uvConf hchan).trans hcu.1
    · exact congrArg Chan.lat hchan
    · exact State.alertPin_of_lat (n := n) ((Nat.le_max_left 1 _).trans_eq (congrArg Chan.lat hchan).symm)
end

section
/-! SUPPORT. The input's sense through a vault's start, and HOLD_EN, which a trip keeps asserted while it ends a learn cycle
(R103, R104, R340). -/

namespace Sys2Proof.Machine

section
variable {s : State}

theorem State.input_rollback (s : State) : s.rollback.vlt.input = s.vlt.input := by
  unfold State.rollback
  split <;> rfl

theorem State.input_leaveOn (s : State) (src : Nat) : (s.leaveOn src).vlt.input = s.vlt.input := by
  have hwake : (s.wake src).sleepExitNow.vlt.input = s.vlt.input := by
    rw [(frame_sleepExitNow _).sameVlt]
    unfold State.wake
    extract_lets st s1 s2 sb sr s3
    split
    · rw [(frame_raise _ _ _ _).sameVlt]
      unfold s3
      split <;> rfl
    · split
      · rw [(frame_dropRequest _).sameVlt, s.input_rollback]
      · split <;> rfl
  unfold State.leaveOn
  extract_lets st s1
  split
  · rfl
  · split <;> exact hwake

theorem State.input_setSeq (s : State) (st : Nat) : (s.setSeq st).vlt.input = s.vlt.input := by
  unfold State.setSeq
  extract_lets s1 src s0
  have h1 : s1.vlt.input = s.vlt.input := by
    unfold s1
    split
    · exact s.input_leaveOn _
    · split
      · exact s.input_leaveOn _
      · rfl
  have h0 : s0.vlt.input = s.vlt.input := by
    unfold s0
    split <;> exact h1
  split
  · rfl
  · rw [(frame_ffErase _).sameVlt]
    exact (congrArg VaultSide.input ((State.Frame.next (.put (.refl s0 [] [Reg.SUP_SEQ_STATUS_STATE, Reg.SUP_STATUS_SEQ_EV]))
      (frame_raise _ _ _ _)).ev.sameVlt)).trans h0

/-- The state at a vault's start in which its event is recorded. -/
def State.vaultNoted (s : State) (cause : VaultCause) : State :=
  let p := s.stagingLost
  let s0 := (({ p with evr := { p.evr with tripSeq := some (p.get Reg.EVR_SEQ_NEXT) } } : State).leaveOn cause.wake).setSeq
    seqVault
  (s0.put Reg.VLT_STATUS_PHASE 1).eventWith 7 0x0001 4 cause.key (s0.snapOf vaultStartSnap)

/-- What a vault's start shows and drops before it stops what runs. -/
def State.vaultShown (s1 : State) (cause : VaultCause) (tripped cut : Bool) : State :=
  let s2 := (s1.put Reg.VLT_STATUS_INPUT_RET 0).put Reg.VLT_STATUS_DEGRADED 0
  let s3 := ((if tripped then s2.put Reg.VLT_STATUS_HOLD 1 else s2).put Reg.SUP_STATUS_VAULT_SUPPRESS 1).put
    Reg.WDT_STATUS_MASKED 1
  { s3 with
    vlt := { s3.vlt with cur := some (Vault.start cause tripped cut), counting := false },
    host := { s3.host with waiting := [] },
    deferred := [] }

theorem State.vaultEntered_eq (s : State) (cause : VaultCause) (tripped : Bool) :
    s.vaultEntered cause tripped = (s.vaultNoted cause).vaultShown cause tripped s.rehearsing := by
  simp only [State.vaultEntered, State.vaultNoted, State.vaultShown]

theorem State.vaultNoted_facts (s : State) (cause : VaultCause) :
    (s.vaultNoted cause).vlt.input = s.vlt.input ∧ (s.vaultNoted cause).get Reg.VLT_STATUS_PHASE = 1 := by
  unfold State.vaultNoted
  extract_lets p src s0
  have h0 : s0.vlt.input = s.vlt.input := by
    unfold s0
    rw [State.input_setSeq, State.input_leaveOn]
    exact congrArg VaultSide.input (frame_stagingLost s).sameVlt
  have hev := frame_of_quiet (quiet_eventWith (s0.put Reg.VLT_STATUS_PHASE 1) 7 0x0001 4 cause.key (s0.snapOf vaultStartSnap)) [] []
  exact ⟨(congrArg VaultSide.input hev.sameVlt).trans h0,
    (hev.get_eq (by decide) (by decide)).trans (State.get_put_lt _ _ (by decide))⟩

theorem State.vaultShown_facts (s : State) (cause : VaultCause) (tripped cut : Bool) :
    (s.vaultShown cause tripped cut).vlt.input = s.vlt.input ∧
      (s.vaultShown cause tripped cut).vlt.cur.any (fun v => v.tripped) = tripped ∧
      (s.vaultShown cause tripped cut).flag Reg.SUP_STATUS_VAULT_SUPPRESS = true ∧
      (s.vaultShown cause tripped cut).flag Reg.WDT_STATUS_MASKED = true ∧
      (s.vaultShown cause tripped cut).get Reg.VLT_STATUS_PHASE = s.get Reg.VLT_STATUS_PHASE ∧
      (tripped = true → (s.vaultShown cause tripped cut).flag Reg.VLT_STATUS_HOLD = true) := by
  unfold State.vaultShown
  extract_lets s2 s3
  refine ⟨?_, rfl, ?_, ?_, ?_, ?_⟩
  · cases tripped <;> rfl
  · show s3.flag Reg.SUP_STATUS_VAULT_SUPPRESS = true
    exact (State.flag_put_other _ (by decide)).trans (State.flag_put_one _ _)
  · show s3.flag Reg.WDT_STATUS_MASKED = true
    exact State.flag_put_one _ _
  · show s3.get Reg.VLT_STATUS_PHASE = _
    cases tripped <;> simp (disch := decide) [s3, s2]
  · rintro rfl
    show s3.flag Reg.VLT_STATUS_HOLD = true
    exact (State.flag_put_other _ (by decide)).trans ((State.flag_put_other _ (by decide)).trans (State.flag_put_one _ _))

theorem State.input_startVault (s : State) (cause : VaultCause) (tripped : Bool) :
    (s.startVault cause tripped).vlt.input = s.vlt.input := by
  obtain ⟨n, hf⟩ := frame_vaultStops (s.vaultEntered cause tripped)
  have hcarry (t : State) : t.carryFlights.vlt.input = t.vlt.input := rfl
  rw [State.startVault_eq, (frame_echoStateSync _).sameVlt, hcarry, hf.sameVlt, (frame_closeIngest _).sameVlt,
    State.vaultEntered_eq, (State.vaultShown_facts _ _ _ _).1, (State.vaultNoted_facts _ _).1]

theorem State.pmr_setPmr (s : State) (st : PmrState) : (s.setPmr st).pmr = { s.pmr with st := st } := by
  unfold State.setPmr
  split
  next h => rw [← h]
  next =>
    have hf (t : State) (n : Nat) : ((t.evHost 0x0001 2 n).echoStateSync).Frame t [.ech] [] :=
      .next (.quiet (.refl _ _ _) (quiet_evHost _ _ _ _)) (frame_echoStateSync _)
    exact (hf _ _).samePmr

/-- Closing ingest drops the barriers. -/
theorem State.pmr_closeIngest (s : State) : s.closeIngest.pmr.ingestOpen = false ∧ s.closeIngest.pmr.barriers = [] := by
  unfold State.closeIngest
  extract_lets s0 left src s1
  have h (t : State) : ((t.syncThr .a).syncThr .b).pmr = t.pmr := (frame_syncThr _ _).samePmr.trans (frame_syncThr _ _).samePmr
  rw [State.pmr_setPmr, h]
  exact ⟨rfl, rfl⟩

/-- A learn cycle that ends in a vault with a trip leaves HOLD_EN as it is. -/
theorem State.hold_learnAbort (h : s.vlt.cur.any (fun v => v.tripped) = true) (outcome : Nat) :
    (s.learnAbort outcome).flag Reg.VLT_STATUS_HOLD = s.flag Reg.VLT_STATUS_HOLD := by
  have hoff : s.learnHoldOff = s := if_pos (by rw [h, Bool.true_or])
  have hback (t : State) (l : Learn) : (((t.modsBack).learnEnd l outcome 0 0).learnRetry l.port).lanShow.flag Reg.VLT_STATUS_HOLD =
      t.flag Reg.VLT_STATUS_HOLD :=
    ((frame_lanShow _).flag_eq (by decide) (by decide)).trans <| ((frame_learnRetry _ _).flag_eq (by decide) (by decide)).trans <|
      ((frame_learnEnd _ _ _ _ _).flag_eq (by decide) (by decide)).trans ((frame_modsBack t).flag_eq (by decide) (by decide))
  unfold State.learnAbort
  split
  · rfl
  · split
    · exact ((frame_lanShow _).flag_eq (by decide) (by decide)).trans ((frame_learnOver _ _).flag_eq (by decide) (by decide))
    · dsimp only
      rw [hoff, ite_self]
      exact hback _ _

theorem State.flag_restCut (s : State) {f : Fld} (ho : f.OffRecorder) (h : f.key % 4096 ≠ 3 ∨ f.key < 0x140000 * 4096)
    (hn : f.key ∉ lanShowFields.map Fld.key) : s.restCut.flag f = s.flag f := congrArg (· == 1) (s.get_restCut ho h hn)

theorem State.hold_lanAbort (h : s.vlt.cur.any (fun v => v.tripped) = true) (outcome : Nat) :
    (s.lanAbort outcome).flag Reg.VLT_STATUS_HOLD = s.flag Reg.VLT_STATUS_HOLD :=
  (State.flag_restCut _ (by decide) (by decide) (by decide)).trans (State.hold_learnAbort h outcome)

theorem State.hold_vaultStops (h : s.vlt.cur.any (fun v => v.tripped) = true) :
    s.vaultStops.flag Reg.VLT_STATUS_HOLD = s.flag Reg.VLT_STATUS_HOLD := by
  have hlan (t : State) (ht : t.vlt.cur.any (fun v => v.tripped) = true) :
      t.lanTrip.flag Reg.VLT_STATUS_HOLD = t.flag Reg.VLT_STATUS_HOLD := by
    unfold State.lanTrip
    extract_lets s1 s2 src
    have h2 : s2.flag Reg.VLT_STATUS_HOLD = s1.flag Reg.VLT_STATUS_HOLD :=
      congrArg (· == 1) (State.get_foldl (fun t n => (frame_setMod t n _).get_eq (by decide) (by decide)) _ _)
    have h1 : s1.flag Reg.VLT_STATUS_HOLD = t.flag Reg.VLT_STATUS_HOLD :=
      (State.hold_lanAbort (s := t.put Reg.LAN_VAULT_GUAR_E_MJ (t.get Reg.LAN_ENERGY_E_MJ)) ht 3).trans
        (State.flag_put_other _ (by decide))
    clear_value s2 s1
    exact h2.trans h1
  have hin : s.closeIngest.leaveTrip.vlt = s.vlt := (frame_leaveTrip _).sameVlt.trans (frame_closeIngest _).sameVlt
  unfold State.vaultStops
  rw [(frame_stopFetches _).flag_eq (by decide) (by decide), (frame_dramTrip _).flag_eq (by decide) (by decide),
    (frame_flashTrip _).flag_eq (by decide) (by decide), (frame_cutRehearsal _).flag_eq (by decide) (by decide),
    hlan _ (hin ▸ h), (frame_leaveTrip _).flag_eq (by decide) (by decide), (frame_closeIngest _).flag_eq (by decide) (by decide)]

theorem State.hold_startVault (s : State) (cause : VaultCause) : (s.startVault cause true).flag Reg.VLT_STATUS_HOLD = true := by
  obtain ⟨-, hcur, -, -, -, hhold⟩ := State.vaultShown_facts (s.vaultNoted cause) cause true s.rehearsing
  rw [← State.vaultEntered_eq] at hcur hhold
  rw [State.startVault_eq, (frame_echoStateSync _).flag_eq (by decide) (by decide),
    (frame_carryFlights _).flag_eq (by decide) (by decide), State.hold_vaultStops hcur, hhold rfl]

theorem State.trip_flashTrip (s : State) : s.flashTrip.flag Reg.FLC_STATUS_TRIP = true := by
  have hgone (l : List Desc) (t : State) : (l.foldl (fun t d => (t.completePlain d fsCancelled).cutPage d) t).flag
      Reg.FLC_STATUS_TRIP = t.flag Reg.FLC_STATUS_TRIP := congrArg (· == 1) (State.get_foldl (fun t d =>
    ((frame_cutPage _ d).get_eq (by decide) (by decide)).trans ((frame_completePlain t d _).get_eq (by decide) (by decide))) l t)
  unfold State.flashTrip
  rw [(frame_gcTrip _).flag_eq (by decide) (by decide), hgone]
  exact State.flag_put_one _ Reg.FLC_STATUS_TRIP

theorem State.trip_startVault (s : State) (cause : VaultCause) (tripped : Bool) :
    (s.startVault cause tripped).flag Reg.FLC_STATUS_TRIP = true := by
  rw [State.startVault_eq, (frame_echoStateSync _).flag_eq (by decide) (by decide),
    (frame_carryFlights _).flag_eq (by decide) (by decide), State.vaultStops, (frame_stopFetches _).flag_eq (by decide) (by decide),
    (frame_dramTrip _).flag_eq (by decide) (by decide), State.trip_flashTrip]

theorem State.shown_startVault (s : State) (cause : VaultCause) (tripped : Bool) :
    (s.startVault cause tripped).flag Reg.SUP_STATUS_VAULT_SUPPRESS = true ∧
      (s.startVault cause tripped).flag Reg.WDT_STATUS_MASKED = true ∧
      (s.startVault cause tripped).get Reg.VLT_STATUS_PHASE = 1 := by
  have hget {f : Fld} (ho : f.OffRecorder) (h : f.key % 4096 ≠ 3 ∨ f.key < 0x140000 * 4096) (hn : f.key ∉ stopFields.map Fld.key) :=
    s.get_startVault cause tripped ho h hn
  obtain ⟨-, -, hsup, hmask, hphase, -⟩ := State.vaultShown_facts (s.vaultNoted cause) cause tripped s.rehearsing
  rw [← State.vaultEntered_eq] at hsup hmask hphase
  exact ⟨(congrArg (· == 1) (hget (by decide) (by decide) (by decide))).trans hsup,
    (congrArg (· == 1) (hget (by decide) (by decide) (by decide))).trans hmask,
    ((hget (by decide) (by decide) (by decide)).trans hphase).trans (State.vaultNoted_facts _ _).2⟩

end
end Sys2Proof.Machine
end
section
/-! SUPPORT. The power-fail trip where it starts no vault, and the end of the input's count (R103, R128). -/

namespace Sys2Proof.Machine

section
variable {s : State}

/-- The trip as it is noted: the input is gone, and no count of its return runs. -/
def State.inputLost (s : State) : State :=
  { s with vlt := { s.vlt with input := false, counting := false }, rails := { s.rails with ffBarred := true } }

theorem frame_inputLost (s : State) : s.inputLost.Frame s [.vlt, .rails] [] := by
  have h : ({ s with vlt := { s.vlt with input := false, counting := false } } : State).Frame s [.vlt, .rails] [] :=
    .withVlt (.refl _ _ _)
  exact .withRails h

theorem State.powerTrip_vault (haon : s.domOn .aon = true) (hin : s.vlt.input = true) {v : Vault} (hv : s.vlt.cur = some v) :
    s.powerTrip = if v.sealed then s.inputLost.tripNoted else s.inputLost.tripInVault := by
  simp [State.powerTrip, haon, hin, hv, State.inputLost]

theorem State.powerTrip_up (haon : s.domOn .aon = true) (hin : s.vlt.input = true) (hv : s.vlt.cur = none)
    (hseq : s.seqState = seqUp) : s.powerTrip = (s.inputLost.ev .sup 0x1003 5 0).fastOff .inputLoss := by
  simp [State.powerTrip, haon, hin, hv, hseq, State.inputLost]

theorem State.powerTrip_on (haon : s.domOn .aon = true) (hin : s.vlt.input = true) (hv : s.vlt.cur = none)
    (hseq : s.seqState = seqOn ∨ s.seqState = seqGrace) (hclk : s.flag Reg.CLK_STATUS_HOLD = false) (hrun : s.InRun)
    (ho : s.rails.openedThisStart = true) :
    s.powerTrip = if s.flag Reg.VLT_STATUS_ARMED then s.inputLost.startVault .trip true
      else (s.inputLost.rollback.dropRequest).tripNoted := by
  have hdeep : ¬s.get Reg.PWR_STATUS_STATE = pwrDeep := by
    rw [hrun]
    decide
  have hup : s.seqState ≠ seqUp ∧ s.seqState ≠ seqDown ∧ s.seqState ≠ seqRetryWait := by
    rcases hseq with h | h <;> rw [h] <;> decide
  simp only [State.powerTrip, haon, hin, hv, hclk, ho, if_neg hup.1, if_neg hup.2.1, if_neg hup.2.2, if_pos hseq, if_neg hdeep,
    Bool.not_true, Bool.or_false, Bool.false_eq_true, if_false, State.inputLost]

/-- With no power-on latched, OFF is entered with everything off. -/
theorem State.enterOff_facts (h : s.flag Reg.SUP_STATUS_ON_PENDING = false) (auto : Bool) :
    (s.enterOff auto).seqState = seqOff ∧ (s.enterOff auto).rails.autoOn = auto ∧
      (s.enterOff auto).flag Reg.VLT_STATUS_HOLD = false ∧ (s.enterOff auto).cache = Cache.init := by
  rw [State.enterOff_stays h]
  have hhold := (s.setSeq seqOff).hold_allOff
  have hcache := (s.setSeq seqOff).cache_allOff
  have hseq := ((frame_allOff (s.setSeq seqOff)).get_eq (f := Reg.SUP_SEQ_STATUS_STATE) (by decide) (by decide)).trans
    (s.seqState_setSeq (by decide))
  generalize (s.setSeq seqOff).allOff = t at *
  exact ⟨hseq, rfl, hhold, hcache⟩

theorem State.fastOff_inputLoss (h : s.flag Reg.SUP_STATUS_ON_PENDING = false) :
    (s.fastOff .inputLoss).seqState = seqOff ∧ (s.fastOff .inputLoss).rails.autoOn = true ∧
      (s.fastOff .inputLoss).flag Reg.VLT_STATUS_HOLD = false ∧ (s.fastOff .inputLoss).cache = Cache.init := by
  unfold State.fastOff
  extract_lets s1 src
  have h1 : s1.flag Reg.SUP_STATUS_ON_PENDING = false :=
    (State.flag_put_other _ (by decide)).trans ((State.flag_put_other _ (by decide)).trans h)
  exact State.enterOff_facts (s := { s1 with rails := { s1.rails with downWhy := .inputLoss, fast := true } }) h1 true

/-- A trip in a vault before its seal is remembered, with HOLD_EN while the vault is armed. -/
theorem State.tripInVault_on {v : Vault} (hv : s.vlt.cur = some v) (hseq : s.seqState = seqVault)
    (harm : s.flag Reg.VLT_STATUS_ARMED = true) :
    s.tripInVault = ({ s with vlt := { s.vlt with cur := some { v with tripped := true } } } : State).put Reg.VLT_STATUS_HOLD 1 := by
  have hu : s.updVault (fun v => { v with tripped := true }) = { s with vlt := { s.vlt with cur := some { v with tripped := true } } } := by
    simp only [State.updVault, hv, Option.map_some]
  have harm' : (s.updVault fun v => { v with tripped := true }).flag Reg.VLT_STATUS_ARMED = true := harm
  have hseq' : (s.updVault fun v => { v with tripped := true }).seqState = seqVault := hseq
  unfold State.tripInVault
  rw [← hu]
  generalize s.updVault (fun v => { v with tripped := true }) = t at harm' hseq'
  simp only [harm', if_true]
  exact if_pos ((State.get_put_other _ (by decide)).trans hseq')

theorem State.rollback_run (h : s.InRun) : s.rollback = s := if_neg (by rw [h]; decide)

end

end Sys2Proof.Machine
end

section
/-! PROOF. -/

open Sys2Proof Sys2Proof.Machine

/-- Settles O48: an armed trip starts a vault, which asserts HOLD_EN and keeps it through what it stops; elsewhere the trip is noted,
remembered by the vault that runs or turns the device off. -/
theorem powerFailTrips : Obligations.PowerFailTrips := by
  refine ⟨fun s haon hin hv hseq hclk hrun ho harm => ?_, fun s haon hin hv hseq hclk hrun ho harm => ?_,
    fun s haon hin hv hseq hpend => ?_, fun v s haon hin hv hseal hseq harm => ?_, fun v s haon hin hv hseal => ?_,
    fun s haon hin => ?_, fun v s hin hcnt hv => ?_, fun s hin hcnt hv hseq hauto hcfg => ?_⟩
  · have he := State.powerTrip_on haon hin hv hseq hclk hrun ho
    rw [if_pos harm] at he
    obtain ⟨hsup, hmask, hphase⟩ := State.shown_startVault s.inputLost .trip true
    obtain ⟨hopen, hbars⟩ := State.pmr_closeIngest (s.inputLost.vaultEntered .trip true)
    have hclosed := State.closeIngest_closed (s.inputLost.vaultEntered .trip true)
    rw [← State.pmr_startVault] at hopen hbars hclosed
    have hseqv := State.seqState_startVault s.inputLost .trip true
    have hcur := State.cur_startVault s.inputLost .trip true
    have hinput := State.input_startVault s.inputLost .trip true
    have hhold := State.hold_startVault s.inputLost .trip
    have htrip := State.trip_startVault s.inputLost .trip true
    have hcells := State.startVault_cells s.inputLost .trip true
    generalize s.inputLost.startVault .trip true = u at *
    exact runs_of_done (congrArg (done s) he) ⟨hseqv, hcur, hinput, hhold, hclosed, hopen, hbars, hsup, hmask, htrip, hphase, hcells⟩
  · have he := State.powerTrip_on haon hin hv (.inl hseq) hclk hrun ho
    rw [if_neg (by rw [harm]; decide), State.rollback_run (s := s.inputLost) hrun] at he
    have hq : s.inputLost.dropRequest.tripNoted.Frame s.inputLost.dropRequest [] [] := .ev (.refl _ _ _)
    refine runs_of_effect (congrArg (done s) he) ⟨hq.sameVlt, hq.samePwr, hq.sameRails, ?_⟩
      fun u q ⟨h1, h2, h3, hf⟩ => ⟨h1, h2, h3, hf.finish q⟩
    exact .next (.next (.next (.refl _ _ _) (frame_inputLost s)) (frame_dropRequest _)) hq
  · have hpend' : (s.inputLost.ev .sup 0x1003 5 0).flag Reg.SUP_STATUS_ON_PENDING = false := (State.flag_ev_off (by decide)).trans hpend
    have he := State.powerTrip_up haon hin hv hseq
    have hoff := State.fastOff_inputLoss hpend'
    generalize (s.inputLost.ev .sup 0x1003 5 0).fastOff .inputLoss = t at he hoff
    exact runs_of_done (congrArg (done s) he) hoff
  · have he := State.powerTrip_vault haon hin hv
    rw [if_neg (by rw [hseal]; decide)] at he
    have hq := State.tripInVault_on (s := s.inputLost) (v := v) hv hseq harm
    have hhold : s.inputLost.tripInVault.flag Reg.VLT_STATUS_HOLD = true := hq ▸ State.flag_put_one _ _
    have hvlt : s.inputLost.tripInVault.vlt = { s.inputLost.vlt with cur := some { v with tripped := true } } := by
      rw [hq, State.put_vlt]
    have hrails : s.inputLost.tripInVault.rails = s.inputLost.rails := by rw [hq, State.put_rails]
    have hframe : s.inputLost.tripInVault.Frame s.inputLost [.vlt, .rails] [Reg.VLT_STATUS_HOLD] := by
      have h : ({ s.inputLost with vlt := { s.inputLost.vlt with cur := some { v with tripped := true } } } : State).Frame
          s.inputLost [.vlt, .rails] [Reg.VLT_STATUS_HOLD] := .withVlt (.refl _ _ _)
      rw [hq]
      exact h.put
    generalize s.inputLost.tripInVault = t at he hhold hvlt hrails hframe
    exact runs_of_done (congrArg (done s) he) ⟨hvlt, hhold, hrails, ((frame_inputLost s).mono (by simp) (by simp)).trans hframe |>.finish _⟩
  · have he := State.powerTrip_vault haon hin hv
    rw [if_pos hseal] at he
    have hq : s.inputLost.tripNoted.Frame s.inputLost [] [] := .ev (.refl _ _ _)
    exact runs_of_effect (congrArg (done s) he) ⟨hq.sameVlt, hq.sameRails, .next (frame_inputLost s) hq⟩
      fun u q ⟨h1, h2, hf⟩ => ⟨h1, h2, hf.finish q⟩
  · exact runs_of_effect (congrArg (done s) (if_pos ⟨haon, by rw [hin]; rfl⟩)) ⟨rfl, .withVlt (.refl _ _ _)⟩
      fun u q ⟨h1, hf⟩ => ⟨h1, hf.finish q⟩
  · have he : s.inputReturned = ({ s with vlt := { s.vlt with counting := false } } : State).put Reg.VLT_STATUS_INPUT_RET 1 := by
      simp [State.inputReturned, hin, hcnt, hv]
    exact runs_of_effect (congrArg (done s) he) ⟨rfl, State.flag_put_one _ _, .put (.withVlt (.refl _ _ _))⟩
      fun u q ⟨h1, h2, hf⟩ => ⟨h1, h2, hf.finish q⟩
  · have he : s.inputReturned = ({ s with vlt := { s.vlt with counting := false } } : State).wakeOff 13 := by
      unfold State.inputReturned
      rw [if_pos (by rw [hin, hcnt]; rfl)]
      exact (if_neg (by rw [hv]; decide)).trans (if_pos ⟨hseq, hauto, hcfg⟩)
    exact runs_of_effect (congrArg (done s) he) (State.wakeOff_up (s := { s with vlt := { s.vlt with counting := false } }) hseq 13
      (by decide)) fun u q h => h
end

section
/-! SUPPORT. The first-fault log's sectors, the NOR's rails and what MRST_N finds (R369, R370, R376). -/

namespace Sys2Proof.Machine

section
variable {s : State}

/-- The current sector takes the oldest record while others wait behind it. -/
theorem State.ffWrite_behind {r q : FFRecord} {rest : List FFRecord} (hq : s.rails.ffQueue = r :: q :: rest)
    (hl : (lget s.rails.ffNor s.rails.ffCur []).length < 64) :
    s.ffWrite = ({ s with rails := { s.rails with
      ffQueue := q :: rest
      ffNor := lset s.rails.ffNor s.rails.ffCur (lget s.rails.ffNor s.rails.ffCur [] ++ [r]) } } : State).ffErase := by
  simp [State.ffWrite, hq, Rails.ffSector, hl]

theorem State.ffWrite_full (h : 64 ≤ (lget s.rails.ffNor s.rails.ffCur []).length)
    (he : (lget s.rails.ffNor (1 - s.rails.ffCur) []).isEmpty = false) : s.ffWrite = s := by
  have hk : s.rails.ffSector = none := by simp [Rails.ffSector, h.not_gt, he]
  unfold State.ffWrite
  rw [hk]
  cases s.rails.ffQueue <;> rfl

/-- A full current sector has the other one erased in ON. -/
theorem State.ffErase_full (hseq : s.seqState = seqOn) (h : 64 ≤ (lget s.rails.ffNor s.rails.ffCur []).length) :
    s.ffErase = { s with rails := { s.rails with ffNor := lset s.rails.ffNor (1 - s.rails.ffCur) [] } } := if_pos ⟨hseq, h⟩

theorem State.ffErase_open (h : (lget s.rails.ffNor s.rails.ffCur []).length < 64) : s.ffErase = s :=
  if_neg fun hc => h.not_ge hc.2

/-- The rails that supply the NOR are disabled. -/
def State.norRailsOff (s : State) : State :=
  (List.range 64).foldl (fun (t : State) n =>
    if t.flag (Reg.SUP_CHn_CFG_NOR_SUPPLY n) then t.put (Reg.SUP_CHn_VAL_EN n) 0 else t) s

theorem State.norRailsOff_eq (s : State) : (List.range 64).foldl (fun (t : State) n =>
    if t.flag (Reg.SUP_CHn_CFG_NOR_SUPPLY n) then t.put (Reg.SUP_CHn_VAL_EN n) 0 else t) s = s.norRailsOff := rfl

theorem frame_norRailsOff (s : State) : s.norRailsOff.Frame s [] railVals :=
  State.Frame.foldlMem (List.range 64) (fun _ _ hn ht => .ite (ht.trans (.put (.refl _ _ _) (railVal_mem (List.mem_range.1 hn)))) ht)
    (.refl _ _ _)

theorem State.valEn_foldl_norOff {n : Nat} (l : List Nat) {t : State} (hs : t.flag (Reg.SUP_CHn_CFG_NOR_SUPPLY n) = true)
    (h : n ∈ l ∨ t.flag (Reg.SUP_CHn_VAL_EN n) = false) :
    (l.foldl (fun (t : State) n => if t.flag (Reg.SUP_CHn_CFG_NOR_SUPPLY n) then t.put (Reg.SUP_CHn_VAL_EN n) 0 else t) t).flag
      (Reg.SUP_CHn_VAL_EN n) = false := by
  induction l generalizing t with
  | nil => exact h.resolve_left List.not_mem_nil
  | cons m l ih =>
    have hcfg : (t.put (Reg.SUP_CHn_VAL_EN m) 0).flag (Reg.SUP_CHn_CFG_NOR_SUPPLY n) = true := (State.flag_put_other 0 (by
      simp only [Reg.SUP_CHn_CFG_NOR_SUPPLY, Reg.SUP_CHn_VAL_EN, Fld.key_fld, Fld.key_fldI]; omega)).trans hs
    by_cases hm : n = m
    · subst hm
      rw [List.foldl_cons, if_pos hs]
      exact ih hcfg (.inr (State.flag_put_zero _ _))
    · have hl : n ∈ l ∨ t.flag (Reg.SUP_CHn_VAL_EN n) = false := h.imp_left fun hc => (List.mem_cons.1 hc).resolve_left hm
      rw [List.foldl_cons]
      split
      · exact ih hcfg (hl.imp_right fun hv => (State.flag_put_other 0 (by
          simp only [Reg.SUP_CHn_VAL_EN, Fld.key_fld]; omega)).trans hv)
      · exact ih hs hl

theorem State.valEn_norRailsOff {n : Nat} (hn : n < 64) (hs : s.flag (Reg.SUP_CHn_CFG_NOR_SUPPLY n) = true) :
    s.norRailsOff.flag (Reg.SUP_CHn_VAL_EN n) = false := State.valEn_foldl_norOff _ hs (.inl (List.mem_range.2 hn))

theorem State.norRelease_held (h : s.rails.norHold = true) : s.norRelease =
    if s.rails.wait = .norHold then ({ s.norRailsOff with rails := { s.norRailsOff.rails with norHold := false } } : State).downFinish
    else { s.norRailsOff with rails := { s.norRailsOff.rails with norHold := false } } := by
  have hw : s.norRailsOff.rails.wait = s.rails.wait := congrArg Rails.wait (frame_norRailsOff s).sameRails
  simp only [State.norRelease, h, if_true, s.norRailsOff_eq]
  by_cases hc : s.rails.wait = .norHold
  · simp only [hw, hc, if_true]
  · simp only [hw, hc, if_false]

theorem State.fab_warmReset (s : State) (path : Nat) : (s.warmReset path).domSt .fab = .off ∧
    (s.warmReset path).dmc.selfRefresh = true := by
  rw [State.warmReset_eq]
  generalize s.warmStops = t
  constructor
  · simp only [State.warmReady, State.domSt, State.put_pwr]
    exact State.domSt_setDom_off _ .fab (.inl rfl)
  · simp only [State.warmReady, State.put_dmc]
    rfl

end

end Sys2Proof.Machine
end

section
/-! PROOF. -/

open Sys2Proof Sys2Proof.Machine

/-- Settles O39: the oldest record goes into the sector with room; the hold's end disables the NOR's rails; MRST_N and WAKE_N by the
sequencer's state. -/
theorem railPins : Obligations.RailPins := by
  refine ⟨fun r q rest s hq hl => ?_, fun r q rest s hq hseq hcur hlen hl => ?_, fun s hl he => ?_,
    fun s hh hw hwhy hpend => ?_, fun s hh hw => ?_, fun v s hseq hv => ?_, fun s hseq => ?_, fun s hseq hdeep => ?_,
    fun s haon hseq hcfg => ?_, fun s haon hseq hcfg => ?_, fun s haon hseq hcfg => ?_⟩
  · have he := State.ffWrite_behind hq (hl.trans (by decide))
    rw [State.ffErase_open] at he
    · exact runs_of_effect (congrArg (done s) he) ⟨rfl, rfl, .withRails (.refl _ _ _)⟩ fun u q ⟨h1, h2, hf⟩ => ⟨h1, h2, hf.finish q⟩
    · dsimp only
      rw [lget_lset]
      split
      · rw [List.length_append, List.length_singleton]
        omega
      · exact hl.trans (by decide)
  · have he := State.ffWrite_behind hq (hl.trans_lt (by decide))
    have hsame : lget (lset s.rails.ffNor s.rails.ffCur (lget s.rails.ffNor s.rails.ffCur [] ++ [r])) s.rails.ffCur [] =
        lget s.rails.ffNor s.rails.ffCur [] ++ [r] := by
      rw [lget_lset, if_pos ⟨rfl, by omega⟩]
    rw [State.ffErase_full] at he
    · refine runs_of_effect (congrArg (done s) he) ⟨rfl, rfl, ?_, ?_, .withRails (.withRails (.refl _ _ _))⟩
        fun u q ⟨h1, h2, h3, h4, hf⟩ => ⟨h1, h2, h3, h4, hf.finish q⟩
      · dsimp only
        rw [lget_lset, if_neg (by omega), hsame]
      · dsimp only
        rw [lget_lset, if_pos ⟨rfl, by rw [lset_length]; omega⟩]
    · exact hseq
    · dsimp only
      rw [hsame, List.length_append, hl]
      exact le_rfl
  · exact runs_of_effect (congrArg (done s) (State.ffWrite_full hl he)) (.refl _ _ _) fun u q hf => hf.finish q
  · have hr : s.norRailsOff.rails = s.rails := (frame_norRailsOff s).sameRails
    have hp : s.norRailsOff.flag Reg.SUP_STATUS_ON_PENDING = false :=
      ((frame_norRailsOff s).flag_eq (by decide) (by decide)).trans hpend
    have he := State.norRelease_held hh
    rw [if_pos hw, hr] at he
    generalize s.norRailsOff = t at he hp
    have hd : ({ t with rails := { s.rails with norHold := false } } : State).downFinish =
        ({ t with rails := { s.rails with norHold := false } } : State).enterOff false := by
      simp [State.downFinish, hwhy]
      rfl
    rw [hd] at he
    exact runs_of_effect (congrArg (done s) he)
      (State.enterOff_facts (s := { t with rails := { s.rails with norHold := false } }) hp false).1 fun u q h => h
  · have he := State.norRelease_held hh
    rw [if_neg hw] at he
    have hrails : s.norRailsOff.rails = s.rails := (frame_norRailsOff s).sameRails
    have hcache : s.norRailsOff.cache = s.cache := (frame_norRailsOff s).sameCache
    have hen := fun n hn hs => State.valEn_norRailsOff (s := s) (n := n) hn hs
    generalize s.norRailsOff = t at he hrails hcache hen
    exact runs_of_effect (congrArg (done s) he) ⟨by rw [hrails], hen, hcache⟩ fun u q h => h
  · have he : s.mrst = (s.updVault (fun v => { v with mrst := true })).ev .sup 0x0002 2 2 := if_pos hseq
    have hq : s.mrst.Frame (s.updVault (fun v => { v with mrst := true })) [] [] := he ▸ .ev (.refl _ _ _)
    have hc : (s.updVault (fun v => { v with mrst := true })).vlt.cur = some { v with mrst := true } := by
      simp only [State.updVault, hv, Option.map_some]
    exact runs_of_effect (t := s.mrst) rfl ⟨(congrArg VaultSide.cur hq.sameVlt).trans hc, .next (frame_updVault _ _) hq⟩
      fun u q ⟨h1, hf⟩ => ⟨h1, hf.finish q⟩
  · have he : s.mrst = { s with rails := { s.rails with mrstWait := true } } :=
      (if_neg (by rw [hseq]; decide)).trans (if_pos (.inl hseq))
    exact runs_of_effect (congrArg (done s) he) ⟨rfl, .withRails (.refl _ _ _)⟩ fun u q ⟨h1, hf⟩ => ⟨h1, hf.finish q⟩
  · have he : s.mrst = s.warmReset 1 :=
      (if_neg (by rw [hseq]; decide)).trans ((if_neg (by rw [hseq]; decide)).trans (if_pos ⟨.inl hseq, hdeep⟩))
    obtain ⟨hst, hstep⟩ := s.starts_warmReset 1
    obtain ⟨hfab, hsr⟩ := s.fab_warmReset 1
    have hctrl := s.ctrl_warmReset 1
    have hpath := s.path_warmReset (path := 1) (by decide)
    generalize s.warmReset 1 = t at *
    exact runs_of_effect (congrArg (done s) he) ⟨hst, hstep, hctrl, hfab, hpath, hsr⟩ fun u q h => h
  · have he : s.wakePin = s.wakeOff 5 := (if_pos hseq).trans (if_pos hcfg)
    obtain ⟨hup, -, hsrc⟩ := State.wakeOff_up hseq 5 (by decide)
    generalize s.wakeOff 5 = t at *
    exact runs_of_effect (congrArg (done s) ((if_pos haon).trans he)) ⟨hup, hsrc⟩ fun u q h => h
  · have he : s.wakePin = s.put Reg.SUP_STATUS_ON_PENDING 1 :=
      (if_neg (by rw [hseq]; decide)).trans ((if_pos hseq).trans (if_pos hcfg))
    exact runs_of_effect (congrArg (done s) ((if_pos haon).trans he)) ⟨State.flag_put_one _ _, .put (.refl _ _ _)⟩
      fun u q ⟨h1, hf⟩ => ⟨h1, hf.finish q⟩
  · have he : s.wakePin = s := (if_pos hseq).trans (if_neg (by rw [hcfg]; decide))
    exact runs_of_effect (congrArg (done s) ((if_pos haon).trans he)) (.refl _ _ _) fun u q hf => hf.finish q
end

section
/-! SUPPORT. Frames of Umbra's update. -/

namespace Sys2Proof.Machine

theorem frame_deficitExit (s : State) : s.deficitExit.Frame s [.umb] [Reg.UMB_STATUS_DEFICIT, Reg.UMB_SEEP_RATE_RATE,
    Reg.UMB_SEEP_RATE_MODE, Reg.UMB_STATUS_SEEP_BORROW] := by
  unfold State.deficitExit
  exact .ite (.next (.ev (.put (.refl _ _ _))) (frame_setSeepRate _)) (.refl _ _ _)

theorem State.Frame.withPmrUmb {s t : State} {ps : List Part} {fs : List Fld} {a : Pmr} {b : Umbra}
    (h : t.Frame s ps fs) (hpmr : autoParam (Part.pmr ∈ ps) Float.Model.Format.he._autoParam)
    (humb : autoParam (Part.umb ∈ ps) Float.Model.Format.he._autoParam) :
    ({ t with pmr := a, umb := b } : State).Frame s ps fs := (h.withPmr (x := a) hpmr).withUmb (x := b) humb

theorem frame_publishHorizon (s : State) (stale : Bool) : (s.publishHorizon stale).Frame s [.umb, .pmr]
    [Reg.UMB_STATUS_COLD_CAP, Reg.UMB_STATUS_STALE, Reg.UMB_ENERGY_E_MJ, Reg.UMB_VPOWER_P_MW, Reg.UMB_VRATE_B_MBS,
    Reg.UMB_STATUS_DEFAULTS, Reg.UMB_STATUS_CLAMP_RESERVE, Reg.UMB_STATUS_CLAMP_CACHE, Reg.UMB_HORIZON_BYTES, Reg.UMB_GEN_GEN]
    := by
  unfold State.publishHorizon
  extract_lets s0 e raw h3 h cl s1 s2 dfl s3 s4 src11 src12
  have hs0 : s0.Frame s [.umb, .pmr] [Reg.UMB_STATUS_COLD_CAP, Reg.UMB_STATUS_STALE, Reg.UMB_ENERGY_E_MJ, Reg.UMB_VPOWER_P_MW,
      Reg.UMB_VRATE_B_MBS, Reg.UMB_STATUS_DEFAULTS, Reg.UMB_STATUS_CLAMP_RESERVE, Reg.UMB_STATUS_CLAMP_CACHE,
      Reg.UMB_HORIZON_BYTES, Reg.UMB_GEN_GEN] := .next (.next (.refl _ _ _) (frame_coldCapCheck _)) (frame_fallback _ _ _)
  have hs1 : s1.Frame s [.umb, .pmr] [Reg.UMB_STATUS_COLD_CAP, Reg.UMB_STATUS_STALE, Reg.UMB_ENERGY_E_MJ, Reg.UMB_VPOWER_P_MW,
      Reg.UMB_VRATE_B_MBS, Reg.UMB_STATUS_DEFAULTS, Reg.UMB_STATUS_CLAMP_RESERVE, Reg.UMB_STATUS_CLAMP_CACHE,
      Reg.UMB_HORIZON_BYTES, Reg.UMB_GEN_GEN] := .next (.ite hs0 (.ev hs0)) (frame_setStale _ _)
  have hs2 : s2.Frame s [.umb, .pmr] [Reg.UMB_STATUS_COLD_CAP, Reg.UMB_STATUS_STALE, Reg.UMB_ENERGY_E_MJ, Reg.UMB_VPOWER_P_MW,
      Reg.UMB_VRATE_B_MBS, Reg.UMB_STATUS_DEFAULTS, Reg.UMB_STATUS_CLAMP_RESERVE, Reg.UMB_STATUS_CLAMP_CACHE,
      Reg.UMB_HORIZON_BYTES, Reg.UMB_GEN_GEN] := .putR (.putR (.put hs1))
  have hs3 : s3.Frame s [.umb, .pmr] [Reg.UMB_STATUS_COLD_CAP, Reg.UMB_STATUS_STALE, Reg.UMB_ENERGY_E_MJ, Reg.UMB_VPOWER_P_MW,
      Reg.UMB_VRATE_B_MBS, Reg.UMB_STATUS_DEFAULTS, Reg.UMB_STATUS_CLAMP_RESERVE, Reg.UMB_STATUS_CLAMP_CACHE,
      Reg.UMB_HORIZON_BYTES, Reg.UMB_GEN_GEN] := .putB (.putB (.next (.putB hs2) (frame_fallback _ _ _)))
  have hs4 : s4.Frame s [.umb, .pmr] [Reg.UMB_STATUS_COLD_CAP, Reg.UMB_STATUS_STALE, Reg.UMB_ENERGY_E_MJ, Reg.UMB_VPOWER_P_MW,
      Reg.UMB_VRATE_B_MBS, Reg.UMB_STATUS_DEFAULTS, Reg.UMB_STATUS_CLAMP_RESERVE, Reg.UMB_STATUS_CLAMP_CACHE,
      Reg.UMB_HORIZON_BYTES, Reg.UMB_GEN_GEN] := .incWrap (.put hs3)
  exact .withPmrUmb hs4

theorem State.Frame.withUmbLan {s t : State} {ps : List Part} {fs : List Fld} {a : Umbra} {b : Lantern} (h : t.Frame s ps fs)
    (humb : autoParam (Part.umb ∈ ps) Float.Model.Format.he._autoParam)
    (hlan : autoParam (Part.lan ∈ ps) Float.Model.Format.he._autoParam) :
    ({ t with umb := a, lan := b } : State).Frame s ps fs := (h.withUmb (x := a) humb).withLan (x := b) hlan

theorem frame_rehClose (s : State) (complete : Bool) : (s.rehClose complete).Frame s [.umb, .lan, .broker]
    [Reg.VLT_STATUS_HOLD, Reg.PWR_LEAVE_QUEUE_VAULT, Reg.LAN_REH_ENERGY_E_MJ, Reg.UMB_REH_RESULT_RATE,
    Reg.UMB_REH_RESULT_POWER, Reg.UMB_REH_INFO_OUTCOME, Reg.UMB_REH_INFO_TEMP, Reg.UMB_STATUS_REH_DONE, Reg.UMB_REH_INFO_AGE_H]
    := by
  unfold State.rehClose
  extract_lets win joules mw src3 src4
  split
  · exact .refl _ _ _
  · extract_lets r j s1 s2 s3 s4 s5
    have hs1 : s1.Frame s [.umb, .lan, .broker] [Reg.VLT_STATUS_HOLD, Reg.PWR_LEAVE_QUEUE_VAULT, Reg.LAN_REH_ENERGY_E_MJ,
        Reg.UMB_REH_RESULT_RATE, Reg.UMB_REH_RESULT_POWER, Reg.UMB_REH_INFO_OUTCOME, Reg.UMB_REH_INFO_TEMP,
        Reg.UMB_STATUS_REH_DONE, Reg.UMB_REH_INFO_AGE_H] := .withUmbLan (.refl _ _ _)
    have hs2 : s2.Frame s [.umb, .lan, .broker] [Reg.VLT_STATUS_HOLD, Reg.PWR_LEAVE_QUEUE_VAULT, Reg.LAN_REH_ENERGY_E_MJ,
        Reg.UMB_REH_RESULT_RATE, Reg.UMB_REH_RESULT_POWER, Reg.UMB_REH_INFO_OUTCOME, Reg.UMB_REH_INFO_TEMP,
        Reg.UMB_STATUS_REH_DONE, Reg.UMB_REH_INFO_AGE_H] := .putR (.next (.put hs1) (frame_leaveRun _))
    have hs3 : s3.Frame s [.umb, .lan, .broker] [Reg.VLT_STATUS_HOLD, Reg.PWR_LEAVE_QUEUE_VAULT, Reg.LAN_REH_ENERGY_E_MJ,
        Reg.UMB_REH_RESULT_RATE, Reg.UMB_REH_RESULT_POWER, Reg.UMB_REH_INFO_OUTCOME, Reg.UMB_REH_INFO_TEMP,
        Reg.UMB_STATUS_REH_DONE, Reg.UMB_REH_INFO_AGE_H] := .put (.put (.put hs2))
    have hs4 : s4.Frame s [.umb, .lan, .broker] [Reg.VLT_STATUS_HOLD, Reg.PWR_LEAVE_QUEUE_VAULT, Reg.LAN_REH_ENERGY_E_MJ,
        Reg.UMB_REH_RESULT_RATE, Reg.UMB_REH_RESULT_POWER, Reg.UMB_REH_INFO_OUTCOME, Reg.UMB_REH_INFO_TEMP,
        Reg.UMB_STATUS_REH_DONE, Reg.UMB_REH_INFO_AGE_H] := .next (.putI hs3) (frame_umbRaise _ _)
    have hs5 : s5.Frame s [.umb, .lan, .broker] [Reg.VLT_STATUS_HOLD, Reg.PWR_LEAVE_QUEUE_VAULT, Reg.LAN_REH_ENERGY_E_MJ,
        Reg.UMB_REH_RESULT_RATE, Reg.UMB_REH_RESULT_POWER, Reg.UMB_REH_INFO_OUTCOME, Reg.UMB_REH_INFO_TEMP,
        Reg.UMB_STATUS_REH_DONE, Reg.UMB_REH_INFO_AGE_H] := .ite (.put hs4) (.quiet hs4 (quiet_eventWith _ _ _ _ _ _))
    exact .next hs5 (frame_rehAnswer _ _)

theorem frame_rehSettle (s : State) : s.rehSettle.Frame s [.umb, .lan, .broker] [Reg.VLT_STATUS_HOLD,
    Reg.PWR_LEAVE_QUEUE_VAULT, Reg.LAN_REH_ENERGY_E_MJ, Reg.UMB_REH_RESULT_RATE, Reg.UMB_REH_RESULT_POWER,
    Reg.UMB_REH_INFO_OUTCOME, Reg.UMB_REH_INFO_TEMP, Reg.UMB_STATUS_REH_DONE, Reg.UMB_REH_INFO_AGE_H] := by
  unfold State.rehSettle
  split
  · exact .refl _ _ _
  · split
    · exact .ite (.refl _ _ _) (.next (.refl _ _ _) (frame_rehClose _ _))
    · exact .refl _ _ _

end Sys2Proof.Machine
end

section
/-! SUPPORT. The conditions of the PMR through what may add to them (R58, R71). -/

namespace Sys2Proof.Machine

section
variable {s t u : State}

theorem State.conds_syncHsts (s : State) : s.syncHsts.pmr.conds = s.pmr.conds ∧ s.syncHsts.pmr.insuff = s.pmr.insuff := by
  have hn (t : State) (p : Port) : (if (t.port p).pmrEn && bitOf (mgetD (t.nvme p).feats 0x0B 0) 5 then t.asyncOn p 1 0 0x02
      else t).Frame t [] [] := .ite (.quiet (.refl _ _ _) (quiet_asyncOn _ _ _ _ _)) (.refl _ _ _)
  unfold State.syncHsts
  dsimp only
  split
  · exact ⟨rfl, rfl⟩
  · rw [((hn _ .a).next (hn _ .b) |>.quiet (quiet_evHost _ _ _ _) |>.quiet (quiet_syncWarn _)).samePmr]
    exact ⟨rfl, rfl⟩

theorem State.conds_setPmr (s : State) (st : PmrState) :
    (s.setPmr st).pmr.conds = s.pmr.conds ∧ (s.setPmr st).pmr.insuff = s.pmr.insuff := by
  rw [State.pmr_setPmr]
  exact ⟨rfl, rfl⟩

theorem State.conds_setCond (s : State) (c : Nat) :
    (s.setCond c).pmr.conds = (if s.pmr.conds.contains c then s.pmr.conds else s.pmr.conds ++ [c]) ∧
      (s.setCond c).pmr.insuff = s.pmr.insuff := by
  unfold State.setCond
  split
  · exact ⟨rfl, rfl⟩
  · extract_lets src s1
    have h1 : s1.pmr.conds = s.pmr.conds ++ [c] ∧ s1.pmr.insuff = s.pmr.insuff := by
      unfold s1
      rw [(frame_of_quiet (quiet_asyncVendor _ _) [] []).samePmr]
      exact State.conds_syncHsts _
    clear_value s1
    split
    · rw [(s1.conds_setPmr _).1, (s1.conds_setPmr _).2]
      exact h1
    · exact h1

theorem State.mem_setCond (s : State) (c : Nat) : c ∈ (s.setCond c).pmr.conds := by
  rw [(s.conds_setCond c).1]
  split
  next h => exact List.contains_iff_mem.1 h
  next => exact List.mem_append_right _ List.mem_cons_self

theorem State.conds_clearCond (s : State) (c : Nat) :
    c ∉ (s.clearCond c).pmr.conds ∧ (s.clearCond c).pmr.insuff = s.pmr.insuff := by
  unfold State.clearCond
  split
  · extract_lets src s1
    have h1 : s1.pmr.conds = s.pmr.conds.filter (fun x => x != c) ∧ s1.pmr.insuff = s.pmr.insuff := by
      unfold s1
      rw [(frame_of_quiet (quiet_asyncVendor _ _) [] []).samePmr]
      exact State.conds_syncHsts _
    have hc : c ∉ s1.pmr.conds := by simp [h1.1]
    clear_value s1
    split
    · unfold State.leaveReadOnly
      rw [(State.conds_setPmr _ _).1, (State.conds_setPmr _ _).2]
      exact ⟨hc, h1.2⟩
    · exact ⟨hc, h1.2⟩
  next h => exact ⟨fun hc => h (List.contains_iff_mem.2 hc), rfl⟩

/-- No condition is lost, and the energy's state is the same. -/
def State.CondsKept (s t : State) : Prop := t.pmr.insuff = s.pmr.insuff ∧ ∀ c ∈ s.pmr.conds, c ∈ t.pmr.conds

theorem State.CondsKept.of_pmr (h : t.pmr = s.pmr) : s.CondsKept t := by
  rw [State.CondsKept, h]
  exact ⟨rfl, fun _ hc => hc⟩

theorem State.CondsKept.trans (h : s.CondsKept t) (k : t.CondsKept u) : s.CondsKept u :=
  ⟨k.1.trans h.1, fun c hc => k.2 c (h.2 c hc)⟩

theorem State.Frame.condsKept {ps : List Part} {fs : List Fld} (h : t.Frame s ps fs)
    (hp : autoParam (Part.pmr ∉ ps) Float.Model.Format.he._autoParam) : s.CondsKept t := .of_pmr (h.samePmr hp)

theorem State.CondsKept.ite {p : Prop} [Decidable p] (h : s.CondsKept t) (k : s.CondsKept u) : s.CondsKept (if p then t else u) := by
  split
  · exact h
  · exact k

theorem State.CondsKept.iteFst {p : Prop} [Decidable p] {β : Type} {a b : State × β} (h : s.CondsKept a.1) (k : s.CondsKept b.1) :
    s.CondsKept (if p then a else b).1 := by
  split
  · exact h
  · exact k

theorem State.CondsKept.foldlFst {α β : Type} {f : State × β → α → State × β} (hf : ∀ (a : State × β) x, a.1.CondsKept (f a x).1) (l : List α)
    (a : State × β) : a.1.CondsKept (l.foldl f a).1 := by
  induction l generalizing a with
  | nil => exact .of_pmr rfl
  | cons x l ih => exact (hf a x).trans (ih _)

theorem condsKept_setCond (s : State) (c : Nat) : s.CondsKept (s.setCond c) := by
  refine ⟨(s.conds_setCond c).2, fun x hx => ?_⟩
  rw [(s.conds_setCond c).1]
  split
  · exact hx
  · exact List.mem_append_left _ hx

theorem condsKept_uncovered (s : State) : s.CondsKept s.uncovered := by
  have hx {u : State} (h : u.Frame s [.dmc] [Reg.DMC_FRZ_STATUS_COVERED, Reg.DMC_FRZ_LOSS_GRANULES, Reg.DMC_FRZ_STATUS_SALVAGE]) :
      s.CondsKept u := h.condsKept
  unfold State.uncovered
  exact .ite (.of_pmr rfl) (.trans (hx (.putB (.put (.put (.withDmc (.refl _ _ _)))))) (condsKept_setCond _ _))

theorem condsKept_freezeChan (s : State) (ch : Nat) (snap : List Nat × Bool) : s.CondsKept (s.freezeChan ch snap) := by
  unfold State.freezeChan
  have hx {u : State} (h : u.Frame s [.dmc] [Reg.DMC_FRZ_STATUS_FROZEN, Reg.DMC_FRZ_STATUS_FREEZE_EV, Reg.DMC_FRZ_STATUS_COVERED]) :
      s.CondsKept u := h.condsKept
  exact .ite (.of_pmr rfl) (.ite (hx (.put (.withDmc (.quiet (.next (.withDmc (.put (.refl _ _ _))) (frame_raise _ _ _ _))
    (quiet_eventWith _ _ _ _ _ _))))) (.trans (hx (.quiet (.next (.withDmc (.put (.refl _ _ _))) (frame_raise _ _ _ _))
    (quiet_eventWith _ _ _ _ _ _))) (condsKept_uncovered _)))

theorem condsKept_decodeRead (s : State) (port : DPort) (burst : Nat) (e : BurstErr) (merge : Bool) :
    s.CondsKept (s.decodeRead port burst e merge).1 := by
  have hcorr (p : Nat) : (if residue e then ((s.incSat Reg.DMC_CE_CNT_COUNT 1).countPosition ((s.dramAddr (burst * 64)).posKey
      p)).scramble burst else (s.incSat Reg.DMC_CE_CNT_COUNT 1).countPosition ((s.dramAddr (burst * 64)).posKey p)).Frame s
      [.cache, .dmc] [Reg.DMC_CE_CNT_COUNT, Reg.DMC_ECC_STATUS_POS_EV] :=
    .ite (.next (.next (.incSat (.refl _ _ _)) (frame_countPosition _ _)) (frame_scramble _ _))
      (.next (.incSat (.refl _ _ _)) (frame_countPosition _ _))
  unfold State.decodeRead
  split
  · exact .ite (frame_scramble _ _).condsKept (.of_pmr rfl)
  next p _ =>
    exact .ite (hcorr p).condsKept ((hcorr p).condsKept.trans (frame_queueRewrite _ _).condsKept)
  · unfold State.uncorrectable State.freeze
    extract_lets s1 ch own
    have h1 : s1.Frame s [] [Reg.DMC_UE_CNT_TOTAL, Reg.DMC_ECC_STATUS_UE_EV] :=
      .next (.incSat (.refl _ _ _)) (frame_raise _ _ _ _)
    have hk := h1.condsKept
    clear_value s1
    exact .ite hk (.ite hk (hk.trans (.trans (.ite (.of_pmr rfl) (frame_capture _ _ _ _ _ _).condsKept)
      (condsKept_freezeChan _ _ _))))

theorem condsKept_readData (s : State) (port : DPort) (addr len : Nat) : s.CondsKept (s.readData port addr len).1 :=
  .foldlFst (fun _ _ => .iteFst (condsKept_decodeRead _ _ _ _ _) (.of_pmr rfl)) _ _

theorem condsKept_answerRead (s : State) (p : Port) (addr len : Nat) : s.CondsKept (s.answerRead p addr len) := by
  unfold State.answerRead
  exact .ite (frame_answerPoison _ _ _).condsKept (.ite ((condsKept_readData _ _ _ _).trans (.of_pmr rfl))
    ((condsKept_readData _ _ _ _).trans (frame_answerFrozen _ _ _ _).condsKept))

theorem condsKept_orderRead (s : State) (p : Port) (addr len : Nat) : s.CondsKept (s.orderRead p addr len) := by
  unfold State.orderRead State.serveRead
  exact .ite (frame_refuseRead _ _).condsKept (.ite (frame_answerFrozen _ _ _ _).condsKept
    (.ite ((frame_startFetch _ _ _).condsKept.trans ⟨rfl, fun _ hc => hc⟩) (.ite ((frame_setEnt _ _ _).condsKept.trans
      (condsKept_answerRead _ _ _ _)) (condsKept_answerRead _ _ _ _))))

theorem condsKept_setPortQueue (s : State) (p : Port) (q : List PortItem) : s.CondsKept (s.setPortQueue p q) := by
  cases p <;> exact ⟨rfl, fun _ hc => hc⟩

theorem condsKept_orderBarrier (s : State) (p : Port) (ns : Nat) : s.CondsKept (s.orderBarrier p ns) := by
  unfold State.orderBarrier
  exact .ite ⟨rfl, fun _ hc => hc⟩ (.of_pmr rfl)

theorem condsKept_discardHeads (s : State) (p : Port) (q : List PortItem) : s.CondsKept (s.discardHeads p q) := by
  induction q generalizing s with
  | nil => exact condsKept_setPortQueue _ _ _
  | cons i rest ih =>
    cases i with
    | read addr len => exact (condsKept_orderRead s p addr len).trans (ih _)
    | barrier ns => exact (condsKept_orderBarrier s p ns).trans (ih _)
    | write addr data be =>
      exact .ite (condsKept_setPortQueue _ _ _) ((frame_discardWrite s p).condsKept.trans (ih _))

theorem condsKept_settlePorts (s : State) : s.CondsKept s.settlePorts := by
  unfold State.settlePorts
  exact ((condsKept_discardHeads _ _ _).trans (condsKept_discardHeads _ _ _)).trans
    ((frame_syncThr _ _).condsKept.trans (frame_syncThr _ _).condsKept)

end

end Sys2Proof.Machine
end
section
/-! SUPPORT. What Umbra's update leaves of its own course: the count of late updates, the fill and the first publication (R71, R75). -/

namespace Sys2Proof.Machine

section
variable {s t u : State}

/-- The count of late updates and the time of the fill stand, and a horizon once published stays published. -/
def State.CourseKept (s t : State) : Prop :=
  t.umb.overruns = s.umb.overruns ∧ t.umb.fillAt = s.umb.fillAt ∧ (s.umb.published = true → t.umb.published = true)

theorem State.CourseKept.of_umb (h : t.umb = s.umb) : s.CourseKept t := by
  rw [State.CourseKept, h]
  exact ⟨rfl, rfl, id⟩

theorem State.CourseKept.trans (h : s.CourseKept t) (k : t.CourseKept u) : s.CourseKept u :=
  ⟨k.1.trans h.1, k.2.1.trans h.2.1, fun hp => k.2.2 (h.2.2 hp)⟩

theorem State.Frame.courseKept {ps : List Part} {fs : List Fld} (h : t.Frame s ps fs)
    (hp : autoParam (Part.umb ∉ ps) Float.Model.Format.he._autoParam) : s.CourseKept t := .of_umb (h.sameUmb hp)

theorem State.CourseKept.ite {p : Prop} [Decidable p] (h : s.CourseKept t) (k : s.CourseKept u) :
    s.CourseKept (if p then t else u) := by
  split
  · exact h
  · exact k

theorem courseKept_fallback (s : State) (i : Nat) (on : Bool) : s.CourseKept (s.fallback i on) := by
  have hev {v : State} {c d k : Nat} : v.CourseKept (v.ev .umb c d k) :=
    .of_umb (frame_of_quiet (quiet_ev _ _ _ _ _) [] []).sameUmb
  unfold State.fallback
  exact .ite (.of_umb rfl) (.ite (.trans ⟨rfl, rfl, id⟩ hev) (.trans ⟨rfl, rfl, id⟩ hev))

theorem courseKept_pubBase (s : State) : s.CourseKept s.pubBase := by
  unfold State.pubBase State.coldCapCheck
  extract_lets s1
  have h1 : s1.Frame s [] [Reg.UMB_STATUS_COLD_CAP] := .ite (.put (.refl _ _ _)) (.refl _ _ _)
  exact (h1.courseKept.trans (courseKept_fallback _ _ _)).trans (courseKept_fallback _ _ _)

theorem courseKept_publishHorizon (s : State) (stale : Bool) : s.CourseKept (s.publishHorizon stale) := by
  unfold State.publishHorizon
  extract_lets s0 e raw h3 h cl s1 s2 dfl s3 s4
  have h2 : s2.Frame s0 [] [Reg.UMB_STATUS_STALE, Reg.UMB_ENERGY_E_MJ, Reg.UMB_VPOWER_P_MW, Reg.UMB_VRATE_B_MBS] :=
    .putR (.putR (.put (.next (.ite (.refl _ _ _) (.ev (.refl _ _ _))) (frame_setStale _ _))))
  have hf := courseKept_fallback (s2.putB Reg.UMB_STATUS_DEFAULTS dfl) 1 dfl
  have h4 : s4.Frame ((s2.putB Reg.UMB_STATUS_DEFAULTS dfl).fallback 1 dfl) [] [Reg.UMB_STATUS_CLAMP_RESERVE,
      Reg.UMB_STATUS_CLAMP_CACHE, Reg.UMB_HORIZON_BYTES, Reg.UMB_GEN_GEN] := .incWrap (.put (.putB (.putB (.refl _ _ _))))
  have hk : s.CourseKept s4 := (courseKept_pubBase s).trans (h2.courseKept.trans (hf.trans h4.courseKept))
  clear_value s4
  exact hk.trans ⟨rfl, rfl, fun _ => rfl⟩

theorem courseKept_setSeepRate (s : State) : s.CourseKept s.setSeepRate := by
  unfold State.setSeepRate
  extract_lets r neg lend drain s0 s1 src s2
  have h1 : s1.Frame s [] [] := .ite (.ev (.ite (.ev (.refl _ _ _)) (.refl _ _ _))) (.ite (.ev (.refl _ _ _)) (.refl _ _ _))
  have hk := h1.courseKept
  clear_value s1
  exact hk.trans ⟨rfl, rfl, id⟩

theorem courseKept_topUp (s : State) : s.CourseKept s.topUp := by
  unfold State.topUp
  exact .ite (.trans ⟨rfl, rfl, id⟩ (State.CourseKept.trans (.of_umb rfl) (frame_frame _ _ _ _ _).courseKept)) (.of_umb rfl)

theorem courseKept_rehClose (s : State) (c : Bool) : s.CourseKept (s.rehClose c) := by
  unfold State.rehClose
  split
  · exact .of_umb rfl
  · extract_lets win joules mw r j srcu srcl s1 s2 s3 s4 s5
    have h1 : s.CourseKept s1 := ⟨rfl, rfl, id⟩
    have h4 : s4.Frame s1 [.broker] [Reg.VLT_STATUS_HOLD, Reg.PWR_LEAVE_QUEUE_VAULT, Reg.LAN_REH_ENERGY_E_MJ,
        Reg.UMB_REH_RESULT_RATE, Reg.UMB_REH_RESULT_POWER, Reg.UMB_REH_INFO_OUTCOME, Reg.UMB_REH_INFO_TEMP,
        Reg.UMB_STATUS_REH_DONE] :=
      .next (.putI (.put (.put (.put (.putR (.next (.put (.refl _ _ _)) (frame_leaveRun _))))))) (frame_umbRaise _ _)
    have h5 : s5.Frame s4 [] [Reg.UMB_REH_INFO_AGE_H] := .ite (.put (.refl _ _ _)) (.quiet (.refl _ _ _) (quiet_eventWith _ _ _ _ _ _))
    exact h1.trans (h4.courseKept.trans (h5.courseKept.trans (frame_rehAnswer _ _).courseKept))

theorem courseKept_rehSettle (s : State) : s.CourseKept s.rehSettle := by
  unfold State.rehSettle
  split
  · exact .of_umb rfl
  · split
    · exact .ite (.of_umb rfl) (courseKept_rehClose _ _)
    · exact .of_umb rfl

/-- The check for a deficit changes neither Umbra nor the PMR nor the cache. -/
theorem State.same_deficitCheck (s : State) : s.deficitCheck.umb = s.umb ∧ s.deficitCheck.pmr = s.pmr ∧
    s.deficitCheck.cache = s.cache ∧ s.deficitCheck.grt = s.grt := by
  have hcut (t : State) : (t.lanAbort 4).umb = t.umb ∧ (t.lanAbort 4).pmr = t.pmr ∧ (t.lanAbort 4).cache = t.cache ∧
      (t.lanAbort 4).grt = t.grt := by
    obtain ⟨n, hrest⟩ := frame_restCut (t.learnAbort 4)
    have ha := frame_learnAbort t 4
    exact ⟨hrest.sameUmb.trans ha.sameUmb, hrest.samePmr.trans ha.samePmr, hrest.sameCache.trans ha.sameCache,
      hrest.sameGrt.trans ha.sameGrt⟩
  have hr (t : State) : t.learnRevoke.Frame t [.broker] [] := by
    unfold State.learnRevoke
    exact .next (.withBroker (.refl _ _ _)) (frame_leaveGrant _)
  have hs : (((s.put Reg.UMB_STATUS_DEFICIT 1).umbRaise Reg.UMB_STATUS_DEFICIT_EV).ev .umb 0x1001 5 0).Frame s []
      [Reg.UMB_STATUS_DEFICIT, Reg.UMB_STATUS_DEFICIT_EV] := .ev (.next (.put (.refl _ _ _)) (frame_umbRaise _ _))
  unfold State.deficitCheck
  split
  · obtain ⟨h1, h2, h3, h4⟩ := hcut (((s.put Reg.UMB_STATUS_DEFICIT 1).umbRaise Reg.UMB_STATUS_DEFICIT_EV).ev .umb 0x1001 5 0)
    exact ⟨(hr _).sameUmb.trans (h1.trans hs.sameUmb), (hr _).samePmr.trans (h2.trans hs.samePmr),
      (hr _).sameCache.trans (h3.trans hs.sameCache), (hr _).sameGrt.trans (h4.trans hs.sameGrt)⟩
  · exact ⟨rfl, rfl, rfl, rfl⟩

end

end Sys2Proof.Machine
end

section
/-! SUPPORT. Umbra's update, late and in time (R71). -/

namespace Sys2Proof.Machine

section
variable {s : State}

/-- A late update before it publishes: counted, with the bucket filled. -/
def State.lateBase (s : State) : State :=
  (({ s.countWait with umb := { s.countWait.umb with overruns := s.countWait.umb.overruns + 1 } } : State).fillBucket).ev .umb 0x1003 4 0

/-- An update in time before it publishes: the count is cleared, and the fill computed at the first. -/
def State.timelyBase (s : State) : State :=
  let s0 : State := { s.countWait with umb := { s.countWait.umb with overruns := 0 } }
  (if s0.umb.fillAt.isNone then s0.computeFill else s0).fillBucket

theorem State.umbraUpdate_late (hctrl : s.domOn .ctrl = true) (has : s.asleep = false) (hrun : s.boot.running.isSome = true)
    (age : Nat) : s.umbraUpdate age true =
      if 3 ≤ s.countWait.umb.overruns + 1 then (s.lateBase.publishHorizon true).deficitCheck else s.lateBase := by
  have hc : ¬(!s.domOn .ctrl || s.asleep || s.boot.running.isNone) = true := by
    rw [hctrl, has, ← Option.not_isSome, hrun]
    decide
  simp only [State.umbraUpdate, if_neg hc, if_true, State.lateBase]

theorem State.umbraUpdate_timely (hctrl : s.domOn .ctrl = true) (has : s.asleep = false) (hrun : s.boot.running.isSome = true)
    (age : Nat) : s.umbraUpdate age false = (((((((s.timelyBase.publishHorizon (decide (5 < age))).deficitCheck).setSeepRate).topUp
      ).rehAge).rehSettle).gcCheck false).gcPump.leaveGrant := by
  have hc : ¬(!s.domOn .ctrl || s.asleep || s.boot.running.isNone) = true := by
    rw [hctrl, has, ← Option.not_isSome, hrun]
    decide
  simp only [State.umbraUpdate, if_neg hc, Bool.false_eq_true, if_false, State.timelyBase]

theorem State.overruns_countWait (s : State) : s.countWait.umb.overruns = s.umb.overruns ∧
    s.countWait.umb.published = s.umb.published := by
  unfold State.countWait
  dsimp only
  split <;> exact ⟨rfl, rfl⟩

theorem frame_lateBase (s : State) : s.lateBase.Frame s [.umb] [Reg.UMB_THROTTLE_MS_COUNT, Reg.UMB_ENDUR_LEVEL_LEVEL] := by
  have h : ({ s.countWait with umb := { s.countWait.umb with overruns := s.countWait.umb.overruns + 1 } } : State).Frame s [.umb]
      [Reg.UMB_THROTTLE_MS_COUNT, Reg.UMB_ENDUR_LEVEL_LEVEL] := .withUmb ((frame_countWait s).mono (by simp) (by simp))
  exact .ev (h.next (frame_fillBucket _))

theorem State.umb_fillBucket (s : State) : s.fillBucket.umb.overruns = s.umb.overruns ∧
    s.fillBucket.umb.published = s.umb.published ∧ s.fillBucket.umb.fillAt = s.umb.fillAt := by
  unfold State.fillBucket
  dsimp only
  split <;> exact ⟨rfl, rfl, rfl⟩

theorem State.umb_lateBase (s : State) : s.lateBase.umb.overruns = s.umb.overruns + 1 ∧
    s.lateBase.umb.published = s.umb.published := by
  obtain ⟨ho, hp⟩ := s.overruns_countWait
  unfold State.lateBase
  rw [(frame_of_quiet (quiet_ev _ _ _ _ _) [] []).sameUmb]
  obtain ⟨hfo, hfp, -⟩ := State.umb_fillBucket ({ s.countWait with umb := { s.countWait.umb with
    overruns := s.countWait.umb.overruns + 1 } } : State)
  exact ⟨hfo.trans (congrArg (· + 1) ho), hfp.trans hp⟩

theorem State.umb_timelyBase (s : State) : s.timelyBase.umb.overruns = 0 ∧ s.timelyBase.umb.fillAt.isSome = true := by
  unfold State.timelyBase
  extract_lets srcs srcu s0
  obtain ⟨hfo, -, hfa⟩ := State.umb_fillBucket (if s0.umb.fillAt.isNone then s0.computeFill else s0)
  rw [hfo, hfa]
  split
  · exact ⟨rfl, rfl⟩
  next h => exact ⟨rfl, by rwa [Option.isNone_iff_eq_none, ← ne_eq, ← Option.isSome_iff_ne_none] at h⟩

theorem State.deficitCheck_deficit (h : s.deficit = true) : s.deficitCheck = s := if_neg (by simp [h])

theorem State.horizon_lateBase (s : State) : (s.lateBase.publishHorizon true).get Reg.UMB_HORIZON_BYTES ≤ s.get Reg.UMB_HORIZON_BYTES := by
  refine (State.get_publishHorizon_le _ _).trans (State.newHorizon_stale_le _).1 |>.trans_eq ?_
  rw [(frame_pubBase _).get_eq (by decide) (by decide), (frame_lateBase s).get_eq (by decide) (by decide)]

/-- Garbage collection has nothing to do on an unformatted Grotto. -/
theorem State.gcCheck_unformatted (h : s.grt.formatted = false) (now : Bool) : s.gcCheck now = s := if_pos (by rw [h]; rfl)

theorem State.gcPump_idle (h : s.grt.gc = none) : s.gcPump = s := by
  unfold State.gcPump
  rw [h]

/-- The steps that follow the publication in an update. -/
def State.afterPublish (s : State) : State := (((s.deficitCheck.setSeepRate).topUp).rehAge).rehSettle

theorem State.afterPublish_same (s : State) : s.CourseKept s.afterPublish ∧ s.afterPublish.pmr = s.pmr ∧
    s.afterPublish.cache = s.cache ∧ s.afterPublish.grt = s.grt := by
  obtain ⟨hu, hp, hc, hg⟩ := s.same_deficitCheck
  have hf := State.Frame.next (State.Frame.next (State.Frame.next (State.Frame.next (.refl s.deficitCheck [.umb, .ech, .lan, .broker]
    [Reg.UMB_SEEP_RATE_RATE, Reg.UMB_SEEP_RATE_MODE, Reg.UMB_STATUS_SEEP_BORROW, Reg.UMB_PEER_OUT_GRANULES, Reg.UMB_REH_INFO_AGE_H,
      Reg.VLT_STATUS_HOLD, Reg.PWR_LEAVE_QUEUE_VAULT, Reg.LAN_REH_ENERGY_E_MJ, Reg.UMB_REH_RESULT_RATE,
      Reg.UMB_REH_RESULT_POWER, Reg.UMB_REH_INFO_OUTCOME, Reg.UMB_REH_INFO_TEMP, Reg.UMB_STATUS_REH_DONE])
    (frame_setSeepRate _)) (frame_topUp _)) (frame_rehAge _)) (frame_rehSettle _)
  refine ⟨?_, hf.samePmr.trans hp, hf.sameCache.trans hc, hf.sameGrt.trans hg⟩
  exact (((State.CourseKept.of_umb hu).trans (courseKept_setSeepRate _)).trans (courseKept_topUp _)).trans
    ((frame_rehAge _).courseKept.trans (courseKept_rehSettle _))

theorem frame_timelyBase (s : State) : s.timelyBase.Frame s [.umb] [Reg.UMB_THROTTLE_MS_COUNT, Reg.UMB_ENDUR_LEVEL_LEVEL,
    Reg.UMB_ENDUR_FILL_FILL] := by
  unfold State.timelyBase
  extract_lets srcs srcu s0
  have h0 : s0.Frame s [.umb] [Reg.UMB_THROTTLE_MS_COUNT, Reg.UMB_ENDUR_LEVEL_LEVEL, Reg.UMB_ENDUR_FILL_FILL] :=
    .withUmb ((frame_countWait s).mono (by simp) (by simp))
  clear_value s0
  exact .next (.ite (.next h0 (frame_computeFill _)) h0) (frame_fillBucket _)

/-- Taking one from every non-zero age, and dropping those that reach 0. -/
theorem mem_agesSwept (l : NMap Nat) (z a : Nat) :
    (z, a) ∈ mfilter (fun _ a => a != 0) (mmap (fun _ (a : Nat) => a - 1) l) ↔ a ≠ 0 ∧ (z, a + 1) ∈ l := by
  simp only [mfilter, mmap, List.mem_filter, List.mem_map, bne_iff_ne, Prod.mk.injEq, Prod.exists]
  constructor
  · rintro ⟨⟨y, b, hm, rfl, rfl⟩, hne⟩
    exact ⟨hne, by rwa [Nat.sub_add_cancel (Nat.pos_of_ne_zero fun h0 => hne (by rw [h0]))]⟩
  · rintro ⟨hne, hm⟩
    exact ⟨⟨z, a + 1, hm, rfl, rfl⟩, hne⟩

end

end Sys2Proof.Machine
end

section
/-! PROOF. -/

open Sys2Proof Sys2Proof.Machine

/-- Settles O14: a late update counts and from the third on publishes under a stale input; one in time clears the count. -/
theorem umbraRuns : Obligations.UmbraRuns := by
  refine ⟨fun age s hctrl has hrun hn => ?_, fun age s hctrl has hrun hn hd => ?_, fun age s hctrl has hrun hform hgc => ?_,
    fun s hd hle => ?_, fun s hctrl has hrun => ?_, fun s hctrl has => ?_, fun s hlt hins => ?_, fun s hins hle => ?_,
    fun s hle => ?_⟩
  · have he := State.umbraUpdate_late hctrl has hrun age
    rw [s.overruns_countWait.1, if_neg (by omega)] at he
    exact runs_of_effect (congrArg (done s) he) ⟨s.umb_lateBase.1, s.umb_lateBase.2, frame_lateBase s⟩
      fun u q ⟨h1, h2, hf⟩ => ⟨h1, h2, hf.finish q⟩
  · have hd' : (s.lateBase.publishHorizon true).deficit = true :=
      ((frame_publishHorizon _ _).flag_eq (by decide) (by decide)).trans (((frame_lateBase s).flag_eq (by decide) (by decide)).trans hd)
    have he := State.umbraUpdate_late hctrl has hrun age
    rw [s.overruns_countWait.1, if_pos (by omega), State.deficitCheck_deficit hd'] at he
    obtain ⟨hst, hpub, -⟩ := s.lateBase.publishHorizon_shows true
    have hle := s.horizon_lateBase
    generalize s.lateBase.publishHorizon true = t at he hst hpub hle
    exact runs_of_effect (congrArg (done s) he) ⟨hle, hst, hpub⟩ fun u q h => h
  · have he : s.umbraUpdate age false = (s.timelyBase.publishHorizon (decide (5 < age))).afterPublish.leaveGrant := by
      have hg := (State.afterPublish_same (s.timelyBase.publishHorizon (decide (5 < age)))).2.2.2.trans
        ((frame_publishHorizon _ _).sameGrt.trans (frame_timelyBase s).sameGrt)
      rw [State.umbraUpdate_timely hctrl has hrun, ← State.afterPublish, State.gcCheck_unformatted
        ((congrArg Grotto.formatted hg).trans hform), State.gcPump_idle ((congrArg Grotto.gc hg).trans hgc)]
    obtain ⟨hcourse, hpmr, hcache, -⟩ := State.afterPublish_same (s.timelyBase.publishHorizon (decide (5 < age)))
    obtain ⟨-, hpub, hfirst⟩ := s.timelyBase.publishHorizon_shows (decide (5 < age))
    have hbase := (courseKept_publishHorizon s.timelyBase (decide (5 < age))).trans hcourse
    have hc := hcache.trans ((frame_publishHorizon _ _).sameCache.trans (frame_timelyBase s).sameCache)
    have hl := frame_leaveGrant (s.timelyBase.publishHorizon (decide (5 < age))).afterPublish
    refine runs_of_effect (congrArg (done s) he) ?_ fun u q h => h
    rw [hl.sameUmb, hl.samePmr, hl.sameCache, hpmr]
    exact ⟨hbase.1.trans s.umb_timelyBase.1, hcourse.2.2 hpub, hfirst, (congrArg Option.isSome hbase.2.1).trans s.umb_timelyBase.2, hc⟩
  · have he : s.deficitExit = ((s.put Reg.UMB_STATUS_DEFICIT 0).ev .umb 0x1004 2 0).setSeepRate :=
      if_pos (by rw [hd, decide_eq_true hle]; rfl)
    have hz : s.deficitExit.flag Reg.UMB_STATUS_DEFICIT = false := by
      rw [he, (frame_setSeepRate _).flag_eq (by decide) (by decide), State.flag_ev_off (by decide)]
      exact State.flag_put_zero _ _
    exact runs_of_effect (t := s.deficitExit) rfl ⟨hz, frame_deficitExit s⟩ fun u q ⟨h1, hf⟩ => ⟨h1, hf.finish q⟩
  · have hc : (s.domOn .ctrl && !s.asleep && s.boot.running.isSome) = true := by rw [hctrl, has, hrun]; rfl
    have hw : Nat.min (2 ^ 32 - 1) (s.fillRate / 1000) < 2 ^ Reg.UMB_ENDUR_FILL_FILL.width :=
      (Nat.min_le_left _ _).trans_lt (by decide)
    exact runs_of_effect (congrArg (done s) (if_pos hc)) ⟨rfl, State.get_put_lt _ _ hw, frame_computeFill s⟩
      fun u q ⟨h1, h2, hf⟩ => ⟨h1, h2, hf.finish q⟩
  · have hc : (s.domOn .ctrl && !s.asleep) = true := by rw [hctrl, has]; rfl
    refine runs_of_effect (congrArg (done s) (if_pos hc)) ⟨fun z a => ?_, rfl, rfl, .withCache (.refl _ _ _)⟩
      fun u q ⟨h1, h2, h3, hf⟩ => ⟨h1, h2, h3, hf.finish q⟩
    exact mem_agesSwept _ z a
  · refine runs_of_effect (congrArg (done s) (if_pos ⟨hlt, by rw [hins]; rfl⟩)) ?_ fun u q h => h
    have hk := (condsKept_settlePorts (({ s with pmr := { s.pmr with insuff := true } } : State).put Reg.UMB_STATUS_INSUFF 1
      |>.setCond 0x12)).trans (State.Frame.condsKept (frame_of_quiet (quiet_syncWarn _) [] []))
    exact ⟨hk.1.trans (State.conds_setCond _ _).2, hk.2 _ (State.mem_setCond _ _)⟩
  · refine runs_of_effect (congrArg (done s) (if_pos ⟨hins, hle⟩)) ?_ fun u q h => h
    obtain ⟨hout, hi⟩ := State.conds_clearCond (({ s with pmr := { s.pmr with insuff := false } } : State).put Reg.UMB_STATUS_INSUFF 0) 0x12
    dsimp only
    rw [(frame_of_quiet (quiet_syncWarn _) [] []).samePmr]
    exact ⟨hi, hout⟩
  · exact runs_of_effect (congrArg (done s) (if_neg fun h => hle.not_gt h.1)) ⟨rfl, rfl⟩ fun u q h => h
end

section
/-! SUPPORT. Frames of Seep's stripes. -/

namespace Sys2Proof.Machine

theorem frame_setGran (s : State) (g : Nat) (v : GState) : (s.setGran g v).Frame s [.cache] [] := by
  unfold State.setGran
  exact .withCache (.refl _ _ _)

theorem frame_clean (s : State) (g : Nat) : (s.clean g).Frame s [.cache] [] := by
  unfold State.clean
  exact .next (.refl _ _ _) (frame_setGran _ _ _)

theorem frame_mapTo (s : State) (g : Nat) (serial : Nat) (d : Nat) (slot : Nat) : (s.mapTo g serial d slot).Frame s [.cache] []
    := by
  unfold State.mapTo
  exact .ite (.refl _ _ _) (.next (.refl _ _ _) (frame_setEnt _ _ _))

end Sys2Proof.Machine
end

section
/-! SUPPORT. The stripes in flight through a stripe that is handed over (R142, R146). -/

namespace Sys2Proof.Machine

section
variable {s : State}

theorem State.grt_grtSync (s : State) : ∃ sp ro, s.grtSync.grt = { s.grt with spares := sp, capRo := ro } := by
  unfold State.grtSync
  extract_lets sp src s1 s2 s3 s4 s5 low s6 src6 s7
  have h6 : s6.Frame s1 [] [Reg.GRT_SERVICE_LUNS_VAULT, Reg.GRT_SERVICE_LUNS_GROTTO, Reg.GRT_SERVICE_CHANNELS,
      Reg.GRT_VCAP_BYTES, Reg.GRT_ERASED_BYTES, Reg.GRT_BANDS_ERASED, Reg.GRT_BANDS_TOTAL, Reg.GRT_RETIRE_SPARES_MIN,
      Reg.GRT_STATUS_SPARES_LOW, Reg.FLC_STATUS_LUNS_ACTIVE] :=
    .put (.putB (.put (.put (.put (.put (.put (.put (.put (.put (.refl _ _ _))))))))))
  have h7 : ∃ ro, s7.grt = { s.grt with spares := sp, capRo := ro } := by
    unfold s7
    split
    · refine ⟨true, (frame_setCond _ _).sameGrt.trans ?_⟩
      exact congrArg (fun g : Grotto => { g with capRo := true }) h6.sameGrt
    · exact ⟨_, h6.sameGrt⟩
  clear_value s7
  split
  · exact ⟨_, _, rfl⟩
  · obtain ⟨ro, h⟩ := h7
    exact ⟨sp, ro, (frame_of_quiet (quiet_syncWarn _) [] []).sameGrt.trans h⟩

theorem State.flights_grtSync (s : State) : s.grtSync.grt.flights = s.grt.flights := by
  obtain ⟨sp, ro, h⟩ := State.grt_grtSync s
  rw [h]

theorem State.flights_openBand (s : State) (place : Nat) (prefer : List (Option Nat)) :
    (s.openBand place prefer).grt.flights = s.grt.flights := by
  have hset (l : List (Option (Nat × Nat))) (t : State) : (l.foldl (fun (t : State) x => match x with
      | some y => t.setBlk y.1 y.2 { t.blk y.1 y.2 with st := .inBand }
      | none => t) t).grt.flights = t.grt.flights := by
    induction l generalizing t with
    | nil => rfl
    | cons x l ih =>
      rw [List.foldl_cons, ih]
      cases x <;> rfl
  unfold State.openBand
  extract_lets blocks b src s1
  split
  · rfl
  · rw [State.flights_grtSync]
    exact hset blocks s1

theorem State.flights_closeBand (s : State) (num : Nat) (reopen : Bool) :
    (s.closeBand num reopen).grt.flights = s.grt.flights := by
  unfold State.closeBand
  split
  · rfl
  · split
    · rfl
    · dsimp only
      split
      · rw [State.flights_openBand]
      · rfl

/-- A stripe that is handed over is one more in flight. -/
theorem State.flights_handStripe (s : State) (b : Band) (w : Machine.Writer) (grant rewriteOf vault : Nat)
    (mk : Nat → List Nat → Payload) : (s.handStripe b w grant rewriteOf vault mk).grt.flights.length = s.grt.flights.length + 1 := by
  unfold State.handStripe
  extract_lets x f s1 src s2 s3
  have h1 : s1.grt.flights = s.grt.flights := by
    unfold s1 State.logStripe
    rw [(frame_spendTokens _ _).sameGrt]
    rfl
  have h3 : s3.Frame s2 [.flc] [Reg.FLC_INFLIGHT_PEAK] := .foldl (fun _ _ ht => (by
    split
    · exact .next (.next (.withFlc ht) (frame_setLun _ _ _)) (frame_queueDesc _ _)
    · exact ht)) _ (.refl _ _ _)
  have hg : s3.grt.flights.length = s.grt.flights.length + 1 := by
    rw [h3.sameGrt]
    exact (List.length_append ..).trans (congrArg (·.length + 1) h1)
  clear_value s3
  unfold State.closeFull
  split
  · rw [State.flights_closeBand, hg]
  · exact hg

/-- With no burst of the DRAM in error, reading granules changes nothing. -/
theorem State.readFor_clean (h : s.dmc.errs = []) (port : DPort) (gs : List Nat) : s.readFor port gs = s := by
  have hread (g : Nat) : (s.readGranule port g).1 = s := by
    simp [State.readGranule, State.readData, State.errsIn, h, mfilter]
  unfold State.readFor
  induction gs with
  | nil => rfl
  | cons g gs ih => rw [List.foldl_cons, hread, ite_self, ih]

theorem State.openBandsN_enough (h : s.targetOpen ≤ s.openBands.length) (n : Nat) : State.openBandsN n s = s := by
  cases n with
  | zero => rfl
  | succ n => exact if_neg h.not_gt

/-- The fields that the place of a cache address in the DRAM is read from (R232). -/
def dramMapFields : List Fld := [Reg.DMC_GEOM_CHANNELS, Reg.DMC_GEOM_RANKS, Reg.DMC_GEOM_DENSITY, Reg.DMC_HASH_CH0_MASK,
  Reg.DMC_HASH_CH1_MASK, Reg.DMC_HASH_RK_MASK, Reg.DMC_HASH_BG0_MASK, Reg.DMC_HASH_BG1_MASK, Reg.DMC_HASH_BG2_MASK,
  Reg.DMC_HASH_BA0_MASK, Reg.DMC_HASH_BA1_MASK]

theorem State.dramAddr_congr {t : State} (h : ∀ f ∈ dramMapFields, t.get f = s.get f) (a : Nat) : t.dramAddr a = s.dramAddr a := by
  have hg {f : Fld} (hf : f ∈ dramMapFields) : t.get f = s.get f := h f hf
  have hch : t.chWidth = s.chWidth := by rw [State.chWidth, State.chWidth, hg (by simp [dramMapFields])]
  have hrk : t.rkWidth = s.rkWidth := by rw [State.rkWidth, State.rkWidth, hg (by simp [dramMapFields])]
  have hrow : t.rowWidth = s.rowWidth := by rw [State.rowWidth, State.rowWidth, hg (by simp [dramMapFields])]
  dsimp only [State.dramAddr]
  rw [hch, hrk, hrow, hg (f := Reg.DMC_HASH_CH0_MASK) (by simp [dramMapFields]), hg (f := Reg.DMC_HASH_CH1_MASK) (by
    simp [dramMapFields]), hg (f := Reg.DMC_HASH_RK_MASK) (by simp [dramMapFields]), hg (f := Reg.DMC_HASH_BG0_MASK) (by
    simp [dramMapFields]), hg (f := Reg.DMC_HASH_BG1_MASK) (by simp [dramMapFields]), hg (f := Reg.DMC_HASH_BG2_MASK) (by
    simp [dramMapFields]), hg (f := Reg.DMC_HASH_BA0_MASK) (by simp [dramMapFields]), hg (f := Reg.DMC_HASH_BA1_MASK) (by
    simp [dramMapFields])]

theorem State.Frame.dramAddr_eq {t : State} {ps : List Part} {fs : List Fld} (h : t.Frame s ps fs)
    (hn : autoParam (∀ f ∈ dramMapFields, f.key ∉ fs.map Fld.key) Float.Model.Format.he._autoParam) (a : Nat) :
    t.dramAddr a = s.dramAddr a :=
  State.dramAddr_congr (fun f hf => h.get_eq ((by decide : ∀ f ∈ dramMapFields, f.OffRecorder) f hf) (hn f hf)) a

theorem State.Frame.granFrozen_eq {t : State} {ps : List Part} {fs : List Fld} (h : t.Frame s ps fs)
    (hn : autoParam (∀ f ∈ dramMapFields, f.key ∉ fs.map Fld.key) Float.Model.Format.he._autoParam)
    (hf : autoParam (Reg.DMC_FRZ_STATUS_FROZEN.key ∉ fs.map Fld.key) Float.Model.Format.he._autoParam) (g : Nat) :
    t.granFrozen g = s.granFrozen g := by
  rw [State.granFrozen, State.granFrozen, State.chFrozen, State.chFrozen, State.granChannel, State.granChannel,
    h.dramAddr_eq hn, h.get_eq (by decide) hf]

/-- The state in which the stripe is handed over: the granules' entries are noted. -/
def State.seepNoted (s : State) (b : Band) : State :=
  (s.fallback 3 false).noteInflight (s.seepList.take (s.stripeRoom b)) [] (s.get Reg.GRT_SERIAL_NEXT)

theorem State.seepIssue_hands {b : Band} {i : Nat} (hrun : s.InRun) (hv : s.vaulting = false) (hform : s.grt.formatted = true)
    (hsafe : s.flag Reg.SYS_STATUS_SAFE = false) (hroom : s.cache.inflight.length + 60 ≤ 4096) (hreh : s.rehearsing = false)
    (hrate : 0 < s.umb.seepR) (hstage : s.stagingRoom = true) (herr : s.dmc.errs = []) (hlist : s.seepList ≠ [])
    (hopen : s.targetOpen ≤ s.openBands.length) (hband : s.nextBandFor = some b)
    (hn : (s.grt.flights.filter (fun f => f.writer == .seep)).length < s.nSeep) (hgrant : s.freeGrant .seepStripe = some i) :
    s.seepIssue = (s.seepNoted b).handStripe b .seep (i + 1) 0 0
      (dataPayload ((s.seepList.take (s.stripeRoom b)).map (s.fallback 3 false).seepVer)) := by
  have hc : ¬(s.vaulting || !s.grt.formatted || s.flag Reg.SYS_STATUS_SAFE || decide (4096 < s.cache.inflight.length + 60)) = true := by
    rw [hv, hform, hsafe, decide_eq_false hroom.not_gt]
    decide
  have has : ¬(s.asleep || !(decide (0 < s.umb.seepR) || s.flag Reg.DMC_FRZ_STATUS_SALVAGE)) = true := by
    rw [State.asleep_of_run hrun, decide_eq_true hrate, Bool.true_or]
    decide
  have hst : ¬((!s.stagingRoom) = true ∨ s.nSeep ≤ (s.grt.flights.filter (fun f => f.writer == .seep)).length) := by
    rw [hstage]
    exact not_or_intro (by decide) hn.not_ge
  have hgr : s.stripeGrant .seepStripe = (s, some (i + 1)) := by
    unfold State.stripeGrant
    rw [hgrant]
  obtain ⟨g, l, hl⟩ := List.exists_cons_of_ne_nil hlist
  have hfall := frame_fallback s 3 false
  have herr' : (s.fallback 3 false).dmc.errs = [] := (congrArg Dram.errs hfall.sameDmc).trans herr
  have hfroz (x : Nat) : (s.fallback 3 false).granFrozen x = s.granFrozen x := by
    exact hfall.granFrozen_eq (by decide) (by decide) x
  unfold State.seepIssue
  rw [if_neg hc, if_neg (by rw [hreh]; decide), if_neg has, hl]
  simp only [State.openBandsN_enough hopen, hband, if_neg hst, State.touch_run_zero hrun, hgr, State.readFor_clean herr',
    State.stillIn, hfroz, beq_self_eq_true, List.filter_true, hfall.get_eq (f := Reg.GRT_SERIAL_NEXT) (by decide) (by decide)]
  rw [← hl]
  rfl

theorem State.mapTo_known {g : Nat} (hk : s.mapKnown g = true) (n d k : Nat) : s.mapTo g n d k = s.setEnt g { s.ent g with
    loc := some (n, d, k), st := if (s.ent g).st = .noVersion then .copied else (s.ent g).st } := if_neg (by rw [hk]; decide)

/-- What a page's accounting leaves of the one granule it holds: the entry goes, the map names the slot, and the granule is
clean unless the entry was stale. -/
theorem State.seepPage_one {x : Stripe} {d k : Nat} {v : GVer} {e : InFlight} (hp : x.pageVers d = [(k, v)])
    (hk : s.mapKnown (s.verGran v) = true)
    (he : s.cache.inflight.find? (fun i => i.gran == s.verGran v && i.serial == x.serial) = some e) :
    e ∉ (s.seepPage x d).cache.inflight ∧ ((s.seepPage x d).ent (s.verGran v)).loc = some (x.serial, d, k) ∧
      (e.stale = false → ((s.seepPage x d).gran (s.verGran v)).dirty = false ∧ ((s.seepPage x d).gran (s.verGran v)).seeped = true) ∧
      (e.stale = true → (s.seepPage x d).gran (s.verGran v) = s.gran (s.verGran v)) ∧ (s.seepPage x d).Frame s [.cache] [] := by
  let t1 : State := { s with cache := { s.cache with inflight := s.cache.inflight.filter (fun j => j != e) } }
  have hpage : s.seepPage x d = if e.stale then t1.mapTo (s.verGran v) x.serial d k else
      (t1.mapTo (s.verGran v) x.serial d k).clean (s.verGran v) := by
    simp only [State.seepPage, hp, List.foldl_cons, List.foldl_nil, he]
    rfl
  have hmap := State.mapTo_known (s := t1) hk x.serial d k
  have hne : e ∉ t1.cache.inflight := fun h => absurd (List.mem_filter.1 h).2 (by simp)
  have hloc : ((t1.mapTo (s.verGran v) x.serial d k).ent (s.verGran v)).loc = some (x.serial, d, k) := by
    rw [hmap, State.ent_setEnt]
  have hf : (t1.mapTo (s.verGran v) x.serial d k).Frame s [.cache] [] :=
    .next (.withCache (.refl _ _ _)) (frame_mapTo _ _ _ _ _)
  have hin : (t1.mapTo (s.verGran v) x.serial d k).cache.inflight = t1.cache.inflight := hmap ▸ rfl
  have hgr : (t1.mapTo (s.verGran v) x.serial d k).gran (s.verGran v) = s.gran (s.verGran v) := hmap ▸ rfl
  rw [hpage]
  generalize t1.mapTo (s.verGran v) x.serial d k = u at hloc hf hin hgr
  cases hst : e.stale
  · rw [if_neg (by decide)]
    refine ⟨fun h => hne (hin ▸ h), hloc, fun _ => ?_, fun h => absurd h (by decide), hf.next (frame_clean _ _)⟩
    rw [State.clean, State.gran_setGran]
    exact ⟨rfl, rfl⟩
  · rw [if_pos rfl]
    exact ⟨fun h => hne (hin ▸ h), hloc, fun h => absurd h (by decide), fun _ => hgr, hf⟩

/-- A page of a stripe that still waits for others ends no flight. -/
theorem State.seepAccount_open {f : Flight} {pos d : Nat} (hpos : posPage f.stripe.serial pos = some d) (hwait : f.waiting ≠ []) :
    s.seepAccount f pos = (s.seepPage f.stripe d).updFlight f.stripe.serial fun _ =>
      { f with done := f.done.filter (fun p => p != pos) } := by
  unfold State.seepAccount
  rw [hpos]
  refine if_neg ?_
  dsimp only
  rw [List.isEmpty_eq_false_iff.2 hwait]
  exact Bool.false_ne_true

end

end Sys2Proof.Machine
end

section
/-! PROOF. -/

open Sys2Proof Sys2Proof.Machine

/-- Settles O15: a stripe that may be handed over is; a page that is accounted for releases its entry. -/
theorem seepStripes : Obligations.SeepStripes := by
  refine ⟨fun s b i hrun hv hform hsafe hroom hreh hrate hstage herr hlist hopen hband hn hgrant => ?_,
    fun s serial pos d k f v e hreh hknown hflight hw hser hwait hdone hpos hpage hfind => ?_⟩
  · have he := State.seepIssue_hands hrun hv hform hsafe hroom hreh hrate hstage herr hlist hopen hband hn hgrant
    have hnoted : (s.seepNoted b).cache.inflight = s.cache.inflight ++ (s.seepList.take (s.stripeRoom b)).map
        (fun g => InFlight.mk g false (s.get Reg.GRT_SERIAL_NEXT)) ∧ (s.seepNoted b).cache.cells = s.cache.cells ∧
        (s.seepNoted b).cache.grans = s.cache.grans ∧ (s.seepNoted b).grt = s.grt := by
      have hf := frame_fallback s 3 false
      simp only [State.seepNoted, State.noteInflight, hf.sameCache, hf.sameGrt, List.append_nil, and_self]
    obtain ⟨h1, h2, h3, h4⟩ := hnoted
    have hc := (frame_handStripe (s.seepNoted b) b .seep (i + 1) 0 0
      (dataPayload ((s.seepList.take (s.stripeRoom b)).map (s.fallback 3 false).seepVer))).sameCache
    have hl := (s.seepNoted b).flights_handStripe b .seep (i + 1) 0 0
      (dataPayload ((s.seepList.take (s.stripeRoom b)).map (s.fallback 3 false).seepVer))
    generalize (s.seepNoted b).handStripe b .seep (i + 1) 0 0 _ = t at he hc hl
    rw [h4] at hl
    refine runs_of_effect (congrArg (done s) he) ?_ fun u q h => h
    rw [hc]
    exact ⟨h1, hl, h2, h3⟩
  · obtain ⟨h1, h2, h3, h4, hf⟩ := State.seepPage_one (x := f.stripe) hpage hknown (hser.symm ▸ hfind)
    let f1 : Flight := { f with done := f.done.filter (fun p => p != pos) }
    have he : (s.seepProgrammed serial pos).rehSettle = (s.seepPage f.stripe d).updFlight f.stripe.serial fun _ => f1 := by
      have hreh' : ((s.seepPage f.stripe d).updFlight f.stripe.serial fun _ => f1).umb.rehearsal = none :=
        (congrArg Umbra.rehearsal ((frame_updFlight _ _ _).sameUmb.trans hf.sameUmb)).trans hreh
      have hprog : s.seepProgrammed serial pos = s.seepAccount f pos := by
        unfold State.seepProgrammed
        rw [hflight]
        exact if_pos ⟨.inl hw, hdone⟩
      rw [hprog, State.seepAccount_open (hser.symm ▸ hpos) hwait, State.rehSettle, hreh']
    rw [hser] at h2
    refine runs_of_effect (congrArg (done s) he) ⟨h1, h2, h3, h4, .next (hf.mono (by simp) (by simp)) (frame_updFlight _ _ _)⟩
      fun u q ⟨h1, h2, h3, h4, hf⟩ => ⟨h1, h2, h3, h4, hf.finish q⟩
end

section
/-! SUPPORT. The start and the end of a rehearsal (R86–R91). -/

namespace Sys2Proof.Machine

section
variable {s : State}

theorem State.rehJudge_rejected {failed complete : Bool} (hlast : s.umb.lastRej = none) (h : ¬(complete = true ∧ (!failed) = true))
    (r : RehResult) : s.rehJudge r complete failed = (if failed then 3 else 2, s.umb.results, some r) := by
  unfold State.rehJudge
  extract_lets top high no
  rw [if_neg fun hc => h ⟨hc.1, hc.2.1⟩, hlast]

/-- A rehearsal that starts asserts HOLD_EN and takes leave under the vault budget. -/
theorem State.rehStart_facts (hrun : s.InRun) (sw : Bool) : (s.rehStart sw).umb.rehearsal = some ⟨sw, 0, false, none⟩ ∧
    (s.rehStart sw).umb.wanted = false ∧ (s.rehStart sw).flag Reg.VLT_STATUS_HOLD = true ∧
    (s.rehStart sw).flag Reg.PWR_LEAVE_QUEUE_VAULT = true ∧ (s.rehStart sw).cache = s.cache := by
  unfold State.rehStart
  rw [State.touch_run_zero hrun]
  extract_lets s0 srcu srcl s1
  have hl := frame_leaveGrant ((s1.put Reg.PWR_LEAVE_QUEUE_VAULT 1).put Reg.VLT_STATUS_HOLD 1)
  rw [hl.sameUmb, hl.sameCache, hl.flag_eq (by decide) (by decide), hl.flag_eq (by decide) (by decide)]
  exact ⟨rfl, rfl, State.flag_put_one _ _, (State.flag_put_other _ (by decide)).trans (State.flag_put_one _ _), rfl⟩

/-- A window that ends without an accepted result: the results stand, a rehearsal is wanted again, and HOLD_EN is released. -/
theorem State.rehClose_rejected {h : Rehearsal} {complete : Bool} (hr : s.umb.rehearsal = some h) (hlast : s.umb.lastRej = none)
    (hrej : ¬(complete = true ∧ (!h.failed) = true)) : (s.rehClose complete).umb.rehearsal = none ∧
      (s.rehClose complete).umb.results = s.umb.results ∧ (s.rehClose complete).umb.wanted = true ∧
      (s.rehClose complete).get Reg.UMB_REH_INFO_OUTCOME = (if h.failed then 3 else 2) ∧
      (s.rehClose complete).flag Reg.VLT_STATUS_HOLD = false ∧
      (s.rehClose complete).flag Reg.PWR_LEAVE_QUEUE_VAULT = false ∧ (s.rehClose complete).cache = s.cache := by
  unfold State.rehClose
  extract_lets win joules mw srcu srcl
  split
  next h0 => exact absurd (hr.symm.trans h0) (by simp)
  next h' h0 =>
    obtain rfl : h = h' := Option.some.inj (hr.symm.trans h0)
    extract_lets r j s1 s2 s3 s4 s5
    have hj : j = (if h.failed then 3 else 2, s.umb.results, some r) := State.rehJudge_rejected hlast hrej r
    have hno : j.1 = (if h.failed then 3 else 2) ∧ j.1 < 2 ^ Reg.UMB_REH_INFO_OUTCOME.width ∧ (j.1 != 1) = true := by
      have hn : j.1 = if h.failed then 3 else 2 := congrArg (·.1) hj
      rw [hn]
      cases h.failed <;> decide
    have h1 : s1.umb.rehearsal = none ∧ s1.umb.results = s.umb.results ∧ s1.umb.wanted = true ∧ s1.cache = s.cache :=
      ⟨rfl, congrArg (·.2.1) hj, (congrArg (s.umb.wanted || ·) hno.2.2).trans (Bool.or_true _), rfl⟩
    have hl := frame_leaveGrant ((s1.put Reg.VLT_STATUS_HOLD 0).put Reg.PWR_LEAVE_QUEUE_VAULT 0)
    have h2 : s2.Frame ((s1.put Reg.VLT_STATUS_HOLD 0).put Reg.PWR_LEAVE_QUEUE_VAULT 0) [.broker] [Reg.LAN_REH_ENERGY_E_MJ] :=
      .putR (.next (.refl _ _ _) hl)
    have h3 : s3.Frame s2 [] [Reg.UMB_REH_RESULT_RATE, Reg.UMB_REH_RESULT_POWER, Reg.UMB_REH_INFO_OUTCOME] :=
      .put (.put (.put (.refl _ _ _)))
    have h5 : (s5.rehAnswer (j.1 == 1)).Frame s3 [] [Reg.UMB_REH_INFO_TEMP, Reg.UMB_STATUS_REH_DONE, Reg.UMB_REH_INFO_AGE_H] :=
      have h4 : s4.Frame s3 [] [Reg.UMB_REH_INFO_TEMP, Reg.UMB_STATUS_REH_DONE, Reg.UMB_REH_INFO_AGE_H] :=
        .next (.putI (.refl _ _ _)) (frame_umbRaise _ _)
      .next (.ite (.put h4) (.quiet h4 (quiet_eventWith _ _ _ _ _ _))) (frame_rehAnswer _ _)
    have hout : s3.get Reg.UMB_REH_INFO_OUTCOME = j.1 := State.get_put_lt _ _ hno.2.1
    rw [h5.sameUmb, h3.sameUmb, h2.sameUmb, h5.sameCache, h3.sameCache, h2.sameCache, h5.get_eq (by decide) (by decide), hout,
      h5.flag_eq (by decide) (by decide), h3.flag_eq (by decide) (by decide), h2.flag_eq (by decide) (by decide),
      h5.flag_eq (by decide) (by decide), h3.flag_eq (by decide) (by decide), h2.flag_eq (by decide) (by decide)]
    exact ⟨h1.1, h1.2.1, h1.2.2.1, hno.1, (State.flag_put_other _ (by decide)).trans (State.flag_put_zero _ _),
      State.flag_put_zero _ _, h1.2.2.2⟩

/-- The state in which the window's end settles the rehearsal. -/
def State.rehEnding (s : State) (h : Rehearsal) (c : Bool) : State :=
  { s with umb := { s.umb with rehearsal := some { h with ending := some (h.ending.getD c) } } }

theorem State.rehEnd_eq {h : Rehearsal} (hr : s.umb.rehearsal = some h) (hv : s.vaulting = false) (c : Bool) :
    s.rehEnd c = if s.rehInFlight then s.rehEnding h c else (s.rehEnding h c).rehClose (h.ending.getD c) := by
  have he : ({ s with umb := { s.umb with rehearsal := s.umb.rehearsal.map (fun (r : Rehearsal) =>
      { r with ending := some (r.ending.getD c) }) } } : State) = s.rehEnding h c := by rw [hr]; rfl
  unfold State.rehEnd
  rw [if_neg (by rw [hv]; decide), he]
  rfl

end

end Sys2Proof.Machine
end

section
/-! PROOF. -/

open Sys2Proof Sys2Proof.Machine

/-- Settles O16: a wanted rehearsal starts where it may; its window's end waits for its stripes and then judges it. -/
theorem rehearsals : Obligations.Rehearsals := by
  refine ⟨fun s hrun hw hmay => ?_, fun s hint hmay => ?_, fun s h c hr hv hfl => ?_, fun s h hr hv hfl hlast hfail => ?_,
    fun s h hr hv hfl hlast hfail hend => ?_⟩
  · have he : s.rehAuto = s.rehStart false := if_pos (by rw [hw, hmay]; rfl)
    obtain ⟨h1, h2, h3, h4, h5⟩ := State.rehStart_facts hrun false
    generalize s.rehStart false = t at he h1 h2 h3 h4 h5
    exact runs_of_done (congrArg (done s) he) ⟨h1, h2, h3, h4, h5⟩
  · have he : s.rehAuto = s.wantRehearsal :=
      (if_neg (by rw [hmay, Bool.and_false]; decide)).trans (if_pos (by rw [hint, Bool.or_true]; rfl))
    exact runs_of_effect (congrArg (done s) he) ⟨rfl, .withUmb (.refl _ _ _)⟩ fun u q ⟨h1, hf⟩ => ⟨h1, hf.finish q⟩
  · have he := State.rehEnd_eq hr hv c
    rw [if_pos hfl] at he
    exact runs_of_effect (congrArg (done s) he) ⟨rfl, .withUmb (.refl _ _ _)⟩ fun u q ⟨h1, hf⟩ => ⟨h1, hf.finish q⟩
  · have he := State.rehEnd_eq hr hv true
    rw [if_neg (by rw [hfl]; decide)] at he
    obtain ⟨h1, h2, h3, h4, h5, h6, h7⟩ := State.rehClose_rejected (s := s.rehEnding h true) (complete := h.ending.getD true) rfl
      hlast (by simp [hfail])
    generalize (s.rehEnding h true).rehClose _ = t at he h1 h2 h3 h4 h5 h6 h7
    exact runs_of_done (congrArg (done s) he) ⟨h1, h2, h3, h4.trans (if_pos hfail), h5, h6, h7⟩
  · have he := State.rehEnd_eq hr hv false
    rw [if_neg (by rw [hfl]; decide)] at he
    obtain ⟨h1, h2, h3, h4, h5, -, h7⟩ := State.rehClose_rejected (s := s.rehEnding h false) (complete := h.ending.getD false) rfl
      hlast (by simp [hend])
    generalize (s.rehEnding h false).rehClose _ = t at he h1 h2 h3 h4 h5 h7
    exact runs_of_done (congrArg (done s) he) ⟨h1, h2, h3, h4.trans (if_neg (by rw [hfail]; decide)), h5, h7⟩
end

section
/-! SUPPORT. A descriptor that is submitted (R195, R196, R199, R201, R210). -/

namespace Sys2Proof.Machine

section
variable {s : State} {d : Desc}

/-- The state in which a descriptor that passes the checks is queued: a program has moved its block's write pointer, and an erase
of a Grotto block has its entry staged. -/
def State.submitReady (s : State) (d : Desc) : State :=
  let s1 := if d.op = opProgram then s.setLun d.lun ((s.lun d.lun).wrote d.area d.block d.page) else s
  if d.op = opErase ∧ d.area = 0 ∧ !s.grt.startStaged d.lun d.block then
    s1.journalEntry 1 d.lun 0 d.block (s.blk d.lun d.block).worn
  else s1

theorem frame_submitReady (s : State) (d : Desc) : (s.submitReady d).Frame s [.flc, .grt] [] := by
  have h1 : (if d.op = opProgram then s.setLun d.lun ((s.lun d.lun).wrote d.area d.block d.page) else s).Frame s [.flc, .grt] [] :=
    .ite (.next (.refl _ _ _) (frame_setLun _ _ _)) (.refl _ _ _)
  exact .ite (.next h1 (frame_journalEntry _ _ _ _ _ _)) h1

/-- Nothing but the write pointers and the staged entries is touched. -/
theorem State.submitReady_same (s : State) (d : Desc) : ((s.submitReady d).lun d.lun).queue = (s.lun d.lun).queue ∧
    ((s.submitReady d).lun d.lun).park = (s.lun d.lun).park ∧ ((s.submitReady d).lun d.lun).slots = (s.lun d.lun).slots ∧
    (s.submitReady d).flc.compl = s.flc.compl ∧ (∀ k, (s.submitReady d).ringHeld k = s.ringHeld k) ∧
    (d.op ≠ opErase → (s.submitReady d).grt = s.grt) := by
  have hw (l : Lun) : (l.wrote d.area d.block d.page).queue = l.queue ∧ (l.wrote d.area d.block d.page).park = l.park ∧
      (l.wrote d.area d.block d.page).slots = l.slots := ⟨rfl, rfl, rfl⟩
  by_cases hp : d.op = opProgram
  · have he : s.submitReady d = s.setLun d.lun ((s.lun d.lun).wrote d.area d.block d.page) := by
      simp [State.submitReady, hp, opProgram, opErase]
    rw [he, State.lun_setLun]
    exact ⟨rfl, rfl, rfl, rfl, fun _ => rfl, fun _ => rfl⟩
  · have he : s.submitReady d = if d.op = opErase ∧ d.area = 0 ∧ !s.grt.startStaged d.lun d.block then
        s.journalEntry 1 d.lun 0 d.block (s.blk d.lun d.block).worn else s := by
      simp only [State.submitReady, if_neg hp]
    rw [he]
    split
    next h => exact ⟨rfl, rfl, rfl, rfl, fun _ => rfl, fun hn => absurd h.1 hn⟩
    next => exact ⟨rfl, rfl, rfl, rfl, fun _ => rfl, fun _ => rfl⟩

theorem State.startStaged_submitReady (s : State) (hop : d.op = opErase) (harea : d.area = 0) :
    (s.submitReady d).grt.startStaged d.lun d.block = true := by
  have hp : ¬d.op = opProgram := by
    rw [hop]
    decide
  cases hst : s.grt.startStaged d.lun d.block
  · have he : s.submitReady d = s.journalEntry 1 d.lun 0 d.block (s.blk d.lun d.block).worn := by
      simp only [State.submitReady, if_neg hp]
      exact if_pos ⟨hop, harea, by rw [hst]; rfl⟩
    simp [he, State.journalEntry, Grotto.stage, Grotto.startStaged]
  · have he : s.submitReady d = s := by simp [State.submitReady, if_neg hp, hst]
    rw [he, hst]

/-- A descriptor that no check turns away is queued. -/
theorem State.flashSubmit_taken (hrun : s.InRun) (ht : s.takesDesc d) (hlen : (s.ringHeld d.ring).length < 1024) :
    s.flashSubmit d = (s.submitReady d).queueDesc d := by
  obtain ⟨hbad, hring, hslc, hblk, hlun, htrip, hord⟩ := ht
  have hb : ¬(!s.ringRight d || !s.slcRight d || (d.blockOp && !s.blockThere d)) = true := by
    cases hop : d.blockOp
    · simp [hring, hslc]
    · simp [hring, hslc, hblk hop]
  have ht : ¬(s.flag Reg.FLC_STATUS_TRIP = true ∧ 32 ≤ d.ring ∧ d.cls ≠ 1) := by
    rintro ⟨h1, h2, h3⟩
    rcases htrip with h | h | h
    · rw [h1] at h
      exact absurd h (by decide)
    · omega
    · exact h3 h
  have hready : (s.submitReady d).InRun := ((frame_submitReady s d).get_eq (by decide) (by decide)).trans hrun
  unfold State.flashSubmit
  rw [if_neg (by rw [hbad]; decide), if_neg hb, if_neg (by rw [hlun]; decide), if_neg ht, if_neg (by rw [hord]; decide),
    if_neg hlen.not_ge]
  exact congrArg (State.queueDesc · d) (State.touch_run_zero hready)

/-- With its ring empty and a slot free, a descriptor joins its LUN's queue. -/
theorem State.queueDesc_slot (hring : s.ringHeld d.ring = []) (hpark : (s.lun d.lun).park = []) (hslots : (s.lun d.lun).slots < 16) :
    s.queueDesc d = s.placeDesc d true := by
  have hm : s.ringMoves d = some true := if_pos (by rw [hpark, decide_eq_true hslots]; rfl)
  unfold State.queueDesc
  rw [if_pos hring, hm]

theorem State.placeDesc_slot (s : State) (d : Desc) : ((s.placeDesc d true).lun d.lun).queue = (s.lun d.lun).queue ++ [d] ∧
    (s.placeDesc d true).flc.compl = s.flc.compl ∧ (s.placeDesc d true).grt = s.grt := by
  unfold State.placeDesc
  rw [if_pos rfl]
  exact ⟨congrArg Lun.queue (s.lun_setLun _ _), rfl, rfl⟩

theorem State.queueDesc_held (hring : s.ringHeld d.ring ≠ []) : s.queueDesc d =
    { s with flc := { s.flc with rings := mset s.flc.rings d.ring (s.ringHeld d.ring ++ [d]) } } := by
  unfold State.queueDesc
  rw [if_neg hring]

/-- Each of the nine commands submits its descriptor under its opcode. -/
theorem exec_descriptor : ∀ row ∈ ([(.read, 1), (.readHeader, 2), (.program, 3), (.erase, 4), (.erasedCheck, 5), (.resetLun, 6),
    (.getFeature, 7), (.setFeature, 8), (.readRaw, 9)] : List ((Desc → Instr) × Nat)), ∀ (d : Desc) (s : State),
    exec (row.1 d) s = done s (s.flashSubmit { d with op := row.2 }) := by
  simp only [List.forall_mem_cons, List.not_mem_nil, false_imp_iff]
  exact ⟨fun _ _ => rfl, fun _ _ => rfl, fun _ _ => rfl, fun _ _ => rfl, fun _ _ => rfl, fun _ _ => rfl, fun _ _ => rfl,
    fun _ _ => rfl, fun _ _ => rfl, fun _ => trivial⟩

end

end Sys2Proof.Machine
end

section
/-! PROOF. -/

open Sys2Proof Sys2Proof.Machine

/-- Settles O17: the nine commands are one submission under their opcodes, by the first check that the descriptor fails. -/
theorem flashSubmits : Obligations.FlashSubmits := by
  intro row hrow d s
  have hex := exec_descriptor row hrow d s
  generalize hd : ({ d with op := row.2 } : Desc) = e at *
  have hop : e.op = row.2 := hd ▸ rfl
  have hlun : e.lun = d.lun := hd ▸ rfl
  have hring : e.ring = d.ring := hd ▸ rfl
  have harea : e.area = d.area := hd ▸ rfl
  have hblock : e.block = d.block := hd ▸ rfl
  rw [← hlun, ← hring, ← harea, ← hblock, ← hop]
  obtain ⟨hq, hpark, hslots, hcompl, hheld, hgrt⟩ := s.submitReady_same e
  have hready := frame_submitReady s e
  refine ⟨fun hrun ht hr hp hs => ?_, fun hrun ht hr hl => ?_, fun hbad => ?_, fun hbad hr => ?_, fun hbad hr hslc hblk href => ?_⟩
  · have he := State.flashSubmit_taken hrun ht (by rw [hr]; decide)
    rw [State.queueDesc_slot ((hheld _).trans hr) (hpark.trans hp) (hslots.trans_lt hs)] at he
    have hplace := (s.submitReady e).placeDesc_slot e
    rw [hq, hcompl] at hplace
    rw [he] at hex
    refine runs_of_effect hex ⟨hplace.1, hplace.2.1, fun hop4 ha => ?_, fun hop4 => ?_, ?_⟩
      fun u q ⟨h1, h2, h3, h4, hf⟩ => ⟨h1, h2, h3, h4, hf.finish q⟩
    · rw [hplace.2.2]
      exact s.startStaged_submitReady hop4 ha
    · rw [hplace.2.2, hgrt hop4]
    · exact .next hready.mono (frame_placeDesc _ _ _)
  · have he := State.flashSubmit_taken hrun ht hl
    rw [State.queueDesc_held (by rw [hheld]; exact hr), hheld] at he
    rw [he] at hex
    refine runs_of_effect hex ⟨congrArg (Option.getD · []) (mget_mset_same _ _ _), hcompl, ?_⟩ fun u q ⟨h1, h2, hf⟩ => ⟨h1, h2, hf.finish q⟩
    exact .withFlc hready
  · have he : s.flashSubmit e = s.completePlain e fsBadDesc := if_pos hbad
    exact runs_of_effect (hex.trans (congrArg (done s) he)) ⟨rfl, frame_completePlain _ _ _⟩ fun u q ⟨h1, hf⟩ => ⟨h1, hf.finish q⟩
  · have he : s.flashSubmit e = s.completePlain e fsArea :=
      (if_neg (by rw [hbad]; decide)).trans (if_pos (by rw [hr]; rfl))
    exact runs_of_effect (hex.trans (congrArg (done s) he)) ⟨rfl, frame_completePlain _ _ _⟩ fun u q ⟨h1, hf⟩ => ⟨h1, hf.finish q⟩
  · have he : s.flashSubmit e = s.completePlain e fsLunOut :=
      (if_neg (by rw [hbad]; decide)).trans ((if_neg (by simp [hr, hslc, hblk])).trans (if_pos href))
    exact runs_of_effect (hex.trans (congrArg (done s) he)) ⟨rfl, frame_completePlain _ _ _⟩ fun u q ⟨h1, hf⟩ => ⟨h1, hf.finish q⟩
end

section
/-! SUPPORT. What filling a LUN's slots leaves of the LUNs (R199). -/

namespace Sys2Proof.Machine

section
variable {s t u : State}

theorem State.lun_setLun_ne (s : State) {n m : Nat} (l : Lun) (h : n ≠ m) : (s.setLun m l).lun n = s.lun n := mgetD_mput_ne _ _ _ h

/-- Only the queues and the park lists of LUNs and the rings differ: nothing is sent, and nothing completes. -/
def State.SlotsMoved (s t : State) : Prop :=
  t.out = s.out ∧ t.flc.compl = s.flc.compl ∧ t.flc.doneTags = s.flc.doneTags ∧
    ∀ n, ∃ q p, t.lun n = { s.lun n with queue := q, park := p }

theorem State.SlotsMoved.refl (s : State) : s.SlotsMoved s := ⟨rfl, rfl, rfl, fun _ => ⟨_, _, rfl⟩⟩

theorem State.SlotsMoved.trans (h : s.SlotsMoved t) (k : t.SlotsMoved u) : s.SlotsMoved u := by
  refine ⟨k.1.trans h.1, k.2.1.trans h.2.1, k.2.2.1.trans h.2.2.1, fun n => ?_⟩
  obtain ⟨q, p, hn⟩ := h.2.2.2 n
  obtain ⟨q', p', hn'⟩ := k.2.2.2 n
  exact ⟨q', p', by rw [hn', hn]⟩

theorem slotsMoved_setLun (s : State) (m : Nat) (q p : List Desc) : s.SlotsMoved (s.setLun m { s.lun m with queue := q, park := p }) := by
  refine ⟨rfl, rfl, rfl, fun n => ?_⟩
  by_cases h : n = m
  · subst h
    exact ⟨q, p, State.lun_setLun _ _ _⟩
  · exact ⟨_, _, State.lun_setLun_ne s _ h⟩

theorem slotsMoved_placeDesc (s : State) (d : Desc) (slot : Bool) : s.SlotsMoved (s.placeDesc d slot) := by
  cases slot
  · exact slotsMoved_setLun s d.lun _ _
  · exact (slotsMoved_setLun s d.lun _ _).trans ⟨rfl, rfl, rfl, fun _ => ⟨_, _, rfl⟩⟩

theorem slotsMoved_fillPark (s : State) (lun n : Nat) : s.SlotsMoved (s.fillPark lun n) ∧ (s.fillPark lun n).Frame s [.flc] [] := by
  induction n generalizing s with
  | zero => exact ⟨.refl _, .refl _ _ _⟩
  | succ n ih =>
    unfold State.fillPark
    extract_lets l
    split
    · exact ⟨.refl _, .refl _ _ _⟩
    · split
      next d rest _ =>
        obtain ⟨h, hf⟩ := ih (s.setLun lun { l with park := rest, queue := l.queue ++ [d] })
        exact ⟨(slotsMoved_setLun s lun _ _).trans h, .trans (frame_setLun _ _ _) hf⟩
      · exact ⟨.refl _, .refl _ _ _⟩

theorem slotsMoved_drainRings (n : Nat) (s : State) : s.SlotsMoved (State.drainRings n s) ∧
    (State.drainRings n s).Frame s [.flc] [Reg.FLC_INFLIGHT_PEAK] := by
  induction n generalizing s with
  | zero => exact ⟨.refl _, .refl _ _ _⟩
  | succ n ih =>
    unfold State.drainRings
    split
    next k d rest _ =>
      extract_lets src s1
      have h1 : s.SlotsMoved s1 := ⟨rfl, rfl, rfl, fun _ => ⟨_, _, rfl⟩⟩
      have hf1 : s1.Frame s [.flc] [Reg.FLC_INFLIGHT_PEAK] := .withFlc (.refl _ _ _)
      obtain ⟨h, hf⟩ := ih (s1.placeDesc d ((s.ringMoves d).getD true))
      exact ⟨(h1.trans (slotsMoved_placeDesc _ _ _)).trans h, (hf1.next (frame_placeDesc _ _ _)).trans hf⟩
    · exact ⟨.refl _, .refl _ _ _⟩

theorem slotsMoved_fillSlots (s : State) (lun n : Nat) : s.SlotsMoved (s.fillSlots lun n) ∧
    (s.fillSlots lun n).Frame s [.flc] [Reg.FLC_INFLIGHT_PEAK] := by
  obtain ⟨h, hf⟩ := slotsMoved_fillPark s lun n
  obtain ⟨k, kf⟩ := slotsMoved_drainRings (sumNat (s.flc.rings.map (fun e => e.2.length))) (s.fillPark lun n)
  exact ⟨h.trans k, .trans hf.mono kf⟩

theorem slotsMoved_dequeue (s : State) (d : Desc) : s.SlotsMoved (s.dequeue d) ∧
    (s.dequeue d).Frame s [.flc] [Reg.FLC_INFLIGHT_PEAK] := by
  obtain ⟨h, hf⟩ := slotsMoved_fillSlots (s.setLun d.lun { s.lun d.lun with
    queue := (s.lun d.lun).queue.filter (fun e => e != d) }) d.lun 16
  exact ⟨(slotsMoved_setLun s d.lun _ (s.lun d.lun).park).trans h, .trans (frame_setLun _ _ _).mono hf⟩

theorem State.SlotsMoved.lun_facts (h : s.SlotsMoved t) (n : Nat) : (t.lun n).running = (s.lun n).running ∧
    (t.lun n).suspended = (s.lun n).suspended ∧ (t.lun n).wps = (s.lun n).wps ∧ (t.lun n).profile = (s.lun n).profile ∧
    (t.lun n).timeouts = (s.lun n).timeouts := by
  obtain ⟨q, p, hn⟩ := h.2.2.2 n
  rw [hn]
  exact ⟨rfl, rfl, rfl, rfl, rfl⟩

theorem State.out_foldl_send (l : List Out) (s : State) : (l.foldl State.send s).out = s.out ++ l ∧
    (l.foldl State.send s).flc = s.flc ∧ (l.foldl State.send s).Frame s [] [] := by
  induction l generalizing s with
  | nil => exact ⟨(List.append_nil _).symm, rfl, .refl _ _ _⟩
  | cons o l ih =>
    obtain ⟨ho, hf, hfr⟩ := ih (s.send o)
    exact ⟨ho.trans (List.append_assoc _ _ _), hf, (State.Frame.send (.refl _ _ _)).trans hfr⟩

/-! The issue of a read (R182, R200). -/

/-- A read that the LUN takes is issued with its prefix. -/
theorem State.issueNow_read {d : Desc} (hw : d.writes = false) (hwp : s.aboveWp d = false) :
    ((s.issueNow d 0).lun d.lun).running = some ⟨d, 0, 0, false, false, false⟩ ∧
      (s.issueNow d 0).out = s.out ++ s.slcPrefix d ++ [.flash d.lun d.op d.block d.page] ∧
      (s.issueNow d 0).Frame s [.flc] [Reg.FLC_INFLIGHT_PEAK] := by
  have habort : s.abortErase d = s := if_neg (by simp [State.resetsFirst, hw])
  have hop : ¬d.op = opErase := fun h => by simp [Desc.writes, h] at hw
  obtain ⟨hmoved, hframe⟩ := slotsMoved_dequeue s d
  obtain ⟨-, -, hwps, hprof, -⟩ := hmoved.lun_facts d.lun
  have hwp' : (s.dequeue d).aboveWp d = false := by rw [State.aboveWp, hwps]; exact hwp
  have hpre (l : Lun) (hl : l.profile = (s.lun d.lun).profile) : ((s.dequeue d).setLun d.lun l).slcPrefix d = s.slcPrefix d := by
    rw [State.slcPrefix, State.slcPrefix, State.devProfile, State.devProfile, State.lun_setLun, hl, State.setLun_boot, hframe.sameBoot]
  unfold State.issueNow
  rw [habort]
  dsimp only
  rw [if_neg (by rw [hwp']; decide), if_neg hop, hpre { (s.dequeue d).lun d.lun with running := some ⟨d, 0, 0, false, false, false⟩ } hprof]
  obtain ⟨ho, hf, hfr⟩ := State.out_foldl_send (s.slcPrefix d) ((s.dequeue d).setLun d.lun
    { (s.dequeue d).lun d.lun with running := some ⟨d, 0, 0, false, false, false⟩ })
  refine ⟨?_, ?_, ?_⟩
  · rw [State.lun, State.send_flc, hf]
    exact congrArg Lun.running (State.lun_setLun _ _ _)
  · exact congrArg (· ++ [Out.flash d.lun d.op d.block d.page]) (ho.trans (congrArg (· ++ s.slcPrefix d) hmoved.1))
  · exact .send (.trans (.next hframe (frame_setLun _ _ _)) hfr.mono)

theorem State.issueLun_some {lun : Nat} {aged : List Nat} {d : Desc}
    (h : (s.issueOrder (s.lun lun) aged).find? (fun e => s.lunTakes (s.lun lun) e && s.orderOk (s.lun lun) e) = some d) :
    s.issueLun lun aged =
      (if s.vaulting && d.cls == 1 && s.waitsJournal d then s.journalFlushAll else s).tryIssue d := by
  unfold State.issueLun
  dsimp only
  rw [h]

end

end Sys2Proof.Machine
end

section
/-! PROOF. -/

open Sys2Proof Sys2Proof.Machine

/-- Settles O18: the first descriptor of the issue order that the LUN takes is issued, unless its erase waits for the journal. -/
theorem flashIssues : Obligations.FlashIssues := by
  refine ⟨fun lun aged d s hfind hlun hw hwp => ?_, fun lun aged d s hfind hj hv => ?_,
    fun lun r s hr hsus hw hcls hno hany => ?_, fun lun r s hr hcls => ?_⟩
  · subst hlun
    have hj : s.waitsJournal d = false := by
      have hop : (d.op == opErase) = false := Bool.eq_false_of_not_eq_true fun h => by simp [Desc.writes, h] at hw
      rw [State.waitsJournal, hop, Bool.false_and, Bool.false_and]
    have he : s.issueLun d.lun aged = s.issueNow d 0 := by
      rw [State.issueLun_some hfind, hj, Bool.and_false, if_neg (by decide), State.tryIssue, hj, if_neg (by decide),
        if_pos (by rw [hw]; rfl)]
    obtain ⟨h1, h2, hf⟩ := State.issueNow_read hw hwp
    generalize s.issueNow d 0 = t at he h1 h2 hf
    exact runs_of_effect (congrArg (done s) he) ⟨h1, h2, hf⟩ fun u q ⟨h1, h2, hf⟩ => ⟨h1, h2, hf.finish q⟩
  · have he : s.issueLun lun aged = s := by
      rw [State.issueLun_some hfind, hv, Bool.false_and, Bool.false_and, if_neg (by decide), State.tryIssue, if_pos hj]
    exact runs_of_effect (congrArg (done s) he) ⟨rfl, rfl, rfl⟩ fun u q h => h
  · have he : s.suspendLun lun = s.setLun lun { s.lun lun with
        running := none, suspended := some { r with susp := r.susp + 1, wasSusp := true } } := by
      have hc (b : Bool) : (r.desc.writes && decide (6 ≤ r.desc.cls) && !r.desc.noSusp && (s.lun lun).suspended.isNone &&
          (((s.lun lun).queue.filter Desc.suspender).any (fun d => d.cls == 2) || b)) = true := by
        rw [hw, decide_eq_true hcls, hno, hsus, hany]
        rfl
      unfold State.suspendLun
      dsimp only
      rw [hr]
      exact if_pos (hc _)
    refine runs_of_effect (congrArg (done s) he) ⟨?_, ?_, ?_, frame_setLun _ _ _⟩
      fun u q ⟨h1, h2, h3, hf⟩ => ⟨h1, h2, h3, hf.finish q⟩
    · exact congrArg Lun.running (State.lun_setLun _ _ _)
    · exact congrArg Lun.suspended (State.lun_setLun _ _ _)
    · exact (congrArg Lun.queue (State.lun_setLun _ _ _)).trans rfl
  · have he : s.suspendLun lun = s := by
      unfold State.suspendLun
      dsimp only
      rw [hr]
      exact if_neg (by simp [hcls.not_ge])
    exact runs_of_effect (congrArg (done s) he) ⟨rfl, rfl⟩ fun u q h => h
end

section
/-! SUPPORT. The end of a flash read (R194, R198). -/

namespace Sys2Proof.Machine

section
variable {s : State} {r : FRun}

/-- A read that has no grant frees the LUN, gives its completion entry and lets the LUN's slots fill. -/
theorem State.opEnd_read (c : FCompl) (hop : r.desc.op = opRead) (hg : r.grant = 0) :
    s.opEnd r c = ((s.setLun r.desc.lun { s.lun r.desc.lun with running := none }).complete c).fillSlots r.desc.lun 16 := by
  unfold State.opEnd
  dsimp only
  rw [if_pos hg, if_neg (by rw [hop]; decide), if_neg (by rw [hop]; decide), if_neg (fun h => by rw [hop] at h; exact absurd h.1 (by decide))]

theorem State.opEnd_read_facts (c : FCompl) (hop : r.desc.op = opRead) (hg : r.grant = 0) :
    ((s.opEnd r c).lun r.desc.lun).running = none ∧ (s.opEnd r c).out = s.out ∧
      (s.opEnd r c).flc.compl = s.flc.compl ++ [c] ∧ (s.opEnd r c).flc.doneTags = s.flc.doneTags ++ [c.tag] ∧
      (s.opEnd r c).Frame s [.flc] [Reg.FLC_INFLIGHT_PEAK] := by
  rw [State.opEnd_read c hop hg]
  obtain ⟨⟨hout, hcompl, htags, hluns⟩, hf⟩ := slotsMoved_fillSlots
    ((s.setLun r.desc.lun { s.lun r.desc.lun with running := none }).complete c) r.desc.lun 16
  obtain ⟨q, p, hl⟩ := hluns r.desc.lun
  refine ⟨?_, hout, hcompl, htags, .trans (.mono (.next (frame_setLun _ _ _) (frame_complete _ _))) hf⟩
  rw [hl]
  exact congrArg Lun.running (State.lun_setLun s r.desc.lun _)

/-- Without a retry level no retry offsets were set, so none are set back (R194). -/
theorem State.retrySets_first (s : State) (lun best : Nat) : s.retrySets lun (s.retryOffsets lun 0 best false) = s := by
  have h : s.retryOffsets lun 0 best false = [] := by
    unfold State.retryOffsets
    split
    · rfl
    · exact if_pos ⟨rfl, rfl⟩
  unfold State.retrySets
  rw [h]
  split
  · rfl
  · exact if_pos rfl

/-- A read that decodes at level 0 without too many bits in error ends with its words moved. -/
theorem State.opComplete_read {lun best bits zeros us : Nat} {fail : Bool} (hr : (s.lun lun).running = some r)
    (hop : r.desc.op = opRead) (hb : bits ≤ s.get Reg.FLC_LDPC_CFG_REFRESH_BITS) :
    s.opComplete lun fail 0 best bits 0 0 zeros us = ((s.readMoves r.desc).foldl State.send s).opEnd r
      ⟨r.desc.tag, fsSuccess, 0, Nat.min 255 bits, r.cflags false false, 0, Nat.min 65535 zeros, us⟩ := by
  have hst : endStatus r.desc fail 0 zeros = fsSuccess := by
    simp [endStatus, hop, opRead, opProgram, opErase, opErasedCheck]
  have hrefresh : decide (s.get Reg.FLC_LDPC_CFG_REFRESH_BITS < bits) = false := decide_eq_false hb.not_gt
  unfold State.opComplete
  dsimp only
  rw [hr]
  dsimp only
  rw [hst, hrefresh]
  simp [hop, State.retrySets_first, fsSuccess, fsErased, fsUncorr, opRead, opGetFeature, opResetLun]

/-- Without device groups the reset of a LUN resets no other (R189). -/
theorem State.resetDone_alone (lun : Nat) (h : s.get Reg.FLC_IF_CFG_IFACE = 0) : s.resetDone lun = s := by
  unfold State.resetDone State.resetPeers
  rw [h]
  rfl

/-- The LUN of a read that timed out: reset, with the timeout noted and the read issued again (R208). -/
def Lun.retriedRead (l : Lun) (now : Nat) (r : FRun) : Lun :=
  { l with timeouts := l.timeouts ++ [now], pfail := l.pfail + 1, running := some { r with retried := true, wasReset := true } }

theorem State.resetSuspended_none {lun : Nat} (h : (s.lun lun).suspended = none) : s.resetSuspended lun = s := by
  unfold State.resetSuspended
  dsimp only
  rw [h]

theorem State.lunTimeouts_le (s : State) (l : Lun) : s.lunTimeouts l ≤ l.timeouts.length := List.length_filter_le _ _

theorem State.opTimeout_retry {lun : Nat} (hr : (s.lun lun).running = some r) (hsus : (s.lun lun).suspended = none)
    (hreads : r.desc.reads = true) (hretried : r.retried = false) (hv : s.vaulting = false)
    (hif : s.get Reg.FLC_IF_CFG_IFACE = 0) (hlim : (s.lun lun).timeouts.length + 1 < s.get Reg.FLC_TIMEOUT_CFG_LIMIT) :
    ∃ l, s.opTimeout lun true = ((s.incSat Reg.FLC_CNT_TIMEOUT_COUNT 1).setLun lun l).setLun lun
        ((s.lun lun).retriedRead s.secs r) := by
  unfold State.opTimeout
  extract_lets l s1 s2 src
  rw [show l.running = some r from hr]
  dsimp -zeta only
  extract_lets c s3
  have hl1 : s1.lun lun = { l with timeouts := l.timeouts ++ [s.secs], pfail := l.pfail + 1 } := State.lun_setLun _ _ _
  have hget (f : Fld) (h : f.key ≠ Reg.FLC_CNT_TIMEOUT_COUNT.key) : s1.get f = s.get f := State.get_incSat_other 1 h
  have h2 : s2 = s1 := by
    have hsus1 : (s1.lun lun).suspended = none := by rw [hl1]; exact hsus
    have hif1 := (hget Reg.FLC_IF_CFG_IFACE (by decide)).trans hif
    exact (congrArg (State.resetDone · lun) (State.resetSuspended_none hsus1)).trans (State.resetDone_alone lun hif1)
  have h3 : s3 = s1.setLun lun (l.retriedRead s.secs r) := by
    have hc : (r.desc.reads && !r.retried && !s.vaulting && true) = true := by rw [hreads, hretried, hv]; rfl
    refine (if_pos hc).trans ?_
    rw [show src = _ from (congrArg (State.lun · lun) h2).trans hl1, h2]
    rfl
  have hsmall : ¬((s3.lun lun).st = .active ∧ s3.get Reg.FLC_TIMEOUT_CFG_LIMIT ≤ s3.lunTimeouts (s3.lun lun)) := by
    have hle := State.lunTimeouts_le s3 (s3.lun lun)
    have hgot : s3.get Reg.FLC_TIMEOUT_CFG_LIMIT = s.get Reg.FLC_TIMEOUT_CFG_LIMIT := by
      rw [h3]
      exact hget _ (by decide)
    have hlen : (s3.lun lun).timeouts.length = (s.lun lun).timeouts.length + 1 := by
      rw [h3, State.lun_setLun]
      exact List.length_append
    omega
  exact ⟨_, ((if_neg (by decide)).trans (if_neg hsmall)).trans h3⟩

end

end Sys2Proof.Machine
end

section
/-! PROOF. -/

open Sys2Proof Sys2Proof.Machine

/-- Settles O19: a read that decodes at once ends its descriptor; one that times out is issued once more after the reset. -/
theorem flashEnds : Obligations.FlashEnds := by
  refine ⟨fun lun best bits zeros us fail r s hr hlun hop hg hb => ?_, fun lun r s hr hsus hreads hretried hv hif hlim => ?_⟩
  · subst hlun
    have he := State.opComplete_read (best := best) (zeros := zeros) (us := us) (fail := fail) hr hop hb
    obtain ⟨ho, hflc, hsent⟩ := State.out_foldl_send (s.readMoves r.desc) s
    obtain ⟨h1, h2, h3, h4, hf⟩ := State.opEnd_read_facts (s := (s.readMoves r.desc).foldl State.send s)
      ⟨r.desc.tag, fsSuccess, 0, Nat.min 255 bits, r.cflags false false, 0, Nat.min 65535 zeros, us⟩ hop hg
    rw [ho] at h2
    rw [hflc] at h3 h4
    have hf := State.Frame.trans hsent.mono hf
    rw [← he] at h1 h2 h3 h4 hf
    exact runs_of_effect rfl ⟨h1, h2, h3, h4, hf⟩ fun u q ⟨h1, h2, h3, h4, hf⟩ => ⟨h1, h2, h3, h4, hf.finish q⟩
  · obtain ⟨l, he⟩ := State.opTimeout_retry hr hsus hreads hretried hv hif hlim
    refine runs_of_effect (congrArg (done s) he) ⟨?_, ?_, rfl, ?_⟩ fun u q ⟨h1, h2, h3, hf⟩ => ⟨h1, h2, h3, hf.finish q⟩
    · exact congrArg Lun.running (State.lun_setLun _ _ _)
    · exact (congrArg Lun.timeouts (State.lun_setLun _ _ _)).trans rfl
    · exact .next (.next (.incSat (.refl _ _ _)) (frame_setLun _ _ _)) (frame_setLun _ _ _)
end

section
/-! SUPPORT. The copies of a record: the record sequence rises, and new record blocks stage entries (R151, R155, R163). -/

namespace Sys2Proof.Machine

/-- A later Grotto: its record sequence has not fallen, its journal and the collection are the same, and entries were staged behind the earlier. -/
def Grotto.Records (g h : Grotto) : Prop := g.recSeq ≤ h.recSeq ∧ h.journal = g.journal ∧ h.gc = g.gc ∧ ∃ l, h.staged = g.staged ++ l

section
variable {g h k : Grotto}

theorem Grotto.Records.same (hs : h.recSeq = g.recSeq) (hj : h.journal = g.journal) (hgc : h.gc = g.gc) (hst : h.staged = g.staged) : g.Records h :=
  ⟨hs.ge, hj, hgc, [], by rw [hst, List.append_nil]⟩

theorem Grotto.Records.refl (g : Grotto) : g.Records g := .same rfl rfl rfl rfl

theorem Grotto.Records.trans (h1 : g.Records h) (h2 : h.Records k) : g.Records k := by
  obtain ⟨hs, hj, hgc, l, hl⟩ := h1
  obtain ⟨ks, kj, kgc, m, hm⟩ := h2
  exact ⟨hs.trans ks, kj.trans hj, kgc.trans hgc, l ++ m, by rw [hm, hl, List.append_assoc]⟩

theorem Grotto.Records.foldl {α : Type} {f : Grotto → α → Grotto} (hf : ∀ (g : Grotto) x, g.Records (f g x)) (l : List α) (g : Grotto) :
    g.Records (l.foldl f g) := by
  induction l generalizing g with
  | nil => exact .refl g
  | cons x l ih => exact (hf g x).trans (ih _)

theorem Grotto.records_recPut (g : Grotto) (lun b : Nat) (p : RecPage) : g.Records (g.recPut lun b p) := .same rfl rfl rfl rfl

theorem Grotto.records_stage (g : Grotto) (secs code lun info b ec : Nat) : g.Records (g.stage secs code lun info b ec) :=
  ⟨le_rfl, rfl, rfl, _, rfl⟩

theorem Grotto.records_recTurn (g : Grotto) (e : RecEnv) (b : RecBlock) (copy gen : Nat) : g.Records (g.recTurn e b copy gen) := by
  unfold Grotto.recTurn
  extract_lets g1 g2
  have h1 : g.Records g1 := .same rfl rfl rfl rfl
  have h2 : g.Records g2 := by
    refine h1.trans (.foldl ?_ _ _)
    exact fun h x => ⟨Nat.le_succ _, rfl, rfl, [], (List.append_nil _).symm⟩
  split
  · exact h2.trans (Grotto.records_recPut _ _ _ _)
  · exact h2

theorem Grotto.records_recNew (g : Grotto) (e : RecEnv) (ch copy : Nat) : g.Records (g.recNew e ch copy) := by
  unfold Grotto.recNew
  split
  · exact .refl g
  · extract_lets free g1
    have h1 : g.Records g1 := by
      refine .foldl ?_ _ _
      exact fun h b => ⟨le_rfl, rfl, rfl, _, rfl⟩
    clear_value free g1
    split
    · exact h1.trans (Grotto.records_recTurn _ _ _ _ _)
    · exact h1

theorem Grotto.records_recReady (g : Grotto) (e : RecEnv) (ch copy margin : Nat) : g.Records (g.recReady e ch copy margin) := by
  unfold Grotto.recReady
  split
  · split
    · exact .refl g
    · split
      · exact Grotto.records_recTurn _ _ _ _ _
      · exact .refl g
  · split
    · exact Grotto.records_recTurn _ _ _ _ _
    · exact Grotto.records_recNew _ _ _ _

theorem RecRound.records_copy (e : RecEnv) (copy margin : Nat) (fails : List Nat) (seq : Nat) (body : RecBody) (chans : List Nat)
    (r : RecRound) : r.grt.Records (RecRound.copy e copy margin fails seq body chans r).grt := by
  induction chans generalizing r with
  | nil => exact .refl _
  | cons ch chans ih =>
    have hready := Grotto.records_recReady r.grt e ch copy margin
    unfold RecRound.copy
    extract_lets g
    split
    · exact hready.trans (ih { r with grt := g })
    next l b p _ =>
      split
      · exact (hready.trans (Grotto.records_recPut g l b _)).trans
          (ih ⟨g.recPut l b ⟨seq, copy, .waste, false⟩, r.good, r.bad ++ [(l, b)]⟩)
      · exact hready.trans (Grotto.records_recPut g l b _)

theorem Grotto.records_recRound (g : Grotto) (e : RecEnv) (margin : Nat) (lists : List (List Nat)) (fails : List Nat)
    (body : RecBody) : ({ g with recSeq := g.recSeq + 1 } : Grotto).Records (g.recRound e margin lists fails body).grt := by
  have hfold (l : List (List Nat × Nat)) (r : RecRound) : r.grt.Records
      (l.foldl (fun r x => RecRound.copy e x.2 margin fails (g.recSeq + 1) body x.1 r) r).grt := by
    induction l generalizing r with
    | nil => exact .refl _
    | cons x l ih => exact (RecRound.records_copy e x.2 margin fails _ body x.1 r).trans (ih _)
  exact hfold lists.zipIdx ⟨{ g with recSeq := g.recSeq + 1 }, [], []⟩

/-- A page that a record channel takes carries the first 1,021 staged entries to the journal. -/
theorem Grotto.journalPage_taken (g : Grotto) (e : RecEnv) (hst : g.staged ≠ [])
    (hgood : (g.recRound e 4 ((e.groups.filter (fun l => !l.isEmpty)).take 2) []
      (.journal g.journal.length (Nat.min 1021 g.staged.length))).good ≠ []) :
    g.recSeq < (g.journalPage e).recSeq ∧ (g.journalPage e).gc = g.gc ∧ ∃ l, (g.journalPage e).journal ++ (g.journalPage e).staged =
      g.journal ++ g.staged ++ l ∧ (g.journalPage e).staged = g.staged.drop 1021 ++ l := by
  obtain ⟨hseq, hj, hgc, l, hl⟩ := Grotto.records_recRound g e 4 ((e.groups.filter (fun l => !l.isEmpty)).take 2) []
    (.journal g.journal.length (Nat.min 1021 g.staged.length))
  have hpos : ¬Nat.min 1021 g.staged.length = 0 := by
    have := List.length_pos_iff.2 hst
    simp only [Nat.min_def]
    split <;> omega
  have hdrop : g.staged.drop (Nat.min 1021 g.staged.length) = g.staged.drop 1021 := by
    rcases Nat.le_total 1021 g.staged.length with h | h
    · rw [show Nat.min 1021 g.staged.length = 1021 from Nat.min_eq_left h]
    · rw [show Nat.min 1021 g.staged.length = g.staged.length from Nat.min_eq_right h, List.drop_length, List.drop_of_length_le h]
  have hle : Nat.min 1021 g.staged.length ≤ g.staged.length := Nat.min_le_right _ _
  unfold Grotto.journalPage
  dsimp only
  rw [if_neg (not_or.2 ⟨hpos, hgood⟩), hl, List.drop_append_of_le_length hle]
  refine ⟨hseq, hgc, l, ?_, congrArg (· ++ l) hdrop⟩
  calc _ = g.journal ++ (g.staged.take _ ++ g.staged.drop _) ++ l := by
        rw [hj]; simp only [List.append_assoc]; rfl
    _ = g.journal ++ g.staged ++ l := by rw [List.take_append_drop]

end

/-! The map after a copied stripe (R170), and the log without the victim. -/

/-- A fold of which only one step does something. -/
theorem foldl_only {α β : Type} {f : β → α → β} {a : α} (l : List α) (hf : ∀ t e, e ∈ l → e ≠ a → f t e = t) (hnd : l.Nodup)
    (ha : a ∈ l) (s : β) : l.foldl f s = f s a := by
  have hid (m : List α) (hm : ∀ e ∈ m, e ∈ l ∧ e ≠ a) (t : β) : m.foldl f t = t := by
    induction m generalizing t with
    | nil => rfl
    | cons e m ih =>
      obtain ⟨h1, h2⟩ := hm e List.mem_cons_self
      rw [List.foldl_cons, hf t e h1 h2]
      exact ih (fun e he => hm e (List.mem_cons_of_mem _ he)) t
  obtain ⟨u, v, rfl⟩ := List.append_of_mem ha
  obtain ⟨-, hv, hdis⟩ := List.nodup_append.1 hnd
  have hu (e) (he : e ∈ u) : e ≠ a := fun h => hdis e he a List.mem_cons_self h
  have hva (e) (he : e ∈ v) : e ≠ a := fun h => (List.nodup_cons.1 hv).1 (h ▸ he)
  rw [List.foldl_append, List.foldl_cons, hid u (fun e he => ⟨List.mem_append_left _ he, hu e he⟩),
    hid v (fun e he => ⟨List.mem_append_right _ (List.mem_cons_of_mem _ he), hva e he⟩)]

section
variable {s : State}

theorem State.gcPump_vaulting (h : s.vaulting = true) : s.gcPump = s := by
  unfold State.gcPump
  split
  · rfl
  · split
    · unfold State.gcErase
      split
      · rfl
      · exact if_pos (.inr (.inr (.inl h)))
    · exact if_pos (.inr (.inr (.inl h)))

theorem State.gcCheck_vaulting (h : s.vaulting = true) (now : Bool) : s.gcCheck now = s := if_pos (by rw [h]; simp)

theorem State.finishEvacuation_none (h : ∀ n, s.evacuating n = false) : s.finishEvacuation = s := by
  have hnone : mfilter (fun n _ => s.evacuating n) s.flc.luns = [] := List.filter_eq_nil_iff.2 fun e _ => ne_true_of_eq_false (h e.1)
  unfold State.finishEvacuation
  rw [hnone]
  rfl

/-- R170's step for the one version of a copied stripe. -/
theorem State.gcRemap_one {f : Flight} {d k : Nat} {v w : GVer} {g : Gc} {l : Nat × Nat × Nat} {old : Stripe}
    (hd : d < 15) (hother : ∀ e, e < 15 → e ≠ d → f.stripe.pageVers e = []) (hpage : f.stripe.pageVers d = [(k, v)])
    (hgc : s.grt.gc = some g) (hloc : (s.ent (s.verGran v)).loc = some l) (hold : s.stripeOf l.1 = some old)
    (hver : s.verAt l = some w) : s.gcRemap f =
      if old.band = g.victim ∧ w.seq = v.seq then s.mapTo (s.verGran v) f.stripe.serial d k else s := by
  unfold State.gcRemap
  extract_lets x victim
  rw [foldl_only (a := d) _ (fun t e he hne => by rw [hother e (List.mem_range.1 he) hne]; rfl) List.nodup_range (List.mem_range.2 hd),
    hpage]
  simp only [List.foldl_cons, List.foldl_nil, hloc, hold, hver, victim, hgc, Option.map_some, Option.getD_some]
  rfl

/-- What the end of the victim's erases stages and marks before the log loses it (R170). -/
theorem State.gcDone_blocks (l : List (Nat × Nat)) (s : State) : ∃ tbl staged, (l.foldl (fun (t : State) y =>
    let v := t.blk y.1 y.2
    if v.st = .erased then t.journalEntry 2 y.1 0 y.2 v.ec
    else if v.st = .inBand then t.setBlk y.1 y.2 { v with st := .unknown, half := true } else t) s) =
      { s with grt := { s.grt with tbl := tbl, staged := staged } } := by
  induction l generalizing s with
  | nil => exact ⟨_, _, rfl⟩
  | cons y l ih =>
    rw [List.foldl_cons]
    dsimp only
    split
    · obtain ⟨tbl, st, h⟩ := ih (s.journalEntry 2 y.1 0 y.2 (s.blk y.1 y.2).ec)
      exact ⟨tbl, st, h⟩
    · split
      · obtain ⟨tbl, st, h⟩ := ih (s.setBlk y.1 y.2 { s.blk y.1 y.2 with st := .unknown, half := true })
        exact ⟨tbl, st, h⟩
      · exact ih s

theorem State.gcDone_facts (g : Gc) (hv : s.vaulting = true) (he : ∀ n, s.evacuating n = false) :
    (s.gcDone g).grt.gc = none ∧ (s.gcDone g).grt.gcCount = s.grt.gcCount + 1 ∧
      (s.gcDone g).grt.bands = s.grt.bands.filter (fun b => b.num != g.victim) ∧
      (s.gcDone g).grt.stripes = s.grt.stripes.filter (fun x => x.band != g.victim) ∧ (s.gcDone g).cache = s.cache := by
  obtain ⟨tbl, staged, hblocks⟩ := State.gcDone_blocks g.blocks s
  unfold State.gcDone
  extract_lets s1 src s2 s3
  have hs1 : s1 = { s with grt := { s.grt with tbl := tbl, staged := staged } } := hblocks
  clear_value s1
  subst hs1
  have hf := frame_grtSync ((s2.incSat Reg.GRT_GC_STAT_BANDS 1).put Reg.GRT_STATUS_GC_ACTIVE 0)
  obtain ⟨sp, ro, hg⟩ := State.grt_grtSync ((s2.incSat Reg.GRT_GC_STAT_BANDS 1).put Reg.GRT_STATUS_GC_ACTIVE 0)
  have h3 : s3 = ((s2.incSat Reg.GRT_GC_STAT_BANDS 1).put Reg.GRT_STATUS_GC_ACTIVE 0).grtSync := by
    refine State.finishEvacuation_none fun n => Eq.trans ?_ (he n)
    rw [State.evacuating, State.lun, hf.sameFlc]
    rfl
  have hv2 : s3.vaulting = true := by
    rw [h3, State.vaulting, hf.sameVlt]
    exact hv
  have hgone : s3.grt.gc = none := by rw [h3, hg]; rfl
  rw [State.gcCheck_vaulting hv2, State.gcPump_idle hgone]
  refine ⟨hgone, ?_⟩
  rw [h3, hg]
  exact ⟨rfl, rfl, rfl, hf.sameCache⟩

/-- A flight that is dropped is no more in flight. -/
theorem State.flightOf_dropFlight (s : State) (f : Flight) : (s.dropFlight f).flightOf f.stripe.serial = none := by
  have hnone : (s.endFlight f.stripe.serial).flightOf f.stripe.serial = none :=
    List.find?_eq_none.2 fun e he => by
      have := (List.mem_filter.1 he).2
      simpa using this
  unfold State.dropFlight
  dsimp only
  split
  · exact hnone
  · rw [State.flightOf, (frame_leaveReturn _ _).sameGrt]
    exact hnone

end

end Sys2Proof.Machine
end

section
/-! PROOF. -/

open Sys2Proof Sys2Proof.Machine

/-- Settles O22: the page of the journal that a channel takes, and what garbage collection leaves of map and log at a trip. -/
theorem grottoWork : Obligations.GrottoWork := by
  refine ⟨fun s => ?_, fun s hform hst hsafe hgc htake => ?_,
    fun serial d k f v w g l old s hfl hw hwait hfail hk hv hgc hd hother hpage hloc hold hver => ?_,
    fun g s hgc hstage hpend hv hev => ?_⟩
  · exact runs_of_effect rfl ⟨State.flag_put_zero _ _, .put (.refl _ _ _)⟩ fun u q ⟨h1, hf⟩ => ⟨h1, hf.finish q⟩
  · obtain ⟨hseq, hpgc, l, hall, hrest⟩ := Grotto.journalPage_taken s.grt s.recEnv hst htake
    have hflush : s.journalFlush = ({ s with grt := s.grt.journalPage s.recEnv } : State).gcErase :=
      if_neg (not_or.2 ⟨hst, by rw [hsafe]; decide⟩)
    have hidle : ({ s with grt := s.grt.journalPage s.recEnv } : State).gcErase = { s with grt := s.grt.journalPage s.recEnv } := by
      unfold State.gcErase
      rw [hpgc.trans hgc]
    have he : execJournalFlushTimer s = done s { s with grt := s.grt.journalPage s.recEnv } :=
      congrArg (done s) ((if_pos hform).trans (hflush.trans hidle))
    exact runs_of_effect he ⟨hseq, ⟨l, hall, hrest⟩, .withGrt (.refl _ _ _)⟩ fun u q ⟨h1, h2, hf⟩ => ⟨h1, h2, hf.finish q⟩
  · have hser : f.stripe.serial = serial := by
      have := List.find?_some hfl
      exact eq_of_beq this
    have he : execGcStripeProgrammed serial s = done s (((s.gcRemap f).dropFlight f).gcPump) := by
      unfold execGcStripeProgrammed
      rw [hfl]
      refine congrArg (done s) ((if_pos ⟨hw, hwait⟩).trans ?_)
      rw [State.gcAccount, hfail]
      rfl
    have hremap := State.gcRemap_one hd hother hpage hgc hloc hold hver
    have hf : (s.gcRemap f).Frame s [.cache] [] := by
      rw [hremap]
      exact .ite (frame_mapTo _ _ _ _ _) (.refl _ _ _)
    have hd := frame_dropFlight (s.gcRemap f) f
    have hnone := State.flightOf_dropFlight (s.gcRemap f) f
    rw [hser] at hnone
    rw [State.gcPump_vaulting (by rw [State.vaulting, hd.sameVlt, hf.sameVlt]; exact hv)] at he
    rw [State.mapTo_known hk, hser] at hremap
    have hcache := hd.sameCache.trans (congrArg State.cache hremap)
    have hnamed (hb : old.band = g.victim) (hq : w.seq = v.seq) :
        (((s.gcRemap f).dropFlight f).ent (s.verGran v)).loc = some (serial, d, k) := by
      rw [State.ent, hcache, if_pos ⟨hb, hq⟩]
      exact congrArg MapEnt.loc (State.ent_setEnt _ _ _)
    have hleft (hb : old.band ≠ g.victim) : ((s.gcRemap f).dropFlight f).cache = s.cache := by
      rw [hcache, if_neg fun h => hb h.1]
    have hbytes : ((s.gcRemap f).dropFlight f).cache.cells = s.cache.cells ∧
        ((s.gcRemap f).dropFlight f).cache.grans = s.cache.grans := by
      rw [hcache]
      split
      · exact ⟨rfl, rfl⟩
      · exact ⟨rfl, rfl⟩
    generalize (s.gcRemap f).dropFlight f = t at he hnone hnamed hleft hbytes
    exact runs_of_effect he ⟨hnone, hnamed, hleft, hbytes.1, hbytes.2⟩ fun u q h => h
  · obtain ⟨h1, h2, h3, h4, h5⟩ := State.gcDone_facts g hv hev
    have he : execGcEraseDone s = done s (s.gcDone g) := by
      unfold execGcEraseDone
      rw [hgc]
      exact congrArg (done s) (if_pos ⟨hstage, by rw [hpend]; rfl⟩)
    generalize s.gcDone g = t at he h1 h2 h3 h4 h5
    exact runs_of_effect he ⟨h1, h2, h3, h4, h5⟩ fun u q h => h
end

section
/-! SUPPORT. A read that arrives with nothing waiting before it (R39, R74, R379). -/

namespace Sys2Proof.Machine

section
variable {s : State}

theorem State.pmrBytes_dropRequest (s : State) : s.dropRequest.pmrBytes = s.pmrBytes := by
  have hcap : s.dropRequest.capGiB = s.capGiB := (frame_dropRequest s).get Reg.DMC_GEOM_CAP_GIB
  rw [State.pmrBytes, State.ownGrans, State.pair, (frame_dropRequest s).flag Reg.ECH_STATUS_PAIR_MODE, State.cacheGrans, hcap]
  rfl

theorem State.portQueue_dropRequest (s : State) (p : Port) : s.dropRequest.portQueue p = s.portQueue p := by
  cases p
  · rfl
  · rfl

theorem State.asleep_dropRequest (h : s.InRun) : s.dropRequest.asleep = false := by
  rw [State.asleep, (frame_dropRequest s).get Reg.PWR_STATUS_STATE]
  exact State.asleep_of_run h

/-- A claimed read with nothing waiting before it is ordered at once. -/
theorem State.readArrives_run {p : Port} {addr len : Nat} (hc : s.Claims p) (hn : s.NoneWaiting p) :
    s.readArrives p addr len = s.dropRequest.orderRead p addr len := by
  obtain ⟨hrun, hmem, -⟩ := hc
  have hq : (s.dropRequest.portQueue p).isEmpty = true := by
    rw [State.portQueue_dropRequest, List.isEmpty_iff]
    exact hn
  have hm : s.dropRequest.portMem p = true := hmem
  unfold State.readArrives
  dsimp only
  rw [State.touch_run hrun (by decide), if_neg (by rw [hm]; decide), if_neg (by rw [State.asleep_dropRequest hrun, hq]; decide)]

theorem State.pmrRead_run {p : Port} {addr len : Nat} (hc : s.Claims p) (hn : s.NoneWaiting p) :
    exec (.pmrRead p addr len) s = done s (s.dropRequest.orderRead p addr len) := by
  have he : exec (.pmrRead p addr len) s = done s (if s.portLive p then s.orHold p (.pmrRead p addr len)
    (fun t => t.readArrives p addr len) else s) := rfl
  rw [he, if_pos (State.portLive_of_mem hc.2.1), State.orHold_of hc.2.2, State.readArrives_run hc hn]

theorem State.orderRead_served {p : Port} {addr len : Nat} (he : (s.port p).pmrEn = true) (hst : s.pmr.st ≠ .closed)
    (hlen : addr + len ≤ s.pmrBytes) : s.orderRead p addr len = s.serveRead p addr len := by
  have hst' : (s.pmr.st == .closed) = false := beq_eq_false_iff_ne.2 hst
  exact if_neg (by rw [he, hst', decide_eq_false hlen.not_gt]; decide)

/-- The bytes of a granule that stands in DRAM without errors are the answer. -/
theorem State.serveRead_present {p : Port} {addr len : Nat} (hp : s.Present (addr / 4096)) (herr : s.errsIn addr len = []) :
    s.serveRead p addr len = s.send (.cpl p .success false (loadBytes s.cache.cells addr len)) := by
  obtain ⟨hst, -, hfroz, -⟩ := hp
  have hread : s.readData .host addr len = (s, true) := by
    rw [State.readData, herr]
    rfl
  unfold State.serveRead
  dsimp only
  rw [hfroz, hst, if_neg (by decide), if_neg (by decide), if_neg (by decide), State.answerRead, if_neg (by rw [hst]; decide), hread]
  rfl

/-- A read of a granule that is not copied waits for its fetch. -/
theorem State.serveRead_notCopied {p : Port} {addr len : Nat} (hfroz : s.granFrozen (addr / 4096) = false)
    (hst : (s.ent (addr / 4096)).st = .notCopied) : (s.serveRead p addr len).out = s.out ∧
      (s.serveRead p addr len).pmr.waitReads = s.pmr.waitReads ++ [WaitRead.mk p addr len] ∧
      ((s.serveRead p addr len).ent (addr / 4096)).st = .fetching ∧ (s.serveRead p addr len).cache.cells = s.cache.cells := by
  have hfetch : s.startFetch (addr / 4096) true = (s.setEnt (addr / 4096)
      { s.ent (addr / 4096) with st := .fetching, fromPeer := false, demand := true }).incSat Reg.VLT_DEMAND_CNT_COUNT 1 :=
    if_pos hst
  unfold State.serveRead
  dsimp only
  rw [hfroz, hst, if_neg (by decide), if_pos (show MapSt.notCopied.absent = true from rfl), hfetch]
  exact ⟨rfl, rfl, (congrArg MapEnt.st (State.ent_setEnt _ _ _)).trans rfl, rfl⟩

/-- An AER error leaves what was sent before it. -/
theorem State.mem_out_aer {o : Out} (h : o ∈ s.out) (p : Port) (bit : Nat) : o ∈ (s.aer p bit).out := by
  unfold State.aer
  dsimp only
  split
  · rw [State.setPort_out]
    exact h
  · refine List.mem_append_left _ ?_
    rw [State.setPort_out]
    exact h

theorem State.mem_out_refuseRead (s : State) (p : Port) : Out.cpl p .unsupported false [] ∈ (s.refuseRead p).out :=
  State.mem_out_aer (List.mem_append_right _ List.mem_cons_self) p _

end

end Sys2Proof.Machine
end

section
/-! PROOF. -/

open Sys2Proof Sys2Proof.Machine

/-- Settles O9: a read of present granules returns their bytes, one of a granule not copied waits, and with EN = 0 it is refused. -/
theorem pmrReads : Obligations.PmrReads := by
  refine ⟨fun p addr len s hc hn hen hst hlen hp herr => ?_, fun p addr len s hc hn hen hst hlen hfroz hnot => ?_,
    fun p addr len s hc hn hen => ?_⟩
  all_goals have hd := frame_dropRequest s
  all_goals have he := State.pmrRead_run (addr := addr) (len := len) hc hn
  · rw [State.orderRead_served (s := s.dropRequest) hen hst (by rw [State.pmrBytes_dropRequest]; exact hlen), State.serveRead_present (s := s.dropRequest) ?_ herr] at he
    · exact runs_of_effect he ⟨rfl, .send hd⟩ fun u q ⟨h1, hf⟩ => ⟨h1, hf.finish q⟩
    · obtain ⟨h1, h2, h3, h4⟩ := hp
      have hfroz := hd.granFrozen_eq (by decide) (by decide) (addr / 4096)
      refine ⟨h1, h2, hfroz.trans h3, ?_⟩
      rw [State.granCovered, hfroz, h3]
      rfl
  · rw [State.orderRead_served (s := s.dropRequest) hen hst (by rw [State.pmrBytes_dropRequest]; exact hlen)] at he
    have hfroz := (hd.granFrozen_eq (by decide) (by decide) (addr / 4096)).trans hfroz
    obtain ⟨h1, h2, h3, h4⟩ := State.serveRead_notCopied (p := p) (len := len) hfroz hnot
    generalize s.dropRequest.serveRead p addr len = t at he h1 h2 h3 h4
    exact runs_of_effect he ⟨h1, h2, h3, h4⟩ fun u q h => h
  · have hrefuse : s.dropRequest.orderRead p addr len = s.dropRequest.refuseRead p :=
      if_pos (by rw [show (s.dropRequest.port p).pmrEn = false from hen]; rfl)
    rw [hrefuse] at he
    have hcache : (s.dropRequest.refuseRead p).cache = s.cache := State.aer_cache _ _ _
    have hpmr : (s.dropRequest.refuseRead p).pmr = s.pmr := State.aer_pmr _ _ _
    exact runs_of_effect he ⟨State.mem_out_refuseRead _ p, hcache, hpmr⟩ fun u q h => h
end

section
/-! SUPPORT. PMR writes -/

namespace Sys2Proof.Machine

theorem frame_noteWait (s : State) : s.noteWait.Frame s [.umb] [] := by
  unfold State.noteWait
  exact .ite (.withUmb (.refl _ _ _)) (.refl _ _ _)

end Sys2Proof.Machine
end

section
/-! SUPPORT. A write TLP that arrives (R34, R74). -/

namespace Sys2Proof.Machine

section
variable {s : State} {p : Port} {addr : Nat} {data : List Byte} {be : List Bool}

theorem State.writable_dropRequest (s : State) (p : Port) (addr len : Nat) : s.dropRequest.writable p addr len = s.writable p addr len := by
  rw [State.writable, State.pmrBytes_dropRequest]
  rfl

theorem State.portQueue_setPortQueue (s : State) (p : Port) (q : List PortItem) : (s.setPortQueue p q).portQueue p = q := by
  cases p
  · rfl
  · rfl

theorem State.setPortQueue_eq (s : State) (p : Port) (q : List PortItem) : ∃ a b, s.setPortQueue p q =
    { s with pmr := { s.pmr with queueA := a, queueB := b } } := by
  cases p
  · exact ⟨_, _, rfl⟩
  · exact ⟨_, _, rfl⟩

theorem State.portQueue_congr {t : State} (h : t.pmr = s.pmr) (p : Port) : t.portQueue p = s.portQueue p := by
  cases p
  · exact congrArg Pmr.queueA h
  · exact congrArg Pmr.queueB h

/-- A claimed write in the room of its port's share arrives at once. -/
theorem State.writeTlp_claimed (ep ecrcErr : Bool) (hc : s.Claims p) (hroom : queueBytes (s.portQueue p) + data.length ≤ s.portShare) :
    exec (.pmrWriteTlp p addr data be ep ecrcErr) s = done s (s.writeArrives p addr data be ep ecrcErr) := by
  have he : exec (.pmrWriteTlp p addr data be ep ecrcErr) s = execPmrWriteTlp p addr data be ep ecrcErr s := rfl
  rw [he, execPmrWriteTlp, if_neg (by rw [State.portLive_of_mem hc.2.1]; decide), if_pos (show s.shareRoom p data.length = true from decide_eq_true hroom), State.orHold_of hc.2.2]

/-- Which check of R34 decides a write without an ECRC error. -/
theorem State.writeArrives_run (ep : Bool) (hc : s.Claims p) : s.writeArrives p addr data be ep false =
    if ep then s.dropRequest.aer p aerPoisoned
    else if be.all (fun b => !b) then s.dropRequest
    else if (s.portQueue p).isEmpty && !s.writable p addr data.length then s.dropRequest.discardWrite p
    else (s.dropRequest.pushItem p (.write addr data be)).noteWait := by
  obtain ⟨hrun, hmem, -⟩ := hc
  have hm : s.dropRequest.portMem p = true := hmem
  unfold State.writeArrives
  dsimp only
  rw [State.touch_run hrun (by decide), if_neg (by rw [hm]; decide), Bool.false_and, if_neg (by decide), State.portQueue_dropRequest,
    State.asleep_dropRequest hrun, State.writable_dropRequest, Bool.not_false, Bool.and_true]

theorem State.pushed_facts (s : State) (p : Port) (i : PortItem) : (s.pushItem p i).noteWait.portQueue p = s.portQueue p ++ [i] ∧
    (s.pushItem p i).noteWait.cache = s.cache ∧ (s.pushItem p i).noteWait.pmr.nextSeq = s.pmr.nextSeq := by
  have hf : (s.pushItem p i).noteWait.Frame (s.setPortQueue p (s.portQueue p ++ [i])) [.umb]
      [Reg.UMB_STATUS_THR_A, Reg.UMB_STATUS_THR_B, Reg.UMB_STATUS_THR_EV] :=
    .next (.next (.refl _ _ _) (frame_syncThr _ _)) (frame_noteWait _)
  obtain ⟨a, b, h⟩ := State.setPortQueue_eq s p (s.portQueue p ++ [i])
  refine ⟨(State.portQueue_congr hf.samePmr p).trans (State.portQueue_setPortQueue _ _ _), ?_, ?_⟩
  · rw [hf.sameCache, h]
  · rw [hf.samePmr, h]

theorem State.discardWrite_facts (s : State) (p : Port) : (s.discardWrite p).pmr = s.pmr ∧ (s.discardWrite p).cache = s.cache ∧
    (s.discardWrite p).host.discarded = s.host.discarded + 1 := by
  have hf := frame_discardWrite s p
  refine ⟨hf.samePmr, hf.sameCache, ?_⟩
  unfold State.discardWrite State.aer
  dsimp only
  split
  · cases p
    · rfl
    · rfl
  · cases p
    · rfl
    · rfl

end

end Sys2Proof.Machine
end

section
/-! SUPPORT. The sequencing of a write (R35, R36, R45). -/

namespace Sys2Proof.Machine

section
variable {s : State} {p : Port} {addr : Nat} {data : List Byte} {be : List Bool}

theorem State.noteWait_eq (s : State) : ∃ w, s.noteWait = { s with umb := { s.umb with waited := w } } := by
  unfold State.noteWait
  split
  · exact ⟨true, rfl⟩
  · exact ⟨_, rfl⟩

theorem State.headReady_noteWait (s : State) (p : Port) : s.noteWait.headReady p = s.headReady p := by
  unfold State.noteWait
  split
  · rfl
  · rfl

theorem State.storeData_clean (h : s.dramClean = true) (port : DPort) (a : Nat) (data : List Byte) (be : List Bool) :
    s.storeData port a data be = ({ s with cache := { s.cache with cells := storeEnabled s.cache.cells a data be } }, true) := by
  unfold State.storeData
  dsimp only
  rw [if_pos h]
  exact if_pos rfl

theorem State.applyWrite_present {g off : Nat} (hp : s.Present g) (h : s.dramClean = true) (data : List Byte) (be : List Bool) :
    s.applyWrite g off data be = { s with cache := { s.cache with cells := storeEnabled s.cache.cells (g * 4096 + off) data be } } := by
  obtain ⟨hst, hpois, -, -⟩ := hp
  unfold State.applyWrite
  dsimp only
  rw [State.storeData_clean h]
  dsimp only
  rw [if_neg (by decide), hpois]
  exact if_neg fun hn => absurd (hst.symm.trans hn) (by decide)

/-- A write to a granule that stands in DRAM takes the next sequence, is stored, and makes its granule dirty. -/
theorem State.acceptWrite_present (hp : s.Present (addr / 4096)) (h : s.dramClean = true) (hpair : s.pair = false) :
    s.acceptWrite addr data be = ({ s with
      pmr := { s.pmr with nextSeq := s.pmr.nextSeq + 1 },
      cache := { s.cache with cells := storeEnabled s.cache.cells (addr / 4096 * 4096 + addr % 4096) data be } } : State).markDirty
        (addr / 4096) s.pmr.nextSeq s.pmr.epoch := by
  obtain ⟨hst, -, hfroz, -⟩ := id hp
  unfold State.acceptWrite
  extract_lets g seq epoch src s1 s2
  have hp1 : s1.Present g := hp
  have h2 : s2 = ({ s1 with cache := { s1.cache with cells := storeEnabled s.cache.cells (g * 4096 + addr % 4096) data be } } : State).markDirty
      g seq epoch := by
    refine (if_neg (by rw [show s1.granFrozen g = false from hfroz]; decide)).trans ?_
    unfold State.commitWrite
    dsimp only
    rw [if_neg (by rw [show (s1.ent g).st = .copied from hst]; decide), State.applyWrite_present hp1 h]
  rw [h2]
  exact if_pos (congrArg not hpair)

/-- What the write at the head of a queue leaves once it has its sequence. -/
structure State.Sequenced (s t : State) (p : Port) (addr : Nat) (data : List Byte) (be : List Bool) : Prop where
  nextSeq : t.pmr.nextSeq = s.pmr.nextSeq + 1
  queue : t.portQueue p = []
  cells : t.cache.cells = storeEnabled s.cache.cells (addr / 4096 * 4096 + addr % 4096) data be
  gran : (t.gran (addr / 4096)).dirty = true ∧ (t.gran (addr / 4096)).seq = s.pmr.nextSeq ∧ (t.gran (addr / 4096)).epoch = s.pmr.epoch
  flow : t.flow = s.flow

theorem State.gran_markDirty (s : State) (g seq epoch : Nat) :
    (s.markDirty g seq epoch).gran g = { s.gran g with dirty := true, seq := seq, epoch := epoch } :=
  congrArg (·.getD GState.none) (mget_mset_same s.cache.grans g _)

theorem State.sequenced_head (hq : s.portQueue p = [.write addr data be]) (hp : s.Present (addr / 4096)) (h : s.dramClean = true)
    (hpair : s.pair = false) : s.Sequenced (s.sequenceHead p) p addr data be := by
  obtain ⟨a, b, hset⟩ := State.setPortQueue_eq s p []
  have hempty := State.portQueue_setPortQueue s p []
  rw [hset] at hempty
  unfold State.sequenceHead
  rw [hq]
  dsimp only
  rw [hset, State.acceptWrite_present (s := { s with pmr := { s.pmr with queueA := a, queueB := b } }) hp h hpair]
  generalize hu : State.markDirty _ _ _ _ = u
  have hempty' : u.portQueue p = [] := by
    rw [← hempty, ← hu]
    cases p
    · rfl
    · rfl
  obtain ⟨a', b', hset'⟩ := State.setPortQueue_eq u p []
  have hf := frame_syncThr (u.setPortQueue p []) p
  rw [hempty', show u.drainReads p [] = u.setPortQueue p [] from rfl]
  have hpmr : (u.setPortQueue p []).pmr.nextSeq = s.pmr.nextSeq + 1 := by rw [hset', ← hu]; rfl
  have hcache : (u.setPortQueue p []).cache = u.cache := by rw [hset']
  refine ⟨(congrArg Pmr.nextSeq hf.samePmr).trans hpmr, (State.portQueue_congr hf.samePmr p).trans (State.portQueue_setPortQueue _ _ _), ?_, ?_, ?_⟩
  · rw [hf.sameCache, hcache, ← hu]
    rfl
  · rw [State.gran, hf.sameCache, hcache, ← hu]
    have hg (v : State) := State.gran_markDirty v (addr / 4096) s.pmr.nextSeq s.pmr.epoch
    exact ⟨congrArg GState.dirty (hg _), congrArg GState.seq (hg _), congrArg GState.epoch (hg _)⟩
  · rw [hf.sameFlow, hset', ← hu]
    rfl

theorem State.flowBoth_idle (h : s.flow = []) : s.flowBoth = s := by
  unfold State.flowBoth
  rw [h]
  dsimp only [List.length_nil, State.flowOn]
  rw [h]
  rfl

theorem loadByte_storeEnabled_beyond (bs : List Byte) (es : List Bool) (m : List Host.Cell) (a x : Nat) (h : a + bs.length ≤ x) :
    loadByte (storeEnabled m a bs es) x = loadByte m x := by
  induction bs generalizing es m a with
  | nil => rfl
  | cons b bs ih =>
    rw [List.length_cons] at h
    cases es with
    | nil => rfl
    | cons e es =>
      rw [storeEnabled, ih es _ (a + 1) (by omega)]
      split
      · exact mgetD_mput_ne _ _ _ (by omega)
      · rfl

end

end Sys2Proof.Machine
end

section
/-! PROOF. -/

open Sys2Proof Sys2Proof.Machine

/-- Settles O8: what becomes of a write TLP at its port, and of the write at the head of a queue. -/
theorem pmrWrites : Obligations.PmrWrites := by
  refine ⟨fun p addr data be s hc hroom hbe hw => ?_, fun p addr data be s hc hroom => ?_,
    fun p addr data be s hc hn hroom hbe hw => ?_, fun p addr data be ep ecrcErr s hlive hfull => ?_,
    fun p addr ns data be s has hflow hq hready hpair hp hclean => ?_⟩
  · have he := State.writeTlp_claimed (addr := addr) (be := be) false false hc hroom
    rw [State.writeArrives_run false hc, if_neg (by decide), if_neg (by rw [hbe]; decide), hw, Bool.not_true, Bool.and_false,
      if_neg (by decide)] at he
    obtain ⟨h1, h2, h3⟩ := State.pushed_facts s.dropRequest p (.write addr data be)
    rw [State.portQueue_dropRequest] at h1
    generalize (s.dropRequest.pushItem p (.write addr data be)).noteWait = t at he h1 h2 h3
    exact runs_of_effect he ⟨h1, h2, h3⟩ fun u q ⟨h1, h2⟩ => ⟨(State.portQueue_congr rfl p).trans h1, h2⟩
  · have he := State.writeTlp_claimed (addr := addr) (be := be) true false hc hroom
    rw [State.writeArrives_run true hc, if_pos rfl] at he
    exact runs_of_effect he ⟨State.aer_pmr _ _ _, State.aer_cache _ _ _⟩ fun u q h => h
  · have he := State.writeTlp_claimed (p := p) (data := data) (addr := addr) (be := be) false false hc (by rw [hn]; simpa [queueBytes] using hroom)
    rw [State.writeArrives_run false hc, if_neg (by decide), if_neg (by rw [hbe]; decide), hw, hn, if_pos (by rfl)] at he
    exact runs_of_effect he (State.discardWrite_facts s.dropRequest p) fun u q h => h
  · have he : exec (.pmrWriteTlp p addr data be ep ecrcErr) s =
        done s { s with flow := s.flow ++ [(p, .pmrWriteTlp p addr data be ep ecrcErr)] } := by
      have h : exec (.pmrWriteTlp p addr data be ep ecrcErr) s = execPmrWriteTlp p addr data be ep ecrcErr s := rfl
      rw [h, execPmrWriteTlp, if_neg (by rw [hlive]; decide), if_neg (by rw [State.shareRoom, decide_eq_false hfull.not_ge]; decide)]
    exact runs_of_effect he ⟨rfl, rfl, .withFlow (.refl _ _ _)⟩ fun u q ⟨h1, h2, hf⟩ => ⟨h1, h2, hf.finish q⟩
  · have hturn : (s.atTime ns).sequenceTurn (some p) = (s.atTime ns).settlePorts.noteWait.sequenceHead p :=
      if_pos ((State.headReady_noteWait _ p).trans hready)
    have hf : (s.atTime ns).settlePorts.flow = [] := (frame_settlePorts _).sameFlow.trans hflow
    have he : exec (.pmrWriteSequence (some p) ns) s = done s (((s.atTime ns).sequenceTurn (some p)).flowBoth) := by
      have h : exec (.pmrWriteSequence (some p) ns) s = execPmrWriteSequence (some p) ns s := rfl
      rw [h, execPmrWriteSequence, if_neg (by rw [has]; decide)]
    generalize (s.atTime ns).settlePorts = u at hf hq hready hpair hp hclean hturn
    obtain ⟨w, hw⟩ := State.noteWait_eq u
    rw [hw] at hturn
    obtain ⟨h1, h2, h3, ⟨h4, h5, h6⟩, h7⟩ := State.sequenced_head (s := { u with umb := { u.umb with waited := w } }) (p := p)
      ((State.portQueue_congr rfl p).trans hq) hp hclean hpair
    rw [hturn, State.flowBoth_idle (h7.trans hf)] at he
    have hout (a : Nat) (ha : a < addr ∨ addr + data.length ≤ a) :
        loadByte (storeEnabled u.cache.cells (addr / 4096 * 4096 + addr % 4096) data be) a = loadByte u.cache.cells a := by
      rw [show addr / 4096 * 4096 + addr % 4096 = addr from Nat.div_add_mod' addr 4096]
      exact ha.elim (fun h => loadByte_storeEnabled_before _ _ _ h) (fun h => loadByte_storeEnabled_beyond _ _ _ _ _ h)
    rw [← show _ = storeEnabled u.cache.cells _ data be from h3] at hout
    generalize State.sequenceHead _ p = t at he h1 h2 h3 h4 h5 h6 hout
    exact runs_of_effect he ⟨h1, h2, h3, h4, h5, h6, hout⟩ fun u q ⟨h1, h2, h3⟩ => ⟨h1, (State.portQueue_congr rfl p).trans h2, h3⟩
end

section
/-! SUPPORT. What the reports of a step leave: events, interrupts, completions and asynchronous events only add to what is sent
out, and of the host side they change only the completion queues, what NVMe has to report, and its counters. -/

namespace Sys2Proof.Machine

/-- A controller without what a report changes of it. -/
def Nvme.lasting (n : Nvme) : Nvme := { n with cqs := [], aers := [], events := [], masked := [], errs := [], outs := [] }

/-- A port without what a report changes of it. -/
def HostPort.lasting (h : HostPort) : HostPort := { h with pba := [], aerUnc := 0, nvme := h.nvme.lasting }

/-- The host side without what a report changes of it. -/
def HostSide.lasting (h : HostSide) : HostSide :=
  { h with portA := h.portA.lasting, portB := h.portB.lasting, smart := { h.smart with errEntries := 0 }, warn := 0 }

/-- Only reports were made: more was sent out, the lasting part of the host side is the same, and every completion queue that
stood stands. -/
def State.Tells (s t : State) : Prop := (∃ l, t.out = s.out ++ l) ∧ t.host.lasting = s.host.lasting ∧
  ∀ p q, (mget (t.nvme p).cqs q).isSome = (mget (s.nvme p).cqs q).isSome

namespace State.Tells

variable {s t u : State}

theorem same (ho : t.out = s.out) (hh : t.host = s.host) : s.Tells t := by
  refine ⟨⟨[], by rw [ho, List.append_nil]⟩, congrArg HostSide.lasting hh, fun p q => ?_⟩
  have hn : t.nvme p = s.nvme p := by
    cases p
    · exact congrArg (fun h => h.portA.nvme) hh
    · exact congrArg (fun h => h.portB.nvme) hh
  rw [hn]

theorem refl (s : State) : s.Tells s := same rfl rfl

theorem trans (h : s.Tells t) (k : t.Tells u) : s.Tells u := by
  obtain ⟨⟨l, hl⟩, hh, hq⟩ := h
  obtain ⟨⟨m, hm⟩, kh, kq⟩ := k
  exact ⟨⟨l ++ m, by rw [hm, hl, List.append_assoc]⟩, kh.trans hh, fun p q => (kq p q).trans (hq p q)⟩

/-- The same, the later step first. -/
theorem after (k : t.Tells u) (h : s.Tells t) : s.Tells u := h.trans k

theorem ite {c : Prop} [Decidable c] (ht : s.Tells t) (hu : s.Tells u) : s.Tells (if c then t else u) := by
  split
  · exact ht
  · exact hu

theorem foldl {α : Type} {f : State → α → State} (hf : ∀ (t : State) x, t.Tells (f t x)) (l : List α) (s : State) : s.Tells (l.foldl f s) := by
  induction l generalizing s with
  | nil => exact refl s
  | cons x l ih => exact (hf s x).trans (ih _)

theorem port_lasting (h : s.Tells t) (p : Port) : (t.port p).lasting = (s.port p).lasting := by
  cases p
  · exact congrArg HostSide.portA h.2.1
  · exact congrArg HostSide.portB h.2.1

theorem nvme_lasting (h : s.Tells t) (p : Port) : (t.nvme p).lasting = (s.nvme p).lasting := congrArg HostPort.nvme (h.port_lasting p)

/-- What was sent before a report has been sent after it. -/
theorem sent {r : State} {o : Out} (h : s.Tells t) (ho : s.Sent r o) : t.Sent r o := by
  obtain ⟨⟨l, hl⟩, -⟩ := h
  obtain ⟨m, hm, hmem⟩ := ho
  exact ⟨m ++ l, by rw [hl, hm, List.append_assoc], List.mem_append_left l hmem⟩

end State.Tells

section
variable (s : State)

theorem tells_send (o : Out) : s.Tells (s.send o) := ⟨⟨_, rfl⟩, rfl, fun p _ => by cases p <;> rfl⟩

theorem tells_warn (w : Nat) : s.Tells { s with host := { s.host with warn := w } } :=
  ⟨⟨[], (List.append_nil _).symm⟩, rfl, fun p _ => by cases p <;> rfl⟩

theorem tells_put (f : Fld) (v : Nat) : s.Tells (s.put f v) := .refl s

theorem tells_setPort (p : Port) {h : HostPort} (hl : h.lasting = (s.port p).lasting)
    (hq : ∀ q, (mget h.nvme.cqs q).isSome = (mget (s.nvme p).cqs q).isSome) : s.Tells (s.setPort p h) := by
  cases p
  · refine ⟨⟨[], (List.append_nil _).symm⟩, congrArg (fun x => ({ s.host.lasting with portA := x } : HostSide)) hl, fun p q => ?_⟩
    cases p
    · exact hq q
    · rfl
  · refine ⟨⟨[], (List.append_nil _).symm⟩, congrArg (fun x => ({ s.host.lasting with portB := x } : HostSide)) hl, fun p q => ?_⟩
    cases p
    · rfl
    · exact hq q

theorem tells_setNvme (p : Port) {n : Nvme} (hl : n.lasting = (s.nvme p).lasting)
    (hq : ∀ q, (mget n.cqs q).isSome = (mget (s.nvme p).cqs q).isSome) : s.Tells (s.setNvme p n) :=
  tells_setPort s p (congrArg (fun x => ({ (s.port p).lasting with nvme := x } : HostPort)) hl) hq

/-- A queue that is changed stands as before. -/
theorem isSome_mget_mset {α : Type} {m : NMap α} {k : Nat} {v : α} (h : mget m k = some v) (w : α) (j : Nat) :
    (mget (mset m k w) j).isSome = (mget m j).isSome := by
  by_cases hj : j = k
  · rw [hj, mget_mset_same, h]
    rfl
  · rw [mget_mset_ne _ _ hj]

theorem tells_console (v : List Nat) : s.Tells (s.console v) := by
  unfold State.console
  exact .ite (tells_send _ _) (.refl s)

theorem tells_msixOn (p : Port) (vec : Nat) : s.Tells (s.msixOn p vec) := by
  unfold State.msixOn
  exact .ite (.ite (tells_send _ _) (tells_setPort s p rfl fun _ => rfl)) (.refl s)

theorem tells_msix (vec : Nat) : s.Tells (s.msix vec) := (tells_msixOn s .a vec).trans (tells_msixOn _ .b vec)

theorem tells_raise (e i : Fld) (vec : Nat) : s.Tells (s.raise e i vec) := by
  unfold State.raise
  exact .ite (.refl s) (.ite ((tells_put s _ _).trans (tells_msix _ _)) (tells_put s _ _))

theorem tells_aer (p : Port) (bit : Nat) : s.Tells (s.aer p bit) := by
  unfold State.aer
  exact .ite (tells_setPort s p rfl fun _ => rfl) ((tells_send _ _).after (tells_setPort s p rfl fun _ => rfl))

theorem tells_cqePost (p : Port) (id : CmdId) (st : NStat) (d : Nat) : s.Tells (s.cqePost p id st d) := by
  unfold State.cqePost
  extract_lets n qid outs errs
  split
  · exact tells_setNvme s p rfl fun _ => rfl
  next c hc =>
    extract_lets last c' s1 hs sm s2 s3
    have h1 : s.Tells s1 := tells_setNvme s p rfl (isSome_mget_mset hc c')
    have h2 : s.Tells s2 := .ite h1 (h1.trans ⟨⟨[], (List.append_nil _).symm⟩, rfl, fun p _ => by cases p <;> rfl⟩)
    exact .ite ((h2.trans (tells_send _ _)).trans (tells_msixOn _ _ _)) (h2.trans (tells_send _ _))

theorem tells_asyncOn (p : Port) (ty info page : Nat) : s.Tells (s.asyncOn p ty info page) := by
  unfold State.asyncOn
  refine .ite (.refl s) ?_
  split
  · exact (tells_cqePost _ _ _ _ _).after (tells_setNvme s p rfl fun _ => rfl)
  · exact tells_setNvme s p rfl fun _ => rfl

theorem tells_async (ty info page : Nat) : s.Tells (s.async ty info page) :=
  (tells_asyncOn s .a ty info page).trans (tells_asyncOn _ .b ty info page)

theorem tells_warnEvent (p : Port) (bit : Nat) : s.Tells (s.warnEvent p bit) := by
  unfold State.warnEvent
  exact .ite (tells_asyncOn _ _ _ _ _) (.refl s)

theorem tells_syncWarn : s.Tells s.syncWarn := by
  unfold State.syncWarn
  extract_lets w s1
  have h1 : s.Tells s1 := by
    refine .foldl ?_ _ s
    exact fun t i => .ite ((tells_warnEvent t .a i).trans (tells_warnEvent _ .b i)) (.refl t)
  exact h1.trans (tells_warn s1 w)

/-! The recorder's events (R447–R455). -/

theorem tells_raiseEvr (f : Fld) : s.Tells (s.raiseEvr f) := by
  unfold State.raiseEvr
  exact .ite ((tells_raise s _ _ _).trans (tells_async _ 7 0 0xC2)) (tells_raise s _ _ _)

theorem tells_evr (r : Recorder) : s.Tells { s with evr := r } := .refl s

theorem tells_dropRec : s.Tells s.dropRec := (tells_put s _ _).trans (tells_raiseEvr _ _)

theorem tells_ringPut (e : EvRecord) (b : Bool) : s.Tells (s.ringPut e b) := by
  unfold State.ringPut
  split
  · exact (tells_evr s _).trans (tells_dropRec _)
  · exact tells_evr s _
  · split
    · exact .refl s
    · exact .ite (tells_evr s _) ((tells_raiseEvr _ _).after (.refl s))

theorem tells_storeRec (e : EvRecord) : s.Tells (s.storeRec e) := by
  unfold State.storeRec
  exact .ite (.ite (tells_evr s _) (tells_dropRec s)) (.ite (.ite (tells_evr s _) (tells_dropRec s)) (tells_ringPut s _ _))

theorem tells_closeOpen (n : Nat) : s.Tells (s.closeOpen n) := by
  unfold State.closeOpen
  split
  · exact .refl s
  · dsimp only
    split
    · exact .ite ((tells_evr s _).trans (tells_storeRec _ _)) (tells_evr s _)
    · exact tells_evr s _

theorem tells_openRec (a b c d : Nat) (w : List Nat × Bool) : s.Tells (s.openRec a b c d w) := by
  unfold State.openRec
  refine .ite ((tells_dropRec _).after (.refl s)) ?_
  extract_lets s0 e s1 src s2 s3 s4
  have h0 : s.Tells s0 := by
    refine .ite (.refl s) ?_
    split
    · exact tells_closeOpen s _
    · exact .refl s
  clear_value s0
  have h1 : s.Tells s1 := (h0.trans (tells_put _ _ _)).trans (tells_storeRec _ _)
  clear_value s1
  have h3 : s.Tells s3 := (((h1.trans (tells_evr _ _)).trans (tells_put _ _ _)).trans (tells_put _ _ _)).trans (tells_put _ _ _)
  clear_value s3
  have h4 : s.Tells s4 := .ite (h3.trans (tells_console _ _)) h3
  clear_value s4
  exact .ite ((tells_raiseEvr _ _).after h4) h4

theorem tells_submit (a b c d : Nat) (w : List Nat × Bool) : s.Tells (s.submit a b c d w) := by
  unfold State.submit
  refine .ite ?_ (.refl s)
  split
  · exact tells_evr s _
  · exact tells_openRec s _ _ _ _ _

theorem tells_lostReport : s.Tells s.lostReport := by
  unfold State.lostReport
  exact .ite ((tells_submit _ _ _ _ _ _).after (.refl s)) (.refl s)

theorem tells_eventWith (a b c d : Nat) (w : List Nat × Bool) : s.Tells (s.eventWith a b c d w) :=
  (tells_submit s a b c d w).trans (tells_lostReport _)

theorem tells_ev (b : Block) (code sev key : Nat) : s.Tells (s.ev b code sev key) := tells_eventWith s _ _ _ _ _

end

end Sys2Proof.Machine
end

section
/-! SUPPORT. Ports and controllers -/

namespace Sys2Proof.Machine

theorem frame_dropBarriers (s : State) (p : Port) : (s.dropBarriers p).Frame s [.pmr] [] := by
  unfold State.dropBarriers
  exact .next (.withPmr (.refl _ _ _)) (frame_setPortQueue _ _ _)

theorem State.Frame.withHostDeferred {s t : State} {ps : List Part} {fs : List Fld} {a : HostSide} {b : List Deferred} (h :
    t.Frame s ps fs) (hA : autoParam (a.portA = t.host.portA) CuspForm.copy._auto_1)
    (hB : autoParam (a.portB = t.host.portB) CuspForm.copy._auto_1)
    (hdeferred : autoParam (Part.deferred ∈ ps) Float.Model.Format.he._autoParam) :
    ({ t with host := a, deferred := b } : State).Frame s ps fs := (h.withHost (x := a) hA hB).withDeferred (x := b) hdeferred

theorem frame_dropCmds (s : State) (p : Port) : (s.dropCmds p).Frame s [.deferred] [] := by
  unfold State.dropCmds
  exact .withHostDeferred (.refl _ _ _)

end Sys2Proof.Machine
end

section
/-! SUPPORT. Ports and controllers: posted writes of a port that is claimed, and what a port's reset leaves (R61–R66, R475). -/

namespace Sys2Proof.Machine

section
variable {s t : State} {p : Port}

theorem State.posted_claimed (hc : s.Claims p) (c : Instr) (k : State → State) : (if s.portMem p then s.orHold p c k else s) = k s := by
  rw [if_pos hc.2.1, State.orHold_of hc.2.2]

theorem State.port_dropRequest (s : State) (p : Port) : s.dropRequest.port p = s.port p := by
  cases p
  · rfl
  · rfl

theorem State.nvme_dropRequest (s : State) (p : Port) : s.dropRequest.nvme p = s.nvme p := congrArg HostPort.nvme (State.port_dropRequest s p)

/-- Outside GRACE no port's state ends a grace period. -/
theorem State.graceTurn_of_ne (h : s.seqState ≠ seqGrace) : s.graceTurn = s := by
  unfold State.graceTurn
  split
  · exact if_neg h
  · rfl

theorem frame_setNvme (s : State) (p : Port) (n : Nvme) : (s.setNvme p n).Frame s [] [] := .quiet (.refl _ _ _) (quiet_setNvme _ _ _)

theorem State.pmrEn_setNvme (s : State) (p : Port) (n : Nvme) : ((s.setNvme p n).port p).pmrEn = (s.port p).pmrEn := by
  cases p
  · rfl
  · rfl

theorem State.port_dropCmds (s : State) (p q : Port) : (s.dropCmds p).port q = s.port q := by
  cases q
  · rfl
  · rfl

/-- What reports leave of a port and its controller. -/
theorem HostPort.of_lasting {a b : HostPort} (h : a.lasting = b.lasting) : a.linkUp = b.linkUp ∧ a.pmrEn = b.pmrEn ∧
    a.nvme.en = b.nvme.en ∧ a.nvme.rdy = b.nvme.rdy :=
  ⟨(congrArg HostPort.linkUp h :), (congrArg HostPort.pmrEn h :), (congrArg (fun x => x.nvme.en) h :), (congrArg (fun x => x.nvme.rdy) h :)⟩

/-! What is left of a port's queue, barriers and controller. -/

theorem tells_syncThr (s : State) (p : Port) : s.Tells (s.syncThr p) := by
  unfold State.syncThr
  exact .ite (.ite (tells_put s _ _) (.refl s)) (.ite ((tells_put s _ _).trans (tells_raise _ _ _ _)) (.refl s))

theorem tells_leaveRequest (s : State) (op : LeaveOp) : s.Tells (s.leaveRequest op).1 := by
  unfold State.leaveRequest
  dsimp only
  split
  · exact (tells_ev _ _ _ _ _).after (tells_put s _ _)
  · exact .same rfl rfl

theorem tells_phyRequest (s : State) (p : Port) : s.Tells (s.phyRequest p) := by
  unfold State.phyRequest
  exact .ite (tells_leaveRequest s _) (.refl s)

/-- Leave that is given back is held no more. -/
theorem State.holdsOp_leaveDropOp (s : State) (op : LeaveOp) : (s.leaveDropOp op).holdsOp op = false := by
  refine List.any_eq_false.2 fun l hl => ?_
  have hmem := State.of_mem_leaveGrant (s := { s with broker := { s.broker with
    held := s.broker.held.filter (fun l => l.op != op), queue := s.broker.queue.filter (fun l => l.op != op) } })
    (List.mem_append_left _ hl)
  have hne : (l.op != op) = true := (List.mem_append.1 hmem).elim (fun h => (List.mem_filter.1 h).2) (fun h => (List.mem_filter.1 h).2)
  simpa using hne

theorem State.port_leaveDropOp (s : State) (op : LeaveOp) (q : Port) : (s.leaveDropOp op).port q = s.port q := by
  cases q
  · rfl
  · rfl

theorem State.noneWaiting_dropBarriers {q : Port} (h : s.NoneWaiting q) : (s.dropBarriers p).NoneWaiting q := by
  have hfilter : (s.portQueue q).filter (fun i => !i.isBarrier) = [] := by rw [h, List.filter_nil]
  cases p
  · cases q
    · exact hfilter
    · exact h
  · cases q
    · exact h
    · exact hfilter

/-- With nothing waiting at the ports, settling them leaves the barriers. -/
theorem State.barriers_settlePorts (ha : s.NoneWaiting .a) (hb : s.NoneWaiting .b) : s.settlePorts.pmr.barriers = s.pmr.barriers := by
  unfold State.settlePorts
  rw [ha]
  dsimp only [State.discardHeads]
  rw [show (s.setPortQueue .a []).portQueue .b = [] from hb, State.discardHeads, (frame_syncThr _ _).samePmr, (frame_syncThr _ _).samePmr]
  rfl

/-- What a port that goes down loses, before its throttling is shown. -/
theorem State.dropPort_facts (s : State) (p : Port) : (s.dropPort p).portQueue p = [] ∧ (∀ b ∈ (s.dropPort p).pmr.barriers, b.port ≠ p) ∧
    ∀ q, ((s.dropPort p).port q).lasting = (s.port q).lasting := by
  unfold State.dropPort
  extract_lets s0 s1
  have hq : s1.portQueue p = [] := State.portQueue_setPortQueue _ _ _
  have hhost : s1.host = (s.dropCmds p).host := by
    obtain ⟨a, b, h⟩ := State.setPortQueue_eq (s.dropCmds p) p []
    exact (congrArg State.host h :)
  have hport (q : Port) : s1.port q = s.port q := by
    cases q
    · exact (congrArg HostSide.portA hhost :)
    · exact (congrArg HostSide.portB hhost :)
  clear_value s1
  refine ⟨?_, fun b hb => ?_, fun q => ((tells_syncThr _ p).port_lasting q).trans (congrArg HostPort.lasting (hport q))⟩
  · rw [State.portQueue_congr (frame_syncThr _ _).samePmr]
    exact (State.portQueue_congr rfl p).trans hq
  · rw [(frame_syncThr _ _).samePmr] at hb
    simpa using (List.mem_filter.1 hb).2

end

end Sys2Proof.Machine
end

section
/-! PROOF. -/

open Sys2Proof Sys2Proof.Machine

/-- Settles O11: the posted writes of a claimed port, and what a link, a port's reset and a controller's enable leave. -/
theorem portsAndControllers : Obligations.PortsAndControllers := by
  refine ⟨fun p w s hc hen => ?_, fun p w s hc hen ha hb hg => ?_, fun p status s hex hdom hh => ?_, fun p status s hex hdom hh => ?_,
    fun p s hlive => ?_, fun p flr s hex => ?_, fun p cc s hc hoff => ?_, fun p s hc => ?_, fun p shn s hc hen hshn hg => ?_⟩
  · have hwake := State.wake_run hc.1 (src := 1) (by decide)
    have he : execPmrctlWrite p w s = done s (s.dropRequest.setPort p { s.dropRequest.port p with pmrEn := true }) := by
      rw [execPmrctlWrite, State.posted_claimed hc]
      unfold State.pmrctl
      dsimp only
      rw [hwake, hen]
      rfl
    exact runs_of_effect he ⟨congrArg HostPort.pmrEn (State.port_setPort _ _ _), .setPort (frame_dropRequest s).mono⟩
      fun u q ⟨h1, hf⟩ => ⟨h1, hf.finish q⟩
  · let s2 := s.dropRequest.setPort p { s.dropRequest.port p with pmrEn := false }
    have hf2 : s2.Frame s [.ports, .pwr] [Reg.PWR_STATUS_RETRY] := .setPort (frame_dropRequest s).mono
    have hsettled := frame_settlePorts (s2.dropBarriers p)
    have hbar := State.barriers_settlePorts (s := s2.dropBarriers p)
      (State.noneWaiting_dropBarriers ((State.portQueue_congr hf2.samePmr _).trans ha))
      (State.noneWaiting_dropBarriers ((State.portQueue_congr hf2.samePmr _).trans hb))
    have hdrop := frame_dropBarriers s2 p
    have he : execPmrctlWrite p w s = done s (s2.dropBarriers p).settlePorts := by
      rw [execPmrctlWrite, State.posted_claimed hc]
      unfold State.pmrctl
      dsimp only
      rw [State.wake_run hc.1 (by decide), hen, if_neg (by decide), State.graceTurn_of_ne ?_]
      rw [State.seqState, hsettled.get Reg.SUP_SEQ_STATUS_STATE, hdrop.get Reg.SUP_SEQ_STATUS_STATE, hf2.get Reg.SUP_SEQ_STATUS_STATE]
      exact hg
    have hen' : ((s2.dropBarriers p).settlePorts.port p).pmrEn = false := by
      obtain ⟨-, -, h1, -⟩ := hsettled.1 .ports (by decide) p
      obtain ⟨-, -, h2, -⟩ := hdrop.1 .ports (by decide) p
      exact h1.trans (h2.trans (congrArg HostPort.pmrEn (State.port_setPort _ _ _)))
    have hbar' : (s2.dropBarriers p).settlePorts.pmr.barriers = s.pmr.barriers.filter (fun b => b.port != p) := by
      obtain ⟨a, b, h⟩ := State.setPortQueue_eq
        { s2 with pmr := { s2.pmr with barriers := s2.pmr.barriers.filter (fun b => b.port != p) } } p
          ((s2.portQueue p).filter (fun i => !i.isBarrier))
      rw [hbar, State.dropBarriers, h, hf2.samePmr]
    generalize (s2.dropBarriers p).settlePorts = t at he hen' hbar'
    exact runs_of_effect he ⟨hen', hbar'⟩ fun u q h => h
  · have hasked : s.phyRequest p = s := if_neg (by rw [State.askedOp, hh]; simp)
    have he : execHostLinkUp p status s = done s
        ((s.setPort p { s.port p with linkUp := true, inL1 := false, linkSt := status % 2 ^ 32 }).leaveDropOp (.phyHost p)) := by
      unfold execHostLinkUp
      dsimp only
      rw [hex, hdom, hasked, hh]
      rfl
    have hport := State.port_setPort s p { s.port p with linkUp := true, inL1 := false, linkSt := status % 2 ^ 32 }
    have hheld := State.holdsOp_leaveDropOp (s.setPort p { s.port p with linkUp := true, inL1 := false, linkSt := status % 2 ^ 32 }) (.phyHost p)
    have hkept := (State.port_leaveDropOp (s.setPort p { s.port p with linkUp := true, inL1 := false, linkSt := status % 2 ^ 32 })
      (.phyHost p) p).trans hport
    generalize State.leaveDropOp _ _ = t at he hheld hkept
    exact runs_of_effect he ⟨(congrArg HostPort.linkUp hkept).trans rfl, (congrArg HostPort.linkSt hkept).trans rfl,
      (congrArg HostPort.pmrEn hkept).trans rfl, hheld⟩ fun u q h => h
  · have he : execHostLinkUp p status s = done s (s.phyRequest p) := by
      unfold execHostLinkUp
      dsimp only
      rw [hex, hdom, hh]
      rfl
    have hl := (HostPort.of_lasting ((tells_phyRequest s p).port_lasting p)).1
    generalize hr : s.phyRequest p = t at he hl
    exact runs_of_effect he ⟨hl, hr ▸ rfl⟩ fun u q h => h
  · have he : execPortLinkDown p s = done s (((s.setPort p { HostPort.init with pmrEn := (s.port p).pmrEn }).dropPort p).phyRequest p) := by
      unfold execPortLinkDown
      rw [hlive]
      rfl
    obtain ⟨hq, -, hport⟩ := State.dropPort_facts (s.setPort p { HostPort.init with pmrEn := (s.port p).pmrEn }) p
    have hpq := (State.portQueue_congr (frame_phyRequest (State.dropPort _ p) p).samePmr p).trans hq
    obtain ⟨h1, h2, -, h4⟩ := HostPort.of_lasting (((tells_phyRequest (State.dropPort _ p) p).port_lasting p).trans (hport p))
    rw [State.port_setPort] at h1 h2 h4
    generalize State.phyRequest _ p = t at he hpq h1 h2 h4
    exact runs_of_effect he ⟨h1, h2, h4, hpq⟩ fun u q ⟨h1, h2, h4, hpq⟩ => ⟨h1, h2, h4, (State.portQueue_congr rfl p).trans hpq⟩
  · let h' : HostPort := if flr then { HostPort.init with linkUp := (s.port p).linkUp, linkSt := (s.port p).linkSt } else HostPort.init
    have he : ∃ t, execPortReset p flr s = done s t ∧ ((s.setPort p h').dropPort p).Tells t ∧ t.pmr = ((s.setPort p h').dropPort p).pmr := by
      have hexec : execPortReset p flr s = done s (if flr || !((s.setPort p h').dropPort p).domOn .host then
          (s.setPort p h').dropPort p else ((s.setPort p h').dropPort p).phyRequest p) :=
        congrArg (done s) (if_neg (by rw [hex]; decide))
      rw [hexec]
      split
      · exact ⟨_, rfl, .refl _, rfl⟩
      · exact ⟨_, rfl, tells_phyRequest _ _, (frame_phyRequest _ _).samePmr⟩
    obtain ⟨t, he, htells, hpmr⟩ := he
    obtain ⟨hq, hbar, hport⟩ := State.dropPort_facts (s.setPort p h') p
    obtain ⟨h1, h2, h3, -⟩ := HostPort.of_lasting ((htells.port_lasting p).trans (hport p))
    rw [State.port_setPort] at h1 h2 h3
    have hq' := (State.portQueue_congr hpmr p).trans hq
    rw [← hpmr] at hbar
    have hnew : h'.linkUp = (flr && (s.port p).linkUp) ∧ h'.pmrEn = false ∧ h'.nvme.en = false := by
      cases flr
      · exact ⟨rfl, rfl, rfl⟩
      · exact ⟨rfl, rfl, rfl⟩
    obtain ⟨k1, k2, k3⟩ := hnew
    exact runs_of_effect he ⟨h1.trans k1, h2.trans k2, h3.trans k3, hq', hbar⟩
      fun u q ⟨h1, h2, h3, h4, h5⟩ => ⟨h1, h2, h3, (State.portQueue_congr rfl p).trans h4, h5⟩
  · have hk : ∃ n : Nvme, execControllerEnable p cc s = done s (s.dropRequest.setNvme p n) ∧ n.en = true ∧ n.rdy = true ∧ n.shst = 0 := by
      rw [execControllerEnable, State.posted_claimed hc]
      unfold State.ctrlEnable
      dsimp only
      rw [if_neg (by rw [hoff]; decide), State.wake_run hc.1 (by decide)]
      exact ⟨_, rfl, rfl, rfl, rfl⟩
    obtain ⟨n, he, h1, h2, h3⟩ := hk
    have hn := State.nvme_setNvme s.dropRequest p n
    rw [← hn] at h1 h2 h3
    have hport := (State.pmrEn_setNvme s.dropRequest p n).trans (congrArg HostPort.pmrEn (State.port_dropRequest s p))
    exact runs_of_effect he ⟨h1, h2, h3, hport, .trans (frame_dropRequest s) (frame_setNvme _ _ _).mono⟩
      fun u q ⟨h1, h2, h3, h4, hf⟩ => ⟨h1, h2, h3, h4, hf.finish q⟩
  · have he : execControllerDisable p s = done s ((s.dropRequest.setNvme p (s.nvme p).disabled).dropCmds p) := by
      rw [execControllerDisable, State.posted_claimed hc, State.ctrlDisable, State.wake_run hc.1 (by decide)]
    have hport := (congrArg HostPort.pmrEn (State.port_dropCmds (s.dropRequest.setNvme p (s.nvme p).disabled) p p)).trans
      ((State.pmrEn_setNvme _ p _).trans (congrArg HostPort.pmrEn (State.port_dropRequest s p)))
    have hn : ((s.dropRequest.setNvme p (s.nvme p).disabled).dropCmds p).nvme p = (s.nvme p).disabled :=
      (congrArg HostPort.nvme (State.port_dropCmds _ p p)).trans (State.nvme_setNvme _ _ _)
    exact runs_of_effect he ⟨(congrArg Nvme.en hn).trans rfl, (congrArg Nvme.rdy hn).trans rfl, (congrArg Nvme.sqs hn).trans rfl, hport,
      .next (.next (frame_dropRequest s).mono (frame_setNvme _ _ _)) (frame_dropCmds _ _)⟩
      fun u q ⟨h1, h2, h3, h4, hf⟩ => ⟨h1, h2, h3, h4, hf.finish q⟩
  · have hg' : (s.dropRequest.setNvme p { s.nvme p with shn := shn % 4, shst := 2 }).seqState ≠ seqGrace := by
      rw [State.seqState, ((frame_dropRequest s).trans (frame_setNvme _ _ _).mono).get Reg.SUP_SEQ_STATUS_STATE]
      exact hg
    have he : execShutdownNotification p shn s = done s (s.dropRequest.setNvme p { s.nvme p with shn := shn % 4, shst := 2 }) := by
      rw [execShutdownNotification, State.posted_claimed hc]
      unfold State.ctrlShutdown
      dsimp only
      rw [if_pos (by rw [hen]; simpa using hshn), State.wake_run hc.1 (by decide), State.nvme_dropRequest, State.graceTurn_of_ne hg']
    have hn := State.nvme_setNvme s.dropRequest p { s.nvme p with shn := shn % 4, shst := 2 }
    exact runs_of_effect he ⟨(congrArg Nvme.shst hn).trans rfl, (congrArg Nvme.shn hn).trans rfl, State.setNvme_pmr _ _ _⟩ fun u q h => h
end

section
/-! SUPPORT. Idle rows, refresh, power-down and temperature -/

namespace Sys2Proof.Machine

theorem frame_setBank (s : State) (k : Nat) (b : Bank) : (s.setBank k b).Frame s [.dmc] [] := by
  unfold State.setBank
  exact .withDmc (.refl _ _ _)

theorem frame_leavePool (s : State) (r : DReq) : (s.leavePool r).Frame s [.dmc] [] := by
  unfold State.leavePool
  exact .withDmc (.next (.refl _ _ _) (frame_setBank _ _ _))

theorem frame_refresh (s : State) : s.refresh.Frame s [.dmc] [Reg.DMC_ECC_CTRL_INJ_MODE] := by
  unfold State.refresh
  exact .withDmc (.foldl (fun _ _ ht => .next (.next ht (frame_leavePool _ _)) (frame_writeBurst _ _)) _ (.refl _ _ _))

theorem frame_setSub (s : State) (k : Nat) (c : SubCh) : (s.setSub k c).Frame s [.dmc] [] := by
  unfold State.setSub
  exact .withDmc (.refl _ _ _)

end Sys2Proof.Machine
end

section
/-! SUPPORT. Banks and sub-channels after a change of every one (R240). -/

namespace Sys2Proof.Machine

theorem mget_mmap {α β : Type} (f : Nat → α → β) (m : NMap α) (k : Nat) : mget (mmap f m) k = (mget m k).map (f k) := by
  induction m with
  | nil => rfl
  | cons e m ih =>
    rw [mmap, List.map_cons, mget, mget]
    split
    next h => subst h; rfl
    · exact ih

/-- A change that leaves the default alone acts on the value at the key. -/
theorem mgetD_mmap {α : Type} (f : Nat → α → α) (m : NMap α) (k : Nat) {d : α} (hd : f k d = d) :
    mgetD (mmap f m) k d = f k (mgetD m k d) := by
  rw [mgetD, mget_mmap, mgetD]
  cases mget m k with
  | none => exact hd.symm
  | some v => rfl

theorem mgetD_mset_ne {α : Type} (m : NMap α) {k j : Nat} (v d : α) (h : j ≠ k) : mgetD (mset m k v) j d = mgetD m j d := by
  rw [mgetD, mget_mset_ne m v h, mgetD]

theorem mgetD_mset_same {α : Type} (m : NMap α) (k : Nat) (v d : α) : mgetD (mset m k v) k d = v := by
  rw [mgetD, mget_mset_same]
  rfl

section
variable {s : State}

theorem State.bank_setBank (s : State) (k : Nat) (b : Bank) : (s.setBank k b).bank k = b := mgetD_mset_same _ _ _ _

theorem State.bank_setBank_ne (s : State) {k j : Nat} (b : Bank) (h : j ≠ k) : (s.setBank k b).bank j = s.bank j := mgetD_mset_ne _ _ _ h

theorem State.sub_setSub (s : State) (k : Nat) (c : SubCh) : (s.setSub k c).sub k = c := mgetD_mset_same _ _ _ _

/-- After a refresh every row is closed and no rank is powered down. -/
theorem State.refresh_closes (s : State) (k : Nat) : (s.refresh.bank k).openRow = none ∧ (s.refresh.sub k).pdown = [] := by
  unfold State.refresh State.bank State.sub
  dsimp only
  exact ⟨congrArg Bank.openRow (mgetD_mmap _ _ k rfl), congrArg SubCh.pdown (mgetD_mmap _ _ k rfl)⟩

/-- A refresh of a pool without merged writes leaves the pool. -/
theorem State.pool_refresh (h : ∀ r ∈ s.dmc.pool, r.kind ≠ .mergedWrite) : s.refresh.dmc.pool = s.dmc.pool := by
  have hnone : s.dmc.pool.filter (fun r => r.kind == .mergedWrite) = [] :=
    List.filter_eq_nil_iff.2 fun r hr => by simpa using h r hr
  unfold State.refresh
  rw [hnone]
  rfl

end

end Sys2Proof.Machine
end

section
/-! PROOF. -/

open Sys2Proof Sys2Proof.Machine

/-- Settles O26: what closes rows, postpones and makes up for refreshes, powers a rank down and doubles the rate. -/
theorem dramUpkeep : Obligations.DramUpkeep := by
  refine ⟨fun k row s hopen hnone => ?_, fun k row s hopen hany => ?_, fun s hdom hpan => ?_, fun s hdom hpan howed => ?_,
    fun s hdom hpan howed => ?_, fun s hdom hpan howed hlt => ?_, fun sub rank s hidle hv hreh hfree hup => ?_,
    fun above s hdom => ?_, fun s hdom hn => ?_⟩
  · have he : execRowIdleClose k s = done s (s.setBank k { s.bank k with openRow := none, hits := 0 }) := by
      unfold execRowIdleClose
      dsimp only
      rw [hopen]
      exact congrArg (done s) (if_neg (by rw [hnone]; decide))
    exact runs_of_effect he ⟨congrArg Bank.openRow (State.bank_setBank _ _ _), fun j hj => State.bank_setBank_ne _ _ hj, rfl, frame_setBank _ _ _⟩
      fun u q ⟨h1, h2, h3, hf⟩ => ⟨h1, h2, h3, hf.finish q⟩
  · have he : execRowIdleClose k s = done s s := by
      unfold execRowIdleClose
      dsimp only
      rw [hopen]
      exact congrArg (done s) (if_pos hany)
    exact runs_of_effect he (.refl _ _ _) fun u q hf => hf.finish q
  · have he : execRefreshDue s = done s s.refresh := congrArg (done s) ((if_pos hdom).trans (if_pos hpan))
    have hc := State.refresh_closes s
    have hpool := State.pool_refresh (s := s)
    have hf := frame_refresh s
    generalize s.refresh = t at he hc hpool hf
    exact runs_of_effect he ⟨fun k => ⟨(hc k).1, fun c => (hc c).2⟩, hpool, hf⟩ fun u q ⟨h1, h2, hf⟩ => ⟨h1, h2, hf.finish q⟩
  · have he : execRefreshDue s = done s ((s.put Reg.DMC_REF_STATUS_OWED (s.get Reg.DMC_REF_STATUS_OWED + 1)).put
        Reg.DMC_REF_STATUS_POSTPONED_MAX (Nat.max (s.get Reg.DMC_REF_STATUS_OWED + 1) (s.get Reg.DMC_REF_STATUS_POSTPONED_MAX))) :=
      congrArg (done s) ((if_pos hdom).trans ((if_neg hpan).trans (if_pos howed)))
    have hget : ((s.put Reg.DMC_REF_STATUS_OWED (s.get Reg.DMC_REF_STATUS_OWED + 1)).put
        Reg.DMC_REF_STATUS_POSTPONED_MAX (Nat.max (s.get Reg.DMC_REF_STATUS_OWED + 1) (s.get Reg.DMC_REF_STATUS_POSTPONED_MAX))).get
          Reg.DMC_REF_STATUS_OWED = s.get Reg.DMC_REF_STATUS_OWED + 1 := by
      rw [State.get_put_ne _ _ (by decide), State.get_put_lt _ _ (show s.get Reg.DMC_REF_STATUS_OWED + 1 < 8 by omega)]
    exact runs_of_effect he ⟨hget, .put (.put (.refl _ _ _))⟩ fun u q ⟨h1, hf⟩ => ⟨h1, hf.finish q⟩
  · have he : execRefreshDue s = done s ((s.refresh.incSat Reg.DMC_REF_STATUS_FORCED 1).raise Reg.DMC_STATUS_FORCED_EV Reg.DMC_CTRL_INT_EN 56) :=
      congrArg (done s) ((if_pos hdom).trans ((if_neg hpan).trans (if_neg howed.not_gt)))
    have hclosed (k : Nat) : ((s.refresh.incSat Reg.DMC_REF_STATUS_FORCED 1).raise Reg.DMC_STATUS_FORCED_EV
        Reg.DMC_CTRL_INT_EN 56).bank k = s.refresh.bank k := by
      rw [State.bank, (frame_raise _ _ _ _).sameDmc]
      rfl
    have hcount : ((s.refresh.incSat Reg.DMC_REF_STATUS_FORCED 1).raise Reg.DMC_STATUS_FORCED_EV Reg.DMC_CTRL_INT_EN 56).get
        Reg.DMC_REF_STATUS_FORCED = satAdd 65535 (s.get Reg.DMC_REF_STATUS_FORCED) 1 := by
      rw [(frame_raise _ _ _ _).get Reg.DMC_REF_STATUS_FORCED, State.get_incSat, (frame_refresh s).get Reg.DMC_REF_STATUS_FORCED]
      rfl
    exact runs_of_effect he ⟨fun k => (congrArg Bank.openRow (hclosed k)).trans (State.refresh_closes s k).1,
      State.flag_raise _ _ _ _, hcount⟩ fun u q h => h
  · have he : execRefreshCatchup s = done s (s.refresh.put Reg.DMC_REF_STATUS_OWED (s.get Reg.DMC_REF_STATUS_OWED - 1)) :=
      congrArg (done s) (if_pos ⟨hdom, hpan, howed.ne'⟩)
    have hget : (s.refresh.put Reg.DMC_REF_STATUS_OWED (s.get Reg.DMC_REF_STATUS_OWED - 1)).get Reg.DMC_REF_STATUS_OWED + 1 =
        s.get Reg.DMC_REF_STATUS_OWED := by
      rw [State.get_put_lt _ _ (show s.get Reg.DMC_REF_STATUS_OWED - 1 < 8 by omega)]
      omega
    exact runs_of_effect he ⟨hget, fun k => (State.refresh_closes s k).1, .put (frame_refresh s).mono⟩
      fun u q ⟨h1, h2, hf⟩ => ⟨h1, h2, hf.finish q⟩
  · let t : State := { s with dmc := { s.dmc with
      banks := mmap (fun k (b : Bank) => if k / 32 = sub * 2 + rank then { b with openRow := none, hits := 0 } else b) s.dmc.banks } }
    have he : execRankPowerDown sub rank s = done s (t.setSub sub { s.sub sub with pdown := (s.sub sub).pdown ++ [rank] }) := by
      unfold execRankPowerDown
      dsimp only
      rw [hfree, hv, hreh, hup]
      exact congrArg (done s) (if_neg (by simpa using hidle))
    have hclosed (k : Nat) (hk : k / 32 = sub * 2 + rank) : (t.bank k).openRow = none := by
      rw [State.bank, mgetD_mmap (d := Bank.init) _ _ k (by split <;> rfl), if_pos hk]
    exact runs_of_effect he ⟨congrArg SubCh.pdown (State.sub_setSub _ _ _), hclosed, rfl, .next (.withDmc (.refl _ _ _)) (frame_setSub _ _ _)⟩
      fun u q ⟨h1, h2, h3, hf⟩ => ⟨h1, h2, h3, hf.finish q⟩
  · let t : State := ({ s with dmc := { s.dmc with mr4Normal := 0 } } : State).put Reg.DMC_STATUS_REF_2X 1
    have he : execMr4Poll true above s = done s (if above then t.ev .dmc 0x1004 6 0 else t) := by
      unfold execMr4Poll
      dsimp only
      rw [hdom, Bool.true_or]
      rfl
    have hf : (if above then t.ev .dmc 0x1004 6 0 else t).Frame s [.dmc] [Reg.DMC_STATUS_REF_2X] := by
      have ht : t.Frame s [.dmc] [Reg.DMC_STATUS_REF_2X] := .put (.withDmc (.refl _ _ _))
      exact .ite (.quiet ht (quiet_ev _ _ _ _ _)) ht
    have hflag : (if above then t.ev .dmc 0x1004 6 0 else t).flag Reg.DMC_STATUS_REF_2X = true := by
      split
      · rw [State.flag_ev_off (by decide)]
        exact State.flag_put_one _ _
      · exact State.flag_put_one _ _
    have hn : (if above then t.ev .dmc 0x1004 6 0 else t).dmc.mr4Normal = 0 := by
      split
      · rw [(quiet_ev t .dmc 0x1004 6 0).dmc]
        rfl
      · rfl
    exact runs_of_effect he ⟨hflag, hn, hf⟩ fun u q ⟨h1, h2, hf⟩ => ⟨h1, h2, hf.finish q⟩
  · have he : execMr4Poll false false s = done s (({ s with dmc := { s.dmc with mr4Normal := Nat.min 16 (s.dmc.mr4Normal + 1) } } : State).put
        Reg.DMC_STATUS_REF_2X 0) := by
      unfold execMr4Poll
      dsimp only
      have hn' : 16 ≤ s.dmc.mr4Normal + 1 := by omega
      simp only [hdom, Bool.or_self, Bool.false_eq_true, if_false, Bool.not_true, hn', if_true]
    exact runs_of_effect he ⟨State.flag_put_zero _ _, .put (.withDmc (.refl _ _ _))⟩ fun u q ⟨h1, hf⟩ => ⟨h1, hf.finish q⟩
end

section
/-! SUPPORT. Leaks, scrubbing, row-hammer windows, drift and clock changes -/

namespace Sys2Proof.Machine

theorem frame_clockSwitch (s : State) (rate : Nat) : (s.clockSwitch rate).Frame s [.dmc] [Reg.DMC_ECC_CTRL_INJ_MODE,
    Reg.CLK_BRANCH_DRAM_DIV, Reg.DMC_GEOM_RATE] := by
  unfold State.clockSwitch
  exact .put (.put (.next (.withDmc (.refl _ _ _)) (frame_refresh _)))

theorem frame_enterPool (s : State) (r : DReq) : (s.enterPool r).Frame s [.dmc] [Reg.DMC_INORDER_CNT_COUNT] := by
  unfold State.enterPool
  extract_lets k old hazard src3 s1 c s2 b s3
  have hs1 : s1.Frame s [.dmc] [Reg.DMC_INORDER_CNT_COUNT] := .withDmc (.refl _ _ _)
  have hs2 : s2.Frame s [.dmc] [Reg.DMC_INORDER_CNT_COUNT] := .ite (.next hs1 (frame_setSub _ _ _)) hs1
  have hs3 : s3.Frame s [.dmc] [Reg.DMC_INORDER_CNT_COUNT] := .next hs2 (frame_setBank _ _ _)
  exact .ite (.ite (.incSat hs3) hs3) hs2

theorem frame_submitBurst (s : State) (port : DPort) (kind : DKind) (burst : Nat) (ns : Nat) : (s.submitBurst port kind burst
    ns).Frame s [.dmc] [Reg.DMC_INORDER_CNT_COUNT] := by
  unfold State.submitBurst
  exact .ite (.refl _ _ _) (.ite (.next (.withDmc (.refl _ _ _)) (frame_enterPool _ _)) (.withDmc (.withDmc (.refl _ _ _))))

end Sys2Proof.Machine
end

section
/-! SUPPORT. Training settings and the DRAM's clock (R24, R268). -/

namespace Sys2Proof.Machine

section
variable {s : State}

theorem State.scrubAt_submitBurst (s : State) (port : DPort) (kind : DKind) (burst ns : Nat) :
    (s.submitBurst port kind burst ns).dmc.scrubAt = s.dmc.scrubAt := by
  unfold State.submitBurst
  extract_lets d src r src2 s1
  split
  · rfl
  · split
    · unfold State.enterPool
      extract_lets k old hazard t1 c t2 b
      have h2 : t2.dmc.scrubAt = s.dmc.scrubAt := by
        unfold t2
        split
        · rfl
        · rfl
      split
      · split
        · exact h2
        · exact h2
      · exact h2
    · rfl

theorem State.clockWait_writeBurst (s : State) (burst : Nat) : (s.writeBurst burst).dmc.clockWait = s.dmc.clockWait := by
  unfold State.writeBurst
  dsimp only
  split
  · rfl
  · rfl

/-- A refresh leaves a clock change that waits. -/
theorem State.clockWait_refresh (s : State) : s.refresh.dmc.clockWait = s.dmc.clockWait := by
  have hfold (l : List DReq) (t : State) :
      (l.foldl (fun (t : State) r => (t.leavePool r).writeBurst r.burst) t).dmc.clockWait = t.dmc.clockWait := by
    induction l generalizing t with
    | nil => rfl
    | cons r l ih => exact (ih _).trans (State.clockWait_writeBurst _ _)
  exact hfold _ s

/-- The settings that are added are the ones found for their rate. -/
theorem State.setFor_addSet (l : List TrainSet) {t : TrainSet} {rate : Nat} (hr : t.rate = rate) (hg : t.geom = s.dramGeom) :
    s.setFor (addSet l t) rate = some t := by
  have hnone : (l.filter (fun x => x.rate != t.rate)).find? (fun x => x.rate == rate && x.geom == s.dramGeom) = none :=
    List.find?_eq_none.2 fun x hx => by
      have hne : x.rate ≠ t.rate := by simpa using (List.mem_filter.1 hx).2
      simp [hr ▸ hne]
  rw [State.setFor, addSet, List.find?_append, hnone]
  simp [hr, hg]

theorem State.of_setFor {l : List TrainSet} {t : TrainSet} {rate : Nat} (h : s.setFor l rate = some t) :
    t.rate = rate ∧ t.geom = s.dramGeom := by
  simpa using List.find?_some h

/-- The DRAM controller with settings tracked for a measured drift. -/
def Dram.tracked (d : Dram) (new : TrainSet) (drift : Nat) : Dram := { d with setsAon := addSet d.setsAon new, drift := drift }

/-- What tracking does where there are settings for the rate: a small drift is kept; a larger one is trained away, and the
settings are stored where no copy stands. -/
theorem State.trackSet_found {t : TrainSet} (drift : Nat) (h : s.setFor s.dmc.setsAon s.dramRate = some t) :
    ∃ (new : TrainSet) (n : Nat), new.rate = t.rate ∧ new.geom = t.geom ∧ (drift = s.dmc.drift → new = t) ∧
      (drift ≤ 2 → s.trackSet drift = { s with free := n, dmc := s.dmc.tracked new drift }) ∧
      (2 < drift → s.dmc.norAt = none → s.trackSet drift = { s with free := n, dmc := { s.dmc.tracked new 0 with
        norAt := some s.secs, trainNor := s.dmc.trainNor.write (addSet s.dmc.setsNor new) } }) := by
  refine ⟨if drift = s.dmc.drift then t else { t with vals := (s.fresh 64).1 }, s.free + 1, ?_, ?_, fun hd => if_pos hd, fun hd => ?_,
    fun hd hnor => ?_⟩
  · split
    · rfl
    · rfl
  · split
    · rfl
    · rfl
  · unfold State.trackSet
    rw [h]
    exact if_neg fun hc => absurd hc.1 hd.not_gt
  · unfold State.trackSet
    rw [h]
    refine if_pos ⟨hd, ?_⟩
    dsimp only [State.fresh]
    rw [hnor]

theorem State.execTrainingTrack_free {sub : Nat} (drift : Nat) (hdom : s.domOn .dram = true) (hv : s.vaulting = false)
    (hfr : s.chFrozen (sub / 2) = false) (hwait : s.dmc.clockWait = none) : execTrainingTrack sub drift s = done s (s.trackSet drift) := by
  unfold execTrainingTrack
  rw [if_neg (by rw [hdom, hv, hfr]; decide), if_neg (by rw [hwait]; decide)]

end

end Sys2Proof.Machine
end

section
/-! PROOF. -/

open Sys2Proof Sys2Proof.Machine

/-- Settles O27: buckets leak, the scrubber moves on, a row-hammer window ends, training tracks and the clock changes. -/
theorem dramBackground : Obligations.DramBackground := by
  refine ⟨fun k q s hq => ?_, fun ns b s hen hv hreh hpan hdom hnext => ?_, fun ns s hen hv hreh hpan hdom hnext => ?_, fun s => ?_,
    fun sub drift s hdom hwait hv hfr hset => ?_, fun sub drift s hdom hwait hv hfr hset hd => ?_,
    fun sub drift s hdom hwait hv hfr hset hd hnor => ?_, fun rate s hdom hpan how hv hwin hr hset => ?_, fun rate s hdom hv hr => ?_⟩
  · have he : execPositionLeak k s = done s { s with dmc := { s.dmc with pos := mset s.dmc.pos k { q with bucket := q.bucket - 1 } } } := by
      unfold execPositionLeak
      rw [hq]
    exact runs_of_effect he ⟨mget_mset_same _ _ _, fun j hj => mget_mset_ne _ _ hj, .withDmc (.refl _ _ _)⟩
      fun u q ⟨h1, h2, hf⟩ => ⟨h1, h2, hf.finish q⟩
  · have he : execScrubStep ns s = done s ((({ s with dmc := { s.dmc with scrubAt := b + 1 } } : State).submitBurst .bg .read b ns).put
        Reg.DMC_SCRUB_STATUS_PCT (b * 64 * 100 / Nat.max 1 s.capBytes)) := by
      unfold execScrubStep
      rw [if_neg (by rw [hen, hv, hreh, hpan, hdom]; decide), hnext]
    have hat := State.scrubAt_submitBurst { s with dmc := { s.dmc with scrubAt := b + 1 } } .bg .read b ns
    have hcache := (frame_submitBurst { s with dmc := { s.dmc with scrubAt := b + 1 } } .bg .read b ns).sameCache
    generalize State.submitBurst _ _ _ _ _ = t at he hat hcache
    have hdmc := State.put_dmc t Reg.DMC_SCRUB_STATUS_PCT (b * 64 * 100 / Nat.max 1 s.capBytes)
    have hsame := State.put_cache t Reg.DMC_SCRUB_STATUS_PCT (b * 64 * 100 / Nat.max 1 s.capBytes)
    generalize t.put _ _ = t' at he hdmc hsame
    exact runs_of_effect he ⟨(congrArg Dram.scrubAt hdmc).trans hat, hsame.trans hcache⟩ fun u q h => h
  · have he : execScrubStep ns s = done s ((({ s with dmc := { s.dmc with scrubAt := 0 } } : State).incSat Reg.DMC_SCRUB_STATUS_PASSES 1).put
        Reg.DMC_SCRUB_STATUS_PCT 0) := by
      unfold execScrubStep
      rw [if_neg (by rw [hen, hv, hreh, hpan, hdom]; decide), hnext]
    refine runs_of_effect he ⟨rfl, State.get_put_zero _ _, ?_⟩ fun u q h => h
    rw [State.get_put_ne _ _ (by decide), State.get_incSat]
    rfl
  · refine runs_of_effect rfl ⟨fun k => ?_, State.get_put_zero _ _, .put (.withDmc (.refl _ _ _))⟩ fun u q ⟨h1, h2, hf⟩ => ⟨h1, h2, hf.finish q⟩
    have hb : mgetD (mmap (fun _ b => { b with acts := [], spill := 0, throttled := [] }) s.dmc.banks) k Bank.init =
        { s.bank k with acts := [], spill := 0, throttled := [] } := mgetD_mmap _ _ k rfl
    exact ⟨(congrArg Bank.acts hb :), (congrArg Bank.spill hb :), (congrArg Bank.throttled hb :), (congrArg Bank.openRow hb :)⟩
  · have he : execTrainingTrack sub drift s = done s { s with dmc := { s.dmc with drift := drift } } := by
      rw [State.execTrainingTrack_free drift hdom hv hfr hwait]
      unfold State.trackSet
      rw [hset]
    exact runs_of_effect he ⟨rfl, .withDmc (.refl _ _ _)⟩ fun u q ⟨h1, hf⟩ => ⟨h1, hf.finish q⟩
  · obtain ⟨t, ht⟩ := Option.isSome_iff_exists.1 hset
    obtain ⟨hr, hg⟩ := State.of_setFor ht
    obtain ⟨new, n, hnr, hng, hsame, hsmall, -⟩ := State.trackSet_found drift ht
    have he := (State.execTrainingTrack_free drift hdom hv hfr hwait).trans (congrArg (done s) (hsmall hd))
    have hnew := State.setFor_addSet s.dmc.setsAon (hnr.trans hr) (hng.trans hg)
    refine runs_of_effect he ⟨rfl, rfl, rfl, ?_, fun hdr => hnew.trans ?_, .withDmc (.refl _ _ _)⟩
      fun u q ⟨h1, h2, h3, h4, h5, hf⟩ => ⟨h1, h2, h3, h4, h5, hf.finish q⟩
    · exact Option.isSome_iff_exists.2 ⟨_, hnew⟩
    · rw [hsame hdr, ht]
  · obtain ⟨t, ht⟩ := Option.isSome_iff_exists.1 hset
    obtain ⟨hr, hg⟩ := State.of_setFor ht
    obtain ⟨new, n, hnr, hng, -, -, hstore⟩ := State.trackSet_found drift ht
    have he := (State.execTrainingTrack_free drift hdom hv hfr hwait).trans (congrArg (done s) (hstore hd hnor))
    have hnew := State.setFor_addSet s.dmc.setsAon (hnr.trans hr) (hng.trans hg)
    exact runs_of_effect he ⟨rfl, rfl, ⟨new, hnew, rfl⟩, .withDmc (.refl _ _ _)⟩ fun u q ⟨h1, h2, h3, hf⟩ => ⟨h1, h2, h3, hf.finish q⟩
  · have hbar : s.clockBarred = false := by rw [State.clockBarred, hpan, how, hv, hwin]; rfl
    have htry : s.clockTry (rate % 4) = s.clockSwitch (rate % 4) := by
      unfold State.clockTry
      dsimp only
      rw [if_neg (by rw [hbar]; decide), if_pos (by rw [hset]; rfl)]
    have he : execDramClockChange rate s = done s (s.clockSwitch (rate % 4)) := by
      unfold execDramClockChange State.clockChange
      dsimp only
      rw [if_pos (by rw [hdom, decide_eq_true hr]; rfl), htry, if_neg (by rw [hbar]; decide)]
    have hdiv : (s.clockSwitch (rate % 4)).get Reg.CLK_BRANCH_DRAM_DIV = 2 - rate % 4 := by
      unfold State.clockSwitch
      rw [State.get_put_ne _ _ (by decide), State.get_put_lt _ _ ?_]
      have hw : 2 ^ Reg.CLK_BRANCH_DRAM_DIV.width = 4 := by decide
      omega
    have hrate : (s.clockSwitch (rate % 4)).get Reg.DMC_GEOM_RATE = rate % 4 := by
      have hw : 2 ^ Reg.DMC_GEOM_RATE.width = 4 := by decide
      exact State.get_put_lt _ _ (by omega)
    have hclosed (k : Nat) : ((s.clockSwitch (rate % 4)).bank k).openRow = none :=
      (State.refresh_closes { s with dmc := { s.dmc with clockWait := none } } k).1
    have hwaits : (s.clockSwitch (rate % 4)).dmc.clockWait = none :=
      State.clockWait_refresh { s with dmc := { s.dmc with clockWait := none } }
    have hf := frame_clockSwitch s (rate % 4)
    generalize s.clockSwitch (rate % 4) = t at he hdiv hrate hclosed hwaits hf
    exact runs_of_effect he ⟨hdiv, hrate, hwaits, hclosed, hf.mono⟩ fun u q ⟨h1, h2, h3, h4, hf⟩ => ⟨h1, h2, h3, h4, hf.finish q⟩
  · have hbar : s.clockBarred = true := by rw [State.clockBarred, hv]; simp
    have he : execDramClockChange rate s = done s (({ s with dmc := { s.dmc with clockWait := some (rate % 4) } } : State).incSat
        Reg.DMC_TRN_STATUS_DEFERS 1) := by
      unfold execDramClockChange State.clockChange State.clockTry
      dsimp only
      rw [if_pos (by rw [hdom, decide_eq_true hr]; rfl), if_pos hbar, if_pos hbar]
    exact runs_of_effect he ⟨rfl, .incSat (.withDmc (.refl _ _ _))⟩ fun u q ⟨h1, hf⟩ => ⟨h1, hf.finish q⟩
end

section
/-! SUPPORT. Requests and the command slot (R229–R235). -/

namespace Sys2Proof.Machine

/-- R255 over every error of one symbol. -/
theorem decodeBeat_symbol : ∀ p < 10, ∀ e < 16, 0 < e → decodeBeat (e * 2 ^ (4 * p)) = .corrected p e := by decide

section
variable {s : State}

theorem burstsOf_one {addr len : Nat} (hl : 0 < len) (h : addr % 64 + len ≤ 64) : ∃ b, burstsOf addr len = [(addr / 64, b)] := by
  have hlast : (addr + len - 1) / 64 = addr / 64 := by omega
  refine ⟨decide (addr ≤ addr / 64 * 64) && decide (addr / 64 * 64 + 64 ≤ addr + len), ?_⟩
  unfold burstsOf
  dsimp only
  rw [hlast, Nat.add_sub_cancel_left]
  rfl

/-- The pool's request enters behind the others. -/
theorem State.pool_enterPool (s : State) (r : DReq) : (s.enterPool r).dmc.pool = s.dmc.pool ++ [r] ∧
    (s.enterPool r).dmc.waiting = s.dmc.waiting := by
  unfold State.enterPool
  extract_lets k old hazard src s1 c s2 b s3
  have h2 : s2.dmc.pool = s.dmc.pool ++ [r] ∧ s2.dmc.waiting = s.dmc.waiting := by
    unfold s2
    split
    · exact ⟨rfl, rfl⟩
    · exact ⟨rfl, rfl⟩
  split
  · split
    · exact h2
    · exact h2
  · exact h2

/-- The request of a read of one burst. -/
theorem State.dramRequest_one {p : DPort} {addr len ns : Nat} (hcap : addr + len ≤ s.capBytes) (hl : 0 < len) (h : addr % 64 + len ≤ 64)
    (hsub : s.submits p = true) : execDramRequest p false addr len ns s = done s (s.submitBurst p .read (addr / 64) ns) := by
  obtain ⟨b, hb⟩ := burstsOf_one hl h
  unfold execDramRequest
  rw [if_neg (by rw [hsub]; simp; omega), hb]
  rfl

theorem State.submitBurst_eq {p : DPort} {kind : DKind} {burst ns : Nat} (hfr : s.chFrozen (s.dramAddr (burst * 64)).ch = false)
    (hdom : s.domOn .dram = true) : s.submitBurst p kind burst ns =
      if !(s.dmc.waiting.any (fun w => w.port == p)) && s.poolRoom p then
        ({ s with dmc := { s.dmc with nextId := s.dmc.nextId + 1 } } : State).enterPool
          ⟨p, kind, burst, s.dramAddr (burst * 64), s.dmc.nextId, ns⟩
      else { s with dmc := { s.dmc with
        nextId := s.dmc.nextId + 1,
        waiting := s.dmc.waiting ++ [⟨p, kind, burst, s.dramAddr (burst * 64), s.dmc.nextId, ns⟩] } } :=
  if_neg (by rw [hfr, hdom]; decide)

/-! A lone read of an open row. -/

/-- Nothing asks for panic mode, so it stays off (R245). -/
theorem State.syncPanic_quiet {ns dump rest : Nat} (hpan : s.dmc.panicDir = 0) (hv : s.vaulting = false) (hreh : s.rehearsing = false)
    (hst : s.pmr.st ≠ .restoring) (hrem : s.restRemain = 0) : s.syncPanic ns dump rest = s := by
  have hst' : (s.pmr.st == .restoring) = false := beq_eq_false_iff_ne.2 hst
  unfold State.syncPanic
  simp [hpan, hv, hreh, hst', hrem]

theorem State.nextMode_read {r : DReq} (hpool : s.dmc.pool = [r]) (hk : r.kind = .read) (hwr : 0 < s.get Reg.DMC_SCHED_CFG_WR_HI)
    (sub ns : Nat) : s.nextMode sub ns = false := by
  have hw : s.dmc.pool.filter (fun r => r.dst.subKey == sub && r.kind != .read) = [] := by simp [hpool, hk]
  unfold State.nextMode
  dsimp only
  rw [hw]
  split
  · exact decide_eq_false (Nat.not_lt_zero _)
  · rw [decide_eq_false (show ¬s.get Reg.DMC_SCHED_CFG_WR_HI ≤ ([] : List DReq).length from hwr.not_ge)]
    rfl

/-- The row of the only request is open: it may issue. -/
theorem State.columnReady_lone {r : DReq} (hpool : s.dmc.pool = [r]) (hopen : (s.bank r.dst.bankKey).openRow = some r.dst.row)
    (hin : (s.bank r.dst.bankKey).inOrder = []) (ns : Nat) : s.columnReady ns r = true := by
  have hmiss : s.missOf r.dst.bankKey ns = none := by
    simp [State.missOf, Dram.bankReqs, hpool, hopen]
  have hturn : s.inTurn r = true := if_pos hin
  rw [State.columnReady, hopen, hturn, State.rowCapped, hmiss]
  simp

theorem DPort.all_filter_eq (q : DPort) : DPort.all.filter (fun p => q == p) = [q] := by
  cases q
  all_goals rfl

theorem pickPort_one (p : DPort) (credits weights : List Nat) : ∃ cr, pickPort [p] credits weights = some (p, cr) := by
  unfold pickPort
  split
  next q h =>
    have hq : q = p := List.mem_singleton.1 (List.mem_of_find?_eq_some h)
    exact ⟨_, by rw [hq]⟩
  · exact ⟨_, rfl⟩

theorem State.firstOf_read {r : DReq} (hk : r.kind = .read) : s.firstOf r.port [r] = some r := by
  have hmine : [r].filter (fun x => x.port == r.port) = [r] := by simp
  unfold State.firstOf
  rw [hmine]
  simp [hk]

/-- The only request, a read of an open row, is the column command. -/
theorem State.columnPick_lone {r : DReq} {sub ns : Nat} (hpan : s.dmc.panicDir = 0) (hpool : s.dmc.pool = [r]) (hk : r.kind = .read)
    (hsub : r.dst.subKey = sub) (hwr : 0 < s.get Reg.DMC_SCHED_CFG_WR_HI)
    (hopen : (s.bank r.dst.bankKey).openRow = some r.dst.row) (hin : (s.bank r.dst.bankKey).inOrder = []) :
    ∃ cr, s.columnPick sub ns = some (r, cr) := by
  have hready : s.dmc.pool.filter (fun r => r.dst.subKey == sub && s.columnReady ns r) = [r] := by
    simp [hpool, hsub, State.columnReady_lone hpool hopen hin]
  have hmode : [r].filter (fun r => (r.kind != .read) == s.nextMode sub ns) = [r] := by
    simp [hk, State.nextMode_read hpool hk hwr]
  have hports : DPort.all.filter (fun p => [r].any (fun r => r.port == p)) = [r.port] := by
    simpa using DPort.all_filter_eq r.port
  obtain ⟨cr, hpick⟩ := pickPort_one r.port (s.sub sub).credits (DPort.all.map s.weight)
  unfold State.columnPick
  dsimp only
  rw [if_pos (.inl hpan), hready, hpan]
  rw [if_neg (by simp), hmode, hports, hpick]
  dsimp only
  rw [State.firstOf_read hk]
  split
  next x h =>
    have hx : x = r := List.mem_singleton.1 (List.mem_of_find?_eq_some h)
    exact ⟨_, by rw [hx]⟩
  · exact ⟨cr, rfl⟩

/-- Decoding a burst without errors changes nothing (R256). -/
theorem State.decodeRead_clean (s : State) (port : DPort) (burst : Nat) (merge : Bool) :
    s.decodeRead port burst (List.replicate 16 0) merge = (s, true) := by
  have hd : decodeBurst (List.replicate 16 0) = .clean := by decide
  have hres : residue (List.replicate 16 0) = false := by decide
  unfold State.decodeRead
  rw [hd, hres]
  rfl

/-- The column command of a read without errors is sent, and the read leaves the pool. -/
theorem State.column_clean {r : DReq} (hk : r.kind = .read) (herr : mget s.dmc.errs r.burst = none) : s.column r [] =
    (((s.setBank r.dst.bankKey { s.bank r.dst.bankKey with hits := (s.bank r.dst.bankKey).hits + 1 }).send
      (.dram r.dst.subKey 2 r.dst.rk (r.dst.bankKey % 32) r.dst.col)).leavePool r).setErr r.burst (List.replicate 16 0) := by
  have hzero : xorBurst (mgetD s.dmc.errs r.burst (List.replicate 16 0)) [] = List.replicate 16 0 := by
    rw [mgetD, herr]
    decide
  have hcode : (if r.kind = .write ∨ r.kind = .mergedWrite then 3 else 2) = 2 := if_neg (by rw [hk]; decide)
  unfold State.column
  rw [hcode, hk]
  dsimp only
  rw [show ∀ t : State, t.dmc.errs = s.dmc.errs → xorBurst (mgetD t.dmc.errs r.burst (List.replicate 16 0)) [] = List.replicate 16 0 from
    fun t ht => by rw [ht]; exact hzero]
  · rw [State.decodeRead_clean]
    exact if_pos rfl
  · rfl

end

end Sys2Proof.Machine
end

section
/-! PROOF. -/

open Sys2Proof Sys2Proof.Machine

/-- Settles O25: the symbol code, where a read of one burst goes, and the column command of a lone read. -/
theorem dramRequests : Obligations.DramRequests := by
  refine ⟨fun p e hp he he' => decodeBeat_symbol p hp e he' he, fun p addr len ns s hcap hl h hdom hsub hfr hw hroom => ?_,
    fun p addr len ns s hcap hl h hdom hsub hfr hroom => ?_, fun p addr len ns s h hfr => ?_, fun p write addr len ns s h => ?_,
    fun sub ns dump rest forbid r s hdom hpan hv hreh hst hrem hpool hwait hrw hk hsub hwr hopen hin herr => ?_⟩
  · have he := State.dramRequest_one (ns := ns) hcap hl h hsub
    rw [State.submitBurst_eq hfr hdom, if_pos (by rw [hw, hroom]; rfl)] at he
    obtain ⟨h1, h2⟩ := State.pool_enterPool { s with dmc := { s.dmc with nextId := s.dmc.nextId + 1 } }
      ⟨p, .read, addr / 64, s.dramAddr (addr / 64 * 64), s.dmc.nextId, ns⟩
    have hf := frame_enterPool { s with dmc := { s.dmc with nextId := s.dmc.nextId + 1 } }
      ⟨p, .read, addr / 64, s.dramAddr (addr / 64 * 64), s.dmc.nextId, ns⟩
    have hf' := State.Frame.trans (State.Frame.withDmc (.refl s [.dmc] [Reg.DMC_INORDER_CNT_COUNT])) hf
    generalize State.enterPool _ _ = t at he h1 h2 hf'
    exact runs_of_effect he ⟨h1, h2, hf'⟩ fun u q ⟨h1, h2, hf⟩ => ⟨h1, h2, hf.finish q⟩
  · have he := State.dramRequest_one (ns := ns) hcap hl h hsub
    rw [State.submitBurst_eq hfr hdom, if_neg (by rw [hroom]; simp)] at he
    exact runs_of_effect he ⟨rfl, rfl, .withDmc (.refl _ _ _)⟩ fun u q ⟨h1, h2, hf⟩ => ⟨h1, h2, hf.finish q⟩
  · have he : execDramRequest p false addr len ns s = done s s := by
      unfold execDramRequest
      split
      · rfl
      next hc =>
        obtain ⟨b, hb⟩ := burstsOf_one (addr := addr) (len := len) (by omega) h
        rw [hb]
        exact congrArg (done s) (if_pos (by rw [hfr]; rfl))
    exact runs_of_effect he (.refl _ _ _) fun u q hf => hf.finish q
  · have he : execDramRequest p write addr len ns s = done s s :=
      congrArg (done s) (if_pos (h.elim (fun h => .inr (.inr (by rw [h]; rfl))) .inl))
    exact runs_of_effect he (.refl _ _ _) fun u q hf => hf.finish q
  · have hpanic := State.syncPanic_quiet (ns := ns) (dump := dump) (rest := rest) hpan hv hreh hst hrem
    let s1 := s.setSub sub { s.sub sub with writeMode := s.nextMode sub ns }
    obtain ⟨cr, hpick⟩ := State.columnPick_lone (s := s1) (ns := ns) hpan hpool hk hsub hwr hopen hin
    let s2 := s1.setSub sub { s1.sub sub with credits := cr, since := (s1.sub sub).since + 1 }
    have hcol := State.column_clean (s := s2) hk herr
    have hfacts : (s2.column r []).dmc.pool = [] ∧ (s2.column r []).dmc.waiting = [] ∧ (s2.column r []).dmc.rewrites = [] ∧
        (s2.column r []).out = s.out ++ [.dram sub 2 r.dst.rk (r.dst.bankKey % 32) r.dst.col] ∧ (s2.column r []).Frame s [.dmc] [] := by
      rw [hcol, hsub]
      refine ⟨?_, hwait, hrw, rfl, ?_⟩
      · show s.dmc.pool.filter (fun x => x.id != r.id) = []
        rw [hpool]
        simp
      · exact .next (.next (.send (.next (.next (.next (.refl _ _ _) (frame_setSub _ _ _)) (frame_setSub _ _ _)) (frame_setBank _ _ _)))
          (frame_leavePool _ _)) (frame_setErr _ _ _)
    obtain ⟨h1, h2, h3, h4, hf⟩ := hfacts
    have he : execDramCommandSlot sub ns dump rest forbid [] s = done s (s2.column r []) := by
      unfold execDramCommandSlot
      rw [if_pos hdom]
      unfold State.commandSlot
      dsimp only
      rw [hpanic, show State.columnPick _ sub ns = some (r, cr) from hpick]
      dsimp only
      rw [if_neg (by rw [show s1.dmc.panicDir = 0 from hpan]; simp), State.refillPool, h2, List.foldl_nil, State.pumpRewrite, h3]
    generalize s2.column r [] = t at he h1 h4 hf
    exact runs_of_effect he ⟨h1, h4, hf⟩ fun u q ⟨h1, h2, hf⟩ => ⟨h1, h2, hf.finish q⟩
end

section
/-! SUPPORT. The frame rules used below. -/

namespace Sys2Proof.Machine

theorem frame_echoTrain (s : State) : s.echoTrain.Frame s [.broker] [Reg.ECH_LINK_RETRAINS, Reg.PWR_LEAVE_QUEUE_REJECTS] := by
  unfold State.echoTrain
  exact .ite (.next (.incSat (.refl _ _ _)) (frame_leaveRequest _ _)) (.refl _ _ _)

theorem frame_lctl (s : State) (nak : Bool) : (s.lctl nak).Frame s [.ech] [Reg.ECH_CNT_NAK_COUNT] := by
  unfold State.lctl
  exact .ite (.incSat (.send (.withEch (.refl _ _ _)))) (.send (.withEch (.refl _ _ _)))

theorem frame_sendHello (s : State) : s.sendHello.Frame s [.ech] [] := by
  unfold State.sendHello
  exact .send (.withEch (.fresh (.refl _ _ _)))

end Sys2Proof.Machine
end

section
/-! SUPPORT. The Echo link's state (R285, R293, R294, R302). -/

namespace Sys2Proof.Machine

/-- Echo without what frames sent and the state word sent last change of it. -/
def Echo.unsent (e : Echo) : Echo := { e with sendSeq := 0, unitsSent := 0, replay := [], lastState := 0 }

/-- Of Echo, only frames were sent. -/
def State.EchoSent (s t : State) : Prop := t.ech.unsent = s.ech.unsent

section
variable {s t u : State}

theorem State.EchoSent.refl (s : State) : s.EchoSent s := rfl

theorem State.EchoSent.same (h : t.ech = s.ech) : s.EchoSent t := congrArg Echo.unsent h

theorem State.EchoSent.trans (h : s.EchoSent t) (k : t.EchoSent u) : s.EchoSent u := Eq.trans k h

/-- The same, the later step first. -/
theorem State.EchoSent.after (k : t.EchoSent u) (h : s.EchoSent t) : s.EchoSent u := h.trans k

theorem State.EchoSent.ite {c : Prop} [Decidable c] (ht : s.EchoSent t) (hu : s.EchoSent u) : s.EchoSent (if c then t else u) := by
  split
  · exact ht
  · exact hu

theorem echoSent_frame (s : State) (ty flags arg : Nat) (payload : List Byte) : s.EchoSent (s.frame ty flags arg payload) := by
  unfold State.frame
  exact .ite rfl rfl

theorem echoSent_echoStateSync (s : State) : s.EchoSent s.echoStateSync := by
  unfold State.echoStateSync State.echoStateSend
  exact .ite (.ite ((echoSent_frame _ _ _ _ _).after rfl) (.refl s)) (.refl s)

theorem echoSent_setPmr (s : State) (st : PmrState) : s.EchoSent (s.setPmr st) := by
  unfold State.setPmr
  exact .ite (.refl s) ((echoSent_echoStateSync _).after (.same (quiet_evHost _ _ _ _).ech))

theorem echoSent_syncHsts (s : State) : s.EchoSent s.syncHsts := .same (frame_syncHsts s).sameEch

theorem echoSent_asyncVendor (s : State) (page : Nat) : s.EchoSent (s.asyncVendor page) := .same (quiet_asyncVendor s page).ech

theorem echoSent_setCond (s : State) (c : Nat) : s.EchoSent (s.setCond c) := by
  unfold State.setCond
  extract_lets src s1
  have h1 : s.EchoSent s1 := (echoSent_asyncVendor _ _).after ((echoSent_syncHsts _).after (.same rfl))
  clear_value s1
  split
  · exact .refl s
  · exact .ite (h1.trans (echoSent_setPmr _ _)) h1

theorem echoSent_clearCond (s : State) (c : Nat) : s.EchoSent (s.clearCond c) := by
  unfold State.clearCond
  extract_lets src s1
  have h1 : s.EchoSent s1 := (echoSent_asyncVendor _ _).after ((echoSent_syncHsts _).after (.same rfl))
  clear_value s1
  split
  · unfold State.leaveReadOnly
    exact .ite ((echoSent_setPmr _ _).after h1) h1
  · exact .refl s

theorem echoSent_setEcho (s : State) (st sev : Nat) : s.EchoSent (s.setEcho st sev) := by
  unfold State.setEcho
  extract_lets s1
  have h1 : s.EchoSent s1 := .same ((frame_raise _ _ _ _).sameEch.trans (quiet_ev _ _ _ _ _).ech)
  clear_value s1
  split
  · exact .refl s
  · exact .ite h1 (.ite (h1.trans (echoSent_clearCond _ _)) (h1.trans (echoSent_setCond _ _)))

end

/-! Leave given back, and the end of a session. -/

theorem State.askedOp_leaveDropOp (s : State) (op : LeaveOp) : (s.leaveDropOp op).askedOp op = false := by
  have hgone : ∀ l ∈ (s.leaveDropOp op).broker.held ++ (s.leaveDropOp op).broker.queue, (l.op == op) = false := fun l hl => by
    have hmem := State.of_mem_leaveGrant (s := { s with broker := { s.broker with
      held := s.broker.held.filter (fun l => l.op != op), queue := s.broker.queue.filter (fun l => l.op != op) } }) hl
    have hne : (l.op != op) = true := (List.mem_append.1 hmem).elim (fun h => (List.mem_filter.1 h).2) (fun h => (List.mem_filter.1 h).2)
    simpa using hne
  unfold State.askedOp State.holdsOp
  rw [← List.any_append]
  exact List.any_eq_false.2 fun l hl => by simp [hgone l hl]

theorem State.dropRemote_none {s : State}
    (h : s.cache.map.any (fun e => e.2.st == .remote || (e.2.st == .fetching && e.2.fromPeer)) = false) : s.dropRemote = s := by
  have hnil : mfilter (fun _ e => e.st == .remote || (e.st == .fetching && e.fromPeer)) s.cache.map = [] :=
    List.filter_eq_nil_iff.2 fun e he => by simpa using List.any_eq_false.1 h e he
  unfold State.dropRemote
  rw [hnil]
  exact if_pos (.inl rfl)

/-- A request that the whole budget covers is held or queued (R20). -/
theorem State.leaveRequest_within {s : State} {op : LeaveOp} (hcost : s.leaveCost op ≤ s.leaveBudget - s.get Reg.PWR_LEAVE_BUDGET_BASE_MW)
    (hid : ∀ l ∈ s.broker.queue, l.id ≠ s.broker.nextId) :
    (s.leaveRequest op).1 = (s.queued op).leaveGrant ∧ (s.leaveRequest op).1.askedOp op = true := by
  have he : (s.leaveRequest op).1 = (s.queued op).leaveGrant := by
    rw [State.leaveRequest, if_neg (by omega)]
    rfl
  have hmem : (⟨s.broker.nextId, op, s.leaveCost op, false⟩ : Leave) ∈ (s.queued op).leaveGrant.broker.held ++ (s.queued op).leaveGrant.broker.queue := by
    refine State.mem_leaveGrant (List.mem_append_right _ (List.mem_singleton_self _)) fun x hx heq => ?_
    exact (List.mem_append.1 hx).elim (fun h => absurd heq (hid x h)) List.mem_singleton.1
  refine ⟨he, ?_⟩
  rw [he, State.askedOp, State.holdsOp, ← List.any_append]
  exact List.any_eq_true.2 ⟨_, hmem, beq_self_eq_true _⟩

/-- The end of a session shows the link down (R294). -/
theorem State.linkUp_endSession (s : State) (next sev : Nat) : (s.endSession next sev).flag Reg.ECH_LINK_UP = false := by
  unfold State.endSession
  refine ((frame_judgeBarriers _).flag _).trans (((frame_dropRemote _).flag _).trans (((frame_setEcho _ _ _).flag _).trans ?_))
  dsimp only
  generalize ({ s.peerLeaves with ech := _ } : State) = t
  show (((((t.put Reg.ECH_LINK_UP 0).put Reg.ECH_LINK_RATE 0).put Reg.ECH_LINK_WIDTH 0).put Reg.UMB_PEER_OUT_GRANULES 0).put
    Reg.ECH_STATUS_PEER_TRIP 0).flag Reg.ECH_LINK_UP = false
  simp (disch := decide)

/-! The layer below the frames' types (R293, R302). -/

theorem State.echoUp_facts {s : State} {rate width : Nat} (hr : rate < 4) (hw : width < 4) :
    (s.echoUp rate width).echoState = ePairing ∧ (s.echoUp rate width).flag Reg.ECH_LINK_UP = true ∧
      (s.echoUp rate width).get Reg.ECH_LINK_RATE = rate ∧ (s.echoUp rate width).get Reg.ECH_LINK_WIDTH = width ∧
      (s.echoUp rate width).ech.failsRow = 0 ∧ (s.echoUp rate width).askedOp .phyEcho = false ∧
      (s.echoUp rate width).cache = s.cache := by
  unfold State.echoUp
  extract_lets s1 s2 s3 src s4
  have hf2 : s2.Frame s1 [.ech, .broker, .pmr] [] := .ite (.refl _ _ _) (.ev (.refl _ _ _))
  have hf3 : s3.Frame s1 [.ech, .broker, .pmr] [] := .ite hf2 (.ev hf2)
  have hf4 : s4.Frame s1 [.ech, .broker, .pmr] [] := .withEch hf3
  have hf5 : (s4.leaveDropOp .phyEcho).Frame s1 [.ech, .broker, .pmr] [] := .next hf4 (frame_leaveDropOp _ _)
  have hup : s1.flag Reg.ECH_LINK_UP = true := by simp (disch := decide) [s1]
  have hrate : s1.get Reg.ECH_LINK_RATE = rate := by
    rw [State.get_put_other _ (by decide)]
    exact State.get_put_lt _ _ (show rate < 4 from hr)
  have hwidth : s1.get Reg.ECH_LINK_WIDTH = width := State.get_put_lt _ _ (show width < 4 from hw)
  have hasked := State.askedOp_leaveDropOp s4 .phyEcho
  have hrow : (s4.leaveDropOp .phyEcho).ech.failsRow = 0 := rfl
  have hcache : s1.cache = s.cache := rfl
  clear_value s4 s1
  generalize s4.leaveDropOp .phyEcho = u at hf5 hasked hrow
  have hf6 : (u.setEcho ePairing 2).sendHello.Frame u [.pmr, .ech] [Reg.ECH_STATUS_STATE, Reg.ECH_STATUS_STATE_EV] :=
    .next (frame_setEcho _ _ _) (frame_sendHello _)
  refine ⟨((frame_sendHello _).get _).trans (State.echoState_setEcho _ _ (by decide)), (hf6.flag _).trans ((hf5.flag _).trans hup),
    (hf6.get _).trans ((hf5.get _).trans hrate), (hf6.get _).trans ((hf5.get _).trans hwidth), ?_, ?_,
    hf6.sameCache.trans (hf5.sameCache.trans hcache)⟩
  · exact (congrArg Echo.failsRow (echoSent_setEcho u _ _) :).trans hrow
  · unfold State.askedOp State.holdsOp
    rw [hf6.sameBroker]
    exact hasked

theorem State.misbehave_facts (s : State) (code : Nat) (header : List Nat) (h : code < 256) :
    (s.misbehave code header).echoState = eHeld ∧ (s.misbehave code header).get Reg.ECH_MISB_LAST_CODE = code := by
  refine ⟨State.echoState_endSession _ _ _ (by decide), ?_⟩
  unfold State.misbehave
  refine ((frame_endSession _ _ _).get _).trans ((State.get_raise_other _ _ (by decide)).trans ?_)
  exact State.get_put_lt _ _ (show code < 2 ^ 8 from h)

end Sys2Proof.Machine
end

section
/-! PROOF. -/

open Sys2Proof Sys2Proof.Machine

/-- Settles O28: the link's coming up, its training and loss, and what the link layer takes and refuses. -/
theorem echoLink : Obligations.EchoLink := by
  refine ⟨fun rate width s hdom hpair hst hr => ?_, fun rate width s hr => ?_, fun s hdom hpair hst hask hcost hid => ?_,
    fun s hask hnone => ?_, fun s hrej hup => ?_, fun s hrej => ?_, fun s rx ty flags arg len act hses hbad hdis => ?_,
    fun s rx ty flags arg len act hdis hseq => ?_, fun s rx ty flags arg len act hses hseq htag hmal => ?_,
    fun s rx ty flags arg len act hses => ?_⟩
  · have he : execEchoLinkUp rate width s = done s (s.echoUp (rate % 4) (width % 4)) := by
      simp [execEchoLinkUp, hdom, hpair, hst, hr]
    exact runs_of_effect he (State.echoUp_facts (Nat.mod_lt _ (by decide)) (Nat.mod_lt _ (by decide))) fun u q h => h
  · have he : execEchoLinkUp rate width s = done s s := by simp [execEchoLinkUp, hr]
    exact runs_of_effect he (.refl _ _ _) fun u q h => h.finish q
  · have he : execEchoTrainRetry s = done s ((s.incSat Reg.ECH_LINK_RETRAINS 1).leaveRequest .phyEcho).1 := by
      simp [execEchoTrainRetry, State.echoTrain, hdom, hpair, hst, hask]
    have hget : ∀ f : Fld, f.key ≠ Reg.ECH_LINK_RETRAINS.key → (s.incSat Reg.ECH_LINK_RETRAINS 1).get f = s.get f :=
      fun f hf => State.get_incSat_other 1 hf
    have hc : (s.incSat Reg.ECH_LINK_RETRAINS 1).leaveCost .phyEcho ≤ (s.incSat Reg.ECH_LINK_RETRAINS 1).leaveBudget -
        (s.incSat Reg.ECH_LINK_RETRAINS 1).get Reg.PWR_LEAVE_BUDGET_BASE_MW := by
      simpa (disch := decide) only [State.leaveCost, State.leaveBudget, hget] using hcost
    obtain ⟨hgrant, hasked⟩ := State.leaveRequest_within hc hid
    refine runs_of_effect he ⟨hasked, ?_, ?_⟩ fun u q ⟨h1, h2, hf⟩ => ⟨h1, h2, hf.finish q⟩
    · rw [hgrant]
      exact State.get_incSat s _ 1
    · rw [hgrant]
      exact .next (.withBroker (.incSat (.refl _ _ _))) (frame_leaveGrant _)
  · have he : execEchoTrainingAttemptFailed s = done s { s.leaveDropOp .phyEcho with
        ech := { s.ech with failsRow := s.ech.failsRow + 1 } } := by
      unfold execEchoTrainingAttemptFailed
      rw [if_pos hask]
      exact congrArg (done s) (State.dropRemote_none hnone)
    exact runs_of_effect he ⟨State.askedOp_leaveDropOp s _, rfl, .withEch (.next (.refl _ _ _) (frame_leaveDropOp s _))⟩
      fun u q ⟨h1, h2, hf⟩ => ⟨h1, h2, hf.finish q⟩
  · have he : execEchoLinkLoss s = done s (s.endSession eDown 4).echoTrain := by simp [execEchoLinkLoss, hrej, hup]
    exact runs_of_effect he ⟨((frame_echoTrain _).get _).trans (State.echoState_endSession _ _ _ (by decide)),
      ((frame_echoTrain _).flag _).trans (State.linkUp_endSession _ _ _)⟩ fun u q h => h
  · have he : execEchoLinkLoss s = done s s := by simp [execEchoLinkLoss, hrej]
    exact runs_of_effect he (.refl _ _ _) fun u q h => h.finish q
  · have hout : (rx.lseq != s.ech.expSeq % 2 ^ 32 || !rx.tagOk) = true := by simpa using hbad
    have hin : (s.ech.discarding && rx.lseq != s.ech.expSeq % 2 ^ 32) = false := by
      simpa [or_iff_not_imp_left] using hdis
    rw [State.rxFrame, if_neg (by rw [hses]; simp), if_pos hout, if_neg (by rw [hin]; simp)]
    exact ⟨rfl, rfl, rfl, .next (.withEch (.refl _ _ _)) (frame_lctl _ _)⟩
  · have hout : (rx.lseq != s.ech.expSeq % 2 ^ 32) = true := bne_iff_ne.2 hseq
    rw [State.rxFrame]
    simp only [hout, hdis, Bool.true_or, Bool.true_and, if_true, ite_self]
  · rw [State.rxFrame, if_neg (by rw [hses]; simp), if_neg (by simp [hseq, htag]), if_pos hmal]
    exact State.misbehave_facts _ _ _ (by decide)
  · exact if_pos (by rw [hses]; rfl)
end

section
/-! SUPPORT. Pairing (R296, R297). -/

namespace Sys2Proof.Machine

section
variable {s : State}

/-- With a HELLO or a PROOF still to come, nothing is checked. -/
theorem State.pairCheck_waits (h : s.ech.hello = none ∨ s.ech.proofOk = false) : s.pairCheck = s := by
  unfold State.pairCheck
  cases hh : s.ech.hello with
  | none => rfl
  | some x =>
    obtain h | h := h
    · rw [hh] at h
      cases h
    · exact if_pos (by rw [h]; rfl)

/-- A peer that is refused, and its link down (R297). -/
theorem State.refusePeer_facts (s : State) (sev cause : Nat) :
    (s.refusePeer sev cause).echoState = eRefused ∧ (s.refusePeer sev cause).flag Reg.ECH_LINK_UP = false := by
  have hst : (s.endSession eRefused 2).echoState = eRefused := State.echoState_endSession _ _ _ (by decide)
  have hup := s.linkUp_endSession eRefused 2
  unfold State.refusePeer
  generalize s.endSession eRefused 2 = t at hst hup
  have hf : State.Frame (if s.ech.refused.contains cause then t else
      ({ t with ech := { t.ech with refused := t.ech.refused ++ [cause] } } : State).ev .ech 0x5002 sev cause) t [.ech] [] :=
    .ite (.refl _ _ _) (.ev (.withEch (.refl _ _ _)))
  exact ⟨(hf.get _).trans hst, (hf.flag _).trans hup⟩

/-- The stream opens in SYNC; without the peer's version information nothing follows yet (R298, R299). -/
theorem State.openStream_synced (hv : s.ech.vinfoPeer = none) :
    ((s.setEcho eSync 2).openStream).syncTurn.echoState = eSync ∧ ((s.setEcho eSync 2).openStream).syncTurn.ech.session = s.ech.session ∧
      ((s.setEcho eSync 2).openStream).syncTurn.ech.peerId = s.ech.peerId ∧
      ((s.setEcho eSync 2).openStream).syncTurn.cache = s.cache := by
  have h1 : (s.setEcho eSync 2).ech.unsent = s.ech.unsent := echoSent_setEcho s eSync 2
  have hst : (s.setEcho eSync 2).echoState = eSync := State.echoState_setEcho _ _ (by decide)
  have hc : (s.setEcho eSync 2).cache = s.cache := (frame_setEcho s eSync 2).sameCache
  generalize s.setEcho eSync 2 = t at h1 hst hc
  have hses : t.ech.session = s.ech.session := (congrArg Echo.session h1 :)
  have hid : t.ech.peerId = s.ech.peerId := (congrArg Echo.peerId h1 :)
  have hv1 : t.ech.vinfoPeer = none := (congrArg Echo.vinfoPeer h1 :).trans hv
  have ho : t.openStream.ech.session = t.ech.session ∧ t.openStream.ech.peerId = t.ech.peerId ∧ t.openStream.ech.vinfoPeer = t.ech.vinfoPeer := by
    have h := echoSent_frame { t with ech := { t.ech with epochHist := [(t.pmr.nextSeq, t.pmr.epoch)] } } fEpoch 0 t.pmr.epoch []
    exact ⟨(congrArg Echo.session h :), (congrArg Echo.peerId h :), (congrArg Echo.vinfoPeer h :)⟩
  have hturn : t.openStream.vinfoTurn.ech.session = t.openStream.ech.session ∧ t.openStream.vinfoTurn.ech.peerId = t.openStream.ech.peerId ∧
      t.openStream.vinfoTurn.ech.vinfoPeer = t.openStream.ech.vinfoPeer := by
    unfold State.vinfoTurn
    split
    · have h := echoSent_frame { t.openStream with ech := { t.openStream.ech with vinfoSent := true } } fVinfo
      exact ⟨(congrArg Echo.session (h _ _ _) :), (congrArg Echo.peerId (h _ _ _) :), (congrArg Echo.vinfoPeer (h _ _ _) :)⟩
    · exact ⟨rfl, rfl, rfl⟩
  obtain ⟨a1, a2, a3⟩ := ho
  obtain ⟨b1, b2, b3⟩ := hturn
  have hsync : t.openStream.syncTurn = t.openStream.vinfoTurn := by
    unfold State.syncTurn State.resyncTurn
    rw [b3, a3, hv1]
  have hf : t.openStream.vinfoTurn.Frame t [.ech] [] := .next (.next (.refl _ _ _) (frame_openStream _)) (frame_vinfoTurn _)
  rw [hsync]
  exact ⟨(hf.get _).trans hst, b1.trans (a1.trans hses), b2.trans (a2.trans hid), hf.sameCache.trans hc⟩

/-- A known peer that passes every check, neither side resuming: the next session, in SYNC (R297, R298). -/
theorem State.pairCheck_passed {h : Hello} {i : Image} (hh : s.ech.hello = some h) (hp : s.ech.proofOk = true) (hi : s.boot.running = some i)
    (hpair : h.pairId = i.pairId) (hproto : h.proto = 1) (howner : h.owner ≠ s.owner.idx) (hcap : h.cap = s.capGiB)
    (hid : s.ech.peerId = some h.uid) (hr : h.resume = false) (hr' : s.ech.resume = false) (hv : s.ech.vinfoPeer = none) :
    s.pairCheck.echoState = eSync ∧ s.pairCheck.ech.session = Nat.max s.ech.session h.session + 1 ∧
      s.pairCheck.ech.peerId = some h.uid ∧ s.pairCheck.cache = s.cache := by
  rw [State.pairCheck, hh]
  dsimp -zeta only
  rw [if_neg (by rw [hp]; simp)]
  extract_lets pairId known replace s1 fresh res src s2 s3 s4
  have hk : known = true := by simp [known, hid]
  have hech : s1.ech = s.ech := by
    simp only [s1]
    split
    · rfl
    · exact (quiet_ev _ _ _ _ _).ech
  have hcache : s1.cache = s.cache := State.Frame.sameCache (ps := []) (fs := []) (.ite (.refl _ _ _) (.ev (.refl _ _ _)))
  have hres : res = false := by simp [res, hech, hr, hr']
  have hs4 : s4 = s3 := if_pos hk
  have hv3 : s3.ech.vinfoPeer = none := (congrArg Echo.vinfoPeer hech).trans hv
  have hses : s3.ech.session = Nat.max s.ech.session h.session + 1 := by
    show Nat.max s1.ech.session h.session + 1 = _
    rw [hech]
  have hpid : s3.ech.peerId = some h.uid := rfl
  have hc3 : s3.cache = s.cache := hcache
  clear_value s4 s3 s2 src res
  rw [if_neg (by simp [pairId, hi, hpair]), if_neg (by simp [hproto, howner]), if_neg (by simp [hcap]), if_neg (by simp [hk]),
    if_neg (by simp [hres]), hs4, ← hses, ← hpid, ← hc3]
  exact State.openStream_synced hv3

end

end Sys2Proof.Machine
end

section
/-! PROOF. -/

open Sys2Proof Sys2Proof.Machine

/-- Settles O29: HELLO and PROOF while pairing, and what follows when both have come. -/
theorem echoPairs : Obligations.EchoPairs := by
  refine ⟨fun nonce proto owner stepping cap uid pairId session resume s ⟨hup, hst⟩ hh hp => ?_,
    fun nonce proto owner stepping cap uid pairId session resume s ⟨hup, hst⟩ hh => ?_, fun s ⟨hup, hst⟩ => ?_,
    fun s ⟨hup, hst⟩ hh => ?_, fun h i s ⟨hup, hst⟩ hh hi hpair hproto howner hcap hid hr hr' hv => ?_⟩
  · let s1 := ((({ s with ech := { s.ech with hello := some ⟨nonce, proto, owner, stepping, resume, cap, uid, pairId, session⟩ } } :
      State).put Reg.ECH_PEER_STEPPING stepping).put Reg.ECH_PEER_OWNER owner).put Reg.ECH_PEER_CAP_GIB cap
    let s2 := (s1.fresh 384).2.send (.frame fProof [0, 0, 0] (natLe (s1.fresh 384).1 48))
    have hwait : s2.pairCheck = s2 := State.pairCheck_waits (.inr hp)
    have he : execHello false nonce proto owner stepping resume cap uid pairId session s = done s s2 := by
      rw [← hwait]
      simp [execHello, hup, hst, hh, s2, s1]
    have hf : s2.Frame s [.ech] [Reg.ECH_PEER_STEPPING, Reg.ECH_PEER_OWNER, Reg.ECH_PEER_CAP_GIB] :=
      .send (.fresh (.put (.put (.put (.withEch (.refl _ _ _))))))
    have hhello : s2.ech.hello = some ⟨nonce, proto, owner, stepping, resume, cap, uid, pairId, session⟩ := rfl
    clear_value s2 s1
    exact runs_of_effect he ⟨hhello, (hf.get _).trans hst, hf⟩ fun u q ⟨h1, h2, hf⟩ => ⟨h1, h2, hf.finish q⟩
  · have he : execHello true nonce proto owner stepping resume cap uid pairId session s =
        done s (s.misbehave 9 (headerWords fHello 0 16 0 0)) := by
      simp [execHello, hup, hst, hh]
    exact runs_of_effect he (State.misbehave_facts _ _ _ (by decide)) fun u q h => h
  · have he : execProof false false s = done s (s.refusePeer 5 0) := by simp [execProof, hup, hst]
    exact runs_of_effect he (s.refusePeer_facts 5 0) fun u q h => h
  · have he : execProof false true s = done s { s with ech := { s.ech with proofOk := true } } := by
      rw [← State.pairCheck_waits (s := { s with ech := { s.ech with proofOk := true } }) (.inl hh)]
      simp [execProof, hup, hst]
    exact runs_of_effect he ⟨rfl, .withEch (.refl _ _ _)⟩ fun u q ⟨h1, hf⟩ => ⟨h1, hf.finish q⟩
  · have he : execProof false true s = done s (State.pairCheck { s with ech := { s.ech with proofOk := true } }) := by
      simp [execProof, hup, hst]
    exact runs_of_effect he (State.pairCheck_passed (s := { s with ech := { s.ech with proofOk := true } }) hh rfl hi hpair hproto howner hcap
      hid hr hr' hv) fun u q h => h
end

section
/-! SUPPORT. A frame in sequence (R293). -/

namespace Sys2Proof.Machine

/-- Echo once the link layer has taken a frame of `len` dwords. -/
def Echo.taken (e : Echo) (len : Nat) : Echo :=
  { e with expSeq := e.expSeq + 1, nakRow := 0, ackDue := true, discarding := false, freed := e.freed + ceilDiv (16 + 4 * len + 8) 64 }

/-- The state once the link layer has taken a frame of `len` dwords. -/
def State.taken (s : State) (len : Nat) : State := { s with ech := s.ech.taken len }

section
variable {s : State} {rx : Rx} {ty flags arg len : Nat} {act : State → State}

theorem frame_taken (s : State) (len : Nat) : (s.taken len).Frame s [.ech] [] := .withEch (.refl _ _ _)

/-- A frame in sequence is acted on, once taken. -/
theorem State.rxFrame_taken (hs : s.sessionUp = true) (hseq : rx.lseq = s.ech.expSeq % 2 ^ 32) (htag : rx.tagOk = true)
    (hm : rx.malformed = false) : s.rxFrame rx ty flags arg len act = act (s.taken len) := by
  rw [State.rxFrame, if_neg (by rw [hs]; simp), if_neg (by simp [hseq, htag])]
  exact if_neg (by rw [hm]; simp)

theorem State.Accepts.rxFrame (h : s.Accepts rx) : s.rxFrame rx ty flags arg len act = act (s.taken len) := by
  obtain ⟨_, hs, hseq, htag, hm⟩ := h
  exact State.rxFrame_taken hs hseq htag hm

theorem State.sessionUp_dropRequest (s : State) : s.dropRequest.sessionUp = s.sessionUp := by
  have hdom : s.dropRequest.domSt .echo = s.domSt .echo := rfl
  simp (disch := decide) [State.sessionUp, State.domOn, State.echoState, (frame_dropRequest s).get_eq, hdom]

/-- The same of a frame that notes activity. -/
theorem State.Accepts.rxFrame_touch (h : s.Accepts rx) :
    (s.touch 3).rxFrame rx ty flags arg len act = act (s.dropRequest.taken len) := by
  obtain ⟨hrun, hs, hseq, htag, hm⟩ := h
  rw [State.touch_run hrun (by decide)]
  exact State.rxFrame_taken ((State.sessionUp_dropRequest s).trans hs) hseq htag hm

/-- A frame taken, and an outstanding sleep request dropped for it. -/
theorem frame_dropTaken (s : State) (len : Nat) : (s.dropRequest.taken len).Frame s [.ech, .pwr] [Reg.PWR_STATUS_RETRY] :=
  .withEch (.next (.refl _ _ _) (frame_dropRequest s))

theorem State.streaming_dropTaken (s : State) (len : Nat) : (s.dropRequest.taken len).streaming = s.streaming := by
  simp (disch := decide) [State.streaming, State.pair, State.echoState, (frame_dropTaken s len).get_eq,
    (frame_dropTaken s len).flag_eq]

end
end Sys2Proof.Machine
end

section
/-! SUPPORT. The streams' own frames (R299, R300). -/

namespace Sys2Proof.Machine

section
variable {s : State}

/-- The epoch that follows the stream's (R299). -/
theorem State.rxEpoch_next {e0 : Nat} {hdr : List Nat} (hfree : s.ech.epochFree = false) (he : s.ech.peerEpoch = some e0) :
    s.rxEpoch ((e0 + 1) % 2 ^ 32) hdr = { s with ech := { s.ech with peerEpoch := some ((e0 + 1) % 2 ^ 32) } } := by
  simp [State.rxEpoch, hfree, he]

theorem State.rxEpoch_other {e e0 : Nat} {hdr : List Nat} (hfree : s.ech.epochFree = false) (he : s.ech.peerEpoch = some e0)
    (hne : e ≠ (e0 + 1) % 2 ^ 32) : s.rxEpoch e hdr = s.misbehave 8 hdr := by
  rw [State.rxEpoch, he]
  exact (if_neg (by rw [hfree]; simp)).trans (if_neg (by simpa using hne))

/-- An acknowledgement within what was sent (R300). -/
theorem State.rxMack_within {ns : Bool} {arg epoch dirtied rtt : Nat} {hdr : List Nat} (hlo : s.get Reg.ECH_SEQ_ACKED_SEQ ≤ arg)
    (hhi : arg ≤ s.get Reg.ECH_SEQ_SENT_SEQ) (harg : arg < 2 ^ 64) (hep : s.ech.epochAt arg = some epoch) (hd : s.ech.dirtied ≤ dirtied)
    (hd' : dirtied ≤ s.ech.mwrSent - (s.ech.unacked.filter (fun w => decide (arg < w.seq))).length + s.ech.rsSent)
    (hend : s.ech.rsEnd = none) :
    (s.rxMack false ns arg epoch dirtied rtt hdr).get Reg.ECH_SEQ_ACKED_SEQ = arg ∧
      (s.rxMack false ns arg epoch dirtied rtt hdr).ech.dirtied = dirtied ∧
      (s.rxMack false ns arg epoch dirtied rtt hdr).ech.unacked = s.ech.unacked.filter (fun w => decide (arg < w.seq)) ∧
      (s.rxMack false ns arg epoch dirtied rtt hdr).Frame s [.ech] [Reg.ECH_SEQ_ACKED_SEQ, Reg.ECH_LAT_LAST_NS, Reg.ECH_LAT_MAX_NS] := by
  unfold State.rxMack
  extract_lets e bad4 left bad5 covered s1 s2 s3
  have h4 : bad4 = false := by simp [bad4]; omega
  have h5 : bad5 = false := by simp [bad5, e, hep]
  have hleft : left = e.unacked.filter (fun w => decide (arg < w.seq)) := rfl
  have h6 : (decide (dirtied < e.dirtied) || decide (covered < dirtied)) = false := by simp [covered, e, hleft]; omega
  have hs2 : s2 = s1.put Reg.ECH_SEQ_ACKED_SEQ arg := rfl
  have hf2 : s2.Frame s [.ech] [Reg.ECH_SEQ_ACKED_SEQ, Reg.ECH_LAT_LAST_NS, Reg.ECH_LAT_MAX_NS] := .put (.withEch (.refl _ _ _))
  have hf3 : s3.Frame s [.ech] [Reg.ECH_SEQ_ACKED_SEQ, Reg.ECH_LAT_LAST_NS, Reg.ECH_LAT_MAX_NS] := .ite hf2 (.put (.put hf2))
  have hget : s3.get Reg.ECH_SEQ_ACKED_SEQ = arg := by
    have h : s2.get Reg.ECH_SEQ_ACKED_SEQ = arg := State.get_put_lt s1 _ (show arg < 2 ^ 64 from harg)
    exact (State.Frame.get (s := s2) (ps := []) (fs := [Reg.ECH_LAT_LAST_NS, Reg.ECH_LAT_MAX_NS])
      (.ite (.refl _ _ _) (.put (.put (.refl _ _ _)))) _).trans h
  have hech : s3.ech = s1.ech := by
    simp only [s3]
    split <;> rfl
  have hcheck : s3.resyncCheck = s3 := by
    unfold State.resyncCheck
    rw [hech, show s1.ech.rsEnd = none from hend]
  rw [if_neg (by rw [h4]; simp), if_neg (by rw [h5]; simp), if_neg (by simpa using h6), hcheck, hech]
  exact ⟨hget, rfl, rfl, hf3⟩

end

end Sys2Proof.Machine
end

section
/-! PROOF. -/

open Sys2Proof Sys2Proof.Machine

/-- Settles O31: EPOCH, MACK, ALLOW and STATE. -/
theorem echoStreams : Obligations.EchoStreams := by
  refine ⟨fun rx e s h hfree => ?_, fun rx e0 s h hfree he0 => ?_, fun rx e e0 s h hfree he0 hne => ?_,
    fun rx ns arg epoch dirtied rtt s h hst harg hlo hhi hep hd hd' hend => ?_, fun rx ns arg epoch dirtied rtt s h hst hover => ?_,
    fun rx n s h hle => ?_, fun rx n s h hlt => ?_, fun rx w s h h5 h7 h12 h13 hlow => ?_, fun rx w s h h7 => ?_⟩
  · have he := congrArg (done s) (h.rxFrame_touch (ty := fEpoch) (flags := 0) (arg := e) (len := 0)
      (act := fun t => t.rxEpoch e (headerWords fEpoch 0 0 rx.lseq e)))
    have hr : State.rxEpoch (s.dropRequest.taken 0) e (headerWords fEpoch 0 0 rx.lseq e) = _ := if_pos hfree
    rw [hr] at he
    exact runs_of_effect he ⟨rfl, rfl, rfl, rfl, .withEch (frame_dropTaken s 0)⟩
      fun u q ⟨h1, h2, h3, h4, hf⟩ => ⟨h1, h2, h3, h4, hf.finish q⟩
  · have he := congrArg (done s) (h.rxFrame_touch (ty := fEpoch) (flags := 0) (arg := (e0 + 1) % 2 ^ 32) (len := 0)
      (act := fun t => t.rxEpoch ((e0 + 1) % 2 ^ 32) (headerWords fEpoch 0 0 rx.lseq ((e0 + 1) % 2 ^ 32))))
    rw [State.rxEpoch_next (s := s.dropRequest.taken 0) hfree he0] at he
    exact runs_of_effect he ⟨rfl, rfl, .withEch (frame_dropTaken s 0)⟩ fun u q ⟨h1, h2, hf⟩ => ⟨h1, h2, hf.finish q⟩
  · have he := congrArg (done s) (h.rxFrame_touch (ty := fEpoch) (flags := 0) (arg := e) (len := 0)
      (act := fun t => t.rxEpoch e (headerWords fEpoch 0 0 rx.lseq e)))
    rw [State.rxEpoch_other (s := s.dropRequest.taken 0) hfree he0 hne] at he
    exact runs_of_effect he (State.misbehave_facts _ _ _ (by decide)) fun u q h => h
  · have he := congrArg (done s) (h.rxFrame_touch (ty := fMack) (flags := b2n ns + b2n false * 2) (arg := arg) (len := 4)
      (act := fun t => t.rxMack false ns arg epoch dirtied rtt (headerWords fMack (b2n ns + b2n false * 2) 4 rx.lseq arg)))
    have hf := frame_dropTaken s 4
    obtain ⟨h1, h2, h3, hm⟩ := State.rxMack_within (s := s.dropRequest.taken 4) (ns := ns) (rtt := rtt)
      (hdr := headerWords fMack (b2n ns + b2n false * 2) 4 rx.lseq arg) ((hf.get _).le.trans hlo) (hhi.trans (hf.get _).ge) harg hep hd hd' hend
    exact runs_of_effect he ⟨h1, h2, h3, .next hf.mono hm⟩ fun u q ⟨h1, h2, h3, hf⟩ => ⟨h1, h2, h3, hf.finish q⟩
  · have he := congrArg (done s) (h.rxFrame_touch (ty := fMack) (flags := b2n ns + b2n false * 2) (arg := arg) (len := 4)
      (act := fun t => t.rxMack false ns arg epoch dirtied rtt (headerWords fMack (b2n ns + b2n false * 2) 4 rx.lseq arg)))
    have hover' : (s.dropRequest.taken 4).get Reg.ECH_SEQ_SENT_SEQ < arg := ((frame_dropTaken s 4).get _).trans_lt hover
    have hr : (s.dropRequest.taken 4).rxMack false ns arg epoch dirtied rtt (headerWords fMack (b2n ns + b2n false * 2) 4 rx.lseq arg) =
        (s.dropRequest.taken 4).misbehave 4 (headerWords fMack (b2n ns + b2n false * 2) 4 rx.lseq arg) := by
      unfold State.rxMack
      exact if_pos (by simp [hover'])
    rw [hr] at he
    exact runs_of_effect he (State.misbehave_facts _ _ _ (by decide)) fun u q h => h
  · have he := congrArg (done s) (h.rxFrame_touch (ty := fAllow) (flags := 0) (arg := n) (len := 0) (act := fun t =>
      if n < t.ech.allowTotal then t.misbehave 7 (headerWords fAllow 0 0 rx.lseq n)
      else { t with ech := { t.ech with allowTotal := n } }))
    have hn : ¬ n < (s.dropRequest.taken 0).ech.allowTotal := not_lt.2 hle
    rw [if_neg hn] at he
    exact runs_of_effect he ⟨rfl, .withEch (frame_dropTaken s 0)⟩ fun u q ⟨h1, hf⟩ => ⟨h1, hf.finish q⟩
  · have he := congrArg (done s) (h.rxFrame_touch (ty := fAllow) (flags := 0) (arg := n) (len := 0) (act := fun t =>
      if n < t.ech.allowTotal then t.misbehave 7 (headerWords fAllow 0 0 rx.lseq n)
      else { t with ech := { t.ech with allowTotal := n } }))
    have hn : n < (s.dropRequest.taken 0).ech.allowTotal := hlt
    rw [if_pos hn] at he
    exact runs_of_effect he (State.misbehave_facts _ _ _ (by decide)) fun u q h => h
  · have he := congrArg (done s) (h.rxFrame (ty := fState) (flags := 0) (arg := w) (len := 0) (act := fun t => t.rxState w))
    have hr : (s.taken 0).rxState w = (({ s.taken 0 with ech := { (s.taken 0).ech with peerState := w } } : State).putB
        Reg.ECH_STATUS_PEER_TRIP false).put Reg.ECH_STATUS_PEER_FROZEN (bitsOf w 8 4) := by
      unfold State.rxState
      have h34 : (bitOf w 13 || bitsOf w 0 3 == 3 || bitsOf w 0 3 == 4) = false := by simp [h13]; omega
      dsimp only
      rw [if_neg (by rw [h7]; simp), if_neg (by rw [h5]; simp), if_neg (by rw [h34]; simp), if_neg (by rw [h12]; simp), h5]
    rw [hr] at he
    have hw : bitsOf w 8 4 < 2 ^ Reg.ECH_STATUS_PEER_FROZEN.width := Nat.mod_lt _ (by decide)
    exact runs_of_effect he ⟨rfl, State.get_put_lt _ _ hw, by simp (disch := decide), .put (.putB (.withEch (frame_taken s 0).mono))⟩
      fun u q ⟨h1, h2, h3, hf⟩ => ⟨h1, h2, h3, hf.finish q⟩
  · have he := congrArg (done s) (h.rxFrame (ty := fState) (flags := 0) (arg := w) (len := 0) (act := fun t => t.rxState w))
    have hr : ∃ u : State, (s.taken 0).rxState w = { u.endSession eDetached 2 with
        ech := { (u.endSession eDetached 2).ech with detachedAon := true } } := by
      unfold State.rxState
      exact ⟨_, if_pos h7⟩
    obtain ⟨u, hr⟩ := hr
    rw [hr] at he
    have hst : (u.endSession eDetached 2).echoState = eDetached := State.echoState_endSession _ _ _ (by decide)
    generalize u.endSession eDetached 2 = t at he hst
    exact runs_of_effect he ⟨hst, rfl⟩ fun u q h => h
end

section
/-! SUPPORT. Forwarded reads and granule requests (R304, R306). -/

namespace Sys2Proof.Machine

section
variable {s : State}

theorem State.domOn_echo_of_session (h : s.sessionUp = true) : s.domOn .echo = true :=
  (Bool.and_eq_true_iff.1 h).1

/-- What sending a frame does while the link's domain runs. -/
theorem State.frame_on (ty flags arg : Nat) (payload : List Byte) (h : s.domOn .echo = true) :
    (s.frame ty flags arg payload).out = s.out ++ [.frame ty [flags, s.ech.sendSeq % 2 ^ 32, arg] payload] ∧
      (s.frame ty flags arg payload).ech.sendSeq = s.ech.sendSeq + 1 ∧ (s.frame ty flags arg payload).domOn .echo = true := by
  unfold State.frame
  rw [if_pos h]
  exact ⟨rfl, rfl, h⟩

/-- `n` frames more were sent from the state than from the one before it, with the link's domain on. -/
def State.SentFrames (s t : State) (n : Nat) : Prop :=
  t.ech.sendSeq = s.ech.sendSeq + n ∧ t.out.length = s.out.length + n ∧ t.domOn .echo = true

theorem State.SentFrames.one {t : State} {n : Nat} (h : s.SentFrames t n) (ty flags arg : Nat) (payload : List Byte) :
    s.SentFrames (t.frame ty flags arg payload) (n + 1) := by
  obtain ⟨h1, h2, h3⟩ := h
  obtain ⟨ho, hs, hd⟩ := State.frame_on ty flags arg payload h3
  exact ⟨by rw [hs, h1, Nat.add_assoc], by rw [ho, List.length_append, h2, List.length_singleton, Nat.add_assoc], hd⟩

theorem State.SentFrames.foldl {α : Type} {ty : Nat} {fl arg : α → Nat} {pl : α → List Byte} (l : List α) {t : State} {n : Nat}
    (h : s.SentFrames t n) : s.SentFrames (l.foldl (fun u i => u.frame ty (fl i) (arg i) (pl i)) t) (n + l.length) := by
  induction l generalizing t n with
  | nil => exact h
  | cons i l ih =>
    rw [List.length_cons, Nat.add_comm l.length, ← Nat.add_assoc]
    exact ih (h.one _ _ _ _)

/-- A granule goes out in eight parts and its version. -/
theorem State.sentFrames_sendGranule (g idx tag purpose : Nat) (h : s.domOn .echo = true) :
    s.SentFrames (s.sendGranule g idx tag purpose) 9 := by
  unfold State.sendGranule
  exact .one (.foldl (List.range 8) ⟨rfl, rfl, h⟩) _ _ _ _

theorem State.readData_noErrors {port : DPort} {addr len : Nat} (h : s.errsIn addr len = []) : s.readData port addr len = (s, true) := by
  rw [State.readData, h]
  rfl

/-- A forwarded read whose order is not stored yet waits (R304). -/
theorem State.pumpForwards_early {q : FwdIn} (hq : s.ech.fwdIn = [q]) (h : s.get Reg.ECH_SEQ_STORED_SEQ < q.order) : s.pumpForwards = s := by
  rw [State.pumpForwards, hq]
  exact if_pos h

/-- How many granules a member owns rests on the pair mode and the capacity. -/
theorem State.Frame.ownGrans_eq {t : State} {ps : List Part} {fs : List Fld} (h : t.Frame s ps fs)
    (hp : autoParam (Reg.ECH_STATUS_PAIR_MODE.key ∉ fs.map Fld.key) Float.Model.Format.he._autoParam)
    (hc : autoParam (Reg.DMC_GEOM_CAP_GIB.key ∉ fs.map Fld.key) Float.Model.Format.he._autoParam) : t.ownGrans = s.ownGrans := by
  have hpair : t.pair = s.pair := h.flag_eq (by decide) hp
  have hcap : t.capGiB = s.capGiB := h.get_eq (by decide) hc
  simp only [State.ownGrans, State.cacheGrans, hpair, hcap]

/-- Where the peer's granules stand rests on that and on the image that runs. -/
theorem State.Frame.granOf_eq {t : State} {ps : List Part} {fs : List Fld} (h : t.Frame s ps fs) (hb : t.boot = s.boot)
    (hp : autoParam (Reg.ECH_STATUS_PAIR_MODE.key ∉ fs.map Fld.key) Float.Model.Format.he._autoParam)
    (hc : autoParam (Reg.DMC_GEOM_CAP_GIB.key ∉ fs.map Fld.key) Float.Model.Format.he._autoParam) (o : Owner) (i : Nat) :
    t.granOf o i = s.granOf o i := by
  have howner : t.owner = s.owner := by simp only [State.owner, hb]
  simp only [State.granOf, howner, h.ownGrans_eq hp hc]

theorem length_loadBytes (m : List Host.Cell) (a n : Nat) : (loadBytes m a n).length = n := by
  induction n generalizing a with
  | zero => rfl
  | succ n ih => exact congrArg (· + 1) (ih (a + 1))

/-- A short one whose granule is present is answered in one frame (R304). -/
theorem State.pumpForwards_present {q : FwdIn} {g : Nat} {t : State} (hq : s.ech.fwdIn = [q]) (hlen : q.len ≤ 512)
    (hord : q.order ≤ s.get Reg.ECH_SEQ_STORED_SEQ) (hg : g = s.granOf s.owner.other (q.off / 4096)) (hfr : s.granFrozen g = false)
    (hst : (s.ent g).st = .copied) (herr : s.errsIn (g * 4096 + q.off % 4096) q.len = [])
    (ht : t = s.frame fFdata 1 (q.off + 0 * 512 + q.tag * 2 ^ 40) (loadBytes s.cache.cells (g * 4096 + q.off % 4096) q.len)) :
    s.pumpForwards = { t with ech := { t.ech with fwdIn := [] } } := by
  have hparts : parts512 8 (loadBytes s.cache.cells (g * 4096 + q.off % 4096) q.len) =
      [loadBytes s.cache.cells (g * 4096 + q.off % 4096) q.len] := if_pos (by rw [length_loadBytes]; exact hlen)
  have hleft : t.ech.fwdIn.filter (fun x => x != q) = [] := by
    have hf : t.ech.fwdIn = [q] := by
      rw [ht]
      exact (congrArg Echo.fwdIn (echoSent_frame s fFdata 1 _ _) :).trans hq
    simp [hf]
  subst hg
  rw [State.pumpForwards, hq]
  simp only [List.foldl_cons, List.foldl_nil]
  rw [if_neg (by omega), if_neg (by rw [hfr]; simp), if_neg (by rw [hst]; decide), if_neg (by rw [hst]; decide),
    State.readData_noErrors herr, if_pos rfl, hparts, ← hleft, ht]
  rfl

/-- A granule that is present is sent for its request (R306). -/
theorem State.pumpGreqs_present {tag idx purpose g : Nat} {t : State} (hq : s.ech.greqIn = [(tag, idx, purpose)])
    (hg : g = s.granOf s.owner.other idx) (hfr : s.granFrozen g = false) (hst : (s.ent g).st = .copied)
    (herr : s.errsIn (g * 4096) 4096 = []) (ht : t = s.sendGranule g idx tag purpose) :
    s.pumpGreqs = { t with ech := { t.ech with greqIn := t.ech.greqIn.filter (fun x => x != (tag, idx, purpose)) } } := by
  subst hg
  rw [State.pumpGreqs, hq]
  simp only [List.foldl_cons, List.foldl_nil]
  rw [if_neg (by rw [hfr]; simp), if_neg (by rw [hst]; decide), if_neg (by rw [hst]; simp), State.readGranule, State.readData_noErrors herr]
  dsimp only
  rw [if_pos rfl, ht]

theorem State.EchoSent.greqIn {t : State} (h : s.EchoSent t) : t.ech.greqIn = s.ech.greqIn := (congrArg Echo.greqIn h :)

theorem State.EchoSent.foldl {α : Type} {f : State → α → State} (h : ∀ (t : State) (x : α), t.EchoSent (f t x)) (l : List α) (s : State) :
    s.EchoSent (l.foldl f s) := by
  induction l generalizing s with
  | nil => exact .refl s
  | cons x l ih => exact (h s x).trans (ih _)

theorem echoSent_sendGranule (s : State) (g idx tag purpose : Nat) : s.EchoSent (s.sendGranule g idx tag purpose) := by
  unfold State.sendGranule
  refine (echoSent_frame _ _ _ _ _).after (.foldl ?_ _ _)
  exact fun t i => echoSent_frame _ _ _ _ _

end

end Sys2Proof.Machine
end

section
/-! PROOF. -/

open Sys2Proof Sys2Proof.Machine

/-- Settles O32: FRD, FDATA and GREQ. -/
theorem echoReads : Obligations.EchoReads := by
  refine ⟨fun rx off tag len order s h hin hord => ?_, fun rx off tag len order g s h hin hlen hord hg hfr hst herr => ?_,
    fun rx off tag data f s h hf hw => ?_, fun rx off tag last poison na data s h hf => ?_,
    fun rx gran tag purpose g s h hin hg hfr hst herr => ?_⟩
  · have he := congrArg (done s) (h.rxFrame_touch (ty := fFrd) (flags := 0) (arg := off + tag * 2 ^ 40 + len * 2 ^ 48) (len := 2)
      (act := fun t => ({ t with ech := { t.ech with fwdIn := t.ech.fwdIn ++ [FwdIn.mk tag off len order] } } : State).pumpForwards))
    let u : State := { s.dropRequest.taken 2 with ech := { (s.dropRequest.taken 2).ech with
      fwdIn := (s.dropRequest.taken 2).ech.fwdIn ++ [FwdIn.mk tag off len order] } }
    have hu : u.ech.fwdIn = [FwdIn.mk tag off len order] := congrArg (· ++ [FwdIn.mk tag off len order]) hin
    have hf : u.Frame s [.ech, .pwr] [Reg.PWR_STATUS_RETRY] := .withEch (frame_dropTaken s 2)
    have hearly := State.pumpForwards_early hu ((hf.get _).trans_lt hord)
    rw [show State.pumpForwards _ = u from hearly] at he
    exact runs_of_effect he ⟨hu, rfl, hf⟩ fun u q ⟨h1, h2, hf⟩ => ⟨h1, h2, hf.finish q⟩
  · have he := congrArg (done s) (h.rxFrame_touch (ty := fFrd) (flags := 0) (arg := off + tag * 2 ^ 40 + len * 2 ^ 48) (len := 2)
      (act := fun t => ({ t with ech := { t.ech with fwdIn := t.ech.fwdIn ++ [FwdIn.mk tag off len order] } } : State).pumpForwards))
    let u : State := { s.dropRequest.taken 2 with ech := { (s.dropRequest.taken 2).ech with
      fwdIn := (s.dropRequest.taken 2).ech.fwdIn ++ [FwdIn.mk tag off len order] } }
    have hu : u.ech.fwdIn = [FwdIn.mk tag off len order] := congrArg (· ++ [FwdIn.mk tag off len order]) hin
    have hf : u.Frame s [.ech, .pwr] [Reg.PWR_STATUS_RETRY] := .withEch (frame_dropTaken s 2)
    let v : State := u.frame fFdata 1 (off + 0 * 512 + tag * 2 ^ 40) (loadBytes u.cache.cells (g * 4096 + off % 4096) len)
    have hgu : g = u.granOf u.owner.other (off / 4096) := hg.trans (hf.granOf_eq rfl (by decide) (by decide) _ _).symm
    have hpres := State.pumpForwards_present (t := v) hu hlen (hord.trans (hf.get _).ge) hgu
      ((hf.granFrozen_eq (by decide) (by decide) g).trans hfr) hst herr rfl
    rw [show State.pumpForwards _ = _ from hpres] at he
    have hdom : u.domOn .echo = true := State.domOn_echo_of_session (s := s) h.2.1
    have hout : v.out = s.out ++ _ := (State.frame_on fFdata 1 _ _ hdom).1
    have hfv : v.Frame s [.ech, .pwr] [Reg.PWR_STATUS_RETRY] := .next hf (frame_frame _ _ _ _ _)
    exact runs_of_effect he ⟨rfl, .withEch hfv, _, hout⟩ fun u q ⟨h1, hf, w, hw⟩ => ⟨h1, hf.finish q, w, hw⟩
  · let u : State := { s.dropRequest.taken (data.length / 4) with ech := { (s.dropRequest.taken (data.length / 4)).ech with
      fwds := s.ech.fwds.filter (fun x => x.tag != tag) } }
    have he : execFdata rx off tag true false false data s =
        done s (u.send (.cpl f.port .success false ((f.got ++ data).take f.len))) := by
      unfold execFdata
      dsimp only
      rw [h.rxFrame_touch, show (s.dropRequest.taken (data.length / 4)).ech.fwds.find? _ = some f from hf]
      dsimp only [Bool.or_false]
      rw [if_neg (by simp), if_pos rfl]
      show done s (match s.ech.fwdWait with | [] => _ | w :: ws => _) = _
      rw [hw]
      rfl
    exact runs_of_effect he ⟨rfl, rfl, .send (.withEch (frame_dropTaken s _))⟩ fun u q ⟨h1, h2, hf⟩ => ⟨h1, h2, hf.finish q⟩
  · have he : ∃ hdr, execFdata rx off tag last poison na data s =
        done s ((s.dropRequest.taken (data.length / 4)).misbehave 10 hdr) := by
      unfold execFdata
      dsimp only
      rw [h.rxFrame_touch, show (s.dropRequest.taken (data.length / 4)).ech.fwds.find? _ = none from hf]
      exact ⟨_, rfl⟩
    obtain ⟨hdr, he⟩ := he
    exact runs_of_effect he (State.misbehave_facts _ _ _ (by decide)) fun u q h => h
  · let u : State := { s.dropRequest.taken 0 with ech := { (s.dropRequest.taken 0).ech with
      greqIn := s.ech.greqIn ++ [(tag, gran, purpose)] } }
    have hu : u.ech.greqIn = [(tag, gran, purpose)] := congrArg (· ++ [(tag, gran, purpose)]) hin
    have hf : u.Frame s [.ech, .pwr] [Reg.PWR_STATUS_RETRY] := .withEch (frame_dropTaken s 0)
    have hgu : g = u.granOf u.owner.other gran := hg.trans (hf.granOf_eq rfl (by decide) (by decide) _ _).symm
    have hfu : u.granFrozen g = false := (hf.granFrozen_eq (by decide) (by decide) g).trans hfr
    obtain ⟨h1, h2, -⟩ := State.sentFrames_sendGranule (s := u) g gran tag purpose (State.domOn_echo_of_session (s := s) h.2.1)
    have hq : (u.sendGranule g gran tag purpose).ech.greqIn = u.ech.greqIn := (echoSent_sendGranule u g gran tag purpose).greqIn
    have hfs := State.Frame.next hf (frame_sendGranule u g gran tag purpose)
    have hpres := State.pumpGreqs_present (s := u) hu hgu hfu hst herr rfl
    have he : execGreq rx gran tag purpose s = done s u.pumpGreqs := by
      unfold execGreq
      dsimp only
      rw [h.rxFrame_touch]
      rfl
    rw [hu] at hq
    rw [hpres] at he
    generalize u.sendGranule g gran tag purpose = v at he h1 h2 hq hfs
    rw [hq, show [(tag, gran, purpose)].filter (fun x => x != (tag, gran, purpose)) = [] by simp] at he
    exact runs_of_effect he ⟨rfl, h1, h2, .withEch hfs⟩ fun u q ⟨h1, h2, h3, hf⟩ => ⟨h1, h2, h3, hf.finish q⟩
end

section
/-! SUPPORT. Mirror writes (R299, R76). -/

namespace Sys2Proof.Machine

section
variable {s : State}

theorem State.pumpForwards_none (h : s.ech.fwdIn = []) : s.pumpForwards = s := by
  rw [State.pumpForwards, h]
  rfl

/-- The bytes and the granule of a mirror write in place. -/
def State.mirrored (s : State) (w : MirWrite) : State :=
  ({ s with cache := { s.cache with cells := storeEnabled s.cache.cells (w.gran * 4096 + w.off) w.data w.be } } : State).markDirty w.gran w.seq
    w.epoch

theorem frame_mirrored (s : State) (w : MirWrite) : (s.mirrored w).Frame s [.cache] [] :=
  .next (.withCache (.refl _ _ _)) (frame_markDirty _ _ _ _)

/-- A mirror write to a dirty granule that stands in DRAM is stored, and one more acknowledgement is pending. -/
theorem State.storeMwr_present {w : MirWrite} {t : State} (hfr : s.granFrozen w.gran = false) (hd : (s.gran w.gran).dirty = true)
    (hst : (s.ent w.gran).st = .copied) (hpois : mget s.pmr.poison w.gran = none) (hclean : s.dramClean = true)
    (hpend : s.ech.pendAck < 63) (hfwd : s.ech.fwdIn = []) (ht : t = (s.mirrored w).put Reg.ECH_SEQ_STORED_SEQ w.seq) :
    s.storeMwr w = { t with ech := { t.ech with pendAck := s.ech.pendAck + 1 }, pmr := { t.pmr with peerEpoch := w.epoch } } := by
  have hp : s.Present w.gran := ⟨hst, hpois, hfr, by rw [State.granCovered, hfr]; rfl⟩
  have hcommit : s.commitWrite w.gran w.off w.data w.be w.seq w.epoch = s.mirrored w := by
    unfold State.commitWrite
    dsimp only
    rw [if_neg (by rw [hst]; decide), State.applyWrite_present hp hclean]
    rfl
  have hfr' : (s.mirrored w).granFrozen w.gran = false := ((frame_mirrored s w).granFrozen_eq (by decide) (by decide) _).trans hfr
  have hech : (s.mirrored w).ech = s.ech := rfl
  unfold State.storeMwr
  rw [if_neg (by rw [hfr]; simp), if_neg (by rw [hd]; simp)]
  dsimp only
  rw [if_pos hd, hcommit, if_neg (by rw [hfr']; simp)]
  subst ht
  generalize s.mirrored w = u at hech
  rw [if_neg (by rw [State.put_ech, hech]; show ¬ 64 ≤ s.ech.pendAck + 1; omega), State.pumpForwards_none, State.put_ech, hech]
  exact (congrArg Echo.fwdIn hech :).trans hfwd

/-- A mirror write in sequence and inside the region, while none waits before it. -/
theorem State.rxMwr_next {off low epoch : Nat} {data : List Byte} {be : List Bool} {hdr : List Nat} (hs : s.streaming = true)
    (hv : s.vaulting = false) (hep : s.ech.peerEpoch = some epoch) (hre : s.ech.restart = false)
    (hseq : inferSeq (s.ech.expWrite - 1) low = s.ech.expWrite) (hin : off + data.length ≤ s.ownGrans * 4096)
    (hin' : off % 4096 + data.length ≤ 4096) {w : MirWrite} {s0 : State} (hw : w = ⟨s.granOf s.owner.other (off / 4096), off % 4096, data, be,
      inferSeq (s.ech.expWrite - 1) low, epoch, hdr, frameUnits data⟩)
    (hs0 : s0 = { s with ech := { s.ech with restart := false, expWrite := inferSeq (s.ech.expWrite - 1) low + 1, mirLive := true } }) :
    s.rxMwr off low data be hdr = if s0.ech.mwrWait ≠ [] ∨ s0.mwrHeld w then
      { s0 with ech := { s0.ech with mwrWait := s0.ech.mwrWait ++ [w], freed := s0.ech.freed - w.units } } else s0.storeMwr w := by
  subst hw hs0
  unfold State.rxMwr
  rw [hre]
  extract_lets last seq g
  have hq : seq = s.ech.expWrite := hseq
  rw [if_neg (by rw [hs, hv]; simp)]
  split
  next hn => exact absurd (hep.symm.trans hn) (by simp)
  next e he =>
    obtain rfl : e = epoch := Option.some.inj (he.symm.trans hep)
    rw [if_neg (by rw [hq]; simp), if_neg (by simp; omega)]
    rfl

theorem State.rxMwr_disordered {off low epoch : Nat} {data : List Byte} {be : List Bool} {hdr : List Nat} (hs : s.streaming = true)
    (hv : s.vaulting = false) (hep : s.ech.peerEpoch = some epoch) (hre : s.ech.restart = false)
    (hseq : inferSeq (s.ech.expWrite - 1) low ≠ s.ech.expWrite) : s.rxMwr off low data be hdr = s.misbehave 1 hdr := by
  unfold State.rxMwr
  dsimp only
  rw [if_neg (by rw [hs, hv]; simp), hep]
  dsimp only
  exact if_pos (by simp [hre, hseq])

theorem State.rxMwr_outside {off low epoch : Nat} {data : List Byte} {be : List Bool} {hdr : List Nat} (hs : s.streaming = true)
    (hv : s.vaulting = false) (hep : s.ech.peerEpoch = some epoch) (hre : s.ech.restart = true)
    (hout : s.ownGrans * 4096 < off + data.length) : s.rxMwr off low data be hdr = s.misbehave 2 hdr := by
  unfold State.rxMwr
  dsimp only
  rw [if_neg (by rw [hs, hv]; simp), hep]
  dsimp only
  rw [if_neg (by rw [hre]; simp), if_pos (by simp [hout])]

end

end Sys2Proof.Machine
end

section
/-! PROOF. -/

open Sys2Proof Sys2Proof.Machine

/-- Settles O30: mirror writes in order, out of order, and out of range. -/
theorem mirrorWrites : Obligations.MirrorWrites := by
  refine ⟨fun rx off low epoch g data be s h hs hv hep hre hlt hseq hin hin' hg hfr hd hst hpois hclean hwait hpend hfwd => ?_,
    fun rx off low epoch data be w ws s h hs hv hep hre hseq hin hin' hwait => ?_, fun rx off low epoch data be s h hs hv hep hre hseq => ?_,
    fun rx off low epoch data be s h hs hv hep hre hout => ?_⟩
  · let u : State := s.dropRequest.taken (data.length / 4)
    have hf : u.Frame s [.ech, .pwr] [Reg.PWR_STATUS_RETRY] := frame_dropTaken s _
    have hgu : u.granOf u.owner.other (off / 4096) = g := (hf.granOf_eq rfl (by decide) (by decide) _ _).trans hg.symm
    obtain ⟨hdr, hact⟩ : ∃ hdr, execMwr rx off low data be s = done s (u.rxMwr off (low % 2 ^ 24) data be hdr) := by
      unfold execMwr
      dsimp only
      rw [h.rxFrame_touch]
      exact ⟨_, rfl⟩
    rw [State.rxMwr_next ((State.streaming_dropTaken s _).trans hs) hv hep hre hseq (hin.trans_eq (congrArg (· * 4096) hf.ownGrans_eq.symm)) hin' rfl rfl,
      show inferSeq (u.ech.expWrite - 1) (low % 2 ^ 24) = s.ech.expWrite from hseq, hgu] at hact
    let w : MirWrite := ⟨g, off % 4096, data, be, s.ech.expWrite, epoch, hdr, frameUnits data⟩
    let s0 : State := { u with ech := { u.ech with restart := false, expWrite := s.ech.expWrite + 1, mirLive := true } }
    have hf0 : s0.Frame s [.ech, .pmr, .cache, .pwr] [Reg.ECH_SEQ_STORED_SEQ, Reg.PWR_STATUS_RETRY] := .withEch hf.mono
    have hheld : s0.mwrHeld w = false := by
      rw [State.mwrHeld, State.mergeFull, show (s0.ent w.gran).st = .copied from hst]
      rfl
    have hclean0 : s0.dramClean = true := by
      rw [State.dramClean, hf0.get Reg.DMC_ECC_CTRL_INJ_MODE]
      exact hclean
    have he : execMwr rx off low data be s = done s (s0.storeMwr w) :=
      hact.trans (congrArg (done s) (if_neg fun hor => hor.elim (fun hn => hn hwait) (by rw [hheld]; simp)))
    rw [State.storeMwr_present (w := w) ((hf0.granFrozen_eq (by decide) (by decide) g).trans hfr) hd hst hpois hclean0 hpend hfwd rfl] at he
    have hfm : ((s0.mirrored w).put Reg.ECH_SEQ_STORED_SEQ w.seq).Frame s [.ech, .pmr, .cache, .pwr]
        [Reg.ECH_SEQ_STORED_SEQ, Reg.PWR_STATUS_RETRY] := .put (hf0.next (frame_mirrored s0 w))
    have hgran := State.gran_markDirty { s0 with cache := { s0.cache with
      cells := storeEnabled s0.cache.cells (w.gran * 4096 + w.off) w.data w.be } } g w.seq w.epoch
    have hget : ((s0.mirrored w).put Reg.ECH_SEQ_STORED_SEQ w.seq).get Reg.ECH_SEQ_STORED_SEQ = s.ech.expWrite := State.get_put_lt _ _ hlt
    have hcells : ((s0.mirrored w).put Reg.ECH_SEQ_STORED_SEQ w.seq).cache.cells = storeEnabled s.cache.cells (g * 4096 + off % 4096) data be :=
      rfl
    have hech : ((s0.mirrored w).put Reg.ECH_SEQ_STORED_SEQ w.seq).ech = s0.ech := rfl
    have hgran' : ((s0.mirrored w).put Reg.ECH_SEQ_STORED_SEQ w.seq).gran g = { s0.gran g with dirty := true, seq := w.seq, epoch := w.epoch } :=
      hgran
    generalize (s0.mirrored w).put Reg.ECH_SEQ_STORED_SEQ w.seq = t at he hfm hget hcells hech hgran'
    exact runs_of_effect he ⟨hget, (congrArg Echo.expWrite hech :), rfl, rfl, hcells, congrArg GState.dirty hgran', congrArg GState.seq hgran',
      congrArg GState.epoch hgran', .withPmrEch hfm⟩
      fun u q ⟨h1, h2, h3, h4, h5, h6, h7, h8, hf⟩ => ⟨h1, h2, h3, h4, h5, h6, h7, h8, hf.finish q⟩
  · let u : State := s.dropRequest.taken (data.length / 4)
    have hf : u.Frame s [.ech, .pwr] [Reg.PWR_STATUS_RETRY] := frame_dropTaken s _
    obtain ⟨hdr, hact⟩ : ∃ hdr, execMwr rx off low data be s = done s (u.rxMwr off (low % 2 ^ 24) data be hdr) := by
      unfold execMwr
      dsimp only
      rw [h.rxFrame_touch]
      exact ⟨_, rfl⟩
    rw [State.rxMwr_next ((State.streaming_dropTaken s _).trans hs) hv hep hre hseq (hin.trans_eq (congrArg (· * 4096) hf.ownGrans_eq.symm)) hin' rfl rfl,
      show inferSeq (u.ech.expWrite - 1) (low % 2 ^ 24) = s.ech.expWrite from hseq,
      if_pos (.inl fun hn => absurd (hwait.symm.trans hn) (List.cons_ne_nil _ _))] at hact
    exact runs_of_effect hact ⟨List.length_append, rfl, .withEch (.withEch hf)⟩ fun u q ⟨h1, h2, hf⟩ => ⟨h1, h2, hf.finish q⟩
  · have he : ∃ hdr, execMwr rx off low data be s = done s ((s.dropRequest.taken (data.length / 4)).misbehave 1 hdr) := by
      unfold execMwr
      dsimp only
      rw [h.rxFrame_touch, State.rxMwr_disordered ((State.streaming_dropTaken s _).trans hs) hv hep hre hseq]
      exact ⟨_, rfl⟩
    obtain ⟨hdr, he⟩ := he
    exact runs_of_effect he (State.misbehave_facts _ _ _ (by decide)) fun u q h => h
  · have hout' : (s.dropRequest.taken (data.length / 4)).ownGrans * 4096 < off + data.length := by
      rw [(frame_dropTaken s _).ownGrans_eq]
      exact hout
    have he : ∃ hdr, execMwr rx off low data be s = done s ((s.dropRequest.taken (data.length / 4)).misbehave 2 hdr) := by
      unfold execMwr
      dsimp only
      rw [h.rxFrame_touch, State.rxMwr_outside ((State.streaming_dropTaken s _).trans hs) hv hep hre hout']
      exact ⟨_, rfl⟩
    obtain ⟨hdr, he⟩ := he
    exact runs_of_effect he (State.misbehave_facts _ _ _ (by decide)) fun u q h => h
end

section
/-! SUPPORT. Resync (R306, R307). -/

namespace Sys2Proof.Machine

section
variable {s : State}

theorem State.answerWaiting_none (h : s.pmr.waitReads = []) (g : Nat) : s.answerWaiting g = s := by
  have hnone : ∀ p : WaitRead → Bool, s.pmr.waitReads.filter p = s.pmr.waitReads := fun p => by rw [h]; rfl
  unfold State.answerWaiting
  simp only [hnone]
  rw [h]
  exact congrArg (fun x => ({ s with pmr := { s.pmr with waitReads := x } } : State)) h.symm

theorem State.pumpMirror_none (h : s.ech.mwrWait = []) : s.pumpMirror = { s with ech := { s.ech with mwrWait := [] } } := by
  rw [State.pumpMirror, h]
  rfl

theorem State.writeGranule_clean (h : s.dramClean = true) (g : Nat) : s.writeGranule g = s := if_pos h

/-- A resync granule stored, with few acknowledgements pending and nothing waiting for it. -/
theorem State.resyncGot_idle (hp : s.ech.pendRs < 63) (hw : s.pmr.waitReads = []) (hf : s.ech.fwdIn = []) (g idx : Nat) :
    s.resyncGot g idx = { s with ech := { s.ech with
      rsStored := s.ech.rsStored + 1, pendRs := s.ech.pendRs + 1, rsParts := mdel s.ech.rsParts idx } } := by
  unfold State.resyncGot
  dsimp only
  rw [if_neg (by omega), State.answerWaiting_none, State.pumpForwards_none]
  · exact hf
  · exact hw

/-- The state with a granule's bytes, version and place from a resync (R306). -/
def State.resynced (s : State) (g idx seq epoch : Nat) : State :=
  let bytes := (List.range 8).map (fun i => mgetD (mgetD s.ech.rsParts idx []) i [])
  let s1 : State := { s with
    cache := { s.cache with cells := storeBytes (clearCells s.cache.cells (g * 4096) 4096) (g * 4096) bytes.flatten }
    pmr := { s.pmr with merge := mdel s.pmr.merge g, poison := mdel s.pmr.poison g } }
  (s1.setEnt g { s1.ent g with st := .copied, fromPeer := false }).markDirty g seq epoch

theorem State.EchoSent.peerRs {s t : State} (h : s.EchoSent t) : t.ech.peerRs = s.ech.peerRs ∧ t.ech.pendAck = s.ech.pendAck ∧
    t.ech.fwdIn = s.ech.fwdIn :=
  ⟨(congrArg Echo.peerRs h :), (congrArg Echo.pendAck h :), (congrArg Echo.fwdIn h :)⟩

/-- Acknowledging leaves none pending (R300). -/
theorem State.sendMack_holds (s : State) : s.sendMack.ech.peerRs = s.ech.peerRs ∧ s.sendMack.ech.pendAck = 0 ∧
    s.sendMack.ech.fwdIn = s.ech.fwdIn := by
  have hsent : State.EchoSent { s with ech := { s.ech with pendAck := 0, pendRs := 0 } } s.sendMack := by
    unfold State.sendMack State.mack
    exact .ite (.ite (.refl _) (echoSent_frame _ _ _ _ _)) ((echoSent_frame _ _ _ _ _).after (.ite (.refl _) (echoSent_frame _ _ _ _ _)))
  exact hsent.peerRs

/-- What a granule stored whole from a resync holds. -/
structure State.Resynced (s t : State) (g idx seq epoch : Nat) : Prop where
  gran : t.gran g = { s.gran g with dirty := true, seq := seq, epoch := epoch }
  ent : (t.ent g).st = .copied
  cells : t.cache.cells = storeBytes (clearCells s.cache.cells (g * 4096) 4096) (g * 4096)
    ((List.range 8).map (fun i => mgetD (mgetD s.ech.rsParts idx []) i [])).flatten
  merge : mget t.pmr.merge g = none
  poison : mget t.pmr.poison g = none
  ech : t.ech = s.ech

theorem State.resynced_holds (s : State) (g idx seq epoch : Nat) : s.Resynced (s.resynced g idx seq epoch) g idx seq epoch := by
  unfold State.resynced
  extract_lets bytes c m s1
  exact ⟨State.gran_markDirty _ g seq epoch, (congrArg MapEnt.st (State.ent_setEnt s1 g { s1.ent g with st := .copied, fromPeer := false }) :),
    rfl, mget_mdel_same _ _, mget_mdel_same _ _, rfl⟩

theorem State.storeResync_dirty {idx seq epoch mask g : Nat} {hdr : List Nat} (hs : s.streaming = true) (hg : g = s.granOf s.owner.other idx)
    (hfr : s.granFrozen g = false) (hd : (s.gran g).dirty = true) (hclean : s.dramClean = true) (hw : s.pmr.waitReads = [])
    (hf : s.ech.fwdIn = []) (hp : s.ech.pendRs < 63) {t : State} (ht : t = s.resynced g idx seq epoch) :
    s.storeResync idx seq epoch 1 mask 0 hdr = { t with ech := { t.ech with
      rsStored := s.ech.rsStored + 1, pendRs := s.ech.pendRs + 1, rsParts := mdel s.ech.rsParts idx } } := by
  subst hg
  unfold State.storeResync
  dsimp only
  rw [if_neg (by rw [hs]; simp), if_neg (by rw [hfr]; simp), if_neg (by decide), if_neg (by rw [hd]; simp), if_pos hd,
    State.writeGranule_clean hclean, if_neg (by decide)]
  subst ht
  exact State.resyncGot_idle (s := s.resynced _ idx seq epoch) hp hw hf _ idx

theorem State.storeResync_empty {idx seq epoch gflags mask g : Nat} {hdr : List Nat} (hs : s.streaming = true)
    (hg : g = s.granOf s.owner.other idx) (hfr : s.granFrozen g = false) (hclean : s.dramClean = true) (hw : s.pmr.waitReads = [])
    (hf : s.ech.fwdIn = []) (hp : s.ech.pendRs < 63) : (s.storeResync idx seq epoch gflags mask 2 hdr).gran g = GState.none ∧
      (s.storeResync idx seq epoch gflags mask 2 hdr).ent g = MapEnt.none ∧
      (s.storeResync idx seq epoch gflags mask 2 hdr).ech.rsStored = s.ech.rsStored + 1 ∧
      (s.storeResync idx seq epoch gflags mask 2 hdr).ech.mwrWait = s.ech.mwrWait := by
  subst hg
  unfold State.storeResync
  dsimp only
  rw [if_neg (by rw [hs]; simp), if_neg (by rw [hfr]; simp), if_pos rfl]
  obtain ⟨t, ht⟩ : ∃ t, t = s.emptyGranule (s.granOf s.owner.other idx) := ⟨_, rfl⟩
  have hfacts : t.gran (s.granOf s.owner.other idx) = GState.none ∧ t.ent (s.granOf s.owner.other idx) = MapEnt.none ∧ t.ech = s.ech ∧
      t.pmr.waitReads = s.pmr.waitReads := by
    rw [ht]
    unfold State.emptyGranule
    extract_lets c m s1
    rw [State.writeGranule_clean (s := s1) hclean]
    exact ⟨State.gran_setGran _ _ _, (State.ent_setEnt s1 (s.granOf s.owner.other idx) MapEnt.none :), rfl, rfl⟩
  obtain ⟨hgran, hent, hech, hwait⟩ := hfacts
  rw [← ht, State.resyncGot_idle (by rw [hech]; exact hp) (hwait.trans hw) (by rw [hech]; exact hf)]
  exact ⟨hgran, hent, (congrArg (·.rsStored + 1) hech :), (congrArg Echo.mwrWait hech :)⟩

end

end Sys2Proof.Machine
end

section
/-! PROOF. -/

open Sys2Proof Sys2Proof.Machine

/-- Settles O33: GDATA, GVER and RSYNC of a resync. -/
theorem echoResync : Obligations.EchoResync := by
  refine ⟨fun rx gran tag part data s h hrs => ?_,
    fun rx gran tag seq epoch sectors us g s h hrs hv hs hg hfr hd hclean hw hf hm hp => ?_,
    fun rx gran tag seq epoch fl sectors us g s h hrs hv hs hg hfr hclean hw hf hm hp => ?_, fun rx sEnd count s h => ?_,
    fun rx sEnd count e s h hep hf hlt hle => ?_, fun rx sEnd count s h => ?_⟩
  · have he : execGdata rx gran tag 2 part data s = done s { s.dropRequest.taken 128 with ech := { (s.dropRequest.taken 128).ech with
        rsParts := mset s.ech.rsParts gran (mset (mgetD s.ech.rsParts gran []) (part % 8) data) } } := by
      unfold execGdata
      dsimp only
      rw [h.rxFrame_touch, if_pos rfl]
      exact congrArg (done s) (if_pos hrs)
    refine runs_of_effect he ⟨?_, .withEch (frame_dropTaken s _)⟩ fun u q ⟨h1, hf⟩ => ⟨h1, hf.finish q⟩
    show mget (mgetD (mset s.ech.rsParts gran _) gran []) (part % 8) = some data
    rw [mgetD_mset_same, mget_mset_same]
  · let u : State := s.dropRequest.taken 4
    have hf0 : u.Frame s [.ech, .pwr] [Reg.PWR_STATUS_RETRY] := frame_dropTaken s _
    have hclean0 : u.dramClean = true := by
      rw [State.dramClean, hf0.get Reg.DMC_ECC_CTRL_INJ_MODE]
      exact hclean
    obtain ⟨hdr, he⟩ : ∃ hdr, execGver rx gran tag 2 seq epoch 1 sectors 0 us s =
        done s ((u.storeResync gran seq epoch 1 sectors 0 hdr).pumpMirror) := by
      unfold execGver
      dsimp only
      rw [h.rxFrame_touch]
      exact ⟨_, congrArg (done s) ((if_neg (by rw [show (s.dropRequest.taken 4).vaulting = false from hv]; simp)).trans
        ((if_pos rfl).trans (if_pos hrs)))⟩
    rw [State.storeResync_dirty (s := u) (g := g) ((State.streaming_dropTaken s _).trans hs)
      (hg.trans (hf0.granOf_eq rfl (by decide) (by decide) _ _).symm) ((hf0.granFrozen_eq (by decide) (by decide) g).trans hfr) hd hclean0 hw hf
      hp rfl, State.pumpMirror_none (by exact hm)] at he
    obtain ⟨hgran, hent, hcells, hmerge, hpois, hech⟩ := State.resynced_holds u g gran seq epoch
    generalize u.resynced g gran seq epoch = t at he hgran hent hcells hmerge hpois hech
    exact runs_of_effect he ⟨rfl, congrArg GState.dirty hgran, congrArg GState.seq hgran, congrArg GState.epoch hgran, hent, mget_mdel_same _ _,
      hcells, hmerge, hpois⟩ fun u q h => h
  · let u : State := s.dropRequest.taken 4
    have hf0 : u.Frame s [.ech, .pwr] [Reg.PWR_STATUS_RETRY] := frame_dropTaken s _
    have hclean0 : u.dramClean = true := by
      rw [State.dramClean, hf0.get Reg.DMC_ECC_CTRL_INJ_MODE]
      exact hclean
    obtain ⟨hdr, he⟩ : ∃ hdr, execGver rx gran tag 2 seq epoch fl sectors 2 us s =
        done s ((u.storeResync gran seq epoch fl sectors 2 hdr).pumpMirror) := by
      unfold execGver
      dsimp only
      rw [h.rxFrame_touch]
      exact ⟨_, congrArg (done s) ((if_neg (by rw [show (s.dropRequest.taken 4).vaulting = false from hv]; simp)).trans
        ((if_pos rfl).trans (if_pos hrs)))⟩
    obtain ⟨hgran, hent, hstored, hwait⟩ := State.storeResync_empty (s := u) (idx := gran) (seq := seq) (epoch := epoch) (gflags := fl)
      (mask := sectors) (g := g) (hdr := hdr) ((State.streaming_dropTaken s _).trans hs)
      (hg.trans (hf0.granOf_eq rfl (by decide) (by decide) _ _).symm) ((hf0.granFrozen_eq (by decide) (by decide) g).trans hfr) hclean0 hw hf hp
    rw [State.pumpMirror_none (hwait.trans hm)] at he
    generalize u.storeResync gran seq epoch fl sectors 2 hdr = t at he hgran hent hstored
    exact runs_of_effect he ⟨hgran, hent, hstored⟩ fun u q h => h
  · have he : execRsync rx 0 sEnd count s = done s { s.dropRequest.taken 0 with ech := { (s.dropRequest.taken 0).ech with
        peerRs := true, epochFree := true, mirLive := true, rsParts := [] } } := by
      unfold execRsync
      dsimp only
      rw [h.rxFrame_touch]
      exact congrArg (done s) (if_pos rfl)
    exact runs_of_effect he ⟨rfl, rfl, rfl, .withEch (frame_dropTaken s _)⟩ fun u q ⟨h1, h2, h3, hf⟩ => ⟨h1, h2, h3, hf.finish q⟩
  · let u : State := s.dropRequest.taken 2
    have hf0 : u.Frame s [.ech, .pwr] [Reg.PWR_STATUS_RETRY] := frame_dropTaken s _
    have hstored : u.get Reg.ECH_SEQ_STORED_SEQ = s.get Reg.ECH_SEQ_STORED_SEQ := hf0.get _
    have hmax : Nat.max sEnd (u.get Reg.ECH_SEQ_STORED_SEQ) = sEnd := Nat.max_eq_left (hstored.trans_le hle)
    let t1 : State := { u with
      ech := { u.ech with peerRs := false, rsParts := [], expWrite := Nat.max u.ech.expWrite (sEnd + 1), pendAck := u.ech.pendAck + 1,
                          pendRs := u.ech.pendRs + count }
      pmr := { u.pmr with peerEpoch := e } }
    have hft : (t1.put Reg.ECH_SEQ_STORED_SEQ sEnd).Frame s [.ech, .pmr, .pwr] [Reg.ECH_SEQ_STORED_SEQ, Reg.PWR_STATUS_RETRY] :=
      .put (.withPmrEch hf0.mono)
    have hget : (t1.put Reg.ECH_SEQ_STORED_SEQ sEnd).get Reg.ECH_SEQ_STORED_SEQ = sEnd := State.get_put_lt _ _ hlt
    have hech : (t1.put Reg.ECH_SEQ_STORED_SEQ sEnd).ech = t1.ech := rfl
    have hpe : (t1.put Reg.ECH_SEQ_STORED_SEQ sEnd).pmr.peerEpoch = e := rfl
    have he : execRsync rx 1 sEnd count s = done s ((t1.put Reg.ECH_SEQ_STORED_SEQ sEnd).sendMack).pumpForwards := by
      unfold execRsync
      dsimp only
      rw [h.rxFrame_touch, if_neg (by decide)]
      refine congrArg (done s) ((if_pos rfl).trans ?_)
      rw [show s.dropRequest.taken (if 1 = 1 then 2 else 0) = u from rfl]
      split
      next hn => exact absurd (hep.symm.trans hn) (by simp)
      next x hx =>
        obtain rfl : x = e := Option.some.inj (hx.symm.trans hep)
        rw [hmax]
    have hmack := State.sendMack_holds (t1.put Reg.ECH_SEQ_STORED_SEQ sEnd)
    have hfm : (t1.put Reg.ECH_SEQ_STORED_SEQ sEnd).sendMack.Frame (t1.put Reg.ECH_SEQ_STORED_SEQ sEnd) [.ech] [] := frame_sendMack _
    generalize t1.put Reg.ECH_SEQ_STORED_SEQ sEnd = t at he hft hget hech hpe hmack hfm
    obtain ⟨hrs, hack, hfwd⟩ := hmack
    rw [State.pumpForwards_none (hfwd.trans ((congrArg Echo.fwdIn hech).trans hf))] at he
    exact runs_of_effect he ⟨hrs.trans (congrArg Echo.peerRs hech), (hfm.get _).trans hget, (congrArg Pmr.peerEpoch hfm.samePmr).trans hpe, hack,
      .next hft hfm⟩ fun u q ⟨h1, h2, h3, h4, hf⟩ => ⟨h1, h2, h3, h4, hf.finish q⟩
  · have he : execRsync rx 2 sEnd count s = done s { s.dropRequest.taken 0 with ech := { (s.dropRequest.taken 0).ech with
        peerRs := false, rsParts := [] } } := by
      unfold execRsync
      dsimp only
      rw [h.rxFrame_touch]
      exact congrArg (done s) ((if_neg (by decide)).trans (if_neg (by decide)))
    exact runs_of_effect he ⟨rfl, rfl, .withEch (frame_dropTaken s _)⟩ fun u q ⟨h1, h2, hf⟩ => ⟨h1, h2, hf.finish q⟩
end

section
/-! SUPPORT. The frame rules used below. -/

namespace Sys2Proof.Machine

theorem frame_bbSync (s : State) : s.bbSync.Frame s [] [Reg.EVR_MEM_BB_FAIL] := by
  unfold State.bbSync
  exact .ite (.ite (.withEvr (.refl _ _ _)) (.ev (.put (.withEvr (.refl _ _ _))))) (.put (.withEvr (.refl _ _ _)))

theorem frame_formatHeads (s : State) : s.formatHeads.Frame s [.grt] [] := by
  unfold State.formatHeads
  exact .withGrt (.refl _ _ _)

theorem frame_formatJournal (s : State) (luns : List Nat) : (s.formatJournal luns).Frame s [.grt] [] := by
  unfold State.formatJournal
  exact .withGrt (.refl _ _ _)

theorem frame_formatLun (s : State) (lun : Nat) : (s.formatLun lun).Frame s [.flc, .grt] [Reg.GRT_RETIRE_RETIRED] := by
  unfold State.formatLun
  exact .foldl (fun _ _ ht => .ite ht (.ite (.incSat (.next ht (frame_setBlk _ _ _ _))) (.next ht (frame_setBlk _ _ _ _)))) _
      (.next (.refl _ _ _) (frame_setLun _ _ _))

theorem frame_formatRecords (s : State) : s.formatRecords.Frame s [.grt] [] := by
  unfold State.formatRecords
  exact .foldl (fun _ _ ht => (by
    split
    · exact ht
    · exact (by
    split
    · exact ht
    · exact .foldl (fun _ _ ht => .ite (.withGrt (.next ht (frame_setBlk _ _ _ _))) (.next ht (frame_setBlk _ _ _ _))) _ ht)))
        _ (.refl _ _ _)

theorem frame_formatSpares (s : State) (ch : Nat) : (s.formatSpares ch).Frame s [.grt] [] := by
  unfold State.formatSpares
  exact .foldl (fun _ _ ht => .next ht (frame_setBlk _ _ _ _)) _ (.refl _ _ _)

theorem frame_takeBlocks (s : State) : s.takeBlocks.Frame s [.grt] [Reg.GRT_GEOM_BLOCKS] := by
  unfold State.takeBlocks
  exact .put (.withGrt (.refl _ _ _))

theorem State.Frame.withEvrGrtFlc {s t : State} {ps : List Part} {fs : List Fld} {a : Recorder} {b : Grotto} {c : Flash} (h :
    t.Frame s ps fs) (hgrt : autoParam (Part.grt ∈ ps) Float.Model.Format.he._autoParam)
    (hflc : autoParam (Part.flc ∈ ps) Float.Model.Format.he._autoParam) :
    ({ t with evr := a, grt := b, flc := c } : State).Frame s ps fs := ((h.withEvr (x := a)).withGrt (x := b) hgrt).withFlc (x
        := c) hflc

theorem frame_formatMedia (s : State) : s.formatMedia.Frame s [.grt, .flc] [Reg.GRT_GEOM_BLOCKS, Reg.GRT_RETIRE_RETIRED,
    Reg.EVR_MEM_BB_FAIL] := by
  unfold State.formatMedia
  extract_lets ls s0 src2 s1 s2 src5 src6 src7 s3
  have hs0 : s0.Frame s [.grt, .flc] [Reg.GRT_GEOM_BLOCKS, Reg.GRT_RETIRE_RETIRED, Reg.EVR_MEM_BB_FAIL] := .put (.next (.next
      (.refl _ _ _) (frame_formatJournal _ _)) (frame_takeBlocks _))
  have hs1 : s1.Frame s [.grt, .flc] [Reg.GRT_GEOM_BLOCKS, Reg.GRT_RETIRE_RETIRED, Reg.EVR_MEM_BB_FAIL] := .foldl (fun _ _ ht
      => .next ht (frame_formatLun _ _)) _ (.withGrt hs0)
  have hs2 : s2.Frame s [.grt, .flc] [Reg.GRT_GEOM_BLOCKS, Reg.GRT_RETIRE_RETIRED, Reg.EVR_MEM_BB_FAIL] := .foldl (fun _ _ ht
      => .next ht (frame_formatSpares _ _)) _ (.next hs1 (frame_formatRecords _))
  have hs3 : s3.Frame s [.grt, .flc] [Reg.GRT_GEOM_BLOCKS, Reg.GRT_RETIRE_RETIRED, Reg.EVR_MEM_BB_FAIL] := .withEvrGrtFlc hs2
  exact .next (.next hs3 (frame_formatHeads _)) (frame_bbSync _)

theorem frame_touch (s : State) (src : Nat) : (s.touch src).Frame s [.pwr, .rails, .boot, .vlt, .ech] [Reg.PWR_STATUS_STATE,
    Reg.PWR_WAKE_COUNT, Reg.PWR_WAKE_FROM, Reg.PWR_WAKE_SOURCE, Reg.PWR_STATUS_RETRY, Reg.SYS_STATUS_PATH,
    Reg.PWR_STATUS_WAKE_EV, Reg.PWR_STATUS_TARGET] := by
  unfold State.touch
  exact .ite (.put (.refl _ _ _)) (.ite (.refl _ _ _) (.next (.refl _ _ _) (frame_wake _ _)))

theorem frame_rehStart (s : State) (software : Bool) : (s.rehStart software).Frame s [.pwr, .rails, .boot, .vlt, .ech, .umb,
    .lan, .broker] [Reg.PWR_STATUS_STATE, Reg.PWR_WAKE_COUNT, Reg.PWR_WAKE_FROM, Reg.PWR_WAKE_SOURCE, Reg.PWR_STATUS_RETRY,
    Reg.SYS_STATUS_PATH, Reg.PWR_STATUS_WAKE_EV, Reg.PWR_STATUS_TARGET, Reg.PWR_LEAVE_QUEUE_VAULT, Reg.VLT_STATUS_HOLD] := by
  unfold State.rehStart
  exact .next (.put (.put (.withUmbLan (.next (.refl _ _ _) (frame_touch _ _))))) (frame_leaveGrant _)

end Sys2Proof.Machine
end

section
/-! SUPPORT. What a command that sets one bit of a register finds (R9, R515). -/

namespace Sys2Proof.Machine

section
variable {s : State} {r : Requester} {o : Nat} {f : Fld} {w : Word}

/-- The state that a one-bit command's register acts on, and the word that its fields held. -/
structure State.Asked (s : State) (r : Requester) (o : Nat) (f : Fld) (w : Word) (x : State) (ow : Nat) : Prop where
  frame : x.Frame (s.arrive r) [] (fieldsAt o)
  whole : x.Frame s [.pwr] (Reg.PWR_STATUS_RETRY :: fieldsAt o)
  pwr : x.pwr = (s.arrive r).pwr
  taken : ∀ g ∈ fieldsAt o, g.acc = .rw → g ≠ Reg.ECH_CTRL_MVIEW_EN → x.get g = g.of (askWord f w)
  ports : ∀ p, (x.port p).lasting = (s.port p).lasting
  old : ∃ z : State, z.Frame s [.pwr] [Reg.PWR_STATUS_RETRY] ∧ ow = ((fieldsAt o).map (fun g => z.view g * 2 ^ g.lo)).foldl (· + ·) 0

theorem State.port_foldl_fldWrite (fs : List Fld) (w : Nat) (s : State) (p : Port) :
    (fs.foldl (fun u f => u.fldWrite w f) s).port p = s.port p := by
  obtain ⟨m, hm⟩ := foldl_fldWrite_regs_only fs w s
  rw [hm]
  cases p <;> rfl

/-- The notes of a write before its fields take it leave the ports. -/
theorem State.ports_beforeFields (s : State) (r : Requester) (b : Block) (row : RegRow) (o w : Nat) (p : Port) :
    ((s.beforeFields r b row o w).port p).lasting = (s.port p).lasting := by
  unfold State.beforeFields
  extract_lets s1
  have h1 : (s1.port p).lasting = (s.port p).lasting := by
    have hcon : s.Tells (s.noteConsole r b o w) := .ite (tells_eventWith _ _ _ _ _ _) (.refl s)
    refine Eq.trans ?_ (hcon.port_lasting p)
    cases p <;> rfl
  split
  · exact ((tells_eventWith _ _ _ _ _ _).port_lasting p).trans h1
  · exact h1

/-- A write that reaches its register: its fields take the word, then the register acts, with what its action meets. -/
theorem State.windowPut_env {n : Nat} {b : Block} {row : RegRow} (h : s.Writes r o n) (hb : Block.ofOff o = some b)
    (hrow : regAt o = some (row, false)) (c : Instr) (env : Option Bool) :
    s.windowPut r c (fun t => (t.regWriteEnv r o n env).st) =
      (row.flds.foldl (fun t f => t.fldWrite n f) ((s.arrive r).beforeFields r b row o n)).regAct b o
        (((s.arrive r).noteConsole r b o n).noteAccess r row.off |>.wordOf row) n env := by
  obtain ⟨-, -, ⟨b', hb', hon⟩, hmay, row', hrow', hnarrow, hclean⟩ := id h
  obtain rfl : b = b' := Option.some.inj (hb.symm.trans hb')
  obtain rfl : row = row' := (Prod.mk.inj (Option.some.inj (hrow.symm.trans hrow'))).1
  have hon' : (s.arrive r).domOn b.domain = true := by
    simpa only [State.domOn, State.domSt_arrive h] using hon
  have hmay' : (s.arrive r).mayWrite r o n = true := (State.mayWrite_arrive h o n).trans hmay
  have hreg : ((s.arrive r).regWriteEnv r o n env).st = ((s.arrive r).noteConsole r b o n).writeDword r b o n env := by
    simp [State.regWriteEnv, hb, State.domAnswers_of_on hon', State.wakeDomain_of_on hon', hmay', accOk]
  rw [State.windowPut_writes h, hreg, State.beforeFields, off_of_regAt_low hrow]
  simp only [State.writeDword, hrow, hnarrow, Bool.not_false, if_true, State.fullWrite, hclean, Bool.false_eq_true, if_false]
  rw [State.rowWrite, off_of_regAt_low hrow]

theorem State.Asks.askedEnv (h : s.Asks r o f w) {b : Block}
    (hb : autoParam (Block.ofOff o = some b) Float.Model.Format.he._autoParam)
    (hnd : autoParam (((fieldsAt o).map Fld.key).Nodup) Float.Model.Format.he._autoParam) :
    ∃ (x : State) (ow : Nat), s.Asked r o f w x ow ∧ ∀ (c : Instr) (env : Option Bool),
      s.windowPut r c (fun t => (t.regWriteEnv r o (askWord f w) env).st) = x.regAct b o ow (askWord f w) env := by
  obtain ⟨hw, -⟩ := h
  obtain ⟨-, -, -, -, row, hrow, -⟩ := id hw
  have hf : fieldsAt o = row.flds := by simp [fieldsAt, hrow]
  have hy := quiet_beforeFields (s.arrive r) r b row o (askWord f w)
  have hframe := (frame_of_quiet hy [] row.flds).trans (frame_foldl_fldWrite row.flds (askWord f w) _)
  have harr := frame_arrive_writes hw
  refine ⟨_, _, ⟨?_, ?_, ?_, ?_, fun p => ?_, ?_⟩, State.windowPut_env hw hb hrow⟩
  · rw [hf]
    exact hframe
  · rw [hf]
    refine (harr.mono (hf := ?_)).trans (hframe.mono (hp := List.nil_subset _) (hf := ?_))
    · exact fun k hk => List.mem_cons.2 (.inl (List.mem_singleton.1 hk))
    · exact fun k hk => List.mem_cons_of_mem _ hk
  · exact hframe.samePwr
  · rw [hf] at hnd ⊢
    exact fun g hg ha hne => get_foldl_fldWrite_rw hnd _ _ hg ha hne
  · refine (congrArg HostPort.lasting (State.port_foldl_fldWrite row.flds _ _ p)).trans
      ((State.ports_beforeFields (s.arrive r) r b row o (askWord f w) p).trans ?_)
    rw [State.arrive_writes hw]
    split
    · rw [State.port_dropRequest]
    · rfl
  · rw [hf]
    refine ⟨_, ?_, rfl⟩
    exact harr.trans (frame_of_quiet ((quiet_noteConsole (s.arrive r) r b o (askWord f w)).trans (quiet_noteAccess _ r row.off)) _ _)

theorem State.Asks.asked (h : s.Asks r o f w) {b : Block}
    (hb : autoParam (Block.ofOff o = some b) Float.Model.Format.he._autoParam)
    (hnd : autoParam (((fieldsAt o).map Fld.key).Nodup) Float.Model.Format.he._autoParam) :
    ∃ (x : State) (ow : Nat), s.Asked r o f w x ow ∧ s.bitWrite r o f w = x.regAct b o ow (askWord f w) none := by
  obtain ⟨x, ow, hx, he⟩ := h.askedEnv hb hnd
  exact ⟨x, ow, hx, he _ none⟩

/-- A command bit leaves the bit of another field of the word. -/
theorem Fld.of_askWord {g : Fld} (w : Word) (hw : g.width = 1) (hne : g.lo ≠ f.lo) : g.of (askWord f w) = g.of w.toNat := by
  have h : (w.toNat ||| 2 ^ f.lo).testBit g.lo = w.toNat.testBit g.lo := by
    rw [Nat.testBit_or, Nat.testBit_two_pow, decide_eq_false (Ne.symm hne), Bool.or_false]
  rw [Nat.testBit_eq_decide_div_mod_eq, Nat.testBit_eq_decide_div_mod_eq, decide_eq_decide] at h
  unfold Fld.of askWord
  rw [hw]
  show (w.toNat ||| 2 ^ f.lo) / 2 ^ g.lo % 2 = w.toNat / 2 ^ g.lo % 2
  omega

theorem State.prep_arrive {n : Nat} (h : s.Writes r o n) : (s.arrive r).pwr.prep = s.pwr.prep := by
  rw [State.arrive_writes h]
  split <;> rfl

/-- The write of UMB_CTRL that leaves SEEP_HOLD is not a change of the hold. -/
theorem State.Asked.seepHold {x : State} {ow : Nat} (h : s.Asked r 0x150000 Reg.UMB_CTRL_REH_START w x ow)
    (hold : Reg.UMB_CTRL_SEEP_HOLD.of w.toNat = s.get Reg.UMB_CTRL_SEEP_HOLD) :
    Reg.UMB_CTRL_SEEP_HOLD.of ow = Reg.UMB_CTRL_SEEP_HOLD.of (askWord Reg.UMB_CTRL_REH_START w) := by
  obtain ⟨z, hz, how⟩ := h.old
  have hget : z.view Reg.UMB_CTRL_SEEP_HOLD = Reg.UMB_CTRL_SEEP_HOLD.of w.toNat :=
    (show z.view Reg.UMB_CTRL_SEEP_HOLD = z.get Reg.UMB_CTRL_SEEP_HOLD from rfl).trans ((hz.get _).trans hold.symm)
  have hgo : z.view Reg.UMB_CTRL_REH_START = 0 := rfl
  rw [Fld.of_askWord w (by decide) (by decide), how]
  show (0 + z.view Reg.UMB_CTRL_INT_EN * 2 ^ 2 + z.view Reg.UMB_CTRL_SEEP_HOLD * 2 ^ 1 + z.view Reg.UMB_CTRL_REH_START * 2 ^ 0) / 2 ^ 1 % 2 = _
  have hlt : Reg.UMB_CTRL_SEEP_HOLD.of w.toNat < 2 := Nat.mod_lt _ (by decide)
  rw [hget, hgo]
  omega

/-- The write of GRT_CTRL that leaves GC_HOLD is not a change of the hold. -/
theorem State.Asked.gcHold {x : State} {ow : Nat} (h : s.Asked r 0x170000 f w x ow) (hf : 0 < f.lo)
    (hold : Reg.GRT_CTRL_GC_HOLD.of w.toNat = s.get Reg.GRT_CTRL_GC_HOLD) :
    Reg.GRT_CTRL_GC_HOLD.of ow = Reg.GRT_CTRL_GC_HOLD.of (askWord f w) := by
  obtain ⟨z, hz, how⟩ := h.old
  have hget : z.view Reg.GRT_CTRL_GC_HOLD = Reg.GRT_CTRL_GC_HOLD.of w.toNat :=
    (show z.view Reg.GRT_CTRL_GC_HOLD = z.get Reg.GRT_CTRL_GC_HOLD from rfl).trans ((hz.get _).trans hold.symm)
  rw [Fld.of_askWord w (by decide) (show Reg.GRT_CTRL_GC_HOLD.lo ≠ f.lo from hf.ne), how]
  show (0 + z.view Reg.GRT_CTRL_FORMAT * 2 ^ 3 + z.view Reg.GRT_CTRL_JRNL_FLUSH * 2 ^ 2 + z.view Reg.GRT_CTRL_GC_NOW * 2 ^ 1 +
    z.view Reg.GRT_CTRL_GC_HOLD * 2 ^ 0) / 2 ^ 0 % 2 = _
  have hlt : Reg.GRT_CTRL_GC_HOLD.of w.toNat < 2 := Nat.mod_lt _ (by decide)
  rw [hget]
  omega

end

end Sys2Proof.Machine
end

section
/-! SUPPORT. Rehearsals and formats on request (R86, R155). -/

namespace Sys2Proof.Machine

section
variable {s t : State}

/-- The fields that decide whether a rehearsal may run (R86). -/
def rehFields : List Fld := [Reg.UMB_STATUS_DEFICIT, Reg.SUP_SEQ_STATUS_STATE, Reg.PWR_STATUS_STATE, Reg.SYS_STATUS_SAFE, Reg.LAN_ENERGY_E_MJ,
  Reg.UMB_REH_CFG_WINDOW_MS, Reg.DMC_GEOM_CAP_GIB, Reg.ECH_STATUS_PAIR_MODE, Reg.GRT_GEOM_BLOCKS, Reg.GRT_GEOM_PAGES,
  Reg.GRT_GEOM_SUM_PAGES, Reg.UMB_STATUS_COLD_CAP, Reg.UMB_CAP_CFG_COLD_CAP, Reg.UMB_MODEL_CFG_MARGIN, Reg.UMB_FIXED_CFG_T_TAIL,
  Reg.UMB_FIXED_CFG_T_CARRY, Reg.PWR_LEAVE_BUDGET_RUN_MW, Reg.PWR_LEAVE_BUDGET_BASE_MW, Reg.UMB_MODEL_CFG_ALPHA, Reg.UMB_MODEL_CFG_BETA,
  Reg.SYS_TEMP_TJ, Reg.SYS_OPSEC_SECONDS, Reg.SYS_ID_ORDER]

theorem State.Frame.rehMay_eq {fs : List Fld} (h : t.Frame s [.pwr] fs) (hn : ∀ f ∈ rehFields, f.key ∉ fs.map Fld.key) :
    t.rehMay = s.rehMay := by
  have hget : ∀ f ∈ rehFields, t.get f = s.get f := fun f hf =>
    h.get_eq ((show ∀ f ∈ rehFields, f.OffRecorder by decide) f hf) (hn f hf)
  have hdirty : t.dirtyBytes = s.dirtyBytes := State.dirtyBytes_congr h.sameCache (hget _ (by decide)) (congrArg (· == 1) (hget _ (by decide)))
  have hres : t.reserveClamp = s.reserveClamp :=
    State.reserveClamp_congr h.sameFlc h.sameGrt (hget _ (by decide)) (hget _ (by decide)) (hget _ (by decide))
  have hview : ∀ u : State, u.view Reg.SYS_ID_ORDER = mgetD u.boot.fuses Reg.SYS_ID_ORDER.key (Config.fused Reg.SYS_ID_ORDER.key) %
      2 ^ Reg.SYS_ID_ORDER.width := fun _ => rfl
  have hcode : t.codeRate = s.codeRate := by simp only [State.codeRate, hview, h.sameBoot]
  have hin : t.resultsInUse = s.resultsInUse := by
    simp only [State.resultsInUse, h.sameUmb, State.secs, hget Reg.SYS_OPSEC_SECONDS (by decide)]
    rfl
  have hvp : t.vaultPower = s.vaultPower := by
    simp only [State.vaultPower, hin, State.imgOr, h.sameBoot, State.tj, State.getI, hget Reg.SYS_TEMP_TJ (by decide),
      hget Reg.UMB_MODEL_CFG_ALPHA (by decide)]
    rfl
  have hvr : t.vaultRate = s.vaultRate := by
    simp only [State.vaultRate, hin, State.imgOr, h.sameBoot, State.tj, State.getI, hget Reg.SYS_TEMP_TJ (by decide),
      hget Reg.UMB_MODEL_CFG_BETA (by decide), State.lunsActive, h.sameFlc, hcode]
    rfl
  simp only [State.rehMay, State.clampHorizon, State.horizonOf, State.eCarry, State.cacheGrans, State.capGiB, State.coldCap, hdirty, hres, hvp, hvr,
    State.deficit, State.rehearsing, State.vaulting, State.seqState, State.asleep, State.flag, h.sameVlt, h.sameLan, h.sameUmb, h.sameGrt, h.samePmr]
  simp (disch := decide) only [hget]
  rfl

/-- A rehearsal that software starts, whatever the power state. -/
theorem State.rehStart_asked (s : State) : (s.rehStart true).umb.rehearsal = some ⟨true, 0, false, none⟩ ∧
    (s.rehStart true).umb.lastSw = some s.secs ∧ (s.rehStart true).flag Reg.VLT_STATUS_HOLD = true ∧
    (s.rehStart true).flag Reg.PWR_LEAVE_QUEUE_VAULT = true ∧ (s.rehStart true).cache = s.cache := by
  have hcache : (s.rehStart true).cache = s.cache := (frame_rehStart s true).sameCache
  have hsecs : (s.touch 0).secs = s.secs := (frame_touch s 0).get _
  unfold State.rehStart
  extract_lets s0 srcu srcl s1
  have hl := frame_leaveGrant ((s1.put Reg.PWR_LEAVE_QUEUE_VAULT 1).put Reg.VLT_STATUS_HOLD 1)
  refine ⟨congrArg Umbra.rehearsal hl.sameUmb, (congrArg Umbra.lastSw hl.sameUmb).trans (congrArg some hsecs), ?_, ?_, hcache⟩
  · exact (hl.flag_eq (by decide) (by decide)).trans (State.flag_put_one _ _)
  · exact (hl.flag_eq (by decide) (by decide)).trans ((State.flag_put_other _ (by decide)).trans (State.flag_put_one _ _))

theorem State.rehRecent_congr (hu : t.umb = s.umb) (hs : t.secs = s.secs) : t.rehRecent = s.rehRecent := by
  simp only [State.rehRecent, hu, hs]

end

end Sys2Proof.Machine
end

section
/-! SUPPORT. What a format leaves (R155). -/

namespace Sys2Proof.Machine

/-- The bands, and whether the Grotto is formatted, are the same. -/
def Grotto.SameBands (g h : Grotto) : Prop := h.bands = g.bands ∧ h.formatted = g.formatted

section
variable {g h : Grotto}

theorem Grotto.SameBands.refl (g : Grotto) : g.SameBands g := ⟨rfl, rfl⟩

theorem Grotto.SameBands.trans {k : Grotto} (h1 : g.SameBands h) (h2 : h.SameBands k) : g.SameBands k :=
  ⟨h2.1.trans h1.1, h2.2.trans h1.2⟩

theorem Grotto.SameBands.foldl {α : Type} {f : Grotto → α → Grotto} (hf : ∀ (g : Grotto) x, g.SameBands (f g x)) (l : List α) (g : Grotto) :
    g.SameBands (l.foldl f g) := by
  induction l generalizing g with
  | nil => exact .refl g
  | cons x l ih => exact (hf g x).trans (ih _)

theorem Grotto.sameBands_recTurn (g : Grotto) (e : RecEnv) (b : RecBlock) (copy gen : Nat) : g.SameBands (g.recTurn e b copy gen) := by
  unfold Grotto.recTurn
  extract_lets g1 g2
  have h2 : g1.SameBands g2 := by
    refine .foldl ?_ _ _
    exact fun h x => ⟨rfl, rfl⟩
  clear_value g2
  split
  · exact h2
  · exact h2

theorem Grotto.sameBands_recReady (g : Grotto) (e : RecEnv) (ch copy margin : Nat) : g.SameBands (g.recReady e ch copy margin) := by
  have hnew : g.SameBands (g.recNew e ch copy) := by
    unfold Grotto.recNew
    split
    · exact .refl g
    · extract_lets free g1
      have h1 : g.SameBands g1 := by
        refine .foldl ?_ _ _
        exact fun h b => ⟨rfl, rfl⟩
      clear_value free g1
      split
      · exact h1.trans (Grotto.sameBands_recTurn _ _ _ _ _)
      · exact h1
  unfold Grotto.recReady
  split
  · split
    · exact .refl g
    · split
      · exact Grotto.sameBands_recTurn _ _ _ _ _
      · exact .refl g
  · split
    · exact Grotto.sameBands_recTurn _ _ _ _ _
    · exact hnew

end

section
variable {s : State}

theorem State.pmr_st_syncHsts (s : State) : s.syncHsts.pmr.st = s.pmr.st := by
  have hn (t : State) (p : Port) : (if (t.port p).pmrEn && bitOf (mgetD (t.nvme p).feats 0x0B 0) 5 then t.asyncOn p 1 0 0x02
      else t).Frame t [] [] := .ite (.quiet (.refl _ _ _) (quiet_asyncOn _ _ _ _ _)) (.refl _ _ _)
  unfold State.syncHsts
  dsimp only
  split
  · rfl
  · rw [((hn _ .a).next (hn _ .b) |>.quiet (quiet_evHost _ _ _ _) |>.quiet (quiet_syncWarn _)).samePmr]

theorem State.closed_setCond (s : State) (c : Nat) (h : s.pmr.st = .closed) : (s.setCond c).pmr.st = .closed := by
  unfold State.setCond
  extract_lets src s1
  have h1 : s1.pmr.st = .closed := by
    unfold s1
    rw [(quiet_asyncVendor _ _).pmr, State.pmr_st_syncHsts]
    exact h
  clear_value s1
  split
  · exact h
  · rw [h1]
    exact (congrArg (fun t : State => t.pmr.st) (if_neg (by simp))).trans h1

theorem State.closed_clearCond (s : State) (c : Nat) (h : s.pmr.st = .closed) : (s.clearCond c).pmr.st = .closed := by
  unfold State.clearCond
  extract_lets src s1
  have h1 : s1.pmr.st = .closed := by
    unfold s1
    rw [(quiet_asyncVendor _ _).pmr, State.pmr_st_syncHsts]
    exact h
  clear_value s1
  split
  · exact (congrArg (fun t : State => t.pmr.st) (if_neg fun hc => absurd (h1.symm.trans hc.1) (by decide))).trans h1
  · exact h

theorem State.closed_grtSync (s : State) (h : s.pmr.st = .closed) : s.grtSync.pmr.st = .closed := by
  unfold State.grtSync
  extract_lets sp src s1 s2 s3 s4 s5 low s6 src6 s7
  have h6 : s6.pmr.st = .closed := by
    have hf : s6.Frame s [.grt] [Reg.GRT_SERVICE_LUNS_VAULT, Reg.GRT_SERVICE_LUNS_GROTTO, Reg.GRT_SERVICE_CHANNELS,
        Reg.GRT_VCAP_BYTES, Reg.GRT_ERASED_BYTES, Reg.GRT_BANDS_ERASED, Reg.GRT_BANDS_TOTAL, Reg.GRT_RETIRE_SPARES_MIN,
        Reg.GRT_STATUS_SPARES_LOW, Reg.FLC_STATUS_LUNS_ACTIVE] :=
      .put (.putB (.put (.put (.put (.put (.put (.put (.put (.put (.withGrt (.refl _ _ _)))))))))))
    rw [hf.samePmr]
    exact h
  have h7 : s7.pmr.st = .closed := by
    unfold s7
    split
    · exact State.closed_setCond _ _ h6
    · exact h6
  clear_value s7
  split
  · exact h
  · exact (congrArg Pmr.st (frame_of_quiet (quiet_syncWarn s7) [] []).samePmr).trans h7

theorem State.bands_formatHeads (s : State) : s.grt.SameBands s.formatHeads.grt := by
  unfold State.formatHeads
  refine .foldl (fun g c => ?_) _ _
  split
  · exact Grotto.sameBands_recReady _ _ _ _ _
  · exact .refl g

theorem State.grt_bbSync (s : State) : s.bbSync.grt = s.grt := by
  unfold State.bbSync
  dsimp only
  split
  · split
    · rfl
    · exact (quiet_ev _ _ _ _ _).grt
  · rfl

theorem State.formatMedia_clears (s : State) : s.formatMedia.grt.bands = [] ∧ s.formatMedia.grt.formatted = true := by
  unfold State.formatMedia
  extract_lets ls s0 src2 s1 s2 src5 src6 src7 s3
  obtain ⟨h1, h2⟩ := s3.bands_formatHeads
  have hb : s3.grt.bands = [] := rfl
  have hf : s3.grt.formatted = true := rfl
  rw [State.grt_bbSync, h1, h2]
  exact ⟨hb, hf⟩

/-- A format empties the cache's map and the bands; the PMR stays closed for it. -/
theorem State.formatGrotto_clears (h : s.pmr.st = .closed) : s.formatGrotto.grt.bands = [] ∧ s.formatGrotto.grt.formatted = true ∧
    s.formatGrotto.cache.grans = [] ∧ s.formatGrotto.pmr.st = .closed := by
  obtain ⟨hb, hf⟩ := s.formatMedia_clears
  have hst : s.formatMedia.pmr.st = .closed := (congrArg Pmr.st (frame_formatMedia s).samePmr).trans h
  unfold State.formatGrotto
  generalize s.formatMedia = m at hb hf hst
  extract_lets s2 k s3 g0 c0 p0 u0 s4 s5 s6 f u1 s7 g1 s8 h1 h2 s9
  have h5g : s5.grt = s4.grt := (frame_clearCond _ _).sameGrt
  have h5c : s5.cache = s4.cache := (frame_clearCond _ _).sameCache
  have h5p : s5.pmr.st = .closed := State.closed_clearCond _ _ hst
  have h9b : s9.grt.bands = [] := (congrArg Grotto.bands h5g).trans hb
  have h9f : s9.grt.formatted = true := (congrArg Grotto.formatted h5g).trans hf
  have h9c : s9.cache.grans = [] := congrArg Cache.grans h5c
  have h9p : s9.pmr.st = .closed := h5p
  clear_value s9
  obtain ⟨sp, ro, hg⟩ := State.grt_grtSync (s9.put Reg.EVR_CLEAR_COUNT 0)
  have hc := (frame_grtSync (s9.put Reg.EVR_CLEAR_COUNT 0)).sameCache
  rw [hg, hc]
  exact ⟨h9b, h9f, h9c, State.closed_grtSync _ h9p⟩

end

end Sys2Proof.Machine
end

section
/-! SUPPORT. The choice of a victim (R172), which rests on the Grotto, the cache and few fields. -/

namespace Sys2Proof.Machine

section
variable {s t : State}

/-- The fields that decide whether garbage is collected, and where (R171, R172). -/
def gcFields : List Fld := [Reg.GRT_GEOM_PAGES, Reg.GRT_GEOM_BLOCKS, Reg.GRT_GEOM_SUM_PAGES, Reg.GRT_RESV_CFG_TARGET, Reg.GRT_GC_CFG_START,
  Reg.GRT_GC_CFG_STOP, Reg.GRT_GC_CFG_WEAR_EVERY, Reg.DMC_GEOM_CAP_GIB, Reg.ECH_STATUS_PAIR_MODE, Reg.UMB_STATUS_DEFICIT,
  Reg.DMC_FRZ_STATUS_FROZEN]

theorem State.Frame.gc_eq {fs : List Fld} (h : t.Frame s [.pwr] fs) (hn : ∀ f ∈ gcFields, f.key ∉ fs.map Fld.key)
    (hd : ∀ f ∈ dramMapFields, f.key ∉ fs.map Fld.key) : t.gcWanted = s.gcWanted ∧ t.gcMore = s.gcMore ∧ t.gcVictim = s.gcVictim ∧ t.erasedBytes = s.erasedBytes := by
  have hget : ∀ f ∈ gcFields, t.get f = s.get f := fun f hf =>
    h.get_eq ((show ∀ f ∈ gcFields, f.OffRecorder by decide) f hf) (hn f hf)
  have hown : t.ownGrans = s.ownGrans := by
    simp (disch := decide) only [State.ownGrans, State.cacheGrans, State.capGiB, State.pair, State.flag, hget]
    rfl
  have hgrans : t.cacheGrans = s.cacheGrans := congrArg (· * (2 ^ 18 - 2 ^ 8)) (hget _ (by decide))
  have hdata : t.bandData = s.bandData := by simp (disch := decide) only [State.bandData, State.bandPages, hget]
  have hcount : t.blkCount = s.blkCount := by
    funext lun p
    simp only [State.blkCount, h.sameGrt]
  have hactive : t.activeLuns = s.activeLuns := by
    funext ch
    simp only [State.activeLuns, h.sameFlc]
  have hchans : t.vaultChannels = s.vaultChannels := by simp only [State.vaultChannels, hactive]
  have herased : t.erasedBytes = s.erasedBytes := by
    have he : t.erasedOn = s.erasedOn := by
      funext n
      simp (disch := decide) only [State.erasedOn, hcount, hget]
    simp (disch := decide) only [State.erasedBytes, State.erasedBands, hchans, hactive, he, hdata]
  have hurgent : t.urgentBands = s.urgentBands := by
    have hev : t.evacuating = s.evacuating := by
      funext n
      simp only [State.evacuating, State.lun, h.sameFlc]
    have hhas : t.bandHas = s.bandHas := by
      funext b p
      simp only [State.bandHas, State.blk, h.sameGrt]
    simp only [State.urgentBands, h.sameGrt, hev, hhas]
  have hpin : t.pinned = s.pinned := by
    funext b
    simp only [State.pinned, h.sameGrt]
  have hlive : t.liveOf = s.liveOf := by
    have hview : t.deviceView = s.deviceView := by
      funext x
      simp only [State.deviceView, State.lun, h.sameGrt, h.sameFlc]
    have hgran : t.verGran = s.verGran := by
      funext v
      simp only [State.verGran, State.granOf, State.owner, h.sameBoot, hown]
      rfl
    have hcopied : t.copiedOut = s.copiedOut := by
      funext n a v
      simp only [State.copiedOut, h.sameGrt]
    have hknown : t.mapKnown = s.mapKnown := by
      funext g
      simp (disch := decide) only [State.mapKnown, State.chFrozen, State.mapAddr, State.capBytes, State.capGiB, h.dramAddr_eq hd, hget]
    have hl : t.isLive = s.isLive := by
      funext n a d k v
      simp only [State.isLive, hgran, hcopied, hknown, State.ent, h.sameCache]
    funext n
    simp only [State.liveOf, h.sameGrt, hview, hl]
  have htarget : t.gcTarget = s.gcTarget := by
    have hoff : t.offered = s.offered := by
      funext ch
      simp (disch := decide) only [State.offered, State.grottoLuns, h.sameFlc, hcount, hget]
    have hcap : t.vcap = s.vcap := by simp only [State.vcap, State.bandsTotal, hchans, hoff, hdata, hgrans]
    simp (disch := decide) only [State.gcTarget, hcap, hgrans, hget]
  have hwear : t.meanWear = s.meanWear := by
    funext b
    simp only [State.meanWear, State.blk, h.sameGrt]
  have hbase : t.baseSerial = s.baseSerial := by
    funext n
    simp only [State.baseSerial, h.sameGrt]
  refine ⟨?_, ?_, ?_, herased⟩
  · simp (disch := decide) only [State.gcWanted, hurgent, herased, htarget, hdata, hget]
  · simp (disch := decide) only [State.gcMore, herased, htarget, hdata, hget]
  · simp (disch := decide) only [State.gcVictim, hurgent, hpin, hwear, hbase, hlive, h.sameGrt, hget]

end

end Sys2Proof.Machine
end

section
/-! SUPPORT. Learns on request (R338, R339). -/

namespace Sys2Proof.Machine

section
variable {s : State}

/-- A request for a module in service makes it due. -/
theorem State.learnReq_service {n : Nat} (hst : s.modSt n = mService) (hl : s.lan.learn = none) : n ∈ (s.learnReq n).lan.due.map Prod.fst ∧
    (s.learnReq n).lan.learn = none ∧ (s.learnReq n).cache = s.cache ∧ (s.learnReq n).pmr = s.pmr := by
  have hreq : s.learnReq n = s.learnDue n false := if_neg (by rw [hst]; decide)
  rw [hreq, State.learnDue, if_neg (by rw [hl]; simp)]
  dsimp only
  generalize hd : (if (false : Bool) = true then _ else _ : List (Nat × Nat)) = d
  have hmem : n ∈ d.map Prod.fst := by
    rw [← hd]
    simp only [Bool.false_eq_true, if_false]
    split
    next hany =>
      obtain ⟨e, he, hen⟩ := List.any_eq_true.1 hany
      exact List.mem_map.2 ⟨e, he, eq_of_beq hen⟩
    next => exact List.mem_map_of_mem (List.mem_append_right s.lan.due (List.mem_singleton_self (n, s.secs)))
  have hf := frame_lanShow { s with lan := { s.lan with due := d, retry := s.lan.retry.filter (fun k => k != n) } }
  rw [hf.sameLan, hf.sameCache, hf.samePmr]
  exact ⟨hmem, hl, rfl, rfl⟩

/-- The end of a learn, and the outcome shown. -/
theorem State.learnEnd_ended (s : State) (l : Learn) {outcome : Nat} (ho : outcome < 8) : (s.learnEnd l outcome 0 0).lan.learn = none ∧
    (s.learnEnd l outcome 0 0).get Reg.LAN_LEARN_STATUS_LAST_OUTCOME = outcome := by
  have hlearn : (s.learnOver l.port).lan.learn = none := by
    show (({ s with lan := { s.lan with learn := none } } : State).lanCopy.leaveDropOp _).lan.learn = none
    rw [(frame_leaveDropOp _ _).sameLan]
    unfold State.lanCopy
    split <;> rfl
  unfold State.learnEnd State.learnNote
  generalize s.learnOver l.port = t at hlearn
  dsimp only
  refine ⟨(congrArg Lantern.learn (frame_raise _ _ _ _).sameLan).trans hlearn, (State.get_raise_other _ _ (by decide)).trans ?_⟩
  exact State.get_put_lt _ _ (show outcome < 8 from ho)

/-- A learn that is cancelled before its recharge ends with the outcome, and waits to be tried again (R339). -/
theorem State.learnAbort_running {l : Learn} {outcome : Nat} (hl : s.lan.learn = some l) (hstep : l.step ≠ 4) (ho : outcome < 8) :
    (s.learnAbort outcome).lan.learn = none ∧ (s.learnAbort outcome).get Reg.LAN_LEARN_STATUS_LAST_OUTCOME = outcome ∧
      l.port ∉ (s.learnAbort outcome).lan.due.map Prod.fst ∧ l.port ∈ (s.learnAbort outcome).lan.retry ∧
      (s.learnAbort outcome).cache = s.cache := by
  have hcache : (s.learnAbort outcome).cache = s.cache := (frame_learnAbort s outcome).sameCache
  have he : ∃ u : State, s.learnAbort outcome = ((u.learnEnd l outcome 0 0).learnRetry l.port).lanShow := by
    rw [State.learnAbort, hl]
    exact ⟨_, if_neg hstep⟩
  obtain ⟨u, he⟩ := he
  obtain ⟨h1, h2⟩ := State.learnEnd_ended u l ho
  rw [he] at hcache ⊢
  generalize u.learnEnd l outcome 0 0 = t at hcache h1 h2
  have hf := frame_lanShow (t.learnRetry l.port)
  have hlan : (t.learnRetry l.port).lanShow.lan = _ := hf.sameLan
  rw [hlan]
  refine ⟨h1, (hf.get _).trans h2, ?_, ?_, hcache⟩
  · show l.port ∉ (t.lan.due.filter (fun d => d.1 != l.port)).map Prod.fst
    simp
  · show l.port ∈ if t.lan.retry.contains l.port then t.lan.retry else t.lan.retry ++ [l.port]
    split
    next hc => exact List.contains_iff_mem.1 hc
    next => exact List.mem_append_right _ (List.mem_singleton_self _)

end

end Sys2Proof.Machine
end

section
/-! SUPPORT. The sequencer on request (R361, R362): what it leaves of the ports and of the boot log. -/

namespace Sys2Proof.Machine

section
variable {s t : State}

theorem tells_leaveOn (s : State) (src : Nat) : s.Tells (s.leaveOn src) := by
  have hexit : ∀ t : State, t.Tells t.sleepExitNow := fun t => .ite (.same rfl rfl) (.refl t)
  have hwake : s.Tells (s.wake src) := by
    unfold State.wake
    extract_lets st s1 s2 sb sr s3
    have h3 : s.Tells s3 := .ite (.same rfl rfl) (.same rfl rfl)
    clear_value s3
    refine .ite (h3.trans (tells_raise _ _ _ _)) (.ite (.after (.same rfl rfl) ?_) (.ite (.same rfl rfl) (.refl s)))
    exact .ite (.same rfl rfl) (.refl s)
  have h1 := hwake.trans (hexit _)
  unfold State.leaveOn
  exact .ite (tells_put _ _ _) (.ite (h1.trans (.same rfl rfl)) h1)

theorem tells_ffErase (s : State) : s.Tells s.ffErase := by
  unfold State.ffErase
  exact .ite (.same rfl rfl) (.refl s)

theorem tells_setSeq (s : State) (st : Nat) : s.Tells (s.setSeq st) := by
  unfold State.setSeq
  extract_lets s1 src s0
  have h1 : s.Tells s1 := .ite (tells_leaveOn s _) (.ite (tells_leaveOn s _) (.refl s))
  have h0 : s.Tells s0 := .ite (h1.trans (.same rfl rfl)) h1
  clear_value s0
  have h2 := (h0.trans (tells_put _ Reg.SUP_SEQ_STATUS_STATE st)).trans (tells_raise _ Reg.SUP_STATUS_SEQ_EV Reg.SUP_CTRL_INT_EN 60)
  exact .ite (.refl s) ((h2.trans (tells_ev _ _ _ _ _)).trans (tells_ffErase _))

theorem State.portsShut_congr (h : ∀ p, (t.port p).lasting = (s.port p).lasting) : t.portsShut = s.portsShut := by
  have hp : ∀ p, (t.port p).pmrEn = (s.port p).pmrEn := fun p => (congrArg HostPort.pmrEn (h p) :)
  have hn : ∀ p, (t.nvme p).shst = (s.nvme p).shst := fun p => (congrArg (fun x => x.nvme.shst) (h p) :)
  simp only [State.portsShut, hp, hn]

/-- The grace period begins while a port is not shut (R361). -/
theorem State.enterGrace_waits (hord : s.get Reg.SUP_BTN_CFG_ORDERLY_S ≠ 0) (hshut : s.portsShut = false) :
    s.enterGrace.seqState = seqGrace ∧ s.enterGrace.flag Reg.SUP_STATUS_OFF_PENDING = true ∧ s.enterGrace.cache = s.cache := by
  have hbtn : ∀ t : State, t.Tells t.button := fun t => .ite (tells_raise _ _ _ _) (.refl t)
  have htells : s.Tells ((s.setSeq seqGrace).put Reg.SUP_STATUS_OFF_PENDING 1).button :=
    (hbtn _).after ((tells_setSeq s _).trans (tells_put _ _ _))
  have hseq : (s.setSeq seqGrace).seqState = seqGrace := s.seqState_setSeq (by decide)
  have hfs := frame_setSeq s seqGrace
  have hfb := frame_button ((s.setSeq seqGrace).put Reg.SUP_STATUS_OFF_PENDING 1)
  have hget : ((s.setSeq seqGrace).put Reg.SUP_STATUS_OFF_PENDING 1).button.get Reg.SUP_BTN_CFG_ORDERLY_S ≠ 0 := by
    rw [hfb.get_eq (by decide) (by decide), State.get_put_other _ (by decide), hfs.get_eq (by decide) (by decide)]
    exact hord
  unfold State.enterGrace
  dsimp only
  rw [if_neg hget, State.graceTurn, State.portsShut_congr htells.port_lasting, hshut]
  refine ⟨(hfb.get_eq (by decide) (by decide)).trans ((State.get_put_other _ (by decide)).trans hseq),
    (hfb.flag_eq (by decide) (by decide)).trans (State.flag_put_one _ _), hfb.sameCache.trans hfs.sameCache⟩

theorem State.bootLog_leaveOn (s : State) (src : Nat) : (s.leaveOn src).boot.bootLog = s.boot.bootLog := by
  have hwake : (s.wake src).sleepExitNow.boot.bootLog = s.boot.bootLog := by
    rw [(frame_sleepExitNow _).sameBoot]
    unfold State.wake
    extract_lets st s1 s2 sb sr s3
    split
    · rw [(frame_raise _ _ _ _).sameBoot]
      unfold s3
      split <;> rfl
    · split
      · rw [(frame_dropRequest _).sameBoot, (frame_rollback _).sameBoot]
      · split <;> rfl
  unfold State.leaveOn
  extract_lets st s1
  split
  · rfl
  · split <;> exact hwake

theorem State.bootLog_setSeq (s : State) (st : Nat) : (s.setSeq st).boot.bootLog = s.boot.bootLog := by
  unfold State.setSeq
  extract_lets s1 src s0
  have h1 : s1.boot.bootLog = s.boot.bootLog := by
    unfold s1
    split
    · exact s.bootLog_leaveOn _
    · split
      · exact s.bootLog_leaveOn _
      · rfl
  have h0 : s0.boot.bootLog = s.boot.bootLog := by
    unfold s0
    split <;> exact h1
  split
  · rfl
  · rw [(frame_ffErase _).sameBoot, (frame_of_quiet (quiet_ev _ _ _ _ _) [] []).sameBoot, (frame_raise _ _ _ _).sameBoot]
    exact h0

/-- A power-down without a vault leaves the boot log and the arming of safe mode's clear. -/
theorem State.vaultOrDown_keeps (h : s.rails.openedThisStart = false) :
    (s.vaultOrDown .commit).boot.bootLog = s.boot.bootLog ∧ (s.vaultOrDown .commit).flag Reg.SYS_STATUS_SAFE_ARMED =
      s.flag Reg.SYS_STATUS_SAFE_ARMED := by
  unfold State.vaultOrDown
  extract_lets s1
  have h1 : s1.rails.openedThisStart = false := by rw [(frame_announceDown _).sameRails, s.opened_leaveOn, h]
  have hlog : s1.boot.bootLog = s.boot.bootLog := by rw [(frame_announceDown _).sameBoot, s.bootLog_leaveOn]
  have hflag : s1.flag Reg.SYS_STATUS_SAFE_ARMED = s.flag Reg.SYS_STATUS_SAFE_ARMED :=
    ((frame_announceDown _).flag _).trans ((frame_leaveOn _ _).flag _)
  clear_value s1
  rw [if_neg (by simp [h1])]
  refine ⟨Eq.trans ?_ hlog, ((frame_downBegin_slow _ _).flag_eq (by decide) (by decide)).trans hflag⟩
  unfold State.downBegin
  extract_lets s0 s2 times src1 src2 s3
  have h0 : s0.boot.bootLog = s1.boot.bootLog := by
    unfold s0
    rw [if_neg (by decide)]
  have h2 : s2.boot.bootLog = s1.boot.bootLog := (State.bootLog_setSeq _ _).trans h0
  clear_value s2
  rw [if_neg (by decide), (frame_disableGroup _ _).sameBoot]
  exact h2

variable {r : Requester} {w : Word}

/-- A write to PWR_CTRL leaves what the entry into a power state depends on. -/
theorem State.Asked.mayEnter {f : Fld} {x : State} {ow : Nat} (hx : s.Asked r 0x120000 f w x ow) : x.mayEnter = s.mayEnter := by
  unfold State.mayEnter State.seqState
  rw [hx.whole.get Reg.PWR_STATUS_STATE, hx.whole.get Reg.SUP_SEQ_STATUS_STATE, hx.whole.sameBoot, hx.whole.sameVlt]

theorem State.Asked.deepMay {f : Fld} {x : State} {ow : Nat} (hx : s.Asked r 0x120000 f w x ow) : x.deepMay = s.deepMay := by
  have hen : ∀ p, (x.port p).pmrEn = (s.port p).pmrEn := fun p => (congrArg HostPort.pmrEn (hx.ports p) :)
  have hup : ∀ p, (x.port p).linkUp = (s.port p).linkUp := fun p => (congrArg HostPort.linkUp (hx.ports p) :)
  unfold State.deepMay State.seqState
  simp only [hen, hup, hx.whole.flag Reg.PWR_CFG_DEEP_EN, hx.whole.flag Reg.SYS_STATUS_SAFE, hx.whole.get Reg.SUP_SEQ_STATUS_STATE,
    hx.whole.samePmr]

theorem State.Asked.burnOk {f : Fld} {x : State} {ow : Nat} (hx : s.Asked r 0x100028 f w x ow) {n : Nat} : x.burnOk n = s.burnOk n := by
  unfold State.burnOk
  rw [hx.whole.sameBoot, hx.whole.flag Reg.CFG_CTRL_LOCK]

/-- The way into DEEP begins with its preparation (R398). -/
theorem State.deepBegin_facts (s : State) : s.deepBegin.get Reg.PWR_STATUS_STATE = pwrEntering ∧
    s.deepBegin.get Reg.PWR_STATUS_TARGET = pwrDeep ∧ s.deepBegin.pwr.request = s.pwr.request ∧ s.deepBegin.pwr.prep = 2 ∧
    s.deepBegin.cache = s.cache := by
  have hl := frame_learnAbort s 6
  obtain ⟨n, hr⟩ := frame_restCut (s.learnAbort 6)
  have hpwr : (s.lanAbort 6).pwr = s.pwr := hr.samePwr.trans hl.samePwr
  have hcache : (s.lanAbort 6).cache = s.cache := hr.sameCache.trans hl.sameCache
  unfold State.deepBegin
  generalize s.lanAbort 6 = t at hpwr hcache
  dsimp only
  generalize hu : State.put _ Reg.PWR_STATUS_TARGET pwrDeep = u
  have hstate : u.get Reg.PWR_STATUS_STATE = pwrEntering := by
    subst hu
    have h : (t.put Reg.PWR_STATUS_STATE pwrEntering).get Reg.PWR_STATUS_STATE = pwrEntering := State.get_put_lt _ _ (by decide)
    exact (State.get_put_other _ (by decide)).trans h
  have htarget : u.get Reg.PWR_STATUS_TARGET = pwrDeep := by
    subst hu
    exact State.get_put_lt _ _ (by decide)
  have hupwr : u.pwr = { t.pwr with prep := 2 } := by
    subst hu
    rfl
  have hucache : u.cache = t.cache := by
    subst hu
    rfl
  have hf : u.echoStateSync.setSeepRate.Frame u [.ech, .umb] [Reg.UMB_SEEP_RATE_RATE, Reg.UMB_SEEP_RATE_MODE,
      Reg.UMB_STATUS_SEEP_BORROW] := (frame_echoStateSync u).mono.next (frame_setSeepRate u.echoStateSync)
  rw [hf.get Reg.PWR_STATUS_STATE, hf.get Reg.PWR_STATUS_TARGET, hf.samePwr, hf.sameCache, hupwr, hucache, hcache, hpwr]
  exact ⟨hstate, htarget, rfl, rfl, rfl⟩

theorem State.bootNote_appends {kind reason : Nat} {cold : Bool} (h : s.boot.bootLog.length < 2048) :
    ∃ e, (s.bootNote kind reason cold).boot.bootLog = s.boot.bootLog ++ [e] ∧ e.kind = kind := by
  have hroom : logRoom s.boot.bootLog = s.boot.bootLog := if_neg (Nat.not_le.2 h)
  refine ⟨_, congrArg (· ++ _) hroom, rfl⟩

/-- The registers of a channel's status that a training changes are apart from every plain field. -/
theorem channelFields_apart {n : Nat} (h : n < 16) : (Reg.FLC_CHn_STATUS_STATE n).key ∉ (fieldsAt 0x180000).map Fld.key ∧
    (Reg.FLC_CHn_STATUS_RETRAINS n).key ∉ (fieldsAt 0x180000).map Fld.key ∧
    (Reg.FLC_CHn_STATUS_STATE n).key ≠ Reg.PWR_STATUS_RETRY.key ∧ (Reg.FLC_CHn_STATUS_RETRAINS n).key ≠ Reg.PWR_STATUS_RETRY.key ∧
    (Reg.FLC_CHn_STATUS_STATE n).OffRecorder ∧ (Reg.FLC_CHn_STATUS_RETRAINS n).OffRecorder ∧
    (Reg.FLC_CHn_STATUS_STATE n).key ≠ Reg.FLC_STATUS_CHANNELS_UP.key := by
  revert n
  decide

/-- A channel that fails its training goes out of service, and a rehearsal is wanted (R226). -/
theorem State.channelOut_out (s : State) {n : Nat} (h : n < 16) :
    (s.channelOut n).get (Reg.FLC_CHn_STATUS_STATE n) = 3 ∧ (s.channelOut n).umb.wanted = true := by
  obtain ⟨-, -, -, -, -, -, hne⟩ := channelFields_apart h
  unfold State.channelOut
  dsimp only
  generalize List.foldl _ s _ = t
  refine ⟨(State.get_put_other _ hne).trans (State.get_put_lt _ _ (by decide : 3 < 2 ^ 2)), rfl⟩

/-- RETRAIN_GO trains the channel its word names. -/
theorem State.Asked.retrainGo {x : State} {ow n : Nat} (hx : s.Asked r 0x180000 Reg.FLC_CTRL_RETRAIN_GO w x ow)
    (ha : s.Asks r 0x180000 Reg.FLC_CTRL_RETRAIN_GO w) (hn : n = Reg.FLC_CTRL_RETRAIN_CH.of (Nat.lor w.toNat 4096))
    (htrip : s.flag Reg.FLC_STATUS_TRIP = false) (hst : s.get (Reg.FLC_CHn_STATUS_STATE n) = 1) (ok : Bool) :
    x.regAct .flc 0x180000 ow (askWord Reg.FLC_CTRL_RETRAIN_GO w) (some ok) = x.retrain n ok ∧
      x.get (Reg.FLC_CHn_STATUS_RETRAINS n) = s.get (Reg.FLC_CHn_STATUS_RETRAINS n) := by
  obtain ⟨hks, hkr, hrs, hrr, hos, hor, -⟩ := channelFields_apart (show n < 16 from hn ▸ Nat.mod_lt _ (by decide))
  have hch : x.get Reg.FLC_CTRL_RETRAIN_CH = n := (hx.taken _ (by decide) rfl (by decide)).trans hn.symm
  have hst' : x.get (Reg.FLC_CHn_STATUS_STATE n) = 1 := (hx.whole.get_eq hos fun h => (List.mem_cons.1 h).elim hrs hks).trans hst
  have htrip' : x.flag Reg.FLC_STATUS_TRIP = false := (hx.whole.flag _).trans htrip
  refine ⟨?_, hx.whole.get_eq hor fun h => (List.mem_cons.1 h).elim hrr hkr⟩
  have hact : x.regAct .flc 0x180000 ow (askWord Reg.FLC_CTRL_RETRAIN_GO w) (some ok) = x.retrainGo (some ok) := by
    simp [State.regAct, State.actMem, State.onBit, Fld.set_askWord Reg.FLC_CTRL_RETRAIN_GO, ha.unset Reg.FLC_CTRL_CNT_CLR]
  rw [hact]
  unfold State.retrainGo
  dsimp only
  rw [hch, hst', htrip', if_neg (by decide)]

end

end Sys2Proof.Machine
end

section
/-! PROOF. -/

open Sys2Proof Sys2Proof.Machine

/-- Settles O44: each write is brought to its register's action on the state `Asks.asked` gives, and the action's own lemma says
what it does. -/
theorem registerRequests : Obligations.RegisterRequests := by
  refine ⟨fun r w s ha hold hmay hrec => ?_, fun r w s ha hold hrec => ?_, fun r w s ha hold harm => ?_,
    fun r w s ha hold harm hst herr hv hrun => ?_, fun r w s ha hold hstg hsafe hgc htake => ?_,
    fun r w s b ha hold hform hpages hv hgc hsafe hall hwant hvic => ?_, fun r w s n ha hn hst hlearn => ?_, fun r w s l ha hl hstep => ?_,
    fun r w s ha hst hord hshut => ?_, fun r w s v ha hst hcur => ?_, fun r w s ha hsafe hmay => ?_, fun r w s ha hdeep hmay => ?_,
    fun r w s ha hdeep => ?_, fun r w s ha => ?_, fun r w s ha hst => ?_, fun r w s ha harm => ?_,
    fun r w s ha harm hsafe hst hop hlog => ?_, fun r w s n ha hn hok => ?_, fun r w s n ha hn hok => ?_,
    fun r w s n ha hn htrip hst => ?_, fun r w s n ha hn htrip hst => ?_⟩
  · obtain ⟨x, ow, hx, he⟩ := ha.asked (b := .umb)
    have hact : x.regAct .umb 0x150000 ow (askWord Reg.UMB_CTRL_REH_START w) none = x.rehRequest.1 := by
      simp [State.regAct, State.actData, State.holdEvent, hx.seepHold hold, State.onBit, Fld.set_askWord Reg.UMB_CTRL_REH_START]
    have hmay' : x.rehMay = true := (hx.whole.rehMay_eq (by decide)).trans hmay
    have hsecs : x.secs = s.secs := hx.whole.get _
    have hrec' : x.rehRecent = false := (State.rehRecent_congr hx.whole.sameUmb hsecs).trans hrec
    have hstart : x.rehRequest.1 = x.rehStart true := congrArg Prod.fst (if_pos (by rw [hmay', hrec']; rfl))
    obtain ⟨h1, h2, h3, h4, h5⟩ := State.rehStart_asked x
    have he' := congrArg (done s) (he.trans (hact.trans hstart))
    generalize x.rehStart true = t at he' h1 h2 h3 h4 h5
    exact runs_of_done he' ⟨h1, h2.trans (congrArg some hsecs), h3, h4, h5.trans hx.whole.sameCache⟩
  · obtain ⟨x, ow, hx, he⟩ := ha.asked (b := .umb)
    have hact : x.regAct .umb 0x150000 ow (askWord Reg.UMB_CTRL_REH_START w) none = x.rehRequest.1 := by
      simp [State.regAct, State.actData, State.holdEvent, hx.seepHold hold, State.onBit, Fld.set_askWord Reg.UMB_CTRL_REH_START]
    have hrec' : x.rehRecent = true := (State.rehRecent_congr hx.whole.sameUmb (hx.whole.get _)).trans hrec
    have hno : x.rehRequest.1 = (x.put Reg.UMB_REH_INFO_OUTCOME 5).umbRaise Reg.UMB_STATUS_REH_DONE :=
      congrArg Prod.fst (if_neg (by rw [hrec', Bool.not_true, Bool.and_false]; decide))
    refine runs_of_effect (congrArg (done s) (he.trans (hact.trans hno))) ⟨?_, State.flag_raise _ _ _ _, ?_⟩
      fun u q ⟨h1, h2, hf⟩ => ⟨h1, h2, hf.finish q⟩
    · exact (State.get_raise_other _ _ (by decide)).trans (State.get_put_lt _ _ (by decide))
    · exact .next (.put hx.frame.mono) (frame_raise _ _ _ _)
  · obtain ⟨x, ow, hx, he⟩ := ha.asked (b := .grt)
    have hact : x.regAct .grt 0x170000 ow (askWord Reg.GRT_CTRL_FORMAT w) none = x.grtFormat := by
      simp [State.regAct, State.actData, State.holdEvent, hx.gcHold (by decide) hold, State.onBit, Fld.set_askWord Reg.GRT_CTRL_FORMAT,
        ha.unset Reg.GRT_CTRL_GC_NOW, ha.unset Reg.GRT_CTRL_JRNL_FLUSH]
    have harm' : x.flag Reg.GRT_STATUS_FORMAT_ARMED = false := (hx.whole.flag _).trans harm
    have hno : x.grtFormat = x.put Reg.GRT_STATUS_FORMAT_ARMED 1 := if_neg (by rw [harm']; decide)
    exact runs_of_effect (congrArg (done s) (he.trans (hact.trans hno))) ⟨State.flag_put_one _ _, .put hx.frame.mono⟩
      fun u q ⟨h1, hf⟩ => ⟨h1, hf.finish q⟩
  · obtain ⟨x, ow, hx, he⟩ := ha.asked (b := .grt)
    have hact : x.regAct .grt 0x170000 ow (askWord Reg.GRT_CTRL_FORMAT w) none = x.grtFormat := by
      simp [State.regAct, State.actData, State.holdEvent, hx.gcHold (by decide) hold, State.onBit, Fld.set_askWord Reg.GRT_CTRL_FORMAT,
        ha.unset Reg.GRT_CTRL_GC_NOW, ha.unset Reg.GRT_CTRL_JRNL_FLUSH]
    have harm' : x.flag Reg.GRT_STATUS_FORMAT_ARMED = true := (hx.whole.flag _).trans harm
    have hgo : x.grtFormat = (x.put Reg.GRT_STATUS_FORMAT_ARMED 0).formatNow := by
      have hv' : x.vaulting = false := by
        rw [State.vaulting, hx.whole.sameVlt]
        exact hv
      refine (if_pos harm').trans (if_pos ⟨?_, ?_, ?_, ?_⟩)
      · rw [hx.whole.samePmr, hst]
      · rw [hx.whole.samePmr, herr]
        exact .inr rfl
      · rw [hv']
        rfl
      · rw [hx.whole.sameVlt, hrun]
        rfl
    have hclosed := State.closeIngest_closed (x.put Reg.GRT_STATUS_FORMAT_ARMED 0)
    obtain ⟨h1, h2, h3, h4⟩ := State.formatGrotto_clears hclosed
    have he' := congrArg (done s) (he.trans (hact.trans hgo))
    unfold State.formatNow at he'
    generalize (x.put Reg.GRT_STATUS_FORMAT_ARMED 0).closeIngest.formatGrotto = t at he' h1 h2 h3 h4
    exact runs_of_effect he' ⟨rfl, rfl, h4, h2, h3, h1⟩ fun u q h => h
  · obtain ⟨x, ow, hx, he⟩ := ha.asked (b := .grt)
    have hact : x.regAct .grt 0x170000 ow (askWord Reg.GRT_CTRL_JRNL_FLUSH w) none = x.journalFlush := by
      simp [State.regAct, State.actData, State.holdEvent, hx.gcHold (by decide) hold, State.onBit, Fld.set_askWord Reg.GRT_CTRL_JRNL_FLUSH,
        ha.unset Reg.GRT_CTRL_GC_NOW, ha.unset Reg.GRT_CTRL_FORMAT]
    have henv : x.recEnv = s.recEnv := by
      simp only [State.recEnv, State.secs, hx.whole.get Reg.GRT_GEOM_PAGES, hx.whole.get Reg.GRT_GEOM_BLOCKS,
        hx.whole.get Reg.SYS_OPSEC_SECONDS, hx.whole.sameFlc]
    have hsafe' : x.flag Reg.SYS_STATUS_SAFE = false := (hx.whole.flag _).trans hsafe
    obtain ⟨hseq, hpgc, l, hl, hrest⟩ := Grotto.journalPage_taken s.grt s.recEnv hstg htake
    have hflush : x.journalFlush = { x with grt := s.grt.journalPage s.recEnv } := by
      refine (if_neg ?_).trans ?_
      · rw [hx.whole.sameGrt, hsafe']
        exact not_or.2 ⟨hstg, by decide⟩
      · rw [hx.whole.sameGrt, henv]
        unfold State.gcErase
        rw [hpgc.trans hgc]
    exact runs_of_effect (congrArg (done s) (he.trans (hact.trans hflush))) ⟨hseq, ⟨l, hl, hrest⟩, .withGrt hx.frame.mono⟩
      fun u q ⟨h1, h2, hf⟩ => ⟨h1, h2, hf.finish q⟩
  · obtain ⟨x, ow, hx, he⟩ := ha.asked (b := .grt)
    have hact : x.regAct .grt 0x170000 ow (askWord Reg.GRT_CTRL_GC_NOW w) none = x.gcCheck true := by
      simp [State.regAct, State.actData, State.holdEvent, hx.gcHold (by decide) hold, State.onBit, Fld.set_askWord Reg.GRT_CTRL_GC_NOW,
        ha.unset Reg.GRT_CTRL_FORMAT, ha.unset Reg.GRT_CTRL_JRNL_FLUSH]
    obtain ⟨hwanted, hmore, hvictim, hbytes⟩ := hx.whole.gc_eq (by decide) (by decide)
    have hhold : x.get Reg.GRT_CTRL_GC_HOLD = s.get Reg.GRT_CTRL_GC_HOLD :=
      (hx.taken _ (by decide) rfl (by decide)).trans ((Fld.of_askWord w (by decide) (by decide)).trans hold)
    have hprep : x.pwr.prep = s.pwr.prep := (congrArg Power.prep hx.pwr).trans (State.prep_arrive ha.1)
    have hall' : x.gcAllowed = true := by
      rw [← hall]
      simp only [State.gcAllowed, hx.whole.samePmr, hprep, hbytes, State.deficit, State.flag, hhold, hx.whole.get Reg.UMB_STATUS_DEFICIT]
    have hgrt : x.grt = s.grt := hx.whole.sameGrt
    have hgo : x.gcCheck true = (({ x with grt := { x.grt with gc := some ⟨b.num, [], 0⟩ } } : State).put Reg.GRT_STATUS_GC_ACTIVE 1).put
        Reg.GRT_STATUS_GC_HELD 0 := by
      have hv' : x.vaulting = false := by
        rw [State.vaulting, hx.whole.sameVlt]
        exact hv
      have hsafe' : x.flag Reg.SYS_STATUS_SAFE = false := (hx.whole.flag _).trans hsafe
      have hpages' : x.get Reg.GRT_GEOM_PAGES ≠ 0 := fun h => hpages ((hx.whole.get _).symm.trans h)
      unfold State.gcCheck
      rw [if_neg (by simp [hgrt, hform, hv', hsafe', hpages']), if_neg (by rw [hgrt, hgc]; simp),
        if_neg (by rw [hwanted, hmore]; rcases hwant with h | h <;> simp [h]), if_neg (by rw [hall']; simp), hvictim, hvic]
    have hflag : (((({ x with grt := { x.grt with gc := some ⟨b.num, [], 0⟩ } } : State).put Reg.GRT_STATUS_GC_ACTIVE 1).put
        Reg.GRT_STATUS_GC_HELD 0).flag Reg.GRT_STATUS_GC_ACTIVE) = true := by simp (disch := decide)
    exact runs_of_effect (congrArg (done s) (he.trans (hact.trans hgo))) ⟨by rw [← hgrt]; rfl, hflag, .put (.put (.withGrt hx.frame.mono))⟩
      fun u q ⟨h1, h2, hf⟩ => ⟨h1, h2, hf.finish q⟩
  · obtain ⟨x, ow, hx, he⟩ := ha.asked (b := .lan)
    have hport : x.get Reg.LAN_CTRL_LEARN_PORT = n := (hx.taken _ (by decide) rfl (by decide)).trans hn.symm
    have hact : x.regAct .lan 0x140000 ow (askWord Reg.LAN_CTRL_LEARN_REQ w) none = x.learnReq n := by
      simp [State.regAct, State.actLan, State.onBit, Fld.set_askWord Reg.LAN_CTRL_LEARN_REQ, ha.unset Reg.LAN_CTRL_LEARN_CANCEL,
        ha.unset Reg.LAN_CTRL_FAULT_CLR, hport]
    have hn8 : n < 8 := hn ▸ Nat.mod_lt _ (by decide)
    have hst' : x.modSt n = mService := by
      refine (hx.whole.get_eq (offRecorder_modFields hn8).1 ?_).trans hst
      clear hn hst hport hact
      revert n
      decide
    have hlan : x.lan = s.lan := hx.whole.sameLan
    have hlearn' : x.lan.learn = none := hlan ▸ hlearn
    obtain ⟨h1, h2, h3, h4⟩ := State.learnReq_service hst' hlearn'
    have he' := congrArg (done s) (he.trans hact)
    generalize x.learnReq n = t at he' h1 h2 h3 h4
    exact runs_of_effect he' ⟨h1, h2, h3.trans hx.whole.sameCache, h4.trans hx.whole.samePmr⟩ fun u q h => h
  · obtain ⟨x, ow, hx, he⟩ := ha.asked (b := .lan)
    have hact : x.regAct .lan 0x140000 ow (askWord Reg.LAN_CTRL_LEARN_CANCEL w) none = x.learnAbort 6 := by
      simp [State.regAct, State.actLan, State.onBit, Fld.set_askWord Reg.LAN_CTRL_LEARN_CANCEL, ha.unset Reg.LAN_CTRL_LEARN_REQ,
        ha.unset Reg.LAN_CTRL_FAULT_CLR]
    obtain ⟨h1, h2, h3, h4, h5⟩ := State.learnAbort_running (s := x) (outcome := 6) (hx.whole.sameLan ▸ hl) hstep (by decide)
    have he' := congrArg (done s) (he.trans hact)
    generalize x.learnAbort 6 = t at he' h1 h2 h3 h4 h5
    exact runs_of_effect he' ⟨h1, h2, h3, h4, h5.trans hx.whole.sameCache⟩ fun u q h => h
  · obtain ⟨x, ow, hx, he⟩ := ha.asked (b := .sup)
    have hact : x.regAct .sup 0x130000 ow (askWord Reg.SUP_CTRL_OFF_REQ w) none = x.offRequest := by
      simp [State.regAct, State.actSup, State.onBit, Fld.set_askWord Reg.SUP_CTRL_OFF_REQ, ha.unset Reg.SUP_CTRL_FF_ACK,
        ha.unset Reg.SUP_CTRL_FAULT_CLR]
    have hgo : x.offRequest = x.enterGrace := if_pos ((hx.whole.get _).trans hst)
    have hord' : x.get Reg.SUP_BTN_CFG_ORDERLY_S ≠ 0 := fun h => hord ((hx.whole.get _).symm.trans h)
    obtain ⟨h1, h2, h3⟩ := State.enterGrace_waits hord' ((State.portsShut_congr hx.ports).trans hshut)
    have he' := congrArg (done s) (he.trans (hact.trans hgo))
    generalize x.enterGrace = t at he' h1 h2 h3
    exact runs_of_effect he' ⟨h1, h2, h3.trans hx.whole.sameCache⟩ fun u q h => h
  · obtain ⟨x, ow, hx, he⟩ := ha.asked (b := .sup)
    have hact : x.regAct .sup 0x130000 ow (askWord Reg.SUP_CTRL_OFF_REQ w) none = x.offRequest := by
      simp [State.regAct, State.actSup, State.onBit, Fld.set_askWord Reg.SUP_CTRL_OFF_REQ, ha.unset Reg.SUP_CTRL_FF_ACK,
        ha.unset Reg.SUP_CTRL_FAULT_CLR]
    have hst' : x.seqState = seqVault := (hx.whole.get _).trans hst
    have hgo : x.offRequest = (x.updVault (fun v => { v with offReq := true })).put Reg.SUP_STATUS_OFF_PENDING 1 := by
      unfold State.offRequest
      rw [hst', if_neg (by decide), if_neg (by decide), if_pos rfl]
    refine runs_of_effect (congrArg (done s) (he.trans (hact.trans hgo))) ⟨?_, ?_⟩ fun u q h => h
    · exact (congrArg (fun v : VaultSide => v.cur.map (fun u => { u with offReq := true })) hx.whole.sameVlt).trans (congrArg (Option.map _) hcur)
    · exact (State.get_put_other _ (by decide)).trans hst'
  · obtain ⟨x, ow, hx, he⟩ := ha.asked (b := .pwr)
    have hact : x.regAct .pwr 0x120000 ow (askWord Reg.PWR_CTRL_SLEEP_REQ w) none = x.sleepRequest := by
      simp [State.regAct, State.actPwr, State.onBit, Fld.set_askWord Reg.PWR_CTRL_SLEEP_REQ, ha.unset Reg.PWR_CTRL_CNT_CLR,
        ha.unset Reg.PWR_CTRL_CANCEL, ha.unset Reg.PWR_CTRL_DEEP_REQ, ha.unset Reg.PWR_CTRL_WAKE_REQ]
    have hgo : x.sleepRequest = (({ x with pwr := { x.pwr with request := 2, k := 0 } } : State).put Reg.PWR_STATUS_RETRY 0).beginHandshake
        pwrSleep := by
      refine (if_neg ?_).trans (if_pos ((x.mayEnter_retry).trans (hx.mayEnter.trans hmay)))
      rw [show x.flag Reg.SYS_STATUS_SAFE = false from (hx.whole.flag _).trans hsafe]
      decide
    obtain ⟨h1, h2, h3, -⟩ := State.beginHandshake_facts
      (({ x with pwr := { x.pwr with request := 2, k := 0 } } : State).put Reg.PWR_STATUS_RETRY 0) (target := pwrSleep) (by decide)
    have h4 := (frame_beginHandshake (({ x with pwr := { x.pwr with request := 2, k := 0 } } : State).put Reg.PWR_STATUS_RETRY 0)
      pwrSleep).sameCache
    have he' := congrArg (done s) (he.trans (hact.trans hgo))
    generalize State.beginHandshake _ pwrSleep = t at he' h1 h2 h3 h4
    exact runs_of_effect he' ⟨h1, h2, h3, h4.trans hx.whole.sameCache⟩ fun u q h => h
  · obtain ⟨x, ow, hx, he⟩ := ha.asked (b := .pwr)
    have hact : x.regAct .pwr 0x120000 ow (askWord Reg.PWR_CTRL_DEEP_REQ w) none = x.deepRequest := by
      simp [State.regAct, State.actPwr, State.onBit, Fld.set_askWord Reg.PWR_CTRL_DEEP_REQ, ha.unset Reg.PWR_CTRL_CNT_CLR,
        ha.unset Reg.PWR_CTRL_CANCEL, ha.unset Reg.PWR_CTRL_SLEEP_REQ, ha.unset Reg.PWR_CTRL_WAKE_REQ]
    have hgo : x.deepRequest = (({ x with pwr := { x.pwr with request := 3, k := 0 } } : State).put Reg.PWR_STATUS_RETRY 0).deepBegin := by
      refine (if_neg ?_).trans (if_pos ((x.mayEnter_retry).trans (hx.mayEnter.trans hmay)))
      rw [hx.deepMay, hdeep]
      decide
    obtain ⟨h1, h2, h3, h4, h5⟩ := State.deepBegin_facts
      (({ x with pwr := { x.pwr with request := 3, k := 0 } } : State).put Reg.PWR_STATUS_RETRY 0)
    have he' := congrArg (done s) (he.trans (hact.trans hgo))
    generalize State.deepBegin _ = t at he' h1 h2 h3 h4 h5
    exact runs_of_effect he' ⟨h1, h2, h3, h4, h5.trans hx.whole.sameCache⟩ fun u q h => h
  · obtain ⟨x, ow, hx, he⟩ := ha.asked (b := .pwr)
    have hact : x.regAct .pwr 0x120000 ow (askWord Reg.PWR_CTRL_DEEP_REQ w) none = x.deepRequest := by
      simp [State.regAct, State.actPwr, State.onBit, Fld.set_askWord Reg.PWR_CTRL_DEEP_REQ, ha.unset Reg.PWR_CTRL_CNT_CLR,
        ha.unset Reg.PWR_CTRL_CANCEL, ha.unset Reg.PWR_CTRL_SLEEP_REQ, ha.unset Reg.PWR_CTRL_WAKE_REQ]
    have hgo : x.deepRequest = x := if_pos (by rw [hx.deepMay, hdeep]; rfl)
    exact runs_of_effect (congrArg (done s) (he.trans (hact.trans hgo))) hx.frame fun u q hf => hf.finish q
  · obtain ⟨x, ow, hx, he⟩ := ha.asked (b := .pwr)
    have hact : x.regAct .pwr 0x120000 ow (askWord Reg.PWR_CTRL_CANCEL w) none = x.dropRequest := by
      simp [State.regAct, State.actPwr, State.onBit, Fld.set_askWord Reg.PWR_CTRL_CANCEL, ha.unset Reg.PWR_CTRL_CNT_CLR,
        ha.unset Reg.PWR_CTRL_DEEP_REQ, ha.unset Reg.PWR_CTRL_SLEEP_REQ, ha.unset Reg.PWR_CTRL_WAKE_REQ, State.cancelRequest]
    have hpwr : ({ x.pwr with request := 0, k := 0 } : Power) = { s.pwr with request := 0, k := 0 } := by
      rw [hx.pwr, State.arrive_writes ha.1]
      split <;> rfl
    exact runs_of_effect (congrArg (done s) (he.trans hact))
      ⟨hpwr, State.flag_put_zero _ _, .next hx.frame.mono (frame_dropRequest x)⟩ fun u q ⟨h1, h2, hf⟩ => ⟨h1, h2, hf.finish q⟩
  · obtain ⟨x, ow, hx, he⟩ := ha.asked (b := .pwr)
    have hact : x.regAct .pwr 0x120000 ow (askWord Reg.PWR_CTRL_WAKE_REQ w) none = x.wake 12 := by
      simp [State.regAct, State.actPwr, State.onBit, Fld.set_askWord Reg.PWR_CTRL_WAKE_REQ, ha.unset Reg.PWR_CTRL_CNT_CLR,
        ha.unset Reg.PWR_CTRL_DEEP_REQ, ha.unset Reg.PWR_CTRL_SLEEP_REQ, ha.unset Reg.PWR_CTRL_CANCEL]
    have hst' : x.get Reg.PWR_STATUS_STATE = pwrSleep := (hx.whole.get _).trans hst
    obtain ⟨h1, h2, h3⟩ := State.wakeNoted_facts x (src := 12) (hst' ▸ by decide) (by decide)
    have h4 := (frame_wake x 12).sameCache.trans hx.whole.sameCache
    rw [State.wake_sleep hst'] at hact h4
    refine runs_of_effect (congrArg (done s) (he.trans hact)) ⟨?_, ?_, ?_, State.flag_raise _ _ _ _, h4⟩ fun u q h => h
    · exact (State.get_raise_other _ _ (by decide)).trans h1
    · exact (State.get_raise_other _ _ (by decide)).trans h2
    · exact (State.get_raise_other _ _ (by decide)).trans (h3.trans hst')
  · obtain ⟨x, ow, hx, he⟩ := ha.asked (b := .sys)
    have hact : x.regAct .sys 0x100004 ow (askWord Reg.SYS_CTRL_SAFE_CLR w) none = x.safeClr := by
      simp [State.regAct, State.actSys, State.onBit, Fld.set_askWord Reg.SYS_CTRL_SAFE_CLR, ha.unset Reg.SYS_CTRL_WARM_RST]
    have harm' : x.flag Reg.SYS_STATUS_SAFE_ARMED = false := (hx.whole.flag _).trans harm
    have hgo : x.safeClr = x.put Reg.SYS_STATUS_SAFE_ARMED 1 := if_neg (by rw [harm']; decide)
    exact runs_of_effect (congrArg (done s) (he.trans (hact.trans hgo))) ⟨State.flag_put_one _ _, .put hx.frame.mono⟩
      fun u q ⟨h1, hf⟩ => ⟨h1, hf.finish q⟩
  · obtain ⟨x, ow, hx, he⟩ := ha.asked (b := .sys)
    have hact : x.regAct .sys 0x100004 ow (askWord Reg.SYS_CTRL_SAFE_CLR w) none = x.safeClr := by
      simp [State.regAct, State.actSys, State.onBit, Fld.set_askWord Reg.SYS_CTRL_SAFE_CLR, ha.unset Reg.SYS_CTRL_WARM_RST]
    have harm' : x.flag Reg.SYS_STATUS_SAFE_ARMED = true := (hx.whole.flag _).trans harm
    have hsafe' : (x.put Reg.SYS_STATUS_SAFE_ARMED 0).flag Reg.SYS_STATUS_SAFE = true :=
      (State.flag_put_other _ (by decide)).trans ((hx.whole.flag _).trans hsafe)
    have hst' : (x.put Reg.SYS_STATUS_SAFE_ARMED 0).seqState = seqOn :=
      (State.get_put_other _ (by decide)).trans ((hx.whole.get _).trans hst)
    have hgo : x.safeClr = ((x.put Reg.SYS_STATUS_SAFE_ARMED 0).bootNote 4 0 false).vaultOrDown .commit :=
      (if_pos harm').trans (if_pos ⟨hsafe', .inl hst'⟩)
    have hfn := frame_bootNote (x.put Reg.SYS_STATUS_SAFE_ARMED 0) 4 0 false
    have hop' : ((x.put Reg.SYS_STATUS_SAFE_ARMED 0).bootNote 4 0 false).rails.openedThisStart = false := by
      rw [hfn.sameRails, ← hop, ← hx.whole.sameRails]
      rfl
    obtain ⟨e, hlog', hkind⟩ := State.bootNote_appends (s := x.put Reg.SYS_STATUS_SAFE_ARMED 0) (kind := 4) (reason := 0) (cold := false)
      (show x.boot.bootLog.length < 2048 by rw [hx.whole.sameBoot]; exact hlog)
    have h1 := (State.vaultOrDown_unopened hop' .commit).1
    obtain ⟨h2, h3⟩ := State.vaultOrDown_keeps hop'
    have he' := congrArg (done s) (he.trans (hact.trans hgo))
    refine runs_of_effect he' ⟨h1, h3.trans ((hfn.flag _).trans (State.flag_put_zero _ _)), e, h2.trans (hlog'.trans ?_), hkind⟩ fun u q h => h
    rw [← hx.whole.sameBoot]
    rfl
  · obtain ⟨x, ow, hx, he⟩ := ha.asked (b := .sys)
    have hact : x.regAct .sys 0x100028 ow (askWord Reg.SYS_PROV_CTRL_BURN w) none = x.burn := by
      simp [State.regAct, State.actSys, State.onBit, Fld.set_askWord Reg.SYS_PROV_CTRL_BURN]
    have hslot : x.get Reg.SYS_PROV_CTRL_SLOT = n := (hx.taken _ (by decide) rfl (by decide)).trans hn.symm
    have hgo : x.burn = (({ x with boot := { x.boot with
        otpSlots := lset x.boot.otpSlots n (true, (x.boot.otpSlots.getD n (false, false)).2), prov := [],
        otpHash := lset x.boot.otpHash n (wordsNat (x.boot.prov.take 12)),
        imgKey := if n = 0 then wordsNat (x.boot.prov.drop 12) else x.boot.imgKey,
        fuses := if n = 0 then mset x.boot.fuses Reg.SYS_OTP_IMG_KEY.key 1 else x.boot.fuses } } : State).put
        Reg.SYS_PROV_CTRL_DONE 1).put Reg.SYS_PROV_CTRL_ERR 0 := by
      rw [← hslot]
      exact if_pos (by rw [hslot, hx.burnOk, hok])
    refine runs_of_effect (congrArg (done s) (he.trans (hact.trans hgo)))
      ⟨?_, rfl, (State.flag_put_other _ (by decide)).trans (State.flag_put_one _ _), State.flag_put_zero _ _, .put (.put (.withBoot hx.frame.mono))⟩
      fun u q ⟨h1, h2, h3, h4, hf⟩ => ⟨h1, h2, h3, h4, hf.finish q⟩
    rw [← hx.whole.sameBoot]
    rfl
  · obtain ⟨x, ow, hx, he⟩ := ha.asked (b := .sys)
    have hact : x.regAct .sys 0x100028 ow (askWord Reg.SYS_PROV_CTRL_BURN w) none = x.burn := by
      simp [State.regAct, State.actSys, State.onBit, Fld.set_askWord Reg.SYS_PROV_CTRL_BURN]
    have hslot : x.get Reg.SYS_PROV_CTRL_SLOT = n := (hx.taken _ (by decide) rfl (by decide)).trans hn.symm
    have hgo : x.burn = (x.put Reg.SYS_PROV_CTRL_DONE 0).put Reg.SYS_PROV_CTRL_ERR 1 := by
      refine if_neg ?_
      rw [hslot, hx.burnOk, hok]
      decide
    exact runs_of_effect (congrArg (done s) (he.trans (hact.trans hgo)))
      ⟨(State.flag_put_other _ (by decide)).trans (State.flag_put_zero _ _), State.flag_put_one _ _, .put (.put hx.frame)⟩
      fun u q ⟨h1, h2, hf⟩ => ⟨h1, h2, hf.finish q⟩
  · obtain ⟨x, ow, hx, he⟩ := ha.askedEnv (b := .flc)
    have hn16 : n < 16 := hn ▸ Nat.mod_lt _ (by decide)
    obtain ⟨hgo, hret⟩ := hx.retrainGo ha hn htrip hst true
    have he' := congrArg (done s) ((he (.retrainGo r w true) (some true)).trans hgo)
    refine runs_of_effect he' ⟨?_, .incSat (hx.frame.mono (hp := List.nil_subset _) (hf := ?_)) (hf := ?_)⟩ fun u q ⟨h1, hf⟩ => ⟨h1, hf.finish q⟩
    · exact (State.get_incSat _ _ _).trans (congrArg (satAdd 255 · 1) hret)
    · rw [List.map_append]
      exact List.subset_append_left _ _
    · rw [List.map_append]
      exact List.mem_append_right _ (List.mem_singleton_self _)
  · obtain ⟨x, ow, hx, he⟩ := ha.askedEnv (b := .flc)
    have hn16 : n < 16 := hn ▸ Nat.mod_lt _ (by decide)
    obtain ⟨hgo, -⟩ := hx.retrainGo ha hn htrip hst false
    have he' := congrArg (done s) ((he (.retrainGo r w false) (some false)).trans hgo)
    obtain ⟨h1, h2⟩ := State.channelOut_out (x.incSat (Reg.FLC_CHn_STATUS_RETRAINS n) 1) hn16
    unfold State.retrain at he'
    rw [if_neg (by decide)] at he'
    generalize State.channelOut _ n = t at he' h1 h2
    exact runs_of_effect he' ⟨h1, h2⟩ fun u q h => h

end

section
/-! SUPPORT. A host's read of PWR_STATUS while a power request waits to be tried again (R380, R513). -/

namespace Sys2Proof.Machine

/-- A running device whose sleep request waits for its next try: RETRY stands in PWR_STATUS. -/
def sleepRetrying : State :=
  let a := { HostPort.init with linkUp := true, mse := true, bme := true }
  ({ State.reset with
    pwr := { Power.init with dom := List.replicate 8 DomSt.on }, host := { HostSide.init with portA := a } } : State).put Reg.PWR_STATUS_RETRY 1

/-- The register PWR_STATUS. -/
def pwrStatusRow : RegRow := ((regAt 0x120004).map Prod.fst).getD ⟨0, false, []⟩

/-- The dwords that the completions of a list carry. -/
def completedDwords (l : List Out) : List Nat :=
  l.filterMap fun o => match o with
    | .cpl _ _ _ data => some (leNat data)
    | _ => none

/-- The access itself ends the request, so PWR_STATUS is read with RETRY clear. -/
theorem read_sleepRetrying : completedDwords ((sleepRetrying.arrive .portA).windowRead .portA 0x120004 4).out ≠
    completedDwords (sleepRetrying.out ++ [.cpl .a .success false (natLe (sleepRetrying.wordOf pwrStatusRow) 4)]) := by
  decide +kernel

end Sys2Proof.Machine
end

section
/-! PROOF. -/

open Sys2Proof Sys2Proof.Machine

/-- Refutes O45: a host port's read of PWR_STATUS ends the waiting power request before it samples the register, so RETRY,
which stands in the register when the read arrives, is not in the word that it returns. -/
theorem not_registerWords : ¬ Obligations.RegisterWords := by
  intro h
  obtain ⟨-, -, -, -, -, -, -, -, -, -, -, -, hread, -⟩ := h
  obtain ⟨t, ht, hout⟩ := hread .a 0x120004 pwrStatusRow sleepRetrying (by decide +kernel) (by decide) (by decide)
    ⟨.pwr, by decide +kernel⟩ (by decide +kernel) (by decide +kernel)
  have hreach : sleepRetrying.reaches .portA = true := by decide +kernel
  have hrun : exec (.registerRead .portA 0x120004 4) sleepRetrying =
      done sleepRetrying ((sleepRetrying.arrive .portA).windowRead .portA 0x120004 4) := by
    show done _ (if (!sleepRetrying.reaches .portA) = true then _ else _) = _
    rw [hreach]
    rfl
  have hsent : t.out = ((sleepRetrying.arrive .portA).windowRead .portA 0x120004 4).out := by
    rw [show Port.req .a = .portA from rfl, hrun] at ht
    injection ht with ht
    rw [← ht]
    rfl
  exact read_sleepRetrying (congrArg completedDwords (hsent.symm.trans hout))

end

section
/-! SUPPORT. Who the management paths serve (R506, R518): the SMBus endpoint and the console. -/

namespace Sys2Proof.Machine

section
variable {s : State}

/-- An NVMe-MI message that the running device takes at once. -/
theorem State.mi_run (hrun : s.InRun) (hsup : s.domOn .sup = true) (hctrl : s.domOn .ctrl = true) (hv : s.vaulting = false)
    {mctp : Bool} (hm : mctp = false ∨ s.host.smb.eid ≠ 0) (c : Instr) (held : Bool) (k : State → State) :
    s.mi c mctp held k = k s.dropRequest := by
  have hdeep : (s.get Reg.PWR_STATUS_STATE == pwrDeep) = false := by
    rw [show s.get Reg.PWR_STATUS_STATE = pwrRun from hrun]
    decide
  have heid : (mctp && s.host.smb.eid == 0) = false := by
    rcases hm with h | h
    · rw [h, Bool.false_and]
    · rw [beq_eq_false_iff_ne.2 h, Bool.and_false]
  have hon : (s.touch 2).domOn .ctrl = true := by
    rw [State.touch_run hrun (by decide)]
    exact hctrl
  unfold State.mi
  rw [hsup, hv, heid, hdeep, Bool.and_false]
  dsimp only
  rw [hon, State.touch_run hrun (by decide)]
  rfl

/-- From a trip to the seal the SMBus endpoint does not acknowledge. -/
theorem State.mi_vaulting (hsup : s.domOn .sup = true) (hv : s.vaulting = true) (c : Instr) (mctp held : Bool) (k : State → State) :
    s.mi c mctp held k = s.send .smbNak := by
  unfold State.mi
  rw [hsup, hv]
  rfl

theorem State.smb_vaulting (hsup : s.domOn .sup = true) (hv : s.vaulting = true) (k : State → State) : s.smb k = s.send .smbNak := by
  unfold State.smb
  rw [hsup, hv]
  rfl

theorem State.uart_on (hctrl : s.domOn .ctrl = true) (hv : s.vaulting = false) (k : State → State) : s.uart k = k s := by
  unfold State.uart
  rw [hctrl, hv]
  rfl

theorem State.uart_vaulting (hv : s.vaulting = true) (k : State → State) : s.uart k = s := by
  unfold State.uart
  rw [hv, Bool.not_true, Bool.and_false]
  rfl

theorem State.vaulting_congr {t : State} (h : t.vlt = s.vlt) : t.vaulting = s.vaulting :=
  congrArg (fun v => State.vaulting { s with vlt := v }) h

theorem State.domOn_congr {t : State} (h : t.pwr = s.pwr) (d : Domain) : t.domOn d = s.domOn d :=
  congrArg (fun p => State.domOn { s with pwr := p } d) h

/-- The console sends while PD_CTRL runs and no vault is under way. -/
theorem State.console_sends (hctrl : s.domOn .ctrl = true) (hv : s.vaulting = false) (v : List Nat) :
    s.console v = s.send (.uart v) := by
  refine if_pos ?_
  have h : (s.pwr.dom.getD Domain.ctrl.idx .off == .on && !s.vaulting) = true := by
    rw [hv]
    exact Bool.and_eq_true_iff.2 ⟨hctrl, rfl⟩
  exact h

theorem State.foldl_console {α : Type} (f : α → List Nat) (l : List α) (hctrl : s.domOn .ctrl = true) (hv : s.vaulting = false) :
    l.foldl (fun (t : State) x => t.console (f x)) s = { s with out := s.out ++ l.map (fun x => .uart (f x)) } := by
  induction l generalizing s with
  | nil => rw [List.foldl_nil, List.map_nil, List.append_nil]
  | cons x l ih =>
    rw [List.foldl_cons, State.console_sends hctrl hv]
    refine (ih (s := s.send (.uart (f x))) hctrl hv).trans ?_
    simp [State.send]

theorem length_natLe (n k : Nat) : (natLe n k).length = k := by
  induction k generalizing n with
  | zero => rfl
  | succ k ih => simp [natLe, ih]

/-! What a dropped power request leaves (R380). -/

@[simp] theorem State.get_dropRequest (s : State) {f : Fld} (h : f.key ≠ Reg.PWR_STATUS_RETRY.key) : s.dropRequest.get f = s.get f :=
  State.get_put_other _ h

@[simp] theorem State.flag_dropRequest (s : State) {f : Fld} (h : f.key ≠ Reg.PWR_STATUS_RETRY.key) : s.dropRequest.flag f = s.flag f :=
  State.flag_put_other _ h

@[simp] theorem State.dropRequest_evr (s : State) : s.dropRequest.evr = s.evr := rfl
@[simp] theorem State.dropRequest_rails (s : State) : s.dropRequest.rails = s.rails := rfl
@[simp] theorem State.dropRequest_broker (s : State) : s.dropRequest.broker = s.broker := rfl
@[simp] theorem State.dropRequest_pmr (s : State) : s.dropRequest.pmr = s.pmr := rfl
@[simp] theorem State.dropRequest_cache (s : State) : s.dropRequest.cache = s.cache := rfl
@[simp] theorem State.dropRequest_umb (s : State) : s.dropRequest.umb = s.umb := rfl
@[simp] theorem State.dropRequest_vlt (s : State) : s.dropRequest.vlt = s.vlt := rfl
@[simp] theorem State.dropRequest_grt (s : State) : s.dropRequest.grt = s.grt := rfl
@[simp] theorem State.dropRequest_flc (s : State) : s.dropRequest.flc = s.flc := rfl
@[simp] theorem State.dropRequest_dmc (s : State) : s.dropRequest.dmc = s.dmc := rfl
@[simp] theorem State.dropRequest_ech (s : State) : s.dropRequest.ech = s.ech := rfl
@[simp] theorem State.dropRequest_lan (s : State) : s.dropRequest.lan = s.lan := rfl
@[simp] theorem State.dropRequest_boot (s : State) : s.dropRequest.boot = s.boot := rfl
@[simp] theorem State.dropRequest_host (s : State) : s.dropRequest.host = s.host := rfl
@[simp] theorem State.dropRequest_out (s : State) : s.dropRequest.out = s.out := rfl

theorem State.tj_dropRequest (s : State) : s.dropRequest.tj = s.tj := by
  simp (disch := decide) [State.tj, State.getI]

theorem State.sparePct_dropRequest (s : State) : s.dropRequest.sparePct = s.sparePct := rfl

theorem State.warnBits_dropRequest (s : State) : s.dropRequest.warnBits = s.warnBits := by
  have hthr : s.dropRequest.spareThr = s.spareThr := rfl
  have htwo : s.dropRequest.twoDegraded = s.twoDegraded := rfl
  simp (disch := decide) [State.warnBits, State.sparePct_dropRequest, hthr, State.kelvin, State.tj_dropRequest, htwo,
    State.nvme_dropRequest]
  rfl

theorem State.pctUsed_dropRequest (s : State) : s.dropRequest.pctUsed = s.pctUsed := by
  have harea (l : Bool) : s.dropRequest.areaBlocks l = s.areaBlocks l := by
    have hdev (n : Nat) : s.dropRequest.devProfile n = s.devProfile n := rfl
    have hlun (n : Nat) : s.dropRequest.lun n = s.lun n := rfl
    funext n
    simp (disch := decide) [State.areaBlocks, State.ledgerBlocks, hdev, hlun]
  simp (disch := decide) [State.pctUsed, State.peLimit, State.meanEc, State.areaTotal, State.luns, harea, State.areaRetired,
    State.areaTbl]

theorem State.healthVals_dropRequest (s : State) : s.dropRequest.healthVals = s.healthVals := by
  simp [State.healthVals, State.healthFlags, State.warnBits_dropRequest, State.tempByte, State.tj_dropRequest, State.pctUsed_dropRequest,
    State.nvme_dropRequest, State.port_dropRequest]

theorem State.act_dropRequest (s : State) : s.dropRequest.ActFrame s [] [] := ⟨frame_dropRequest s, rfl⟩

end

end Sys2Proof.Machine
end

section
/-! SUPPORT. What an MI answer sends, and a window command that is taken (R518, R519). -/

namespace Sys2Proof.Machine

section
variable {s : State}

/-- A command of the window that is taken: its PEC is there, or none is required. -/
theorem State.smbWrite_accepted (hon : s.domOn .sup = true) (hv : s.vaulting = false) {pec : Bool}
    (h : pec = true ∨ s.host.smb.pecReq = false) (k : State → State) : s.smbWrite pec k = k s.pecTaken := by
  rw [State.smbWrite, State.smb_of_on hon hv]
  refine if_neg ?_
  rcases h with h | h
  · simp [h]
  · simp [h]

theorem State.smbWrite_vaulting (hsup : s.domOn .sup = true) (hv : s.vaulting = true) (pec : Bool) (k : State → State) :
    s.smbWrite pec k = s.send .smbNak := State.smb_vaulting hsup hv _

theorem State.healthNow_of_run (hrun : s.InRun) : s.dropRequest.healthNow = s.healthVals := by
  refine (if_neg ?_).trans s.healthVals_dropRequest
  rw [State.get_dropRequest s (by decide), show s.get Reg.PWR_STATUS_STATE = pwrRun from hrun]
  decide

theorem State.out_miData (s : State) (b : List Byte) : (s.miData b).out = s.out ++ [.data .smbus b, .miResp 0 0 0] := by
  simp [State.miData, State.send]

theorem State.act_miData {x : State} (hx : x.ActFrame s [] []) (b : List Byte) : (x.miData b).ActFrame s [] [] :=
  ⟨.send (.send hx.1), hx.2⟩

end

end Sys2Proof.Machine
end

section
/-! SUPPORT. A read and a plain write of a 32-bit register, by any requester (R9, R513, R515). -/

namespace Sys2Proof.Machine

section
variable {s : State} {r : Requester} {o w : Nat} {b : Block} {row : RegRow}

theorem State.get_foldl_clearRc (fs : List Fld) (s : State) {g : Fld} (h : g.key ∉ (fs.filter (fun f => f.acc == .rc)).map Fld.key) :
    (fs.foldl (fun t f => if f.acc = .rc then t.put f 0 else t) s).get g = s.get g := by
  induction fs generalizing s with
  | nil => rfl
  | cons f fs ih =>
    rw [List.foldl_cons]
    by_cases hacc : f.acc = .rc
    · rw [List.filter_cons_of_pos (by simp [hacc]), List.map_cons, List.mem_cons, not_or] at h
      rw [ih _ h.2, if_pos hacc, State.get_put_ne s 0 h.1]
    · rw [List.filter_cons_of_neg (by simp [hacc])] at h
      rw [ih _ h, if_neg hacc]

theorem frame_clearRc (s : State) (row : RegRow) : (s.clearRc row).Frame s [] (row.flds.filter (fun f => f.acc == .rc)) := by
  obtain ⟨m, hm⟩ := clearRc_regs_only s row
  rw [hm]
  exact frame_of_regs s m [] _ fun g _ hg => hm ▸ State.get_foldl_clearRc row.flds s hg

/-- A read of a 32-bit register gives its word; only RC fields change. -/
theorem State.regRead_plain (hb : Block.ofOff o = some b) (hon : s.domOn b.domain = true) (hrow : regAt o = some (row, false))
    (hnarrow : row.wide = false) (r : Requester) : ∃ t, s.regRead r o = accOk t (s.wordOf row) ∧
      t.Frame s [] (row.flds.filter (fun f => f.acc == .rc)) ∧ t.out = s.out := by
  refine ⟨(s.noteAccess r row.off).clearRc row, ?_, ?_, ?_⟩
  · rw [State.regRead_of_on hb hon, State.readDword_narrow hrow hnarrow]
  · exact (frame_of_quiet (quiet_noteAccess s r row.off) _ _).trans (frame_clearRc _ row)
  · obtain ⟨m, hm⟩ := clearRc_regs_only (s.noteAccess r row.off) row
    rw [hm]
    rfl

theorem State.out_beforeFields (s : State) (r : Requester) (b : Block) (row : RegRow) (o w : Nat) :
    ∃ l, (s.beforeFields r b row o w).out = s.out ++ l := by
  have hcon : ∃ l, (s.noteConsole r b o w).out = s.out ++ l :=
    (Reported.ite (Reported.eventWith _ _ _ _ _ _) (Reported.refl s) : Reported (s.noteConsole r b o w) s).out
  have hev : ∃ l, (s.beforeFields r b row o w).out = ((s.noteConsole r b o w).noteAccess r row.off).out ++ l :=
    (Reported.ite (Reported.eventWith _ _ _ _ _ _) (Reported.refl _) :
      Reported (s.beforeFields r b row o w) ((s.noteConsole r b o w).noteAccess r row.off)).out
  obtain ⟨l, hl⟩ := hcon
  obtain ⟨m, hm⟩ := hev
  exact ⟨l ++ m, by rw [hm, show ((s.noteConsole r b o w).noteAccess r row.off).out = _ from hl, List.append_assoc]⟩

/-- A write of a register that starts nothing: its RW fields take the word, its other fields alone may change. -/
theorem State.regWrite_plain (hw : s.Writes r o w) (hrow : regAt o = some (row, false)) (hnd : (row.flds.map Fld.key).Nodup)
    (ho : o ∉ actingOffsets) : ∃ t, s.regWrite r o w = accOk t 0 ∧ t.Frame s [] row.flds ∧
      (∀ f ∈ row.flds, f.acc = .rw → t.get f = f.of w) ∧ ∃ l, t.out = s.out ++ l := by
  obtain ⟨-, -, ⟨b, hb, hon⟩, hmay, row', hrow', hnarrow, hclean⟩ := hw
  obtain rfl : row' = row := by simpa [hrow'] using hrow
  refine ⟨_, State.regWrite_inert hb hon hmay hrow' hnarrow hclean ho, ?_, fun f hf hacc => ?_, ?_⟩
  · exact (frame_of_quiet (quiet_beforeFields s r b row' o w) _ _).trans (frame_foldl_fldWrite row'.flds w _)
  · have hne : f ≠ Reg.ECH_CTRL_MVIEW_EN := fun he => ho (by rw [← fld_off_of_regAt hrow' hf, he]; decide)
    exact get_foldl_fldWrite_rw hnd _ _ hf hacc hne
  · obtain ⟨m, hm⟩ := foldl_fldWrite_regs_only row'.flds w (s.beforeFields r b row' o w)
    rw [hm]
    exact s.out_beforeFields r b row' o w

end

end Sys2Proof.Machine
end

section
/-! PROOF. -/

open Sys2Proof Sys2Proof.Machine

/-- Settles O59: an endpoint or console that serves runs the command's own continuation, whose effect is read off. -/
theorem management : Obligations.Management := by
  refine ⟨fun eid s hrun hsup hctrl hv => ?_, fun dtyp ctrl s ⟨hrun, hsup, hctrl, hv, he⟩ => ?_,
    fun clear s ⟨hrun, hsup, hctrl, hv, he⟩ => ?_, fun p s ⟨hrun, hsup, hctrl, hv, he⟩ hp => ?_,
    fun cid v s ⟨hrun, hsup, hctrl, hv, he⟩ hc => ?_, fun cid s ⟨hrun, hsup, hctrl, hv, he⟩ hc => ?_,
    fun v s ⟨hrun, hsup, hctrl, hv, he⟩ hlo hhi => ?_, fun v s ⟨hrun, hsup, hctrl, hv, he⟩ hr => ?_,
    fun s hrun hsup hctrl hv => ?_, fun s hdeep hsup hv => ?_, fun s cid addr w b pec hsup hv c hc => ?_,
    fun addr pec s hsup hv hp => ?_, fun b pec s hsup hv hp => ?_, fun s hsup hv => ?_, fun s hsup hv => ?_, fun s => ?_,
    fun s hctrl hv => ?_, fun n s hctrl hv hlo hhi => ?_, fun n s hctrl hv hr => ?_, fun s hctrl hv => ?_, fun s hctrl hv => ?_,
    fun s hctrl hv => ?_, fun o n w s hv c hc => ?_, fun o row b s hctrl hv hrange hb hon hrow hnarrow => ?_,
    fun o w row s hw hrange hrow hnd _ ho => ?_, fun o w b s hctrl hv hrange hb hon hlock => ?_⟩
  · have heq := State.mi_run hrun hsup hctrl hv (mctp := false) (.inl rfl) (.mctpControl eid) false
      (fun t => (t.setSmb (fun b => { b with eid := eid % 256 })).send (.smb (natLe eid 1)))
    refine runs_of_effect (congrArg (done s) heq) ⟨rfl, rfl, ?_⟩ fun u q ⟨h1, h2, hf, hp⟩ => ⟨h1, h2, hf.finish q, hp⟩
    exact ⟨.send ((frame_dropRequest s).trans (frame_of_quiet (quiet_setSmb _ _) _ _)), rfl⟩
  · have heq := State.mi_run hrun hsup hctrl hv (mctp := true) (.inr he) (.readNvmeMiDataStructure dtyp ctrl) false
      (fun t => (t.fresh 256).2.miData (natLe (t.fresh 256).1 32))
    refine runs_of_effect (congrArg (done s) heq) ⟨_, State.out_miData _ _, length_natLe _ _, State.act_miData ?_ _⟩
      fun u q ⟨b, h1, h2, hf, hp⟩ => ⟨b, h1, h2, hf.finish q, hp⟩
    exact ⟨.fresh (frame_dropRequest s), rfl⟩
  · have heq := State.mi_run hrun hsup hctrl hv (mctp := true) (.inr he) (.subsystemHealthStatusPoll clear) true State.subsysHealth
    refine runs_of_effect (congrArg (done s) heq) ⟨(s.dropRequest.fresh 16).1, ?_, State.act_miData ?_ _⟩
      fun u q ⟨x, h1, hf, hp⟩ => ⟨x, h1, hf.finish q, hp⟩
    · exact (State.out_miData _ _).trans (by rw [State.healthNow_of_run hrun]; rfl)
    · exact ⟨.fresh (frame_dropRequest s), rfl⟩
  · have heq := State.mi_run hrun hsup hctrl hv (mctp := true) (.inr he) (.controllerHealthStatusPoll p) false
      (fun t => if t.portExists p then t.ctrlHealth p else t.miRefuse)
    have hp' : s.dropRequest.portExists p = true := by
      rw [← hp]
      simp (disch := decide) [State.portExists, State.x8]
    have hgo := heq.trans (if_pos hp')
    refine runs_of_effect (congrArg (done s) hgo) ⟨(s.dropRequest.fresh 16).1, ?_, State.act_miData ?_ _⟩
      fun u q ⟨x, h1, hf, hp⟩ => ⟨x, h1, hf.finish q, hp⟩
    · refine (State.out_miData _ _).trans ?_
      rw [State.warnBits_dropRequest, State.pctUsed_dropRequest, State.sparePct_dropRequest, State.kelvin, State.tj_dropRequest,
        State.csts, State.nvme_dropRequest]
      rfl
    · exact ⟨.fresh (frame_dropRequest s), rfl⟩
  · have heq := State.mi_run hrun hsup hctrl hv (mctp := true) (.inr he) (.configurationGet cid) false (fun t =>
      match t.miConfig cid with
      | some v => t.send (.miResp 0 0 v)
      | none => t.miRefuse)
    have hc' : s.dropRequest.miConfig cid = some v := hc
    rw [hc'] at heq
    exact runs_of_effect (congrArg (done s) heq) ⟨rfl, .send (frame_dropRequest s), rfl⟩ fun u q ⟨h1, hf, hp⟩ => ⟨h1, hf.finish q, hp⟩
  · have heq := State.mi_run hrun hsup hctrl hv (mctp := true) (.inr he) (.configurationGet cid) false (fun t =>
      match t.miConfig cid with
      | some v => t.send (.miResp 0 0 v)
      | none => t.miRefuse)
    have hc' : s.dropRequest.miConfig cid = none := hc
    rw [hc'] at heq
    exact runs_of_effect (congrArg (done s) heq) ⟨rfl, .send (frame_dropRequest s), rfl⟩ fun u q ⟨h1, hf, hp⟩ => ⟨h1, hf.finish q, hp⟩
  · have heq := State.mi_run hrun hsup hctrl hv (mctp := true) (.inr he) (.configurationSet 3 v) false (fun t => t.miSet 3 v)
    have hset : s.dropRequest.miSet 3 v = (s.dropRequest.setSmb (fun b => { b with mtu := v })).send (.miResp 0 0 0) :=
      (if_neg fun h => absurd h.1 (by decide)).trans (if_pos ⟨rfl, hlo, hhi⟩)
    refine runs_of_effect (congrArg (done s) (heq.trans hset)) ⟨rfl, rfl, ?_, rfl⟩ fun u q ⟨h1, h2, hf, hp⟩ => ⟨h1, h2, hf.finish q, hp⟩
    exact .send ((frame_dropRequest s).trans (frame_of_quiet (quiet_setSmb _ _) _ _))
  · have heq := State.mi_run hrun hsup hctrl hv (mctp := true) (.inr he) (.configurationSet 3 v) false (fun t => t.miSet 3 v)
    have hset : s.dropRequest.miSet 3 v = s.dropRequest.miRefuse := (if_neg fun h => absurd h.1 (by decide)).trans (if_neg (by omega))
    exact runs_of_effect (congrArg (done s) (heq.trans hset)) ⟨rfl, rfl, .send (frame_dropRequest s), rfl⟩
      fun u q ⟨h1, h2, hf, hp⟩ => ⟨h1, h2, hf.finish q, hp⟩
  · have heq := State.mi_run hrun hsup hctrl hv (mctp := false) (.inl rfl) .basicManagementCommand true State.basicHealth
    refine runs_of_effect (congrArg (done s) heq) ⟨?_, .send (frame_dropRequest s), rfl⟩ fun u q ⟨h1, hf, hp⟩ => ⟨h1, hf.finish q, hp⟩
    unfold State.basicHealth
    rw [State.healthNow_of_run hrun]
    rfl
  · have hk : s.mi .basicManagementCommand false true State.basicHealth = s.basicHealth := by
      unfold State.mi
      rw [hsup, hv, hdeep]
      rfl
    have hnow : s.healthNow = s.host.smb.heldHealth := if_pos hdeep
    refine runs_of_effect (congrArg (done s) hk) ⟨rfl, .send (.refl _ _ _), ?_⟩ fun u q ⟨h1, hf, h2⟩ => ⟨h1, hf.finish q, h2⟩
    unfold State.basicHealth
    rw [hnow]
    rfl
  · have hnak : exec c s = done s (s.send .smbNak) := by
      simp only [List.mem_cons, List.not_mem_nil, or_false] at hc
      rcases hc with rfl | rfl | rfl | rfl | rfl | rfl | rfl | rfl | rfl
      · exact congrArg (done s) (State.smbWrite_vaulting hsup hv _ _)
      · exact congrArg (done s) (State.smb_vaulting hsup hv _)
      · exact congrArg (done s) (State.smbWrite_vaulting hsup hv _ _)
      · exact congrArg (done s) (State.smb_vaulting hsup hv _)
      · exact congrArg (done s) (State.smb_vaulting hsup hv _)
      · exact congrArg (done s) (State.smbWrite_vaulting hsup hv _ _)
      · exact congrArg (done s) (State.smb_vaulting hsup hv _)
      · exact congrArg (done s) (State.mi_vaulting hsup hv _ _ _ _)
      · exact congrArg (done s) (State.mi_vaulting hsup hv _ _ _ _)
    exact runs_of_effect hnak ⟨rfl, rfl, rfl, .send (.refl _ _ _)⟩ fun u q ⟨h1, h2, h3, hf⟩ => ⟨h1, h2, h3, hf.finish q⟩
  · have hk := State.smbWrite_accepted hsup hv hp (fun t => t.setSmb (fun b => { b with addr := addr.toNat }))
    exact runs_of_effect (congrArg (done s) hk) ⟨rfl, frame_of_quiet ((quiet_pecTaken s).trans (quiet_setSmb _ _)) _ _⟩
      fun u q ⟨h1, hf⟩ => ⟨h1, hf.finish q⟩
  · have hk := State.smbWrite_accepted hsup hv hp (fun t => t.setSmb (fun m => { m with autoInc := b.getLsbD 0, pecReq := b.getLsbD 1 }))
    exact runs_of_effect (congrArg (done s) hk) ⟨rfl, frame_of_quiet ((quiet_pecTaken s).trans (quiet_setSmb _ _)) _ _⟩
      fun u q ⟨h1, hf⟩ => ⟨h1, hf.finish q⟩
  · exact runs_of_effect (congrArg (done s) (State.smb_of_on hsup hv _)) ⟨rfl, .send (.refl _ _ _)⟩
      fun u q ⟨h1, hf⟩ => ⟨h1, hf.finish q⟩
  · exact runs_of_effect (congrArg (done s) (State.smb_of_on hsup hv _)) ⟨rfl, .send (.refl _ _ _)⟩
      fun u q ⟨h1, hf⟩ => ⟨h1, hf.finish q⟩
  · exact runs_of_effect (t := s) rfl ⟨rfl, rfl, rfl, .refl _ _ _⟩ fun u q ⟨h1, h2, h3, hf⟩ => ⟨h1, h2, h3, hf.finish q⟩
  · have hk : s.uart State.uartStatus = s.send _ := (State.uart_on hctrl hv _).trans (State.console_sends hctrl hv _)
    exact runs_of_effect (congrArg (done s) hk) ⟨.send (.refl _ _ _), rfl⟩ fun u q ⟨hf, h1⟩ => ⟨hf.finish q, h1⟩
  · have hk : s.uart (fun t => if 1 ≤ n ∧ n ≤ 64 then t.uartEvents n else t.uartError) = { s with out := _ } :=
      (State.uart_on hctrl hv _).trans ((if_pos ⟨hlo, hhi⟩).trans (State.foldl_console _ _ hctrl hv))
    refine runs_of_effect (congrArg (done s) hk) ⟨rfl, ?_⟩ fun u q ⟨h1, hf⟩ => ⟨h1, hf.finish q⟩
    exact frame_of_quiet ⟨rfl, rfl, rfl, rfl, rfl, rfl, rfl, rfl, rfl, rfl, rfl, rfl, rfl, rfl, rfl, rfl, rfl, rfl, fun _ _ => rfl,
      fun p => by cases p <;> rfl⟩ _ _
  · have hk : s.uart (fun t => if 1 ≤ n ∧ n ≤ 64 then t.uartEvents n else t.uartError) = s.send (.uart [7]) :=
      (State.uart_on hctrl hv _).trans ((if_neg (by omega)).trans (State.console_sends hctrl hv _))
    exact runs_of_effect (congrArg (done s) hk) ⟨rfl, .send (.refl _ _ _)⟩ fun u q ⟨h1, hf⟩ => ⟨h1, hf.finish q⟩
  · have hk : s.uart State.uartFf = s.send (.uart (match s.rails.ffQueue.reverse ++ s.ffList with
        | r :: _ => 3 :: r.words
        | [] => [3])) := by
      refine (State.uart_on hctrl hv _).trans ?_
      unfold State.uartFf
      generalize s.rails.ffQueue.reverse ++ s.ffList = l
      cases l with
      | nil => exact State.console_sends hctrl hv _
      | cons r l => exact State.console_sends hctrl hv _
    exact runs_of_effect (congrArg (done s) hk) ⟨.send (.refl _ _ _), rfl⟩ fun u q ⟨hf, h1⟩ => ⟨hf.finish q, h1⟩
  · have hk : s.uart (fun t => t.console [6]) = s.send (.uart [6]) := (State.uart_on hctrl hv _).trans (State.console_sends hctrl hv _)
    exact runs_of_effect (congrArg (done s) hk) ⟨rfl, rfl, .send (.refl _ _ _)⟩ fun u q ⟨h1, h2, hf⟩ => ⟨h1, h2, hf.finish q⟩
  · have hk : s.uart State.uartError = s.send (.uart [7]) := (State.uart_on hctrl hv _).trans (State.console_sends hctrl hv _)
    exact runs_of_effect (congrArg (done s) hk) ⟨rfl, rfl, rfl, .send (.refl _ _ _)⟩
      fun u q ⟨h1, h2, h3, hf⟩ => ⟨h1, h2, h3, hf.finish q⟩
  · have hno : exec c s = done s s := by
      simp only [List.mem_cons, List.not_mem_nil, or_false] at hc
      rcases hc with rfl | rfl | rfl | rfl | rfl | rfl | rfl <;> exact congrArg (done s) (State.uart_vaulting hv _)
    exact runs_of_effect hno ⟨rfl, rfl, rfl, .refl _ _ _⟩ fun u q ⟨h1, h2, h3, hf⟩ => ⟨h1, h2, h3, hf.finish q⟩
  · have hread : s.regRead .uart o = accOk ((s.noteAccess .uart row.off).clearRc row) (s.wordOf row) := by
      rw [State.regRead_of_on hb hon, State.readDword_narrow hrow hnarrow]
    obtain ⟨m, hm⟩ := clearRc_regs_only (s.noteAccess .uart row.off) row
    have hk : s.uart (fun t => t.uartRead o) = ((s.noteAccess .uart row.off).clearRc row).send (.uart [4, o, s.wordOf row]) := by
      refine (State.uart_on hctrl hv _).trans ((if_neg (by rw [hrange]; decide)).trans ?_)
      rw [hread, hm]
      exact State.console_sends (s := { s.noteAccess .uart row.off with regs := m }) hctrl hv _
    refine runs_of_effect (congrArg (done s) hk) ⟨?_, .send ?_⟩ fun u q ⟨h1, hf⟩ => ⟨h1, hf.finish q⟩
    · rw [hm]
      rfl
    · exact (frame_of_quiet (quiet_noteAccess s .uart row.off) _ _).trans (frame_clearRc _ row)
  · obtain ⟨hctrl, hv⟩ : s.domOn .ctrl = true ∧ s.vaulting = false := by simpa [State.reaches] using hw.1
    obtain ⟨t, heq, hf, hrw, l, hl⟩ := State.regWrite_plain hw hrow hnd ho
    have hdom : t.domOn .ctrl = true := (State.domOn_congr hf.samePwr .ctrl).trans hctrl
    have hvt : t.vaulting = false := (State.vaulting_congr hf.sameVlt).trans hv
    have hk : s.uart (fun t => t.uartWrite o w.toNat) = t.send (.uart [5, o, t.peek o]) := by
      refine (State.uart_on hctrl hv _).trans ((if_neg (by rw [hrange]; decide)).trans ?_)
      rw [heq]
      exact State.console_sends hdom hvt _
    refine runs_of_effect (congrArg (done s) hk) ⟨.send hf, hrw, t.peek o, l ++ [.uart [5, o, t.peek o]], ?_, by simp⟩
      fun u q ⟨hf, h1, h2⟩ => ⟨hf.finish q, h1, h2⟩
    rw [← List.append_assoc, ← hl]
    rfl
  · have hmay : s.mayWrite .uart o w.toNat = false := if_pos ⟨rfl, hlock⟩
    have hq := (quiet_noteAccess s .uart o).trans (quiet_accEvent _ .uart b.source 0x3003 3 o w.toNat)
    obtain ⟨l, hl⟩ : ∃ l, (((s.noteAccess .uart o).accEvent b.source 0x3003 3 o w.toNat .uart).out = s.out ++ l) :=
      (Reported.eventWith (s.noteAccess .uart o) _ _ _ _ _).out
    have hk : s.uart (fun t => t.uartWrite o w.toNat) =
        ((s.noteAccess .uart o).accEvent b.source 0x3003 3 o w.toNat .uart).send (.uart [7]) := by
      refine (State.uart_on hctrl hv _).trans ((if_neg (by rw [hrange]; decide)).trans ?_)
      rw [State.regWrite_of_refused hb hon hmay]
      have hf := frame_of_quiet hq [] []
      refine State.console_sends ?_ ?_ _
      · exact (State.domOn_congr hf.samePwr .ctrl).trans hctrl
      · exact (State.vaulting_congr hf.sameVlt).trans hv
    refine runs_of_effect (congrArg (done s) hk) ⟨⟨l ++ [.uart [7]], ?_, by simp⟩, .send (frame_of_quiet hq _ _)⟩
      fun u q ⟨h1, hf⟩ => ⟨h1, hf.finish q⟩
    rw [← List.append_assoc, ← hl]
    rfl

end

section
/-! SUPPORT. Admin commands that are taken at once, and their answers (R478, R479, R506). -/

namespace Sys2Proof.Machine

section
variable {s t u : State} {p : Port} {id : CmdId} {st : NStat} {d : Nat} {req : AdminReq} {o : Out}

/-- What was sent out stands in front of whatever follows it. -/
theorem State.Sent.from (h : u.Sent t o) (hg : ∃ l, t.out = s.out ++ l) : u.Sent s o := by
  obtain ⟨l, hl⟩ := hg
  obtain ⟨m, hm, ho⟩ := h
  exact ⟨l ++ m, by rw [hm, hl, List.append_assoc], List.mem_append_right l ho⟩

theorem State.Sent.keep (h : t.Sent s o) (hg : ∃ l, u.out = t.out ++ l) : u.Sent s o := by
  obtain ⟨l, hl⟩ := h
  obtain ⟨m, hm⟩ := hg
  exact ⟨l ++ m, by rw [hm, hl.1, List.append_assoc], List.mem_append_left m hl.2⟩

theorem State.sent_send (s : State) (o : Out) : (s.send o).Sent s o := ⟨[o], rfl, List.mem_singleton.2 rfl⟩

theorem State.Answers.from (h : u.Answers t req id st d) (hg : ∃ l, t.out = s.out ++ l) : u.Answers s req id st d := by
  cases req with
  | host p =>
    obtain ⟨q, ph, hs⟩ := h
    exact ⟨q, ph, hs.from hg⟩
  | mi p => exact State.Sent.from h hg

theorem State.Answers.keep (h : t.Answers s req id st d) (hg : ∃ l, u.out = t.out ++ l) : u.Answers s req id st d := by
  cases req with
  | host p =>
    obtain ⟨q, ph, hs⟩ := h
    exact ⟨q, ph, hs.keep hg⟩
  | mi p => exact State.Sent.keep h hg

theorem State.nvme_send (s : State) (o : Out) (p : Port) : (s.send o).nvme p = s.nvme p := by
  cases p
  · rfl
  · rfl

theorem State.nvme_msixOn (s : State) (p : Port) (v : Nat) : (s.msixOn p v).nvme p = s.nvme p := by
  unfold State.msixOn
  dsimp only
  split
  · split
    · exact s.nvme_send _ p
    · cases p
      · rfl
      · rfl
  · rfl

/-- A command whose completion queue stands gets its completion queue entry. -/
theorem State.cqePost_sends (h : (s.nvme p).hasCq id.sq = true) (st : NStat) (d : Nat) :
    ∃ q ph, (s.cqePost p id st d).Sent s (.cqe p q id st.sct st.sc d ph) := by
  obtain ⟨c, hc⟩ := Option.isSome_iff_exists.1 h
  unfold State.cqePost
  dsimp only
  generalize ((mget (s.nvme p).sqs id.sq).map (fun q => q.cq)).getD 0 = q at hc
  rw [hc]
  dsimp only
  generalize hs1 : s.setNvme p _ = s1
  have ho1 : s1.out = s.out := by rw [← hs1, State.setNvme_out]
  generalize hs2 : (if st = stOk then s1 else _ : State) = s2
  have ho2 : s2.out = s.out := by
    rw [← hs2]
    split
    · exact ho1
    · exact ho1
  refine ⟨q, c.phase, ?_⟩
  have hsent := (s2.sent_send (.cqe p q id st.sct st.sc d c.phase)).from
    (s := s) ⟨[], by rw [ho2, List.append_nil]⟩
  split
  · exact hsent.keep (Reported.msixOn _ p _).out
  · exact hsent

/-- A completion changes only the command's own bookkeeping and the completion queue it takes. -/
theorem State.nvme_cqePost (s : State) (p : Port) (id : CmdId) (st : NStat) (d : Nat) :
    ∃ os c e, (s.cqePost p id st d).nvme p = { s.nvme p with outs := os, cqs := c, errs := e } ∧
      ∀ k, k ≠ ((mget (s.nvme p).sqs id.sq).map (fun q => q.cq)).getD 0 → mget c k = mget (s.nvme p).cqs k := by
  unfold State.cqePost
  dsimp only
  generalize hq : ((mget (s.nvme p).sqs id.sq).map (fun q => q.cq)).getD 0 = q
  split
  · exact ⟨_, _, _, State.nvme_setNvme s p _, fun _ _ => rfl⟩
  next c hc =>
    generalize hs1 : s.setNvme p _ = s1
    have hn1 := (congrArg (fun t => t.nvme p) hs1).symm.trans (State.nvme_setNvme s p _)
    generalize hs2 : (if st = stOk then s1 else _ : State) = s2
    have hn2 : s2.nvme p = s1.nvme p := by
      rw [← hs2]
      split
      · rfl
      · cases p
        · rfl
        · rfl
    refine ⟨_, _, _, Eq.trans (b := s2.nvme p) ?_ (hn2.trans hn1), fun k hk => mget_mset_ne _ _ hk⟩
    split
    · rw [State.nvme_msixOn, State.nvme_send]
    · rw [State.nvme_send]

/-- An answer can reach the sender: a controller's admin completion queue stands. -/
def State.Hears (s : State) (req : AdminReq) : Prop :=
  match req with
  | .host p => (s.nvme p).hasCq 0 = true
  | .mi _ => True

theorem State.Tells.hears (h : s.Tells t) (hs : s.Hears req) : t.Hears req := by
  cases req with
  | host p =>
    have hsqs : (t.nvme p).sqs = (s.nvme p).sqs := (congrArg Nvme.sqs (h.nvme_lasting p) :)
    have hcq : (t.nvme p).hasCq 0 = (s.nvme p).hasCq 0 := by
      rw [Nvme.hasCq, hsqs]
      exact h.2.2 p _
    exact hcq.trans hs
  | mi p => trivial

theorem State.TakesAdmin.hears (h : s.TakesAdmin req) : s.dropRequest.Hears req := by
  obtain ⟨-, -, -, -, -, hreq⟩ := h
  cases req with
  | host p =>
    obtain ⟨-, -, -, hcq⟩ := hreq
    rw [State.Hears, State.nvme_dropRequest]
    exact hcq
  | mi p => trivial

/-- An admin command's answer. -/
theorem State.adminDone_answers (h : s.Hears req) (id : CmdId) (st : NStat) (d : Nat) :
    (s.adminDone req id st d).Answers s req id st d := by
  cases req with
  | host p => exact State.cqePost_sends (id := { id with sq := 0 }) h st d
  | mi p => exact s.sent_send _

theorem State.grows_adminDone (s : State) (req : AdminReq) (id : CmdId) (st : NStat) (d : Nat) :
    ∃ l, (s.adminDone req id st d).out = s.out ++ l := by
  cases req with
  | host p => exact (Reported.cqePost s p _ st d).out
  | mi p => exact ⟨_, rfl⟩

theorem State.act_adminDone {x : State} (h : x.ActFrame s [] []) : (x.adminDone req id st d).ActFrame s [] [] := by
  have hf := frame_adminDone x req id st d
  exact ⟨.next h.1 hf, hf.samePwr.trans h.2⟩

/-- An answer leaves what a controller has beside its queues' bookkeeping. -/
theorem State.nvme_adminDone (s : State) (p : Port) (id : CmdId) (st : NStat) (d : Nat) :
    ∃ os c e, (s.adminDone (.host p) id st d).nvme p = { s.nvme p with outs := os, cqs := c, errs := e } ∧
      ∀ k, k ≠ ((mget (s.nvme p).sqs 0).map (fun q => q.cq)).getD 0 → mget c k = mget (s.nvme p).cqs k := s.nvme_cqePost p { id with sq := 0 } st d

theorem tells_adminDone (s : State) (req : AdminReq) (id : CmdId) (st : NStat) (d : Nat) : s.Tells (s.adminDone req id st d) := by
  cases req with
  | host p => exact tells_cqePost s p _ st d
  | mi p => exact tells_send s _

/-- A command that did its work and answers. -/
theorem State.answered {x : State} (hx : x.ActFrame s [] []) (hh : x.Hears req) (hg : ∃ l, x.out = s.out ++ l) (id : CmdId) (st : NStat)
    (d : Nat) : (x.adminDone req id st d).Answers s req id st d ∧ (x.adminDone req id st d).ActFrame s [] [] :=
  ⟨(State.adminDone_answers hh id st d).from hg, State.act_adminDone hx⟩

/-- A command that changes nothing and answers. -/
theorem State.TakesAdmin.answered (h : s.TakesAdmin req) (id : CmdId) (st : NStat) (d : Nat) :
    (s.dropRequest.adminDone req id st d).Answers s req id st d ∧ (s.dropRequest.adminDone req id st d).ActFrame s [] [] :=
  State.answered s.act_dropRequest h.hears ⟨[], (List.append_nil _).symm⟩ id st d

/-- A controller's part is written. -/
theorem State.act_setNvme (s : State) (p : Port) (n : Nvme) : (s.dropRequest.setNvme p n).ActFrame s [] [] :=
  ⟨.next (frame_dropRequest s) (frame_setNvme _ p n), State.setNvme_pwr _ p n⟩

theorem State.grows_setNvme (s : State) (p : Port) (n : Nvme) : ∃ l, (s.dropRequest.setNvme p n).out = s.out ++ l :=
  ⟨[], (State.setNvme_out _ p n).trans (List.append_nil _).symm⟩

/-- Reading the SMART page ends the masking of its asynchronous event (R503). -/
theorem State.logRead_smart (s : State) (req : AdminReq) (off : Nat) (rae : Bool) : s.logRead req 0x02 off rae = s ∨
    ∃ p m, s.logRead req 0x02 off rae = s.setNvme p { s.nvme p with masked := m } := by
  cases req with
  | host p =>
    cases rae
    · exact .inr ⟨p, _, rfl⟩
    · exact .inl rfl
  | mi p => exact .inl rfl

theorem tells_logRead (s : State) (req : AdminReq) (off : Nat) (rae : Bool) : s.Tells (s.logRead req 0x02 off rae) := by
  obtain h | ⟨p, m, h⟩ := s.logRead_smart req off rae
  · rw [h]
    exact .refl s
  · exact h ▸ tells_setNvme s p rfl fun _ => rfl

theorem frame_logRead_smart (s : State) (req : AdminReq) (off : Nat) (rae : Bool) : (s.logRead req 0x02 off rae).Frame s [] [] := by
  obtain h | ⟨p, m, h⟩ := s.logRead_smart req off rae
  · rw [h]
    exact .refl _ _ _
  · exact h ▸ frame_setNvme s p _

/-- The running device takes an admin command of this sender at once, after dropping a request for sleep (R380). -/
theorem State.admin_run (h : s.TakesAdmin req) (c : Instr) (id : CmdId) (kind : AdmKind) (bare : Bool) (k : State → State) :
    s.admin c req id kind bare k = k s.dropRequest := by
  obtain ⟨hrun, hctrl, hno, hwait, hdef, hreq⟩ := h
  have htake : s.dropRequest.adminTake c req id kind bare k = k s.dropRequest := by
    have hon : s.dropRequest.domOn .ctrl = true := hctrl
    have himg : s.dropRequest.flag Reg.SYS_STATUS_NO_IMAGE = false := by rw [State.flag_dropRequest s (by decide), hno]
    have hw : s.dropRequest.host.waiting = [] := hwait
    have hd : s.dropRequest.deferred = [] := hdef
    unfold State.adminTake
    rw [hon, himg, hw, hd]
    simp
  cases req with
  | host p =>
    obtain ⟨hlive, hen, hcfs, -⟩ := hreq
    unfold State.admin
    dsimp only
    rw [hlive, hen, hcfs, State.touch_run hrun (by decide)]
    exact htake
  | mi p =>
    obtain ⟨hsup, hv, heid, hport⟩ := hreq
    unfold State.admin
    dsimp only
    rw [hsup, hv, if_neg (by decide), if_neg (by decide), if_neg heid, hport, State.touch_run hrun (by decide)]
    exact htake


/-- The running device takes an I/O command at once. -/
theorem State.io_run (h : s.TakesIo p id) (c : Instr) (k : State → State × NStat) :
    s.ioRun c p id k = (k s.dropRequest).1.cqePost p id (k s.dropRequest).2 0 := by
  obtain ⟨hrun, hctrl, hlive, hen, hcfs, hshn, hv, -⟩ := h
  have hon : s.dropRequest.domOn .ctrl = true := hctrl
  unfold State.ioRun
  dsimp only
  rw [hlive, hen, hcfs, hshn, hv, State.touch_run hrun (by decide), hon]
  rfl

/-! ## Features, formats and pages after a dropped request -/

theorem State.formatBar_dropRequest (s : State) (nsid lbaf ses : Nat) : s.dropRequest.formatBar nsid lbaf ses = s.formatBar nsid lbaf ses := by
  rw [State.formatBar, State.flag_dropRequest s (by decide), State.flag_dropRequest s (by decide)]
  rfl

/-- Only reports were made, and of the Ledger only its blocks were written (R203). -/
def State.ErasedOnly (s t : State) : Prop := s.Tells t ∧ t.grt.ledger.keyGen = s.grt.ledger.keyGen ∧ t.cache = s.cache

theorem State.ErasedOnly.trans {s t u : State} (h : s.ErasedOnly t) (k : t.ErasedOnly u) : s.ErasedOnly u :=
  ⟨h.1.trans k.1, k.2.1.trans h.2.1, k.2.2.trans h.2.2⟩

theorem State.ErasedOnly.refl (s : State) : s.ErasedOnly s := ⟨.refl s, rfl, rfl⟩

theorem State.ErasedOnly.foldl {α : Type} {f : State → α → State} (hf : ∀ (t : State) x, t.ErasedOnly (f t x)) (l : List α) (s : State) :
    s.ErasedOnly (l.foldl f s) := by
  induction l generalizing s with
  | nil => exact .refl s
  | cons x l ih => exact (hf s x).trans (ih _)

theorem State.erasedOnly_leaveReturn (s : State) (i : Nat) : s.ErasedOnly (s.leaveReturn i) := ⟨.same rfl rfl, rfl, rfl⟩

theorem State.erasedOnly_leaveRequest (s : State) (op : LeaveOp) : s.ErasedOnly (s.leaveRequest op).1 :=
  ⟨tells_leaveRequest s op, by rw [(frame_leaveRequest s op).sameGrt], (frame_leaveRequest s op).sameCache⟩

theorem State.erasedOnly_underLeave (s : State) (op : LeaveOp) {k : State → State} (hk : ∀ t : State, t.ErasedOnly (k t)) :
    s.ErasedOnly (s.underLeave op k).1 := by
  unfold State.underLeave
  dsimp only
  split
  · exact s.erasedOnly_leaveRequest op
  · exact ((s.erasedOnly_leaveRequest op).trans (hk _)).trans (State.erasedOnly_leaveReturn _ _)

theorem State.erasedOnly_ledgerErase (s : State) : s.ErasedOnly s.ledgerErase := by
  unfold State.ledgerErase
  refine .foldl (fun t lun => t.erasedOnly_underLeave _ fun w => ?_) _ s
  refine .foldl (fun u b => ?_) _ w
  dsimp only
  split
  · exact .refl u
  · exact ⟨.same rfl rfl, rfl, rfl⟩

/-- What a format makes of the Ledger (R203). -/
theorem State.ledgerSetup_facts (s : State) (lbaf : Nat) : s.Tells (s.ledgerSetup lbaf) ∧ (s.ledgerSetup lbaf).cache = s.cache ∧
    (s.ledgerSetup lbaf).grt.ledger.lbaf = lbaf ∧ (s.ledgerSetup lbaf).grt.ledger.blocks = [] ∧
    (s.ledgerSetup lbaf).grt.ledger.keyGen = s.grt.ledger.keyGen + 1 := by
  unfold State.ledgerSetup
  extract_lets n sp k _ _ _ s1 s2 none_
  have h2 : s.Tells s2 ∧ s2.cache = s.cache ∧ s2.grt.ledger.lbaf = lbaf ∧ s2.grt.ledger.blocks = [] ∧
      s2.grt.ledger.keyGen = s.grt.ledger.keyGen + 1 := ⟨.same rfl rfl, rfl, rfl, rfl, rfl⟩
  clear_value s2
  split
  · exact h2
  · obtain ⟨ht, hc, hl, hb, hg⟩ := h2
    have hflags : s2.Tells ((s2.putB Reg.GRT_LEDGER_WP none_).putB Reg.GRT_STATUS_LEDGER_WP none_) :=
      (tells_put s2 _ _).trans (tells_put _ _ _)
    refine ⟨(ht.trans hflags).trans (tells_syncWarn _), ?_⟩
    rw [State.syncWarn_cache, State.syncWarn_grt]
    exact ⟨hc, hl, hb, hg⟩

theorem State.ledgerFormat_facts (s : State) (lbaf : Nat) : s.Tells (s.ledgerFormat lbaf) ∧ (s.ledgerFormat lbaf).grt.ledger.lbaf = lbaf ∧
    (s.ledgerFormat lbaf).grt.ledger.blocks = [] ∧ (s.ledgerFormat lbaf).grt.ledger.keyGen = s.grt.ledger.keyGen + 1 ∧
    (s.ledgerFormat lbaf).cache = s.cache := by
  obtain ⟨ht, hg, hc⟩ := s.erasedOnly_ledgerErase
  obtain ⟨ht', hc', hl', hb', hg'⟩ := s.ledgerErase.ledgerSetup_facts lbaf
  exact ⟨ht.trans ht', hl', hb', by rw [State.ledgerFormat, hg', hg], hc'.trans hc⟩

theorem modTemp_key_ne (n : Nat) : (Reg.LAN_Mn_VT_TEMP n).key ≠ Reg.PWR_STATUS_RETRY.key := by
  simp only [Fld.key, Reg.LAN_Mn_VT_TEMP, Reg.PWR_STATUS_RETRY, fld, Fld.width]
  omega

/-- A view that the fuses give. -/
theorem State.view_uid (s : State) : s.view Reg.SYS_UID_UID_HASH =
    mgetD s.boot.fuses Reg.SYS_UID_UID_HASH.key (Config.fused Reg.SYS_UID_UID_HASH.key) % 2 ^ Reg.SYS_UID_UID_HASH.width := by
  have h : s.computed Reg.SYS_UID_UID_HASH =
      some (mgetD s.boot.fuses Reg.SYS_UID_UID_HASH.key (Config.fused Reg.SYS_UID_UID_HASH.key)) := by
    rw [State.computed]
    simp +decide [State.portBlank]
  rw [State.view, h]

theorem State.view_order (s : State) : s.view Reg.SYS_ID_ORDER =
    mgetD s.boot.fuses Reg.SYS_ID_ORDER.key (Config.fused Reg.SYS_ID_ORDER.key) % 2 ^ Reg.SYS_ID_ORDER.width := by
  have h : s.computed Reg.SYS_ID_ORDER = some (mgetD s.boot.fuses Reg.SYS_ID_ORDER.key (Config.fused Reg.SYS_ID_ORDER.key)) := by
    rw [State.computed]
    simp +decide [State.portBlank]
  rw [State.view, h]

theorem State.smartPage_dropRequest (s : State) : s.dropRequest.smartPage = s.smartPage := by
  have hsec : s.dropRequest.secs = s.secs := State.get_dropRequest s (by decide)
  have hpwr : s.dropRequest.get Reg.SYS_OPSEC_PWR_CYCLES = s.get Reg.SYS_OPSEC_PWR_CYCLES := State.get_dropRequest s (by decide)
  have hthr : s.dropRequest.spareThr = s.spareThr := rfl
  have hhot : s.dropRequest.hottest = s.hottest := by
    have hst (n : Nat) : s.dropRequest.modSt n = s.modSt n := State.get_dropRequest s (modState_key_ne n (by decide)).symm
    have htemp (n : Nat) : s.dropRequest.getI (Reg.LAN_Mn_VT_TEMP n) = s.getI (Reg.LAN_Mn_VT_TEMP n) := by
      rw [State.getI, State.get_dropRequest s (modTemp_key_ne n)]
      rfl
    simp [State.hottest, hst, htemp]
  unfold State.smartPage
  rw [State.warnBits_dropRequest, State.kelvin, State.tj_dropRequest, State.sparePct_dropRequest, hthr, State.pctUsed_dropRequest, hpwr,
    hsec, hhot]
  rfl

theorem State.identCtrl_dropRequest (s : State) (p : Port) : s.dropRequest.identCtrl p = s.identCtrl p := by
  have huid : s.dropRequest.view Reg.SYS_UID_UID_HASH = s.view Reg.SYS_UID_UID_HASH := by rw [State.view_uid, State.view_uid]; rfl
  have horder : s.dropRequest.view Reg.SYS_ID_ORDER = s.view Reg.SYS_ID_ORDER := by rw [State.view_order, State.view_order]; rfl
  have hpair : s.dropRequest.pair = s.pair := State.flag_dropRequest s (by decide)
  have hcap : s.dropRequest.capGiB = s.capGiB := State.get_dropRequest s (by decide)
  have hsize : s.dropRequest.pmrBytes = s.pmrBytes := by
    rw [State.pmrBytes, State.ownGrans, hpair, State.cacheGrans, hcap]
    rfl
  have hview : s.dropRequest.viewSize = s.viewSize := by
    rw [State.viewSize, hpair, hsize]
    rfl
  have hmodel : s.dropRequest.modelName = s.modelName := by
    rw [State.modelName, horder]
    rfl
  rw [State.identCtrl, huid, horder, hpair, hcap, hsize, hview, hmodel, State.get_dropRequest s (by decide),
    State.get_dropRequest s (by decide)]
  rfl

end

end Sys2Proof.Machine
end

section
/-! PROOF. -/

open Sys2Proof Sys2Proof.Machine

/-- Settles O57: a command taken at once works on the state without the dropped request, and its answer is read off. -/
theorem nvmeAdmin : Obligations.NvmeAdmin := by
  refine ⟨fun p id qid qsize base vec ien s h hlo hhi hfree hsz hsz' hvec => ?_, fun p id qsize base arg cq pc ien s h => ?_,
    fun p id qid q s h hlo hq => ?_, fun req id off len rae s h ha => ?_, fun req id lsp off len rae s h ha => ?_,
    fun req id nsid s h => ?_, fun p id target s h hin hsq => ?_, fun p id target s h hout => ?_, fun p id s h he hlen => ?_,
    fun p id d rest s h he => ?_, fun p id s h => ?_, fun req id fid arg s h hok => ?_, fun p id arg s h => ?_,
    fun p id fid arg s h hok => ?_, fun p id lbaf ses s h hbar => ?_, fun p id lbaf ses st s h hbar => ?_,
    fun req id s h hsq => ?_, fun p id s h hsq => ?_⟩
  · have hd := State.nvme_dropRequest s p
    have hmk : s.dropRequest.createQueue p true qid qsize base vec true ien = (s.dropRequest.setNvme p { s.nvme p with
        cqs := mset (s.nvme p).cqs qid ⟨base, qsize + 1, vec, ien, 0, 0, true⟩ }, stOk) := by
      unfold State.createQueue
      dsimp only
      rw [hd, if_pos rfl, hfree, if_neg (by simp [qidOk]; omega), if_neg (by omega), if_neg (by decide), if_pos rfl, if_neg (by omega)]
    have heq := State.admin_run h (.createIoQueue p id true qid qsize base vec true ien) id .std false (fun t =>
      let r := t.createQueue p true qid qsize base vec true ien
      r.1.adminDone (.host p) id r.2 0)
    rw [hmk] at heq
    generalize hx : s.dropRequest.setNvme p _ = x at heq
    have hn := (congrArg (fun t => t.nvme p) hx).symm.trans (State.nvme_setNvme _ p _)
    have hcq : (mget (s.nvme p).cqs (((mget (s.nvme p).sqs 0).map (fun q => q.cq)).getD 0)).isSome = true := h.2.2.2.2.2.2.2.2
    have hears : x.Hears (.host p) := by
      have hset (k : Nat) (hk : (mget (s.nvme p).cqs k).isSome = true) :
          (mget (mset (s.nvme p).cqs qid ⟨base, qsize + 1, vec, ien, 0, 0, true⟩) k).isSome = true := by
        by_cases hq : k = qid
        · rw [hq, mget_mset_same]
          rfl
        · rw [mget_mset_ne _ _ hq, hk]
      rw [State.Hears, hn]
      exact hset _ hcq
    obtain ⟨hans, hact⟩ := State.answered (hx ▸ s.act_setNvme p _) hears (hx ▸ s.grows_setNvme p _) id stOk 0
    refine runs_of_effect (congrArg (done s) heq) ⟨hans, ?_, hact⟩ fun u q ⟨h1, h2, hf, hp⟩ => ⟨h1, h2, hf.finish q, hp⟩
    obtain ⟨os, c, e, hn', hkeep⟩ := x.nvme_adminDone p id stOk 0
    have hne : qid ≠ ((mget (x.nvme p).sqs 0).map (fun q => q.cq)).getD 0 := by
      rw [hn]
      intro hq
      rw [← hq, hfree] at hcq
      exact absurd hcq (by decide)
    rw [hn']
    refine (hkeep qid hne).trans ?_
    rw [hn]
    exact mget_mset_same _ _ _
  · have hno : s.dropRequest.createQueue p cq 0 qsize base arg pc ien = (s.dropRequest, stInvalidQid) := by
      unfold State.createQueue
      dsimp only
      exact if_pos (by simp [qidOk])
    have heq := State.admin_run h (.createIoQueue p id cq 0 qsize base arg pc ien) id .std false (fun t =>
      let r := t.createQueue p cq 0 qsize base arg pc ien
      r.1.adminDone (.host p) id r.2 0)
    rw [hno] at heq
    obtain ⟨hans, hact⟩ := h.answered id stInvalidQid 0
    refine runs_of_effect (congrArg (done s) heq) ⟨hans, ?_, hact⟩ fun u q ⟨h1, h2, hf, hp⟩ => ⟨h1, h2, hf.finish q, hp⟩
    obtain ⟨os, c, e, hn, -⟩ := s.dropRequest.nvme_adminDone p id stInvalidQid 0
    rw [hn, State.nvme_dropRequest]
  · have hd := State.nvme_dropRequest s p
    have hdel : s.dropRequest.deleteQueue p false qid = (s.dropRequest.setNvme p { s.nvme p with
        sqs := mdel (s.nvme p).sqs qid, outs := (s.nvme p).outs.filter (fun o => o.id.sq != qid)
        fetches := (s.nvme p).fetches.filter (fun f => f.1 != qid) }, stOk) := by
      have hq0 : qid ≠ 0 := by omega
      unfold State.deleteQueue
      dsimp only
      rw [hd, if_neg (by decide), hq, if_neg (by simpa using hq0)]
    have heq := State.admin_run h (.deleteIoQueue p id false qid) id .std false (fun t =>
      let r := t.deleteQueue p false qid
      r.1.adminDone (.host p) id r.2 0)
    rw [hdel] at heq
    generalize hx : s.dropRequest.setNvme p _ = x at heq
    have hn := (congrArg (fun t => t.nvme p) hx).symm.trans (State.nvme_setNvme _ p _)
    have hears : x.Hears (.host p) := by
      have hcq : (s.nvme p).hasCq 0 = true := h.2.2.2.2.2.2.2.2
      rw [State.Hears, hn, Nvme.hasCq, mget_mdel_ne _ (by omega)]
      exact hcq
    obtain ⟨hans, hact⟩ := State.answered (hx ▸ s.act_setNvme p _) hears (hx ▸ s.grows_setNvme p _) id stOk 0
    refine runs_of_effect (congrArg (done s) heq) ⟨hans, ?_, hact⟩ fun u q ⟨h1, h2, hf, hp⟩ => ⟨h1, h2, hf.finish q, hp⟩
    obtain ⟨os, c, e, hn', -⟩ := x.nvme_adminDone p id stOk 0
    rw [hn', hn]
    exact mget_mdel_same _ _
  · have himg : s.dropRequest.flag Reg.SYS_STATUS_NO_IMAGE = false := by rw [State.flag_dropRequest s (by decide), h.2.2.1]
    have hpage : s.dropRequest.logPage req 0x02 0 off len = (s.dropRequest, .ok (pageSlice s.smartPage off len)) := by
      unfold State.logPage
      dsimp only
      rw [himg, State.smartPage_dropRequest]
      simp [ha]
    have heq := State.admin_run h (.getLogPage req id 0x02 0 off len rae) id .std true
      (fun t => t.getLog req id 0x02 0 off len rae)
    unfold State.getLog at heq
    rw [hpage] at heq
    dsimp only at heq
    have hsend := tells_send s.dropRequest (.data req.requester (pageSlice s.smartPage off len))
    generalize hx : s.dropRequest.adminData req (pageSlice s.smartPage off len) = x at heq
    have hxt : s.dropRequest.Tells x := hx ▸ hsend
    have hfx : x.Frame s.dropRequest [] [] := hx ▸ .send (.refl _ _ _)
    have hsent : x.Sent s (.data req.requester (pageSlice s.smartPage off len)) := hx ▸ State.sent_send s.dropRequest _
    have hread := tells_logRead x req off rae
    have hfr := frame_logRead_smart x req off rae
    obtain ⟨hans, hact⟩ := State.answered (x := x.logRead req 0x02 off rae) ⟨.next (.next (frame_dropRequest s) hfx) hfr,
      hfr.samePwr.trans (hfx.samePwr.trans rfl)⟩ ((hxt.trans hread).hears h.hears) (hxt.trans hread).1 id stOk 0
    refine runs_of_effect (congrArg (done s) heq) ⟨hans, ?_, hact⟩ fun u q ⟨h1, h2, hf, hp⟩ => ⟨h1, h2, hf.finish q, hp⟩
    exact (hread.trans (tells_adminDone _ req id stOk 0)).sent hsent
  · have himg : s.dropRequest.flag Reg.SYS_STATUS_NO_IMAGE = false := by rw [State.flag_dropRequest s (by decide), h.2.2.1]
    have hpage : s.dropRequest.logPage req 0x7F lsp off len = (s.dropRequest, .error stInvalidLogPage) := by
      unfold State.logPage
      dsimp only
      rw [himg]
      simp [ha]
    have heq := State.admin_run h (.getLogPage req id 0x7F lsp off len rae) id .std true
      (fun t => t.getLog req id 0x7F lsp off len rae)
    unfold State.getLog at heq
    rw [hpage] at heq
    exact runs_of_effect (congrArg (done s) heq) (h.answered id stInvalidLogPage 0) fun u q ⟨h1, hf, hp⟩ => ⟨h1, hf.finish q, hp⟩
  · have hd : s.dropRequest.identify req id 1 nsid = (s.dropRequest.adminData req (s.identCtrl req.ctrl)).adminDone req id stOk 0 := by
      rw [State.identify, if_pos rfl, State.identCtrl_dropRequest]
    have heq := (State.admin_run h (.identify req id 1 nsid) id .std true (fun t => t.identify req id 1 nsid)).trans hd
    have hsend := tells_send s.dropRequest (.data req.requester (s.identCtrl req.ctrl))
    obtain ⟨hans, hact⟩ := State.answered (x := s.dropRequest.adminData req (s.identCtrl req.ctrl)) ⟨.send (frame_dropRequest s), rfl⟩
      (hsend.hears h.hears) ⟨_, rfl⟩ id stOk 0
    refine runs_of_effect (congrArg (done s) heq) ⟨hans, ?_, hact⟩ fun u q ⟨h1, h2, hf, hp⟩ => ⟨h1, h2, hf.finish q, hp⟩
    exact (tells_adminDone _ req id stOk 0).sent (State.sent_send _ _)
  · have hgo : s.dropRequest.abortCmd p id target = ((s.dropRequest.setNvme p { s.nvme p with
        aers := (s.nvme p).aers.filter (fun a => a != target) }).adminDone (.host p) target stAborted 0).adminDone (.host p) id stOk 0 := by
      have hdef : s.dropRequest.deferred = [] := h.2.2.2.2.1
      have htgt : ({ target with sq := 0 } : CmdId) = target := by rw [← hsq]
      unfold State.abortCmd
      dsimp only
      rw [hdef, State.nvme_dropRequest, htgt, hin, hsq]
      rfl
    have heq := (State.admin_run h (.abort p id target) id .std false (fun t => t.abortCmd p id target)).trans hgo
    generalize hx : s.dropRequest.setNvme p _ = x at heq
    have hn := (congrArg (fun t => t.nvme p) hx).symm.trans (State.nvme_setNvme _ p _)
    have hears : x.Hears (.host p) := by
      rw [State.Hears, hn]
      exact h.2.2.2.2.2.2.2.2
    obtain ⟨hans, hact⟩ := State.answered (hx ▸ s.act_setNvme p _) hears (hx ▸ s.grows_setNvme p _) target stAborted 0
    have htell := tells_adminDone x (.host p) target stAborted 0
    obtain ⟨os, c, e, hn', -⟩ := x.nvme_adminDone p target stAborted 0
    obtain ⟨m, hm⟩ := htell.1
    obtain ⟨l, hl⟩ : ∃ l, x.out = s.out ++ l := hx ▸ s.grows_setNvme p _
    obtain ⟨hans', hact'⟩ := State.answered hact (htell.hears hears) ⟨l ++ m, by rw [hm, hl, List.append_assoc]⟩ id stOk 0
    refine runs_of_effect (congrArg (done s) heq) ⟨hans.keep (tells_adminDone _ _ _ _ _).1, hans', ?_, hact'⟩
      fun u q ⟨h1, h2, h3, hf, hp⟩ => ⟨h1, h2, h3, hf.finish q, hp⟩
    obtain ⟨os', c', e', hn'', -⟩ := (x.adminDone (.host p) target stAborted 0).nvme_adminDone p id stOk 0
    rw [hn'', hn', hn]
    simp
  · have hd : s.dropRequest.abortCmd p id target = s.dropRequest.adminDone (.host p) id stOk 1 := by
      have hdef : s.dropRequest.deferred = [] := h.2.2.2.2.1
      unfold State.abortCmd
      dsimp only
      rw [hdef, State.nvme_dropRequest, hout]
      rfl
    have heq := (State.admin_run h (.abort p id target) id .std false (fun t => t.abortCmd p id target)).trans hd
    exact runs_of_effect (congrArg (done s) heq) (h.answered id stOk 1) fun u q ⟨h1, hf, hp⟩ => ⟨h1, hf.finish q, hp⟩
  · have hgo : s.dropRequest.aerRequest p id = s.dropRequest.setNvme p { s.nvme p with
        aers := (s.nvme p).aers ++ [{ id with sq := 0 }] } := by
      unfold State.aerRequest
      dsimp only
      rw [State.nvme_dropRequest, he]
      exact if_neg (by omega)
    have heq := (State.admin_run h (.asynchronousEventRequest p id) id .std false (fun t => t.aerRequest p id)).trans hgo
    refine runs_of_effect (congrArg (done s) heq) ⟨?_, State.setNvme_out _ p _, s.act_setNvme p _⟩
      fun u q ⟨h1, h2, hf, hp⟩ => ⟨h1, h2, hf.finish q, hp⟩
    rw [State.nvme_setNvme]
  · have hgo : s.dropRequest.aerRequest p id = (s.dropRequest.setNvme p { s.nvme p with
        events := rest, masked := (s.nvme p).masked ++ [d / 65536 % 256] }).adminDone (.host p) id stOk d := by
      unfold State.aerRequest
      dsimp only
      rw [State.nvme_dropRequest, he]
      rfl
    have heq := (State.admin_run h (.asynchronousEventRequest p id) id .std false (fun t => t.aerRequest p id)).trans hgo
    generalize hx : s.dropRequest.setNvme p _ = x at heq
    have hn := (congrArg (fun t => t.nvme p) hx).symm.trans (State.nvme_setNvme _ p _)
    have hears : x.Hears (.host p) := by
      rw [State.Hears, hn]
      exact h.2.2.2.2.2.2.2.2
    obtain ⟨hans, hact⟩ := State.answered (hx ▸ s.act_setNvme p _) hears (hx ▸ s.grows_setNvme p _) id stOk d
    refine runs_of_effect (congrArg (done s) heq) ⟨hans, ?_, hact⟩ fun u q ⟨h1, h2, hf, hp⟩ => ⟨h1, h2, hf.finish q, hp⟩
    obtain ⟨os, c, e, hn', -⟩ := x.nvme_adminDone p id stOk d
    rw [hn', hn]
  · have heq := State.admin_run h (.keepAlive p id) id .std false (fun t => t.adminDone (.host p) id stOk 0)
    exact runs_of_effect (congrArg (done s) heq) (h.answered id stOk 0) fun u q ⟨h1, hf, hp⟩ => ⟨h1, hf.finish q, hp⟩
  · have heq := State.admin_run h (.getFeatures req id fid arg) id .std false (fun t =>
      if featOk fid arg then t.adminDone req id stOk ((t.nvme req.ctrl).feat fid arg) else t.adminDone req id stInvalidField 0)
    rw [if_pos hok, State.nvme_dropRequest] at heq
    exact runs_of_effect (congrArg (done s) heq) (h.answered id stOk _) fun u q ⟨h1, hf, hp⟩ => ⟨h1, hf.finish q, hp⟩
  · have hgo : s.dropRequest.setFeat p 0x0B arg = (s.dropRequest.setNvme p { s.nvme p with
        feats := mset (s.nvme p).feats 0x0B (arg % 2 ^ 32) }, stOk, 0) := by
      unfold State.setFeat
      rw [State.nvme_dropRequest]
      rfl
    have heq := State.admin_run h (.setFeatures p id 0x0B arg false) id .std false (fun t =>
      if !featOk 0x0B arg then t.adminDone (.host p) id stInvalidField 0
      else if false then t.adminDone (.host p) id stNotSaveable 0
      else
        let r := t.setFeat p 0x0B arg
        r.1.adminDone (.host p) id r.2.1 r.2.2)
    rw [if_neg (show ¬(!featOk 0x0B arg) = true by simp [featOk, featIds]), if_neg (by decide), hgo] at heq
    generalize hx : s.dropRequest.setNvme p _ = x at heq
    have hn := (congrArg (fun t => t.nvme p) hx).symm.trans (State.nvme_setNvme _ p _)
    have hears : x.Hears (.host p) := by
      rw [State.Hears, hn]
      exact h.2.2.2.2.2.2.2.2
    obtain ⟨hans, hact⟩ := State.answered (hx ▸ s.act_setNvme p _) hears (hx ▸ s.grows_setNvme p _) id stOk 0
    refine runs_of_effect (congrArg (done s) heq) ⟨hans, ?_, hact⟩ fun u q ⟨h1, h2, hf, hp⟩ => ⟨h1, h2, hf.finish q, hp⟩
    obtain ⟨os, c, e, hn', -⟩ := x.nvme_adminDone p id stOk 0
    rw [hn', hn]
    exact mgetD_mset_same _ _ _ _
  · have heq := State.admin_run h (.setFeatures p id fid arg true) id .std false (fun t =>
      if !featOk fid arg then t.adminDone (.host p) id stInvalidField 0
      else if true then t.adminDone (.host p) id stNotSaveable 0
      else
        let r := t.setFeat p fid arg
        r.1.adminDone (.host p) id r.2.1 r.2.2)
    rw [if_neg (show ¬(!featOk fid arg) = true by rw [hok]; decide), if_pos rfl] at heq
    obtain ⟨hans, hact⟩ := h.answered id stNotSaveable 0
    refine runs_of_effect (congrArg (done s) heq) ⟨hans, ?_, hact⟩ fun u q ⟨h1, h2, hf, hp⟩ => ⟨h1, h2, hf.finish q, hp⟩
    obtain ⟨os, c, e, hn, -⟩ := s.dropRequest.nvme_adminDone p id stNotSaveable 0
    rw [hn, State.nvme_dropRequest]
  · have heq := State.admin_run h (.formatNvm p id 1 lbaf ses) id .std false (fun t =>
      match t.formatBar 1 lbaf ses with
      | some st => t.adminDone (.host p) id st 0
      | none => (t.ledgerFormat lbaf).adminDone (.host p) id stOk 0)
    rw [State.formatBar_dropRequest, hbar] at heq
    obtain ⟨htell, hlbaf, hblocks, hgen, hcache⟩ := s.dropRequest.ledgerFormat_facts lbaf
    dsimp only at heq
    generalize s.dropRequest.ledgerFormat lbaf = x at heq htell hlbaf hblocks hgen hcache
    have hf := frame_adminDone x (.host p) id stOk 0
    refine runs_of_effect (congrArg (done s) heq) ⟨(State.adminDone_answers (htell.hears h.hears) _ _ _).from htell.1, ?_, ?_, ?_, ?_⟩
      fun u q h => h
    · rw [hf.sameGrt, hlbaf]
    · rw [hf.sameGrt, hblocks]
    · rw [hf.sameGrt, hgen]
      rfl
    · rw [hf.sameCache, hcache]
      rfl
  · have heq := State.admin_run h (.formatNvm p id 1 lbaf ses) id .std false (fun t =>
      match t.formatBar 1 lbaf ses with
      | some st => t.adminDone (.host p) id st 0
      | none => (t.ledgerFormat lbaf).adminDone (.host p) id stOk 0)
    rw [State.formatBar_dropRequest, hbar] at heq
    exact runs_of_effect (congrArg (done s) heq) (h.answered id st 0) fun u q ⟨h1, hf, hp⟩ => ⟨h1, hf.finish q, hp⟩
  · have heq := State.admin_run h (.invalidOpcode req id) id .std true (fun t => t.adminDone req id stInvalidOpcode 0)
    have hgo : exec (.invalidOpcode req id) s = done s (s.dropRequest.adminDone req id stInvalidOpcode 0) := by
      cases req with
      | host p => exact (congrArg (done s) (if_neg fun hne => hne hsq)).trans (congrArg (done s) heq)
      | mi p => exact congrArg (done s) heq
    exact runs_of_effect hgo (h.answered id stInvalidOpcode 0) fun u q ⟨h1, hf, hp⟩ => ⟨h1, hf.finish q, hp⟩
  · have heq := State.io_run h (.invalidOpcode (.host p) id) (fun t => (t, stInvalidOpcode))
    have hgo : exec (.invalidOpcode (.host p) id) s = done s (s.dropRequest.cqePost p id stInvalidOpcode 0) :=
      (congrArg (done s) (if_pos hsq)).trans (congrArg (done s) heq)
    refine runs_of_effect hgo ⟨State.cqePost_sends ?_ stInvalidOpcode 0, ?_⟩ fun u q ⟨h1, hf, hp⟩ => ⟨h1, hf.finish q, hp⟩
    · rw [State.nvme_dropRequest]
      exact h.2.2.2.2.2.2.2
    · exact ⟨.quiet (frame_dropRequest s) (quiet_cqePost _ _ _ _ _), State.cqePost_pwr _ _ _ _ _⟩

end

section
/-! SUPPORT. A submission queue's fetches and the fields that a range of the Ledger's blocks takes (R478, R483, R484). -/

namespace Sys2Proof.Machine

section
variable {s t : State} {p : Port} {id : CmdId}

/-- Fetches are asked for in order: what is sent out grows, the list of fetches takes them, nothing else changes. -/
theorem State.fetched_foldl (l : List Nat) (qid : Nat) (base : Nat) (s : State) (p : Port) :
    (l.foldl (fun (t : State) slot =>
      (t.setNvme p { t.nvme p with fetches := (t.nvme p).fetches ++ [(qid, slot)] }).send (.hostRead p (base + 64 * slot) 64)) s).nvme p =
      { s.nvme p with fetches := (s.nvme p).fetches ++ l.map (fun i => (qid, i)) } := by
  induction l generalizing s with
  | nil => rw [List.foldl_nil, List.map_nil, List.append_nil]
  | cons i l ih =>
    rw [List.foldl_cons, ih, State.nvme_send, State.nvme_setNvme, List.map_cons, List.append_assoc]
    rfl

theorem quiet_pumpSq (s : State) (p : Port) (qid : Nat) : Quiet (s.pumpSq p qid) s := by
  unfold State.pumpSq
  dsimp only
  split
  · exact .refl s
  · refine quiet_ite s (.refl s) (quiet_foldl _ (fun t i => ?_) _ s)
    exact (quiet_setNvme t p _).trans (quiet_send _ _)

theorem quiet_pumpSqs (s : State) (p : Port) : Quiet (s.pumpSqs p) s := quiet_foldl _ (fun t q => quiet_pumpSq t p q) _ s

/-- A doorbell of a bus master's queue fetches the entries that it makes available. -/
theorem State.pumpSq_fetches {qid : Nat} {q : SubQ} (hen : (s.nvme p).en = true) (hcfs : (s.nvme p).cfs = false)
    (hshn : (s.nvme p).shn = 0) (hbme : (s.port p).bme = true) (hq : mget (s.nvme p).sqs qid = some q) :
    (s.pumpSq p qid).nvme p = { s.nvme p with
      fetches := (s.nvme p).fetches ++ ((s.nvme p).slotsDue qid q).map (fun i => (qid, i)) } := by
  unfold State.pumpSq
  dsimp only
  rw [hq]
  dsimp only
  rw [if_neg (by simp [hbme, hen, hcfs, hshn])]
  exact State.fetched_foldl _ _ _ _ _

theorem State.port_setNvme (s : State) (p : Port) (n : Nvme) : (s.setNvme p n).port p = { s.port p with nvme := n } := by
  cases p
  · rfl
  · rfl

theorem State.evHost_hasCq (s : State) (a b c : Nat) (p : Port) (sq : Nat) :
    ((s.evHost a b c).nvme p).hasCq sq = (s.nvme p).hasCq sq := by
  have ht : s.Tells (s.evHost a b c) := tells_eventWith s _ _ _ _ _
  have hsqs : ((s.evHost a b c).nvme p).sqs = (s.nvme p).sqs := (congrArg Nvme.sqs (ht.nvme_lasting p) :)
  rw [Nvme.hasCq, hsqs]
  exact ht.2.2 p _

theorem State.nsBar_dropRequest (s : State) (nsid : Nat) : s.dropRequest.nsBar nsid = s.nsBar nsid := by
  rw [State.nsBar, State.nsExists, State.flag_dropRequest s (by decide), State.flag_dropRequest s (by decide)]
  rfl

theorem State.rangeBar_dropRequest (s : State) (nsid slba nlb : Nat) (w : Bool) :
    s.dropRequest.rangeBar nsid slba nlb w = s.rangeBar nsid slba nlb w := by
  rw [State.rangeBar, State.nsBar_dropRequest, State.ledgerWp, State.flag_dropRequest s (by decide),
    State.flag_dropRequest s (by decide)]
  rfl

theorem quiet_smartUpd (s : State) (f : Smart → Smart) : Quiet (s.smartUpd f) s :=
  ⟨rfl, rfl, rfl, rfl, rfl, rfl, rfl, rfl, rfl, rfl, rfl, rfl, rfl, rfl, rfl, rfl, rfl, rfl, fun _ _ => rfl, fun p => by cases p <;> rfl⟩

theorem State.nvme_smartUpd (s : State) (f : Smart → Smart) (p : Port) : (s.smartUpd f).nvme p = s.nvme p := by
  cases p
  · rfl
  · rfl

theorem loadBytes_nil (n a : Nat) : loadBytes [] a n = List.replicate n 0 := by
  induction n generalizing a with
  | zero => rfl
  | succ n ih => rw [loadBytes, ih, List.replicate_succ]; rfl

theorem loadBytes_stored (d : List Byte) : loadBytes (storeBytes [] 0 d) 0 d.length = d :=
  loadBytes_eq_of_loadByte _ d 0 fun i hi => loadByte_storeBytes_in d [] 0 i hi

theorem Ledger.lbaBytes_pos (l : Ledger) : 0 < l.lbaBytes ∧ l.lbaBytes ≤ 4096 := by
  unfold Ledger.lbaBytes
  split
  · decide
  · decide

theorem Ledger.readLba_writeLba {l : Ledger} {n : Nat} {d : List Byte} (h : d.length = l.lbaBytes) : (l.writeLba n d).readLba n = d := by
  rw [Ledger.readLba, Ledger.writeLba, mget_mset_same]
  refine Eq.trans ?_ (loadBytes_stored d)
  rw [h]
  rfl

theorem Ledger.readLba_writeLba_ne (l : Ledger) {n m : Nat} (d : List Byte) (h : m ≠ n) : (l.writeLba n d).readLba m = l.readLba m := by
  rw [Ledger.readLba, Ledger.writeLba, mget_mset_ne _ _ h]
  rfl

theorem Ledger.lbaBytes_foldl_trim (l : Ledger) (ns : List Nat) : (ns.foldl Ledger.trimLba l).lbaBytes = l.lbaBytes := by
  induction ns generalizing l with
  | nil => rfl
  | cons n ns ih => exact ih _

/-- What is trimmed stays without bytes, whatever else is trimmed. -/
theorem Ledger.mget_foldl_trim (ns : List Nat) (l : Ledger) {n : Nat} (h : n ∈ ns ∨ mget l.blocks n = none) :
    mget (ns.foldl Ledger.trimLba l).blocks n = none := by
  induction ns generalizing l with
  | nil => exact h.resolve_left (by simp)
  | cons m ns ih =>
    refine ih _ ?_
    by_cases hm : n = m
    · exact .inr (by rw [hm]; exact mget_mdel_same _ _)
    · refine h.imp (fun hin => (List.mem_cons.1 hin).resolve_left hm) fun hno => ?_
      exact (mget_mdel_ne _ hm).trans hno

theorem mem_lbas {slba nlb n : Nat} (hlo : slba ≤ n) (hhi : n < slba + nlb) : n ∈ lbas slba nlb :=
  List.mem_map.2 ⟨n - slba, List.mem_range.2 (by omega), by omega⟩

/-- A trim of one range that may be written. -/
theorem State.ledgerTrim_range {nsid slba nlb : Nat} (h : s.rangeBar nsid slba nlb true = none) :
    s.ledgerTrim nsid [(slba, nlb)] = (s.setLedger ((lbas slba nlb).foldl Ledger.trimLba s.grt.ledger), stOk) := by
  unfold State.ledgerTrim
  rw [List.findSome?_cons_of_isNone]
  · simp
  · simp [h]

/-- An I/O command's answer changes nothing beside its controller's queues. -/
theorem State.act_cqePost {x : State} {ps : List Part} (h : x.ActFrame s ps []) (st : NStat) (d : Nat) : (x.cqePost p id st d).ActFrame s ps [] :=
  ⟨.quiet h.1 (quiet_cqePost _ _ _ _ _), (State.cqePost_pwr _ _ _ _ _).trans h.2⟩

/-- The status of an I/O command that runs. -/
theorem State.io_answered (h : s.TakesIo p id) {x : State} (hx : (x.nvme p).hasCq id.sq = (s.nvme p).hasCq id.sq)
    (hg : ∃ l, x.out = s.out ++ l) (st : NStat) : (x.cqePost p id st 0).IoDone s p id st := by
  obtain ⟨q, ph, hs⟩ := State.cqePost_sends (s := x) (p := p) (id := id) (hx.trans h.2.2.2.2.2.2.2) st 0
  exact ⟨q, ph, hs.from hg⟩

/-- An I/O command that changes nothing. -/
theorem State.io_unchanged (h : s.TakesIo p id) (st : NStat) : (s.dropRequest.cqePost p id st 0).IoDone s p id st ∧
    (s.dropRequest.cqePost p id st 0).ActFrame s [] [] :=
  ⟨State.io_answered (x := s.dropRequest) h (by rw [State.nvme_dropRequest]) ⟨[], (List.append_nil _).symm⟩ st,
    State.act_cqePost s.act_dropRequest st 0⟩

/-- A command that replaces the Ledger and succeeds. -/
theorem State.trimmed_facts (h : s.TakesIo p id) (l : Ledger) :
    ((s.dropRequest.setLedger l).cqePost p id stOk 0).IoDone s p id stOk ∧
      ((s.dropRequest.setLedger l).cqePost p id stOk 0).ActFrame s [.grt] [] ∧
      ((s.dropRequest.setLedger l).cqePost p id stOk 0).grt.ledger = l := by
  have hn : (s.dropRequest.setLedger l).nvme p = s.nvme p := by
    cases p
    · rfl
    · rfl
  have hact : (s.dropRequest.setLedger l).ActFrame s [.grt] [] := ⟨.withGrt (frame_dropRequest s).mono, rfl⟩
  refine ⟨State.io_answered (x := s.dropRequest.setLedger l) h (by rw [hn]) ⟨[], (List.append_nil _).symm⟩ stOk,
    State.act_cqePost hact stOk 0, ?_⟩
  rw [State.cqePost_grt]
  rfl

/-- Leave that fits is given, and given back: nothing but the broker is touched by it. -/
theorem State.underLeave_fits {op : LeaveOp} (hcost : s.leaveCost op ≤ s.leaveBudget - s.get Reg.PWR_LEAVE_BUDGET_BASE_MW)
    (k : State → State) : ∃ b b', s.underLeave op k = ({ k { s with broker := b } with broker := b' }, true) := by
  unfold State.underLeave State.leaveRequest
  dsimp only
  rw [if_neg (by omega)]
  exact ⟨_, _, rfl⟩

/-- A block of the Ledger was written under leave. -/
def State.wrote (s : State) (b : Broker) (slba : Nat) (data : List Byte) : State :=
  (({ s with broker := b } : State).setLedger (s.grt.ledger.writeLba slba data)).smartUpd (fun m => { m with
    unitsWritten := m.unitsWritten + data.length / 512, writeCmds := m.writeCmds + 1 })

theorem frame_wrote (s : State) (b : Broker) (slba : Nat) (data : List Byte) : (s.wrote b slba data).Frame s [.grt, .broker] [] :=
  have h : (({ s with broker := b } : State).setLedger (s.grt.ledger.writeLba slba data)).Frame s [.grt, .broker] [] :=
    .withGrt (.withBroker (.refl _ _ _))
  .quiet h (quiet_smartUpd _ _)

theorem State.nvme_wrote (s : State) (b : Broker) (slba : Nat) (data : List Byte) (p : Port) : (s.wrote b slba data).nvme p = s.nvme p := by
  cases p
  · rfl
  · rfl

/-- A write of one block that fits (R483, R484). -/
theorem State.ledgerWrite_one {slba : Nat} {data : List Byte} (hbar : s.rangeBar 1 slba 1 true = none)
    (hlen : data.length = s.grt.ledger.lbaBytes) (hroom : s.grt.ledger.blocks.length + 1 ≤ s.grt.ledger.ncap)
    (hcost : s.get Reg.PWR_LEAVE_COST1_PROG_MW ≤ s.leaveBudget - s.get Reg.PWR_LEAVE_BUDGET_BASE_MW) :
    ∃ b, s.ledgerWrite 1 slba data = (s.wrote b slba data, stOk) := by
  obtain ⟨hpos, hmax⟩ := s.grt.ledger.lbaBytes_pos
  have hone : data.length / s.grt.ledger.lbaBytes = 1 := by rw [hlen, Nat.div_self hpos]
  have hdata : data ≠ [] := List.ne_nil_of_length_pos (by omega)
  have hnew : s.grt.ledger.newLbas slba 1 ≤ 1 := (List.length_filter_le _ _).trans (by simp [lbas])
  have hall : (List.range 1).foldl (fun (m : Ledger) i =>
      m.writeLba (slba + i) ((data.drop (i * s.grt.ledger.lbaBytes)).take s.grt.ledger.lbaBytes)) s.grt.ledger =
      s.grt.ledger.writeLba slba data := by
    simp [List.range_succ, ← hlen]
  unfold State.ledgerWrite
  dsimp only
  rw [if_neg (by rw [hlen, Nat.mod_self]; simp [hdata]; omega), hone, hbar, hall]
  dsimp only
  rw [if_neg (by omega)]
  cases s.serviceLuns with
  | nil => exact ⟨s.broker, rfl⟩
  | cons lun l =>
    obtain ⟨b, b', hu⟩ := State.underLeave_fits (s := s) (op := .ledgerProgram lun) hcost (fun t =>
      (t.setLedger (s.grt.ledger.writeLba slba data)).smartUpd (fun m => { m with
        unitsWritten := m.unitsWritten + data.length / 512, writeCmds := m.writeCmds + 1 }))
    dsimp only
    rw [hu]
    exact ⟨b', rfl⟩

theorem State.leaveBudget_dropRequest (s : State) : s.dropRequest.leaveBudget = s.leaveBudget := by
  simp (disch := decide) [State.leaveBudget]

theorem State.nvme_entryDone (s : State) (p : Port) (qid slot : Nat) : (s.entryDone p qid slot).nvme p = { s.nvme p with
    fetches := (s.nvme p).fetches.filter (fun f => f != (qid, slot))
    sqs := match mget (s.nvme p).sqs qid with
      | some q => mset (s.nvme p).sqs qid { q with head := (slot + 1) % q.size }
      | none => (s.nvme p).sqs } := State.nvme_setNvme _ p _

theorem State.bme_foldl_fetch (l : List Nat) (qid base : Nat) (s : State) (p : Port) :
    ((l.foldl (fun (t : State) slot =>
      (t.setNvme p { t.nvme p with fetches := (t.nvme p).fetches ++ [(qid, slot)] }).send (.hostRead p (base + 64 * slot) 64)) s).port p).bme =
      (s.port p).bme := by
  induction l generalizing s with
  | nil => rfl
  | cons i l ih =>
    rw [List.foldl_cons, ih]
    cases p
    · rfl
    · rfl

theorem State.bme_pumpSq (s : State) (p : Port) (qid : Nat) : ((s.pumpSq p qid).port p).bme = (s.port p).bme := by
  unfold State.pumpSq
  dsimp only
  split
  · rfl
  · split
    · rfl
    · exact State.bme_foldl_fetch _ _ _ _ _

theorem State.bme_pumpSqs (s : State) (p : Port) : ((s.pumpSqs p).port p).bme = (s.port p).bme := by
  unfold State.pumpSqs
  generalize (s.nvme p).sqs.map (fun e => e.1) = l
  induction l generalizing s with
  | nil => rfl
  | cons q l ih => rw [List.foldl_cons, ih, State.bme_pumpSq]

end

end Sys2Proof.Machine
end

section
/-! PROOF. -/

open Sys2Proof Sys2Proof.Machine

/-- Settles O56: a TLP that is claimed, a fetch that stands open or an I/O command that is taken runs its own rule, read off here. -/
theorem nvmeIo : Obligations.NvmeIo := by
  refine ⟨fun p qid tail q s hc hen hcfs hshn hbme hq htail => ?_, fun p qid head q s hc hen hq hhead => ?_,
    fun p qid slot s hlive hin => ?_, fun p id s hlive hopen hcq => ?_, fun p qid slot op prp len id q s hlive hin hq => ?_,
    fun p i id op prp len s hlive hopen => ?_, fun p w s hc => ?_, fun p w s hc => ?_, fun p mse bme s hrun hlive => ?_,
    fun p s hlive hen hcfs hka => ?_, fun p id s h hns => ?_, fun p id slba data s h hbar hlen hroom hcost => ?_,
    fun p id slba s h hbar hlost => ?_, fun p id slba s h hbar => ?_, fun p id slba nlb s h hbar => ?_,
    fun p id slba nlb s h hbar => ?_, fun p id slba nlb s h hns hbeyond => ?_⟩
  · obtain ⟨hrun, hmem, hhold⟩ := hc
    have hd := State.nvme_dropRequest s p
    generalize hx : s.dropRequest.setNvme p { s.nvme p with sqs := mset (s.nvme p).sqs qid { q with tail := tail } } = x
    have hn := (congrArg (fun t => t.nvme p) hx).symm.trans (State.nvme_setNvme _ p _)
    have hbme' : (x.port p).bme = true := by
      rw [← hx, State.port_setNvme, State.port_dropRequest]
      exact hbme
    have hgo : (if s.portMem p then s.orHold p (.sqDoorbell p qid tail) (fun t => t.sqTail p qid tail) else s) = x.pumpSq p qid := by
      rw [if_pos hmem, State.orHold_of hhold, State.sqTail, if_pos hen, State.touch_run hrun (by decide), ← hx]
      unfold State.sqDoorbell
      dsimp only
      rw [hd, hq]
      exact if_neg (by omega)
    have hpump := State.pumpSq_fetches (s := x) (p := p) (qid := qid) (q := { q with tail := tail }) (by rw [hn]; exact hen)
      (by rw [hn]; exact hcfs) (by rw [hn]; exact hshn) hbme' (by rw [hn]; exact mget_mset_same _ _ _)
    have hquiet := quiet_pumpSq x p qid
    refine runs_of_effect (congrArg (done s) hgo) ⟨?_, ⟨.quiet ?_ hquiet, hquiet.pwr.trans ?_⟩, ?_⟩
      fun u q ⟨h1, ⟨hf, hp⟩, h2⟩ => ⟨h1, ⟨hf.finish q, hp⟩, h2⟩
    · rw [hpump, hn]
      exact mget_mset_same _ _ _
    · rw [← hx]
      exact (s.act_setNvme p _).1
    · rw [← hx]
      exact (s.act_setNvme p _).2
    · rw [hpump, hn]
      rfl
  · obtain ⟨hrun, hmem, hhold⟩ := hc
    have hgo : (if s.portMem p then s.orHold p (.cqDoorbell p qid head) (fun t => t.cqHead p qid head) else s) =
        s.dropRequest.setNvme p { s.nvme p with cqs := mset (s.nvme p).cqs qid { q with head := head } } := by
      rw [if_pos hmem, State.orHold_of hhold, State.cqHead, if_pos hen, State.wake_run hrun (by decide)]
      unfold State.cqDoorbell
      dsimp only
      rw [State.nvme_dropRequest, hq]
      exact if_neg (by omega)
    refine runs_of_effect (congrArg (done s) hgo) ⟨?_, s.act_setNvme p _⟩ fun u q ⟨h1, hf, hp⟩ => ⟨h1, hf.finish q, hp⟩
    rw [State.nvme_setNvme]
    exact mget_mset_same _ _ _
  · have hgo : (if s.portLive p && s.fetchOpen p (.entry qid slot) then s.fetchLost p (.entry qid slot) else s) =
        s.fetchLost p (.entry qid slot) := if_pos (by rw [hlive]; exact hin)
    refine runs_of_effect (congrArg (done s) hgo) ⟨?_, ?_⟩ fun u q ⟨h1, hf⟩ => ⟨h1, hf.finish q⟩
    · unfold State.fetchLost
      extract_lets s1 c
      obtain ⟨os, cq, e, hn, -⟩ := (c.2.entryDone p qid slot).nvme_cqePost p ⟨qid, c.1⟩ stTransferError 0
      show (qid, slot) ∉ (((c.2.entryDone p qid slot).cqePost p ⟨qid, c.1⟩ stTransferError 0).nvme p).fetches
      rw [hn, State.nvme_entryDone]
      simp
    · unfold State.fetchLost
      extract_lets s1 c
      have h1 : c.2.Frame s [] [] := .fresh (frame_of_quiet (quiet_evHost s _ _ _) _ _)
      exact .quiet (h1.next (frame_setNvme _ p _)) (quiet_cqePost _ _ _ _ _)
  · have hgo : (if s.portLive p && s.fetchOpen p (.data id) then s.fetchLost p (.data id) else s) =
        (s.evHost 0x1002 4 p.idx).cqePost p id stTransferError 0 := if_pos (by rw [hlive]; exact hopen)
    refine runs_of_effect (congrArg (done s) hgo) ⟨?_, ?_⟩ fun u q ⟨h1, hf⟩ => ⟨h1, hf.finish q⟩
    · obtain ⟨q, ph, hs⟩ := State.cqePost_sends (s := s.evHost 0x1002 4 p.idx) (p := p) (id := id)
        ((State.evHost_hasCq s _ _ _ p id.sq).trans hcq) stTransferError 0
      exact ⟨q, ph, hs.from (tells_eventWith s _ _ _ _ _).1⟩
    · exact frame_of_quiet ((quiet_evHost s _ _ _).trans (quiet_cqePost _ _ _ _ _)) _ _
  · have hgo : (if !s.portLive p || !s.fetchOpen p (.entry qid slot) then s
        else s.entryArrives p qid slot id op prp len) = s.entryArrives p qid slot id op prp len :=
      if_neg (by rw [hlive, show s.fetchOpen p (.entry qid slot) = true from hin]; decide)
    generalize hx : s.entryDone p qid slot = x
    have hn : x.nvme p = _ := hx ▸ s.nvme_entryDone p qid slot
    have hfx : x.Frame s [] [] := hx ▸ frame_setNvme s p _
    have harr : s.entryArrives p qid slot id op prp len = if len = 0 then x.setNvme p { x.nvme p with
        outs := (x.nvme p).outs ++ [⟨⟨qid, id.cid⟩, op, decide (0 < len)⟩] } else (x.setNvme p { x.nvme p with
        outs := (x.nvme p).outs ++ [⟨⟨qid, id.cid⟩, op, decide (0 < len)⟩] }).send (.hostRead p prp len) := by
      rw [← hx]
      rfl
    have hnv : (s.entryArrives p qid slot id op prp len).nvme p = { x.nvme p with
        outs := (x.nvme p).outs ++ [⟨⟨qid, id.cid⟩, op, decide (0 < len)⟩] } := by
      rw [harr]
      split
      · exact State.nvme_setNvme _ p _
      · rw [State.nvme_send]
        exact State.nvme_setNvme _ p _
    refine runs_of_effect (congrArg (done s) hgo) ⟨?_, ?_, ?_, ?_⟩ fun u q ⟨h1, h2, h3, hf⟩ => ⟨h1, h2, h3, hf.finish q⟩
    · rw [hnv, hn]
    · rw [hnv, hn]
      simp
    · rw [hnv, hn]
      dsimp only
      rw [hq]
      exact mget_mset_same _ _ _
    · rw [harr]
      exact .ite (hfx.next (frame_setNvme x p _)) (.send (hfx.next (frame_setNvme x p _)))
  · have hgo : (if !s.portLive p || !s.fetchOpen p (.data i) then s else s.dataArrives p i) = s.dataArrives p i :=
      if_neg (by rw [hlive, hopen]; decide)
    refine runs_of_effect (congrArg (done s) hgo) ⟨?_, frame_setNvme s p _⟩ fun u q ⟨h1, hf⟩ => ⟨h1, hf.finish q⟩
    unfold State.fetchOpen State.dataArrives
    dsimp only
    rw [State.nvme_setNvme]
    refine List.any_eq_false.2 fun o ho => ?_
    obtain ⟨x, -, rfl⟩ := List.mem_map.1 ho
    by_cases hx : x.id = i
    · simp [hx]
    · simp [hx]
  · obtain ⟨hrun, hmem, hhold⟩ := hc
    have hgo : (if s.portMem p then s.orHold p (.nvmeRegisterWrite p 0x24 w) (fun t => (t.wake 1).nvmeRegWrite p 0x24 w.toNat) else s) =
        s.dropRequest.setNvme p { s.nvme p with aqa := w.toNat } := by
      rw [if_pos hmem, State.orHold_of hhold, State.wake_run hrun (by decide), ← State.nvme_dropRequest]
      rfl
    exact runs_of_effect (congrArg (done s) hgo) ⟨State.nvme_setNvme _ p _, s.act_setNvme p _⟩ fun u q ⟨h1, hf, hp⟩ => ⟨h1, hf.finish q, hp⟩
  · obtain ⟨hrun, hmem, hhold⟩ := hc
    have hgo : (if s.portMem p then s.orHold p (.nvmeRegisterWrite p 0x0C w) (fun t => (t.wake 1).nvmeRegWrite p 0x0C w.toNat) else s) =
        s.dropRequest.setNvme p { s.nvme p with intms := Nat.lor (s.nvme p).intms w.toNat } := by
      rw [if_pos hmem, State.orHold_of hhold, State.wake_run hrun (by decide), ← State.nvme_dropRequest]
      rfl
    exact runs_of_effect (congrArg (done s) hgo) ⟨State.nvme_setNvme _ p _, s.act_setNvme p _⟩ fun u q ⟨h1, hf, hp⟩ => ⟨h1, hf.finish q, hp⟩
  · have hgo : (if s.portLive p then (s.wake 1).cfgWrite p (.command mse bme) else s) =
        (s.dropRequest.setPort p { s.port p with mse := mse, bme := bme }).pumpSqs p := by
      rw [if_pos hlive, State.wake_run hrun (by decide), ← State.port_dropRequest]
      rfl
    have hquiet := quiet_pumpSqs (s.dropRequest.setPort p { s.port p with mse := mse, bme := bme }) p
    have hset : (s.dropRequest.setPort p { s.port p with mse := mse, bme := bme }).Frame s [.pwr, .ports] [Reg.PWR_STATUS_RETRY] :=
      .setPort (frame_dropRequest s).mono
    have hport : (s.dropRequest.setPort p { s.port p with mse := mse, bme := bme }).port p = { s.port p with mse := mse, bme := bme } := by
      cases p
      · rfl
      · rfl
    have hpwr : (s.dropRequest.setPort p { s.port p with mse := mse, bme := bme }).pwr = s.dropRequest.pwr := by
      cases p
      · rfl
      · rfl
    generalize s.dropRequest.setPort p { s.port p with mse := mse, bme := bme } = x at hgo hquiet hset hport hpwr
    have hcore := hquiet.core p
    have hbme := State.bme_pumpSqs x p
    simp only [HostPort.core, Prod.mk.injEq] at hcore
    obtain ⟨hlink, hmse, hen, -, -⟩ := hcore
    refine runs_of_effect (congrArg (done s) hgo) ⟨?_, ?_, ?_, ?_, .quiet hset hquiet, hquiet.pwr.trans hpwr⟩
      fun u q ⟨h1, h2, h3, h4, hf, hp⟩ => ⟨h1, h2, h3, h4, hf.finish q, hp⟩
    · rw [hmse, hport]
    · rw [hbme, hport]
    · rw [hen, hport]
    · rw [hlink, hport]
  · have hgo : (if s.portLive p && (s.nvme p).en && !(s.nvme p).cfs && mgetD (s.nvme p).feats 0x0F 0 != 0 then s.keepAliveLost p else s) =
        s.keepAliveLost p := if_pos (by rw [hlive, hen, hcfs]; simpa using hka)
    refine runs_of_effect (congrArg (done s) hgo) ⟨?_, ?_⟩ fun u q ⟨h1, hf⟩ => ⟨h1, hf.finish q⟩
    · unfold State.keepAliveLost
      rw [State.nvme_smartUpd, State.nvme_setNvme]
    · exact frame_of_quiet ((quiet_setNvme s p _).trans (quiet_smartUpd _ _)) _ _
  · have heq := State.io_run h (.flush p id 1) (fun t => (t, (t.nsBar (if (1 : Nat) = 0xFFFFFFFF then 1 else 1)).getD stOk))
    dsimp only at heq
    rw [if_neg (by decide), State.nsBar_dropRequest, hns] at heq
    refine runs_of_effect (congrArg (done s) heq) (State.io_unchanged h stOk) fun u q ⟨h1, hf, hp⟩ => ⟨h1, hf.finish q, hp⟩
  · obtain ⟨b, hwr⟩ := State.ledgerWrite_one (s := s.dropRequest) ((s.rangeBar_dropRequest 1 slba 1 true).trans hbar) hlen hroom
      (by rw [State.get_dropRequest s (by decide), State.get_dropRequest s (by decide), State.leaveBudget_dropRequest]; exact hcost)
    have heq := State.io_run h (.write p id 1 slba data) (fun t => t.ledgerWrite 1 slba data)
    rw [hwr] at heq
    generalize hx : State.wrote _ b slba data = x at heq
    have hn : x.nvme p = s.nvme p := by rw [← hx, State.nvme_wrote, State.nvme_dropRequest]
    have hout : x.out = s.out ++ [] := by
      rw [← hx, List.append_nil]
      rfl
    have hact : x.ActFrame s [.grt, .broker] [] := hx ▸ ⟨.next (frame_dropRequest s).mono (frame_wrote _ b slba data), rfl⟩
    have hgrt : x.grt.ledger = s.grt.ledger.writeLba slba data := by
      rw [← hx]
      rfl
    refine runs_of_effect (congrArg (done s) heq) ⟨State.io_answered h (by rw [hn]) ⟨[], hout⟩ stOk, ?_, fun n hne => ?_,
      State.act_cqePost hact stOk 0⟩ fun u q ⟨h1, h2, h3, hf, hp⟩ => ⟨h1, h2, h3, hf.finish q, hp⟩
    · rw [State.cqePost_grt, hgrt]
      exact Ledger.readLba_writeLba hlen
    · rw [State.cqePost_grt, hgrt]
      exact Ledger.readLba_writeLba_ne _ _ hne
  · obtain ⟨hpos, hmax⟩ := s.grt.ledger.lbaBytes_pos
    have hrd : s.dropRequest.ledgerRead p.req 1 slba 1 false = ((s.dropRequest.send (.data p.req (s.grt.ledger.readLba slba))).smartUpd
        (fun m => { m with unitsRead := m.unitsRead + 1 * s.grt.ledger.lbaBytes / 512, readCmds := m.readCmds + 1 }), stOk) := by
      unfold State.ledgerRead
      dsimp only
      rw [State.rangeBar_dropRequest, hbar, if_neg (by rw [State.dropRequest_grt]; omega)]
      have hlost' : slba ∉ s.grt.ledger.lost := by simpa using hlost
      simp [lbas, hlost']
    have heq := State.io_run h (.readLba p id 1 slba 1 false) (fun t => t.ledgerRead p.req 1 slba 1 false)
    rw [hrd] at heq
    generalize hx : (s.dropRequest.send (.data p.req (s.grt.ledger.readLba slba))).smartUpd _ = x at heq
    have hact : x.ActFrame s [] [] := hx ▸ ⟨.quiet (.send (frame_dropRequest s)) (quiet_smartUpd _ _), rfl⟩
    have hsent : x.Sent s (.data p.req (s.grt.ledger.readLba slba)) := hx ▸ State.sent_send s.dropRequest _
    have hn : x.nvme p = s.nvme p := by
      rw [← hx, State.nvme_smartUpd, State.nvme_send, State.nvme_dropRequest]
    refine runs_of_effect (congrArg (done s) heq) ⟨State.io_answered h (by rw [hn]) ?_ stOk, ?_, State.act_cqePost hact stOk 0⟩
      fun u q ⟨h1, h2, hf, hp⟩ => ⟨h1, h2, hf.finish q, hp⟩
    · obtain ⟨l, hl, -⟩ := hsent
      exact ⟨l, hl⟩
    · exact (tells_cqePost x p id stOk 0).sent hsent
  · obtain ⟨hpos, hmax⟩ := s.grt.ledger.lbaBytes_pos
    have hrd : s.dropRequest.ledgerRead p.req 1 slba 1 true = (s.dropRequest.smartUpd (fun m => { m with mediaErrs := m.mediaErrs + 1 }),
        stUnrecovered) := by
      unfold State.ledgerRead
      dsimp only
      rw [State.rangeBar_dropRequest, hbar, if_neg (by rw [State.dropRequest_grt]; omega)]
      rfl
    have heq := State.io_run h (.readLba p id 1 slba 1 true) (fun t => t.ledgerRead p.req 1 slba 1 true)
    rw [hrd] at heq
    generalize hx : s.dropRequest.smartUpd _ = x at heq
    have hact : x.ActFrame s [] [] := hx ▸ ⟨.quiet (frame_dropRequest s) (quiet_smartUpd _ _), rfl⟩
    have hn : x.nvme p = s.nvme p := by rw [← hx, State.nvme_smartUpd, State.nvme_dropRequest]
    have hout : x.out = s.out ++ [] := by
      rw [← hx, List.append_nil]
      rfl
    exact runs_of_effect (congrArg (done s) heq) ⟨State.io_answered h (by rw [hn]) ⟨[], hout⟩ stUnrecovered,
      State.act_cqePost hact stUnrecovered 0⟩ fun u q ⟨h1, hf, hp⟩ => ⟨h1, hf.finish q, hp⟩
  · have heq := State.io_run h (.writeZeroes p id 1 slba nlb) (fun t => t.ledgerTrim 1 [(slba, nlb)])
    rw [State.ledgerTrim_range ((s.rangeBar_dropRequest 1 slba nlb true).trans hbar)] at heq
    obtain ⟨hdone, hact, hgrt⟩ := State.trimmed_facts h ((lbas slba nlb).foldl Ledger.trimLba s.grt.ledger)
    refine runs_of_effect (congrArg (done s) heq) ⟨hdone, hact, fun n hlo hhi => ?_⟩
      fun u q ⟨h1, ⟨hf, hp⟩, h2⟩ => ⟨h1, ⟨hf.finish q, hp⟩, h2⟩
    refine (congrArg (fun l => Ledger.readLba l n) hgrt).trans ?_
    rw [Ledger.readLba, Ledger.mget_foldl_trim _ _ (.inl (mem_lbas hlo hhi)), Ledger.lbaBytes_foldl_trim]
    exact loadBytes_nil _ _
  · have heq := State.io_run h (.datasetManagement p id 1 true [(slba, nlb)]) (fun t =>
      if true then t.ledgerTrim 1 [(slba, nlb)] else (t, (t.nsBar 1).getD stOk))
    rw [if_pos rfl, State.ledgerTrim_range ((s.rangeBar_dropRequest 1 slba nlb true).trans hbar)] at heq
    obtain ⟨hdone, hact, hgrt⟩ := State.trimmed_facts h ((lbas slba nlb).foldl Ledger.trimLba s.grt.ledger)
    refine runs_of_effect (congrArg (done s) heq) ⟨hdone, hact, fun n hlo hhi => ?_⟩
      fun u q ⟨h1, ⟨hf, hp⟩, h2⟩ => ⟨h1, ⟨hf.finish q, hp⟩, h2⟩
    exact (congrArg (fun l => mget (Ledger.blocks l) n) hgrt).trans (Ledger.mget_foldl_trim _ _ (.inl (mem_lbas hlo hhi)))
  · have hbar : s.dropRequest.rangeBar 1 slba nlb true = some stLbaRange := by
      rw [State.rangeBar_dropRequest, State.rangeBar, hns]
      exact if_pos hbeyond
    have htrim : s.dropRequest.ledgerTrim 1 [(slba, nlb)] = (s.dropRequest, stLbaRange) := by
      unfold State.ledgerTrim
      simp [hbar]
    have heq := State.io_run h (.writeZeroes p id 1 slba nlb) (fun t => t.ledgerTrim 1 [(slba, nlb)])
    rw [htrim] at heq
    exact runs_of_effect (congrArg (done s) heq) (State.io_unchanged h stLbaRange) fun u q ⟨h1, hf, hp⟩ => ⟨h1, hf.finish q, hp⟩

end

section
/-! SUPPORT. What an event leaves of the recorder's registers, and what reports leave of the recorder (R447–R455). -/

namespace Sys2Proof.Machine

section
variable {s t u : State}

/-- The registers and the recorder are the same. -/
def State.SameLog (t s : State) : Prop := t.regs = s.regs ∧ t.evr = s.evr

theorem State.SameLog.refl (s : State) : s.SameLog s := ⟨rfl, rfl⟩

theorem State.SameLog.trans (h : t.SameLog s) (k : u.SameLog t) : u.SameLog s := ⟨k.1.trans h.1, k.2.trans h.2⟩

theorem State.SameLog.ite {c : Prop} [Decidable c] (ht : t.SameLog s) (hu : u.SameLog s) : (if c then t else u).SameLog s := by
  split
  · exact ht
  · exact hu

theorem sameLog_setPort (s : State) (p : Port) (h : HostPort) : (s.setPort p h).SameLog s := by
  cases p
  · exact ⟨rfl, rfl⟩
  · exact ⟨rfl, rfl⟩

theorem sameLog_setNvme (s : State) (p : Port) (n : Nvme) : (s.setNvme p n).SameLog s := sameLog_setPort s p _

theorem sameLog_send (s : State) (o : Out) : (s.send o).SameLog s := ⟨rfl, rfl⟩

theorem sameLog_console (s : State) (v : List Nat) : (s.console v).SameLog s := by
  unfold State.console
  exact .ite (sameLog_send s _) (.refl s)

theorem sameLog_msixOn (s : State) (p : Port) (v : Nat) : (s.msixOn p v).SameLog s := by
  unfold State.msixOn
  exact .ite (.ite (sameLog_send _ _) (sameLog_setPort s p _)) (.refl s)

theorem sameLog_msix (s : State) (v : Nat) : (s.msix v).SameLog s := (sameLog_msixOn s .a v).trans (sameLog_msixOn _ .b v)

theorem sameLog_cqePost (s : State) (p : Port) (id : CmdId) (st : NStat) (d : Nat) : (s.cqePost p id st d).SameLog s := by
  unfold State.cqePost
  extract_lets n qid outs errs
  split
  · exact sameLog_setNvme s p _
  next c _ =>
    extract_lets last c' s1 hs sm s2 s3
    have h1 : s1.SameLog s := sameLog_setNvme s p _
    have h2 : s2.SameLog s := .ite h1 (h1.trans ⟨rfl, rfl⟩)
    exact .ite ((h2.trans (sameLog_send _ _)).trans (sameLog_msixOn _ _ _)) (h2.trans (sameLog_send _ _))

theorem sameLog_asyncOn (s : State) (p : Port) (ty info page : Nat) : (s.asyncOn p ty info page).SameLog s := by
  unfold State.asyncOn
  refine .ite (.refl s) ?_
  split
  · exact (sameLog_setNvme s p _).trans (sameLog_cqePost _ _ _ _ _)
  · exact sameLog_setNvme s p _

theorem sameLog_async (s : State) (ty info page : Nat) : (s.async ty info page).SameLog s :=
  (sameLog_asyncOn s .a ty info page).trans (sameLog_asyncOn _ .b ty info page)

theorem sameLog_warnEvent (s : State) (p : Port) (bit : Nat) : (s.warnEvent p bit).SameLog s := by
  unfold State.warnEvent
  exact .ite (sameLog_asyncOn _ _ _ _ _) (.refl s)

theorem sameLog_foldl {α : Type} {f : State → α → State} (hf : ∀ (t : State) x, (f t x).SameLog t) (l : List α) (s : State) :
    (l.foldl f s).SameLog s := by
  induction l generalizing s with
  | nil => exact .refl s
  | cons x l ih => exact (hf s x).trans (ih _)

theorem sameLog_syncWarn (s : State) : s.syncWarn.SameLog s := by
  unfold State.syncWarn
  extract_lets w s1
  have h1 : s1.SameLog s := sameLog_foldl (fun t i => .ite ((sameLog_warnEvent t .a i).trans (sameLog_warnEvent _ .b i)) (.refl t)) _ s
  exact h1.trans ⟨rfl, rfl⟩

theorem State.SameLog.get (h : t.SameLog s) (f : Fld) : t.get f = s.get f := congrArg (fun m => mgetD m f.key f.rst) h.1

/-! Flags of the recorder that are raised. -/

theorem State.raise_evr (s : State) (e i : Fld) (v : Nat) : (s.raise e i v).evr = s.evr := by
  unfold State.raise
  split
  · rfl
  · dsimp only
    split
    · exact (sameLog_msix _ v).2
    · rfl

theorem State.raiseEvr_evr (s : State) (f : Fld) : (s.raiseEvr f).evr = s.evr := by
  unfold State.raiseEvr
  dsimp only
  split
  · exact (sameLog_async _ 7 0 0xC2).2.trans (s.raise_evr _ _ _)
  · exact s.raise_evr _ _ _

theorem State.get_raiseEvr_other (s : State) {f g : Fld} (h : g.key ≠ f.key) : (s.raiseEvr f).get g = s.get g := by
  unfold State.raiseEvr
  dsimp only
  split
  · exact ((sameLog_async _ 7 0 0xC2).get g).trans (State.get_raise_other _ _ h)
  · exact State.get_raise_other _ _ h

theorem State.flag_raiseEvr (s : State) {f : Fld} (hf : f.width = 1) : (s.raiseEvr f).flag f = true := by
  have hr : (s.raise f Reg.EVR_CTRL_INT_EN 62).flag f = true := by
    unfold State.raise
    split
    · assumption
    · dsimp only
      split
      · exact (congrArg (· == 1) ((sameLog_msix _ 62).get f)).trans (State.flag_put_one s f (by omega))
      · exact State.flag_put_one s f (by omega)
  unfold State.raiseEvr
  dsimp only
  split
  · exact (congrArg (· == 1) ((sameLog_async _ 7 0 0xC2).get f)).trans hr
  · exact hr

/-! The registers that an event writes. -/

/-- The recorder's registers that an event may write. -/
def eventFields : List Fld := [Reg.EVR_SEQ_NEXT, Reg.EVR_LAST_SOURCE, Reg.EVR_LAST_SEVERITY, Reg.EVR_LAST_CODE, Reg.EVR_LOST_DROPPED,
  Reg.EVR_LOST_OVERWRITTEN, Reg.EVR_STATUS_LOST_EV, Reg.EVR_STATUS_SEV_EV]

variable {g : Fld}

theorem ne_of_not_eventField (hg : g.key ∉ eventFields.map Fld.key) {f : Fld} (hf : f ∈ eventFields) : g.key ≠ f.key :=
  fun h => hg (List.mem_map.2 ⟨f, hf, h.symm⟩)

section
variable (hg : g.key ∉ eventFields.map Fld.key)
include hg

theorem State.get_dropRec_reg (s : State) : s.dropRec.get g = s.get g := by
  unfold State.dropRec
  rw [State.get_raiseEvr_other _ (ne_of_not_eventField hg (by simp [eventFields])),
    State.get_incSat_other _ (ne_of_not_eventField hg (by simp [eventFields]))]

theorem State.get_ringPut_reg (s : State) (e : EvRecord) (b : Bool) : (s.ringPut e b).get g = s.get g := by
  unfold State.ringPut
  split
  · exact State.get_dropRec_reg hg _
  · rfl
  · split
    · rfl
    · dsimp only
      split
      · rfl
      · rw [State.get_raiseEvr_other _ (ne_of_not_eventField hg (by simp [eventFields])),
          State.get_incSat_other _ (ne_of_not_eventField hg (by simp [eventFields]))]
        rfl

theorem State.get_storeRec_reg (s : State) (e : EvRecord) : (s.storeRec e).get g = s.get g := by
  unfold State.storeRec
  split
  · split
    · rfl
    · exact State.get_dropRec_reg hg _
  · split
    · split
      · rfl
      · exact State.get_dropRec_reg hg _
    · exact State.get_ringPut_reg hg _ _ _

theorem State.get_closeOpen_reg (s : State) (n : Nat) : (s.closeOpen n).get g = s.get g := by
  unfold State.closeOpen
  split
  · rfl
  · dsimp only
    split
    · split
      · exact State.get_storeRec_reg hg _ _
      · rfl
    · rfl

theorem State.get_openRec_reg (s : State) (a b c d : Nat) (w : List Nat × Bool) : (s.openRec a b c d w).get g = s.get g := by
  unfold State.openRec
  split
  · exact State.get_dropRec_reg hg _
  · extract_lets s0 e s1 src s2 s3 s4
    have h0 : s0.get g = s.get g := by
      simp only [s0]
      split
      · rfl
      · split
        · exact State.get_closeOpen_reg hg _ _
        · rfl
    have h1 : s1.get g = s0.get g := (State.get_storeRec_reg hg _ e).trans
      (State.get_put_other _ (ne_of_not_eventField hg (by simp [eventFields])))
    have h3 : s3.get g = s1.get g := by
      simp only [s3]
      rw [State.get_put_other _ (ne_of_not_eventField hg (by simp [eventFields])),
        State.get_put_other _ (ne_of_not_eventField hg (by simp [eventFields])),
        State.get_put_other _ (ne_of_not_eventField hg (by simp [eventFields]))]
      rfl
    have h4 : s4.get g = s3.get g := by
      simp only [s4]
      split
      · exact (sameLog_console s3 _).get g
      · rfl
    clear_value s4 s3 s1 s0
    have hend : s4.get g = s.get g := h4.trans (h3.trans (h1.trans h0))
    split
    · exact (State.get_raiseEvr_other _ (ne_of_not_eventField hg (by simp [eventFields]))).trans hend
    · exact hend

theorem State.get_submit_reg (s : State) (a b c d : Nat) (w : List Nat × Bool) : (s.submit a b c d w).get g = s.get g := by
  unfold State.submit
  split
  · split
    · rfl
    · exact State.get_openRec_reg hg _ _ _ _ _ _
  · rfl

theorem State.get_lostReport_reg (s : State) : s.lostReport.get g = s.get g := by
  unfold State.lostReport
  split
  · exact State.get_submit_reg hg _ _ _ _ _ _
  · rfl

theorem State.get_ev_reg (s : State) (b : Block) (code sev key : Nat) : (s.ev b code sev key).get g = s.get g :=
  (State.get_lostReport_reg hg _).trans (State.get_submit_reg hg s _ _ _ _ _)

end

/-! One event, one flush. -/

/-- A new record in normal mode, with room: it takes the next SEQ and joins the ring and the open records. -/
theorem State.openRec_joins {src code sev key : Nat} {snap : List Nat × Bool} (hmode : s.evrMode = 0)
    (hopens : s.evr.opens.length < 64) (hroom : s.evr.ring.length < 2048) :
    (s.openRec src code sev key snap).get Reg.EVR_SEQ_NEXT = (s.get Reg.EVR_SEQ_NEXT + 1) % 2 ^ Reg.EVR_SEQ_NEXT.width ∧
    ∃ e, (s.openRec src code sev key snap).evr = { s.evr with
        ring := s.evr.ring ++ [⟨e, decide (sev < s.get Reg.EVR_CFG_MIN_NOR_SEV), false⟩], opens := s.evr.opens ++ [⟨e, none⟩] } ∧
      e.seq = s.get Reg.EVR_SEQ_NEXT ∧ e.src = src ∧ e.code = code ∧ e.sev = sev ∧ e.key = key % 65536 ∧ e.rep = 0 ∧ e.snap = snap.1 := by
  have hstore : s.storeRoom sev = true := by simp [State.storeRoom, hmode, Recorder.victim, hroom]
  have hmode' (v : Nat) : (s.put Reg.EVR_SEQ_NEXT v).evrMode = 0 := (State.get_put_ne s v (by decide)).trans hmode
  unfold State.openRec
  rw [hstore, if_neg (by decide), if_pos hopens]
  extract_lets s0 e s1 r s2 s3 s4
  have hs1 : s1 = { s.put Reg.EVR_SEQ_NEXT (e.seq + 1) with evr := { s.evr with
      ring := s.evr.ring ++ [⟨e, decide (sev < s.get Reg.EVR_CFG_MIN_NOR_SEV), false⟩] } } := by
    refine (State.storeRec_normal (hmode' _) hroom e).trans ?_
    rw [State.get_put_other _ (by decide)]
    rfl
  have hs2 : s2.evr = { s.evr with
      ring := s.evr.ring ++ [⟨e, decide (sev < s.get Reg.EVR_CFG_MIN_NOR_SEV), false⟩], opens := s.evr.opens ++ [⟨e, none⟩] } := by
    have hm : s1.evrMode = 0 := by
      rw [hs1]
      exact hmode' _
    have he1 : s1.evr = { s.evr with ring := s.evr.ring ++ [⟨e, decide (sev < s.get Reg.EVR_CFG_MIN_NOR_SEV), false⟩] } := by rw [hs1]
    show ({ s1.evr with opens := s1.evr.opens ++ [OpenRec.mk e (if s1.evrMode = 2 then some 0 else none)] } : Recorder) = _
    rw [if_neg (by omega), he1]
  have hseq : s3.get Reg.EVR_SEQ_NEXT = (s.get Reg.EVR_SEQ_NEXT + 1) % 2 ^ Reg.EVR_SEQ_NEXT.width := by
    have h1 : s1.get Reg.EVR_SEQ_NEXT = (s.get Reg.EVR_SEQ_NEXT + 1) % 2 ^ Reg.EVR_SEQ_NEXT.width := by
      rw [hs1]
      exact State.get_put_same s _ _
    simp only [s3]
    rw [State.get_put_other _ (by decide), State.get_put_other _ (by decide), State.get_put_other _ (by decide)]
    exact h1
  have h4 : s4.SameLog s3 := .ite (sameLog_console s3 _) (.refl s3)
  have hevr : s4.evr = s2.evr := h4.2.trans rfl
  have hseq4 := (h4.get Reg.EVR_SEQ_NEXT).trans hseq
  split
  · rw [State.raiseEvr_evr, State.get_raiseEvr_other _ (by decide), hevr, hs2]
    exact ⟨hseq4, e, rfl, rfl, rfl, rfl, rfl, rfl, rfl, rfl⟩
  · rw [hevr, hs2]
    exact ⟨hseq4, e, rfl, rfl, rfl, rfl, rfl, rfl, rfl, rfl⟩

theorem Recorder.lostBySev_norAppend (r : Recorder) (e : EvRecord) (n : Nat) : (r.norAppend e n).lostBySev = r.lostBySev := by
  unfold Recorder.norAppend
  dsimp only
  split
  · split
    · rfl
    · split
      · rfl
      · rfl
  · split
    · rfl
    · rfl

/-- The one record of the ring goes to the journal, and further turns find nothing. -/
theorem State.norFlush_single {x : RingSlot} (hring : s.evr.ring = [x]) (hx : x.flushed = false) (hroom : s.evr.norRoom = true) (n : Nat) :
    ∃ v : Recorder, State.norFlush false (n + 1) s = { s with evr := v } ∧ v.ring = [{ x with flushed := true }] ∧
      v.lostBySev = s.evr.lostBySev ∧ ∃ c, v.sectors.getLast? = some c ∧ c.recs.getLast? = some x.evt := by
  obtain ⟨hr, c, hc, he⟩ := Recorder.norAppend_last hroom x.evt (s.get Reg.EVR_SEQ_NEXT)
  have hdone (t : State) (ht : t.evr.ring = [{ x with flushed := true }]) (n : Nat) : State.norFlush false n t = t := by
    induction n with
    | zero => rfl
    | succ n ih =>
      have hone : t.norFlushOne false = t := by simp [State.norFlushOne, findPlace, ht]
      rw [State.norFlush, hone, ih]
  have hone : s.norFlushOne false = { s with evr := (s.evr.norAppend x.evt (s.get Reg.EVR_SEQ_NEXT)).markFlushed 0 x.evt } := by
    simp [State.norFlushOne, findPlace, hring, hx, State.norReady, hroom]
  have hflushed : ((s.evr.norAppend x.evt (s.get Reg.EVR_SEQ_NEXT)).markFlushed 0 x.evt).ring = [{ x with flushed := true }] := by
    simp [Recorder.markFlushed, hr, hring, lupd]
  refine ⟨(s.evr.norAppend x.evt (s.get Reg.EVR_SEQ_NEXT)).markFlushed 0 x.evt, ?_, hflushed, ?_, c, hc, he⟩
  · rw [State.norFlush, hone]
    exact hdone _ hflushed n
  · exact Recorder.lostBySev_norAppend _ _ _

/-- A page of the black box's only block was written. -/
def State.bbPaged (s : State) (v : Recorder) : State :=
  (({ s with evr := v } : State).put Reg.EVR_BB_CURRENT 0).incSat Reg.EVR_BB_PAGES 1

/-- The one record of the ring goes to the black box's only block, which has room. -/
theorem State.bbFlush_single {x : RingSlot} {b : BBBlock} (hmode : s.evrMode = 1) (hring : s.evr.ring = [x]) (hx : x.flushed = false)
    (hbb : s.evr.bb = [b]) (hcur : s.get Reg.EVR_BB_CURRENT = 0) (hlen : b.pages.length < s.get Reg.GRT_GEOM_PAGES) :
    ∃ v g, s.bbFlush false = s.bbPaged v ∧ v.ring = [{ x with flushed := true }] ∧ v.lostBySev = s.evr.lostBySev ∧
      v.bb = [{ b with pages := b.pages ++ [g] }] ∧ g.recs = [x.evt] ∧ g.tail = false := by
  have htarget : s.bbTarget = some (0, false) := by
    simp [State.bbTarget, hcur, hbb, hlen]
  have hpage : s.bbPage false false [x.evt] = (s.bbPaged { s.evr with
      bb := [{ b with pages := b.pages ++ [⟨false, false, s.evr.pageSeq, s.get Reg.GRT_SESSION_SESSION, [x.evt]⟩] }]
      pageSeq := s.evr.pageSeq + 1 }, true) := by
    unfold State.bbPage
    rw [htarget]
    simp [hbb, lset, State.bbPaged]
  have hwait : (s.evr.ring.zipIdx.filter (fun y => !y.1.flushed)).take 256 = [(x, 0)] := by
    simp [hring, hx]
  refine ⟨({ s.evr with
      bb := [{ b with pages := b.pages ++ [⟨false, false, s.evr.pageSeq, s.get Reg.GRT_SESSION_SESSION, [x.evt]⟩] }]
      pageSeq := s.evr.pageSeq + 1 } : Recorder).markFlushed 0 x.evt,
    ⟨false, false, s.evr.pageSeq, s.get Reg.GRT_SESSION_SESSION, [x.evt]⟩, ?_, ?_, rfl, rfl, rfl, rfl⟩
  · unfold State.bbFlush
    rw [if_neg (by omega), hwait]
    simp only [List.map_cons, List.map_nil, Bool.or_false]
    rw [hpage]
    rfl
  · simp [Recorder.markFlushed, hring, lupd]

/-- What a change of the recorder's mode sets (R459–R464). -/
theorem State.enterMode_facts (s : State) (mode code : Nat) (hm : mode < 4) : (s.enterMode mode code).get Reg.EVR_MEM_MODE = mode ∧
    (s.enterMode mode code).flag Reg.EVR_MEM_CRIT = (mode == 3) ∧ (s.enterMode mode code).flag Reg.EVR_STATUS_MEM_EV = true ∧
    (s.enterMode mode code).flag Reg.GRT_STATUS_BB_ACTIVE = (mode == 1 || mode == 3) := by
  unfold State.enterMode
  extract_lets s1
  have hget (g : Fld) (hg : g.key ∉ eventFields.map Fld.key) : (((s1.raiseEvr Reg.EVR_STATUS_MEM_EV).ev .evr code 7 0).syncWarn).get g =
      (s1.raiseEvr Reg.EVR_STATUS_MEM_EV).get g := ((sameLog_syncWarn _).get g).trans (State.get_ev_reg hg _ _ _ _ _)
  have hflag (g : Fld) (hg : g.key ∉ eventFields.map Fld.key) : (((s1.raiseEvr Reg.EVR_STATUS_MEM_EV).ev .evr code 7 0).syncWarn).flag g =
      (s1.raiseEvr Reg.EVR_STATUS_MEM_EV).flag g := congrArg (· == 1) (hget g hg)
  refine ⟨?_, ?_, ?_, ?_⟩
  · rw [hget _ (by decide), State.get_raiseEvr_other _ (by decide)]
    simp only [s1]
    rw [State.get_putB_other _ (by decide), State.get_putB_other _ (by decide)]
    exact State.get_put_lt s _ hm
  · rw [hflag _ (by decide), show ∀ t : State, (t.raiseEvr Reg.EVR_STATUS_MEM_EV).flag Reg.EVR_MEM_CRIT = t.flag Reg.EVR_MEM_CRIT from
      fun t => congrArg (· == 1) (State.get_raiseEvr_other t (by decide))]
    simp only [s1]
    rw [State.flag_putB_other _ (by decide), State.flag_putB _ Reg.EVR_MEM_CRIT]
  · rw [hflag _ (by decide)]
    exact State.flag_raiseEvr _ rfl
  · rw [hflag _ (by decide), show ∀ t : State, (t.raiseEvr Reg.EVR_STATUS_MEM_EV).flag Reg.GRT_STATUS_BB_ACTIVE =
      t.flag Reg.GRT_STATUS_BB_ACTIVE from fun t => congrArg (· == 1) (State.get_raiseEvr_other t (by decide))]
    exact State.flag_putB _ _ _

/-! The ring while records go to the journal alone (R460). -/

theorem Recorder.ring_norAppend (r : Recorder) (e : EvRecord) (n : Nat) : (r.norAppend e n).ring = r.ring := by
  unfold Recorder.norAppend
  dsimp only
  split
  · split
    · rfl
    · split
      · rfl
      · rfl
  · split
    · rfl
    · rfl

theorem Recorder.ring_norMakeRoom (r : Recorder) (n : Nat) : (r.norMakeRoom n).ring = r.ring := by
  have hall (es : List EvRecord) (r : Recorder) : (es.foldl (fun t e => t.norAppend e n) r).ring = r.ring := by
    induction es generalizing r with
    | nil => rfl
    | cons e es ih => rw [List.foldl_cons, ih, Recorder.ring_norAppend]
  unfold Recorder.norMakeRoom
  split
  · rfl
  · split
    · rfl
    · exact hall _ _

theorem State.ring_norReady (s : State) : s.norReady.ring = s.evr.ring := by
  unfold State.norReady
  split
  · rfl
  · exact Recorder.ring_norMakeRoom _ _

/-- The recorder's memory has failed and its ring is empty. -/
def State.Ringless (s : State) : Prop := s.evrMode = 2 ∧ s.evr.ring = []

theorem State.Ringless.put (h : s.Ringless) {f : Fld} (hf : Reg.EVR_MEM_MODE.key ≠ f.key) (v : Nat) : (s.put f v).Ringless :=
  ⟨(State.get_put_other _ hf).trans h.1, h.2⟩

theorem State.Ringless.congr (h : s.Ringless) (ht : t.SameLog s) : t.Ringless :=
  ⟨(ht.get Reg.EVR_MEM_MODE).trans h.1, (congrArg Recorder.ring ht.2).trans h.2⟩

theorem State.Ringless.ite {c : Prop} [Decidable c] (ht : t.Ringless) (hu : u.Ringless) : (if c then t else u).Ringless := by
  split
  · exact ht
  · exact hu

theorem State.Ringless.raiseEvr (h : s.Ringless) {f : Fld} (hf : Reg.EVR_MEM_MODE.key ≠ f.key) : (s.raiseEvr f).Ringless :=
  ⟨(State.get_raiseEvr_other s hf).trans h.1, (congrArg Recorder.ring (s.raiseEvr_evr f)).trans h.2⟩

theorem State.Ringless.dropRec (h : s.Ringless) : s.dropRec.Ringless := by
  have hinc : (s.incSat Reg.EVR_LOST_DROPPED 1).Ringless := h.put (by decide) _
  exact hinc.raiseEvr (by decide)

theorem State.Ringless.storeRec (h : s.Ringless) (e : EvRecord) : (s.storeRec e).Ringless := by
  unfold State.storeRec
  rw [if_pos h.1]
  refine .ite ⟨h.1, ?_⟩ h.dropRec
  exact (Recorder.ring_norAppend _ _ _).trans (s.ring_norReady.trans h.2)

theorem State.Ringless.closeOpen (h : s.Ringless) (n : Nat) : (s.closeOpen n).Ringless := by
  unfold State.closeOpen
  split
  · exact h
  · dsimp only
    split
    · refine .ite (State.Ringless.storeRec ?_ _) ?_
      · exact ⟨h.1, h.2⟩
      · exact ⟨h.1, h.2⟩
    · exact ⟨h.1, h.2⟩

theorem State.Ringless.openRec (h : s.Ringless) (a b c d : Nat) (w : List Nat × Bool) : (s.openRec a b c d w).Ringless := by
  unfold State.openRec
  refine .ite (State.Ringless.dropRec ⟨h.1, h.2⟩) ?_
  extract_lets s0 e s1 src s2 s3 s4
  have h0 : s0.Ringless := by
    refine .ite h ?_
    split
    · exact h.closeOpen _
    · exact h
  have h1 : s1.Ringless := (h0.put (by decide) _).storeRec e
  have h2 : s2.Ringless := h1
  have h3 : s3.Ringless := ((h2.put (by decide) _).put (by decide) _).put (by decide) _
  have h4 : s4.Ringless := .ite (h3.congr (sameLog_console s3 _)) h3
  exact .ite (h4.raiseEvr (by decide)) h4

theorem State.Ringless.submit (h : s.Ringless) (a b c d : Nat) (w : List Nat × Bool) : (s.submit a b c d w).Ringless := by
  unfold State.submit
  refine .ite ?_ h
  split
  · exact ⟨h.1, by simp [State.coalesce, h.2]⟩
  · exact h.openRec _ _ _ _ _

theorem State.Ringless.ev (h : s.Ringless) (b : Block) (code sev key : Nat) : (s.ev b code sev key).Ringless := by
  have hsub : (s.submit b.source code sev key (s.defaultSnap b.source key)).Ringless := h.submit _ _ _ _ _
  show (s.submit b.source code sev key (s.defaultSnap b.source key)).lostReport.Ringless
  unfold State.lostReport
  refine .ite ?_ hsub
  dsimp only
  refine State.Ringless.submit ?_ _ _ _ _ _
  exact ⟨hsub.1, hsub.2⟩

/-- In the mode of a failed ring no record enters it. -/
theorem State.enterMode_keepsEmpty (code : Nat) (h : s.evr.ring = []) : (s.enterMode 2 code).evr.ring = [] := by
  have h1 : (((s.put Reg.EVR_MEM_MODE 2).putB Reg.EVR_MEM_CRIT (2 == 3)).putB Reg.GRT_STATUS_BB_ACTIVE (2 == 1 || 2 == 3)).Ringless := by
    refine ⟨?_, h⟩
    refine (State.get_putB_other _ (by decide)).trans ((State.get_putB_other _ (by decide)).trans ?_)
    exact State.get_put_lt s _ (by decide)
  have h2 := (h1.raiseEvr (f := Reg.EVR_STATUS_MEM_EV) (by decide)).ev .evr code 7 0
  exact (h2.congr (sameLog_syncWarn _)).2

/-- A ring that fails in normal mode is written out and given up (R460). -/
theorem State.ringFailed_normal (hmode : s.evrMode = 0) (lost : List Nat) :
    ∃ y : State, s.ringFailed lost = y.enterMode 2 0x6002 ∧ y.evr.ring = [] := by
  unfold State.ringFailed
  rw [if_pos (.inl hmode)]
  extract_lets kept r0 s1 gone xs r1 s2 left r2 s3 s4
  rw [if_pos hmode]
  refine ⟨s4, rfl, ?_⟩
  have h3 : s3.evr.ring = [] := rfl
  clear_value s3
  simp only [s4]
  split
  · exact h3
  · rw [State.raiseEvr_evr]
    exact h3

/-- With no clear in force nothing is erased (R470). -/
theorem State.clearErase_none (h : s.evr.clears = []) : s.clearErase = s := by
  have hhid : s.evr.hidden = fun _ => false := by
    funext e
    simp [Recorder.hidden, h]
  have hgone (es : List EvRecord) : (!es.isEmpty && es.all (fun e => s.evr.hidden e)) = false := by
    cases es with
    | nil => rfl
    | cons e es => simp [hhid]
  unfold State.clearErase
  dsimp only
  have hleft : s.evr.sectors.filter (fun x => !(!x.recs.isEmpty && x.recs.all (fun e => s.evr.hidden e))) = s.evr.sectors :=
    List.filter_eq_self.2 fun x _ => by rw [hgone]; rfl
  have hnone (bs : List (BBBlock × Nat)) : bs.filter (fun b => !b.1.recs.isEmpty && b.1.recs.all (fun e => s.evr.hidden e)) = [] :=
    List.filter_eq_nil_iff.2 fun b _ => by simp [hgone]
  rw [hnone, List.foldl_nil, hleft, Nat.sub_self, Nat.add_zero]
  exact ite_self s

end

end Sys2Proof.Machine
end

section
/-! PROOF. -/

open Sys2Proof Sys2Proof.Machine

/-- Settles O55: an event, a flush and a change of mode are followed through the recorder. -/
theorem recorderWork : Obligations.RecorderWork := by
  refine ⟨fun src code sev key w queued own s haon hport hnew hmode hopens hroom hlost => ?_,
    fun src code sev key queued own s haon hport => ?_, fun src code sev key w queued own o s haon hport hold hlost => ?_,
    fun seq o s hfind hun hwin => ?_, fun x s haon hmode hp hring hx hflush hroom hlost => ?_,
    fun x s haon hmode hp hring hx hflush => ?_, fun x s haon hmode hp hring hx => ?_,
    fun x b s hctrl hnand hmode hp hring hx hbb hcur hlen hlost => ?_, fun s haon hmode => ?_, fun s haon hmode => ?_,
    fun lost s haon hmode => ?_, fun r v s hv => ?_, fun s => ?_, fun s hctrl hclears => ?_⟩
  · have hsub : s.submit src code sev key (w :: own, false) = s.openRec src code sev key (w :: own, false) := by
      simp [State.submit, haon, hnew]
    obtain ⟨hseq, e, hevr, hfacts⟩ := State.openRec_joins (src := src) (code := code) (sev := sev) (key := key)
      (snap := (w :: own, false)) hmode hopens hroom
    have hgo : (if !s.domOn .aon then s else if !portEntry queued sev then s.dropRec
        else if (w :: own).isEmpty then s.event src code sev key else s.eventWith src code sev key (w :: own, false)) =
        s.openRec src code sev key (w :: own, false) := by
      rw [if_neg (by rw [haon]; decide), if_neg (by rw [hport]; decide), if_neg (by simp), State.eventWith, hsub,
        State.lostReport_of_none (by rw [hevr]; exact hlost)]
    have hfr : (s.openRec src code sev key (w :: own, false)).Frame s [] [] := frame_of_quiet (quiet_openRec s _ _ _ _ _) _ _
    generalize s.openRec src code sev key (w :: own, false) = x at hgo hseq hevr hfr
    refine runs_of_effect (congrArg (done s) hgo) ⟨hseq, hfr, e, ?_, ?_, hfacts⟩
      fun u q ⟨h1, hf, h2⟩ => ⟨h1, hf.finish q, h2⟩
    · rw [hevr]
    · rw [hevr]
  · have hgo : (if !s.domOn .aon then s else if !portEntry queued sev then s.dropRec
        else if own.isEmpty then s.event src code sev key else s.eventWith src code sev key (own, false)) = s.dropRec := by
      rw [if_neg (by rw [haon]; decide), if_pos (by rw [hport]; decide)]
    refine runs_of_effect (congrArg (done s) hgo) ⟨State.raiseEvr_evr _ _, State.flag_raiseEvr _ rfl, ?_, frame_of_quiet (quiet_dropRec s) _ _⟩
      fun u q ⟨h1, h2, h3, hf⟩ => ⟨h1, h2, h3, hf.finish q⟩
    exact (State.get_raiseEvr_other _ (by decide)).trans (State.get_incSat _ _ _)
  · have hsub : s.submit src code sev key (w :: own, false) = s.coalesce o := by
      simp [State.submit, haon, hold]
    have hgo : (if !s.domOn .aon then s else if !portEntry queued sev then s.dropRec
        else if (w :: own).isEmpty then s.event src code sev key else s.eventWith src code sev key (w :: own, false)) = s.coalesce o := by
      rw [if_neg (by rw [haon]; decide), if_neg (by rw [hport]; decide), if_neg (by simp), State.eventWith, hsub,
        State.lostReport_of_none (s := s.coalesce o) hlost]
    refine runs_of_effect (congrArg (done s) hgo) ⟨rfl, ⟨_, List.mem_map.2 ⟨o, List.mem_of_find?_eq_some hold, if_pos (by simp)⟩, rfl, rfl⟩,
      frame_of_quiet (quiet_coalesce s o) _ _⟩ fun u q ⟨h1, h2, hf⟩ => ⟨h1, h2, hf.finish q⟩
  · have hclose : s.closeOpen seq = { s with evr := { s.evr with opens := s.evr.opens.filter (fun x => x.evt.seq != seq) } } := by
      unfold State.closeOpen
      rw [hfind]
      dsimp only
      rw [hun]
    have hgo : exec (.recordWindowClose seq) s = done s (s.closeOpen seq) := by
      refine congrArg (done s) ?_
      rw [hfind]
      exact if_neg hwin
    rw [hclose] at hgo
    exact runs_of_effect hgo ⟨rfl, .withEvr (.refl _ _ _)⟩ fun u q ⟨h1, hf⟩ => ⟨h1, hf.finish q⟩
  · obtain ⟨v, hv, hvring, hvlost, hvlast⟩ := State.norFlush_single hring hx hroom 3
    have hun : s.evr.unflushed = 1 := by simp [Recorder.unflushed, hring, hx]
    have hgo : (if s.domOn .aon && s.evrMode == 0 && !s.evr.provisional && s.evr.unflushed != 0 then
        (if false then s.norFailed else if s.norFlushes then (State.norFlush false 4 s).lostReport else s)
        else if s.domOn .aon && s.evrMode == 2 && false then s.norFailed else s) = { s with evr := v } := by
      rw [if_pos (by rw [haon, hmode, hp, hun]; rfl), if_neg (by decide), if_pos hflush, hv]
      exact State.lostReport_of_none (by rw [show ({ s with evr := v } : State).evr = v from rfl, hvlost]; exact hlost)
    exact runs_of_effect (congrArg (done s) hgo) ⟨hvring, hvlast, .withEvr (.refl _ _ _)⟩
      fun u q ⟨h1, h2, hf⟩ => ⟨h1, h2, hf.finish q⟩
  · have hun : s.evr.unflushed = 1 := by simp [Recorder.unflushed, hring, hx]
    have hgo : (if s.domOn .aon && s.evrMode == 0 && !s.evr.provisional && s.evr.unflushed != 0 then
        (if false then s.norFailed else if s.norFlushes then (State.norFlush false 4 s).lostReport else s)
        else if s.domOn .aon && s.evrMode == 2 && false then s.norFailed else s) = s := by
      rw [if_pos (by rw [haon, hmode, hp, hun]; rfl), if_neg (by decide), if_neg (by rw [hflush]; decide)]
    exact runs_of_effect (congrArg (done s) hgo) ⟨rfl, .refl _ _ _⟩ fun u q ⟨h1, hf⟩ => ⟨h1, hf.finish q⟩
  · have hun : s.evr.unflushed = 1 := by simp [Recorder.unflushed, hring, hx]
    have hgo : (if s.domOn .aon && s.evrMode == 0 && !s.evr.provisional && s.evr.unflushed != 0 then
        (if true then s.norFailed else if s.norFlushes then (State.norFlush false 4 s).lostReport else s)
        else if s.domOn .aon && s.evrMode == 2 && true then s.norFailed else s) = s.enterMode 1 0x6001 := by
      rw [if_pos (by rw [haon, hmode, hp, hun]; rfl), if_pos rfl]
      exact if_pos hmode
    obtain ⟨hm, hcrit, -, hbb⟩ := s.enterMode_facts 1 0x6001 (by decide)
    generalize s.enterMode 1 0x6001 = y at hgo hm hcrit hbb
    exact runs_of_effect (congrArg (done s) hgo) ⟨hm, hbb, hcrit⟩ fun u q h => h
  · obtain ⟨v, g, hpage, hvring, hvlost, hvbb, hrecs, htail⟩ := State.bbFlush_single hmode hring hx hbb hcur hlen
    have hgo : (if s.domOn .ctrl && s.domOn .nand && (s.evrMode == 1 || s.evrMode == 3) && !s.evr.provisional then
        (if true then (s.bbFlush false).lostReport else s.bbFailed) else s) = s.bbPaged v := by
      rw [if_pos (by rw [hctrl, hnand, hmode, hp]; rfl), if_pos rfl, hpage]
      exact State.lostReport_of_none (by rw [show (s.bbPaged v).evr = v from rfl, hvlost]; exact hlost)
    refine runs_of_effect (congrArg (done s) hgo) ⟨hvring, ?_, g, hvbb, hrecs, htail⟩ fun u q ⟨h1, hf, h2⟩ => ⟨h1, hf.finish q, h2⟩
    have hput := (quiet_evr s v).trans (quiet_put _ Reg.EVR_BB_CURRENT 0 (by unfold OffEvr; decide))
    exact frame_of_quiet (hput.trans (quiet_incSat _ Reg.EVR_BB_PAGES 1 (by unfold OffEvr; decide))) _ _
  · have hgo : (if s.domOn .aon then s.norFailed else s) = s.enterMode 1 0x6001 := (if_pos haon).trans (if_pos hmode)
    obtain ⟨hm, hcrit, hev, -⟩ := s.enterMode_facts 1 0x6001 (by decide)
    generalize s.enterMode 1 0x6001 = y at hgo hm hcrit hev
    exact runs_of_effect (congrArg (done s) hgo) ⟨hm, hev, hcrit⟩ fun u q h => h
  · have hgo : (if s.domOn .aon then s.norFailed else s) = s.enterMode 3 0x6003 :=
      (if_pos haon).trans ((if_neg (by omega)).trans (if_pos hmode))
    obtain ⟨hm, hcrit, -, -⟩ := s.enterMode_facts 3 0x6003 (by decide)
    generalize s.enterMode 3 0x6003 = y at hgo hm hcrit
    refine runs_of_done (congrArg (done s) hgo) ⟨hm, hcrit, ?_⟩
    have hc : ({ y with pending := s.pending } : State).flag Reg.EVR_MEM_CRIT = true := hcrit
    show ({ y with pending := s.pending } : State).alertPin = true
    simp [State.alertPin, hc]
  · obtain ⟨y, hfail, hring⟩ := State.ringFailed_normal hmode lost
    have hgo : (if s.domOn .aon then s.ringFailed lost else s) = y.enterMode 2 0x6002 := (if_pos haon).trans hfail
    obtain ⟨hm, -, hev, -⟩ := y.enterMode_facts 2 0x6002 (by decide)
    have hempty := State.enterMode_keepsEmpty 0x6002 hring
    generalize y.enterMode 2 0x6002 = z at hgo hm hev hempty
    exact runs_of_effect (congrArg (done s) hgo) ⟨hm, hempty, hev⟩ fun u q h => h
  · have hgo : exec (.viewExpiry r) s = done s (s.closeView v) := by
      refine congrArg (done s) ?_
      rw [hv]
    exact runs_of_effect hgo ⟨rfl, .withEvr (.refl _ _ _)⟩ fun u q ⟨h1, hf⟩ => ⟨h1, hf.finish q⟩
  · exact runs_of_effect (t := { s with evr := { s.evr with challenge := none } }) rfl ⟨rfl, .withEvr (.refl _ _ _)⟩
      fun u q ⟨h1, hf⟩ => ⟨h1, hf.finish q⟩
  · have hgo : (if s.domOn .ctrl then s.scanDone else s) = s.put Reg.EVR_STATUS_SCAN_DONE 1 :=
      (if_pos hctrl).trans (State.clearErase_none (s := s.put Reg.EVR_STATUS_SCAN_DONE 1) hclears)
    exact runs_of_effect (congrArg (done s) hgo) ⟨State.flag_put_one s _, rfl, frame_of_quiet (quiet_put s _ _ (by unfold OffEvr; decide)) _ _⟩
      fun u q ⟨h1, h2, hf⟩ => ⟨h1, h2, hf.finish q⟩

end
